-- ==== Sys2Proof/Word.lean ====
section
/-! DEFINITION. The machine word of the Exine engines and of the block registers (R3, R59): 32 bits, and the 64-bit
time and position values of R76. -/

namespace Sys2Proof

/-- A general register, a block-register word (R3, R59). -/
abbrev Word := BitVec 32

/-- A time or position register (R59, R76). -/
abbrev Word64 := BitVec 64

/-- A byte of an addressed memory (R9). -/
abbrev Byte := BitVec 8

end Sys2Proof
end

