-- ==== Sys2Proof/Syntax.lean ====
section
/-! DEFINITION. The commands of the block: one constructor for each row of spec/opcode_table.json, with the row's operands.
An Exine instruction names the physical engine `p` (R117) that runs it and carries the fields of its word (R66); an event of
a unit names the unit; what comes from outside (a level, a sample, the bytes of host memory) is an operand; a command of the host names the fields
of the ring entry that it is (R125 to R129). -/

namespace Sys2Proof

/-- What the common part of a command-ring entry says (R125): TAG, whether FLAGS is as the command permits, and whether every
unused argument byte is 0. -/
structure CmdHead where
  tag : Nat
  flagsOk : Bool
  argsOk : Bool
  deriving DecidableEq, Repr

/-- A plane entry of a sheet-queue slot (R129); `zerosOk` says that its zero bytes are 0. -/
structure PlaneEntry where
  station : Nat
  format : Nat
  res : Nat
  lines : Nat
  width : Nat
  length : Nat
  hostAddr : Nat
  crc : Nat
  zerosOk : Bool
  deriving DecidableEq, Repr

/-- A sheet-queue slot (R128): its header and its plane entries. -/
structure SheetSlot where
  seq : Nat
  pitch : Nat
  nplane : Nat
  hostTag : Nat
  zerosOk : Bool
  planes : List PlaneEntry
  deriving DecidableEq, Repr

/-- The fields of the payload of a hand-off frame (R24). -/
structure HoFrame where
  version : Nat
  typ : Nat
  from_ : Nat
  to_ : Nat
  epoch : Nat
  hnum : Nat
  seq : Nat
  time : Nat
  resync : Bool
  status : Nat
  deriving DecidableEq, Repr

/-- A frame of the network as the hand-off uses it (R23): the destination address, the EtherType and the payload. -/
structure EthFrame where
  dst : Nat
  etherType : Nat
  payload : List Byte
  deriving DecidableEq, Repr

/-- A unit that can fail hard (R13, R14): a sequencer or loop engine by its physical number p (R117), an imaging pipeline
(0 to 6), a head-link lane of a station, a drive channel, an axis, a high-voltage output or a fuser output. -/
inductive UnitId
  | engine (p : Nat)
  | pipeline (p : Nat)
  | lane (n l : Nat)
  | drv (n : Nat)
  | axs (n : Nat)
  | hvo (k : Nat)
  | fus (f : Nat)
  deriving DecidableEq, Repr

/-- What a read of a head's status target found (R263, R264): CAUSE, the error count of each physical lane, BAD_LINE, the
failed emitters read from FAIL_NEXT, and FAULT_CODE. -/
structure HeadStat where
  cause : Nat
  lanes : List Nat
  badLine : Nat
  fails : List Nat
  faultCode : Nat
  deriving DecidableEq, Repr

/-- An edge of a station's SOS or EOS input (R229, R232): whether it falls, for how many pixel clocks the level stays after it, its time in 1/64
pixel clock after the facet's SOS time, and how many 64ths of a TB cycle before the present tick it came. -/
structure LightEdge where
  falling : Bool
  width : Nat
  iv : Nat
  frac : Nat
  deriving DecidableEq, Repr

/-- What a drive channel's valley finds (R275, R281): the codes of IA, IB, VDC, VU, VV and VW, and the observer's angle, speed in
Q15.16 rev/s and residual. -/
structure DrvSample where
  ia : Nat
  ib : Nat
  vdc : Nat
  vu : Nat
  vv : Nat
  vw : Nat
  obsAngle : Nat
  obsSpeed : Int
  obsResid : Nat
  deriving DecidableEq, Repr

/-- A PTP message that the MAC of a port has received (R357 to R360): a Sync exchange completed with the chosen master, with the MAC's receive
stamp and the master's transmit time in ns; an Announce after which the best master clock algorithm chooses this instance or another clock as
grandmaster; a response to a delay request; a message that this instance ignores. -/
inductive PtpRx
  | sync (stamp origin : Int)
  | announce (self : Bool)
  | delayResp (delay : Nat)
  | ignored
  deriving DecidableEq, Repr

/-- What the diode converter delivers (R423, R426): a good reading in 0.01 °C, or a reading that fails its check with the cause
1 open, 2 short or 3 out of range and the value it shows. -/
inductive Diode
  | good (temp : Int)
  | bad (cause : Nat) (shown : Int)
  deriving DecidableEq, Repr

/-- A frame of the recovery paths (R443): its path (1 UDP, 2 UART), SEQ, OFFSET, and up to 1,024 data bytes. -/
structure RecFrame where
  path : Nat
  seq : Nat
  offset : Nat
  data : List Byte
  deriving DecidableEq, Repr

/-- The instructions of the TAP (R478): the four it accepts, and any other. -/
inductive TapOp | idcode | bypass | samplePreload | extest | other
  deriving DecidableEq, Repr

/-- One constructor for each row of the table of operations and events. -/
inductive Instr
  /-- REGISTER_WRITE (R6). -/
  | registerWrite (addr : Nat) (size : Nat) (value : BitVec 64)
  /-- ADD (R69). -/
  | add (p : Nat) (f : Bool) (d a b : BitVec 5)
  /-- SUB (R69). -/
  | sub (p : Nat) (f : Bool) (d a b : BitVec 5)
  /-- ADDS (R69). -/
  | adds (p : Nat) (f : Bool) (d a b : BitVec 5)
  /-- SUBS (R69). -/
  | subs (p : Nat) (f : Bool) (d a b : BitVec 5)
  /-- ADC (R69). -/
  | adc (p : Nat) (f : Bool) (d a b : BitVec 5)
  /-- SBC (R69). -/
  | sbc (p : Nat) (f : Bool) (d a b : BitVec 5)
  /-- AND (R69). -/
  | andR (p : Nat) (f : Bool) (d a b : BitVec 5)
  /-- OR (R69). -/
  | orR (p : Nat) (f : Bool) (d a b : BitVec 5)
  /-- XOR (R69). -/
  | xorR (p : Nat) (f : Bool) (d a b : BitVec 5)
  /-- ANDN (R69). -/
  | andn (p : Nat) (f : Bool) (d a b : BitVec 5)
  /-- SHL (R69). -/
  | shl (p : Nat) (f : Bool) (d a b : BitVec 5)
  /-- SHR (R69). -/
  | shr (p : Nat) (f : Bool) (d a b : BitVec 5)
  /-- SAR (R69). -/
  | sar (p : Nat) (f : Bool) (d a b : BitVec 5)
  /-- ROR (R69). -/
  | ror (p : Nat) (f : Bool) (d a b : BitVec 5)
  /-- MIN (R69). -/
  | minS (p : Nat) (f : Bool) (d a b : BitVec 5)
  /-- MAX (R69). -/
  | maxS (p : Nat) (f : Bool) (d a b : BitVec 5)
  /-- MINU (R69). -/
  | minu (p : Nat) (f : Bool) (d a b : BitVec 5)
  /-- MAXU (R69). -/
  | maxu (p : Nat) (f : Bool) (d a b : BitVec 5)
  /-- SLT (R69). -/
  | slt (p : Nat) (f : Bool) (d a b : BitVec 5)
  /-- SLTU (R69). -/
  | sltu (p : Nat) (f : Bool) (d a b : BitVec 5)
  /-- MUL (R70). -/
  | mul (p : Nat) (f : Bool) (d a b : BitVec 5)
  /-- MULH (R70). -/
  | mulh (p : Nat) (f : Bool) (d a b : BitVec 5)
  /-- MULHU (R70). -/
  | mulhu (p : Nat) (f : Bool) (d a b : BitVec 5)
  /-- MULQ (R70). -/
  | mulq (p : Nat) (f : Bool) (d a b : BitVec 5)
  /-- MACQ (R70). -/
  | macq (p : Nat) (f : Bool) (d a b : BitVec 5)
  /-- DIV (R71). -/
  | div (p : Nat) (f : Bool) (d a b : BitVec 5)
  /-- DIVU (R71). -/
  | divu (p : Nat) (f : Bool) (d a b : BitVec 5)
  /-- REM (R71). -/
  | rem (p : Nat) (f : Bool) (d a b : BitVec 5)
  /-- REMU (R71). -/
  | remu (p : Nat) (f : Bool) (d a b : BitVec 5)
  /-- NEG (R72). -/
  | neg (p : Nat) (f : Bool) (d a : BitVec 5)
  /-- NEGS (R72). -/
  | negs (p : Nat) (f : Bool) (d a : BitVec 5)
  /-- ABS (R72). -/
  | absS (p : Nat) (f : Bool) (d a : BitVec 5)
  /-- NOT (R72). -/
  | notR (p : Nat) (f : Bool) (d a : BitVec 5)
  /-- CLZ (R72). -/
  | clz (p : Nat) (f : Bool) (d a : BitVec 5)
  /-- POPC (R72). -/
  | popc (p : Nat) (f : Bool) (d a : BitVec 5)
  /-- SEXTB (R72). -/
  | sextb (p : Nat) (f : Bool) (d a : BitVec 5)
  /-- SEXTH (R72). -/
  | sexth (p : Nat) (f : Bool) (d a : BitVec 5)
  /-- ZEXTB (R72). -/
  | zextb (p : Nat) (f : Bool) (d a : BitVec 5)
  /-- ZEXTH (R72). -/
  | zexth (p : Nat) (f : Bool) (d a : BitVec 5)
  /-- BSWAP (R72). -/
  | bswap (p : Nat) (f : Bool) (d a : BitVec 5)
  /-- ADDI (R68). -/
  | addi (p : Nat) (d a : BitVec 5) (imm : BitVec 16)
  /-- ANDI (R68). -/
  | andi (p : Nat) (d a : BitVec 5) (imm : BitVec 16)
  /-- ORI (R68). -/
  | ori (p : Nat) (d a : BitVec 5) (imm : BitVec 16)
  /-- XORI (R68). -/
  | xori (p : Nat) (d a : BitVec 5) (imm : BitVec 16)
  /-- LUI (R68). -/
  | lui (p : Nat) (d : BitVec 5) (imm : BitVec 16)
  /-- SHI (R68). -/
  | shi (p : Nat) (d a : BitVec 5) (kind : BitVec 2) (n : BitVec 5)
  /-- CMPI (R61). -/
  | cmpi (p : Nat) (a : BitVec 5) (imm : BitVec 16)
  /-- LDW (R63). -/
  | ldw (p : Nat) (d a : BitVec 5) (imm : BitVec 16)
  /-- LDH (R63). -/
  | ldh (p : Nat) (d a : BitVec 5) (imm : BitVec 16)
  /-- LDHU (R63). -/
  | ldhu (p : Nat) (d a : BitVec 5) (imm : BitVec 16)
  /-- LDB (R63). -/
  | ldb (p : Nat) (d a : BitVec 5) (imm : BitVec 16)
  /-- LDBU (R63). -/
  | ldbu (p : Nat) (d a : BitVec 5) (imm : BitVec 16)
  /-- STW (R63). -/
  | stw (p : Nat) (d a : BitVec 5) (imm : BitVec 16)
  /-- STH (R63). -/
  | sth (p : Nat) (d a : BitVec 5) (imm : BitVec 16)
  /-- STB (R63). -/
  | stb (p : Nat) (d a : BitVec 5) (imm : BitVec 16)
  /-- IOR (R73). -/
  | ior (p : Nat) (d a : BitVec 5) (imm : BitVec 16)
  /-- IOW (R73). -/
  | iow (p : Nat) (d a : BitVec 5) (imm : BitVec 16)
  /-- BC (R74). -/
  | bc (p : Nat) (cond : BitVec 4) (off : BitVec 22)
  /-- BL (R75). -/
  | bl (p : Nat) (off : BitVec 26)
  /-- JALR (R75). -/
  | jalr (p : Nat) (d a : BitVec 5) (imm : BitVec 16)
  /-- TGET (R77). -/
  | tget (p : Nat) (td : BitVec 2)
  /-- PGET (R77). -/
  | pget (p : Nat) (td : BitVec 2) (stn : BitVec 3)
  /-- TADD (R77). -/
  | tadd (p : Nat) (td ta : BitVec 2) (b : BitVec 5)
  /-- TSUB (R77). -/
  | tsub (p : Nat) (td ta tb : BitVec 2)
  /-- TDIF (R77). -/
  | tdif (p : Nat) (f : Bool) (d : BitVec 5) (ta tb : BitVec 2)
  /-- TLO (R77). -/
  | tlo (p : Nat) (d : BitVec 5) (ta : BitVec 2)
  /-- THI (R77). -/
  | thi (p : Nat) (d : BitVec 5) (ta : BitVec 2)
  /-- TSET (R77). -/
  | tset (p : Nat) (td : BitVec 2) (a b : BitVec 5)
  /-- TMOV (R77). -/
  | tmov (p : Nat) (td ta : BitVec 2)
  /-- TCMP (R77). -/
  | tcmp (p : Nat) (ta tb : BitVec 2)
  /-- TREF (R77). -/
  | tref (p : Nat) (td : BitVec 2)
  /-- TSREF (R77). -/
  | tsref (p : Nat) (ta : BitVec 2)
  /-- TADDI (R78). -/
  | taddi (p : Nat) (td ta : BitVec 2) (scale : BitVec 2) (imm : BitVec 20)
  /-- AT (R80). -/
  | atTime (p : Nat) (ta : BitVec 2) (l : Bool)
  /-- AFTER (R80). -/
  | after (p : Nat) (scale : BitVec 2) (a : BitVec 5) (l : Bool)
  /-- ONPOS (R80). -/
  | onpos (p : Nat) (ta : BitVec 2) (stn : BitVec 3) (l : Bool)
  /-- EVWAIT (R82). -/
  | evwait (p : Nat) (a : BitVec 5) (l : Bool)
  /-- WAIT_END (R80). -/
  | waitEnd (task : Nat)
  /-- WAIT_LIMIT (R81). -/
  | waitLimit (task : Nat)
  /-- SEND (R85). -/
  | send (p : Nat) (d a : BitVec 5) (l x nb : Bool) (ch : BitVec 8)
  /-- RECV (R85). -/
  | recv (p : Nat) (d a : BitVec 5) (l x nb : Bool) (ch : BitVec 8)
  /-- CHCNT (R84). -/
  | chcnt (p : Nat) (d a : BitVec 5) (x : Bool) (ch : BitVec 8)
  /-- MESSAGE_WAIT_END (R86). -/
  | messageWaitEnd (task : Nat)
  /-- YIELD (R87). -/
  | yieldI (p : Nat)
  /-- DONE (R60). -/
  | doneI (p : Nat)
  /-- CKPT (R87). -/
  | ckpt (p : Nat)
  /-- BKPT (R87). -/
  | bkpt (p : Nat)
  /-- TID (R87). -/
  | tid (p : Nat) (d : BitVec 5)
  /-- FAULT (R88). -/
  | faultI (p : Nat) (a : BitVec 5) (kind : BitVec 6)
  /-- DCALL_LOG (R89). -/
  | dcallLog (p : Nat)
  /-- DCALL_SET_GET (R89). -/
  | dcallSetGet (p : Nat)
  /-- DCALL_SET_PUT (R89). -/
  | dcallSetPut (p : Nat)
  /-- DCALL_HEAD_READ (R89). -/
  | dcallHeadRead (p : Nat)
  /-- DCALL_HOST_EVENT (R89). -/
  | dcallHostEvent (p : Nat)
  /-- DCALL_SEG_INFO (R89). -/
  | dcallSegInfo (p : Nat)
  /-- DCALL_UNKNOWN (R89). -/
  | dcallUnknown (p : Nat) (svc : BitVec 16)
  /-- DCALL_REPLY (R89). -/
  | dcallReply (task : Nat) (err : Bool) (data : List Byte)
  /-- LRUN (R327). -/
  | lrun (p : Nat) (n : BitVec 6)
  /-- ILLEGAL (R67). -/
  | illegal (p : Nat) (w : BitVec 32)
  /-- BUDGET_EXCEEDED (R103). -/
  | budgetExceeded (task : Nat)
  /-- DEADLINE_MISSED (R103). -/
  | deadlineMissed (task : Nat)
  /-- PERIOD_RELEASE (R101). -/
  | periodRelease (task : Nat)
  /-- TASK_DISPATCH (R104). -/
  | taskDispatch (p : Nat)
  /-- TRAP_RESTART (R109). -/
  | trapRestart (task : Nat)
  /-- TASK_RESTART_CHECKPOINT (R109). -/
  | taskRestartCheckpoint (task : Nat)
  /-- TASK_RESTART_ENTRY (R109). -/
  | taskRestartEntry (task : Nat)
  /-- TASK_STOP (R110). -/
  | taskStop (task : Nat)
  /-- BOUNDARY_MOVE (R114). -/
  | boundaryMove (p : Nat)
  /-- UNIT_HARD_FAIL (R14). -/
  | unitHardFail (u : UnitId) (kind detail : Nat)
  /-- FLIT_RESEND (R19). -/
  | flitResend (dir : Nat) (same : Bool)
  /-- PACKAGE_FAULT (R21). -/
  | packageFault
  /-- HANDOFF_SEND (R25). -/
  | handoffSend (rcv : Nat)
  /-- HANDOFF_FRAME_RX (R23). -/
  | handoffFrameRx (port : Nat) (e : EthFrame)
  /-- HANDOFF_ACK_RX (R23). -/
  | handoffAckRx (e : EthFrame)
  /-- HANDOFF_RESEND (R23). -/
  | handoffResend (rcv : Nat)
  /-- HANDOFF_LOST (R23). -/
  | handoffLost (rcv : Nat)
  /-- HO_RX_READ (R25). -/
  | hoRxRead
  /-- RUN_START (R30). -/
  | runStart (h : CmdHead) (seq : Nat)
  /-- RUN_END (R33). -/
  | runEnd (h : CmdHead)
  /-- SHEET_SUBMIT (R130). -/
  | sheetSubmit (h : CmdHead) (seq : Nat) (slot : SheetSlot)
  /-- SHEET_RELOAD (R130). -/
  | sheetReload (h : CmdHead) (seq : Nat) (slot : SheetSlot)
  /-- SHEET_WITHDRAW (R36). -/
  | sheetWithdraw (h : CmdHead) (seq : Nat)
  /-- STATUS_QUERY (R126). -/
  | statusQuery (h : CmdHead)
  /-- HOST_ACKNOWLEDGE (R32). -/
  | hostAcknowledge (h : CmdHead) (ack : Nat)
  /-- ENGINE_CALL (R126). -/
  | engineCall (h : CmdHead) (task w1 w2 w3 w4 : Nat)
  /-- UPDATE_STAGE (R435). -/
  | updateStage (h : CmdHead) (addr len token : Nat) (hostErr : Bool) (image : List Byte)
  /-- UPDATE_ACTIVATE (R438). -/
  | updateActivate (h : CmdHead)
  /-- UPDATE_CONFIRM (R439). -/
  | updateConfirm (h : CmdHead)
  /-- UPDATE_REVERT (R439). -/
  | updateRevert (h : CmdHead)
  /-- RECORD_EXPORT (R449). -/
  | recordExport (h : CmdHead) (addr len off : Nat) (hostErr : Bool)
  /-- UNKNOWN (R127). -/
  | unknownCmd (h : CmdHead) (opcode : Nat)
  /-- COMMAND_DOORBELL (R124). -/
  | commandDoorbell (tail : Nat)
  /-- EVENT_HEAD_WRITE (R134). -/
  | eventHeadWrite (head : Nat)
  /-- HIF_ENABLE (R137). -/
  | hifEnable
  /-- RESYNC (R137). -/
  | resync
  /-- RESYNC_SHEET_STATE (R137). -/
  | resyncSheetState
  /-- MSIX_HOLDOFF_END (R138). -/
  | msixHoldoffEnd
  /-- STATUS_MIRROR_REWRITE (R123). -/
  | statusMirrorRewrite
  /-- LINK_DOWN (R119). -/
  | linkDown
  /-- HOT_RESET (R119). -/
  | hotReset
  /-- FUNCTION_LEVEL_RESET (R119). -/
  | functionLevelReset
  /-- D3HOT_ENTRY (R119). -/
  | d3hotEntry
  /-- PCIE_PERST (R386). -/
  | pciePerst
  /-- BUS_MASTER_ENABLE (R133). -/
  | busMasterEnable
  /-- PLANE_ALLOCATE (R154). -/
  | planeAllocate
  /-- DMA_DOORBELL (R142). -/
  | dmaDoorbell (n : Nat) (tail : Nat)
  /-- DMA_RESUME (R144). -/
  | dmaResume (n : Nat)
  /-- DMA_SKIP (R144). -/
  | dmaSkip (n : Nat)
  /-- DMA_DESCRIPTOR_COMPLETE (R143). -/
  | dmaDescriptorComplete (n : Nat) (hostBytes : List Byte)
  /-- DMA_HALT (R144). -/
  | dmaHalt (n : Nat) (err : Nat) (done : Nat)
  /-- ADMISSION_DECISION (R37). -/
  | admissionDecision
  /-- SHEET_LOCK (R41). -/
  | sheetLock (seq : Nat)
  /-- SHEET_COMMIT (R36). -/
  | sheetCommit (seq : Nat)
  /-- SHEET_TRANSFERRED (R36). -/
  | sheetTransferred (seq : Nat)
  /-- DECLARE_FUSED (R56). -/
  | declareFused
  /-- DECLARE_DELIVERED (R56). -/
  | declareDelivered
  /-- DECLARE_JAM (R56). -/
  | declareJam
  /-- JOURNAL_PAGE_PROGRAMMED (R44). -/
  | journalPageProgrammed (good : List Bool)
  /-- JOURNAL_BLOCK_ERASED (R48). -/
  | journalBlockErased
  /-- COMPACT_NOW (R49). -/
  | compactNow
  /-- IDLE_COMPACT (R49). -/
  | idleCompact
  /-- DEGRADED_EXIT (R55). -/
  | degradedExit
  /-- SCRUB_WALK_STEP (R163). -/
  | scrubWalkStep (c : Nat) (k : Nat) (err : Nat) (word : Nat)
  /-- RANGE_PASS_GO (R164). -/
  | rangePassGo
  /-- RANGE_PASS_DONE (R164). -/
  | rangePassDone (errs : List (Nat × Nat))
  /-- LEAK_TICK (R165). -/
  | leakTick (c : Nat)
  /-- REMAP_LINE (R166). -/
  | remapLine
  /-- REMAP_REMOVE (R166). -/
  | remapRemove
  /-- MERGE_WRITEBACK (R158). -/
  | mergeWriteback (line : Nat)
  /-- MR4_READ (R150). -/
  | mr4Read (ch : Nat) (mr4 : Nat) (high : Bool)
  /-- BACKED_REFETCH_DONE (R161). -/
  | backedRefetchDone (n : Nat) (table : Nat) (uncorr : Bool)
  /-- CODE_REFETCH_DONE (R160). -/
  | codeRefetchDone (p : Nat)
  /-- REPAIR_SAVE (R167). -/
  | repairSave
  /-- RSV_WRITE (R157). -/
  | rsvWrite (pipe : Nat) (v : Nat)
  /-- TILE_DECODE (R179). -/
  | tileDecode (n : Nat)
  /-- TABLE_LOAD (R196). -/
  | tableLoad (n : Nat) (table : Nat)
  /-- TABLE_PATCH (R198). -/
  | tablePatch (n : Nat) (table : Nat)
  /-- LOAD_DONE (R196). -/
  | loadDone (n : Nat) (uncorr : Bool)
  /-- STNX_MOVE (R201). -/
  | stnxMove (n : Nat)
  /-- STNX_RETURN (R206). -/
  | stnxReturn
  /-- MOVED (R201). -/
  | moved
  /-- ENCODER_COUNT (R207). -/
  | encoderCount (up : Bool)
  /-- INDEX (R211). -/
  | indexZ (ab : Bool)
  /-- ENC_LOST (R212). -/
  | encLost (cause : Nat)
  /-- PPOS_ENABLE (R207). -/
  | pposEnable (en : Bool)
  /-- PPOS_ENC_LOST_CLEAR (R212). -/
  | pposEncLostClear (persists : Bool)
  /-- PPOS_OFFSET_WRITE (R210). -/
  | pposOffsetWrite (n : Nat) (hi : BitVec 32)
  /-- FACET_BOUNDARY (R214). -/
  | facetBoundary (n : Nat) (e : LightEdge × Int) (margin : Nat)
  /-- SOS_MISS (R230). -/
  | sosMiss (n : Nat) (back : Int) (margin : Nat)
  /-- EOS_EDGE (R232). -/
  | eosEdge (n : Nat) (e : LightEdge)
  /-- EOS_MISS (R232). -/
  | eosMiss (n : Nat)
  /-- PIX_UNLOCK (R219). -/
  | pixUnlock (n : Nat) (ref : Bool)
  /-- PIX_LOCK (R219). -/
  | pixLock (n : Nat)
  /-- SCAN_ENABLE (R261). -/
  | scanEnable (n : Nat)
  /-- LINE_BOUNDARY (R244). -/
  | lineBoundary (n : Nat) (margin : Nat)
  /-- BAR_ENABLE (R261). -/
  | barEnable (n : Nat)
  /-- HREC_READ (R261). -/
  | hrecRead (n : Nat)
  /-- HREC_DONE (R261). -/
  | hrecDone (n : Nat) (rec : Option (List Byte))
  /-- HEAD_STATUS_READ (R264). -/
  | headStatusRead (n : Nat) (st : Option HeadStat)
  /-- DEF_ADD (R265). -/
  | defAdd (n : Nat) (emitter : Nat)
  /-- TH_STALE (R267). -/
  | thStale (n : Nat)
  /-- HOT_CLEAR (R270). -/
  | hotClear (n : Nat)
  /-- DRV_VALLEY (R275). -/
  | drvValley (n : Nat) (x : DrvSample)
  /-- DRV_ENCODER_COUNT (R278). -/
  | drvEncoderCount (n : Nat) (up : Bool)
  /-- DRV_INDEX (R284). -/
  | drvIndex (n : Nat)
  /-- DRV_ENC_LOST (R287). -/
  | drvEncLost (n : Nat) (cause : Nat)
  /-- DRV_START (R282). -/
  | drvStart (n : Nat)
  /-- DRV_STOP (R282). -/
  | drvStop (n : Nat)
  /-- DRV_DISABLE (R282). -/
  | drvDisable (n : Nat)
  /-- CATCH_TIMEOUT (R285). -/
  | catchTimeout (n : Nat) (emf : Int)
  /-- ALIGN_TIMEOUT (R282). -/
  | alignTimeout (n : Nat)
  /-- RAMP_TIMEOUT (R282). -/
  | rampTimeout (n : Nat)
  /-- OBSERVE_TIMEOUT (R282). -/
  | observeTimeout (n : Nat)
  /-- ZWAIT_EXPIRY (R282). -/
  | zwaitExpiry (n : Nat)
  /-- STOPPED (R282). -/
  | stoppedEv (n : Nat)
  /-- RECATCH_RESET (R283). -/
  | recatchReset (n : Nat)
  /-- KE_ESTIMATE (R289). -/
  | keEstimate (n : Nat) (vll : Nat)
  /-- RESOLVER_SAMPLE (R280). -/
  | resolverSample (n : Nat) (sin cos : Nat) (speed : Int)
  /-- DRV_ENC_LOST_CLEAR (R287). -/
  | drvEncLostClear (n : Nat) (persists : Bool)
  /-- READY (R291). -/
  | readyEv (n : Nat)
  /-- AXS_TICK (R295). -/
  | axsTick (n : Nat)
  /-- MOVE (R296). -/
  | moveEv (n : Nat)
  /-- VEL (R299). -/
  | velEv (n : Nat)
  /-- AXS_STOP (R313). -/
  | axsStop (n : Nat)
  /-- HALT (R313). -/
  | haltEv (n : Nat)
  /-- RESUME (R315). -/
  | resumeEv (n : Nat)
  /-- HOME (R317). -/
  | homeEv (n : Nat)
  /-- SETPOS (R320). -/
  | setposEv (n : Nat)
  /-- AXS_DISABLE (R313). -/
  | axsDisable (n : Nat)
  /-- STEP_EDGE (R306). -/
  | stepEdge (n : Nat) (dir : Bool)
  /-- CHOP_PERIOD_START (R303). -/
  | chopPeriodStart (n : Nat) (tripA tripB : Option Nat)
  /-- STANDSTILL (R311). -/
  | standstillEv (n : Nat)
  /-- POWERED_DOWN (R311). -/
  | poweredDown (n : Nat)
  /-- AXS_REPOWER (R311). -/
  | axsRepower (n : Nat)
  /-- POS_UNC_CLEAR (R314). -/
  | posUncClear (n : Nat)
  /-- APPLY (R331). -/
  | applyEv (n : Nat)
  /-- LOOP_ENABLE (R331). -/
  | loopEnable (n : Nat)
  /-- HVO_PERIOD_START (R336). -/
  | hvoPeriodStart (n : Nat)
  /-- FUS_PERIOD_START (R338). -/
  | fusPeriodStart (n : Nat)
  /-- FUS_ENABLE (R339). -/
  | fusEnable (f : Nat) (en : Bool)
  /-- FLT (R339). -/
  | fltEv (f : Nat) (low : Bool)
  /-- FUSER_EN_EDGE (R340). -/
  | fuserEnEdge
  /-- ADC_CONVERSION_DONE (R345). -/
  | adcConversionDone (c : Nat) (code : Nat)
  /-- BACKGROUND_SCAN (R345). -/
  | backgroundScan (c : Nat)
  /-- REF_BAD (R345). -/
  | refBad (c : Nat) (bad : Bool)
  /-- GPIO_INPUT_EDGE (R347). -/
  | gpioInputEdge (p : Nat) (level : Bool)
  /-- SET (R352). -/
  | setEv
  /-- ADD_OFFSET (R352). -/
  | addOffset
  /-- SLEW (R354). -/
  | slewEv
  /-- SLEW_END (R354). -/
  | slewEnd
  /-- TIME_INC_WRITE (R350). -/
  | timeIncWrite (v : BitVec 32)
  /-- PTP_FRAME_RX (R359). -/
  | ptpFrameRx (port : Nat) (f : PtpRx)
  /-- ANNOUNCE_TIMEOUT (R358). -/
  | announceTimeout (self : Bool)
  /-- PTP_SYNC_TX (R357). -/
  | ptpSyncTx (stamp : Nat)
  /-- TX_TIMESTAMP (R361). -/
  | txTimestamp (n : Nat) (id typ stamp : Nat)
  /-- TXTS_READ (R361). -/
  | txtsRead (n : Nat)
  /-- RTC_SYNC (R381). -/
  | rtcSync
  /-- ARM (R364). -/
  | armEv (c : Nat)
  /-- DISARM (R364). -/
  | disarmEv (c : Nat)
  /-- ALMANAC_FIRE (R362). -/
  | almanacFire (c : Nat)
  /-- CAPTURE_EDGE (R367). -/
  | captureEdge (k : Nat) (falling : Bool) (dt : Nat)
  /-- CAPTURE_READ (R367). -/
  | captureRead (k : Nat)
  /-- VMAIN_FAIL (R376). -/
  | vmainFail (mv : Nat)
  /-- VMAIN_RETURN (R371). -/
  | vmainReturn (mv : Nat)
  /-- BACKUP_SAMPLE (R373). -/
  | backupSample (vmain vback : Nat)
  /-- RAIL_UNDERVOLTAGE (R374). -/
  | railUndervoltage (rail : Nat)
  /-- FROST_END_DECISION (R378). -/
  | frostEndDecision
  /-- HIBERNATE_REQUEST (R380). -/
  | hibernateRequest (key : BitVec 16)
  /-- WAKE_INPUT (R380). -/
  | wakeInput (k : Nat)
  /-- ALARM (R380). -/
  | alarmEv
  /-- HIBERNATE_EXIT_POWER (R378). -/
  | hibernateExitPower
  /-- RTC_SET (R381). -/
  | rtcSet
  /-- AON_WRITE_COMPLETE (R29). -/
  | aonWriteComplete
  /-- LOCK_LOST (R384). -/
  | lockLost (k : Nat)
  /-- PLL_RELOCK (R384). -/
  | pllRelock (k : Nat)
  /-- REF_LOST (R382). -/
  | refLost
  /-- XT32_FAIL (R382). -/
  | xt32Fail
  /-- POR (R385). -/
  | porEv
  /-- RESET_PIN (R385). -/
  | resetPin (low : Bool)
  /-- SOFT_RESET (R385). -/
  | softReset (key : BitVec 16)
  /-- WATCHDOG (R388). -/
  | watchdogEv
  /-- BOOT (R389). -/
  | bootEv (trainOk flashOk : Bool)
  /-- BOOT_FAIL (R390). -/
  | bootFail
  /-- THAW (R397). -/
  | thawEv
  /-- FROST (R397). -/
  | frostEv
  /-- RS_CONVERSION (R393). -/
  | rsConversion (k : Nat) (code : BitVec 12)
  /-- RAIL_SETTLE_EXPIRY (R394). -/
  | railSettleExpiry
  /-- THAW_TIMEOUT (R394). -/
  | thawTimeout
  /-- CHAIN_TIMEOUT (R395). -/
  | chainTimeout
  /-- SEQ_IN_RISE (R395). -/
  | seqInRise
  /-- SEQ_IN_FALL (R397). -/
  | seqInFall
  /-- RAIL_LINK_EXCHANGE (R402). -/
  | railLinkExchange (resp : Option (BitVec 40))
  /-- RAIL_LINK_RETRY (R402). -/
  | railLinkRetry
  /-- RAIL_POLL (R402). -/
  | railPoll (k : Nat)
  /-- FROST_STUCK (R398). -/
  | frostStuck
  /-- SLAVE_FROST_TIMEOUT (R398). -/
  | slaveFrostTimeout
  /-- RESTART_HOLD_EXPIRY (R397). -/
  | restartHoldExpiry
  /-- FAULT_MESSAGE_ARRIVAL (R412). -/
  | faultMessageArrival
  /-- GRACE_EXPIRY (R413). -/
  | graceExpiry (src : Nat)
  /-- FLT_STATUS_CLEAR (R415). -/
  | fltStatusClear (src : Nat)
  /-- CLEAR (R420). -/
  | clearEv
  /-- FORCE (R421). -/
  | forceEv (src : Nat)
  /-- COUNT_CLR (R415). -/
  | countClr (src : Nat)
  /-- FLT_QUEUE_READ (R422). -/
  | fltQueueRead
  /-- QUEUE_OVF (R422). -/
  | queueOvf
  /-- THERMAL_READING (R423). -/
  | thermalReading (r : Diode)
  /-- TRIP (R425). -/
  | tripEv
  /-- TRIP_RELEASE (R425). -/
  | tripRelease
  /-- SENSOR_BAD_CLEAR (R426). -/
  | sensorBadClear
  /-- LOCK (R441). -/
  | lockEv
  /-- UNLOCK (R441). -/
  | unlockEv
  /-- DEBUG (R441). -/
  | debugEv
  /-- SLOT_TABLE_ERASE_DONE (R433). -/
  | slotTableEraseDone
  /-- SETTINGS_COMPACT (R434). -/
  | settingsCompact
  /-- RECOVERY_DATA (R443). -/
  | recoveryData (f : RecFrame)
  /-- RECOVERY_DONE (R444). -/
  | recoveryDone (f : RecFrame)
  /-- RECOVERY_ACTIVATE (R444). -/
  | recoveryActivate (f : RecFrame)
  /-- RECOVERY_TOKEN (R442). -/
  | recoveryToken (f : RecFrame)
  /-- FREEZE (R448). -/
  | freezeEv
  /-- FROZEN (R448). -/
  | frozenEv
  /-- REARM (R448). -/
  | rearmEv
  /-- NOR_EXPORT (R449). -/
  | norExport
  /-- NOR_DONE (R449). -/
  | norDone
  /-- LOAD_NOR (R449). -/
  | loadNor
  /-- LOAD_RING (R449). -/
  | loadRing (ok : Bool)
  /-- REPLAY (R450). -/
  | replayEv
  /-- REPLAY_STOP (R451). -/
  | replayStop
  /-- REPLAY_END (R451). -/
  | replayEnd
  /-- SNAPSHOT (R447). -/
  | snapshotEv
  /-- TIME_RECORD (R445). -/
  | timeRecord
  /-- WEAR_MEASURE (R452). -/
  | wearMeasure (src age errs : Nat)
  /-- SPARE_SELF_TEST (R452). -/
  | spareSelfTest (src : Nat) (ok : Bool)
  /-- RETIRE (R454). -/
  | retireEv
  /-- RESTORE (R454). -/
  | restoreEv
  /-- HB_TOGGLE (R388). -/
  | hbToggle (fresh : Bool)
  /-- RECORDED_OUTPUT_MISSING (R451). -/
  | recordedOutputMissing (p : Nat)
  /-- PTP_DELAY_REQUEST (R357). -/
  | ptpDelayRequest
  /-- TAP_INSTRUCTION (R478). -/
  | tapInstruction (op : TapOp)
  deriving DecidableEq, Repr

end Sys2Proof
end

