-- ==== Sys2Proof/Config.lean ====
section
/-! DEFINITION. What one device or one board fixes and the spec leaves to it, and the free values. An `opaque` constant has
no body: nothing can be proved of its value, so a statement about it holds for every value (log entry 2). -/

namespace Sys2Proof

/-- The free values: the value the spec leaves open at the `k`-th draw (State.freeCtr counts the draws). -/
opaque Config.free : Nat → Nat

/-- SYS_ID.GRADE, the fuse of the ordering code (R1): the spec gives it no value. -/
opaque Config.gradeFuse : Nat

/-- The straps sampled at every reset (R22, R390, R382): CTRL_NUM, RECOVERY and XTAL_MODE. -/
opaque Config.strapCtrlNum : Nat
opaque Config.strapRecovery : Nat
opaque Config.strapXtalMode : Nat

/-- The page store the board fits, in GiB: 4, 8 or 16 (R151). -/
opaque Config.fittedGiB : Nat

/-- Which drive channels (n) and axes (8 + n) the engine program has marked as needed (R37): the spec gives no register for it. -/
opaque Config.needed : List Nat

/-- Whether a quotient that is not whole is rounded up, where the spec states no rounding. -/
opaque Config.roundUp : Int → Nat → Bool

/-- The profile generator's choice at a tick (R295): the jerk, whether the tick is the last one, and whether a target is within
reach while the acceleration is not 0 (R297). The spec gives the bounds of the choice. -/
opaque Config.planJerk : List Int → Int
opaque Config.planLast : List Int → Bool
opaque Config.planReach : List Int → Bool

/-- The transforms of the current loop, whose arithmetic R275 does not state: (id, iq) from ia, ib and the angle; the three
duties from vd, vq, the angle and vdc. -/
opaque Config.park : Int → Int → Nat → Int × Int
opaque Config.svpwm : Int → Int → Nat → Int → Nat × Nat × Nat

/-- Whether a leg's high side is to conduct at a value of the PWM counter, from its duty and PER: R274 and R275 do not state the comparison. -/
opaque Config.pwmHigh : Nat → Nat → Nat → Bool

/-- The motor supply in µV that a code of an axis's VM input stands for (R303): the spec gives no scale for it. -/
opaque Config.motorVolts : Nat → Nat → Nat

/-- The 16-bit angle of two resolver samples (R280). -/
opaque Config.resolverAngle : Int → Int → Nat

/-- How many units of 16 bytes a record of a type with so many payload words fills (R446): the spec does not lay the payload out. -/
opaque Config.recUnits : Nat → Nat → Nat

/-- The payload bytes of a record of a type with its words (R446), and the bytes 5 to 59 of the header of an export stream from controller number,
VERSION, IMAGE_CRC, trigger, first time, length and LOST (R449): the spec lays out neither. -/
opaque Config.recPayload : Nat → List Int → List Byte
opaque Config.recHeader : List Nat → List Byte

/-- The fuses (R432, R441): whether KEY_HASH, OWNER_HASH and DEBUG_HASH are blank, which public keys and tokens match them, and which
images (without their signature) a key and a signature verify; SHA-256 and ECDSA are not modelled. -/
opaque Config.keyBlank : Bool
opaque Config.keyMatch : List Byte → Bool
opaque Config.signOk : List Byte → List Byte → List Byte → Bool
opaque Config.ownerBlank : Bool
opaque Config.ownerMatch : Nat → Bool
opaque Config.debugBlank : Bool
opaque Config.debugMatch : Nat → Bool

/-- The capacity of the flash in MiB (R429). -/
opaque Config.flashMiB : Nat

/-- The kind and the fault source of the owner of an SRAM macro, and the macro and the row that hold an address (R167): the spec gives no list of
macros. -/
opaque Config.macroKind : Nat → Nat
opaque Config.macroSource : Nat → Nat
opaque Config.macroOf : Nat → Nat
opaque Config.rowOf : Nat → Nat

/-- Where the state of a loop descriptor stands in a loop engine's memory (R160): the device address of a word of it. -/
opaque Config.loopAddr : Nat → Nat

/-- What may befall the memories and the host's link at a TB tick (R118, R159, R162): a paired word of which one copy, or both copies, fail parity; a
backed word that fails; a page-store word with a correctable, or an uncorrectable, error; errors that AER logs; a credited request that waited; a
settings copy whose header CRC fails (R434); a PHY that reports its link up or down (R370). -/
inductive Upset
  | sramOne (a : Nat)
  | sramBoth (a : Nat)
  | backed (a : Nat)
  | dramOne (w : Nat)
  | dramBoth (w : Nat)
  | aer (corr uncorr : Nat)
  | starve (pipe : Nat)
  | settings (area : Nat)
  | ethLink (mac : Nat) (up : Bool)
  deriving DecidableEq, Repr

/-- The upsets of a TB tick: the spec does not say when memory cells fail. -/
opaque Config.upsets : Nat → List Upset

/-- The migration rules of section 4 of an image, whose format the spec does not give (R435): the value that a rule gives a key from its
value in the running copy; none where no rule names the key. -/
opaque Config.migrate : List Byte → Nat → Nat → Option Nat

/-- The settings key that holds a boot field, by the field's key in the field store (R434): the spec gives no key numbers. -/
opaque Config.bootKey : Nat → Nat

/-- The rate and the width that the PCIe link trains to, from MAX_SPEED (R118): the board and the host fix them. -/
opaque Config.linkSpeed : Nat → Nat
opaque Config.linkWidth : Nat

/-- What the host has set in the configuration space of the function (R118): the addresses of BAR0 and BAR2, the codes of the maximum payload and
read request sizes, ECRC generation and check, the code of the completion timeout, MSI-X enable and function mask, and ASPM L1. -/
structure PcieCfg where
  bar0 : Nat
  bar2 : Nat
  mps : Nat
  mrrs : Nat
  ecrcGen : Bool
  ecrcChk : Bool
  timeout : Nat
  msixEn : Bool
  msixMask : Bool
  aspmL1 : Bool
  deriving DecidableEq, Repr, Inhabited

/-- What the host has configured when it enables bus mastering for the `k`-th time (R118, R133): its choice, and no command of the table carries it. -/
opaque Config.hostCfg : Nat → PcieCfg

/-- What the units report of their rates at a TB tick (R43): source, s and r of the sheet-paced units (DMA, page-store fetch, ledger service);
and the head-link lanes and drive channels with s < 1.05 × r, by source. The spec does not say how a rate is measured. -/
opaque Config.sheetRates : Nat → List (Nat × Nat × Nat)
opaque Config.slowLines : Nat → List Nat

/-- The load in 0.01 % that a task of a BUDGET with MIN_INTERVAL 0 counts beside LOAD (R111): the spec states no quotient there. -/
opaque Config.loadOpen : Nat → Nat

end Sys2Proof
end

