-- ==== Sys2Proof/Machine/Kv.lean ====
section
/-! DEFINITION. Sparse maps as plain data: a list of keys and values with strictly rising keys. Used for memories, for the
register-field store and for tables indexed by a unit's number. -/

namespace Sys2Proof.Machine

/-- The value at a key. -/
def kvGet {α : Type} : List (Nat × α) → Nat → Option α
  | [], _ => none
  | (k', v) :: t, k => if k' = k then some v else kvGet t k

/-- Put a value at a key, keeping the keys strictly rising. -/
def kvSet {α : Type} : List (Nat × α) → Nat → α → List (Nat × α)
  | [], k, v => [(k, v)]
  | (k', v') :: t, k, v =>
    if k < k' then (k, v) :: (k', v') :: t
    else if k' = k then (k, v) :: t
    else (k', v') :: kvSet t k v

/-- Remove a key. -/
def kvDel {α : Type} : List (Nat × α) → Nat → List (Nat × α)
  | [], _ => []
  | (k', v) :: t, k => if k' = k then kvDel t k else (k', v) :: kvDel t k

/-- The keys rise strictly. -/
def kvSorted {α : Type} : List (Nat × α) → Bool
  | [] => true
  | [_] => true
  | (k, _) :: (k', v') :: t => decide (k < k') && kvSorted ((k', v') :: t)

/-- Change the value at a key, where there is one. -/
def kvMod {α : Type} (m : List (Nat × α)) (k : Nat) (f : α → α) : List (Nat × α) :=
  m.map (fun e => if e.1 = k then (e.1, f e.2) else e)

/-- A byte memory: an address that is not listed reads 0 (R168: memory never written since its zeroing reads as zero). -/
abbrev Memory := List (Nat × Byte)

/-- Read one byte. -/
def memGet (m : Memory) (a : Nat) : Byte := (kvGet m a).getD 0

/-- Write one byte; writing 0 removes the entry, so equal memories are equal lists. -/
def memSet (m : Memory) (a : Nat) (b : Byte) : Memory := if b = 0 then kvDel m a else kvSet m a b

/-- The canonical form: strictly rising addresses and no entry equal to what an unlisted address reads as. -/
def Memory.wf (m : Memory) : Bool := kvSorted m && m.all (fun e => decide (e.2 ≠ 0))

/-- Write bytes at rising addresses. -/
def memWrite : Memory → Nat → List Byte → Memory
  | m, _, [] => m
  | m, a, b :: t => memWrite (memSet m a b) (a + 1) t

/-- Read `n` bytes at rising addresses. -/
def memRead (m : Memory) (a : Nat) : Nat → List Byte
  | 0 => []
  | n + 1 => memGet m a :: memRead m (a + 1) n

/-- The number a list of bytes spells, least significant byte first (R3). -/
def bytesToNat : List Byte → Nat
  | [] => 0
  | b :: t => b.toNat + 256 * bytesToNat t

/-- The `n` little-endian bytes of a number. -/
def natToBytes : Nat → Nat → List Byte
  | _, 0 => []
  | v, n + 1 => BitVec.ofNat 8 v :: natToBytes (v / 256) n

end Sys2Proof.Machine
end

