-- ==== Sys2Proof/Machine/Field.lean ====
section
/-! DEFINITION. What a register table says of a field (R3 to R6), and of a register. -/

namespace Sys2Proof.Machine

/-- The access codes of R5. -/
inductive Access | rw | ro | w1c | w1s | wo | rws
  deriving DecidableEq, Repr

/-- The Apply classes of R6; `x` stands for the dash of a field that no write reaches. -/
inductive Apply | s | b | l | x
  deriving DecidableEq, Repr

/-- A register field: the device address of its register, its bits, its access code, its Apply class, its reset value. -/
structure Fld where
  addr : Nat
  hi : Nat
  lo : Nat
  acc : Access
  app : Apply
  rst : Nat
  deriving DecidableEq, Repr

/-- The width of a field. -/
def Fld.width (f : Fld) : Nat := f.hi + 1 - f.lo

/-- Where the field store keeps a field: registers are 32 bits wide, so an address and a bit number name it. -/
def Fld.key (f : Fld) : Nat := f.addr * 32 + f.lo

/-- A row of the register map: the register, or the array of registers, at `addr + stride * n + mstride * m`. -/
structure RegRow where
  addr : Nat
  n : Nat
  stride : Nat
  m0 : Nat
  m : Nat
  mstride : Nat
  fields : Nat → Nat → List Fld

/-- The host interface's registers are not in the device map (R120): the field store keeps them from this address on. -/
def hifBase : Nat := 0x10000000000

/-- BAR2 is a window too (R121): an offset of it is an address from here on. -/
def bar2Base : Nat := 0x30000000000

/-- The scan-station and the bar-station registers share their offsets (R204): the store keeps the bar registers
this far above the scan registers, and KIND in STNn_PL_CFG says which of the two an access reaches. -/
def barSpace : Nat := 0x20000000000

/-- The CLASS of fault source `s` after reset (R410): 0 A, 1 B, 2 C. -/
def fltClassReset (s : Nat) : Nat :=
  if s = 0x002 ∨ s = 0x007 ∨ s = 0x01C ∨ s = 0x01D ∨ s = 0x01E then 2
  else if s = 0x001 ∨ s = 0x004 ∨ s = 0x00F ∨ s = 0x010 ∨ s = 0x014 then 1
  else if 0x018 ≤ s ∧ s ≤ 0x01B then 1
  else if 0x040 ≤ s ∧ s ≤ 0x058 then 1
  else if 0x060 ≤ s ∧ s ≤ 0x066 then 1
  else if 0x068 ≤ s ∧ s ≤ 0x06D then 1
  else if 0x080 ≤ s ∧ s < 0x140 ∧ (s - 0x080) % 0x20 ≤ 16 then 1
  else if 0x140 ≤ s ∧ s < 0x150 then (if s % 2 = 0 then 2 else 0)
  else if 0x160 ≤ s ∧ s < 0x188 then (if s % 2 = 0 then 1 else 0)
  else if 0x1A0 ≤ s ∧ s ≤ 0x1A4 then 1
  else if 0x1C0 ≤ s ∧ s ≤ 0x1DF then 1
  else if s = 0x1E0 ∨ s = 0x1E1 then 1
  else 0

end Sys2Proof.Machine
end

