-- ==== Sys2Proof/Machine/Regs1.lean ====
section
/-! DEFINITION. The register fields of the spec's register tables, one constant for each field, under the
register's and the field's own names (the index letters of an arrayed register stand in its name, as in the spec).
Offsets, bit ranges, access codes (R5), Apply classes (R6) and reset values are those of the tables; the block bases
are those of R12. -/

namespace Sys2Proof.Machine

/-! Block SYS -/

def SYS_ID_PART : Fld := ⟨0x2000000000, 31, 16, .ro, .x, 38464⟩
def SYS_ID_STEPPING : Fld := ⟨0x2000000000, 15, 8, .ro, .x, 177⟩
def SYS_ID_GRADE : Fld := ⟨0x2000000000, 0, 0, .ro, .x, Config.gradeFuse % 2⟩
def SYS_STRAPS_XTAL_MODE : Fld := ⟨0x2000000004, 3, 3, .ro, .x, Config.strapXtalMode % 2⟩
def SYS_STRAPS_RECOVERY : Fld := ⟨0x2000000004, 2, 2, .ro, .x, Config.strapRecovery % 2⟩
def SYS_STRAPS_CTRL_NUM : Fld := ⟨0x2000000004, 1, 0, .ro, .x, Config.strapCtrlNum % 4⟩
def SYS_STATUS_HO_REFUSED : Fld := ⟨0x2000000008, 6, 6, .w1c, .l, 0⟩
def SYS_STATUS_WRITE_REFUSED : Fld := ⟨0x2000000008, 5, 5, .w1c, .l, 0⟩
def SYS_STATUS_HIB_REFUSED : Fld := ⟨0x2000000008, 4, 4, .w1c, .l, 0⟩
def SYS_STATUS_ON_VBACK : Fld := ⟨0x2000000008, 3, 3, .ro, .x, 0⟩
def SYS_STATUS_BACKUP_OK : Fld := ⟨0x2000000008, 2, 2, .ro, .x, 0⟩
def SYS_STATUS_VMAIN_OK : Fld := ⟨0x2000000008, 1, 1, .ro, .x, 0⟩
def SYS_STATUS_BOOT_DONE : Fld := ⟨0x2000000008, 0, 0, .ro, .x, 0⟩
def SYS_RESET_CAUSE_BOOT_FAILS : Fld := ⟨0x200000000c, 13, 12, .ro, .x, 0⟩
def SYS_RESET_CAUSE_FLUSH_DONE : Fld := ⟨0x200000000c, 10, 10, .ro, .x, 0⟩
def SYS_RESET_CAUSE_DEG_AT_LOSS : Fld := ⟨0x200000000c, 9, 9, .ro, .x, 0⟩
def SYS_RESET_CAUSE_BK_AT_LOSS : Fld := ⟨0x200000000c, 8, 8, .ro, .x, 0⟩
def SYS_RESET_CAUSE_CAUSE : Fld := ⟨0x200000000c, 2, 0, .ro, .x, 0⟩
def SYS_RESET_KEY : Fld := ⟨0x2000000010, 31, 16, .wo, .l, 0⟩
def SYS_RESET_GO : Fld := ⟨0x2000000010, 0, 0, .wo, .l, 0⟩
def SYS_SUPPLY_VBACK : Fld := ⟨0x2000000014, 31, 16, .ro, .x, 0⟩
def SYS_SUPPLY_VMAIN : Fld := ⟨0x2000000014, 15, 0, .ro, .x, 0⟩
def SYS_BK_MIN_BK_MIN : Fld := ⟨0x2000000018, 15, 0, .rws, .l, 3100⟩
def SYS_CLK_REF_LOST_SEEN : Fld := ⟨0x200000001c, 12, 12, .w1c, .l, 0⟩
def SYS_CLK_LOSS_SEEN : Fld := ⟨0x200000001c, 11, 8, .w1c, .l, 0⟩
def SYS_CLK_XT32_FAIL : Fld := ⟨0x200000001c, 7, 7, .ro, .x, 0⟩
def SYS_CLK_REF_OK : Fld := ⟨0x200000001c, 6, 6, .ro, .x, 0⟩
def SYS_CLK_LOCK : Fld := ⟨0x200000001c, 5, 2, .ro, .x, 0⟩
def SYS_HB_HB_EN : Fld := ⟨0x2000000020, 0, 0, .rw, .l, 1⟩
def SYS_HANDOFF_PORT : Fld := ⟨0x2000000024, 16, 16, .rw, .s, 0⟩
def SYS_HANDOFF_ETHERTYPE : Fld := ⟨0x2000000024, 15, 0, .rw, .s, 34997⟩
def SYS_HIBERNATE_KEY : Fld := ⟨0x2000000028, 31, 16, .wo, .l, 0⟩
def SYS_HIBERNATE_REQ : Fld := ⟨0x2000000028, 0, 0, .wo, .l, 0⟩
def SYS_WAKE_CFG_ALARM_EN : Fld := ⟨0x200000002c, 8, 8, .rws, .l, 0⟩
def SYS_WAKE_CFG_POL : Fld := ⟨0x200000002c, 7, 4, .rws, .l, 0⟩
def SYS_WAKE_CFG_EN : Fld := ⟨0x200000002c, 3, 0, .rws, .l, 0⟩
def SYS_WAKE_SRC_ALARM : Fld := ⟨0x2000000030, 4, 4, .ro, .x, 0⟩
def SYS_WAKE_SRC_WAKE : Fld := ⟨0x2000000030, 3, 0, .ro, .x, 0⟩
def SYS_RTC_LO_SEC : Fld := ⟨0x2000000034, 31, 0, .ro, .l, 0⟩
def SYS_RTC_HI_SEC : Fld := ⟨0x2000000038, 31, 0, .ro, .l, 0⟩
def SYS_RTC_SET_LO_SEC : Fld := ⟨0x200000003c, 31, 0, .rw, .l, 0⟩
def SYS_RTC_SET_HI_SEC : Fld := ⟨0x2000000040, 31, 0, .rw, .l, 0⟩
def SYS_ALARM_LO_SEC : Fld := ⟨0x2000000048, 31, 0, .rws, .l, 0⟩
def SYS_ALARM_HI_SEC : Fld := ⟨0x200000004c, 31, 0, .rws, .l, 0⟩
def SYS_RTC_CMD_SET : Fld := ⟨0x2000000044, 0, 0, .wo, .l, 0⟩
def SYS_AON_QUEUE_PENDING : Fld := ⟨0x2000000050, 2, 0, .ro, .x, 0⟩
def SYS_RETw_DATA (m : Nat) : Fld := ⟨0x2000000080 + 4 * m, 31, 0, .rws, .l, 0⟩
def SYS_HO_TX_SEQ_LO_VALUE : Fld := ⟨0x20000000c0, 31, 0, .rw, .l, 0⟩
def SYS_HO_TX_SEQ_HI_VALUE : Fld := ⟨0x20000000c4, 31, 0, .rw, .l, 0⟩
def SYS_HO_TX_TIME_LO_VALUE : Fld := ⟨0x20000000c8, 31, 0, .rw, .l, 0⟩
def SYS_HO_TX_TIME_HI_VALUE : Fld := ⟨0x20000000cc, 31, 0, .rw, .l, 0⟩
def SYS_HO_TX_CMD_SEND : Fld := ⟨0x20000000d0, 8, 8, .wo, .l, 0⟩
def SYS_HO_TX_CMD_TO : Fld := ⟨0x20000000d0, 1, 0, .wo, .l, 0⟩
def SYS_HO_TX_STATUS_LOST : Fld := ⟨0x20000000d4, 31, 16, .ro, .x, 0⟩
def SYS_HO_TX_STATUS_RESENDS : Fld := ⟨0x20000000d4, 15, 8, .ro, .x, 0⟩
def SYS_HO_TX_STATUS_QUEUED : Fld := ⟨0x20000000d4, 4, 0, .ro, .x, 0⟩
def SYS_HO_TX_ACK_LO_SEQ : Fld := ⟨0x20000000d8, 31, 0, .ro, .x, 0⟩
def SYS_HO_TX_ACK_HI_SEQ : Fld := ⟨0x20000000dc, 31, 0, .ro, .x, 0⟩
def SYS_HO_RX_Ww_WORD (m : Nat) : Fld := ⟨0x20000000e0 + 4 * m, 31, 0, .ro, .x, 0⟩
def SYS_HO_RX_LEVEL_RX_OVF : Fld := ⟨0x20000000f4, 8, 8, .w1c, .l, 0⟩
def SYS_HO_RX_LEVEL_LEVEL : Fld := ⟨0x20000000f4, 4, 0, .ro, .x, 0⟩
def SYS_HO_PEERs_HNUM (m : Nat) : Fld := ⟨0x2000000100 + 4 * m, 31, 0, .ro, .x, 0⟩

/-- The registers of block SYS. -/
def regsSYS : List RegRow := [
  ⟨0x2000000000, 1, 0x0, 0, 1, 0, fun _ _ => [SYS_ID_PART, SYS_ID_STEPPING, SYS_ID_GRADE]⟩,
  ⟨0x2000000004, 1, 0x0, 0, 1, 0, fun _ _ => [SYS_STRAPS_XTAL_MODE, SYS_STRAPS_RECOVERY, SYS_STRAPS_CTRL_NUM]⟩,
  ⟨0x2000000008, 1, 0x0, 0, 1, 0, fun _ _ => [SYS_STATUS_HO_REFUSED, SYS_STATUS_WRITE_REFUSED, SYS_STATUS_HIB_REFUSED, SYS_STATUS_ON_VBACK, SYS_STATUS_BACKUP_OK, SYS_STATUS_VMAIN_OK, SYS_STATUS_BOOT_DONE]⟩,
  ⟨0x200000000c, 1, 0x0, 0, 1, 0, fun _ _ => [SYS_RESET_CAUSE_BOOT_FAILS, SYS_RESET_CAUSE_FLUSH_DONE, SYS_RESET_CAUSE_DEG_AT_LOSS, SYS_RESET_CAUSE_BK_AT_LOSS, SYS_RESET_CAUSE_CAUSE]⟩,
  ⟨0x2000000010, 1, 0x0, 0, 1, 0, fun _ _ => [SYS_RESET_KEY, SYS_RESET_GO]⟩,
  ⟨0x2000000014, 1, 0x0, 0, 1, 0, fun _ _ => [SYS_SUPPLY_VBACK, SYS_SUPPLY_VMAIN]⟩,
  ⟨0x2000000018, 1, 0x0, 0, 1, 0, fun _ _ => [SYS_BK_MIN_BK_MIN]⟩,
  ⟨0x200000001c, 1, 0x0, 0, 1, 0, fun _ _ => [SYS_CLK_REF_LOST_SEEN, SYS_CLK_LOSS_SEEN, SYS_CLK_XT32_FAIL, SYS_CLK_REF_OK, SYS_CLK_LOCK]⟩,
  ⟨0x2000000020, 1, 0x0, 0, 1, 0, fun _ _ => [SYS_HB_HB_EN]⟩,
  ⟨0x2000000024, 1, 0x0, 0, 1, 0, fun _ _ => [SYS_HANDOFF_PORT, SYS_HANDOFF_ETHERTYPE]⟩,
  ⟨0x2000000028, 1, 0x0, 0, 1, 0, fun _ _ => [SYS_HIBERNATE_KEY, SYS_HIBERNATE_REQ]⟩,
  ⟨0x200000002c, 1, 0x0, 0, 1, 0, fun _ _ => [SYS_WAKE_CFG_ALARM_EN, SYS_WAKE_CFG_POL, SYS_WAKE_CFG_EN]⟩,
  ⟨0x2000000030, 1, 0x0, 0, 1, 0, fun _ _ => [SYS_WAKE_SRC_ALARM, SYS_WAKE_SRC_WAKE]⟩,
  ⟨0x2000000034, 1, 0x0, 0, 1, 0, fun _ _ => [SYS_RTC_LO_SEC]⟩,
  ⟨0x2000000038, 1, 0x0, 0, 1, 0, fun _ _ => [SYS_RTC_HI_SEC]⟩,
  ⟨0x200000003c, 1, 0x0, 0, 1, 0, fun _ _ => [SYS_RTC_SET_LO_SEC]⟩,
  ⟨0x2000000040, 1, 0x0, 0, 1, 0, fun _ _ => [SYS_RTC_SET_HI_SEC]⟩,
  ⟨0x2000000048, 1, 0x0, 0, 1, 0, fun _ _ => [SYS_ALARM_LO_SEC]⟩,
  ⟨0x200000004c, 1, 0x0, 0, 1, 0, fun _ _ => [SYS_ALARM_HI_SEC]⟩,
  ⟨0x2000000044, 1, 0x0, 0, 1, 0, fun _ _ => [SYS_RTC_CMD_SET]⟩,
  ⟨0x2000000050, 1, 0x0, 0, 1, 0, fun _ _ => [SYS_AON_QUEUE_PENDING]⟩,
  ⟨0x2000000080, 1, 0x0, 0, 16, 4, fun _ m => [SYS_RETw_DATA m]⟩,
  ⟨0x20000000c0, 1, 0x0, 0, 1, 0, fun _ _ => [SYS_HO_TX_SEQ_LO_VALUE]⟩,
  ⟨0x20000000c4, 1, 0x0, 0, 1, 0, fun _ _ => [SYS_HO_TX_SEQ_HI_VALUE]⟩,
  ⟨0x20000000c8, 1, 0x0, 0, 1, 0, fun _ _ => [SYS_HO_TX_TIME_LO_VALUE]⟩,
  ⟨0x20000000cc, 1, 0x0, 0, 1, 0, fun _ _ => [SYS_HO_TX_TIME_HI_VALUE]⟩,
  ⟨0x20000000d0, 1, 0x0, 0, 1, 0, fun _ _ => [SYS_HO_TX_CMD_SEND, SYS_HO_TX_CMD_TO]⟩,
  ⟨0x20000000d4, 1, 0x0, 0, 1, 0, fun _ _ => [SYS_HO_TX_STATUS_LOST, SYS_HO_TX_STATUS_RESENDS, SYS_HO_TX_STATUS_QUEUED]⟩,
  ⟨0x20000000d8, 1, 0x0, 0, 1, 0, fun _ _ => [SYS_HO_TX_ACK_LO_SEQ]⟩,
  ⟨0x20000000dc, 1, 0x0, 0, 1, 0, fun _ _ => [SYS_HO_TX_ACK_HI_SEQ]⟩,
  ⟨0x20000000e0, 1, 0x0, 0, 5, 4, fun _ m => [SYS_HO_RX_Ww_WORD m]⟩,
  ⟨0x20000000f4, 1, 0x0, 0, 1, 0, fun _ _ => [SYS_HO_RX_LEVEL_RX_OVF, SYS_HO_RX_LEVEL_LEVEL]⟩,
  ⟨0x2000000100, 1, 0x0, 0, 4, 4, fun _ m => [SYS_HO_PEERs_HNUM m]⟩]

/-! Block FLT -/

def FLT_STATUS_Q_OVF : Fld := ⟨0x2000010000, 7, 7, .w1c, .l, 0⟩
def FLT_STATUS_CLEAR_REFUSED : Fld := ⟨0x2000010000, 6, 6, .w1c, .l, 0⟩
def FLT_STATUS_B_PENDING : Fld := ⟨0x2000010000, 5, 5, .ro, .x, 0⟩
def FLT_STATUS_SCOPE : Fld := ⟨0x2000010000, 3, 2, .ro, .x, 0⟩
def FLT_STATUS_SAFE : Fld := ⟨0x2000010000, 0, 0, .ro, .x, 0⟩
def FLT_SAFE_SAFE_SRC : Fld := ⟨0x2000010004, 25, 16, .ro, .x, 0⟩
def FLT_SAFE_SAFE_KIND : Fld := ⟨0x2000010004, 13, 8, .ro, .x, 0⟩
def FLT_SAFE_CLEAR : Fld := ⟨0x2000010004, 0, 0, .wo, .l, 0⟩
def FLT_SAFE_TIME_LO_TIME : Fld := ⟨0x2000010008, 31, 0, .ro, .x, 0⟩
def FLT_SAFE_TIME_HI_TIME : Fld := ⟨0x200001000c, 31, 0, .ro, .x, 0⟩
def FLT_Q_LEVEL_LOST_TOTAL : Fld := ⟨0x2000010010, 31, 16, .ro, .x, 0⟩
def FLT_Q_LEVEL_LEVEL : Fld := ⟨0x2000010010, 7, 0, .ro, .x, 0⟩
def FLT_Q_Ww_WORD (m : Nat) : Fld := ⟨0x2000010014 + 4 * m, 31, 0, .ro, .x, 0⟩
def FLT_FORCE_DETAIL_DETAIL : Fld := ⟨0x2000010024, 15, 0, .rw, .l, 0⟩
def FLT_SAFE_DETAIL_SAFE_DETAIL : Fld := ⟨0x2000010028, 15, 0, .ro, .x, 0⟩
def FLT_PENDw_PEND (m : Nat) : Fld := ⟨0x2000010100 + 4 * m, 31, 0, .ro, .x, 0⟩
def FLT_SRCs_STATUS (m : Nat) : Fld := ⟨0x2000011000 + 4 * m, 31, 31, .w1c, .l, 0⟩
def FLT_SRCs_ESCALATED (m : Nat) : Fld := ⟨0x2000011000 + 4 * m, 30, 30, .ro, .x, 0⟩
def FLT_SRCs_PERSIST (m : Nat) : Fld := ⟨0x2000011000 + 4 * m, 29, 29, .ro, .x, 0⟩
def FLT_SRCs_TIMER (m : Nat) : Fld := ⟨0x2000011000 + 4 * m, 28, 28, .ro, .x, 0⟩
def FLT_SRCs_EFF (m : Nat) : Fld := ⟨0x2000011000 + 4 * m, 27, 26, .ro, .x, 0⟩
def FLT_SRCs_CLASS (m : Nat) : Fld := ⟨0x2000011000 + 4 * m, 25, 24, .rw, .l, fltClassReset m⟩
def FLT_SRCs_FORCE (m : Nat) : Fld := ⟨0x2000011000 + 4 * m, 23, 23, .wo, .l, 0⟩
def FLT_SRCs_COUNT_CLR (m : Nat) : Fld := ⟨0x2000011000 + 4 * m, 22, 22, .wo, .l, 0⟩
def FLT_SRCs_LAST_KIND (m : Nat) : Fld := ⟨0x2000011000 + 4 * m, 21, 16, .ro, .x, 0⟩
def FLT_SRCs_COUNT (m : Nat) : Fld := ⟨0x2000011000 + 4 * m, 15, 8, .ro, .x, 0⟩
def FLT_GRACEs_GRACE (m : Nat) : Fld := ⟨0x2000012000 + 4 * m, 19, 0, .rw, .l, 1000⟩

/-- The registers of block FLT. -/
def regsFLT : List RegRow := [
  ⟨0x2000010000, 1, 0x0, 0, 1, 0, fun _ _ => [FLT_STATUS_Q_OVF, FLT_STATUS_CLEAR_REFUSED, FLT_STATUS_B_PENDING, FLT_STATUS_SCOPE, FLT_STATUS_SAFE]⟩,
  ⟨0x2000010004, 1, 0x0, 0, 1, 0, fun _ _ => [FLT_SAFE_SAFE_SRC, FLT_SAFE_SAFE_KIND, FLT_SAFE_CLEAR]⟩,
  ⟨0x2000010008, 1, 0x0, 0, 1, 0, fun _ _ => [FLT_SAFE_TIME_LO_TIME]⟩,
  ⟨0x200001000c, 1, 0x0, 0, 1, 0, fun _ _ => [FLT_SAFE_TIME_HI_TIME]⟩,
  ⟨0x2000010010, 1, 0x0, 0, 1, 0, fun _ _ => [FLT_Q_LEVEL_LOST_TOTAL, FLT_Q_LEVEL_LEVEL]⟩,
  ⟨0x2000010014, 1, 0x0, 0, 4, 4, fun _ m => [FLT_Q_Ww_WORD m]⟩,
  ⟨0x2000010024, 1, 0x0, 0, 1, 0, fun _ _ => [FLT_FORCE_DETAIL_DETAIL]⟩,
  ⟨0x2000010028, 1, 0x0, 0, 1, 0, fun _ _ => [FLT_SAFE_DETAIL_SAFE_DETAIL]⟩,
  ⟨0x2000010100, 1, 0x0, 0, 32, 4, fun _ m => [FLT_PENDw_PEND m]⟩,
  ⟨0x2000011000, 1, 0x0, 0, 1024, 4, fun _ m => [FLT_SRCs_STATUS m, FLT_SRCs_ESCALATED m, FLT_SRCs_PERSIST m, FLT_SRCs_TIMER m, FLT_SRCs_EFF m, FLT_SRCs_CLASS m, FLT_SRCs_FORCE m, FLT_SRCs_COUNT_CLR m, FLT_SRCs_LAST_KIND m, FLT_SRCs_COUNT m]⟩,
  ⟨0x2000012000, 1, 0x0, 0, 1024, 4, fun _ m => [FLT_GRACEs_GRACE m]⟩]

/-! Block THM -/

def THM_STATUS_BAD_CAUSE : Fld := ⟨0x2000020000, 6, 5, .ro, .x, 0⟩
def THM_STATUS_CLEAR_REFUSED : Fld := ⟨0x2000020000, 4, 4, .w1c, .l, 0⟩
def THM_STATUS_SENSOR_BAD : Fld := ⟨0x2000020000, 3, 3, .w1c, .l, 0⟩
def THM_STATUS_TRIP_EN : Fld := ⟨0x2000020000, 2, 2, .ro, .x, 1⟩
def THM_STATUS_TRIP_ACT : Fld := ⟨0x2000020000, 1, 1, .ro, .x, 0⟩
def THM_STATUS_THROTTLING : Fld := ⟨0x2000020000, 0, 0, .ro, .x, 0⟩
def THM_TEMP_TEMP : Fld := ⟨0x2000020004, 31, 0, .ro, .x, 0⟩
def THM_LAST_LAST : Fld := ⟨0x2000020008, 15, 0, .ro, .x, 0⟩
def THM_T_THR_T_THR : Fld := ⟨0x200002000c, 15, 0, .rw, .l, 9500⟩
def THM_K_K : Fld := ⟨0x2000020010, 15, 0, .rw, .l, 500⟩
def THM_M_M_MAX : Fld := ⟨0x2000020014, 31, 16, .rw, .l, 20000⟩
def THM_M_MULT : Fld := ⟨0x2000020014, 15, 0, .ro, .x, 10000⟩
def THM_MULT_OVR_MULT_OVR : Fld := ⟨0x2000020018, 15, 0, .rw, .l, 0⟩

/-- The registers of block THM. -/
def regsTHM : List RegRow := [
  ⟨0x2000020000, 1, 0x0, 0, 1, 0, fun _ _ => [THM_STATUS_BAD_CAUSE, THM_STATUS_CLEAR_REFUSED, THM_STATUS_SENSOR_BAD, THM_STATUS_TRIP_EN, THM_STATUS_TRIP_ACT, THM_STATUS_THROTTLING]⟩,
  ⟨0x2000020004, 1, 0x0, 0, 1, 0, fun _ _ => [THM_TEMP_TEMP]⟩,
  ⟨0x2000020008, 1, 0x0, 0, 1, 0, fun _ _ => [THM_LAST_LAST]⟩,
  ⟨0x200002000c, 1, 0x0, 0, 1, 0, fun _ _ => [THM_T_THR_T_THR]⟩,
  ⟨0x2000020010, 1, 0x0, 0, 1, 0, fun _ _ => [THM_K_K]⟩,
  ⟨0x2000020014, 1, 0x0, 0, 1, 0, fun _ _ => [THM_M_M_MAX, THM_M_MULT]⟩,
  ⟨0x2000020018, 1, 0x0, 0, 1, 0, fun _ _ => [THM_MULT_OVR_MULT_OVR]⟩]

/-! Block TIME -/

def TIME_CTRL_PTP_OWN : Fld := ⟨0x2000030000, 0, 0, .rw, .l, 1⟩
def TIME_STATUS_PTP_CFG_ERR : Fld := ⟨0x2000030004, 9, 9, .ro, .x, 0⟩
def TIME_STATUS_TB_LIVE : Fld := ⟨0x2000030004, 8, 8, .ro, .x, 0⟩
def TIME_STATUS_SLEWING : Fld := ⟨0x2000030004, 7, 7, .ro, .x, 0⟩
def TIME_STATUS_INC_CLAMP : Fld := ⟨0x2000030004, 6, 6, .w1c, .l, 0⟩
def TIME_STATUS_STEP_REFUSED : Fld := ⟨0x2000030004, 5, 5, .w1c, .l, 0⟩
def TIME_STATUS_WRITE_REFUSED : Fld := ⟨0x2000030004, 4, 4, .w1c, .l, 0⟩
def TIME_STATUS_SYNC : Fld := ⟨0x2000030004, 2, 0, .ro, .x, 0⟩
def TIME_INC_INC : Fld := ⟨0x2000030008, 31, 0, .rw, .l, 67108864⟩
def TIME_ADJ_RATE_RATE : Fld := ⟨0x200003000c, 9, 0, .rw, .l, 100⟩
def TIME_NOW_FRAC_NOW : Fld := ⟨0x2000030010, 31, 0, .ro, .x, 0⟩
def TIME_NOW_NS_NOW : Fld := ⟨0x2000030014, 31, 0, .ro, .x, 0⟩
def TIME_NOW_SEC_LO_NOW : Fld := ⟨0x2000030018, 31, 0, .ro, .x, 0⟩
def TIME_NOW_SEC_HI_NOW : Fld := ⟨0x200003001c, 31, 0, .ro, .x, 0⟩
def TIME_SET_NS_SET : Fld := ⟨0x2000030020, 31, 0, .rw, .l, 0⟩
def TIME_SET_SEC_LO_SET : Fld := ⟨0x2000030024, 31, 0, .rw, .l, 0⟩
def TIME_SET_SEC_HI_SET : Fld := ⟨0x2000030028, 31, 0, .rw, .l, 0⟩
def TIME_OFS_LO_OFS : Fld := ⟨0x200003002c, 31, 0, .rw, .l, 0⟩
def TIME_OFS_HI_OFS : Fld := ⟨0x2000030030, 31, 0, .rw, .l, 0⟩
def TIME_ADJ_LEFT_VALUE : Fld := ⟨0x2000030034, 31, 0, .ro, .x, 0⟩
def TIME_OFFSET_VALUE : Fld := ⟨0x200003003c, 31, 0, .ro, .x, 0⟩
def TIME_CMD_ACTION : Fld := ⟨0x2000030038, 1, 0, .wo, .l, 0⟩
def TIME_STEPS_STEPS : Fld := ⟨0x2000030040, 31, 0, .ro, .x, 0⟩
def TIME_PTP_CFG_PRIORITY1 : Fld := ⟨0x2000030044, 31, 24, .rw, .s, 128⟩
def TIME_PTP_CFG_DOMAIN : Fld := ⟨0x2000030044, 23, 16, .rw, .s, 0⟩
def TIME_PTP_CFG_ROLE : Fld := ⟨0x2000030044, 11, 10, .rw, .l, 0⟩
def TIME_PTP_CFG_PORT : Fld := ⟨0x2000030044, 9, 8, .rw, .s, 0⟩
def TIME_PTP_CFG_TRANSPORT : Fld := ⟨0x2000030044, 7, 6, .rw, .s, 0⟩
def TIME_PTP_CFG_PROFILE : Fld := ⟨0x2000030044, 5, 4, .rw, .s, 0⟩
def TIME_PTP_CFG_ONE_STEP : Fld := ⟨0x2000030044, 3, 3, .rw, .s, 0⟩
def TIME_PTP_CFG2_LOG_SYNC : Fld := ⟨0x2000030048, 15, 8, .rw, .s, 253⟩
def TIME_PTP_CFG2_PRIORITY2 : Fld := ⟨0x2000030048, 7, 0, .rw, .s, 128⟩
def ALMc_CTRL_DISARM (n : Nat) : Fld := ⟨0x2000030100 + 0x20 * n, 1, 1, .wo, .l, 0⟩
def ALMc_CTRL_ARM (n : Nat) : Fld := ⟨0x2000030100 + 0x20 * n, 0, 0, .wo, .l, 0⟩
def ALMc_TARGET_LO_VALUE (n : Nat) : Fld := ⟨0x2000030104 + 0x20 * n, 31, 0, .rw, .b, 0⟩
def ALMc_TARGET_HI_VALUE (n : Nat) : Fld := ⟨0x2000030108 + 0x20 * n, 31, 0, .rw, .b, 0⟩
def ALMc_PERIOD_VALUE (n : Nat) : Fld := ⟨0x200003010c + 0x20 * n, 31, 0, .rw, .b, 0⟩
def ALMc_ACTION_VALUE (n : Nat) : Fld := ⟨0x2000030110 + 0x20 * n, 31, 0, .rw, .b, 0⟩
def ALMc_STATUS_MISSED (n : Nat) : Fld := ⟨0x2000030114 + 0x20 * n, 31, 16, .ro, .x, 0⟩
def ALMc_STATUS_DROPPED (n : Nat) : Fld := ⟨0x2000030114 + 0x20 * n, 15, 8, .ro, .x, 0⟩
def ALMc_STATUS_CFG (n : Nat) : Fld := ⟨0x2000030114 + 0x20 * n, 3, 3, .ro, .x, 0⟩
def ALMc_STATUS_LATE (n : Nat) : Fld := ⟨0x2000030114 + 0x20 * n, 2, 2, .w1c, .l, 0⟩
def ALMc_STATUS_FIRED (n : Nat) : Fld := ⟨0x2000030114 + 0x20 * n, 1, 1, .w1c, .l, 0⟩
def ALMc_STATUS_ARMED (n : Nat) : Fld := ⟨0x2000030114 + 0x20 * n, 0, 0, .ro, .x, 0⟩
def CAPk_CFG_EDGE (n : Nat) : Fld := ⟨0x2000030600 + 0x10 * n, 9, 8, .rw, .l, 0⟩
def CAPk_CFG_EN (n : Nat) : Fld := ⟨0x2000030600 + 0x10 * n, 7, 7, .rw, .l, 0⟩
def CAPk_CFG_PIN (n : Nat) : Fld := ⟨0x2000030600 + 0x10 * n, 6, 0, .rw, .l, 127⟩
def CAPk_TS_LO_TS (n : Nat) : Fld := ⟨0x2000030604 + 0x10 * n, 31, 0, .ro, .x, 0⟩
def CAPk_TS_HI_TS (n : Nat) : Fld := ⟨0x2000030608 + 0x10 * n, 31, 0, .ro, .x, 0⟩
def CAPk_STATUS_VALID (n : Nat) : Fld := ⟨0x200003060c + 0x10 * n, 9, 9, .ro, .x, 0⟩
def CAPk_STATUS_HEAD_EDGE (n : Nat) : Fld := ⟨0x200003060c + 0x10 * n, 8, 8, .ro, .x, 0⟩
def CAPk_STATUS_OVF (n : Nat) : Fld := ⟨0x200003060c + 0x10 * n, 4, 4, .w1c, .l, 0⟩
def CAPk_STATUS_COUNT (n : Nat) : Fld := ⟨0x200003060c + 0x10 * n, 2, 0, .ro, .x, 0⟩

/-- The registers of block TIME. -/
def regsTIME : List RegRow := [
  ⟨0x2000030000, 1, 0x0, 0, 1, 0, fun _ _ => [TIME_CTRL_PTP_OWN]⟩,
  ⟨0x2000030004, 1, 0x0, 0, 1, 0, fun _ _ => [TIME_STATUS_PTP_CFG_ERR, TIME_STATUS_TB_LIVE, TIME_STATUS_SLEWING, TIME_STATUS_INC_CLAMP, TIME_STATUS_STEP_REFUSED, TIME_STATUS_WRITE_REFUSED, TIME_STATUS_SYNC]⟩,
  ⟨0x2000030008, 1, 0x0, 0, 1, 0, fun _ _ => [TIME_INC_INC]⟩,
  ⟨0x200003000c, 1, 0x0, 0, 1, 0, fun _ _ => [TIME_ADJ_RATE_RATE]⟩,
  ⟨0x2000030010, 1, 0x0, 0, 1, 0, fun _ _ => [TIME_NOW_FRAC_NOW]⟩,
  ⟨0x2000030014, 1, 0x0, 0, 1, 0, fun _ _ => [TIME_NOW_NS_NOW]⟩,
  ⟨0x2000030018, 1, 0x0, 0, 1, 0, fun _ _ => [TIME_NOW_SEC_LO_NOW]⟩,
  ⟨0x200003001c, 1, 0x0, 0, 1, 0, fun _ _ => [TIME_NOW_SEC_HI_NOW]⟩,
  ⟨0x2000030020, 1, 0x0, 0, 1, 0, fun _ _ => [TIME_SET_NS_SET]⟩,
  ⟨0x2000030024, 1, 0x0, 0, 1, 0, fun _ _ => [TIME_SET_SEC_LO_SET]⟩,
  ⟨0x2000030028, 1, 0x0, 0, 1, 0, fun _ _ => [TIME_SET_SEC_HI_SET]⟩,
  ⟨0x200003002c, 1, 0x0, 0, 1, 0, fun _ _ => [TIME_OFS_LO_OFS]⟩,
  ⟨0x2000030030, 1, 0x0, 0, 1, 0, fun _ _ => [TIME_OFS_HI_OFS]⟩,
  ⟨0x2000030034, 1, 0x0, 0, 1, 0, fun _ _ => [TIME_ADJ_LEFT_VALUE]⟩,
  ⟨0x200003003c, 1, 0x0, 0, 1, 0, fun _ _ => [TIME_OFFSET_VALUE]⟩,
  ⟨0x2000030038, 1, 0x0, 0, 1, 0, fun _ _ => [TIME_CMD_ACTION]⟩,
  ⟨0x2000030040, 1, 0x0, 0, 1, 0, fun _ _ => [TIME_STEPS_STEPS]⟩,
  ⟨0x2000030044, 1, 0x0, 0, 1, 0, fun _ _ => [TIME_PTP_CFG_PRIORITY1, TIME_PTP_CFG_DOMAIN, TIME_PTP_CFG_ROLE, TIME_PTP_CFG_PORT, TIME_PTP_CFG_TRANSPORT, TIME_PTP_CFG_PROFILE, TIME_PTP_CFG_ONE_STEP]⟩,
  ⟨0x2000030048, 1, 0x0, 0, 1, 0, fun _ _ => [TIME_PTP_CFG2_LOG_SYNC, TIME_PTP_CFG2_PRIORITY2]⟩,
  ⟨0x2000030100, 32, 0x20, 0, 1, 0, fun n _ => [ALMc_CTRL_DISARM n, ALMc_CTRL_ARM n]⟩,
  ⟨0x2000030104, 32, 0x20, 0, 1, 0, fun n _ => [ALMc_TARGET_LO_VALUE n]⟩,
  ⟨0x2000030108, 32, 0x20, 0, 1, 0, fun n _ => [ALMc_TARGET_HI_VALUE n]⟩,
  ⟨0x200003010c, 32, 0x20, 0, 1, 0, fun n _ => [ALMc_PERIOD_VALUE n]⟩,
  ⟨0x2000030110, 32, 0x20, 0, 1, 0, fun n _ => [ALMc_ACTION_VALUE n]⟩,
  ⟨0x2000030114, 32, 0x20, 0, 1, 0, fun n _ => [ALMc_STATUS_MISSED n, ALMc_STATUS_DROPPED n, ALMc_STATUS_CFG n, ALMc_STATUS_LATE n, ALMc_STATUS_FIRED n, ALMc_STATUS_ARMED n]⟩,
  ⟨0x2000030600, 32, 0x10, 0, 1, 0, fun n _ => [CAPk_CFG_EDGE n, CAPk_CFG_EN n, CAPk_CFG_PIN n]⟩,
  ⟨0x2000030604, 32, 0x10, 0, 1, 0, fun n _ => [CAPk_TS_LO_TS n]⟩,
  ⟨0x2000030608, 32, 0x10, 0, 1, 0, fun n _ => [CAPk_TS_HI_TS n]⟩,
  ⟨0x200003060c, 32, 0x10, 0, 1, 0, fun n _ => [CAPk_STATUS_VALID n, CAPk_STATUS_HEAD_EDGE n, CAPk_STATUS_OVF n, CAPk_STATUS_COUNT n]⟩]

/-! Block ETHn -/

def ETHn_CTRL_RXC_ID (n : Nat) : Fld := ⟨0x2000040000 + 0x10000 * n, 9, 9, .rw, .s, 0⟩
def ETHn_CTRL_TXC_ID (n : Nat) : Fld := ⟨0x2000040000 + 0x10000 * n, 8, 8, .rw, .s, 0⟩
def ETHn_CTRL_SPEED (n : Nat) : Fld := ⟨0x2000040000 + 0x10000 * n, 5, 4, .rw, .s, 0⟩
def ETHn_CTRL_EN (n : Nat) : Fld := ⟨0x2000040000 + 0x10000 * n, 0, 0, .rw, .l, 0⟩
def ETHn_STATUS_TS_OVF (n : Nat) : Fld := ⟨0x2000040004 + 0x10000 * n, 2, 2, .w1c, .l, 0⟩
def ETHn_STATUS_WRITE_REFUSED (n : Nat) : Fld := ⟨0x2000040004 + 0x10000 * n, 1, 1, .w1c, .l, 0⟩
def ETHn_STATUS_LINK (n : Nat) : Fld := ⟨0x2000040004 + 0x10000 * n, 0, 0, .ro, .x, 0⟩
def ETHn_MAC_LO_MAC (n : Nat) : Fld := ⟨0x2000040008 + 0x10000 * n, 31, 0, .rw, .s, 0⟩
def ETHn_MAC_HI_MAC (n : Nat) : Fld := ⟨0x200004000c + 0x10000 * n, 31, 0, .rw, .s, 0⟩
def ETHn_PHYLAT_RX_LAT_100 (n : Nat) : Fld := ⟨0x2000040010 + 0x10000 * n, 31, 16, .rw, .l, 0⟩
def ETHn_PHYLAT_RX_LAT_1000 (n : Nat) : Fld := ⟨0x2000040010 + 0x10000 * n, 15, 0, .rw, .l, 0⟩
def ETHn_PHYLAT_TX_LAT_100 (n : Nat) : Fld := ⟨0x2000040014 + 0x10000 * n, 31, 16, .rw, .l, 0⟩
def ETHn_PHYLAT_TX_LAT_1000 (n : Nat) : Fld := ⟨0x2000040014 + 0x10000 * n, 15, 0, .rw, .l, 0⟩
def ETHn_TXTS_ID_TXTS (n : Nat) : Fld := ⟨0x2000040018 + 0x10000 * n, 31, 0, .ro, .x, 0⟩
def ETHn_TXTS_NS_TXTS (n : Nat) : Fld := ⟨0x200004001c + 0x10000 * n, 31, 0, .ro, .x, 0⟩
def ETHn_TXTS_SEC_LO_TXTS (n : Nat) : Fld := ⟨0x2000040020 + 0x10000 * n, 31, 0, .ro, .x, 0⟩
def ETHn_TXTS_SEC_HI_TXTS (n : Nat) : Fld := ⟨0x2000040024 + 0x10000 * n, 31, 0, .ro, .x, 0⟩

/-- The registers of block ETHn. -/
def regsETHn : List RegRow := [
  ⟨0x2000040000, 2, 0x10000, 0, 1, 0, fun n _ => [ETHn_CTRL_RXC_ID n, ETHn_CTRL_TXC_ID n, ETHn_CTRL_SPEED n, ETHn_CTRL_EN n]⟩,
  ⟨0x2000040004, 2, 0x10000, 0, 1, 0, fun n _ => [ETHn_STATUS_TS_OVF n, ETHn_STATUS_WRITE_REFUSED n, ETHn_STATUS_LINK n]⟩,
  ⟨0x2000040008, 2, 0x10000, 0, 1, 0, fun n _ => [ETHn_MAC_LO_MAC n]⟩,
  ⟨0x200004000c, 2, 0x10000, 0, 1, 0, fun n _ => [ETHn_MAC_HI_MAC n]⟩,
  ⟨0x2000040010, 2, 0x10000, 0, 1, 0, fun n _ => [ETHn_PHYLAT_RX_LAT_100 n, ETHn_PHYLAT_RX_LAT_1000 n]⟩,
  ⟨0x2000040014, 2, 0x10000, 0, 1, 0, fun n _ => [ETHn_PHYLAT_TX_LAT_100 n, ETHn_PHYLAT_TX_LAT_1000 n]⟩,
  ⟨0x2000040018, 2, 0x10000, 0, 1, 0, fun n _ => [ETHn_TXTS_ID_TXTS n]⟩,
  ⟨0x200004001c, 2, 0x10000, 0, 1, 0, fun n _ => [ETHn_TXTS_NS_TXTS n]⟩,
  ⟨0x2000040020, 2, 0x10000, 0, 1, 0, fun n _ => [ETHn_TXTS_SEC_LO_TXTS n]⟩,
  ⟨0x2000040024, 2, 0x10000, 0, 1, 0, fun n _ => [ETHn_TXTS_SEC_HI_TXTS n]⟩]

/-! Block PCIE -/

def PCIE_CTRL_MAX_SPEED : Fld := ⟨0x2000060000, 3, 1, .rw, .s, 4⟩
def PCIE_CTRL_LINK_EN : Fld := ⟨0x2000060000, 0, 0, .rw, .l, 0⟩
def PCIE_STATUS_WRITE_REFUSED : Fld := ⟨0x2000060004, 12, 12, .w1c, .l, 0⟩
def PCIE_STATUS_LINK_DOWN_SEEN : Fld := ⟨0x2000060004, 11, 11, .w1c, .l, 0⟩
def PCIE_STATUS_HOT_RESET_SEEN : Fld := ⟨0x2000060004, 10, 10, .w1c, .l, 0⟩
def PCIE_STATUS_FLR_SEEN : Fld := ⟨0x2000060004, 9, 9, .w1c, .l, 0⟩
def PCIE_STATUS_D3HOT : Fld := ⟨0x2000060004, 8, 8, .ro, .x, 0⟩
def PCIE_STATUS_BME : Fld := ⟨0x2000060004, 7, 7, .ro, .x, 0⟩
def PCIE_STATUS_WIDTH : Fld := ⟨0x2000060004, 6, 4, .ro, .x, 0⟩
def PCIE_STATUS_SPEED : Fld := ⟨0x2000060004, 3, 1, .ro, .x, 0⟩
def PCIE_STATUS_LINK_UP : Fld := ⟨0x2000060004, 0, 0, .ro, .x, 0⟩
def PCIE_SUBSYS_SUBSYS_ID : Fld := ⟨0x2000060008, 31, 16, .rw, .s, 0⟩
def PCIE_SUBSYS_SUBSYS_VID : Fld := ⟨0x2000060008, 15, 0, .rw, .s, 0⟩
def PCIE_ERRCNT_UNCORR : Fld := ⟨0x200006000c, 31, 16, .ro, .x, 0⟩
def PCIE_ERRCNT_CORR : Fld := ⟨0x200006000c, 15, 0, .ro, .x, 0⟩

/-- The registers of block PCIE. -/
def regsPCIE : List RegRow := [
  ⟨0x2000060000, 1, 0x0, 0, 1, 0, fun _ _ => [PCIE_CTRL_MAX_SPEED, PCIE_CTRL_LINK_EN]⟩,
  ⟨0x2000060004, 1, 0x0, 0, 1, 0, fun _ _ => [PCIE_STATUS_WRITE_REFUSED, PCIE_STATUS_LINK_DOWN_SEEN, PCIE_STATUS_HOT_RESET_SEEN, PCIE_STATUS_FLR_SEEN, PCIE_STATUS_D3HOT, PCIE_STATUS_BME, PCIE_STATUS_WIDTH, PCIE_STATUS_SPEED, PCIE_STATUS_LINK_UP]⟩,
  ⟨0x2000060008, 1, 0x0, 0, 1, 0, fun _ _ => [PCIE_SUBSYS_SUBSYS_ID, PCIE_SUBSYS_SUBSYS_VID]⟩,
  ⟨0x200006000c, 1, 0x0, 0, 1, 0, fun _ _ => [PCIE_ERRCNT_UNCORR, PCIE_ERRCNT_CORR]⟩]

/-! Block DMA -/

def DMA_STATUS_HALTED : Fld := ⟨0x2000070000, 31, 16, .ro, .x, 0⟩
def DMA_STATUS_BUSY : Fld := ⟨0x2000070000, 15, 0, .ro, .x, 0⟩
def DMAn_CTRL_HOSTLINK (n : Nat) : Fld := ⟨0x2000070100 + 0x20 * n, 31, 31, .ro, .x, (if n ≤ 7 then 1 else 0)⟩
def DMAn_CTRL_OWNER (n : Nat) : Fld := ⟨0x2000070100 + 0x20 * n, 24, 16, .rw, .s, 0⟩
def DMAn_CTRL_WEIGHT (n : Nat) : Fld := ⟨0x2000070100 + 0x20 * n, 7, 4, .rw, .b, 1⟩
def DMAn_CTRL_SKIP (n : Nat) : Fld := ⟨0x2000070100 + 0x20 * n, 2, 2, .wo, .l, 0⟩
def DMAn_CTRL_RESUME (n : Nat) : Fld := ⟨0x2000070100 + 0x20 * n, 1, 1, .wo, .l, 0⟩
def DMAn_CTRL_ENABLE (n : Nat) : Fld := ⟨0x2000070100 + 0x20 * n, 0, 0, .rw, .l, 0⟩
def DMAn_RING_LO_BASE_LO (n : Nat) : Fld := ⟨0x2000070104 + 0x20 * n, 31, 5, .rw, .s, 0⟩
def DMAn_RING_HI_SPACE (n : Nat) : Fld := ⟨0x2000070108 + 0x20 * n, 17, 16, .rw, .s, 0⟩
def DMAn_RING_HI_BASE_HI (n : Nat) : Fld := ⟨0x2000070108 + 0x20 * n, 7, 0, .rw, .s, 0⟩
def DMAn_RING_SIZE_LOG2 (n : Nat) : Fld := ⟨0x200007010c + 0x20 * n, 4, 0, .rw, .s, 3⟩
def DMAn_DOORBELL_TAIL (n : Nat) : Fld := ⟨0x2000070110 + 0x20 * n, 15, 0, .wo, .l, 0⟩
def DMAn_HEAD_TAIL (n : Nat) : Fld := ⟨0x2000070114 + 0x20 * n, 31, 16, .ro, .x, 0⟩
def DMAn_HEAD_HEAD (n : Nat) : Fld := ⟨0x2000070114 + 0x20 * n, 15, 0, .ro, .x, 0⟩
def DMAn_STATUS_ERR_INDEX (n : Nat) : Fld := ⟨0x2000070118 + 0x20 * n, 31, 16, .ro, .x, 0⟩
def DMAn_STATUS_ERR (n : Nat) : Fld := ⟨0x2000070118 + 0x20 * n, 15, 8, .ro, .x, 0⟩
def DMAn_STATUS_DOORBELL_REFUSED (n : Nat) : Fld := ⟨0x2000070118 + 0x20 * n, 2, 2, .w1c, .l, 0⟩
def DMAn_STATUS_WRITE_REFUSED (n : Nat) : Fld := ⟨0x2000070118 + 0x20 * n, 1, 1, .w1c, .l, 0⟩
def DMAn_STATUS_HALTED (n : Nat) : Fld := ⟨0x2000070118 + 0x20 * n, 0, 0, .ro, .x, 0⟩
def DMAn_COUNT_DONE (n : Nat) : Fld := ⟨0x200007011c + 0x20 * n, 31, 0, .ro, .x, 0⟩

/-- The registers of block DMA. -/
def regsDMA : List RegRow := [
  ⟨0x2000070000, 1, 0x0, 0, 1, 0, fun _ _ => [DMA_STATUS_HALTED, DMA_STATUS_BUSY]⟩,
  ⟨0x2000070100, 16, 0x20, 0, 1, 0, fun n _ => [DMAn_CTRL_HOSTLINK n, DMAn_CTRL_OWNER n, DMAn_CTRL_WEIGHT n, DMAn_CTRL_SKIP n, DMAn_CTRL_RESUME n, DMAn_CTRL_ENABLE n]⟩,
  ⟨0x2000070104, 16, 0x20, 0, 1, 0, fun n _ => [DMAn_RING_LO_BASE_LO n]⟩,
  ⟨0x2000070108, 16, 0x20, 0, 1, 0, fun n _ => [DMAn_RING_HI_SPACE n, DMAn_RING_HI_BASE_HI n]⟩,
  ⟨0x200007010c, 16, 0x20, 0, 1, 0, fun n _ => [DMAn_RING_SIZE_LOG2 n]⟩,
  ⟨0x2000070110, 16, 0x20, 0, 1, 0, fun n _ => [DMAn_DOORBELL_TAIL n]⟩,
  ⟨0x2000070114, 16, 0x20, 0, 1, 0, fun n _ => [DMAn_HEAD_TAIL n, DMAn_HEAD_HEAD n]⟩,
  ⟨0x2000070118, 16, 0x20, 0, 1, 0, fun n _ => [DMAn_STATUS_ERR_INDEX n, DMAn_STATUS_ERR n, DMAn_STATUS_DOORBELL_REFUSED n, DMAn_STATUS_WRITE_REFUSED n, DMAn_STATUS_HALTED n]⟩,
  ⟨0x200007011c, 16, 0x20, 0, 1, 0, fun n _ => [DMAn_COUNT_DONE n]⟩]

/-! Block DRAMC -/

def DRAMC_CFG_CAPACITY : Fld := ⟨0x2000080000, 6, 4, .ro, .x, 0⟩
def DRAMC_CFG_RATE : Fld := ⟨0x2000080000, 1, 0, .rw, .s, 0⟩
def DRAMC_STATUS_TEMP_HIGH : Fld := ⟨0x2000080004, 5, 5, .ro, .x, 0⟩
def DRAMC_STATUS_RSV_REFUSED : Fld := ⟨0x2000080004, 4, 4, .w1c, .l, 0⟩
def DRAMC_STATUS_WRITE_REFUSED : Fld := ⟨0x2000080004, 3, 3, .w1c, .l, 0⟩
def DRAMC_STATUS_TRAIN_FAIL : Fld := ⟨0x2000080004, 2, 2, .ro, .x, 0⟩
def DRAMC_STATUS_ZEROED : Fld := ⟨0x2000080004, 1, 1, .ro, .x, 0⟩
def DRAMC_STATUS_READY : Fld := ⟨0x2000080004, 0, 0, .ro, .x, 0⟩
def DRAMC_POOL_FREE_BLOCKS : Fld := ⟨0x2000080008, 31, 16, .ro, .x, 0⟩
def DRAMC_POOL_POOL_BLOCKS : Fld := ⟨0x2000080008, 15, 0, .ro, .x, 0⟩
def DRAMC_USABLE_USABLE_MIB : Fld := ⟨0x200008000c, 14, 0, .ro, .x, 0⟩
def DRAMC_RSVp_RSV (m : Nat) : Fld := ⟨0x2000080040 + 4 * m, 15, 0, .rw, .b, 0⟩
def DRAMC_RSV_SUM_SUM : Fld := ⟨0x2000080060, 18, 0, .ro, .x, 0⟩
def DRAMC_STARVE_STARVE : Fld := ⟨0x2000080064, 6, 0, .w1c, .l, 0⟩
def DRAMC_ECC_CNT_UNCORR : Fld := ⟨0x2000080068, 31, 16, .ro, .x, 0⟩
def DRAMC_ECC_CNT_CORR : Fld := ⟨0x2000080068, 15, 0, .ro, .x, 0⟩
def DRAMC_ERR_ADDR_LO_ERR_ADDR : Fld := ⟨0x200008006c, 31, 0, .ro, .x, 0⟩
def DRAMC_ERR_ADDR_HI_ERR_ADDR : Fld := ⟨0x2000080070, 31, 0, .ro, .x, 0⟩
def DRAMC_MERGE_STALLS : Fld := ⟨0x2000080074, 31, 16, .ro, .x, 0⟩
def DRAMC_MERGE_OCCUPIED : Fld := ⟨0x2000080074, 5, 0, .ro, .x, 0⟩

/-- The registers of block DRAMC. -/
def regsDRAMC : List RegRow := [
  ⟨0x2000080000, 1, 0x0, 0, 1, 0, fun _ _ => [DRAMC_CFG_CAPACITY, DRAMC_CFG_RATE]⟩,
  ⟨0x2000080004, 1, 0x0, 0, 1, 0, fun _ _ => [DRAMC_STATUS_TEMP_HIGH, DRAMC_STATUS_RSV_REFUSED, DRAMC_STATUS_WRITE_REFUSED, DRAMC_STATUS_TRAIN_FAIL, DRAMC_STATUS_ZEROED, DRAMC_STATUS_READY]⟩,
  ⟨0x2000080008, 1, 0x0, 0, 1, 0, fun _ _ => [DRAMC_POOL_FREE_BLOCKS, DRAMC_POOL_POOL_BLOCKS]⟩,
  ⟨0x200008000c, 1, 0x0, 0, 1, 0, fun _ _ => [DRAMC_USABLE_USABLE_MIB]⟩,
  ⟨0x2000080040, 1, 0x0, 0, 7, 4, fun _ m => [DRAMC_RSVp_RSV m]⟩,
  ⟨0x2000080060, 1, 0x0, 0, 1, 0, fun _ _ => [DRAMC_RSV_SUM_SUM]⟩,
  ⟨0x2000080064, 1, 0x0, 0, 1, 0, fun _ _ => [DRAMC_STARVE_STARVE]⟩,
  ⟨0x2000080068, 1, 0x0, 0, 1, 0, fun _ _ => [DRAMC_ECC_CNT_UNCORR, DRAMC_ECC_CNT_CORR]⟩,
  ⟨0x200008006c, 1, 0x0, 0, 1, 0, fun _ _ => [DRAMC_ERR_ADDR_LO_ERR_ADDR]⟩,
  ⟨0x2000080070, 1, 0x0, 0, 1, 0, fun _ _ => [DRAMC_ERR_ADDR_HI_ERR_ADDR]⟩,
  ⟨0x2000080074, 1, 0x0, 0, 1, 0, fun _ _ => [DRAMC_MERGE_STALLS, DRAMC_MERGE_OCCUPIED]⟩]

/-! Block MEMI -/

def MEMI_CTRL_AUTO_SPARE : Fld := ⟨0x2000090000, 1, 1, .rw, .l, 1⟩
def MEMI_CTRL_AUTO_REMAP : Fld := ⟨0x2000090000, 0, 0, .rw, .l, 1⟩
def MEMI_STATUS_WRITE_REFUSED : Fld := ⟨0x2000090004, 4, 4, .w1c, .l, 0⟩
def MEMI_STATUS_REMAP_FULL : Fld := ⟨0x2000090004, 3, 3, .w1c, .l, 0⟩
def MEMI_STATUS_RANGE_REFUSED : Fld := ⟨0x2000090004, 2, 2, .w1c, .l, 0⟩
def MEMI_STATUS_RANGE_DONE : Fld := ⟨0x2000090004, 1, 1, .w1c, .l, 0⟩
def MEMI_STATUS_RANGE_BUSY : Fld := ⟨0x2000090004, 0, 0, .ro, .x, 0⟩
def MEMI_LEAKc_OVF (m : Nat) : Fld := ⟨0x2000090010 + 4 * m, 24, 24, .w1c, .l, 0⟩
def MEMI_LEAKc_LEVEL (m : Nat) : Fld := ⟨0x2000090010 + 4 * m, 20, 16, .ro, .x, 0⟩
def MEMI_LEAKc_LEAK_INT (m : Nat) : Fld := ⟨0x2000090010 + 4 * m, 15, 0, .rw, .l, 1000⟩
def MEMI_SCRUBc_PASSES (m : Nat) : Fld := ⟨0x2000090020 + 4 * m, 31, 16, .ro, .x, 0⟩
def MEMI_SCRUBc_SCRUB_INT (m : Nat) : Fld := ⟨0x2000090020 + 4 * m, 15, 0, .rw, .l, 16⟩
def MEMI_RANGE_START_LO_ADDR : Fld := ⟨0x2000090040, 31, 0, .rw, .l, 0⟩
def MEMI_RANGE_START_HI_ADDR : Fld := ⟨0x2000090044, 7, 0, .rw, .l, 0⟩
def MEMI_RANGE_END_LO_ADDR : Fld := ⟨0x2000090048, 31, 0, .rw, .l, 0⟩
def MEMI_RANGE_END_HI_ADDR : Fld := ⟨0x200009004c, 7, 0, .rw, .l, 0⟩
def MEMI_RANGE_CMD_GO : Fld := ⟨0x2000090050, 0, 0, .wo, .l, 0⟩
def MEMI_RANGE_COUNT_UNCORR : Fld := ⟨0x2000090054, 31, 16, .ro, .x, 0⟩
def MEMI_RANGE_COUNT_CORR : Fld := ⟨0x2000090054, 15, 0, .ro, .x, 0⟩
def MEMI_RANGE_FIRST_LO_ADDR : Fld := ⟨0x2000090058, 31, 0, .ro, .x, 0⟩
def MEMI_RANGE_FIRST_HI_ADDR : Fld := ⟨0x200009005c, 7, 0, .ro, .x, 0⟩
def MEMI_RANGE_LAST_LO_ADDR : Fld := ⟨0x2000090060, 31, 0, .ro, .x, 0⟩
def MEMI_RANGE_LAST_HI_ADDR : Fld := ⟨0x2000090064, 7, 0, .ro, .x, 0⟩
def MEMI_REMAP_ADDR_LO_LINE : Fld := ⟨0x2000090070, 31, 0, .rw, .l, 0⟩
def MEMI_REMAP_ADDR_HI_LINE : Fld := ⟨0x2000090074, 7, 0, .rw, .l, 0⟩
def MEMI_REMAP_CMD_ACTION : Fld := ⟨0x2000090078, 1, 0, .wo, .l, 0⟩
def MEMI_REMAP_USED_USED : Fld := ⟨0x200009007c, 5, 0, .ro, .x, 0⟩
def MEMI_MACRO_SEL_MACRO : Fld := ⟨0x2000090080, 8, 0, .rw, .l, 0⟩
def MEMI_MACRO_STAT_SOURCE : Fld := ⟨0x2000090084, 31, 22, .ro, .x, 0⟩
def MEMI_MACRO_STAT_KIND : Fld := ⟨0x2000090084, 21, 20, .ro, .x, 0⟩
def MEMI_MACRO_STAT_ERRORS : Fld := ⟨0x2000090084, 15, 3, .ro, .x, 0⟩
def MEMI_MACRO_STAT_SPARES_USED : Fld := ⟨0x2000090084, 2, 0, .ro, .x, 0⟩
def MEMI_REMAPe_LO_ENTRY (m : Nat) : Fld := ⟨0x2000090100 + 8 * m, 31, 0, .ro, .x, 0⟩
def MEMI_REMAPe_HI_ENTRY (m : Nat) : Fld := ⟨0x2000090104 + 8 * m, 31, 0, .ro, .x, 0⟩

/-- The registers of block MEMI. -/
def regsMEMI : List RegRow := [
  ⟨0x2000090000, 1, 0x0, 0, 1, 0, fun _ _ => [MEMI_CTRL_AUTO_SPARE, MEMI_CTRL_AUTO_REMAP]⟩,
  ⟨0x2000090004, 1, 0x0, 0, 1, 0, fun _ _ => [MEMI_STATUS_WRITE_REFUSED, MEMI_STATUS_REMAP_FULL, MEMI_STATUS_RANGE_REFUSED, MEMI_STATUS_RANGE_DONE, MEMI_STATUS_RANGE_BUSY]⟩,
  ⟨0x2000090010, 1, 0x0, 0, 4, 4, fun _ m => [MEMI_LEAKc_OVF m, MEMI_LEAKc_LEVEL m, MEMI_LEAKc_LEAK_INT m]⟩,
  ⟨0x2000090020, 1, 0x0, 0, 3, 4, fun _ m => [MEMI_SCRUBc_PASSES m, MEMI_SCRUBc_SCRUB_INT m]⟩,
  ⟨0x2000090040, 1, 0x0, 0, 1, 0, fun _ _ => [MEMI_RANGE_START_LO_ADDR]⟩,
  ⟨0x2000090044, 1, 0x0, 0, 1, 0, fun _ _ => [MEMI_RANGE_START_HI_ADDR]⟩,
  ⟨0x2000090048, 1, 0x0, 0, 1, 0, fun _ _ => [MEMI_RANGE_END_LO_ADDR]⟩,
  ⟨0x200009004c, 1, 0x0, 0, 1, 0, fun _ _ => [MEMI_RANGE_END_HI_ADDR]⟩,
  ⟨0x2000090050, 1, 0x0, 0, 1, 0, fun _ _ => [MEMI_RANGE_CMD_GO]⟩,
  ⟨0x2000090054, 1, 0x0, 0, 1, 0, fun _ _ => [MEMI_RANGE_COUNT_UNCORR, MEMI_RANGE_COUNT_CORR]⟩,
  ⟨0x2000090058, 1, 0x0, 0, 1, 0, fun _ _ => [MEMI_RANGE_FIRST_LO_ADDR]⟩,
  ⟨0x200009005c, 1, 0x0, 0, 1, 0, fun _ _ => [MEMI_RANGE_FIRST_HI_ADDR]⟩,
  ⟨0x2000090060, 1, 0x0, 0, 1, 0, fun _ _ => [MEMI_RANGE_LAST_LO_ADDR]⟩,
  ⟨0x2000090064, 1, 0x0, 0, 1, 0, fun _ _ => [MEMI_RANGE_LAST_HI_ADDR]⟩,
  ⟨0x2000090070, 1, 0x0, 0, 1, 0, fun _ _ => [MEMI_REMAP_ADDR_LO_LINE]⟩,
  ⟨0x2000090074, 1, 0x0, 0, 1, 0, fun _ _ => [MEMI_REMAP_ADDR_HI_LINE]⟩,
  ⟨0x2000090078, 1, 0x0, 0, 1, 0, fun _ _ => [MEMI_REMAP_CMD_ACTION]⟩,
  ⟨0x200009007c, 1, 0x0, 0, 1, 0, fun _ _ => [MEMI_REMAP_USED_USED]⟩,
  ⟨0x2000090080, 1, 0x0, 0, 1, 0, fun _ _ => [MEMI_MACRO_SEL_MACRO]⟩,
  ⟨0x2000090084, 1, 0x0, 0, 1, 0, fun _ _ => [MEMI_MACRO_STAT_SOURCE, MEMI_MACRO_STAT_KIND, MEMI_MACRO_STAT_ERRORS, MEMI_MACRO_STAT_SPARES_USED]⟩,
  ⟨0x2000090100, 1, 0x0, 0, 32, 8, fun _ m => [MEMI_REMAPe_LO_ENTRY m]⟩,
  ⟨0x2000090104, 1, 0x0, 0, 32, 8, fun _ m => [MEMI_REMAPe_HI_ENTRY m]⟩]

/-! Block LEDG -/

def LEDG_CTRL_COMPACT_NOW : Fld := ⟨0x20000a0000, 1, 1, .wo, .l, 0⟩
def LEDG_CTRL_DEGRADED_OK : Fld := ⟨0x20000a0000, 0, 0, .rw, .b, 0⟩
def LEDG_STATUS_RESET_KIND : Fld := ⟨0x20000a0004, 11, 8, .ro, .x, 0⟩
def LEDG_STATUS_DECLARE_REFUSED : Fld := ⟨0x20000a0004, 7, 7, .w1c, .l, 0⟩
def LEDG_STATUS_WRITE_REFUSED : Fld := ⟨0x20000a0004, 6, 6, .w1c, .l, 0⟩
def LEDG_STATUS_JOURNAL_ERR : Fld := ⟨0x20000a0004, 5, 5, .w1c, .l, 0⟩
def LEDG_STATUS_RECOVERY_HOLD : Fld := ⟨0x20000a0004, 4, 4, .ro, .x, 1⟩
def LEDG_STATUS_RUN_OPEN : Fld := ⟨0x20000a0004, 3, 3, .ro, .x, 0⟩
def LEDG_STATUS_COMPACTING : Fld := ⟨0x20000a0004, 2, 2, .ro, .x, 0⟩
def LEDG_STATUS_BACKUP_OK : Fld := ⟨0x20000a0004, 1, 1, .ro, .x, 0⟩
def LEDG_STATUS_GUARANTEE_DEGRADED : Fld := ⟨0x20000a0004, 0, 0, .ro, .x, 0⟩
def LEDG_LIMITER_SOURCE : Fld := ⟨0x20000a0008, 25, 16, .ro, .x, 0⟩
def LEDG_LIMITER_LAST_PITCH : Fld := ⟨0x20000a0008, 12, 8, .ro, .x, 31⟩
def LEDG_LIMITER_CODE : Fld := ⟨0x20000a0008, 4, 0, .ro, .x, 31⟩
def LEDG_COUNT_INFLIGHT : Fld := ⟨0x20000a000c, 28, 16, .ro, .x, 0⟩
def LEDG_COUNT_LIVE : Fld := ⟨0x20000a000c, 12, 0, .ro, .x, 0⟩
def LEDG_PITCH_MIN_PITCH_MIN : Fld := ⟨0x20000a0010, 31, 0, .rw, .b, 0⟩
def LEDG_ADMIT_LEAD_ADMIT_LEAD : Fld := ⟨0x20000a0014, 23, 0, .rw, .b, 100000⟩
def LEDG_LOCK_DIST_LOCK_DIST : Fld := ⟨0x20000a0018, 23, 0, .rw, .b, 50000⟩
def LEDG_XFER_DIST_XFER_DIST : Fld := ⟨0x20000a001c, 23, 0, .rw, .s, 0⟩
def LEDG_IDLE_COMPACT_IDLE_COMPACT : Fld := ⟨0x20000a0020, 15, 0, .rw, .l, 10000⟩
def LEDG_EFF_PITCH_EFF_PITCH : Fld := ⟨0x20000a0024, 31, 0, .ro, .x, 0⟩
def LEDG_NEXT_SEQ_LO_NEXT_SEQ : Fld := ⟨0x20000a0028, 31, 0, .ro, .x, 0⟩
def LEDG_NEXT_SEQ_HI_NEXT_SEQ : Fld := ⟨0x20000a002c, 31, 0, .ro, .x, 0⟩
def LEDG_COMMIT_POS_LO_COMMIT_POS : Fld := ⟨0x20000a0030, 31, 0, .ro, .x, 0⟩
def LEDG_COMMIT_POS_HI_COMMIT_POS : Fld := ⟨0x20000a0034, 31, 0, .ro, .x, 0⟩
def LEDG_JRN_FILL_STAGED : Fld := ⟨0x20000a0038, 24, 16, .ro, .x, 0⟩
def LEDG_JRN_FILL_BLOCKS_USED : Fld := ⟨0x20000a0038, 9, 0, .ro, .x, 0⟩
def LEDG_JRN_RETIRED_RETIRED : Fld := ⟨0x20000a003c, 9, 0, .ro, .x, 0⟩
def LEDG_DECLARE_SEQ_DECLARE_SEQ : Fld := ⟨0x20000a0040, 31, 0, .wo, .l, 0⟩
def LEDG_DECLARE_EVENT : Fld := ⟨0x20000a0044, 2, 0, .wo, .l, 0⟩
def LEDG_ACK_SEQ_LO_ACK_SEQ : Fld := ⟨0x20000a0048, 31, 0, .ro, .x, 0⟩
def LEDG_ACK_SEQ_HI_ACK_SEQ : Fld := ⟨0x20000a004c, 31, 0, .ro, .x, 0⟩

/-- The registers of block LEDG. -/
def regsLEDG : List RegRow := [
  ⟨0x20000a0000, 1, 0x0, 0, 1, 0, fun _ _ => [LEDG_CTRL_COMPACT_NOW, LEDG_CTRL_DEGRADED_OK]⟩,
  ⟨0x20000a0004, 1, 0x0, 0, 1, 0, fun _ _ => [LEDG_STATUS_RESET_KIND, LEDG_STATUS_DECLARE_REFUSED, LEDG_STATUS_WRITE_REFUSED, LEDG_STATUS_JOURNAL_ERR, LEDG_STATUS_RECOVERY_HOLD, LEDG_STATUS_RUN_OPEN, LEDG_STATUS_COMPACTING, LEDG_STATUS_BACKUP_OK, LEDG_STATUS_GUARANTEE_DEGRADED]⟩,
  ⟨0x20000a0008, 1, 0x0, 0, 1, 0, fun _ _ => [LEDG_LIMITER_SOURCE, LEDG_LIMITER_LAST_PITCH, LEDG_LIMITER_CODE]⟩,
  ⟨0x20000a000c, 1, 0x0, 0, 1, 0, fun _ _ => [LEDG_COUNT_INFLIGHT, LEDG_COUNT_LIVE]⟩,
  ⟨0x20000a0010, 1, 0x0, 0, 1, 0, fun _ _ => [LEDG_PITCH_MIN_PITCH_MIN]⟩,
  ⟨0x20000a0014, 1, 0x0, 0, 1, 0, fun _ _ => [LEDG_ADMIT_LEAD_ADMIT_LEAD]⟩,
  ⟨0x20000a0018, 1, 0x0, 0, 1, 0, fun _ _ => [LEDG_LOCK_DIST_LOCK_DIST]⟩,
  ⟨0x20000a001c, 1, 0x0, 0, 1, 0, fun _ _ => [LEDG_XFER_DIST_XFER_DIST]⟩,
  ⟨0x20000a0020, 1, 0x0, 0, 1, 0, fun _ _ => [LEDG_IDLE_COMPACT_IDLE_COMPACT]⟩,
  ⟨0x20000a0024, 1, 0x0, 0, 1, 0, fun _ _ => [LEDG_EFF_PITCH_EFF_PITCH]⟩,
  ⟨0x20000a0028, 1, 0x0, 0, 1, 0, fun _ _ => [LEDG_NEXT_SEQ_LO_NEXT_SEQ]⟩,
  ⟨0x20000a002c, 1, 0x0, 0, 1, 0, fun _ _ => [LEDG_NEXT_SEQ_HI_NEXT_SEQ]⟩,
  ⟨0x20000a0030, 1, 0x0, 0, 1, 0, fun _ _ => [LEDG_COMMIT_POS_LO_COMMIT_POS]⟩,
  ⟨0x20000a0034, 1, 0x0, 0, 1, 0, fun _ _ => [LEDG_COMMIT_POS_HI_COMMIT_POS]⟩,
  ⟨0x20000a0038, 1, 0x0, 0, 1, 0, fun _ _ => [LEDG_JRN_FILL_STAGED, LEDG_JRN_FILL_BLOCKS_USED]⟩,
  ⟨0x20000a003c, 1, 0x0, 0, 1, 0, fun _ _ => [LEDG_JRN_RETIRED_RETIRED]⟩,
  ⟨0x20000a0040, 1, 0x0, 0, 1, 0, fun _ _ => [LEDG_DECLARE_SEQ_DECLARE_SEQ]⟩,
  ⟨0x20000a0044, 1, 0x0, 0, 1, 0, fun _ _ => [LEDG_DECLARE_EVENT]⟩,
  ⟨0x20000a0048, 1, 0x0, 0, 1, 0, fun _ _ => [LEDG_ACK_SEQ_LO_ACK_SEQ]⟩,
  ⟨0x20000a004c, 1, 0x0, 0, 1, 0, fun _ _ => [LEDG_ACK_SEQ_HI_ACK_SEQ]⟩]

/-! Block PLC -/

def PLC_CTRL_RETIRE_EN : Fld := ⟨0x20000b0000, 1, 1, .rw, .b, 1⟩
def PLC_CTRL_SLOW_EN : Fld := ⟨0x20000b0000, 0, 0, .rw, .b, 1⟩
def PLC_STATUS_SLOW : Fld := ⟨0x20000b0004, 6, 6, .w1c, .l, 0⟩
def PLC_STATUS_OVERRUN : Fld := ⟨0x20000b0004, 5, 5, .w1c, .l, 0⟩
def PLC_STATUS_TRAPPED : Fld := ⟨0x20000b0004, 4, 4, .ro, .x, 0⟩
def PLC_STATUS_CMD_REFUSED : Fld := ⟨0x20000b0004, 3, 3, .w1c, .l, 0⟩
def PLC_STATUS_WRITE_REFUSED : Fld := ⟨0x20000b0004, 2, 2, .w1c, .l, 0⟩
def PLC_STATUS_MOVE_PENDING : Fld := ⟨0x20000b0004, 1, 1, .ro, .x, 0⟩
def PLC_STATUS_PLACED : Fld := ⟨0x20000b0004, 0, 0, .ro, .x, 0⟩
def PLC_PLACE_ERR_TASK : Fld := ⟨0x20000b0008, 24, 16, .ro, .x, 0⟩
def PLC_PLACE_ERR_CODE : Fld := ⟨0x20000b0008, 3, 0, .ro, .x, 0⟩
def PLC_MOVES_FAIL_MOVES : Fld := ⟨0x20000b000c, 31, 16, .ro, .x, 0⟩
def PLC_MOVES_BOUNDARY_MOVES : Fld := ⟨0x20000b000c, 15, 0, .ro, .x, 0⟩
def PLC_TASK_SEL_TASK : Fld := ⟨0x20000b0010, 8, 0, .rw, .l, 0⟩
def PLC_TASK_STATE_PC : Fld := ⟨0x20000b0014, 31, 16, .ro, .x, 0⟩
def PLC_TASK_STATE_KIND : Fld := ⟨0x20000b0014, 8, 8, .ro, .x, 0⟩
def PLC_TASK_STATE_CLASS : Fld := ⟨0x20000b0014, 7, 6, .ro, .x, 0⟩
def PLC_TASK_STATE_PRIORITY : Fld := ⟨0x20000b0014, 5, 4, .ro, .x, 0⟩
def PLC_TASK_STATE_PENDING : Fld := ⟨0x20000b0014, 3, 3, .ro, .x, 0⟩
def PLC_TASK_STATE_STATE : Fld := ⟨0x20000b0014, 2, 0, .ro, .x, 0⟩
def PLC_TASK_PLACE_LOGICAL : Fld := ⟨0x20000b0018, 11, 8, .ro, .x, 0⟩
def PLC_TASK_PLACE_PHYS : Fld := ⟨0x20000b0018, 4, 0, .ro, .x, 0⟩
def PLC_TASK_TRAP_PC : Fld := ⟨0x20000b001c, 31, 16, .ro, .x, 0⟩
def PLC_TASK_TRAP_STREAK : Fld := ⟨0x20000b001c, 9, 8, .ro, .x, 0⟩
def PLC_TASK_TRAP_KIND : Fld := ⟨0x20000b001c, 7, 0, .ro, .x, 0⟩
def PLC_TASK_OVERRUN_OVERRUN : Fld := ⟨0x20000b0020, 15, 0, .ro, .x, 0⟩
def PLC_TASK_CYCLES_MAX_CYCLES : Fld := ⟨0x20000b0024, 31, 0, .ro, .x, 0⟩
def PLC_TASK_SLACK_MIN_SLACK : Fld := ⟨0x20000b0028, 31, 0, .ro, .x, 4294967295⟩
def PLC_TASK_SEGLOC_LOC_0 : Fld := ⟨0x20000b002c, 1, 0, .ro, .x, 3⟩
def PLC_TASK_SEGLOC_LOC_1 : Fld := ⟨0x20000b002c, 3, 2, .ro, .x, 3⟩
def PLC_TASK_SEGLOC_LOC_2 : Fld := ⟨0x20000b002c, 5, 4, .ro, .x, 3⟩
def PLC_TASK_SEGLOC_LOC_3 : Fld := ⟨0x20000b002c, 7, 6, .ro, .x, 3⟩
def PLC_TASK_SEGLOC_LOC_4 : Fld := ⟨0x20000b002c, 9, 8, .ro, .x, 3⟩
def PLC_TASK_SEGLOC_LOC_5 : Fld := ⟨0x20000b002c, 11, 10, .ro, .x, 3⟩
def PLC_TASK_SEGLOC_LOC_6 : Fld := ⟨0x20000b002c, 13, 12, .ro, .x, 3⟩
def PLC_TASK_SEGLOC_LOC_7 : Fld := ⟨0x20000b002c, 15, 14, .ro, .x, 3⟩
def PLC_TASK_SEGLOC_LOC_8 : Fld := ⟨0x20000b002c, 17, 16, .ro, .x, 3⟩
def PLC_TASK_SEGLOC_LOC_9 : Fld := ⟨0x20000b002c, 19, 18, .ro, .x, 3⟩
def PLC_TASK_SEGLOC_LOC_10 : Fld := ⟨0x20000b002c, 21, 20, .ro, .x, 3⟩
def PLC_TASK_SEGLOC_LOC_11 : Fld := ⟨0x20000b002c, 23, 22, .ro, .x, 3⟩
def PLC_TASK_SEGLOC_LOC_12 : Fld := ⟨0x20000b002c, 25, 24, .ro, .x, 3⟩
def PLC_TASK_SEGLOC_LOC_13 : Fld := ⟨0x20000b002c, 27, 26, .ro, .x, 3⟩
def PLC_TASK_SEGLOC_LOC_14 : Fld := ⟨0x20000b002c, 29, 28, .ro, .x, 3⟩
def PLC_TASK_SEGLOC_LOC_15 : Fld := ⟨0x20000b002c, 31, 30, .ro, .x, 3⟩
def PLC_TASK_CMD_ACTION : Fld := ⟨0x20000b0030, 17, 16, .wo, .l, 0⟩
def PLC_TASK_CMD_TASK : Fld := ⟨0x20000b0030, 8, 0, .wo, .l, 0⟩
def PLC_ENGp_LOAD (m : Nat) : Fld := ⟨0x20000b0100 + 4 * m, 29, 16, .ro, .x, 0⟩
def PLC_ENGp_TASKS (m : Nat) : Fld := ⟨0x20000b0100 + 4 * m, 15, 11, .ro, .x, 0⟩
def PLC_ENGp_STATE (m : Nat) : Fld := ⟨0x20000b0100 + 4 * m, 6, 4, .ro, .x, 0⟩
def PLC_ENGp_LOGICAL (m : Nat) : Fld := ⟨0x20000b0100 + 4 * m, 3, 0, .ro, .x, 0⟩

/-- The registers of block PLC. -/
def regsPLC : List RegRow := [
  ⟨0x20000b0000, 1, 0x0, 0, 1, 0, fun _ _ => [PLC_CTRL_RETIRE_EN, PLC_CTRL_SLOW_EN]⟩,
  ⟨0x20000b0004, 1, 0x0, 0, 1, 0, fun _ _ => [PLC_STATUS_SLOW, PLC_STATUS_OVERRUN, PLC_STATUS_TRAPPED, PLC_STATUS_CMD_REFUSED, PLC_STATUS_WRITE_REFUSED, PLC_STATUS_MOVE_PENDING, PLC_STATUS_PLACED]⟩,
  ⟨0x20000b0008, 1, 0x0, 0, 1, 0, fun _ _ => [PLC_PLACE_ERR_TASK, PLC_PLACE_ERR_CODE]⟩,
  ⟨0x20000b000c, 1, 0x0, 0, 1, 0, fun _ _ => [PLC_MOVES_FAIL_MOVES, PLC_MOVES_BOUNDARY_MOVES]⟩,
  ⟨0x20000b0010, 1, 0x0, 0, 1, 0, fun _ _ => [PLC_TASK_SEL_TASK]⟩,
  ⟨0x20000b0014, 1, 0x0, 0, 1, 0, fun _ _ => [PLC_TASK_STATE_PC, PLC_TASK_STATE_KIND, PLC_TASK_STATE_CLASS, PLC_TASK_STATE_PRIORITY, PLC_TASK_STATE_PENDING, PLC_TASK_STATE_STATE]⟩,
  ⟨0x20000b0018, 1, 0x0, 0, 1, 0, fun _ _ => [PLC_TASK_PLACE_LOGICAL, PLC_TASK_PLACE_PHYS]⟩,
  ⟨0x20000b001c, 1, 0x0, 0, 1, 0, fun _ _ => [PLC_TASK_TRAP_PC, PLC_TASK_TRAP_STREAK, PLC_TASK_TRAP_KIND]⟩,
  ⟨0x20000b0020, 1, 0x0, 0, 1, 0, fun _ _ => [PLC_TASK_OVERRUN_OVERRUN]⟩,
  ⟨0x20000b0024, 1, 0x0, 0, 1, 0, fun _ _ => [PLC_TASK_CYCLES_MAX_CYCLES]⟩,
  ⟨0x20000b0028, 1, 0x0, 0, 1, 0, fun _ _ => [PLC_TASK_SLACK_MIN_SLACK]⟩,
  ⟨0x20000b002c, 1, 0x0, 0, 1, 0, fun _ _ => [PLC_TASK_SEGLOC_LOC_0, PLC_TASK_SEGLOC_LOC_1, PLC_TASK_SEGLOC_LOC_2, PLC_TASK_SEGLOC_LOC_3, PLC_TASK_SEGLOC_LOC_4, PLC_TASK_SEGLOC_LOC_5, PLC_TASK_SEGLOC_LOC_6, PLC_TASK_SEGLOC_LOC_7, PLC_TASK_SEGLOC_LOC_8, PLC_TASK_SEGLOC_LOC_9, PLC_TASK_SEGLOC_LOC_10, PLC_TASK_SEGLOC_LOC_11, PLC_TASK_SEGLOC_LOC_12, PLC_TASK_SEGLOC_LOC_13, PLC_TASK_SEGLOC_LOC_14, PLC_TASK_SEGLOC_LOC_15]⟩,
  ⟨0x20000b0030, 1, 0x0, 0, 1, 0, fun _ _ => [PLC_TASK_CMD_ACTION, PLC_TASK_CMD_TASK]⟩,
  ⟨0x20000b0100, 1, 0x0, 0, 25, 4, fun _ m => [PLC_ENGp_LOAD m, PLC_ENGp_TASKS m, PLC_ENGp_STATE m, PLC_ENGp_LOGICAL m]⟩]

/-! Block REC -/

def REC_CTRL_STOP : Fld := ⟨0x20000c0000, 9, 9, .wo, .l, 0⟩
def REC_CTRL_REPLAY : Fld := ⟨0x20000c0000, 8, 8, .wo, .l, 0⟩
def REC_CTRL_LOAD_RING : Fld := ⟨0x20000c0000, 7, 7, .wo, .l, 0⟩
def REC_CTRL_LOAD_NOR : Fld := ⟨0x20000c0000, 6, 6, .wo, .l, 0⟩
def REC_CTRL_NOR_EXPORT : Fld := ⟨0x20000c0000, 5, 5, .wo, .l, 0⟩
def REC_CTRL_REARM : Fld := ⟨0x20000c0000, 4, 4, .wo, .l, 0⟩
def REC_CTRL_FREEZE : Fld := ⟨0x20000c0000, 3, 3, .wo, .l, 0⟩
def REC_CTRL_TRIG_DEFECT : Fld := ⟨0x20000c0000, 2, 2, .rw, .l, 0⟩
def REC_CTRL_TRIG_FAIL : Fld := ⟨0x20000c0000, 1, 1, .rw, .l, 1⟩
def REC_CTRL_ENABLE : Fld := ⟨0x20000c0000, 0, 0, .rw, .l, 1⟩
def REC_CFG_POST : Fld := ⟨0x20000c0004, 31, 16, .rw, .l, 100⟩
def REC_CFG_TRIG_CLASS : Fld := ⟨0x20000c0004, 11, 10, .rw, .l, 2⟩
def REC_CFG_SNAP_INT : Fld := ⟨0x20000c0004, 9, 5, .rw, .l, 10⟩
def REC_CFG_RING_LOG2 : Fld := ⟨0x20000c0004, 4, 0, .rw, .s, 28⟩
def REC_STATUS_STATE : Fld := ⟨0x20000c0008, 31, 28, .ro, .x, 0⟩
def REC_STATUS_TRIG_CAUSE : Fld := ⟨0x20000c0008, 27, 24, .ro, .x, 0⟩
def REC_STATUS_REPLAY_CAUSE : Fld := ⟨0x20000c0008, 23, 20, .ro, .x, 0⟩
def REC_STATUS_DONE : Fld := ⟨0x20000c0008, 6, 6, .w1c, .l, 0⟩
def REC_STATUS_DIVERGED : Fld := ⟨0x20000c0008, 5, 5, .w1c, .l, 0⟩
def REC_STATUS_REPLAY_REFUSED : Fld := ⟨0x20000c0008, 4, 4, .w1c, .l, 0⟩
def REC_STATUS_CMD_REFUSED : Fld := ⟨0x20000c0008, 3, 3, .w1c, .l, 0⟩
def REC_STATUS_GAP : Fld := ⟨0x20000c0008, 2, 2, .w1c, .l, 0⟩
def REC_STATUS_WRITE_REFUSED : Fld := ⟨0x20000c0008, 1, 1, .w1c, .l, 0⟩
def REC_FROZEN_LEN_VALUE : Fld := ⟨0x20000c000c, 31, 0, .ro, .x, 0⟩
def REC_LOST_VALUE : Fld := ⟨0x20000c0010, 31, 0, .ro, .x, 0⟩
def REC_TRIG_TIME_LO_TIME : Fld := ⟨0x20000c0014, 31, 0, .ro, .x, 0⟩
def REC_TRIG_TIME_HI_TIME : Fld := ⟨0x20000c0018, 31, 0, .ro, .x, 0⟩
def REC_DIV_TIME_LO_TIME : Fld := ⟨0x20000c001c, 31, 0, .ro, .x, 0⟩
def REC_DIV_TIME_HI_TIME : Fld := ⟨0x20000c0020, 31, 0, .ro, .x, 0⟩
def REC_DIV_KIND : Fld := ⟨0x20000c0024, 31, 28, .ro, .x, 0⟩
def REC_DIV_TASK : Fld := ⟨0x20000c0024, 24, 16, .ro, .x, 0⟩
def REC_DIV_PHYS : Fld := ⟨0x20000c0024, 4, 0, .ro, .x, 0⟩
def REC_DIV_PC_VALUE : Fld := ⟨0x20000c0028, 31, 0, .ro, .x, 0⟩
def REC_DIV_ADDR_VALUE : Fld := ⟨0x20000c002c, 31, 0, .ro, .x, 0⟩

/-- The registers of block REC. -/
def regsREC : List RegRow := [
  ⟨0x20000c0000, 1, 0x0, 0, 1, 0, fun _ _ => [REC_CTRL_STOP, REC_CTRL_REPLAY, REC_CTRL_LOAD_RING, REC_CTRL_LOAD_NOR, REC_CTRL_NOR_EXPORT, REC_CTRL_REARM, REC_CTRL_FREEZE, REC_CTRL_TRIG_DEFECT, REC_CTRL_TRIG_FAIL, REC_CTRL_ENABLE]⟩,
  ⟨0x20000c0004, 1, 0x0, 0, 1, 0, fun _ _ => [REC_CFG_POST, REC_CFG_TRIG_CLASS, REC_CFG_SNAP_INT, REC_CFG_RING_LOG2]⟩,
  ⟨0x20000c0008, 1, 0x0, 0, 1, 0, fun _ _ => [REC_STATUS_STATE, REC_STATUS_TRIG_CAUSE, REC_STATUS_REPLAY_CAUSE, REC_STATUS_DONE, REC_STATUS_DIVERGED, REC_STATUS_REPLAY_REFUSED, REC_STATUS_CMD_REFUSED, REC_STATUS_GAP, REC_STATUS_WRITE_REFUSED]⟩,
  ⟨0x20000c000c, 1, 0x0, 0, 1, 0, fun _ _ => [REC_FROZEN_LEN_VALUE]⟩,
  ⟨0x20000c0010, 1, 0x0, 0, 1, 0, fun _ _ => [REC_LOST_VALUE]⟩,
  ⟨0x20000c0014, 1, 0x0, 0, 1, 0, fun _ _ => [REC_TRIG_TIME_LO_TIME]⟩,
  ⟨0x20000c0018, 1, 0x0, 0, 1, 0, fun _ _ => [REC_TRIG_TIME_HI_TIME]⟩,
  ⟨0x20000c001c, 1, 0x0, 0, 1, 0, fun _ _ => [REC_DIV_TIME_LO_TIME]⟩,
  ⟨0x20000c0020, 1, 0x0, 0, 1, 0, fun _ _ => [REC_DIV_TIME_HI_TIME]⟩,
  ⟨0x20000c0024, 1, 0x0, 0, 1, 0, fun _ _ => [REC_DIV_KIND, REC_DIV_TASK, REC_DIV_PHYS]⟩,
  ⟨0x20000c0028, 1, 0x0, 0, 1, 0, fun _ _ => [REC_DIV_PC_VALUE]⟩,
  ⟨0x20000c002c, 1, 0x0, 0, 1, 0, fun _ _ => [REC_DIV_ADDR_VALUE]⟩]

/-! Block UPD -/

def UPD_STATUS_FLASH_ERR : Fld := ⟨0x20000d0000, 11, 11, .ro, .x, 0⟩
def UPD_STATUS_KEY_OPEN : Fld := ⟨0x20000d0000, 10, 10, .ro, .x, 0⟩
def UPD_STATUS_CMD_REFUSED : Fld := ⟨0x20000d0000, 9, 9, .w1c, .l, 0⟩
def UPD_STATUS_TOKEN_FAIL : Fld := ⟨0x20000d0000, 8, 8, .w1c, .l, 0⟩
def UPD_STATUS_TOKEN_FAILS : Fld := ⟨0x20000d0000, 7, 6, .ro, .x, 0⟩
def UPD_STATUS_DEBUG_OPEN : Fld := ⟨0x20000d0000, 5, 5, .ro, .x, 0⟩
def UPD_STATUS_UPD_LOCK : Fld := ⟨0x20000d0000, 4, 4, .ro, .x, 0⟩
def UPD_STATUS_RUN_STATE : Fld := ⟨0x20000d0000, 3, 1, .ro, .x, 0⟩
def UPD_STATUS_RUN_SLOT : Fld := ⟨0x20000d0000, 0, 0, .ro, .x, 0⟩
def UPD_VERSION_VERSION : Fld := ⟨0x20000d0004, 31, 0, .ro, .x, 0⟩
def UPD_STAGED_VERSION_VERSION : Fld := ⟨0x20000d0008, 31, 0, .ro, .x, 0⟩
def UPD_SCHEMA_STAGED : Fld := ⟨0x20000d000c, 31, 16, .ro, .x, 0⟩
def UPD_SCHEMA_RUNNING : Fld := ⟨0x20000d000c, 15, 0, .ro, .x, 0⟩
def UPD_TOKENw_TOKEN (m : Nat) : Fld := ⟨0x20000d0010 + 4 * m, 31, 0, .wo, .l, 0⟩
def UPD_CMD_ACTION : Fld := ⟨0x20000d0020, 1, 0, .wo, .l, 0⟩
def UPD_WEAR_CTRL_ERR_THR : Fld := ⟨0x20000d0100, 23, 16, .rw, .l, 16⟩
def UPD_WEAR_CTRL_AGE_THR : Fld := ⟨0x20000d0100, 15, 8, .rw, .l, 30⟩
def UPD_WEAR_CTRL_AUTO_RETIRE : Fld := ⟨0x20000d0100, 0, 0, .rw, .l, 1⟩
def UPD_WEAR_SEL_SOURCE : Fld := ⟨0x20000d0104, 9, 0, .rw, .l, 0⟩
def UPD_WEAR_UNIT_STATE : Fld := ⟨0x20000d0108, 31, 29, .ro, .x, 0⟩
def UPD_WEAR_UNIT_WORN : Fld := ⟨0x20000d0108, 28, 28, .ro, .x, 0⟩
def UPD_WEAR_UNIT_AGE : Fld := ⟨0x20000d0108, 25, 16, .ro, .x, 0⟩
def UPD_WEAR_UNIT_ERRORS : Fld := ⟨0x20000d0108, 15, 0, .ro, .x, 0⟩
def UPD_WEAR_CMD_ACTION : Fld := ⟨0x20000d010c, 1, 0, .wo, .l, 0⟩

/-- The registers of block UPD. -/
def regsUPD : List RegRow := [
  ⟨0x20000d0000, 1, 0x0, 0, 1, 0, fun _ _ => [UPD_STATUS_FLASH_ERR, UPD_STATUS_KEY_OPEN, UPD_STATUS_CMD_REFUSED, UPD_STATUS_TOKEN_FAIL, UPD_STATUS_TOKEN_FAILS, UPD_STATUS_DEBUG_OPEN, UPD_STATUS_UPD_LOCK, UPD_STATUS_RUN_STATE, UPD_STATUS_RUN_SLOT]⟩,
  ⟨0x20000d0004, 1, 0x0, 0, 1, 0, fun _ _ => [UPD_VERSION_VERSION]⟩,
  ⟨0x20000d0008, 1, 0x0, 0, 1, 0, fun _ _ => [UPD_STAGED_VERSION_VERSION]⟩,
  ⟨0x20000d000c, 1, 0x0, 0, 1, 0, fun _ _ => [UPD_SCHEMA_STAGED, UPD_SCHEMA_RUNNING]⟩,
  ⟨0x20000d0010, 1, 0x0, 0, 4, 4, fun _ m => [UPD_TOKENw_TOKEN m]⟩,
  ⟨0x20000d0020, 1, 0x0, 0, 1, 0, fun _ _ => [UPD_CMD_ACTION]⟩,
  ⟨0x20000d0100, 1, 0x0, 0, 1, 0, fun _ _ => [UPD_WEAR_CTRL_ERR_THR, UPD_WEAR_CTRL_AGE_THR, UPD_WEAR_CTRL_AUTO_RETIRE]⟩,
  ⟨0x20000d0104, 1, 0x0, 0, 1, 0, fun _ _ => [UPD_WEAR_SEL_SOURCE]⟩,
  ⟨0x20000d0108, 1, 0x0, 0, 1, 0, fun _ _ => [UPD_WEAR_UNIT_STATE, UPD_WEAR_UNIT_WORN, UPD_WEAR_UNIT_AGE, UPD_WEAR_UNIT_ERRORS]⟩,
  ⟨0x20000d010c, 1, 0x0, 0, 1, 0, fun _ _ => [UPD_WEAR_CMD_ACTION]⟩]

/-! Block RAIL -/

def RAIL_CTRL_LOSS_FROST : Fld := ⟨0x20000e0000, 6, 6, .rw, .l, 1⟩
def RAIL_CTRL_SAFE_FROST : Fld := ⟨0x20000e0000, 5, 5, .rw, .l, 1⟩
def RAIL_CTRL_AUTO_RESTART : Fld := ⟨0x20000e0000, 4, 4, .rw, .l, 0⟩
def RAIL_CTRL_FROST : Fld := ⟨0x20000e0000, 1, 1, .wo, .l, 0⟩
def RAIL_CTRL_THAW : Fld := ⟨0x20000e0000, 0, 0, .wo, .l, 0⟩
def RAIL_STATUS_STATE : Fld := ⟨0x20000e0004, 31, 28, .ro, .x, 0⟩
def RAIL_STATUS_STEP : Fld := ⟨0x20000e0004, 26, 24, .ro, .x, 0⟩
def RAIL_STATUS_SLAVE : Fld := ⟨0x20000e0004, 23, 20, .ro, .x, 0⟩
def RAIL_STATUS_SEQ_IN : Fld := ⟨0x20000e0004, 17, 17, .ro, .x, 0⟩
def RAIL_STATUS_SEQ_OUT : Fld := ⟨0x20000e0004, 16, 16, .ro, .x, 0⟩
def RAIL_STATUS_FROST_CAUSE : Fld := ⟨0x20000e0004, 15, 12, .ro, .x, 0⟩
def RAIL_STATUS_THAW_PEND : Fld := ⟨0x20000e0004, 8, 8, .ro, .x, 0⟩
def RAIL_STATUS_CMD_REFUSED : Fld := ⟨0x20000e0004, 7, 7, .w1c, .l, 0⟩
def RAIL_STATUS_WRITE_REFUSED : Fld := ⟨0x20000e0004, 6, 6, .w1c, .l, 0⟩
def RAIL_STATUS_LINK_ERR : Fld := ⟨0x20000e0004, 5, 5, .w1c, .l, 0⟩
def RAIL_STATUS_RAIL_LOST : Fld := ⟨0x20000e0004, 4, 4, .w1c, .l, 0⟩
def RAIL_STATUS_FROST_STUCK : Fld := ⟨0x20000e0004, 3, 3, .w1c, .l, 0⟩
def RAIL_STATUS_RAIL_UNSTABLE : Fld := ⟨0x20000e0004, 2, 2, .w1c, .l, 0⟩
def RAIL_STATUS_THAW_FAIL : Fld := ⟨0x20000e0004, 1, 1, .w1c, .l, 0⟩
def RAIL_CFG_POLL : Fld := ⟨0x20000e0008, 15, 8, .rw, .s, 10⟩
def RAIL_CFG_NSLAVES : Fld := ⟨0x20000e0008, 3, 0, .rw, .s, 0⟩
def RAIL_HOLDOFF_RESTART_HOLD : Fld := ⟨0x20000e000c, 15, 0, .rw, .l, 500⟩
def RAIL_CHAIN_SLAVE_FROST_TO : Fld := ⟨0x20000e0010, 31, 16, .rw, .s, 1000⟩
def RAIL_CHAIN_CHAIN_TO : Fld := ⟨0x20000e0010, 15, 0, .rw, .s, 1000⟩
def RAIL_GOOD_EN : Fld := ⟨0x20000e0014, 15, 8, .ro, .x, 0⟩
def RAIL_GOOD_GOOD : Fld := ⟨0x20000e0014, 7, 0, .ro, .x, 0⟩
def RAIL_STIME_A_HIGH : Fld := ⟨0x20000e0018, 29, 16, .rw, .s, 500⟩
def RAIL_STIME_A_LOW : Fld := ⟨0x20000e0018, 13, 0, .rw, .s, 10⟩
def RAIL_STIME_B_HIGH : Fld := ⟨0x20000e001c, 29, 16, .rw, .s, 200⟩
def RAIL_STIME_B_LOW : Fld := ⟨0x20000e001c, 13, 0, .rw, .s, 100⟩
def RAIL_STEPs_FROST_TO (m : Nat) : Fld := ⟨0x20000e0020 + 4 * m, 31, 20, .rw, .s, 200⟩
def RAIL_STEPs_THAW_TO (m : Nat) : Fld := ⟨0x20000e0020 + 4 * m, 19, 8, .rw, .s, 500⟩
def RAIL_STEPs_SETTLE (m : Nat) : Fld := ⟨0x20000e0020 + 4 * m, 7, 0, .rw, .s, 10⟩
def RAIL_RAILr_A_USED (m : Nat) : Fld := ⟨0x20000e0040 + 8 * m, 31, 31, .rw, .s, 0⟩
def RAIL_RAILr_A_STEP (m : Nat) : Fld := ⟨0x20000e0040 + 8 * m, 26, 24, .rw, .s, 0⟩
def RAIL_RAILr_A_SENSE (m : Nat) : Fld := ⟨0x20000e0040 + 8 * m, 21, 16, .rw, .s, 63⟩
def RAIL_RAILr_A_NOM (m : Nat) : Fld := ⟨0x20000e0040 + 8 * m, 11, 0, .rw, .s, 0⟩
def RAIL_RAILr_B_FLIPS (m : Nat) : Fld := ⟨0x20000e0044 + 8 * m, 31, 24, .ro, .x, 0⟩
def RAIL_RAILr_B_OFF (m : Nat) : Fld := ⟨0x20000e0044 + 8 * m, 15, 8, .rw, .s, 10⟩
def RAIL_RAILr_B_TOL (m : Nat) : Fld := ⟨0x20000e0044 + 8 * m, 7, 0, .rw, .s, 5⟩
def RAIL_SLAVEk_VALID (m : Nat) : Fld := ⟨0x20000e00bc + 4 * m, 31, 31, .ro, .x, 0⟩
def RAIL_SLAVEk_STATE (m : Nat) : Fld := ⟨0x20000e00bc + 4 * m, 30, 28, .ro, .x, 0⟩
def RAIL_SLAVEk_STEP (m : Nat) : Fld := ⟨0x20000e00bc + 4 * m, 26, 24, .ro, .x, 0⟩
def RAIL_SLAVEk_FAULT (m : Nat) : Fld := ⟨0x20000e00bc + 4 * m, 23, 16, .ro, .x, 0⟩
def RAIL_SLAVEk_GOOD (m : Nat) : Fld := ⟨0x20000e00bc + 4 * m, 7, 0, .ro, .x, 0⟩
def RAIL_SRAILk_USED_0 (m : Nat) : Fld := ⟨0x20000e00dc + 4 * m, 3, 3, .rw, .s, 0⟩
def RAIL_SRAILk_USED_1 (m : Nat) : Fld := ⟨0x20000e00dc + 4 * m, 7, 7, .rw, .s, 0⟩
def RAIL_SRAILk_USED_2 (m : Nat) : Fld := ⟨0x20000e00dc + 4 * m, 11, 11, .rw, .s, 0⟩
def RAIL_SRAILk_USED_3 (m : Nat) : Fld := ⟨0x20000e00dc + 4 * m, 15, 15, .rw, .s, 0⟩
def RAIL_SRAILk_USED_4 (m : Nat) : Fld := ⟨0x20000e00dc + 4 * m, 19, 19, .rw, .s, 0⟩
def RAIL_SRAILk_USED_5 (m : Nat) : Fld := ⟨0x20000e00dc + 4 * m, 23, 23, .rw, .s, 0⟩
def RAIL_SRAILk_USED_6 (m : Nat) : Fld := ⟨0x20000e00dc + 4 * m, 27, 27, .rw, .s, 0⟩
def RAIL_SRAILk_USED_7 (m : Nat) : Fld := ⟨0x20000e00dc + 4 * m, 31, 31, .rw, .s, 0⟩
def RAIL_SRAILk_STEP_0 (m : Nat) : Fld := ⟨0x20000e00dc + 4 * m, 2, 0, .rw, .s, 0⟩
def RAIL_SRAILk_STEP_1 (m : Nat) : Fld := ⟨0x20000e00dc + 4 * m, 6, 4, .rw, .s, 0⟩
def RAIL_SRAILk_STEP_2 (m : Nat) : Fld := ⟨0x20000e00dc + 4 * m, 10, 8, .rw, .s, 0⟩
def RAIL_SRAILk_STEP_3 (m : Nat) : Fld := ⟨0x20000e00dc + 4 * m, 14, 12, .rw, .s, 0⟩
def RAIL_SRAILk_STEP_4 (m : Nat) : Fld := ⟨0x20000e00dc + 4 * m, 18, 16, .rw, .s, 0⟩
def RAIL_SRAILk_STEP_5 (m : Nat) : Fld := ⟨0x20000e00dc + 4 * m, 22, 20, .rw, .s, 0⟩
def RAIL_SRAILk_STEP_6 (m : Nat) : Fld := ⟨0x20000e00dc + 4 * m, 26, 24, .rw, .s, 0⟩
def RAIL_SRAILk_STEP_7 (m : Nat) : Fld := ⟨0x20000e00dc + 4 * m, 30, 28, .rw, .s, 0⟩
def RAIL_RSk_HI (m : Nat) : Fld := ⟨0x20000e0100 + 4 * m, 27, 16, .ro, .x, 0⟩
def RAIL_RSk_LO (m : Nat) : Fld := ⟨0x20000e0100 + 4 * m, 11, 0, .ro, .x, 0⟩

/-- The registers of block RAIL. -/
def regsRAIL : List RegRow := [
  ⟨0x20000e0000, 1, 0x0, 0, 1, 0, fun _ _ => [RAIL_CTRL_LOSS_FROST, RAIL_CTRL_SAFE_FROST, RAIL_CTRL_AUTO_RESTART, RAIL_CTRL_FROST, RAIL_CTRL_THAW]⟩,
  ⟨0x20000e0004, 1, 0x0, 0, 1, 0, fun _ _ => [RAIL_STATUS_STATE, RAIL_STATUS_STEP, RAIL_STATUS_SLAVE, RAIL_STATUS_SEQ_IN, RAIL_STATUS_SEQ_OUT, RAIL_STATUS_FROST_CAUSE, RAIL_STATUS_THAW_PEND, RAIL_STATUS_CMD_REFUSED, RAIL_STATUS_WRITE_REFUSED, RAIL_STATUS_LINK_ERR, RAIL_STATUS_RAIL_LOST, RAIL_STATUS_FROST_STUCK, RAIL_STATUS_RAIL_UNSTABLE, RAIL_STATUS_THAW_FAIL]⟩,
  ⟨0x20000e0008, 1, 0x0, 0, 1, 0, fun _ _ => [RAIL_CFG_POLL, RAIL_CFG_NSLAVES]⟩,
  ⟨0x20000e000c, 1, 0x0, 0, 1, 0, fun _ _ => [RAIL_HOLDOFF_RESTART_HOLD]⟩,
  ⟨0x20000e0010, 1, 0x0, 0, 1, 0, fun _ _ => [RAIL_CHAIN_SLAVE_FROST_TO, RAIL_CHAIN_CHAIN_TO]⟩,
  ⟨0x20000e0014, 1, 0x0, 0, 1, 0, fun _ _ => [RAIL_GOOD_EN, RAIL_GOOD_GOOD]⟩,
  ⟨0x20000e0018, 1, 0x0, 0, 1, 0, fun _ _ => [RAIL_STIME_A_HIGH, RAIL_STIME_A_LOW]⟩,
  ⟨0x20000e001c, 1, 0x0, 0, 1, 0, fun _ _ => [RAIL_STIME_B_HIGH, RAIL_STIME_B_LOW]⟩,
  ⟨0x20000e0020, 1, 0x0, 0, 8, 4, fun _ m => [RAIL_STEPs_FROST_TO m, RAIL_STEPs_THAW_TO m, RAIL_STEPs_SETTLE m]⟩,
  ⟨0x20000e0040, 1, 0x0, 0, 8, 8, fun _ m => [RAIL_RAILr_A_USED m, RAIL_RAILr_A_STEP m, RAIL_RAILr_A_SENSE m, RAIL_RAILr_A_NOM m]⟩,
  ⟨0x20000e0044, 1, 0x0, 0, 8, 8, fun _ m => [RAIL_RAILr_B_FLIPS m, RAIL_RAILr_B_OFF m, RAIL_RAILr_B_TOL m]⟩,
  ⟨0x20000e00bc, 1, 0x0, 1, 9, 4, fun _ m => [RAIL_SLAVEk_VALID m, RAIL_SLAVEk_STATE m, RAIL_SLAVEk_STEP m, RAIL_SLAVEk_FAULT m, RAIL_SLAVEk_GOOD m]⟩,
  ⟨0x20000e00dc, 1, 0x0, 1, 9, 4, fun _ m => [RAIL_SRAILk_USED_0 m, RAIL_SRAILk_USED_1 m, RAIL_SRAILk_USED_2 m, RAIL_SRAILk_USED_3 m, RAIL_SRAILk_USED_4 m, RAIL_SRAILk_USED_5 m, RAIL_SRAILk_USED_6 m, RAIL_SRAILk_USED_7 m, RAIL_SRAILk_STEP_0 m, RAIL_SRAILk_STEP_1 m, RAIL_SRAILk_STEP_2 m, RAIL_SRAILk_STEP_3 m, RAIL_SRAILk_STEP_4 m, RAIL_SRAILk_STEP_5 m, RAIL_SRAILk_STEP_6 m, RAIL_SRAILk_STEP_7 m]⟩,
  ⟨0x20000e0100, 1, 0x0, 0, 20, 4, fun _ m => [RAIL_RSk_HI m, RAIL_RSk_LO m]⟩]

/-! Block HIF -/

def HIF_ID_MAGIC : Fld := ⟨0x10000000000, 31, 16, .ro, .x, 21080⟩
def HIF_ID_MAJOR : Fld := ⟨0x10000000000, 15, 8, .ro, .x, 1⟩
def HIF_ID_MINOR : Fld := ⟨0x10000000000, 7, 0, .ro, .x, 0⟩
def HIF_CTRL_IRQ_EN : Fld := ⟨0x10000000004, 1, 1, .rw, .l, 0⟩
def HIF_CTRL_ENABLE : Fld := ⟨0x10000000004, 0, 0, .rw, .l, 0⟩
def HIF_STATUS_RECOVERY : Fld := ⟨0x10000000008, 3, 3, .ro, .x, 0⟩
def HIF_STATUS_RESYNC_PENDING : Fld := ⟨0x10000000008, 2, 2, .ro, .x, 0⟩
def HIF_STATUS_EVT_OVERFLOW : Fld := ⟨0x10000000008, 1, 1, .w1c, .l, 0⟩
def HIF_STATUS_READY : Fld := ⟨0x10000000008, 0, 0, .ro, .x, 0⟩
def HIF_CMD_TAIL_CMD_TAIL : Fld := ⟨0x10000000010, 9, 0, .rw, .l, 0⟩
def HIF_CMD_HEAD_CMD_HEAD : Fld := ⟨0x10000000014, 9, 0, .ro, .x, 0⟩
def HIF_EVT_HEAD_EVT_HEAD : Fld := ⟨0x10000000018, 11, 0, .rw, .l, 0⟩
def HIF_EVT_TAIL_EVT_TAIL : Fld := ⟨0x1000000001c, 11, 0, .ro, .x, 0⟩
def HIF_IRQ_HOLDOFF_HOLDOFF : Fld := ⟨0x10000000020, 15, 0, .rw, .l, 20⟩
def HIF_BAR2_BASE_BASE : Fld := ⟨0x10000000024, 11, 0, .rw, .l, 0⟩

/-- The registers of block HIF. -/
def regsHIF : List RegRow := [
  ⟨0x10000000000, 1, 0x0, 0, 1, 0, fun _ _ => [HIF_ID_MAGIC, HIF_ID_MAJOR, HIF_ID_MINOR]⟩,
  ⟨0x10000000004, 1, 0x0, 0, 1, 0, fun _ _ => [HIF_CTRL_IRQ_EN, HIF_CTRL_ENABLE]⟩,
  ⟨0x10000000008, 1, 0x0, 0, 1, 0, fun _ _ => [HIF_STATUS_RECOVERY, HIF_STATUS_RESYNC_PENDING, HIF_STATUS_EVT_OVERFLOW, HIF_STATUS_READY]⟩,
  ⟨0x10000000010, 1, 0x0, 0, 1, 0, fun _ _ => [HIF_CMD_TAIL_CMD_TAIL]⟩,
  ⟨0x10000000014, 1, 0x0, 0, 1, 0, fun _ _ => [HIF_CMD_HEAD_CMD_HEAD]⟩,
  ⟨0x10000000018, 1, 0x0, 0, 1, 0, fun _ _ => [HIF_EVT_HEAD_EVT_HEAD]⟩,
  ⟨0x1000000001c, 1, 0x0, 0, 1, 0, fun _ _ => [HIF_EVT_TAIL_EVT_TAIL]⟩,
  ⟨0x10000000020, 1, 0x0, 0, 1, 0, fun _ _ => [HIF_IRQ_HOLDOFF_HOLDOFF]⟩,
  ⟨0x10000000024, 1, 0x0, 0, 1, 0, fun _ _ => [HIF_BAR2_BASE_BASE]⟩]

end Sys2Proof.Machine
end

