-- ==== Sys2Proof/Machine/Regs2.lean ====
section
/-! DEFINITION. The register fields of the spec's register tables, one constant for each field, under the
register's and the field's own names (the index letters of an arrayed register stand in its name, as in the spec).
Offsets, bit ranges, access codes (R5), Apply classes (R6) and reset values are those of the tables; the block bases
are those of R12. -/

namespace Sys2Proof.Machine

/-! Block STNn -/

def STNn_PL_CTRL_INTERP (n : Nat) : Fld := ⟨0x2000100000 + 0x10000 * n, 3, 3, .rw, .b, 1⟩
def STNn_PL_CTRL_HOLD (n : Nat) : Fld := ⟨0x2000100000 + 0x10000 * n, 2, 2, .rw, .l, 0⟩
def STNn_PL_CTRL_ENABLE (n : Nat) : Fld := ⟨0x2000100000 + 0x10000 * n, 0, 0, .rw, .l, 0⟩
def STNn_PL_CFG_BEAMS_Q (n : Nat) : Fld := ⟨0x2000100004 + 0x10000 * n, 10, 8, .rw, .s, 7⟩
def STNn_PL_CFG_BAR_ORDER (n : Nat) : Fld := ⟨0x2000100004 + 0x10000 * n, 2, 2, .rw, .s, 0⟩
def STNn_PL_CFG_RES (n : Nat) : Fld := ⟨0x2000100004 + 0x10000 * n, 1, 1, .rw, .s, 1⟩
def STNn_PL_CFG_KIND (n : Nat) : Fld := ⟨0x2000100004 + 0x10000 * n, 0, 0, .rw, .s, 0⟩
def STNn_PL_WIDTH_N (n : Nat) : Fld := ⟨0x2000100008 + 0x10000 * n, 15, 0, .rw, .s, 0⟩
def STNn_PL_XORG_XORG (n : Nat) : Fld := ⟨0x200010000c + 0x10000 * n, 15, 0, .rw, .b, 0⟩
def STNn_PL_STATUS_SERVED_X (n : Nat) : Fld := ⟨0x2000100010 + 0x10000 * n, 10, 10, .ro, .x, 0⟩
def STNn_PL_STATUS_SHIM_CLAMP (n : Nat) : Fld := ⟨0x2000100010 + 0x10000 * n, 9, 9, .w1c, .l, 0⟩
def STNn_PL_STATUS_SLOW (n : Nat) : Fld := ⟨0x2000100010 + 0x10000 * n, 8, 8, .w1c, .l, 0⟩
def STNn_PL_STATUS_TILE_ERR (n : Nat) : Fld := ⟨0x2000100010 + 0x10000 * n, 7, 7, .w1c, .l, 0⟩
def STNn_PL_STATUS_LATE (n : Nat) : Fld := ⟨0x2000100010 + 0x10000 * n, 6, 6, .w1c, .l, 0⟩
def STNn_PL_STATUS_WRITE_REFUSED (n : Nat) : Fld := ⟨0x2000100010 + 0x10000 * n, 5, 5, .w1c, .l, 0⟩
def STNn_PL_STATUS_PATCH_PENDING (n : Nat) : Fld := ⟨0x2000100010 + 0x10000 * n, 4, 4, .ro, .x, 0⟩
def STNn_PL_STATUS_LOAD_BUSY (n : Nat) : Fld := ⟨0x2000100010 + 0x10000 * n, 3, 3, .ro, .x, 0⟩
def STNn_PL_STATUS_TABLES_OK (n : Nat) : Fld := ⟨0x2000100010 + 0x10000 * n, 2, 2, .ro, .x, 0⟩
def STNn_PL_STATUS_READY (n : Nat) : Fld := ⟨0x2000100010 + 0x10000 * n, 1, 1, .ro, .x, 0⟩
def STNn_PL_STATUS_ACTIVE (n : Nat) : Fld := ⟨0x2000100010 + 0x10000 * n, 0, 0, .ro, .x, 0⟩
def STNn_PL_HTMAP_HT2_L3 (n : Nat) : Fld := ⟨0x2000100014 + 0x10000 * n, 23, 20, .rw, .b, 15⟩
def STNn_PL_HTMAP_HT2_L2 (n : Nat) : Fld := ⟨0x2000100014 + 0x10000 * n, 19, 16, .rw, .b, 10⟩
def STNn_PL_HTMAP_HT2_L1 (n : Nat) : Fld := ⟨0x2000100014 + 0x10000 * n, 15, 12, .rw, .b, 5⟩
def STNn_PL_HTMAP_HT2_L0 (n : Nat) : Fld := ⟨0x2000100014 + 0x10000 * n, 11, 8, .rw, .b, 0⟩
def STNn_PL_HTMAP_HT1_ON (n : Nat) : Fld := ⟨0x2000100014 + 0x10000 * n, 3, 0, .rw, .b, 15⟩
def STNn_PL_SCREEN_TAG_MAP3 (n : Nat) : Fld := ⟨0x2000100018 + 0x10000 * n, 15, 14, .rw, .b, 3⟩
def STNn_PL_SCREEN_TAG_MAP2 (n : Nat) : Fld := ⟨0x2000100018 + 0x10000 * n, 13, 12, .rw, .b, 2⟩
def STNn_PL_SCREEN_TAG_MAP1 (n : Nat) : Fld := ⟨0x2000100018 + 0x10000 * n, 11, 10, .rw, .b, 1⟩
def STNn_PL_SCREEN_TAG_MAP0 (n : Nat) : Fld := ⟨0x2000100018 + 0x10000 * n, 9, 8, .rw, .b, 0⟩
def STNn_PL_SCREEN_DEF_SCREEN (n : Nat) : Fld := ⟨0x2000100018 + 0x10000 * n, 1, 0, .rw, .b, 0⟩
def STNn_PL_SCRc_GEOM_SHIFT (n m : Nat) : Fld := ⟨0x2000100020 + 0x10000 * n + 8 * m, 23, 16, .rw, .s, 0⟩
def STNn_PL_SCRc_GEOM_H_M1 (n m : Nat) : Fld := ⟨0x2000100020 + 0x10000 * n + 8 * m, 15, 8, .rw, .s, 0⟩
def STNn_PL_SCRc_GEOM_W_M1 (n m : Nat) : Fld := ⟨0x2000100020 + 0x10000 * n + 8 * m, 7, 0, .rw, .s, 0⟩
def STNn_PL_SCRc_ORG_Y0 (n m : Nat) : Fld := ⟨0x2000100024 + 0x10000 * n + 8 * m, 15, 8, .rw, .s, 0⟩
def STNn_PL_SCRc_ORG_X0 (n m : Nat) : Fld := ⟨0x2000100024 + 0x10000 * n + 8 * m, 7, 0, .rw, .s, 0⟩
def STNn_TBL_TASK_TASK (n : Nat) : Fld := ⟨0x2000100040 + 0x10000 * n, 8, 0, .rw, .l, 0⟩
def STNn_TBL_SRC_SRC (n : Nat) : Fld := ⟨0x2000100044 + 0x10000 * n, 31, 0, .rw, .l, 0⟩
def STNn_TBL_LEN_LEN (n : Nat) : Fld := ⟨0x2000100048 + 0x10000 * n, 23, 0, .rw, .l, 0⟩
def STNn_TBL_PATCH_COUNT (n : Nat) : Fld := ⟨0x200010004c + 0x10000 * n, 31, 16, .rw, .l, 0⟩
def STNn_TBL_PATCH_FIRST (n : Nat) : Fld := ⟨0x200010004c + 0x10000 * n, 15, 0, .rw, .l, 0⟩
def STNn_TBL_CMD_ACTION (n : Nat) : Fld := ⟨0x2000100050 + 0x10000 * n, 9, 8, .wo, .l, 0⟩
def STNn_TBL_CMD_TABLE (n : Nat) : Fld := ⟨0x2000100050 + 0x10000 * n, 4, 0, .wo, .l, 0⟩
def STNn_TBL_STATUS_TABLE (n : Nat) : Fld := ⟨0x2000100054 + 0x10000 * n, 20, 16, .ro, .x, 0⟩
def STNn_TBL_STATUS_ERR (n : Nat) : Fld := ⟨0x2000100054 + 0x10000 * n, 11, 8, .ro, .x, 0⟩
def STNn_TBL_STATUS_REFUSED (n : Nat) : Fld := ⟨0x2000100054 + 0x10000 * n, 2, 2, .w1c, .l, 0⟩
def STNn_TBL_STATUS_DONE (n : Nat) : Fld := ⟨0x2000100054 + 0x10000 * n, 1, 1, .w1c, .l, 0⟩
def STNn_TBL_STATUS_BUSY (n : Nat) : Fld := ⟨0x2000100054 + 0x10000 * n, 0, 0, .ro, .x, 0⟩
def STNn_TBL_VALID_VALID (n : Nat) : Fld := ⟨0x2000100058 + 0x10000 * n, 16, 0, .ro, .x, 0⟩
def STNn_PL_BANK_SPLICE (n : Nat) : Fld := ⟨0x2000100060 + 0x10000 * n, 2, 2, .rw, .b, 0⟩
def STNn_PL_BANK_SHADE (n : Nat) : Fld := ⟨0x2000100060 + 0x10000 * n, 1, 1, .rw, .b, 0⟩
def STNn_PL_BANK_SHIM (n : Nat) : Fld := ⟨0x2000100060 + 0x10000 * n, 0, 0, .rw, .b, 0⟩
def STNn_PL_LANE_LANE_SUB (n : Nat) : Fld := ⟨0x2000100064 + 0x10000 * n, 4, 0, .rw, .b, 31⟩
def STNn_PL_BLANK_LAST (n : Nat) : Fld := ⟨0x2000100068 + 0x10000 * n, 31, 16, .ro, .x, 0⟩
def STNn_PL_BLANK_CUR (n : Nat) : Fld := ⟨0x2000100068 + 0x10000 * n, 15, 0, .ro, .x, 0⟩
def STNn_PL_RATE_MARGIN (n : Nat) : Fld := ⟨0x200010006c + 0x10000 * n, 15, 0, .ro, .x, 0⟩
def STNn_PL_TILE_ERR_ROW (n : Nat) : Fld := ⟨0x2000100070 + 0x10000 * n, 31, 16, .ro, .x, 0⟩
def STNn_PL_TILE_ERR_COL (n : Nat) : Fld := ⟨0x2000100070 + 0x10000 * n, 15, 0, .ro, .x, 0⟩
def STNn_PL_PLANE_SEQ_SEQ_LO (n : Nat) : Fld := ⟨0x2000100074 + 0x10000 * n, 31, 0, .ro, .x, 0⟩
def STNn_SC_CTRL_APC_EN (n : Nat) : Fld := ⟨0x2000100400 + 0x10000 * n, 7, 7, .rw, .b, 1⟩
def STNn_SC_CTRL_SURVEY (n : Nat) : Fld := ⟨0x2000100400 + 0x10000 * n, 6, 6, .rw, .l, 0⟩
def STNn_SC_CTRL_AUTO_BEAM (n : Nat) : Fld := ⟨0x2000100400 + 0x10000 * n, 5, 5, .rw, .l, 0⟩
def STNn_SC_CTRL_AUTO_FACET (n : Nat) : Fld := ⟨0x2000100400 + 0x10000 * n, 4, 4, .rw, .l, 0⟩
def STNn_SC_CTRL_LD_EN_REQ (n : Nat) : Fld := ⟨0x2000100400 + 0x10000 * n, 2, 2, .rw, .l, 0⟩
def STNn_SC_CTRL_SC_EN (n : Nat) : Fld := ⟨0x2000100400 + 0x10000 * n, 0, 0, .rw, .l, 0⟩
def STNn_SC_CFG_FACET_DRV (n : Nat) : Fld := ⟨0x2000100404 + 0x10000 * n, 19, 17, .rw, .s, 0⟩
def STNn_SC_CFG_FACET_SRC (n : Nat) : Fld := ⟨0x2000100404 + 0x10000 * n, 16, 16, .rw, .s, 0⟩
def STNn_SC_CFG_EOS_EN (n : Nat) : Fld := ⟨0x2000100404 + 0x10000 * n, 13, 13, .rw, .s, 0⟩
def STNn_SC_CFG_BEAM_DIR (n : Nat) : Fld := ⟨0x2000100404 + 0x10000 * n, 12, 12, .rw, .s, 0⟩
def STNn_SC_CFG_FACETS (n : Nat) : Fld := ⟨0x2000100404 + 0x10000 * n, 11, 8, .rw, .s, 8⟩
def STNn_SC_CFG_SOS_BEAM (n : Nat) : Fld := ⟨0x2000100404 + 0x10000 * n, 4, 0, .rw, .s, 0⟩
def STNn_SC_PIXFREQ_NOM (n : Nat) : Fld := ⟨0x2000100408 + 0x10000 * n, 28, 0, .rw, .b, 0⟩
def STNn_SC_SOS_DELAY_DELAY (n : Nat) : Fld := ⟨0x200010040c + 0x10000 * n, 21, 0, .rw, .b, 0⟩
def STNn_SC_SOS_WIN_POL (n : Nat) : Fld := ⟨0x2000100410 + 0x10000 * n, 24, 24, .rw, .s, 0⟩
def STNn_SC_SOS_WIN_MINW (n : Nat) : Fld := ⟨0x2000100410 + 0x10000 * n, 23, 16, .rw, .s, 8⟩
def STNn_SC_SOS_WIN_HALF (n : Nat) : Fld := ⟨0x2000100410 + 0x10000 * n, 15, 0, .rw, .b, 1024⟩
def STNn_SC_APC_START_START (n : Nat) : Fld := ⟨0x2000100414 + 0x10000 * n, 19, 0, .rw, .b, 0⟩
def STNn_SC_APC_LEN_LEN (n : Nat) : Fld := ⟨0x2000100418 + 0x10000 * n, 15, 0, .rw, .b, 0⟩
def STNn_SC_EOS_REF_REF (n : Nat) : Fld := ⟨0x200010041c + 0x10000 * n, 27, 0, .rw, .b, 0⟩
def STNn_SC_PHASE_TGT_TGT (n : Nat) : Fld := ⟨0x2000100420 + 0x10000 * n, 23, 0, .rw, .b, 0⟩
def STNn_SC_PH_READY_READY (n : Nat) : Fld := ⟨0x2000100424 + 0x10000 * n, 15, 0, .rw, .l, 16384⟩
def STNn_SC_PHERR_PHERR (n : Nat) : Fld := ⟨0x2000100428 + 0x10000 * n, 31, 0, .ro, .x, 0⟩
def STNn_SC_STATUS_CFG (n : Nat) : Fld := ⟨0x200010042c + 0x10000 * n, 31, 28, .ro, .x, 0⟩
def STNn_SC_STATUS_WRITE_REFUSED (n : Nat) : Fld := ⟨0x200010042c + 0x10000 * n, 15, 15, .w1c, .l, 0⟩
def STNn_SC_STATUS_PIX_UNLOCK_SEEN (n : Nat) : Fld := ⟨0x200010042c + 0x10000 * n, 14, 14, .w1c, .l, 0⟩
def STNn_SC_STATUS_PH_WARN (n : Nat) : Fld := ⟨0x200010042c + 0x10000 * n, 13, 13, .w1c, .l, 0⟩
def STNn_SC_STATUS_SLIP (n : Nat) : Fld := ⟨0x200010042c + 0x10000 * n, 12, 12, .w1c, .l, 0⟩
def STNn_SC_STATUS_EOS_MISS (n : Nat) : Fld := ⟨0x200010042c + 0x10000 * n, 11, 11, .w1c, .l, 0⟩
def STNn_SC_STATUS_SOS_MISS (n : Nat) : Fld := ⟨0x200010042c + 0x10000 * n, 10, 10, .w1c, .l, 0⟩
def STNn_SC_STATUS_BEAM_DEAD (n : Nat) : Fld := ⟨0x200010042c + 0x10000 * n, 9, 9, .w1c, .l, 0⟩
def STNn_SC_STATUS_PH_SETTLED (n : Nat) : Fld := ⟨0x200010042c + 0x10000 * n, 5, 5, .ro, .x, 0⟩
def STNn_SC_STATUS_READY (n : Nat) : Fld := ⟨0x200010042c + 0x10000 * n, 4, 4, .ro, .x, 0⟩
def STNn_SC_STATUS_LOST (n : Nat) : Fld := ⟨0x200010042c + 0x10000 * n, 3, 3, .ro, .x, 0⟩
def STNn_SC_STATUS_FACET_SYNC (n : Nat) : Fld := ⟨0x200010042c + 0x10000 * n, 2, 2, .ro, .x, 0⟩
def STNn_SC_STATUS_TRACKING (n : Nat) : Fld := ⟨0x200010042c + 0x10000 * n, 1, 1, .ro, .x, 0⟩
def STNn_SC_STATUS_PIX_LOCK (n : Nat) : Fld := ⟨0x200010042c + 0x10000 * n, 0, 0, .ro, .x, 0⟩
def STNn_SC_COUNT_MISSES (n : Nat) : Fld := ⟨0x2000100430 + 0x10000 * n, 31, 16, .ro, .x, 0⟩
def STNn_SC_COUNT_SLIPS (n : Nat) : Fld := ⟨0x2000100430 + 0x10000 * n, 15, 8, .ro, .x, 0⟩
def STNn_SC_COUNT_CONSEC (n : Nat) : Fld := ⟨0x2000100430 + 0x10000 * n, 1, 0, .ro, .x, 0⟩
def STNn_SC_FACET_MEAN (n : Nat) : Fld := ⟨0x2000100434 + 0x10000 * n, 27, 8, .ro, .x, 0⟩
def STNn_SC_FACET_FACET (n : Nat) : Fld := ⟨0x2000100434 + 0x10000 * n, 3, 0, .ro, .x, 0⟩
def STNn_SC_SURVEY_BEAM (n : Nat) : Fld := ⟨0x2000100438 + 0x10000 * n, 20, 16, .ro, .x, 0⟩
def STNn_SC_SURVEY_PASSES (n : Nat) : Fld := ⟨0x2000100438 + 0x10000 * n, 15, 0, .ro, .x, 0⟩
def STNn_SC_BEAM_MASK_MASK (n : Nat) : Fld := ⟨0x200010043c + 0x10000 * n, 31, 0, .rw, .b, 0⟩
def STNn_SC_BEAM_DEAD_DEAD (n : Nat) : Fld := ⟨0x2000100440 + 0x10000 * n, 31, 0, .ro, .x, 0⟩
def STNn_SC_FACETf_OFFSET (n m : Nat) : Fld := ⟨0x2000100480 + 0x10000 * n + 4 * m, 31, 16, .rw, .b, 0⟩
def STNn_SC_FACETf_MAG (n m : Nat) : Fld := ⟨0x2000100480 + 0x10000 * n + 4 * m, 15, 0, .rw, .b, 0⟩
def STNn_SC_FLEARNf_PERDEV (n m : Nat) : Fld := ⟨0x20001004c0 + 0x10000 * n + 4 * m, 31, 16, .ro, .x, 0⟩
def STNn_SC_FLEARNf_MAG (n m : Nat) : Fld := ⟨0x20001004c0 + 0x10000 * n + 4 * m, 15, 0, .ro, .x, 0⟩
def STNn_SC_BEAMb_OFFSET (n m : Nat) : Fld := ⟨0x2000100500 + 0x10000 * n + 4 * m, 15, 0, .rw, .b, 0⟩
def STNn_SC_BLEARNb_VALID (n m : Nat) : Fld := ⟨0x2000100580 + 0x10000 * n + 4 * m, 16, 16, .ro, .x, 0⟩
def STNn_SC_BLEARNb_OFFSET (n m : Nat) : Fld := ⟨0x2000100580 + 0x10000 * n + 4 * m, 15, 0, .ro, .x, 0⟩
def STNn_BR_CTRL_CENTER (n : Nat) : Fld := ⟨0x22000100400 + 0x10000 * n, 7, 7, .rw, .b, 0⟩
def STNn_BR_CTRL_DEF_CHECK (n : Nat) : Fld := ⟨0x22000100400 + 0x10000 * n, 6, 6, .rw, .l, 1⟩
def STNn_BR_CTRL_AUTO_LANE (n : Nat) : Fld := ⟨0x22000100400 + 0x10000 * n, 5, 5, .rw, .l, 1⟩
def STNn_BR_CTRL_EXP_EN_REQ (n : Nat) : Fld := ⟨0x22000100400 + 0x10000 * n, 2, 2, .rw, .l, 0⟩
def STNn_BR_CTRL_BAR_EN (n : Nat) : Fld := ⟨0x22000100400 + 0x10000 * n, 0, 0, .rw, .l, 0⟩
def STNn_BR_RATE_NOM (n : Nat) : Fld := ⟨0x22000100404 + 0x10000 * n, 28, 0, .rw, .s, 0⟩
def STNn_BR_FRAME_LATCH_W (n : Nat) : Fld := ⟨0x22000100408 + 0x10000 * n, 19, 16, .rw, .s, 8⟩
def STNn_BR_FRAME_SHIFT_START (n : Nat) : Fld := ⟨0x22000100408 + 0x10000 * n, 9, 0, .rw, .b, 32⟩
def STNn_BR_ONTIME_ON_UNIT (n : Nat) : Fld := ⟨0x2200010040c + 0x10000 * n, 11, 0, .rw, .b, 0⟩
def STNn_BR_LINE_MIN_LINE_MIN (n : Nat) : Fld := ⟨0x22000100410 + 0x10000 * n, 23, 0, .rw, .s, 0⟩
def STNn_BR_STATUS_CFG (n : Nat) : Fld := ⟨0x22000100414 + 0x10000 * n, 31, 28, .ro, .x, 0⟩
def STNn_BR_STATUS_WRITE_REFUSED (n : Nat) : Fld := ⟨0x22000100414 + 0x10000 * n, 15, 15, .w1c, .l, 0⟩
def STNn_BR_STATUS_PIX_UNLOCK_SEEN (n : Nat) : Fld := ⟨0x22000100414 + 0x10000 * n, 14, 14, .w1c, .l, 0⟩
def STNn_BR_STATUS_TRUNC (n : Nat) : Fld := ⟨0x22000100414 + 0x10000 * n, 13, 13, .w1c, .l, 0⟩
def STNn_BR_STATUS_OVERRUN (n : Nat) : Fld := ⟨0x22000100414 + 0x10000 * n, 12, 12, .w1c, .l, 0⟩
def STNn_BR_STATUS_LANE_ERR (n : Nat) : Fld := ⟨0x22000100414 + 0x10000 * n, 11, 11, .w1c, .l, 0⟩
def STNn_BR_STATUS_FAIL_NEW (n : Nat) : Fld := ⟨0x22000100414 + 0x10000 * n, 10, 10, .w1c, .l, 0⟩
def STNn_BR_STATUS_LANE_DEAD (n : Nat) : Fld := ⟨0x22000100414 + 0x10000 * n, 6, 6, .ro, .x, 0⟩
def STNn_BR_STATUS_SPLICE_OK (n : Nat) : Fld := ⟨0x22000100414 + 0x10000 * n, 5, 5, .ro, .x, 0⟩
def STNn_BR_STATUS_READY (n : Nat) : Fld := ⟨0x22000100414 + 0x10000 * n, 4, 4, .ro, .x, 0⟩
def STNn_BR_STATUS_EXPOSE_OPEN (n : Nat) : Fld := ⟨0x22000100414 + 0x10000 * n, 3, 3, .ro, .x, 0⟩
def STNn_BR_STATUS_PIX_LOCK (n : Nat) : Fld := ⟨0x22000100414 + 0x10000 * n, 0, 0, .ro, .x, 0⟩
def STNn_BR_COUNT_OVERRUNS (n : Nat) : Fld := ⟨0x22000100418 + 0x10000 * n, 31, 16, .ro, .x, 0⟩
def STNn_BR_COUNT_TRUNCS (n : Nat) : Fld := ⟨0x22000100418 + 0x10000 * n, 15, 0, .ro, .x, 0⟩
def STNn_BR_LINE_LINE (n : Nat) : Fld := ⟨0x2200010041c + 0x10000 * n, 31, 0, .ro, .x, 0⟩
def STNn_BR_LANE_THR_THR (n : Nat) : Fld := ⟨0x22000100420 + 0x10000 * n, 7, 0, .rw, .l, 8⟩
def STNn_BR_LANEl_FAILED (n m : Nat) : Fld := ⟨0x22000100440 + 0x10000 * n + 4 * m, 16, 16, .ro, .x, 0⟩
def STNn_BR_LANEl_ERRS (n m : Nat) : Fld := ⟨0x22000100440 + 0x10000 * n + 4 * m, 15, 0, .ro, .x, 0⟩
def STNn_BR_FAIL_KNOWN (n : Nat) : Fld := ⟨0x22000100490 + 0x10000 * n, 9, 0, .ro, .x, 0⟩
def STNn_BR_FAIL_SEL_INDEX (n : Nat) : Fld := ⟨0x22000100494 + 0x10000 * n, 8, 0, .rw, .l, 0⟩
def STNn_BR_FAIL_ENTRY_ORIGIN (n : Nat) : Fld := ⟨0x22000100498 + 0x10000 * n, 17, 16, .ro, .x, 0⟩
def STNn_BR_FAIL_ENTRY_EMITTER (n : Nat) : Fld := ⟨0x22000100498 + 0x10000 * n, 15, 0, .ro, .x, 0⟩
def STNn_BR_DEF_ADD_EMITTER (n : Nat) : Fld := ⟨0x2200010049c + 0x10000 * n, 15, 0, .wo, .l, 0⟩
def STNn_HD_CTRL_HREC_READ (n : Nat) : Fld := ⟨0x2000100600 + 0x10000 * n, 8, 8, .wo, .l, 0⟩
def STNn_HD_CTRL_I2C_SPD (n : Nat) : Fld := ⟨0x2000100600 + 0x10000 * n, 1, 0, .rw, .s, 1⟩
def STNn_HD_STATUS_HREC_ERR (n : Nat) : Fld := ⟨0x2000100604 + 0x10000 * n, 31, 28, .ro, .x, 0⟩
def STNn_HD_STATUS_CLR_REFUSED (n : Nat) : Fld := ⟨0x2000100604 + 0x10000 * n, 11, 11, .w1c, .l, 0⟩
def STNn_HD_STATUS_HOT (n : Nat) : Fld := ⟨0x2000100604 + 0x10000 * n, 10, 10, .w1c, .l, 0⟩
def STNn_HD_STATUS_WARN (n : Nat) : Fld := ⟨0x2000100604 + 0x10000 * n, 9, 9, .ro, .x, 0⟩
def STNn_HD_STATUS_TH_STALE (n : Nat) : Fld := ⟨0x2000100604 + 0x10000 * n, 8, 8, .ro, .x, 0⟩
def STNn_HD_STATUS_HEAD_FAULT (n : Nat) : Fld := ⟨0x2000100604 + 0x10000 * n, 7, 7, .ro, .x, 0⟩
def STNn_HD_STATUS_HREC_BUSY (n : Nat) : Fld := ⟨0x2000100604 + 0x10000 * n, 3, 3, .ro, .x, 0⟩
def STNn_HD_STATUS_HREC_OK (n : Nat) : Fld := ⟨0x2000100604 + 0x10000 * n, 2, 2, .ro, .x, 0⟩
def STNn_HD_STATUS_STATUS_TGT (n : Nat) : Fld := ⟨0x2000100604 + 0x10000 * n, 1, 1, .ro, .x, 0⟩
def STNn_HD_INFO_RANK (n : Nat) : Fld := ⟨0x2000100608 + 0x10000 * n, 31, 24, .ro, .x, 0⟩
def STNn_HD_INFO_FEATURES (n : Nat) : Fld := ⟨0x2000100608 + 0x10000 * n, 23, 16, .ro, .x, 0⟩
def STNn_HD_INFO_KIND (n : Nat) : Fld := ⟨0x2000100608 + 0x10000 * n, 15, 8, .ro, .x, 0⟩
def STNn_HD_UNITS_NDEF (n : Nat) : Fld := ⟨0x200010060c + 0x10000 * n, 31, 16, .ro, .x, 0⟩
def STNn_HD_UNITS_UNITS (n : Nat) : Fld := ⟨0x200010060c + 0x10000 * n, 15, 0, .ro, .x, 0⟩
def STNn_HD_CRC_CRC (n : Nat) : Fld := ⟨0x2000100610 + 0x10000 * n, 31, 0, .ro, .x, 0⟩
def STNn_HD_TH_CFG_TH_POL (n : Nat) : Fld := ⟨0x2000100614 + 0x10000 * n, 8, 8, .rw, .s, 0⟩
def STNn_HD_TH_CFG_TH_AIN (n : Nat) : Fld := ⟨0x2000100614 + 0x10000 * n, 6, 0, .rw, .s, 127⟩
def STNn_HD_TH_LIMIT_TH_HARD (n : Nat) : Fld := ⟨0x2000100618 + 0x10000 * n, 31, 16, .rw, .l, 0⟩
def STNn_HD_TH_LIMIT_TH_WARN (n : Nat) : Fld := ⟨0x2000100618 + 0x10000 * n, 15, 0, .rw, .l, 0⟩
def STNn_HD_TH_HYST_TH_HYST (n : Nat) : Fld := ⟨0x200010061c + 0x10000 * n, 15, 0, .rw, .l, 256⟩
def STNn_HD_TH_NOW_AGE (n : Nat) : Fld := ⟨0x2000100620 + 0x10000 * n, 31, 16, .ro, .x, 65535⟩
def STNn_HD_TH_NOW_CODE (n : Nat) : Fld := ⟨0x2000100620 + 0x10000 * n, 15, 0, .ro, .x, 0⟩

/-- The registers of block STNn. -/
def regsSTNn : List RegRow := [
  ⟨0x2000100000, 6, 0x10000, 0, 1, 0, fun n _ => [STNn_PL_CTRL_INTERP n, STNn_PL_CTRL_HOLD n, STNn_PL_CTRL_ENABLE n]⟩,
  ⟨0x2000100004, 6, 0x10000, 0, 1, 0, fun n _ => [STNn_PL_CFG_BEAMS_Q n, STNn_PL_CFG_BAR_ORDER n, STNn_PL_CFG_RES n, STNn_PL_CFG_KIND n]⟩,
  ⟨0x2000100008, 6, 0x10000, 0, 1, 0, fun n _ => [STNn_PL_WIDTH_N n]⟩,
  ⟨0x200010000c, 6, 0x10000, 0, 1, 0, fun n _ => [STNn_PL_XORG_XORG n]⟩,
  ⟨0x2000100010, 6, 0x10000, 0, 1, 0, fun n _ => [STNn_PL_STATUS_SERVED_X n, STNn_PL_STATUS_SHIM_CLAMP n, STNn_PL_STATUS_SLOW n, STNn_PL_STATUS_TILE_ERR n, STNn_PL_STATUS_LATE n, STNn_PL_STATUS_WRITE_REFUSED n, STNn_PL_STATUS_PATCH_PENDING n, STNn_PL_STATUS_LOAD_BUSY n, STNn_PL_STATUS_TABLES_OK n, STNn_PL_STATUS_READY n, STNn_PL_STATUS_ACTIVE n]⟩,
  ⟨0x2000100014, 6, 0x10000, 0, 1, 0, fun n _ => [STNn_PL_HTMAP_HT2_L3 n, STNn_PL_HTMAP_HT2_L2 n, STNn_PL_HTMAP_HT2_L1 n, STNn_PL_HTMAP_HT2_L0 n, STNn_PL_HTMAP_HT1_ON n]⟩,
  ⟨0x2000100018, 6, 0x10000, 0, 1, 0, fun n _ => [STNn_PL_SCREEN_TAG_MAP3 n, STNn_PL_SCREEN_TAG_MAP2 n, STNn_PL_SCREEN_TAG_MAP1 n, STNn_PL_SCREEN_TAG_MAP0 n, STNn_PL_SCREEN_DEF_SCREEN n]⟩,
  ⟨0x2000100020, 6, 0x10000, 0, 4, 8, fun n m => [STNn_PL_SCRc_GEOM_SHIFT n m, STNn_PL_SCRc_GEOM_H_M1 n m, STNn_PL_SCRc_GEOM_W_M1 n m]⟩,
  ⟨0x2000100024, 6, 0x10000, 0, 4, 8, fun n m => [STNn_PL_SCRc_ORG_Y0 n m, STNn_PL_SCRc_ORG_X0 n m]⟩,
  ⟨0x2000100040, 6, 0x10000, 0, 1, 0, fun n _ => [STNn_TBL_TASK_TASK n]⟩,
  ⟨0x2000100044, 6, 0x10000, 0, 1, 0, fun n _ => [STNn_TBL_SRC_SRC n]⟩,
  ⟨0x2000100048, 6, 0x10000, 0, 1, 0, fun n _ => [STNn_TBL_LEN_LEN n]⟩,
  ⟨0x200010004c, 6, 0x10000, 0, 1, 0, fun n _ => [STNn_TBL_PATCH_COUNT n, STNn_TBL_PATCH_FIRST n]⟩,
  ⟨0x2000100050, 6, 0x10000, 0, 1, 0, fun n _ => [STNn_TBL_CMD_ACTION n, STNn_TBL_CMD_TABLE n]⟩,
  ⟨0x2000100054, 6, 0x10000, 0, 1, 0, fun n _ => [STNn_TBL_STATUS_TABLE n, STNn_TBL_STATUS_ERR n, STNn_TBL_STATUS_REFUSED n, STNn_TBL_STATUS_DONE n, STNn_TBL_STATUS_BUSY n]⟩,
  ⟨0x2000100058, 6, 0x10000, 0, 1, 0, fun n _ => [STNn_TBL_VALID_VALID n]⟩,
  ⟨0x2000100060, 6, 0x10000, 0, 1, 0, fun n _ => [STNn_PL_BANK_SPLICE n, STNn_PL_BANK_SHADE n, STNn_PL_BANK_SHIM n]⟩,
  ⟨0x2000100064, 6, 0x10000, 0, 1, 0, fun n _ => [STNn_PL_LANE_LANE_SUB n]⟩,
  ⟨0x2000100068, 6, 0x10000, 0, 1, 0, fun n _ => [STNn_PL_BLANK_LAST n, STNn_PL_BLANK_CUR n]⟩,
  ⟨0x200010006c, 6, 0x10000, 0, 1, 0, fun n _ => [STNn_PL_RATE_MARGIN n]⟩,
  ⟨0x2000100070, 6, 0x10000, 0, 1, 0, fun n _ => [STNn_PL_TILE_ERR_ROW n, STNn_PL_TILE_ERR_COL n]⟩,
  ⟨0x2000100074, 6, 0x10000, 0, 1, 0, fun n _ => [STNn_PL_PLANE_SEQ_SEQ_LO n]⟩,
  ⟨0x2000100400, 6, 0x10000, 0, 1, 0, fun n _ => [STNn_SC_CTRL_APC_EN n, STNn_SC_CTRL_SURVEY n, STNn_SC_CTRL_AUTO_BEAM n, STNn_SC_CTRL_AUTO_FACET n, STNn_SC_CTRL_LD_EN_REQ n, STNn_SC_CTRL_SC_EN n]⟩,
  ⟨0x2000100404, 6, 0x10000, 0, 1, 0, fun n _ => [STNn_SC_CFG_FACET_DRV n, STNn_SC_CFG_FACET_SRC n, STNn_SC_CFG_EOS_EN n, STNn_SC_CFG_BEAM_DIR n, STNn_SC_CFG_FACETS n, STNn_SC_CFG_SOS_BEAM n]⟩,
  ⟨0x2000100408, 6, 0x10000, 0, 1, 0, fun n _ => [STNn_SC_PIXFREQ_NOM n]⟩,
  ⟨0x200010040c, 6, 0x10000, 0, 1, 0, fun n _ => [STNn_SC_SOS_DELAY_DELAY n]⟩,
  ⟨0x2000100410, 6, 0x10000, 0, 1, 0, fun n _ => [STNn_SC_SOS_WIN_POL n, STNn_SC_SOS_WIN_MINW n, STNn_SC_SOS_WIN_HALF n]⟩,
  ⟨0x2000100414, 6, 0x10000, 0, 1, 0, fun n _ => [STNn_SC_APC_START_START n]⟩,
  ⟨0x2000100418, 6, 0x10000, 0, 1, 0, fun n _ => [STNn_SC_APC_LEN_LEN n]⟩,
  ⟨0x200010041c, 6, 0x10000, 0, 1, 0, fun n _ => [STNn_SC_EOS_REF_REF n]⟩,
  ⟨0x2000100420, 6, 0x10000, 0, 1, 0, fun n _ => [STNn_SC_PHASE_TGT_TGT n]⟩,
  ⟨0x2000100424, 6, 0x10000, 0, 1, 0, fun n _ => [STNn_SC_PH_READY_READY n]⟩,
  ⟨0x2000100428, 6, 0x10000, 0, 1, 0, fun n _ => [STNn_SC_PHERR_PHERR n]⟩,
  ⟨0x200010042c, 6, 0x10000, 0, 1, 0, fun n _ => [STNn_SC_STATUS_CFG n, STNn_SC_STATUS_WRITE_REFUSED n, STNn_SC_STATUS_PIX_UNLOCK_SEEN n, STNn_SC_STATUS_PH_WARN n, STNn_SC_STATUS_SLIP n, STNn_SC_STATUS_EOS_MISS n, STNn_SC_STATUS_SOS_MISS n, STNn_SC_STATUS_BEAM_DEAD n, STNn_SC_STATUS_PH_SETTLED n, STNn_SC_STATUS_READY n, STNn_SC_STATUS_LOST n, STNn_SC_STATUS_FACET_SYNC n, STNn_SC_STATUS_TRACKING n, STNn_SC_STATUS_PIX_LOCK n]⟩,
  ⟨0x2000100430, 6, 0x10000, 0, 1, 0, fun n _ => [STNn_SC_COUNT_MISSES n, STNn_SC_COUNT_SLIPS n, STNn_SC_COUNT_CONSEC n]⟩,
  ⟨0x2000100434, 6, 0x10000, 0, 1, 0, fun n _ => [STNn_SC_FACET_MEAN n, STNn_SC_FACET_FACET n]⟩,
  ⟨0x2000100438, 6, 0x10000, 0, 1, 0, fun n _ => [STNn_SC_SURVEY_BEAM n, STNn_SC_SURVEY_PASSES n]⟩,
  ⟨0x200010043c, 6, 0x10000, 0, 1, 0, fun n _ => [STNn_SC_BEAM_MASK_MASK n]⟩,
  ⟨0x2000100440, 6, 0x10000, 0, 1, 0, fun n _ => [STNn_SC_BEAM_DEAD_DEAD n]⟩,
  ⟨0x2000100480, 6, 0x10000, 0, 12, 4, fun n m => [STNn_SC_FACETf_OFFSET n m, STNn_SC_FACETf_MAG n m]⟩,
  ⟨0x20001004c0, 6, 0x10000, 0, 12, 4, fun n m => [STNn_SC_FLEARNf_PERDEV n m, STNn_SC_FLEARNf_MAG n m]⟩,
  ⟨0x2000100500, 6, 0x10000, 0, 32, 4, fun n m => [STNn_SC_BEAMb_OFFSET n m]⟩,
  ⟨0x2000100580, 6, 0x10000, 0, 32, 4, fun n m => [STNn_SC_BLEARNb_VALID n m, STNn_SC_BLEARNb_OFFSET n m]⟩,
  ⟨0x22000100400, 6, 0x10000, 0, 1, 0, fun n _ => [STNn_BR_CTRL_CENTER n, STNn_BR_CTRL_DEF_CHECK n, STNn_BR_CTRL_AUTO_LANE n, STNn_BR_CTRL_EXP_EN_REQ n, STNn_BR_CTRL_BAR_EN n]⟩,
  ⟨0x22000100404, 6, 0x10000, 0, 1, 0, fun n _ => [STNn_BR_RATE_NOM n]⟩,
  ⟨0x22000100408, 6, 0x10000, 0, 1, 0, fun n _ => [STNn_BR_FRAME_LATCH_W n, STNn_BR_FRAME_SHIFT_START n]⟩,
  ⟨0x2200010040c, 6, 0x10000, 0, 1, 0, fun n _ => [STNn_BR_ONTIME_ON_UNIT n]⟩,
  ⟨0x22000100410, 6, 0x10000, 0, 1, 0, fun n _ => [STNn_BR_LINE_MIN_LINE_MIN n]⟩,
  ⟨0x22000100414, 6, 0x10000, 0, 1, 0, fun n _ => [STNn_BR_STATUS_CFG n, STNn_BR_STATUS_WRITE_REFUSED n, STNn_BR_STATUS_PIX_UNLOCK_SEEN n, STNn_BR_STATUS_TRUNC n, STNn_BR_STATUS_OVERRUN n, STNn_BR_STATUS_LANE_ERR n, STNn_BR_STATUS_FAIL_NEW n, STNn_BR_STATUS_LANE_DEAD n, STNn_BR_STATUS_SPLICE_OK n, STNn_BR_STATUS_READY n, STNn_BR_STATUS_EXPOSE_OPEN n, STNn_BR_STATUS_PIX_LOCK n]⟩,
  ⟨0x22000100418, 6, 0x10000, 0, 1, 0, fun n _ => [STNn_BR_COUNT_OVERRUNS n, STNn_BR_COUNT_TRUNCS n]⟩,
  ⟨0x2200010041c, 6, 0x10000, 0, 1, 0, fun n _ => [STNn_BR_LINE_LINE n]⟩,
  ⟨0x22000100420, 6, 0x10000, 0, 1, 0, fun n _ => [STNn_BR_LANE_THR_THR n]⟩,
  ⟨0x22000100440, 6, 0x10000, 0, 17, 4, fun n m => [STNn_BR_LANEl_FAILED n m, STNn_BR_LANEl_ERRS n m]⟩,
  ⟨0x22000100490, 6, 0x10000, 0, 1, 0, fun n _ => [STNn_BR_FAIL_KNOWN n]⟩,
  ⟨0x22000100494, 6, 0x10000, 0, 1, 0, fun n _ => [STNn_BR_FAIL_SEL_INDEX n]⟩,
  ⟨0x22000100498, 6, 0x10000, 0, 1, 0, fun n _ => [STNn_BR_FAIL_ENTRY_ORIGIN n, STNn_BR_FAIL_ENTRY_EMITTER n]⟩,
  ⟨0x2200010049c, 6, 0x10000, 0, 1, 0, fun n _ => [STNn_BR_DEF_ADD_EMITTER n]⟩,
  ⟨0x2000100600, 6, 0x10000, 0, 1, 0, fun n _ => [STNn_HD_CTRL_HREC_READ n, STNn_HD_CTRL_I2C_SPD n]⟩,
  ⟨0x2000100604, 6, 0x10000, 0, 1, 0, fun n _ => [STNn_HD_STATUS_HREC_ERR n, STNn_HD_STATUS_CLR_REFUSED n, STNn_HD_STATUS_HOT n, STNn_HD_STATUS_WARN n, STNn_HD_STATUS_TH_STALE n, STNn_HD_STATUS_HEAD_FAULT n, STNn_HD_STATUS_HREC_BUSY n, STNn_HD_STATUS_HREC_OK n, STNn_HD_STATUS_STATUS_TGT n]⟩,
  ⟨0x2000100608, 6, 0x10000, 0, 1, 0, fun n _ => [STNn_HD_INFO_RANK n, STNn_HD_INFO_FEATURES n, STNn_HD_INFO_KIND n]⟩,
  ⟨0x200010060c, 6, 0x10000, 0, 1, 0, fun n _ => [STNn_HD_UNITS_NDEF n, STNn_HD_UNITS_UNITS n]⟩,
  ⟨0x2000100610, 6, 0x10000, 0, 1, 0, fun n _ => [STNn_HD_CRC_CRC n]⟩,
  ⟨0x2000100614, 6, 0x10000, 0, 1, 0, fun n _ => [STNn_HD_TH_CFG_TH_POL n, STNn_HD_TH_CFG_TH_AIN n]⟩,
  ⟨0x2000100618, 6, 0x10000, 0, 1, 0, fun n _ => [STNn_HD_TH_LIMIT_TH_HARD n, STNn_HD_TH_LIMIT_TH_WARN n]⟩,
  ⟨0x200010061c, 6, 0x10000, 0, 1, 0, fun n _ => [STNn_HD_TH_HYST_TH_HYST n]⟩,
  ⟨0x2000100620, 6, 0x10000, 0, 1, 0, fun n _ => [STNn_HD_TH_NOW_AGE n, STNn_HD_TH_NOW_CODE n]⟩]

/-! Block STNX -/

def STNX_STATUS_STATE : Fld := ⟨0x2000160000, 6, 5, .ro, .x, 0⟩
def STNX_STATUS_CMD_REFUSED : Fld := ⟨0x2000160000, 4, 4, .w1c, .l, 0⟩
def STNX_STATUS_SERVES : Fld := ⟨0x2000160000, 2, 0, .ro, .x, 7⟩
def STNX_CMD_RETURN : Fld := ⟨0x2000160004, 9, 9, .wo, .l, 0⟩
def STNX_CMD_MOVE : Fld := ⟨0x2000160004, 8, 8, .wo, .l, 0⟩
def STNX_CMD_STATION : Fld := ⟨0x2000160004, 2, 0, .wo, .l, 0⟩

/-- The registers of block STNX. -/
def regsSTNX : List RegRow := [
  ⟨0x2000160000, 1, 0x0, 0, 1, 0, fun _ _ => [STNX_STATUS_STATE, STNX_STATUS_CMD_REFUSED, STNX_STATUS_SERVES]⟩,
  ⟨0x2000160004, 1, 0x0, 0, 1, 0, fun _ _ => [STNX_CMD_RETURN, STNX_CMD_MOVE, STNX_CMD_STATION]⟩]

/-! Block PPOS -/

def PPOS_CTRL_Z_EN : Fld := ⟨0x2000170000, 3, 3, .rw, .s, 0⟩
def PPOS_CTRL_INTERP : Fld := ⟨0x2000170000, 2, 2, .rw, .s, 1⟩
def PPOS_CTRL_INVERT : Fld := ⟨0x2000170000, 1, 1, .rw, .s, 0⟩
def PPOS_CTRL_EN : Fld := ⟨0x2000170000, 0, 0, .rw, .l, 0⟩
def PPOS_STATUS_LOSS_CAUSE : Fld := ⟨0x2000170004, 11, 10, .ro, .x, 0⟩
def PPOS_STATUS_CLEAR_REFUSED : Fld := ⟨0x2000170004, 7, 7, .w1c, .l, 0⟩
def PPOS_STATUS_OVERSPEED : Fld := ⟨0x2000170004, 6, 6, .w1c, .l, 0⟩
def PPOS_STATUS_ENC_LOST : Fld := ⟨0x2000170004, 5, 5, .w1c, .l, 0⟩
def PPOS_STATUS_WRITE_REFUSED : Fld := ⟨0x2000170004, 4, 4, .w1c, .l, 0⟩
def PPOS_STATUS_Z_SEEN : Fld := ⟨0x2000170004, 3, 3, .ro, .x, 0⟩
def PPOS_STATUS_FORWARD : Fld := ⟨0x2000170004, 2, 2, .ro, .x, 0⟩
def PPOS_STATUS_CFG_ERR : Fld := ⟨0x2000170004, 1, 1, .ro, .x, 0⟩
def PPOS_STATUS_RUNNING : Fld := ⟨0x2000170004, 0, 0, .ro, .x, 0⟩
def PPOS_SCALE_SCALE : Fld := ⟨0x2000170008, 31, 0, .rw, .s, 0⟩
def PPOS_SPD_WIN_WIN : Fld := ⟨0x200017000c, 15, 0, .rw, .s, 100⟩
def PPOS_VMAX_VMAX : Fld := ⟨0x2000170010, 15, 0, .rw, .l, 0⟩
def PPOS_COUNT_VALUE : Fld := ⟨0x2000170014, 31, 0, .ro, .x, 0⟩
def PPOS_SPEED_VALUE : Fld := ⟨0x2000170018, 31, 0, .ro, .x, 0⟩
def PPOS_BELT_LO_VALUE : Fld := ⟨0x2000170020, 31, 0, .ro, .x, 0⟩
def PPOS_BELT_HI_VALUE : Fld := ⟨0x2000170024, 31, 0, .ro, .x, 0⟩
def PPOS_ZCAP_LO_VALUE : Fld := ⟨0x2000170028, 31, 0, .ro, .x, 0⟩
def PPOS_ZCAP_HI_VALUE : Fld := ⟨0x200017002c, 31, 0, .ro, .x, 0⟩
def PPOS_OFSn_LO_OFS (m : Nat) : Fld := ⟨0x2000170040 + 8 * m, 31, 0, .rw, .l, 0⟩
def PPOS_OFSn_HI_OFS (m : Nat) : Fld := ⟨0x2000170044 + 8 * m, 31, 0, .rw, .l, 0⟩

/-- The registers of block PPOS. -/
def regsPPOS : List RegRow := [
  ⟨0x2000170000, 1, 0x0, 0, 1, 0, fun _ _ => [PPOS_CTRL_Z_EN, PPOS_CTRL_INTERP, PPOS_CTRL_INVERT, PPOS_CTRL_EN]⟩,
  ⟨0x2000170004, 1, 0x0, 0, 1, 0, fun _ _ => [PPOS_STATUS_LOSS_CAUSE, PPOS_STATUS_CLEAR_REFUSED, PPOS_STATUS_OVERSPEED, PPOS_STATUS_ENC_LOST, PPOS_STATUS_WRITE_REFUSED, PPOS_STATUS_Z_SEEN, PPOS_STATUS_FORWARD, PPOS_STATUS_CFG_ERR, PPOS_STATUS_RUNNING]⟩,
  ⟨0x2000170008, 1, 0x0, 0, 1, 0, fun _ _ => [PPOS_SCALE_SCALE]⟩,
  ⟨0x200017000c, 1, 0x0, 0, 1, 0, fun _ _ => [PPOS_SPD_WIN_WIN]⟩,
  ⟨0x2000170010, 1, 0x0, 0, 1, 0, fun _ _ => [PPOS_VMAX_VMAX]⟩,
  ⟨0x2000170014, 1, 0x0, 0, 1, 0, fun _ _ => [PPOS_COUNT_VALUE]⟩,
  ⟨0x2000170018, 1, 0x0, 0, 1, 0, fun _ _ => [PPOS_SPEED_VALUE]⟩,
  ⟨0x2000170020, 1, 0x0, 0, 1, 0, fun _ _ => [PPOS_BELT_LO_VALUE]⟩,
  ⟨0x2000170024, 1, 0x0, 0, 1, 0, fun _ _ => [PPOS_BELT_HI_VALUE]⟩,
  ⟨0x2000170028, 1, 0x0, 0, 1, 0, fun _ _ => [PPOS_ZCAP_LO_VALUE]⟩,
  ⟨0x200017002c, 1, 0x0, 0, 1, 0, fun _ _ => [PPOS_ZCAP_HI_VALUE]⟩,
  ⟨0x2000170040, 1, 0x0, 0, 6, 8, fun _ m => [PPOS_OFSn_LO_OFS m]⟩,
  ⟨0x2000170044, 1, 0x0, 0, 6, 8, fun _ m => [PPOS_OFSn_HI_OFS m]⟩]

/-! Block DRVn -/

def DRVn_CTRL_KE_HOLD (n : Nat) : Fld := ⟨0x2000200000 + 0x1000 * n, 7, 7, .rw, .l, 0⟩
def DRVn_CTRL_SAFE_MODE (n : Nat) : Fld := ⟨0x2000200000 + 0x1000 * n, 6, 6, .rw, .s, 0⟩
def DRVn_CTRL_CATCH_EN (n : Nat) : Fld := ⟨0x2000200000 + 0x1000 * n, 5, 5, .rw, .l, 1⟩
def DRVn_CTRL_STOP (n : Nat) : Fld := ⟨0x2000200000 + 0x1000 * n, 2, 2, .wo, .l, 0⟩
def DRVn_CTRL_START (n : Nat) : Fld := ⟨0x2000200000 + 0x1000 * n, 1, 1, .wo, .l, 0⟩
def DRVn_CTRL_ENABLE (n : Nat) : Fld := ⟨0x2000200000 + 0x1000 * n, 0, 0, .rw, .l, 0⟩
def DRVn_CFG_SPD_WIN (n : Nat) : Fld := ⟨0x2000200004 + 0x1000 * n, 23, 16, .rw, .s, 16⟩
def DRVn_CFG_POLE_PAIRS (n : Nat) : Fld := ⟨0x2000200004 + 0x1000 * n, 12, 8, .rw, .s, 1⟩
def DRVn_CFG_POS_SRC (n : Nat) : Fld := ⟨0x2000200004 + 0x1000 * n, 5, 4, .rw, .s, 0⟩
def DRVn_CPR_CPR (n : Nat) : Fld := ⟨0x2000200008 + 0x1000 * n, 23, 0, .rw, .s, 4096⟩
def DRVn_PWM_DEAD (n : Nat) : Fld := ⟨0x200020000c + 0x1000 * n, 31, 24, .rw, .s, 50⟩
def DRVn_PWM_PER (n : Nat) : Fld := ⟨0x200020000c + 0x1000 * n, 15, 0, .rw, .b, 1250⟩
def DRVn_AIN0_VU (n : Nat) : Fld := ⟨0x2000200010 + 0x1000 * n, 30, 24, .rw, .s, 127⟩
def DRVn_AIN0_VDC (n : Nat) : Fld := ⟨0x2000200010 + 0x1000 * n, 22, 16, .rw, .s, 127⟩
def DRVn_AIN0_IB (n : Nat) : Fld := ⟨0x2000200010 + 0x1000 * n, 14, 8, .rw, .s, 127⟩
def DRVn_AIN0_IA (n : Nat) : Fld := ⟨0x2000200010 + 0x1000 * n, 6, 0, .rw, .s, 127⟩
def DRVn_AIN1_COS (n : Nat) : Fld := ⟨0x2000200014 + 0x1000 * n, 30, 24, .rw, .s, 127⟩
def DRVn_AIN1_SIN (n : Nat) : Fld := ⟨0x2000200014 + 0x1000 * n, 22, 16, .rw, .s, 127⟩
def DRVn_AIN1_VW (n : Nat) : Fld := ⟨0x2000200014 + 0x1000 * n, 14, 8, .rw, .s, 127⟩
def DRVn_AIN1_VV (n : Nat) : Fld := ⟨0x2000200014 + 0x1000 * n, 6, 0, .rw, .s, 127⟩
def DRVn_SCALE_V_LSB (n : Nat) : Fld := ⟨0x2000200018 + 0x1000 * n, 31, 16, .rw, .s, 0⟩
def DRVn_SCALE_I_LSB (n : Nat) : Fld := ⟨0x2000200018 + 0x1000 * n, 15, 0, .rw, .s, 0⟩
def DRVn_KP_GAIN (n : Nat) : Fld := ⟨0x200020001c + 0x1000 * n, 31, 0, .rw, .b, 0⟩
def DRVn_KI_GAIN (n : Nat) : Fld := ⟨0x2000200020 + 0x1000 * n, 31, 0, .rw, .b, 0⟩
def DRVn_IQ_REF_REF (n : Nat) : Fld := ⟨0x2000200024 + 0x1000 * n, 31, 0, .rw, .l, 0⟩
def DRVn_ID_REF_REF (n : Nat) : Fld := ⟨0x2000200028 + 0x1000 * n, 31, 0, .rw, .l, 0⟩
def DRVn_ALIGN_I (n : Nat) : Fld := ⟨0x200020002c + 0x1000 * n, 31, 16, .rw, .b, 0⟩
def DRVn_ALIGN_T (n : Nat) : Fld := ⟨0x200020002c + 0x1000 * n, 15, 0, .rw, .b, 0⟩
def DRVn_RAMP_I (n : Nat) : Fld := ⟨0x2000200030 + 0x1000 * n, 31, 16, .rw, .b, 0⟩
def DRVn_RAMP_T (n : Nat) : Fld := ⟨0x2000200030 + 0x1000 * n, 15, 0, .rw, .b, 0⟩
def DRVn_RAMP_END_SPEED (n : Nat) : Fld := ⟨0x2000200034 + 0x1000 * n, 31, 0, .rw, .s, 0⟩
def DRVn_RATED_SPEED (n : Nat) : Fld := ⟨0x2000200038 + 0x1000 * n, 31, 0, .rw, .s, 0⟩
def DRVn_OBS_ZWAIT (n : Nat) : Fld := ⟨0x200020003c + 0x1000 * n, 31, 24, .rw, .b, 4⟩
def DRVn_OBS_CATCH_T (n : Nat) : Fld := ⟨0x200020003c + 0x1000 * n, 23, 16, .rw, .b, 20⟩
def DRVn_OBS_OBS_T (n : Nat) : Fld := ⟨0x200020003c + 0x1000 * n, 15, 0, .rw, .b, 50⟩
def DRVn_KE_CFG_KE_TOL (n : Nat) : Fld := ⟨0x2000200040 + 0x1000 * n, 31, 24, .rw, .l, 15⟩
def DRVn_KE_CFG_KE_NOM (n : Nat) : Fld := ⟨0x2000200040 + 0x1000 * n, 23, 0, .rw, .l, 0⟩
def DRVn_LIMIT_I_MAX (n : Nat) : Fld := ⟨0x2000200044 + 0x1000 * n, 31, 16, .rw, .s, 0⟩
def DRVn_LIMIT_RS (n : Nat) : Fld := ⟨0x2000200044 + 0x1000 * n, 15, 0, .rw, .l, 0⟩
def DRVn_READY_READY_T (n : Nat) : Fld := ⟨0x2000200048 + 0x1000 * n, 31, 16, .rw, .l, 100⟩
def DRVn_READY_READY_TOL (n : Nat) : Fld := ⟨0x2000200048 + 0x1000 * n, 15, 0, .rw, .l, 10⟩
def DRVn_STATUS_STATE (n : Nat) : Fld := ⟨0x200020004c + 0x1000 * n, 31, 28, .ro, .x, 0⟩
def DRVn_STATUS_ATTEMPT (n : Nat) : Fld := ⟨0x200020004c + 0x1000 * n, 27, 26, .ro, .x, 0⟩
def DRVn_STATUS_START_CAUSE (n : Nat) : Fld := ⟨0x200020004c + 0x1000 * n, 25, 23, .ro, .x, 0⟩
def DRVn_STATUS_CFG (n : Nat) : Fld := ⟨0x200020004c + 0x1000 * n, 22, 20, .ro, .x, 0⟩
def DRVn_STATUS_CMD_REFUSED (n : Nat) : Fld := ⟨0x200020004c + 0x1000 * n, 9, 9, .w1c, .l, 0⟩
def DRVn_STATUS_WRITE_REFUSED (n : Nat) : Fld := ⟨0x200020004c + 0x1000 * n, 8, 8, .w1c, .l, 0⟩
def DRVn_STATUS_OVERCURRENT (n : Nat) : Fld := ⟨0x200020004c + 0x1000 * n, 7, 7, .w1c, .l, 0⟩
def DRVn_STATUS_OBS_LOST_SEEN (n : Nat) : Fld := ⟨0x200020004c + 0x1000 * n, 6, 6, .w1c, .l, 0⟩
def DRVn_STATUS_KE_BAD (n : Nat) : Fld := ⟨0x200020004c + 0x1000 * n, 5, 5, .w1c, .l, 0⟩
def DRVn_STATUS_ENC_LOST (n : Nat) : Fld := ⟨0x200020004c + 0x1000 * n, 4, 4, .w1c, .l, 0⟩
def DRVn_STATUS_START_FAIL (n : Nat) : Fld := ⟨0x200020004c + 0x1000 * n, 3, 3, .w1c, .l, 0⟩
def DRVn_STATUS_COMM_VALID (n : Nat) : Fld := ⟨0x200020004c + 0x1000 * n, 2, 2, .ro, .x, 0⟩
def DRVn_STATUS_OBS_VALID (n : Nat) : Fld := ⟨0x200020004c + 0x1000 * n, 1, 1, .ro, .x, 0⟩
def DRVn_STATUS_READY (n : Nat) : Fld := ⟨0x200020004c + 0x1000 * n, 0, 0, .ro, .x, 0⟩
def DRVn_POS_POS (n : Nat) : Fld := ⟨0x2000200050 + 0x1000 * n, 31, 0, .ro, .x, 0⟩
def DRVn_SPEED_VALUE (n : Nat) : Fld := ⟨0x2000200054 + 0x1000 * n, 31, 0, .ro, .x, 0⟩
def DRVn_IQ_VALUE (n : Nat) : Fld := ⟨0x2000200058 + 0x1000 * n, 31, 0, .ro, .x, 0⟩
def DRVn_ANGLE_COMM_OFS (n : Nat) : Fld := ⟨0x200020005c + 0x1000 * n, 31, 16, .ro, .x, 0⟩
def DRVn_ANGLE_THETA (n : Nat) : Fld := ⟨0x200020005c + 0x1000 * n, 15, 0, .ro, .x, 0⟩
def DRVn_RES_RES_PHASE (n : Nat) : Fld := ⟨0x2000200060 + 0x1000 * n, 31, 16, .rw, .s, 0⟩
def DRVn_RES_RES_OFS (n : Nat) : Fld := ⟨0x2000200060 + 0x1000 * n, 15, 0, .rw, .s, 0⟩
def DRVn_KE_KE (n : Nat) : Fld := ⟨0x2000200064 + 0x1000 * n, 23, 0, .ro, .x, 0⟩
def DRVn_COUNT_RECATCH (n : Nat) : Fld := ⟨0x2000200068 + 0x1000 * n, 31, 28, .ro, .x, 0⟩
def DRVn_COUNT_RETRIES (n : Nat) : Fld := ⟨0x2000200068 + 0x1000 * n, 27, 16, .ro, .x, 0⟩
def DRVn_COUNT_JITTER (n : Nat) : Fld := ⟨0x2000200068 + 0x1000 * n, 15, 0, .ro, .x, 0⟩
def DRVn_TARGET_VALUE (n : Nat) : Fld := ⟨0x200020006c + 0x1000 * n, 31, 0, .rw, .l, 0⟩
def DRVn_ACC_MAX_VALUE (n : Nat) : Fld := ⟨0x2000200070 + 0x1000 * n, 31, 0, .rw, .l, 0⟩
def DRVn_JERK_MAX_VALUE (n : Nat) : Fld := ⟨0x2000200074 + 0x1000 * n, 31, 0, .rw, .l, 0⟩
def DRVn_ACCEL_CMD_ACCEL (n : Nat) : Fld := ⟨0x2000200078 + 0x1000 * n, 31, 0, .ro, .x, 0⟩

/-- The registers of block DRVn. -/
def regsDRVn : List RegRow := [
  ⟨0x2000200000, 8, 0x1000, 0, 1, 0, fun n _ => [DRVn_CTRL_KE_HOLD n, DRVn_CTRL_SAFE_MODE n, DRVn_CTRL_CATCH_EN n, DRVn_CTRL_STOP n, DRVn_CTRL_START n, DRVn_CTRL_ENABLE n]⟩,
  ⟨0x2000200004, 8, 0x1000, 0, 1, 0, fun n _ => [DRVn_CFG_SPD_WIN n, DRVn_CFG_POLE_PAIRS n, DRVn_CFG_POS_SRC n]⟩,
  ⟨0x2000200008, 8, 0x1000, 0, 1, 0, fun n _ => [DRVn_CPR_CPR n]⟩,
  ⟨0x200020000c, 8, 0x1000, 0, 1, 0, fun n _ => [DRVn_PWM_DEAD n, DRVn_PWM_PER n]⟩,
  ⟨0x2000200010, 8, 0x1000, 0, 1, 0, fun n _ => [DRVn_AIN0_VU n, DRVn_AIN0_VDC n, DRVn_AIN0_IB n, DRVn_AIN0_IA n]⟩,
  ⟨0x2000200014, 8, 0x1000, 0, 1, 0, fun n _ => [DRVn_AIN1_COS n, DRVn_AIN1_SIN n, DRVn_AIN1_VW n, DRVn_AIN1_VV n]⟩,
  ⟨0x2000200018, 8, 0x1000, 0, 1, 0, fun n _ => [DRVn_SCALE_V_LSB n, DRVn_SCALE_I_LSB n]⟩,
  ⟨0x200020001c, 8, 0x1000, 0, 1, 0, fun n _ => [DRVn_KP_GAIN n]⟩,
  ⟨0x2000200020, 8, 0x1000, 0, 1, 0, fun n _ => [DRVn_KI_GAIN n]⟩,
  ⟨0x2000200024, 8, 0x1000, 0, 1, 0, fun n _ => [DRVn_IQ_REF_REF n]⟩,
  ⟨0x2000200028, 8, 0x1000, 0, 1, 0, fun n _ => [DRVn_ID_REF_REF n]⟩,
  ⟨0x200020002c, 8, 0x1000, 0, 1, 0, fun n _ => [DRVn_ALIGN_I n, DRVn_ALIGN_T n]⟩,
  ⟨0x2000200030, 8, 0x1000, 0, 1, 0, fun n _ => [DRVn_RAMP_I n, DRVn_RAMP_T n]⟩,
  ⟨0x2000200034, 8, 0x1000, 0, 1, 0, fun n _ => [DRVn_RAMP_END_SPEED n]⟩,
  ⟨0x2000200038, 8, 0x1000, 0, 1, 0, fun n _ => [DRVn_RATED_SPEED n]⟩,
  ⟨0x200020003c, 8, 0x1000, 0, 1, 0, fun n _ => [DRVn_OBS_ZWAIT n, DRVn_OBS_CATCH_T n, DRVn_OBS_OBS_T n]⟩,
  ⟨0x2000200040, 8, 0x1000, 0, 1, 0, fun n _ => [DRVn_KE_CFG_KE_TOL n, DRVn_KE_CFG_KE_NOM n]⟩,
  ⟨0x2000200044, 8, 0x1000, 0, 1, 0, fun n _ => [DRVn_LIMIT_I_MAX n, DRVn_LIMIT_RS n]⟩,
  ⟨0x2000200048, 8, 0x1000, 0, 1, 0, fun n _ => [DRVn_READY_READY_T n, DRVn_READY_READY_TOL n]⟩,
  ⟨0x200020004c, 8, 0x1000, 0, 1, 0, fun n _ => [DRVn_STATUS_STATE n, DRVn_STATUS_ATTEMPT n, DRVn_STATUS_START_CAUSE n, DRVn_STATUS_CFG n, DRVn_STATUS_CMD_REFUSED n, DRVn_STATUS_WRITE_REFUSED n, DRVn_STATUS_OVERCURRENT n, DRVn_STATUS_OBS_LOST_SEEN n, DRVn_STATUS_KE_BAD n, DRVn_STATUS_ENC_LOST n, DRVn_STATUS_START_FAIL n, DRVn_STATUS_COMM_VALID n, DRVn_STATUS_OBS_VALID n, DRVn_STATUS_READY n]⟩,
  ⟨0x2000200050, 8, 0x1000, 0, 1, 0, fun n _ => [DRVn_POS_POS n]⟩,
  ⟨0x2000200054, 8, 0x1000, 0, 1, 0, fun n _ => [DRVn_SPEED_VALUE n]⟩,
  ⟨0x2000200058, 8, 0x1000, 0, 1, 0, fun n _ => [DRVn_IQ_VALUE n]⟩,
  ⟨0x200020005c, 8, 0x1000, 0, 1, 0, fun n _ => [DRVn_ANGLE_COMM_OFS n, DRVn_ANGLE_THETA n]⟩,
  ⟨0x2000200060, 8, 0x1000, 0, 1, 0, fun n _ => [DRVn_RES_RES_PHASE n, DRVn_RES_RES_OFS n]⟩,
  ⟨0x2000200064, 8, 0x1000, 0, 1, 0, fun n _ => [DRVn_KE_KE n]⟩,
  ⟨0x2000200068, 8, 0x1000, 0, 1, 0, fun n _ => [DRVn_COUNT_RECATCH n, DRVn_COUNT_RETRIES n, DRVn_COUNT_JITTER n]⟩,
  ⟨0x200020006c, 8, 0x1000, 0, 1, 0, fun n _ => [DRVn_TARGET_VALUE n]⟩,
  ⟨0x2000200070, 8, 0x1000, 0, 1, 0, fun n _ => [DRVn_ACC_MAX_VALUE n]⟩,
  ⟨0x2000200074, 8, 0x1000, 0, 1, 0, fun n _ => [DRVn_JERK_MAX_VALUE n]⟩,
  ⟨0x2000200078, 8, 0x1000, 0, 1, 0, fun n _ => [DRVn_ACCEL_CMD_ACCEL n]⟩]

/-! Block AXSn -/

def AXSn_CTRL_HOME_REQ (n : Nat) : Fld := ⟨0x2000300000 + 0x1000 * n, 8, 8, .rw, .l, 0⟩
def AXSn_CTRL_LIM_RAMP (n : Nat) : Fld := ⟨0x2000300000 + 0x1000 * n, 7, 7, .rw, .l, 0⟩
def AXSn_CTRL_AUTO_CUR (n : Nat) : Fld := ⟨0x2000300000 + 0x1000 * n, 6, 6, .rw, .l, 1⟩
def AXSn_CTRL_STALL_EN (n : Nat) : Fld := ⟨0x2000300000 + 0x1000 * n, 5, 5, .rw, .l, 0⟩
def AXSn_CTRL_POWERDOWN (n : Nat) : Fld := ⟨0x2000300000 + 0x1000 * n, 4, 4, .rw, .l, 0⟩
def AXSn_CTRL_CLASS (n : Nat) : Fld := ⟨0x2000300000 + 0x1000 * n, 1, 1, .rw, .s, 0⟩
def AXSn_CTRL_ENABLE (n : Nat) : Fld := ⟨0x2000300000 + 0x1000 * n, 0, 0, .rw, .l, 0⟩
def AXSn_CMD_ACTION (n : Nat) : Fld := ⟨0x2000300004 + 0x1000 * n, 2, 0, .wo, .l, 0⟩
def AXSn_STATUS_STATE (n : Nat) : Fld := ⟨0x2000300008 + 0x1000 * n, 31, 29, .ro, .x, 0⟩
def AXSn_STATUS_CFG (n : Nat) : Fld := ⟨0x2000300008 + 0x1000 * n, 28, 26, .ro, .x, 0⟩
def AXSn_STATUS_HOME_CAUSE (n : Nat) : Fld := ⟨0x2000300008 + 0x1000 * n, 25, 23, .ro, .x, 0⟩
def AXSn_STATUS_RES (n : Nat) : Fld := ⟨0x2000300008 + 0x1000 * n, 22, 20, .ro, .x, 0⟩
def AXSn_STATUS_WRITE_REFUSED (n : Nat) : Fld := ⟨0x2000300008 + 0x1000 * n, 15, 15, .w1c, .l, 0⟩
def AXSn_STATUS_CMD_REFUSED (n : Nat) : Fld := ⟨0x2000300008 + 0x1000 * n, 14, 14, .w1c, .l, 0⟩
def AXSn_STATUS_STALL (n : Nat) : Fld := ⟨0x2000300008 + 0x1000 * n, 13, 13, .w1c, .l, 0⟩
def AXSn_STATUS_LIMIT_HIT (n : Nat) : Fld := ⟨0x2000300008 + 0x1000 * n, 12, 12, .w1c, .l, 0⟩
def AXSn_STATUS_HOME_FAIL (n : Nat) : Fld := ⟨0x2000300008 + 0x1000 * n, 11, 11, .w1c, .l, 0⟩
def AXSn_STATUS_OVERSHOOT (n : Nat) : Fld := ⟨0x2000300008 + 0x1000 * n, 10, 10, .w1c, .l, 0⟩
def AXSn_STATUS_LAG (n : Nat) : Fld := ⟨0x2000300008 + 0x1000 * n, 9, 9, .w1c, .l, 0⟩
def AXSn_STATUS_POS_UNC (n : Nat) : Fld := ⟨0x2000300008 + 0x1000 * n, 8, 8, .w1c, .l, 1⟩
def AXSn_STATUS_HOMED (n : Nat) : Fld := ⟨0x2000300008 + 0x1000 * n, 7, 7, .ro, .x, 0⟩
def AXSn_STATUS_STRONG (n : Nat) : Fld := ⟨0x2000300008 + 0x1000 * n, 6, 6, .ro, .x, 0⟩
def AXSn_STATUS_POWERED_DOWN (n : Nat) : Fld := ⟨0x2000300008 + 0x1000 * n, 5, 5, .ro, .x, 0⟩
def AXSn_STATUS_HOME_ACT (n : Nat) : Fld := ⟨0x2000300008 + 0x1000 * n, 4, 4, .ro, .x, 0⟩
def AXSn_STATUS_LIM_POS_ACT (n : Nat) : Fld := ⟨0x2000300008 + 0x1000 * n, 3, 3, .ro, .x, 0⟩
def AXSn_STATUS_LIM_NEG_ACT (n : Nat) : Fld := ⟨0x2000300008 + 0x1000 * n, 2, 2, .ro, .x, 0⟩
def AXSn_STATUS_REMAIN_VALID (n : Nat) : Fld := ⟨0x2000300008 + 0x1000 * n, 1, 1, .ro, .x, 0⟩
def AXSn_STATUS_READY (n : Nat) : Fld := ⟨0x2000300008 + 0x1000 * n, 0, 0, .ro, .x, 0⟩
def AXSn_TARGET_VALUE (n : Nat) : Fld := ⟨0x200030000c + 0x1000 * n, 31, 0, .rw, .l, 0⟩
def AXSn_VTARGET_VALUE (n : Nat) : Fld := ⟨0x2000300010 + 0x1000 * n, 31, 0, .rw, .l, 0⟩
def AXSn_VMAX_VALUE (n : Nat) : Fld := ⟨0x2000300014 + 0x1000 * n, 31, 0, .rw, .b, 0⟩
def AXSn_AMAX_VALUE (n : Nat) : Fld := ⟨0x2000300018 + 0x1000 * n, 31, 0, .rw, .b, 0⟩
def AXSn_JMAX_VALUE (n : Nat) : Fld := ⟨0x200030001c + 0x1000 * n, 31, 0, .rw, .b, 0⟩
def AXSn_POS_VALUE (n : Nat) : Fld := ⟨0x2000300020 + 0x1000 * n, 31, 0, .ro, .x, 0⟩
def AXSn_REMAIN_VALUE (n : Nat) : Fld := ⟨0x2000300024 + 0x1000 * n, 31, 0, .ro, .x, 0⟩
def AXSn_OVERSHOOT_VALUE (n : Nat) : Fld := ⟨0x2000300028 + 0x1000 * n, 31, 0, .ro, .x, 0⟩
def AXSn_EXT_COUNT_VALUE (n : Nat) : Fld := ⟨0x200030002c + 0x1000 * n, 31, 0, .ro, .x, 0⟩
def AXSn_HOME_CAP_VALUE (n : Nat) : Fld := ⟨0x2000300030 + 0x1000 * n, 31, 0, .ro, .x, 0⟩
def AXSn_VEL_VALUE (n : Nat) : Fld := ⟨0x2000300034 + 0x1000 * n, 31, 0, .ro, .x, 0⟩
def AXSn_ACC_VALUE (n : Nat) : Fld := ⟨0x2000300038 + 0x1000 * n, 31, 0, .ro, .x, 0⟩
def AXSn_PHASE_LOAD (n : Nat) : Fld := ⟨0x200030003c + 0x1000 * n, 25, 16, .ro, .x, 0⟩
def AXSn_PHASE_PHASE (n : Nat) : Fld := ⟨0x200030003c + 0x1000 * n, 9, 0, .ro, .x, 0⟩
def AXSn_DRIVE_I_APPLIED (n : Nat) : Fld := ⟨0x2000300040 + 0x1000 * n, 31, 16, .ro, .x, 0⟩
def AXSn_DRIVE_TON (n : Nat) : Fld := ⟨0x2000300040 + 0x1000 * n, 15, 0, .ro, .x, 0⟩
def AXSn_PINS_INV (n : Nat) : Fld := ⟨0x2000300044 + 0x1000 * n, 26, 24, .rw, .s, 0⟩
def AXSn_PINS_HOME_PIN (n : Nat) : Fld := ⟨0x2000300044 + 0x1000 * n, 22, 16, .rw, .s, 127⟩
def AXSn_PINS_LIM_POS_PIN (n : Nat) : Fld := ⟨0x2000300044 + 0x1000 * n, 14, 8, .rw, .s, 127⟩
def AXSn_PINS_LIM_NEG_PIN (n : Nat) : Fld := ⟨0x2000300044 + 0x1000 * n, 6, 0, .rw, .s, 127⟩
def AXSn_EXT_DIR_POL (n : Nat) : Fld := ⟨0x2000300048 + 0x1000 * n, 20, 20, .rw, .s, 0⟩
def AXSn_EXT_STEP_RES (n : Nat) : Fld := ⟨0x2000300048 + 0x1000 * n, 19, 16, .rw, .s, 0⟩
def AXSn_EXT_DIR_PIN (n : Nat) : Fld := ⟨0x2000300048 + 0x1000 * n, 14, 8, .rw, .s, 127⟩
def AXSn_EXT_STEP_PIN (n : Nat) : Fld := ⟨0x2000300048 + 0x1000 * n, 6, 0, .rw, .s, 127⟩
def AXSn_DEBOUNCE_HOME_DEB (n : Nat) : Fld := ⟨0x200030004c + 0x1000 * n, 15, 8, .rw, .l, 4⟩
def AXSn_DEBOUNCE_LIM_DEB (n : Nat) : Fld := ⟨0x200030004c + 0x1000 * n, 7, 0, .rw, .l, 4⟩
def AXSn_CUR_I_MAX (n : Nat) : Fld := ⟨0x2000300050 + 0x1000 * n, 31, 16, .rw, .b, 0⟩
def AXSn_CUR_I_MIN (n : Nat) : Fld := ⟨0x2000300050 + 0x1000 * n, 15, 0, .rw, .b, 0⟩
def AXSn_HOLD_I_HOLD (n : Nat) : Fld := ⟨0x2000300054 + 0x1000 * n, 31, 16, .rw, .b, 0⟩
def AXSn_HOLD_STANDSTILL_T (n : Nat) : Fld := ⟨0x2000300054 + 0x1000 * n, 15, 0, .rw, .l, 100⟩
def AXSn_CHOP_FAST_SIXT (n : Nat) : Fld := ⟨0x2000300058 + 0x1000 * n, 31, 28, .rw, .s, 4⟩
def AXSn_CHOP_DECAY (n : Nat) : Fld := ⟨0x2000300058 + 0x1000 * n, 25, 24, .rw, .s, 2⟩
def AXSn_CHOP_BLANK (n : Nat) : Fld := ⟨0x2000300058 + 0x1000 * n, 23, 16, .rw, .s, 64⟩
def AXSn_CHOP_CHOP_PER (n : Nat) : Fld := ⟨0x2000300058 + 0x1000 * n, 15, 0, .rw, .s, 6250⟩
def AXSn_SENSE_VM_AIN (n : Nat) : Fld := ⟨0x200030005c + 0x1000 * n, 22, 16, .rw, .s, 127⟩
def AXSn_SENSE_R_SENSE (n : Nat) : Fld := ⟨0x200030005c + 0x1000 * n, 15, 0, .rw, .s, 0⟩
def AXSn_QUIET_KE_STEP (n : Nat) : Fld := ⟨0x2000300060 + 0x1000 * n, 31, 16, .rw, .b, 0⟩
def AXSn_QUIET_R_COIL (n : Nat) : Fld := ⟨0x2000300060 + 0x1000 * n, 15, 0, .rw, .b, 0⟩
def AXSn_MODE_THR_RES_HYST (n : Nat) : Fld := ⟨0x2000300064 + 0x1000 * n, 31, 24, .rw, .b, 12⟩
def AXSn_MODE_THR_MODE_HYST (n : Nat) : Fld := ⟨0x2000300064 + 0x1000 * n, 23, 16, .rw, .b, 12⟩
def AXSn_MODE_THR_MODE_THR (n : Nat) : Fld := ⟨0x2000300064 + 0x1000 * n, 15, 0, .rw, .b, 0⟩
def AXSn_RES_THR0_T_HIGH (n : Nat) : Fld := ⟨0x2000300068 + 0x1000 * n, 31, 16, .rw, .b, 0⟩
def AXSn_RES_THR0_T_LOW (n : Nat) : Fld := ⟨0x2000300068 + 0x1000 * n, 15, 0, .rw, .b, 0⟩
def AXSn_RES_THR1_T_HIGH (n : Nat) : Fld := ⟨0x200030006c + 0x1000 * n, 31, 16, .rw, .b, 0⟩
def AXSn_RES_THR1_T_LOW (n : Nat) : Fld := ⟨0x200030006c + 0x1000 * n, 15, 0, .rw, .b, 0⟩
def AXSn_LOAD_REF_TK (n : Nat) : Fld := ⟨0x2000300070 + 0x1000 * n, 31, 16, .rw, .l, 0⟩
def AXSn_LOAD_REF_T0 (n : Nat) : Fld := ⟨0x2000300070 + 0x1000 * n, 15, 0, .rw, .l, 0⟩
def AXSn_STALL_STALL_THR (n : Nat) : Fld := ⟨0x2000300074 + 0x1000 * n, 25, 16, .rw, .l, 1000⟩
def AXSn_STALL_SPAN (n : Nat) : Fld := ⟨0x2000300074 + 0x1000 * n, 15, 0, .rw, .l, 1000⟩
def AXSn_VLIM_V_HARD (n : Nat) : Fld := ⟨0x2000300078 + 0x1000 * n, 31, 16, .rw, .l, 0⟩
def AXSn_VLIM_STALL_VMIN (n : Nat) : Fld := ⟨0x2000300078 + 0x1000 * n, 15, 0, .rw, .l, 0⟩
def AXSn_HOME_CFG_HOME_SRC (n : Nat) : Fld := ⟨0x200030007c + 0x1000 * n, 2, 1, .rw, .s, 0⟩
def AXSn_HOME_CFG_HOME_DIR (n : Nat) : Fld := ⟨0x200030007c + 0x1000 * n, 0, 0, .rw, .s, 0⟩
def AXSn_HOME_V_V_SLOW (n : Nat) : Fld := ⟨0x2000300080 + 0x1000 * n, 31, 16, .rw, .s, 0⟩
def AXSn_HOME_V_V_FAST (n : Nat) : Fld := ⟨0x2000300080 + 0x1000 * n, 15, 0, .rw, .s, 0⟩
def AXSn_HOME_POS_VALUE (n : Nat) : Fld := ⟨0x2000300084 + 0x1000 * n, 31, 0, .rw, .s, 0⟩
def AXSn_HOME_BACKOFF_VALUE (n : Nat) : Fld := ⟨0x2000300088 + 0x1000 * n, 31, 0, .rw, .s, 0⟩
def AXSn_HOME_MAX_VALUE (n : Nat) : Fld := ⟨0x200030008c + 0x1000 * n, 31, 0, .rw, .s, 0⟩
def AXSn_COUNT_STALLS (n : Nat) : Fld := ⟨0x2000300090 + 0x1000 * n, 31, 24, .ro, .x, 0⟩
def AXSn_COUNT_CHATTERS (n : Nat) : Fld := ⟨0x2000300090 + 0x1000 * n, 23, 16, .ro, .x, 0⟩
def AXSn_COUNT_LAGS (n : Nat) : Fld := ⟨0x2000300090 + 0x1000 * n, 15, 0, .ro, .x, 0⟩

/-- The registers of block AXSn. -/
def regsAXSn : List RegRow := [
  ⟨0x2000300000, 20, 0x1000, 0, 1, 0, fun n _ => [AXSn_CTRL_HOME_REQ n, AXSn_CTRL_LIM_RAMP n, AXSn_CTRL_AUTO_CUR n, AXSn_CTRL_STALL_EN n, AXSn_CTRL_POWERDOWN n, AXSn_CTRL_CLASS n, AXSn_CTRL_ENABLE n]⟩,
  ⟨0x2000300004, 20, 0x1000, 0, 1, 0, fun n _ => [AXSn_CMD_ACTION n]⟩,
  ⟨0x2000300008, 20, 0x1000, 0, 1, 0, fun n _ => [AXSn_STATUS_STATE n, AXSn_STATUS_CFG n, AXSn_STATUS_HOME_CAUSE n, AXSn_STATUS_RES n, AXSn_STATUS_WRITE_REFUSED n, AXSn_STATUS_CMD_REFUSED n, AXSn_STATUS_STALL n, AXSn_STATUS_LIMIT_HIT n, AXSn_STATUS_HOME_FAIL n, AXSn_STATUS_OVERSHOOT n, AXSn_STATUS_LAG n, AXSn_STATUS_POS_UNC n, AXSn_STATUS_HOMED n, AXSn_STATUS_STRONG n, AXSn_STATUS_POWERED_DOWN n, AXSn_STATUS_HOME_ACT n, AXSn_STATUS_LIM_POS_ACT n, AXSn_STATUS_LIM_NEG_ACT n, AXSn_STATUS_REMAIN_VALID n, AXSn_STATUS_READY n]⟩,
  ⟨0x200030000c, 20, 0x1000, 0, 1, 0, fun n _ => [AXSn_TARGET_VALUE n]⟩,
  ⟨0x2000300010, 20, 0x1000, 0, 1, 0, fun n _ => [AXSn_VTARGET_VALUE n]⟩,
  ⟨0x2000300014, 20, 0x1000, 0, 1, 0, fun n _ => [AXSn_VMAX_VALUE n]⟩,
  ⟨0x2000300018, 20, 0x1000, 0, 1, 0, fun n _ => [AXSn_AMAX_VALUE n]⟩,
  ⟨0x200030001c, 20, 0x1000, 0, 1, 0, fun n _ => [AXSn_JMAX_VALUE n]⟩,
  ⟨0x2000300020, 20, 0x1000, 0, 1, 0, fun n _ => [AXSn_POS_VALUE n]⟩,
  ⟨0x2000300024, 20, 0x1000, 0, 1, 0, fun n _ => [AXSn_REMAIN_VALUE n]⟩,
  ⟨0x2000300028, 20, 0x1000, 0, 1, 0, fun n _ => [AXSn_OVERSHOOT_VALUE n]⟩,
  ⟨0x200030002c, 20, 0x1000, 0, 1, 0, fun n _ => [AXSn_EXT_COUNT_VALUE n]⟩,
  ⟨0x2000300030, 20, 0x1000, 0, 1, 0, fun n _ => [AXSn_HOME_CAP_VALUE n]⟩,
  ⟨0x2000300034, 20, 0x1000, 0, 1, 0, fun n _ => [AXSn_VEL_VALUE n]⟩,
  ⟨0x2000300038, 20, 0x1000, 0, 1, 0, fun n _ => [AXSn_ACC_VALUE n]⟩,
  ⟨0x200030003c, 20, 0x1000, 0, 1, 0, fun n _ => [AXSn_PHASE_LOAD n, AXSn_PHASE_PHASE n]⟩,
  ⟨0x2000300040, 20, 0x1000, 0, 1, 0, fun n _ => [AXSn_DRIVE_I_APPLIED n, AXSn_DRIVE_TON n]⟩,
  ⟨0x2000300044, 20, 0x1000, 0, 1, 0, fun n _ => [AXSn_PINS_INV n, AXSn_PINS_HOME_PIN n, AXSn_PINS_LIM_POS_PIN n, AXSn_PINS_LIM_NEG_PIN n]⟩,
  ⟨0x2000300048, 20, 0x1000, 0, 1, 0, fun n _ => [AXSn_EXT_DIR_POL n, AXSn_EXT_STEP_RES n, AXSn_EXT_DIR_PIN n, AXSn_EXT_STEP_PIN n]⟩,
  ⟨0x200030004c, 20, 0x1000, 0, 1, 0, fun n _ => [AXSn_DEBOUNCE_HOME_DEB n, AXSn_DEBOUNCE_LIM_DEB n]⟩,
  ⟨0x2000300050, 20, 0x1000, 0, 1, 0, fun n _ => [AXSn_CUR_I_MAX n, AXSn_CUR_I_MIN n]⟩,
  ⟨0x2000300054, 20, 0x1000, 0, 1, 0, fun n _ => [AXSn_HOLD_I_HOLD n, AXSn_HOLD_STANDSTILL_T n]⟩,
  ⟨0x2000300058, 20, 0x1000, 0, 1, 0, fun n _ => [AXSn_CHOP_FAST_SIXT n, AXSn_CHOP_DECAY n, AXSn_CHOP_BLANK n, AXSn_CHOP_CHOP_PER n]⟩,
  ⟨0x200030005c, 20, 0x1000, 0, 1, 0, fun n _ => [AXSn_SENSE_VM_AIN n, AXSn_SENSE_R_SENSE n]⟩,
  ⟨0x2000300060, 20, 0x1000, 0, 1, 0, fun n _ => [AXSn_QUIET_KE_STEP n, AXSn_QUIET_R_COIL n]⟩,
  ⟨0x2000300064, 20, 0x1000, 0, 1, 0, fun n _ => [AXSn_MODE_THR_RES_HYST n, AXSn_MODE_THR_MODE_HYST n, AXSn_MODE_THR_MODE_THR n]⟩,
  ⟨0x2000300068, 20, 0x1000, 0, 1, 0, fun n _ => [AXSn_RES_THR0_T_HIGH n, AXSn_RES_THR0_T_LOW n]⟩,
  ⟨0x200030006c, 20, 0x1000, 0, 1, 0, fun n _ => [AXSn_RES_THR1_T_HIGH n, AXSn_RES_THR1_T_LOW n]⟩,
  ⟨0x2000300070, 20, 0x1000, 0, 1, 0, fun n _ => [AXSn_LOAD_REF_TK n, AXSn_LOAD_REF_T0 n]⟩,
  ⟨0x2000300074, 20, 0x1000, 0, 1, 0, fun n _ => [AXSn_STALL_STALL_THR n, AXSn_STALL_SPAN n]⟩,
  ⟨0x2000300078, 20, 0x1000, 0, 1, 0, fun n _ => [AXSn_VLIM_V_HARD n, AXSn_VLIM_STALL_VMIN n]⟩,
  ⟨0x200030007c, 20, 0x1000, 0, 1, 0, fun n _ => [AXSn_HOME_CFG_HOME_SRC n, AXSn_HOME_CFG_HOME_DIR n]⟩,
  ⟨0x2000300080, 20, 0x1000, 0, 1, 0, fun n _ => [AXSn_HOME_V_V_SLOW n, AXSn_HOME_V_V_FAST n]⟩,
  ⟨0x2000300084, 20, 0x1000, 0, 1, 0, fun n _ => [AXSn_HOME_POS_VALUE n]⟩,
  ⟨0x2000300088, 20, 0x1000, 0, 1, 0, fun n _ => [AXSn_HOME_BACKOFF_VALUE n]⟩,
  ⟨0x200030008c, 20, 0x1000, 0, 1, 0, fun n _ => [AXSn_HOME_MAX_VALUE n]⟩,
  ⟨0x2000300090, 20, 0x1000, 0, 1, 0, fun n _ => [AXSn_COUNT_STALLS n, AXSn_COUNT_CHATTERS n, AXSn_COUNT_LAGS n]⟩]

/-! Block LOOPn -/

def LOOPn_CTRL_INT_EN (n : Nat) : Fld := ⟨0x2000400000 + 0x400 * n, 7, 4, .rw, .b, 0⟩
def LOOPn_CTRL_APPLY (n : Nat) : Fld := ⟨0x2000400000 + 0x400 * n, 2, 2, .wo, .l, 0⟩
def LOOPn_CTRL_MODE (n : Nat) : Fld := ⟨0x2000400000 + 0x400 * n, 1, 1, .rw, .l, 0⟩
def LOOPn_CTRL_ENABLE (n : Nat) : Fld := ⟨0x2000400000 + 0x400 * n, 0, 0, .rw, .l, 0⟩
def LOOPn_CFG_FF_SRC (n : Nat) : Fld := ⟨0x2000400004 + 0x400 * n, 13, 12, .rw, .s, 0⟩
def LOOPn_CFG_NU_M1 (n : Nat) : Fld := ⟨0x2000400004 + 0x400 * n, 9, 8, .rw, .s, 0⟩
def LOOPn_CFG_NY_M1 (n : Nat) : Fld := ⟨0x2000400004 + 0x400 * n, 5, 4, .rw, .s, 0⟩
def LOOPn_CFG_NX_M1 (n : Nat) : Fld := ⟨0x2000400004 + 0x400 * n, 2, 0, .rw, .s, 0⟩
def LOOPn_BIND_MSG_EN (n : Nat) : Fld := ⟨0x2000400008 + 0x400 * n, 30, 24, .rw, .l, 0⟩
def LOOPn_BIND_INT_MAP (n : Nat) : Fld := ⟨0x2000400008 + 0x400 * n, 23, 16, .rw, .s, 0⟩
def LOOPn_BIND_OWNER (n : Nat) : Fld := ⟨0x2000400008 + 0x400 * n, 8, 0, .rw, .s, 0⟩
def LOOPn_STATUS_CFG (n : Nat) : Fld := ⟨0x200040000c + 0x400 * n, 31, 28, .ro, .x, 0⟩
def LOOPn_STATUS_APPLY_PENDING (n : Nat) : Fld := ⟨0x200040000c + 0x400 * n, 10, 10, .ro, .x, 0⟩
def LOOPn_STATUS_SAFE_MANUAL (n : Nat) : Fld := ⟨0x200040000c + 0x400 * n, 9, 9, .w1c, .l, 0⟩
def LOOPn_STATUS_WRITE_REFUSED (n : Nat) : Fld := ⟨0x200040000c + 0x400 * n, 8, 8, .w1c, .l, 0⟩
def LOOPn_STATUS_LATE (n : Nat) : Fld := ⟨0x200040000c + 0x400 * n, 7, 7, .w1c, .l, 0⟩
def LOOPn_STATUS_REFUSED (n : Nat) : Fld := ⟨0x200040000c + 0x400 * n, 6, 6, .w1c, .l, 0⟩
def LOOPn_STATUS_AUTO_ACT (n : Nat) : Fld := ⟨0x200040000c + 0x400 * n, 4, 4, .ro, .x, 0⟩
def LOOPn_STATUS_OVF_IN (n : Nat) : Fld := ⟨0x200040000c + 0x400 * n, 3, 3, .w1c, .l, 0⟩
def LOOPn_STATUS_SAT_ACC (n : Nat) : Fld := ⟨0x200040000c + 0x400 * n, 2, 2, .w1c, .l, 0⟩
def LOOPn_STATUS_SAT_OUT (n : Nat) : Fld := ⟨0x200040000c + 0x400 * n, 1, 1, .w1c, .l, 0⟩
def LOOPn_STATUS_SAT_STATE (n : Nat) : Fld := ⟨0x200040000c + 0x400 * n, 0, 0, .w1c, .l, 0⟩
def LOOPn_TS_TS (n : Nat) : Fld := ⟨0x2000400010 + 0x400 * n, 31, 0, .rw, .l, 0⟩
def LOOPn_COUNT_LATES (n : Nat) : Fld := ⟨0x2000400014 + 0x400 * n, 31, 16, .ro, .x, 0⟩
def LOOPn_COUNT_SAMPLES (n : Nat) : Fld := ⟨0x2000400014 + 0x400 * n, 15, 0, .ro, .x, 0⟩
def LOOPn_SRCk_SRC_HI (n m : Nat) : Fld := ⟨0x2000400018 + 0x400 * n + 4 * m, 31, 16, .rw, .s, 0⟩
def LOOPn_SRCk_SRC_LO (n m : Nat) : Fld := ⟨0x2000400018 + 0x400 * n + 4 * m, 15, 0, .rw, .s, 0⟩
def LOOPn_SCALEs_SCALE (n m : Nat) : Fld := ⟨0x200040002c + 0x400 * n + 4 * m, 31, 0, .rw, .b, 0⟩
def LOOPn_DST01_DST_HI (n : Nat) : Fld := ⟨0x2000400050 + 0x400 * n, 31, 16, .rw, .s, 0⟩
def LOOPn_DST01_DST_LO (n : Nat) : Fld := ⟨0x2000400050 + 0x400 * n, 15, 0, .rw, .s, 0⟩
def LOOPn_DST23_DST_HI (n : Nat) : Fld := ⟨0x2000400054 + 0x400 * n, 31, 16, .rw, .s, 0⟩
def LOOPn_DST23_DST_LO (n : Nat) : Fld := ⟨0x2000400054 + 0x400 * n, 15, 0, .rw, .s, 0⟩
def LOOPn_U_MINj_VALUE (n m : Nat) : Fld := ⟨0x2000400058 + 0x400 * n + 4 * m, 31, 0, .rw, .b, 2147483648⟩
def LOOPn_U_MAXj_VALUE (n m : Nat) : Fld := ⟨0x2000400068 + 0x400 * n + 4 * m, 31, 0, .rw, .b, 2147483647⟩
def LOOPn_MAN_Uj_VALUE (n m : Nat) : Fld := ⟨0x2000400078 + 0x400 * n + 4 * m, 31, 0, .rw, .l, 0⟩
def LOOPn_Gj_VALUE (n m : Nat) : Fld := ⟨0x2000400088 + 0x400 * n + 4 * m, 31, 0, .rw, .b, 0⟩
def LOOPn_Fj_VALUE (n m : Nat) : Fld := ⟨0x2000400098 + 0x400 * n + 4 * m, 31, 0, .rw, .b, 0⟩
def LOOPn_Hj_VALUE (n m : Nat) : Fld := ⟨0x20004000a8 + 0x400 * n + 4 * m, 31, 0, .rw, .b, 0⟩
def LOOPn_Xi_VALUE (n m : Nat) : Fld := ⟨0x20004000b8 + 0x400 * n + 4 * m, 31, 0, .rw, .b, 0⟩
def LOOPn_Zj_VALUE (n m : Nat) : Fld := ⟨0x20004000d8 + 0x400 * n + 4 * m, 31, 0, .rw, .b, 0⟩
def LOOPn_Uj_VALUE (n m : Nat) : Fld := ⟨0x20004000e8 + 0x400 * n + 4 * m, 31, 0, .ro, .x, 0⟩
def LOOPn_MAT_A_VALUE (n m : Nat) : Fld := ⟨0x2000400100 + 0x400 * n + 4 * m, 31, 0, .rw, .b, 0⟩
def LOOPn_MAT_B_VALUE (n m : Nat) : Fld := ⟨0x2000400200 + 0x400 * n + 4 * m, 31, 0, .rw, .b, 0⟩
def LOOPn_MAT_C_VALUE (n m : Nat) : Fld := ⟨0x2000400280 + 0x400 * n + 4 * m, 31, 0, .rw, .b, 0⟩
def LOOPn_MAT_L_VALUE (n m : Nat) : Fld := ⟨0x2000400300 + 0x400 * n + 4 * m, 31, 0, .rw, .b, 0⟩
def LOOPn_MAT_K_VALUE (n m : Nat) : Fld := ⟨0x2000400380 + 0x400 * n + 4 * m, 31, 0, .rw, .b, 0⟩

/-- The registers of block LOOPn. -/
def regsLOOPn : List RegRow := [
  ⟨0x2000400000, 64, 0x400, 0, 1, 0, fun n _ => [LOOPn_CTRL_INT_EN n, LOOPn_CTRL_APPLY n, LOOPn_CTRL_MODE n, LOOPn_CTRL_ENABLE n]⟩,
  ⟨0x2000400004, 64, 0x400, 0, 1, 0, fun n _ => [LOOPn_CFG_FF_SRC n, LOOPn_CFG_NU_M1 n, LOOPn_CFG_NY_M1 n, LOOPn_CFG_NX_M1 n]⟩,
  ⟨0x2000400008, 64, 0x400, 0, 1, 0, fun n _ => [LOOPn_BIND_MSG_EN n, LOOPn_BIND_INT_MAP n, LOOPn_BIND_OWNER n]⟩,
  ⟨0x200040000c, 64, 0x400, 0, 1, 0, fun n _ => [LOOPn_STATUS_CFG n, LOOPn_STATUS_APPLY_PENDING n, LOOPn_STATUS_SAFE_MANUAL n, LOOPn_STATUS_WRITE_REFUSED n, LOOPn_STATUS_LATE n, LOOPn_STATUS_REFUSED n, LOOPn_STATUS_AUTO_ACT n, LOOPn_STATUS_OVF_IN n, LOOPn_STATUS_SAT_ACC n, LOOPn_STATUS_SAT_OUT n, LOOPn_STATUS_SAT_STATE n]⟩,
  ⟨0x2000400010, 64, 0x400, 0, 1, 0, fun n _ => [LOOPn_TS_TS n]⟩,
  ⟨0x2000400014, 64, 0x400, 0, 1, 0, fun n _ => [LOOPn_COUNT_LATES n, LOOPn_COUNT_SAMPLES n]⟩,
  ⟨0x2000400018, 64, 0x400, 0, 5, 4, fun n m => if m = 4 then [LOOPn_SRCk_SRC_LO n m] else [LOOPn_SRCk_SRC_HI n m, LOOPn_SRCk_SRC_LO n m]⟩,
  ⟨0x200040002c, 64, 0x400, 0, 9, 4, fun n m => [LOOPn_SCALEs_SCALE n m]⟩,
  ⟨0x2000400050, 64, 0x400, 0, 1, 0, fun n _ => [LOOPn_DST01_DST_HI n, LOOPn_DST01_DST_LO n]⟩,
  ⟨0x2000400054, 64, 0x400, 0, 1, 0, fun n _ => [LOOPn_DST23_DST_HI n, LOOPn_DST23_DST_LO n]⟩,
  ⟨0x2000400058, 64, 0x400, 0, 4, 4, fun n m => [LOOPn_U_MINj_VALUE n m]⟩,
  ⟨0x2000400068, 64, 0x400, 0, 4, 4, fun n m => [LOOPn_U_MAXj_VALUE n m]⟩,
  ⟨0x2000400078, 64, 0x400, 0, 4, 4, fun n m => [LOOPn_MAN_Uj_VALUE n m]⟩,
  ⟨0x2000400088, 64, 0x400, 0, 4, 4, fun n m => [LOOPn_Gj_VALUE n m]⟩,
  ⟨0x2000400098, 64, 0x400, 0, 4, 4, fun n m => [LOOPn_Fj_VALUE n m]⟩,
  ⟨0x20004000a8, 64, 0x400, 0, 4, 4, fun n m => [LOOPn_Hj_VALUE n m]⟩,
  ⟨0x20004000b8, 64, 0x400, 0, 8, 4, fun n m => [LOOPn_Xi_VALUE n m]⟩,
  ⟨0x20004000d8, 64, 0x400, 0, 4, 4, fun n m => [LOOPn_Zj_VALUE n m]⟩,
  ⟨0x20004000e8, 64, 0x400, 0, 4, 4, fun n m => [LOOPn_Uj_VALUE n m]⟩,
  ⟨0x2000400100, 64, 0x400, 0, 64, 4, fun n m => [LOOPn_MAT_A_VALUE n m]⟩,
  ⟨0x2000400200, 64, 0x400, 0, 32, 4, fun n m => [LOOPn_MAT_B_VALUE n m]⟩,
  ⟨0x2000400280, 64, 0x400, 0, 32, 4, fun n m => [LOOPn_MAT_C_VALUE n m]⟩,
  ⟨0x2000400300, 64, 0x400, 0, 32, 4, fun n m => [LOOPn_MAT_L_VALUE n m]⟩,
  ⟨0x2000400380, 64, 0x400, 0, 32, 4, fun n m => [LOOPn_MAT_K_VALUE n m]⟩]

/-! Block HVO -/

def HVO_STATUS_WRITE_REFUSED : Fld := ⟨0x2000410000, 0, 0, .w1c, .l, 0⟩
def HVO_CLAMP_CLAMP : Fld := ⟨0x2000410004, 31, 0, .w1c, .l, 0⟩
def HVOk_CTRL_EN (n : Nat) : Fld := ⟨0x2000410100 + 0x10 * n, 31, 31, .rw, .l, 0⟩
def HVOk_CTRL_PHASE (n : Nat) : Fld := ⟨0x2000410100 + 0x10 * n, 29, 16, .rw, .s, 0⟩
def HVOk_CTRL_PER (n : Nat) : Fld := ⟨0x2000410100 + 0x10 * n, 13, 0, .rw, .s, 2500⟩
def HVOk_DUTY_DUTY_MAX (n : Nat) : Fld := ⟨0x2000410104 + 0x10 * n, 27, 16, .rw, .b, 0⟩
def HVOk_DUTY_DUTY (n : Nat) : Fld := ⟨0x2000410104 + 0x10 * n, 11, 0, .rw, .b, 0⟩
def HVOk_STATUS_APPLIED (n : Nat) : Fld := ⟨0x2000410108 + 0x10 * n, 11, 0, .ro, .x, 0⟩

/-- The registers of block HVO. -/
def regsHVO : List RegRow := [
  ⟨0x2000410000, 1, 0x0, 0, 1, 0, fun _ _ => [HVO_STATUS_WRITE_REFUSED]⟩,
  ⟨0x2000410004, 1, 0x0, 0, 1, 0, fun _ _ => [HVO_CLAMP_CLAMP]⟩,
  ⟨0x2000410100, 32, 0x10, 0, 1, 0, fun n _ => [HVOk_CTRL_EN n, HVOk_CTRL_PHASE n, HVOk_CTRL_PER n]⟩,
  ⟨0x2000410104, 32, 0x10, 0, 1, 0, fun n _ => [HVOk_DUTY_DUTY_MAX n, HVOk_DUTY_DUTY n]⟩,
  ⟨0x2000410108, 32, 0x10, 0, 1, 0, fun n _ => [HVOk_STATUS_APPLIED n]⟩]

/-! Block FUS -/

def FUS_CTRL_FUSER_EN_REQ : Fld := ⟨0x2000420000, 0, 0, .rw, .l, 0⟩
def FUS_STATUS_STOP_SEEN : Fld := ⟨0x2000420004, 2, 2, .w1c, .l, 0⟩
def FUS_STATUS_WRITE_REFUSED : Fld := ⟨0x2000420004, 1, 1, .w1c, .l, 0⟩
def FUS_STATUS_TOGGLING : Fld := ⟨0x2000420004, 0, 0, .ro, .x, 0⟩
def FUSf_CTRL_EN (n : Nat) : Fld := ⟨0x2000420100 + 0x20 * n, 0, 0, .rw, .l, 0⟩
def FUSf_FREQ_FREQ (n : Nat) : Fld := ⟨0x2000420104 + 0x20 * n, 31, 0, .rw, .b, 6553600⟩
def FUSf_LIMIT_FMAX (n : Nat) : Fld := ⟨0x2000420108 + 0x20 * n, 31, 16, .rw, .s, 10000⟩
def FUSf_LIMIT_FMIN (n : Nat) : Fld := ⟨0x2000420108 + 0x20 * n, 15, 0, .rw, .s, 2000⟩
def FUSf_DEAD_SLEW (n : Nat) : Fld := ⟨0x200042010c + 0x20 * n, 31, 16, .rw, .b, 0⟩
def FUSf_DEAD_DEAD (n : Nat) : Fld := ⟨0x200042010c + 0x20 * n, 7, 0, .rw, .s, 50⟩
def FUSf_STATUS_F_APPLIED (n : Nat) : Fld := ⟨0x2000420110 + 0x20 * n, 31, 16, .ro, .x, 0⟩
def FUSf_STATUS_CLAMPED (n : Nat) : Fld := ⟨0x2000420110 + 0x20 * n, 3, 3, .w1c, .l, 0⟩
def FUSf_STATUS_FLT_SEEN (n : Nat) : Fld := ⟨0x2000420110 + 0x20 * n, 2, 2, .w1c, .l, 0⟩
def FUSf_STATUS_FLT (n : Nat) : Fld := ⟨0x2000420110 + 0x20 * n, 1, 1, .ro, .x, 0⟩
def FUSf_STATUS_RUNNING (n : Nat) : Fld := ⟨0x2000420110 + 0x20 * n, 0, 0, .ro, .x, 0⟩

/-- The registers of block FUS. -/
def regsFUS : List RegRow := [
  ⟨0x2000420000, 1, 0x0, 0, 1, 0, fun _ _ => [FUS_CTRL_FUSER_EN_REQ]⟩,
  ⟨0x2000420004, 1, 0x0, 0, 1, 0, fun _ _ => [FUS_STATUS_STOP_SEEN, FUS_STATUS_WRITE_REFUSED, FUS_STATUS_TOGGLING]⟩,
  ⟨0x2000420100, 2, 0x20, 0, 1, 0, fun n _ => [FUSf_CTRL_EN n]⟩,
  ⟨0x2000420104, 2, 0x20, 0, 1, 0, fun n _ => [FUSf_FREQ_FREQ n]⟩,
  ⟨0x2000420108, 2, 0x20, 0, 1, 0, fun n _ => [FUSf_LIMIT_FMAX n, FUSf_LIMIT_FMIN n]⟩,
  ⟨0x200042010c, 2, 0x20, 0, 1, 0, fun n _ => [FUSf_DEAD_SLEW n, FUSf_DEAD_DEAD n]⟩,
  ⟨0x2000420110, 2, 0x20, 0, 1, 0, fun n _ => [FUSf_STATUS_F_APPLIED n, FUSf_STATUS_CLAMPED n, FUSf_STATUS_FLT_SEEN n, FUSf_STATUS_FLT n, FUSf_STATUS_RUNNING n]⟩]

/-! Block GPIO -/

def GPIO_INw_IN (m : Nat) : Fld := ⟨0x2000430000 + 4 * m, 31, 0, .ro, .x, 0⟩
def GPIO_OUTw_OUT (m : Nat) : Fld := ⟨0x2000430010 + 4 * m, 31, 0, .rw, .l, 0⟩
def GPIO_OUT_SETw_SET (m : Nat) : Fld := ⟨0x2000430020 + 4 * m, 31, 0, .w1s, .l, 0⟩
def GPIO_OUT_CLRw_CLR (m : Nat) : Fld := ⟨0x2000430030 + 4 * m, 31, 0, .w1c, .l, 0⟩
def GPIO_CFGp_EDGE (m : Nat) : Fld := ⟨0x2000430100 + 4 * m, 7, 6, .rw, .l, 0⟩
def GPIO_CFGp_PULL (m : Nat) : Fld := ⟨0x2000430100 + 4 * m, 5, 4, .rw, .l, 1⟩
def GPIO_CFGp_MODE (m : Nat) : Fld := ⟨0x2000430100 + 4 * m, 1, 0, .rw, .l, 0⟩

/-- The registers of block GPIO. -/
def regsGPIO : List RegRow := [
  ⟨0x2000430000, 1, 0x0, 0, 3, 4, fun _ m => [GPIO_INw_IN m]⟩,
  ⟨0x2000430010, 1, 0x0, 0, 3, 4, fun _ m => [GPIO_OUTw_OUT m]⟩,
  ⟨0x2000430020, 1, 0x0, 0, 3, 4, fun _ m => [GPIO_OUT_SETw_SET m]⟩,
  ⟨0x2000430030, 1, 0x0, 0, 3, 4, fun _ m => [GPIO_OUT_CLRw_CLR m]⟩,
  ⟨0x2000430100, 1, 0x0, 0, 96, 4, fun _ m => [GPIO_CFGp_EDGE m, GPIO_CFGp_PULL m, GPIO_CFGp_MODE m]⟩]

/-! Block ADC -/

def ADC_STATUS_BUSY : Fld := ⟨0x20000f0000, 4, 0, .ro, .x, 0⟩
def ADCc_CTRL_EN (n : Nat) : Fld := ⟨0x20000f0100 + 0x100 * n, 0, 0, .rw, .l, 1⟩
def ADCc_STATUS_DROPPED (n : Nat) : Fld := ⟨0x20000f0104 + 0x100 * n, 31, 16, .ro, .x, 0⟩
def ADCc_STATUS_SEQ (n : Nat) : Fld := ⟨0x20000f0104 + 0x100 * n, 7, 4, .ro, .x, 0⟩
def ADCc_STATUS_REF_BAD (n : Nat) : Fld := ⟨0x20000f0104 + 0x100 * n, 3, 3, .w1c, .l, 0⟩
def ADCc_STATUS_SCANNING (n : Nat) : Fld := ⟨0x20000f0104 + 0x100 * n, 2, 2, .ro, .x, 0⟩
def ADCc_STATUS_SEQ_BUSY (n : Nat) : Fld := ⟨0x20000f0104 + 0x100 * n, 1, 1, .ro, .x, 0⟩
def ADCc_STATUS_CONVERTING (n : Nat) : Fld := ⟨0x20000f0104 + 0x100 * n, 0, 0, .ro, .x, 0⟩
def ADCc_SCAN_MASK (n : Nat) : Fld := ⟨0x20000f0108 + 0x100 * n, 15, 0, .rw, .l, 0⟩
def ADCc_SCAN_INT_INT (n : Nat) : Fld := ⟨0x20000f010c + 0x100 * n, 15, 0, .rw, .l, 10⟩
def ADCc_SEQs_LEN_M1 (n m : Nat) : Fld := ⟨0x20000f0140 + 0x100 * n + 4 * m, 17, 16, .rw, .b, 0⟩
def ADCc_SEQs_IN3 (n m : Nat) : Fld := ⟨0x20000f0140 + 0x100 * n + 4 * m, 15, 12, .rw, .b, 0⟩
def ADCc_SEQs_IN2 (n m : Nat) : Fld := ⟨0x20000f0140 + 0x100 * n + 4 * m, 11, 8, .rw, .b, 0⟩
def ADCc_SEQs_IN1 (n m : Nat) : Fld := ⟨0x20000f0140 + 0x100 * n + 4 * m, 7, 4, .rw, .b, 0⟩
def ADCc_SEQs_IN0 (n m : Nat) : Fld := ⟨0x20000f0140 + 0x100 * n + 4 * m, 3, 0, .rw, .b, 0⟩
def ADC_AINk_AGE (m : Nat) : Fld := ⟨0x20000f0800 + 4 * m, 31, 16, .ro, .x, 65535⟩
def ADC_AINk_CODE (m : Nat) : Fld := ⟨0x20000f0800 + 4 * m, 15, 0, .ro, .x, 0⟩

/-- The registers of block ADC. -/
def regsADC : List RegRow := [
  ⟨0x20000f0000, 1, 0x0, 0, 1, 0, fun _ _ => [ADC_STATUS_BUSY]⟩,
  ⟨0x20000f0100, 5, 0x100, 0, 1, 0, fun n _ => [ADCc_CTRL_EN n]⟩,
  ⟨0x20000f0104, 5, 0x100, 0, 1, 0, fun n _ => [ADCc_STATUS_DROPPED n, ADCc_STATUS_SEQ n, ADCc_STATUS_REF_BAD n, ADCc_STATUS_SCANNING n, ADCc_STATUS_SEQ_BUSY n, ADCc_STATUS_CONVERTING n]⟩,
  ⟨0x20000f0108, 5, 0x100, 0, 1, 0, fun n _ => [ADCc_SCAN_MASK n]⟩,
  ⟨0x20000f010c, 5, 0x100, 0, 1, 0, fun n _ => [ADCc_SCAN_INT_INT n]⟩,
  ⟨0x20000f0140, 5, 0x100, 0, 16, 4, fun n m => [ADCc_SEQs_LEN_M1 n m, ADCc_SEQs_IN3 n m, ADCc_SEQs_IN2 n m, ADCc_SEQs_IN1 n m, ADCc_SEQs_IN0 n m]⟩,
  ⟨0x20000f0800, 1, 0x0, 0, 80, 4, fun _ m => [ADC_AINk_AGE m, ADC_AINk_CODE m]⟩]

end Sys2Proof.Machine
end

