-- ==== Sys2Proof/Machine/State.lean ====
section
/-! DEFINITION. The state of the block as plain data: every register field, every queue, counter, table and buffer that
the spec gives the controller, the queue of waiting commands, and the state after reset. -/

namespace Sys2Proof.Machine

/-- Why the machine stops with a fault. -/
inductive Fault
  /-- Raised by a meaning whose command names a unit, a task number, a channel or an internal check of a pipeline that the spec says does not
  exist (R13, R97, R203), or carries a recovery frame longer than R443 admits: safe, since no such command can be given (log entry 5). -/
  | noSuchUnit
  deriving DecidableEq, Repr

/-- Why a command has no next state. -/
inductive Refusal
  /-- Raised by Dispatch for a command whose meaning is not written yet: safe. -/
  | notModelled (mnemonic : String)
  /-- Raised by TAP_INSTRUCTION for a test instruction of which R478 gives no effect: safe. -/
  | testInstruction
  deriving DecidableEq, Repr

/-! ### The Exine tasks (R59 to R110) -/

/-- The architectural state of a task (R59); `w[0]` is never written. -/
structure Arch where
  w : Vector Word 32
  t : Vector Word64 4
  n : Bool
  z : Bool
  c : Bool
  v : Bool
  pc : BitVec 16
  ref : Word64
  deriving DecidableEq, Repr

/-- The state of R60 at a task's first activation, with PC at `entry`. -/
def Arch.start (entry : BitVec 16) (ref : Word64) : Arch :=
  ⟨Vector.replicate 32 0, Vector.replicate 4 0, false, false, false, false, entry, ref⟩

/-- A segment descriptor (R98). -/
structure SegDesc where
  seg : Nat
  ro : Bool
  init : Bool
  near : Bool
  size : Nat
  initOffset : Nat
  deriving DecidableEq, Repr

/-- The release kinds of R101. -/
inductive RelKind | once | period | event | message | sheet | call
  deriving DecidableEq, Repr

/-- A task header (R97 to R99): `raw` fields that only the checks of R100 read are kept as they stand. -/
structure TaskHdr where
  hdrOk : Bool
  loop : Bool
  cls : Nat
  prio : Nat
  restart : Bool
  task : Nat
  rel : RelKind
  relArg : Nat
  relParam : Nat
  minInterval : Nat
  deadline : Nat
  budget : Nat
  load : Nat
  entry : Nat
  codeWords : Nat
  segs : List SegDesc
  chans : List (Nat × Bool)
  code : List Word
  deriving DecidableEq, Repr

/-- What a pending wait waits for (R80, R85). -/
inductive WaitKind
  | time (target : Word64)
  | pos (stn : Nat) (target : Word64)
  | event (sel : Nat)
  | send (ch : Nat) (word : Word)
  | recv (ch : Nat) (d : BitVec 5)
  deriving DecidableEq, Repr

/-- A pending wait: its condition, its limit (L = 1: the value of t3), and the time of the tick at which its event or
crossing was detected. -/
structure Wait where
  kind : WaitKind
  limit : Option Word64
  hit : Option Word64
  deriving DecidableEq, Repr

/-- A release of an activation (R101): its REF and its argument words. -/
structure Release where
  ref : Word64
  args : List Word
  deriving DecidableEq, Repr

/-- The task states of PLC_TASK_STATE (R117). -/
inductive TStat | idle | ready | running | waiting | trapped | stopped
  deriving DecidableEq, Repr

/-- A declared task: its header, its architectural state, and what the controller keeps of it. -/
structure Task where
  hdr : TaskHdr
  arch : Arch
  stat : TStat
  wait : Option Wait
  /-- The service a DCALL waits for, and the reply held for the task (R89, R95). -/
  dcall : Option Nat
  /-- The task stalls on a re-fetch, or left its engine for the AON queue or the page store (R95). -/
  stall : Bool
  /-- A load or store that waits on the page store (R95): the TB tick at which the access completes, and the registers then. -/
  access : Option (Nat × Arch)
  pending : Option Release
  inForce : Release
  started : Bool
  ckpt : Option Arch
  cyc : Nat
  maxCyc : Nat
  minSlack : Nat
  overrun : Nat
  trapPc : Nat
  trapKind : Nat
  /-- Traps since the last DONE or CKPT (R117), and since the last of these or of a PLC_TASK_CMD restart (R109). -/
  streak : Nat
  tries : Nat
  trapTime : Nat
  readyAt : Nat
  preempted : Bool
  halted : Bool
  phys : Nat
  segLoc : List (Nat × Nat)
  /-- The device addresses of the task's code and of its segments (R112). -/
  area : Nat
  segBase : List (Nat × Nat)
  nextPeriod : Nat
  deriving DecidableEq, Repr

/-- A boundary move in its pause (R114). -/
structure Moving where
  old : Nat
  new : Nat
  st : Nat
  task : Option Nat
  until_ : Nat
  deriving DecidableEq, Repr

/-- The Exine side of the machine. -/
structure Exine where
  tasks : List (Nat × Task)
  /-- The task that each physical engine runs (R104). -/
  running : List (Nat × Nat)
  /-- The words of each message channel, oldest first (R84, R107). -/
  chans : List (Nat × List Word)
  /-- The engine log of DCALL LOG (R89), newest first. -/
  log : List (Nat × List Word)
  /-- The headers of the running image, in image order (R97, R113). -/
  image : List TaskHdr
  /-- Boundary moves that wait (R114): old engine, whether for slowness, and whether its sheet boundary has come. -/
  moves : List (Nat × (Bool × Bool))
  /-- Boundary moves in their pause (R114): old and new engine, the state the old one takes, the task that it ran, and the tick at which the pause ends. -/
  moving : List Moving
  /-- The number of the sheet whose commit made the last sheet boundary (R116). -/
  boundarySeq : Nat
  /-- Placement records (R116): kind, then contents. -/
  placeRecs : List (List Nat)
  deriving DecidableEq, Repr

/-! ### Faults in flight -/

/-- A fault message (R408) on its way to the collector; `named` is the class that the rule sending it names (R411). -/
structure FaultMsg where
  src : Nat
  kind : Nat
  detail : Nat
  named : Nat
  deriving DecidableEq, Repr

/-! ### The sheet ledger and the journal (R30 to R57) -/

/-- The sheet states of R34. -/
inductive SheetState
  | submitted | admitted | committed | exposed | transferred | fused
  | delivered | deliveredDefect | failed | withdrawn
  deriving DecidableEq, Repr

/-- A plane of a sheet: its entry (R129), its plane-pool blocks (R154), the bytes that have arrived with their running
CRC, whether it is resident and verified (R131), and whether its space has been freed (R132). -/
structure Plane where
  entry : PlaneEntry
  blocks : List Nat
  got : Nat
  crc : Nat
  ok : Bool
  bad : Bool
  freed : Bool
  deriving DecidableEq, Repr

/-- A journal record (R46). `good` is whether its CRC is good; `tell` is whether the change it records is still to be
reported once the record is programmed (R45). -/
structure JRec where
  typ : Nat
  st : Nat
  reason : Nat
  limit : Nat
  ctrl : Nat
  deg : Bool
  jseq : Nat
  seq : Nat
  time : Nat
  commitPos : Int
  effPitch : Nat
  blank : List Nat
  detail : Nat
  aux : Nat
  good : Bool
  tell : Bool
  deriving DecidableEq, Repr

/-- A live sheet of the ledger (R32, R34). -/
structure Sheet where
  seq : Nat
  st : SheetState
  reason : Nat
  /-- The pitch code that governed the effective pitch (R38), while admitted and not reverted since. -/
  pitchCode : Option Nat
  commitPos : Int
  effPitch : Nat
  blank : List Nat
  detail : Nat
  reqPitch : Nat
  hostTag : Nat
  planes : List Plane
  locked : Bool
  /-- The ADMITTED record waits to be programmed (R55). -/
  awaiting : Bool
  allocated : Bool
  /-- The last transfer ended with PLANE_ERROR, not yet answered (R133, R137). -/
  planeError : Option (Nat × Nat × Nat)
  readySent : Bool
  /-- POOL_TOO_SMALL has been sent (R155). -/
  tooSmall : Bool
  /-- A defect of R36 other than a blank line has been counted. -/
  defect : Bool
  /-- The sheet's newest journal record, and the newest that counts as journaled (R45, R49, R136): in GUARANTEE_DEGRADED once programmed. -/
  lastRec : Option JRec
  toldRec : Option JRec
  /-- A cause of R35 that reached the ledger between the lock and the commit (R41): reason and DETAIL. -/
  doom : Option (Nat × Nat)
  deriving DecidableEq, Repr

/-- A record that a running compaction has still to stage (R49). -/
inductive CkptItem
  | start
  | sheet (seq : Nat)
  | handoff (sender : Nat)
  | close
  deriving DecidableEq, Repr

/-- The ledger. -/
structure Ledger where
  /-- The live sheets in sequence order. -/
  sheets : List Sheet
  nextSeq : Nat
  /-- One more than the highest number ever accepted (R30). -/
  accepted : Nat
  ack : Nat
  /-- The commit positions fixed since the last reset and not released, newest first (R39). -/
  fixed : List (Nat × Int)
  /-- Acknowledgements held by a compaction or a RESYNC series (R49, R137). -/
  heldAcks : List Nat
  declSeq : Nat
  /-- The time since which neither cause of GUARANTEE_DEGRADED has been present (R55). -/
  clearSince : Option Nat
  /-- The time since which no sheet has been ADMITTED or later, and whether idleness has been compacted for (R49). -/
  idleSince : Option Nat
  idleDone : Bool
  /-- The rates that sheet-paced units report (R43): fault source, sustained rate s, required rate r; and the head-link lanes and drive
  channels that report s < 1.05 × r, by fault source. -/
  rates : List (Nat × Nat × Nat)
  slowLine : List Nat
  /-- The unit that set p_unit at the last admission (R38, R57). -/
  unitSrc : Nat
  deriving DecidableEq, Repr

/-- The journal: the staging area, the flash ring, and the flusher. -/
structure Journal where
  /-- Staged records in staging order (R44). -/
  staged : List JRec
  /-- The flash ring by slot, 1,024 slots to a block (R48); an unlisted slot is erased. -/
  ring : List (Nat × JRec)
  /-- The next slot that the flusher programs. -/
  writer : Nat
  jseq : Nat
  retired : List Nat
  fails : Nat
  /-- Released blocks whose erase has not ended (R48). -/
  erasing : List Nat
  /-- What a running compaction has still to stage, and the JSEQ of its CKPT_BEGIN (R49). -/
  compact : Option (Nat × List CkptItem)
  /-- The block of the CKPT_BEGIN of the newest complete checkpoint (R49). -/
  ckptBlock : Option Nat
  deriving DecidableEq, Repr

/-! ### Hand-off between controllers (R23 to R25) -/

/-- A hand-off message waiting in the send queue. -/
structure HoMsg where
  rcv : Nat
  hnum : Nat
  seq : Nat
  time : Nat
  resync : Bool
  sent : Bool
  resends : Nat
  lastSent : Nat
  deriving DecidableEq, Repr

/-- The hand-off service. -/
structure Handoff where
  sendQ : List HoMsg
  /-- HNUM of the last message queued to each receiver, and receivers whose next message carries RESYNC. -/
  lastHnum : List (Nat × Nat)
  resyncNext : List Nat
  /-- The epoch and the last HNUM accepted from each sender. -/
  kept : List (Nat × (Nat × Nat))
  /-- The newest HANDOFF record of each sender, as compaction repeats it (R49). -/
  newest : List (Nat × JRec)
  rxQ : List HoFrame
  /-- Frames the network service has sent, newest first: port and frame. -/
  sentFrames : List (Nat × EthFrame)
  /-- Accepted messages whose acknowledgement waits until the record of this JSEQ is programmed (R25, R45): JSEQ, port, message. -/
  owedAcks : List (Nat × Nat × HoFrame)
  epoch : Nat
  deriving DecidableEq, Repr

/-! ### The host interface (R118 to R138) -/

/-- The events of R135, with the fields of each. -/
inductive HostEvent
  | cmdDone (tag opcode status detail : Nat) (results : List Nat)
  | sheetState (seq st reason limit time : Nat) (commitPos : Int) (effPitch : Nat) (blank : List Nat) (detail hostTag : Nat)
      (resync : Bool)
  | planesReady (seq count hostTag : Nat)
  | planeError (seq index kind crc hostTag : Nat)
  | engine (task : Nat) (w : List Word)
  | resync (count cause : Nat)
  deriving DecidableEq, Repr

/-- A RESYNC series (R137): its cause, whether its RESYNC event has been posted, and the sheets still to be reported. -/
structure Series where
  cause : Nat
  opened : Bool
  todo : List Nat
  deriving DecidableEq, Repr

/-- The words 0x000 to 0x044 of the status mirror (R123). -/
structure Mirror where
  gen : Nat
  words : List Nat
  deriving DecidableEq, Repr

/-- The configuration of the function after its reset: 128-byte payloads, read requests of 512 bytes, timeout code 0, which is 50 ms (R118; the
codes and these defaults are those of PCI Express: PRESUMED, log entry 46). -/
def cfgNew : PcieCfg := ⟨0, 0, 0, 2, false, false, 0, false, false, false⟩

/-- The host interface. -/
structure HostIf where
  /-- The event-ring entries from EVT_HEAD to EVT_TAIL, oldest first, each with its ESEQ. -/
  events : List (Nat × HostEvent)
  eseq : Nat
  /-- PLANES_READY and PLANE_ERROR events held back for space. -/
  held : List HostEvent
  series : Option Series
  /-- The cause of a series to be started once the present one ends. -/
  nextSeries : Option Nat
  /-- After a host-interface reset: the events of R137 are posted after the first series. -/
  repeatAfter : Bool
  mirror : Mirror
  /-- Time of the last signal of vector 0, whether one is due at the end of the hold-off, and the signals of each vector. -/
  vec0At : Option Nat
  vec0Due : Bool
  msix : List (Nat × Nat)
  /-- A CMD_DONE that waits until the record of this JSEQ is programmed and its sheet's event posted (R45, R134); none once only an entry of the
  ring is wanting. -/
  owed : Option (Option Nat × Nat × HostEvent)
  /-- The memory behind BAR0 from 0x8000 on (R120), by offset: the MSI-X table, each with its mask bit inverted, the rings and the sheet queue. -/
  bar : Memory
  /-- What the host has set in configuration space (R118), and the MSI-X pending bits (R138). -/
  cfg : PcieCfg
  pend : List Nat
  /-- The MSI-X messages sent, by vector, and the writes that have left for the host's memory, newest first. -/
  msgs : List (Nat × Nat)
  posted : List (Nat × List Byte)
  deriving DecidableEq, Repr

/-! ### DMA and the memories (R139 to R170) -/

/-- What the registers of a DMA channel do not show: the CRC a chained descriptor continues, and for the channels of the
host-link service the sheet and the plane that the channel moves (R131). -/
structure DmaCh where
  lastCrc : Nat
  plane : Option (Nat × Nat)
  deriving DecidableEq, Repr

/-- An entry of the DRAM remap table (R166): its line, and whether it was installed automatically. -/
structure RemapEntry where
  line : Nat
  auto : Bool
  deriving DecidableEq, Repr

/-- An entry of the merge buffer (R158): its line, the offsets of the bytes written, and the time of the last write. -/
structure MergeEntry where
  line : Nat
  offs : List Nat
  last : Nat
  deriving DecidableEq, Repr

/-- A page-store line that has shown a corrected error (R166): to the walk, to another access, and whether it was written after that access. -/
structure OnceLine where
  line : Nat
  walk : Bool
  access : Bool
  written : Bool
  deriving DecidableEq, Repr

/-- The memories and their integrity. -/
structure Mem where
  /-- The page store (R9): a device address below U that is not listed reads 0 (R168). -/
  dram : Memory
  /-- The on-chip SRAM window, by offset (R11). -/
  sram : Memory
  /-- The 8-byte words of the page store that are uncorrectable, and those that hold a correctable error (R162), by address / 8. -/
  badWords : List Nat
  oneBits : List Nat
  /-- Lines of the page store that have shown one corrected error (R166). -/
  onceLines : List OnceLine
  /-- Paired words (R159) of which one copy fails parity, and of which both do, by address: in device space, BAR0 from `hifBase` on, the remap
  entries from `remapSpace` on. And the backed words that fail. -/
  sramOne : List Nat
  sramBad : List Nat
  sramLost : List Nat
  merge : List MergeEntry
  remap : List (Nat × RemapEntry)
  /-- Repairs not yet saved in the settings store (R167), and the repairs saved there: remapped lines and spare rows. -/
  unsaved : Bool
  saved : List (Nat × RemapEntry) × List (Nat × Nat)
  /-- Spare rows in use and rows that have shown one parity error, by macro (R167). -/
  spareRows : List (Nat × Nat)
  onceRows : List (Nat × Nat)
  macroErrs : List (Nat × Nat)
  /-- Plane-pool blocks in use (R154), ascending. -/
  used : List Nat
  /-- Where each class's background walk stands, and when it took its last step (R163). -/
  walkAt : List (Nat × Nat)
  walkTick : List (Nat × Nat)
  /-- When each class's bucket last leaked (R165). -/
  leakTick : List (Nat × Nat)
  /-- When each channel's MR4 was last read (R150). -/
  mr4Tick : List (Nat × Nat)
  /-- The channels whose MR4 has last reported a temperature above the operating range (R150). -/
  mr4High : List Nat
  /-- Whether a class's bucket has leaked below 8 since its last message (R165). -/
  armed : List (Nat × Bool)
  rangeAt : Option (Nat × Nat)
  /-- Consecutive failures of a flit, by direction (R19). -/
  flitFails : List (Nat × Nat)
  deriving DecidableEq, Repr

/-! ### Imaging pipelines and the belt (R171 to R213) -/

/-- An open window of a plane at a station (R173): the sheet, its commit position, the plane's lines at station resolution,
the plane entries of the image and of its tags by their place in the sheet, the banks fixed at the opening (R186), the blank
count, and whether a late line, an overrun and line 0 have come. -/
structure Win where
  seq : Nat
  commit : Int
  n : Nat
  plane : Nat
  tag : Option Nat
  entry : PlaneEntry
  shim : Nat
  shade : Nat
  splice : Nat
  blank : Nat
  late : Bool
  overrun : Bool
  line0 : Bool
  /-- STNX produces the plane (R201, R202). -/
  x : Bool
  /-- MAG of the facets and OFFSET of the beams that the plane keeps where a later plane's opening has copied learned values over them (R235). -/
  keep : Option (List Nat × List Nat)
  deriving DecidableEq, Repr

/-- Where the decoder of a pipeline stands in a plane (R174, R180): the sheet, the plane entry, the next tile, the byte offset in the plane
of the next tile row, and the headers of the present row that have been read ahead, each with the offset of its body. -/
structure Fetch where
  seq : Nat
  plane : Nat
  tile : Nat
  off : Nat
  hdrs : List (List Byte × Nat)
  deriving DecidableEq, Repr

/-- A running table load or a pending patch (R196, R198): table, task, source address, length, first and count. -/
structure Load where
  table : Nat
  task : Nat
  src : Nat
  len : Nat
  first : Nat
  count : Nat
  /-- The bytes of a patch's staging area (R198). -/
  stage : List Byte
  deriving DecidableEq, Repr

/-- The last frame that a station sent on its head link (R240, R255): its line, whether it was blank, the codes of each of
its lines, and the bits of each physical lane in the order sent; an idle lane sends none of them; and on a scan station, for each shim
segment, the phase of its pixels after the SOS time in 1/64 pixel clock (R221). -/
structure HeadFrame where
  line : Int
  blank : Bool
  codes : List (List Nat)
  lanes : List (List Bool)
  phase : List Int
  deriving DecidableEq, Repr

/-- An SOS or EOS frame (R215, R229, R232, R241): the beam lit, its first slot in pixel clocks after the SOS time of the facet that it is
sent in, its slots, and the bits of each physical lane. -/
structure LightFrame where
  beam : Nat
  start : Int
  slots : Nat
  lanes : List (List Bool)
  deriving DecidableEq, Repr

/-- What a scan station keeps beside its registers (R214 to R239). -/
structure ScanSt where
  /-- The facet intervals of the last revolution in 1/64 pixel clock, newest first (R230). -/
  ivs : List Nat
  /-- The sum and the number of the intervals since tracking began (R216). -/
  pSum : Nat
  pNum : Nat
  /-- The facet boundary in progress (R215): its TB tick, and the pixel clocks that then had passed since the SOS time. -/
  startTick : Nat
  lag : Nat
  /-- The last SOS and EOS frames. -/
  sos : Option LightFrame
  eos : Option LightFrame
  /-- Consecutive qualified edges while LOST (R231). -/
  good : Nat
  /-- A Z index has come: the facet that follows the next edge is facet 0 (R233). -/
  zNext : Bool
  /-- Consecutive facets within PH_READY since tracking last began (R242). -/
  settle : Nat
  /-- The reference sheet and L0 of the last facet (R225). -/
  last : Option (Nat × Int)
  /-- The SOS-to-EOS interval of the facet in progress (R232). -/
  nf : Option Nat
  /-- Samples taken of each surveyed beam, and its surveys without an edge (R236). -/
  survey : List (Nat × (Nat × Nat))
  /-- The beam whose APC turn is next, and the beam regulated in the facet in progress, 0xFF for none (R237). -/
  apcBeam : Nat
  apcNow : Nat
  /-- The DETAIL of the SOS_LOST message (R46, R231). -/
  lostDetail : Nat
  deriving DecidableEq, Repr

/-- What a bar station keeps beside its registers (R244 to R266). Its times count TB ticks times NOM. -/
structure BarSt where
  /-- The greatest boundary crossed since BAR_EN was last set, and before there is one the lowest position since then (R244). -/
  maxPos : Option Int
  low : Option Int
  /-- A reference plane whose window closed at the last line boundary: its grid holds up to the next one (R224, R244). -/
  hold : Option (Nat × Int)
  /-- When the last frame's line boundary was counted from (R248, R250). -/
  frameAt : Nat
  /-- The line that the last frame carries and whether it was a data frame. -/
  latched : Option (Int × Bool)
  /-- When STNn_EXPOSE last rose. -/
  exposeAt : Option Nat
  /-- The baseline of the lane error counts (R257), and their sum at the last status read (R258). -/
  base : Option (List Nat)
  sum : Option Nat
  /-- The known-failed list: emitter and origin, ascending (R265). -/
  known : List (Nat × Nat)
  deriving DecidableEq, Repr

/-- What a station keeps of its head (R259 to R270). -/
structure HeadSt where
  maxRate : Nat
  minOn : Nat
  /-- Consecutive conversions beyond TH_WARN, cool of it by TH_HYST, and beyond TH_HARD (R268, R269). -/
  warnRun : Nat
  coolRun : Nat
  hotRun : Nat
  /-- The last conversion's time (R267). -/
  convAt : Option Nat
  /-- The DETAIL of the HEAD_HOT message (R46, R269). -/
  hotDetail : Nat
  deriving DecidableEq, Repr

/-- A station slot: its pipeline, its head link and its head. -/
structure Stn where
  /-- Table contents by table number (R195). -/
  tables : List (Nat × List Byte)
  /-- The source each table was last loaded from: task, address, length (R161). -/
  source : List (Nat × (Nat × Nat × Nat))
  load : Option Load
  patch : Option Load
  /-- The open windows, oldest first. -/
  windows : List Win
  /-- The windows already opened or closed here, by sheet, so that none opens twice. -/
  done : List Nat
  fetch : List Fetch
  /-- Decoded bytes of a plane's tiles: sheet, plane entry, tile, bytes. -/
  tiles : List (Nat × Nat × Nat × List Byte)
  failed : Bool
  retired : Bool
  /-- A plane ended with s < 1.05 r (R43, R200). -/
  slow : Bool
  sent : Option HeadFrame
  /-- The TB tick at which PIXPLLn first locked (R241, R254). -/
  lockTick : Option Nat
  scan : ScanSt
  bar : BarSt
  head : HeadSt
  deriving DecidableEq, Repr

/-- A station slot after reset. -/
def Stn.new : Stn :=
  ⟨[], [], none, none, [], [], [], [], false, false, false, none, none,
   ⟨[], 0, 0, 0, 0, none, none, 0, false, 0, none, none, [], 0, 0xFF, 0⟩, ⟨none, none, none, 0, none, none, none, none, []⟩, ⟨0, 0, 0, 0, 0, none, 0⟩⟩

/-- STNX (R201, R202, R206): the station that it loads for, the return that waits, whether the ledger's sheet boundary
and its loads have come, and its tables. -/
structure Stnx where
  moveReq : Option Nat
  returnReq : Bool
  loaded : Bool
  atWindow : Bool
  tables : List (Nat × List Byte)
  deriving DecidableEq, Repr

/-- A speed estimator (R211, R279): the filtered count, its last direction, and its changes (TB tick and new value), newest
first, back to the first that lies a window before the newest. -/
structure SpeedEst where
  ph : Int
  dir : Int
  changes : List (Nat × Int)
  deriving DecidableEq, Repr

/-- The belt position (R207 to R212). -/
structure Ppos where
  count : Int
  /-- The belt position at the last count, in 1/4096 PPOS unit (R208). -/
  posFx : Int
  /-- Times in TB ticks of the last counts, newest first, with their directions (R209). -/
  times : List (Nat × Int)
  /-- The mean count interval in TB ticks, as the sum of the intervals and their number (R209). -/
  tSum : Nat
  tNum : Nat
  est : SpeedEst
  zcap : Int
  /-- Station offsets in effect, and those written that take effect at the next TB tick (R210). -/
  ofs : List (Nat × Int)
  ofsNext : List (Nat × Int)
  /-- Cause 1 of R212 persists; and |SPEED| exceeded VMAX when last judged (R211). -/
  causeOne : Bool
  fast : Bool
  deriving DecidableEq, Repr

/-! ### Drives and axes (R274 to R320) -/

/-- A profile generator (R295): the position with 16 fraction bits, the velocity and the acceleration with 32; and the segments of R296 that
remain, each with its direction of jerk and its ticks, with the target and the limits that they were planned for. -/
structure Prof where
  p : Int
  v : Int
  a : Int
  plan : List (Int × Nat)
  goal : List Int
  deriving DecidableEq, Repr

/-- A profile that plans nothing. -/
def Prof.free (p v : Int) : Prof := ⟨p, v, 0, [], []⟩

/-- The gates of a drive channel: all low, the PWM of its current loop, or the short brake (R277, R290). -/
inductive Gates | off | pwm | brake
  deriving DecidableEq, Repr

/-- The two gates of one leg, and when each last fell (R277). -/
structure Leg where
  hi : Bool
  lo : Bool
  hiFell : Option Nat
  loFell : Option Nat
  deriving DecidableEq, Repr

/-- What a drive channel keeps beside its registers (R274 to R293). -/
structure DrvSt where
  est : SpeedEst
  prof : Prof
  /-- The observer (R281): angle, speed in Q15.16 rev/s, and the control cycles in a row with a small and with a large residual. -/
  obsAngle : Nat
  obsSpeed : Int
  lowRun : Nat
  highRun : Nat
  converged : Bool
  /-- Control cycles in a row with the encoder angle away from the observer's (R287). -/
  angRun : Nat
  /-- When the state was entered, and when RUN or SENSORLESS was last entered from another state (R283). -/
  since : Nat
  calmSince : Nat
  /-- The first index of this start has come, and its count (R284); POS at the entry of SENSORLESS. -/
  indexed : Bool
  pz : Int
  posEntry : Int
  /-- Cause 1 of R287 persists. -/
  persist : Bool
  /-- The observer has taken over after an encoder loss, and the sheets counted for it (R288). -/
  fallback : Bool
  counted : List Nat
  lossCause : Nat
  /-- STOPPING runs on the observer (R282). -/
  onObs : Bool
  shortAt : Option Nat
  /-- The current loop (R275): its integrators, the duties loaded at the next valley and those in force, and the gates. -/
  xd : Int
  xq : Int
  vq : Int
  nextDuty : List Nat
  duty : List Nat
  gates : Gates
  /-- The open-loop angle in 2^-16 of an angle step (R282). -/
  openTheta : Int
  zeroSince : Option Nat
  tolSince : Option Nat
  steadySince : Option Nat
  keSum : Int
  keNum : Nat
  /-- The resolver (R280): sin² + cos² of the first 100 ms, samples in a row out of range, angle and speed. -/
  resRef : Option Nat
  resBad : Nat
  resAngle : Nat
  resSpeed : Int
  enabledAt : Nat
  /-- The gate outputs of the legs U, V and W (R274, R277). -/
  legs : List Leg
  deriving DecidableEq, Repr

/-- A drive channel after reset. -/
def DrvSt.new : DrvSt :=
  ⟨⟨0, 0, []⟩, .free 0 0, 0, 0, 0, 0, false, 0, 0, 0, false, 0, 0, false, false, [], 0, false, none, 0, 0, 0, [], [], .off, 0, none, none,
   none, 0, 0, none, 0, 0, 0, 0, List.replicate 3 ⟨false, false, none, none⟩⟩

/-- A debounced input of an axis (R312): the qualified level, the level sampled last, for how many samples, and POS at the
first of them. -/
structure Deb where
  level : Bool
  cand : Bool
  run : Nat
  pos : Int
  deriving DecidableEq, Repr

/-- What moves an axis: nothing, a position move, a velocity, the stop of R297 before a new move, a ramped stop. -/
inductive Motion | rest | move | vel | stopFirst | ramp
  deriving DecidableEq, Repr

/-- The homing states of R317. -/
inductive HomeSt | none | clear | fast | brake | back | slow | finish
  deriving DecidableEq, Repr

/-- How a coil's bridge is driven in a chopper period (R301, R303): off, driven in strong mode with the comparator's threshold
code, decaying, or driven in quiet mode for a part of the period in 1/65536; with the sign of the drive. -/
inductive Coil
  | off
  | strong (neg : Bool) (thr : Nat)
  | decay
  | quiet (neg : Bool) (duty : Nat)
  deriving DecidableEq, Repr

/-- What an axis keeps beside its registers (R294 to R320). -/
structure AxsSt where
  prof : Prof
  motion : Motion
  /-- The target of a position move in microsteps, the target velocity in Q16.16, the direction of travel at a stop, and
  whether a position move is in progress and is a resumed one (R297, R315). -/
  target : Int
  vt : Int
  dir : Int
  posMode : Bool
  resumed : Bool
  /-- A command that waits for the end of the stop (R316), or for the coils of a powered-down axis (R311). -/
  queued : Option Nat
  limNeg : Deb
  limPos : Deb
  home : Deb
  hst : HomeSt
  hcount : Nat
  hstart : Int
  /-- Class E (R306): POS at the last edge, its time, and Δ in TB ticks; a LAG jump in this sheet interval (R307). -/
  edgePos : Int
  edgeAt : Option Nat
  delta : Nat
  lagged : Bool
  /-- Current and load (R308 to R310): i in µA, sum and number of the on-times of this full step in ns, and the full-step
  boundaries in a row with the stall condition. -/
  cur : Nat
  onSum : Nat
  onNum : Nat
  stallRun : Nat
  /-- When v last became 0, and when a powered-down axis will have been driven for its 1 ms (R311). -/
  zeroSince : Nat
  repower : Option Nat
  coilA : Coil
  coilB : Coil
  deriving DecidableEq, Repr

/-- An axis after reset. -/
def AxsSt.new : AxsSt :=
  ⟨.free 0 0, .rest, 0, 0, 1, false, false, none, ⟨false, false, 0, 0⟩, ⟨false, false, 0, 0⟩, ⟨false, false, 0, 0⟩, .none, 0, 0, 0, none,
   0, false, 0, 0, 0, 0, 0, none, .off, .off⟩

/-! ### Loops, outputs, converters (R321 to R348) -/

/-- What a loop descriptor keeps beside its registers (R330, R332): when its last sample began, and whether that sample ran in
auto; none after ENABLE. -/
structure LoopSt where
  lastAt : Option Nat
  lastAuto : Option Bool
  deriving DecidableEq, Repr

/-- A fuser drive (R338, R339): the frequency in force in 1/65536 Hz, whether it was started since its last stop, the TB tick of its period start,
and the end of the half-period after which EN = 0 has both gates low. -/
structure FusSt where
  freq : Nat
  live : Bool
  startAt : Nat
  stopAt : Option Nat
  deriving DecidableEq, Repr

/-- Who requested a conversion (R344): a drive channel, whose valley or resolver sample has the code; a sequence; the background scan. -/
inductive AdcReq
  | drive (code : Nat)
  | seq (q : Nat)
  | scan
  deriving DecidableEq, Repr

/-- A converter (R344, R345): the input in conversion and its requester, the drive conversions that wait (their order, input and code), the inputs
that the sequence in progress has still to convert, the next input of the background scan, and its waiting request. -/
structure AdcSt where
  cur : Option (Nat × AdcReq)
  drv : List (Nat × Nat × Nat)
  seq : Option (Nat × List Nat)
  scanNext : Nat
  scanReq : Bool
  deriving DecidableEq, Repr

/-- A converter after reset. -/
def AdcSt.new : AdcSt := ⟨none, [], none, 0, false⟩

/-! ### Network time, supplies, rails, faults, recorder, updates (R349 to R457) -/

/-- A PTP message that the instance has sent (R357, R360, R361): its port, its messageType, its sequenceId, and the transmit
time that it carries, if it carries one. -/
structure PtpFrame where
  port : Nat
  typ : Nat
  seqId : Nat
  time : Option Nat
  deriving DecidableEq, Repr

/-- What TIME and the network service keep beside their registers (R349 to R370). -/
structure Net where
  /-- TIME_NOW runs (R349): from the first lock of TBPLL until the timebase is powered down. -/
  timeOn : Bool
  /-- What remains of a slew in units of 2^-24 ns (R354). -/
  slewLeft : Int
  /-- The capture FIFOs, oldest first: stamp, and whether the edge fell (R367). -/
  caps : List (Nat × List (Nat × Bool))
  /-- The transmit-stamp FIFOs, oldest first: sequenceId, messageType, stamp in ns (R361). -/
  txts : List (Nat × List (Nat × Nat × Nat))
  /-- The PTP instance (R357 to R359): the port it runs on, Sync exchanges in a row within 100 ns, whether the next Sync is the
  first from the chosen master, its sequence numbers, its measured path delay, and the messages sent, newest first. -/
  port : Nat
  good : Nat
  first : Bool
  syncSeq : Nat
  delaySeq : Nat
  delay : Nat
  sent : List PtpFrame
  deriving DecidableEq, Repr

/-- What the controller is doing (R376 to R390): held in reset while its journal flush runs or RESET_N is low; ready to boot; running;
in the recovery ROM; in backup operation with the flush running, and after it, with or without a hibernate request of software;
in hibernate, entered by software or at the end of a backup FROST. -/
inductive Phase
  | reset
  | run
  | recovery
  | backup (soft flushed : Bool)
  | hibernate (soft : Bool)
  deriving DecidableEq, Repr

/-- Supplies, clocks, reset and the always-on domain (R371 to R391). -/
structure Power where
  phase : Phase
  /-- RESET_N is low (R386). -/
  pinLow : Bool
  /-- When VBACK was last below BK_MIN + 50 mV while BACKUP_OK is false (R373), and since when VMAIN has been above 2.75 V. -/
  bkLowAt : Nat
  vmainSince : Option Nat
  /-- VBACK has fallen below 2.7 V before the flush was done (R376). -/
  flushLost : Bool
  /-- RTC ticks since its last whole second, and a SET that waits for the next one (R381). -/
  rtcTicks : Nat
  rtcNext : Option Nat
  /-- A wake event that waits for VMAIN (R380): bit k for WAKEk, bit 4 for the alarm. -/
  wakes : Nat
  /-- When the reset was last released (R389, R390), and the level of HB (R388). -/
  bootAt : Nat
  hb : Bool
  deriving DecidableEq, Repr

/-- The judgement of a rail (R393), with the readings in a row within, outside and below off, and since when it has been good. -/
structure RailJ where
  good : Bool
  off : Bool
  inRun : Nat
  outRun : Nat
  offRun : Nat
  goodSince : Option Nat
  deriving DecidableEq, Repr

/-- An exchange on the Rail Link (R400 to R402): the slave, CMD, ARG, failures so far, and when the last of them came. -/
structure LinkReq where
  k : Nat
  cmd : Nat
  arg : Nat
  fails : Nat
  failedAt : Option Nat
  deriving DecidableEq, Repr

/-- What RAIL keeps beside its registers (R392 to R407). -/
structure RailSt where
  judge : List (Nat × RailJ)
  /-- When the master step in progress, CHAIN, and the FROST of the present slave started. -/
  stepAt : Nat
  chainAt : Nat
  slaveAt : Nat
  /-- The end of the last FROST, kept in the AON domain (R397). -/
  frostEnd : Option Nat
  /-- The exchange in progress and those that wait (R402). -/
  link : List LinkReq
  /-- Exchanges of the configuration pass that are still to come (R396). -/
  pass : List LinkReq
  /-- Slaves that have reported UP since SEQ_IN rose (R395), those asked for FAULT (R402), and slaves with a LINK_ERR. -/
  up : List Nat
  asked : List Nat
  /-- A reset has come during FROST: RAIL is reset when it ends (R399). -/
  resetAtEnd : Bool
  /-- When each slave was last polled in UP (R402, R407). -/
  polls : List (Nat × Nat)
  deriving DecidableEq, Repr

/-- A grace timer (R413): its end in TB ticks, and the kind and detail of the message that started it. -/
structure Grace where
  until_ : Nat
  kind : Nat
  detail : Nat
  deriving DecidableEq, Repr

/-- The fault collector and THM (R408 to R428). -/
structure FltSt where
  /-- The queue of R422, oldest first, four words to an entry. -/
  queue : List (List Nat)
  /-- Messages not queued since the last queued entry, and whether a QUEUE_OVF message is owed. -/
  lost : Nat
  owed : Bool
  grace : List (Nat × Grace)
  /-- Kinds and details of each source's messages since its STATUS was last clear (R415). -/
  kinds : List (Nat × List (Nat × Nat))
  /-- The last 16 good readings, newest first; good and bad readings in a row (R423, R426). -/
  temps : List Int
  goodRun : Nat
  badRun : Nat
  deriving DecidableEq, Repr

/-- A record of the recorder (R445, R446): TYPE, subject, time, payload words, and its offset in the ring. -/
structure Rec where
  typ : Nat
  subject : Nat
  time : Nat
  data : List Int
  off : Nat
  deriving DecidableEq, Repr

/-- A snapshot (R447): the tasks and the data segments not in DRAM, the loop descriptors, and the LOOP and PLC registers. -/
structure Snap where
  at_ : Nat
  tasks : List (Nat × Task)
  seg : Memory
  loop : List (Nat × LoopSt)
  regs : List (Nat × Nat)
  deriving DecidableEq, Repr

/-- A frozen or exported recording: its trigger, the image's VERSION and IMAGE_CRC, its records oldest first with the snapshot at
each place that holds one, its LOST, and the length of the stream that stands in the ring where it was written there from outside (R449). -/
structure Recording where
  trigTime : Nat
  trigCause : Nat
  version : Nat
  crc : Nat
  recs : List Rec
  snaps : List Snap
  lost : Nat
  raw : Option Nat
  deriving DecidableEq, Repr

/-- A replay in progress (R450): the TB tick at which it began and the recorded time that this tick stands for, the records still to be
applied, the values that instructions still take, and the outputs still to be compared. -/
structure Replay where
  startTick : Nat
  startTime : Nat
  acts : List Rec
  vals : List Rec
  outs : List Rec
  deriving DecidableEq, Repr

/-- The recorder (R445 to R456). -/
structure RecSt where
  recs : List Rec
  /-- The offset in the ring at which the next record goes. -/
  next : Nat
  snaps : List Snap
  trigAt : Option Nat
  frozen : Option Recording
  /-- The export area in NOR (R449): complete when the copy has ended. -/
  nor : Option Recording
  replay : Option Replay
  /-- A replay has ended: placement and every task are to be restarted at the next TB tick (R451). -/
  restart : Bool
  deriving DecidableEq, Repr

/-- An image slot of the slot table (R433): STATE, VERSION, IMAGE_CRC, the bound settings area, and the image itself. -/
structure Slot where
  st : Nat
  version : Nat
  crc : Nat
  schema : Nat
  area : Option Nat
  image : List Byte
  deriving DecidableEq, Repr

/-- A settings area (R434): its header, its entries in the order appended, and whether the header's CRC fails. -/
structure Area where
  schema : Nat
  gen : Nat
  slot : Nat
  entries : List (Nat × Nat)
  bad : Bool
  deriving DecidableEq, Repr

/-- A change of the slot table that a token asks for (R433, R441): UPD_LOCK, or one more failure of the debug token. -/
inductive TableReq | lock (b : Bool) | debugFail
  deriving DecidableEq, Repr

/-- The update service and the flash (R429 to R444). -/
structure UpdSt where
  slotA : Slot
  slotB : Slot
  gen : Nat
  boot : Nat
  lock : Bool
  debugFails : Nat
  /-- The block of the older copy of the slot table is being erased (R433). -/
  erasing : Bool
  /-- Changes of the slot table that wait for the end of that erase (R433). -/
  asked : List TableReq
  areas : List (Nat × Area)
  /-- The recovery ROM (R442 to R444): the path served, SEQ last acknowledged, bytes received, whether the owner token has come, and
  the slot written, and the bytes of the last answer. -/
  path : Option Nat
  lastSeq : Option Nat
  buf : List (Nat × Byte)
  token : Bool
  written : Option Nat
  answer : Option (List Byte)
  deriving DecidableEq, Repr

/-- What the controller keeps of a unit, by fault source (R13, R452 to R455): it has failed or is retired or, as a spare, unavailable;
AGE, ERRORS and WORN of its monitor; WEAR_NO_SPARE has been sent; a move for retirement waits for the sheet boundary. -/
structure UnitSt where
  failed : Bool
  retired : Bool
  unavail : Bool
  age : Nat
  errs : Nat
  worn : Bool
  noSpare : Bool
  deriving DecidableEq, Repr

/-- The state of the RX-9640. -/
structure State where
  /-- The commands that wait, first in, first out (the block's queue). -/
  pending : List Instr
  /-- Every register field not at its reset value, by Fld.key (R3 to R6). -/
  fields : List (Nat × Nat)
  /-- The shadows of B fields written while their block ran (R6, R8). -/
  shadow : List (Nat × Nat)
  /-- When each shadow was written, in TB ticks (R28). -/
  shadowAt : List (Nat × Nat)
  /-- Captured words of multi-word values, by register address (R27). -/
  snap : List (Nat × Nat)
  /-- The queue of writes to AON registers, oldest first (R29). -/
  aonQ : List (Nat × Nat)
  /-- Writes to AON registers that found the queue full, oldest first, each with the task that it stalls, if it is a task's (R29, R95). -/
  aonWait : List (Nat × Nat × Option Nat)
  /-- Writes on their way into the TB domain, oldest first: the TB tick at which each takes effect, its address and its word (R482). -/
  tbQ : List (Nat × Nat × Nat)
  /-- How many free values have been drawn: the model's own (log entry 2). -/
  freeCtr : Nat
  /-- TB ticks of 4 ns since power-on (R26): the model's own clock (log entry 3). -/
  tick : Nat
  /-- TIME_NOW in units of 2^-24 ns (R349). -/
  timeFx : Nat
  /-- Time and belt position at the last TB ticks, newest first: what TGET and PGET read (R77). -/
  hist : List (Word64 × Int)
  /-- Fault messages on their way to the collector, oldest first (R408, R409). -/
  faultQ : List FaultMsg
  /-- The Exine tasks and engines. -/
  ex : Exine
  /-- The sheet ledger. -/
  led : Ledger
  /-- The journal. -/
  jrn : Journal
  /-- The hand-off service. -/
  ho : Handoff
  /-- The host interface. -/
  host : HostIf
  /-- The DMA channels. -/
  dma : List (Nat × DmaCh)
  /-- The memories. -/
  mem : Mem
  /-- The pipelines of the station slots. -/
  stn : List (Nat × Stn)
  /-- The spare pipeline. -/
  stnx : Stnx
  /-- The belt position. -/
  ppos : Ppos
  /-- The drive channels (n) and axes (8 + n) that the engine program has marked as needed (R37). -/
  needed : List Nat
  /-- The drive channels. -/
  drv : List (Nat × DrvSt)
  /-- The axes. -/
  axs : List (Nat × AxsSt)
  /-- When each analog input was last converted, in TB ticks (R345). -/
  adcAt : List (Nat × Nat)
  /-- The loop descriptors. -/
  loop : List (Nat × LoopSt)
  /-- How long each high-voltage output is high in its present period, in ns (R336). -/
  hvoHigh : List (Nat × Nat)
  /-- The fuser drives. -/
  fus : List (Nat × FusSt)
  /-- The level of FUSER_EN (R340). -/
  fuserEn : Bool
  /-- The converters. -/
  adc : List (Nat × AdcSt)
  /-- Network time. -/
  net : Net
  /-- Supplies, clocks, reset and the always-on domain. -/
  power : Power
  /-- The engine rails. -/
  rail : RailSt
  /-- The fault collector and THM. -/
  flt : FltSt
  /-- The recorder. -/
  recd : RecSt
  /-- The update service and the flash slots. -/
  upd : UpdSt
  /-- The units with a monitor or a spare, by fault source. -/
  units : List (Nat × UnitSt)
  /-- The instruction of the TAP (R478). -/
  tap : TapOp
  deriving DecidableEq, Repr

/-- The machine right after power-on reset (R385, R375): every register field at the reset value of its table, memories
zeroed (R168), the flash as the model's log names it, and no command waiting. -/
def State.reset : State :=
  { pending := [],
    fields := [],
    shadow := [],
    shadowAt := [],
    snap := [],
    aonQ := [],
    aonWait := [],
    tbQ := [],
    freeCtr := 0,
    tick := 0,
    timeFx := 0,
    hist := [],
    faultQ := [],
    ex := ⟨[], [], [], [], [], [], [], 0, []⟩,
    led := ⟨[], 0, 0, 0, [], [], 0, none, none, false, [], [], 0⟩,
    jrn := ⟨[], [], 0, 1, [], 0, [], none, none⟩,
    ho := ⟨[], [], [], [], [], [], [], [], 0⟩,
    host := ⟨[], 0, [], none, none, false, ⟨0, []⟩, none, false, [], none, [], cfgNew, [], [], []⟩,
    dma := [],
    mem := ⟨[], [], [], [], [], [], [], [], [], [], false, ([], []), [], [], [], [], [], [], [], [], [], [], none, []⟩,
    stn := [],
    stnx := ⟨none, false, false, false, []⟩,
    ppos := ⟨0, 0, [], 0, 0, ⟨0, 0, []⟩, 0, [], [], false, false⟩,
    needed := Config.needed,
    drv := [],
    axs := [],
    adcAt := [],
    loop := [],
    hvoHigh := [],
    fus := [],
    fuserEn := false,
    adc := [],
    net := ⟨false, 0, [], [], 0, 0, true, 0, 0, 0, []⟩,
    power := ⟨.reset, false, 0, none, false, 0, none, 0, 0, false⟩,
    rail := ⟨[], 0, 0, 0, none, [], [], [], [], false, []⟩,
    flt := ⟨[], 0, false, [], [], [], 0, 0⟩,
    recd := ⟨[], 0, [], none, none, none, none, false⟩,
    upd := ⟨⟨0, 0, 0, 0, none, []⟩, ⟨0, 0, 0, 0, none, []⟩, 0, 0, false, 0, false, [], [], none, none, [], false, none, none⟩,
    units := [],
    tap := .idcode }

end Sys2Proof.Machine
end

