-- ==== Sys2Proof/Machine/Ops.lean ====
section
/-! DEFINITION. The named operations that every meaning is built from: register fields, time, free values, fault messages. -/

namespace Sys2Proof.Machine

/-- The outcome of a command that names one of the units that exist (R13). -/
def onUnit (ok : Bool) (t : State) : Host.Outcome State Fault Refusal :=
  if ok then .next t else .fault .noSuchUnit

/-- The value in effect of a register field (R8). -/
def State.fget (s : State) (f : Fld) : Nat := (kvGet s.fields f.key).getD f.rst

/-- A store of field values with one field set, cut to its width; a field at its reset value is not listed. -/
def fieldPut (m : List (Nat × Nat)) (f : Fld) (v : Nat) : List (Nat × Nat) :=
  if v % 2 ^ f.width = f.rst then kvDel m f.key else kvSet m f.key (v % 2 ^ f.width)

/-- Set a register field's value in effect. -/
def State.fset (s : State) (f : Fld) (v : Nat) : State := { s with fields := fieldPut s.fields f v }

/-- A one-bit field as a Bool. -/
def State.bit (s : State) (f : Fld) : Bool := s.fget f != 0

/-- Set several fields, in order. -/
def State.fsets (s : State) (l : List (Fld × Nat)) : State := l.foldl (fun s e => s.fset e.1 e.2) s

/-- Add to a counter field that saturates at its width. -/
def State.fsat (s : State) (f : Fld) (k : Nat) : State := s.fset f (min (2 ^ f.width - 1) (s.fget f + k))

/-- Add to a counter field that wraps at its width. -/
def State.fwrap (s : State) (f : Fld) (k : Nat) : State := s.fset f (s.fget f + k)

/-- A signed field of `w` bits. -/
def sext (w v : Nat) : Int := if 2 ^ w ≤ 2 * (v % 2 ^ w) then (v % 2 ^ w : Int) - 2 ^ w else (v % 2 ^ w : Int)

/-- The `w` low bits of an integer in two's complement. -/
def uint (w : Nat) (x : Int) : Nat := (x % (2 ^ w : Int)).toNat

/-- Saturate to a signed field of `w` bits. -/
def satS (w : Nat) (x : Int) : Int := max (-(2 ^ (w - 1) : Int)) (min (2 ^ (w - 1) - 1 : Int) x)

/-- The shadow of a B field (R6), with the tick of its write (R28). -/
def State.shadowSet (s : State) (f : Fld) (v : Nat) : State :=
  { s with shadow := kvSet s.shadow f.key (v % 2 ^ f.width), shadowAt := kvSet s.shadowAt f.key s.tick }

/-- The latest value written to a field, its shadow included. -/
def State.latest (s : State) (f : Fld) : Nat := (kvGet s.shadow f.key).getD (s.fget f)

/-- The station whose block an address of the register window lies in, with the offset in the block (R12). -/
def stationOf (a : Nat) : Option (Nat × Nat) :=
  if 0x2000100000 ≤ a ∧ a < 0x2000160000 then some ((a - 0x2000100000) / 0x10000, (a - 0x2000100000) % 0x10000) else none

/-- Where the address of a field lies in the register window. -/
def fldAddr (f : Fld) : Nat := if barSpace ≤ f.addr then f.addr - barSpace else f.addr

/-- The blocks of the TB domain whose fields R482 and R28 name: TIME, ADC, PPOS, DRV, AXS, HVO, FUS and GPIO. -/
def tbBlock (a : Nat) : Bool :=
  let b := (a - 0x2000000000) / 0x10000
  b == 3 || b == 0x0F || b == 0x17 || (decide (0x20 ≤ b) && decide (b < 0x40)) || b == 0x41 || b == 0x42 || b == 0x43

/-- PIX cycles in units of which a TB tick is NOM (R217, R248): a tick is NOM of 10 × 2^24 units to the cycle. -/
def pixUnit : Nat := 10 * 2 ^ 24

/-- A shadow has reached its block's domain at least 2 of the domain's cycles before now (R28): of the PIX domain by the station's NOM, of the
TB domain by TB ticks; the other blocks run in the SYS domain. -/
def State.crossed (s : State) (f : Fld) : Bool :=
  let t := s.tick - (kvGet s.shadowAt f.key).getD 0
  match stationOf (fldAddr f) with
  | some (n, _) =>
    decide (2 * pixUnit ≤ t * (if s.bit (STNn_PL_CFG_KIND n) then s.fget (STNn_BR_RATE_NOM n) else s.fget (STNn_SC_PIXFREQ_NOM n)))
  | none => !tbBlock (fldAddr f) || decide (2 ≤ t)

/-- A boundary (R6, R28): the shadows of these fields that have reached the block's domain in time take effect. -/
def State.applyShadow (s : State) (fs : List Fld) : State :=
  fs.foldl (fun s f => match kvGet s.shadow f.key with
    | some v => if s.crossed f then { s.fset f v with shadow := kvDel s.shadow f.key, shadowAt := kvDel s.shadowAt f.key } else s
    | none => s) s

/-! ### Time (R26, R76, R349) -/

/-- TIME_NOW in the format of R76: whole nanoseconds modulo 2^64. -/
def State.now (s : State) : Word64 := BitVec.ofNat 64 (s.timeFx / 2 ^ 24)

/-- TB ticks in a microsecond and in a millisecond: a tick is 4 ns (R26). -/
def usTicks (n : Nat) : Nat := n * 250
def msTicks (n : Nat) : Nat := n * 250000

/-- The time of R46: the low 32 bits of the seconds, and the nanoseconds. -/
def State.jtime (s : State) : Nat :=
  let ns := s.timeFx / 2 ^ 24
  (ns / 1000000000 % 2 ^ 32) * 2 ^ 32 + ns % 1000000000

/-- value − target ≥ 0 by the 64-bit two's-complement difference (R76). -/
def reached (value target : Word64) : Bool := !(value - target).msb

/-! ### Free values and fault messages -/

/-- Draw a free value (log entry 2): nothing constrains it. -/
def State.draw (s : State) : Nat × State := (Config.free s.freeCtr, { s with freeCtr := s.freeCtr + 1 })

/-- A quotient of which the spec states no rounding: exact where it is whole, else one of the two nearest integers (log
entry 2). -/
def quotOpen (a : Int) (b : Nat) : Int :=
  if a % (b : Int) = 0 then a / (b : Int) else a / (b : Int) + (if Config.roundUp a b then 1 else 0)

/-- A unit sends a fault message (R408); the rule that sends it names no class. -/
def State.sendFault (s : State) (src kind detail : Nat) : State :=
  { s with faultQ := s.faultQ ++ [⟨src, kind % 64, detail % 65536, 0⟩] }

/-- A unit sends a fault message of a class that the rule names (R411): 1 B, 2 C. -/
def State.sendFaultC (s : State) (src kind detail cls : Nat) : State :=
  { s with faultQ := s.faultQ ++ [⟨src, kind % 64, detail % 65536, cls⟩] }

/-- A message whose detail the spec does not state: the detail is a free value (log entry 2), answered beside the state. -/
def State.sendFree (s : State) (src kind : Nat) : State × Nat :=
  (s.draw.2.sendFault src kind s.draw.1, s.draw.1 % 65536)

/-- A message of which the spec states neither kind nor detail: both are free values; kind 0 stays reserved (R408). -/
def State.sendOpen (s : State) (src : Nat) : State :=
  s.draw.2.draw.2.sendFault src (1 + s.draw.1 % 63) s.draw.2.draw.1

/-! ### The recorder and replay (R445 to R451) -/

/-- The recorder writes its ring (R445, R448): STATE is recording or post-trigger; it stops in backup operation. -/
def State.recording (s : State) : Bool :=
  (s.fget REC_STATUS_STATE == 1 || s.fget REC_STATUS_STATE == 2)
  && (match s.power.phase with
    | .backup _ _ => false
    | _ => true)

/-- The bytes that a record fills (R446). -/
def Rec.bytes (r : Rec) : Nat := 16 * max 1 (min 16 (Config.recUnits r.typ r.data.length))

/-- The bytes of a record (R446). -/
def Rec.image (r : Rec) : List Byte :=
  natToBytes (r.subject % 2 ^ 16 + r.bytes / 16 * 2 ^ 16 + r.typ * 2 ^ 24) 4 ++ natToBytes (r.time % 2 ^ 32) 4
  ++ (Config.recPayload r.typ r.data ++ List.replicate 256 0).take (r.bytes - 8)

/-- The usable capacity U in bytes (R151), as training has found it; nothing is usable before the page store is zeroed (R168). -/
def State.usable (s : State) : Nat :=
  if s.bit DRAMC_STATUS_ZEROED then s.fget DRAMC_USABLE_USABLE_MIB * 2 ^ 20 else 0

/-- The size and the base of the recorder ring (R152, R456). -/
def State.ringSize (s : State) : Nat := 2 ^ max 26 (min 30 (s.fget REC_CFG_RING_LOG2))
def State.ringBase (s : State) : Nat := s.usable - 2 ^ 26 - s.ringSize

/-- The words of a list that a write of whole words does not make good. -/
def keepWords (ws : List Nat) (a len k : Nat) : List Nat := ws.filter (fun w => decide (w < (a + k - 1) / k ∨ (a + len) / k ≤ w))

/-- Whole code words of the page store are written, with fresh check bits (R162). -/
def State.dramPut (s : State) (a : Nat) (b : List Byte) : State :=
  { s with mem := { s.mem with dram := memWrite s.mem.dram a b, badWords := keepWords s.mem.badWords a b.length 8,
                               oneBits := keepWords s.mem.oneBits a b.length 8 } }

/-- Bytes are written to the recorder ring from an offset on, around its end (R152). -/
def State.recPut (s : State) (off : Nat) (b : List Byte) : State :=
  if s.usable < 2 ^ 26 + s.ringSize then s
  else (s.dramPut (s.ringBase + off) (b.take (s.ringSize - off))).dramPut s.ringBase (b.drop (s.ringSize - off))

/-- The newest records that fit a ring of `cap` bytes; the list is newest first. -/
def fitRecs : Nat → List Rec → List Rec
  | _, [] => []
  | cap, r :: t => if r.bytes ≤ cap then r :: fitRecs (cap - r.bytes) t else []

/-- Write a record (R445); the oldest records make room. The ring is held newest first, and its bytes stand in the page store (R152). -/
def State.record (s : State) (typ subject : Nat) (data : List Int) : State :=
  let r : Rec := ⟨typ, subject, s.now.toNat, data, s.recd.next⟩
  if s.recording then
    { s.recPut s.recd.next r.image with recd := { s.recd with
        recs := fitRecs s.ringSize (r :: s.recd.recs), next := (s.recd.next + r.bytes) % s.ringSize } }
  else s

/-- A trigger (R448): the first one latches its time and cause; the message's detail is not stated (log entry 2). Its event raises
REC event 0, which Tasks.lean's `event` delivers. -/
def State.trigLatch (s : State) (cause : Nat) : State :=
  let t := s.now.toNat
  let s1 := s.fsets [(REC_STATUS_STATE, 2), (REC_STATUS_TRIG_CAUSE, cause), (REC_TRIG_TIME_LO_TIME, t), (REC_TRIG_TIME_HI_TIME, t / 2 ^ 32)]
  ({ s1 with recd := { s1.recd with trigAt := some s.tick } }.sendFree 0x1B0 0x02).1

/-- A replay runs (R450). -/
def State.replaying (s : State) : Bool := s.recd.replay.isSome

/-- The recorded time that a replay has reached, in ns (R450). -/
def State.replayNow (s : State) : Nat :=
  match s.recd.replay with
  | some r => r.startTime + 4 * (s.tick - r.startTick)
  | none => 0

/-- A replay ends (R451): placement and every task are restarted at the next TB tick. -/
def State.replayOver (s : State) : State :=
  { s.fset REC_STATUS_STATE (if s.recd.frozen.isSome then 3 else 0) with
    recd := { s.recd with replay := none, restart := true }, ex := { s.ex with running := [] } }

/-- The first mismatch stops the replay (R451). -/
def State.diverge (s : State) (kind task phys pc addr : Nat) : State :=
  let t := s.replayNow % 2 ^ 64
  ((s.fsets [(REC_STATUS_DIVERGED, 1), (REC_DIV_KIND, kind), (REC_DIV_TASK, task), (REC_DIV_PHYS, phys), (REC_DIV_PC_VALUE, pc),
      (REC_DIV_ADDR_VALUE, addr), (REC_DIV_TIME_LO_TIME, t), (REC_DIV_TIME_HI_TIME, t / 2 ^ 32)]).sendFault 0x1B0 0x03 phys).replayOver

/-- Remove the first record that a predicate picks. -/
def takeRec (p : Rec → Bool) : List Rec → Option (Rec × List Rec)
  | [] => none
  | r :: t => if p r then some (r, t) else (takeRec p t).map (fun x => (x.1, r :: x.2))

/-- The value that an instruction of a task, or a loop input, takes from the recording (R450). -/
def State.replayVal (s : State) (typ subject : Nat) : Option (List Int × State) :=
  match s.recd.replay with
  | some rp => (takeRec (fun r => r.typ == typ && r.subject == subject) rp.vals).map (fun x =>
      (x.1.data, { s with recd := { s.recd with replay := some { rp with vals := x.2 } } }))
  | none => none

/-- An output in replay is compared with the next output record of its engine (R450, R451). -/
def State.replayOut (s : State) (typ task phys pc addr value : Nat) : State :=
  match s.recd.replay with
  | none => s
  | some rp =>
    match takeRec (fun r => r.data.head? == some (phys : Int)) rp.outs with
    | none => s.diverge 5 task phys pc addr
    | some (r, rest) =>
      let s1 := { s with recd := { s.recd with replay := some { rp with outs := rest } } }
      if r.typ ≠ typ ∨ r.subject ≠ task ∨ r.data[2]? ≠ some (addr : Int) then s1.diverge 2 task phys pc addr
      else if r.data[3]? ≠ some (value : Int) then s1.diverge 1 task phys pc addr
      else if r.time + 4 < s.replayNow ∨ s.replayNow + 4 < r.time then s1.diverge 3 task phys pc addr
      else s1

/-- An output of a task (R445, R450): performed and recorded, or in replay only compared. -/
def State.output (s : State) (typ task phys pc addr value : Nat) (perform : State → State) : State :=
  if s.replaying then s.replayOut typ task phys pc addr value
  else perform (s.record typ task [(phys : Int), (pc : Int), (addr : Int), (value : Int)])

/-- A value that an instruction of a task takes (R445, R450): recorded, or in replay the recorded one. -/
def State.taken (s : State) (task : Nat) (v : Int) : Int × State :=
  match s.replayVal 0x12 task with
  | some ([r], s1) => (r, s1)
  | some (_, s1) => (v, s1)
  | none => (v, s.record 0x12 task [v])

/-- In replay, an end of a wait, SEND or RECV of a task that the recording holds at its issue (R96, R450): the record's data, and the state
without the record. -/
def State.replayIssue (s : State) (task : Nat) : Option (List Int × State) :=
  match s.recd.replay with
  | some rp => match takeRec (fun r => r.typ == 0x11 && r.subject == task) rp.acts with
    | some (r, rest) =>
      if r.data.getD 3 0 = 1 then some (r.data, { s with recd := { s.recd with replay := some { rp with acts := rest } } }) else none
    | none => none
  | none => none

/-- Write 1 to a W1C bit of one's own (a block setting a status flag). -/
def State.flag (s : State) (f : Fld) : State := s.fset f 1

/-! ### Units (R12, R13, R117) -/

/-- The number of sequencer and loop engines, spares included (R117). -/
def nEngines : Nat := 25

/-- Whether a physical engine is a loop engine (R117). -/
def isLoopEngine (p : Nat) : Bool := 20 ≤ p

/-- The fault source of a physical engine (R410). -/
def engineSrc (p : Nat) : Nat := 0x040 + p

/-- The spare of an engine's bay, or the spare loop engine (R117). -/
def spareOf (p : Nat) : Nat := if p < 20 then p / 5 * 5 + 4 else 24

/-- What the controller keeps of a unit (R452 to R455). -/
def UnitSt.new : UnitSt := ⟨false, false, false, 0, 0, false, false⟩
def State.unitOf (s : State) (src : Nat) : UnitSt := (kvGet s.units src).getD UnitSt.new
def State.modUnit (s : State) (src : Nat) (f : UnitSt → UnitSt) : State := { s with units := kvSet s.units src (f (s.unitOf src)) }

/-- A unit that has not failed, is not retired and not unavailable. -/
def State.unitOk (s : State) (src : Nat) : Bool :=
  match kvGet s.units src with
  | some u => !u.failed && !u.retired && !u.unavail
  | none => true

/-- EVWAIT selectors (R82) of the blocks, by base offset. -/
def selOf (blockOffset event : Nat) : Nat := blockOffset + event

/-- A station's block offset in the register window (R12). -/
def stnOffset (n : Nat) : Nat := 0x0010_0000 + 0x1_0000 * n

/-! ### Registers as words (R3 to R5) -/

/-- The rows of the register map. -/
def regRows : List RegRow :=
  regsSYS ++ regsFLT ++ regsTHM ++ regsTIME ++ regsETHn ++ regsPCIE ++ regsDMA ++ regsDRAMC ++ regsMEMI ++ regsLEDG
  ++ regsPLC ++ regsREC ++ regsUPD ++ regsRAIL ++ regsHIF ++ regsSTNn ++ regsSTNX ++ regsPPOS ++ regsDRVn ++ regsAXSn
  ++ regsLOOPn ++ regsHVO ++ regsFUS ++ regsGPIO ++ regsADC

/-- Where a row of the map holds an address: the indices of the register in its array. -/
def RegRow.index (r : RegRow) (a : Nat) : Option (Nat × Nat) :=
  (List.range r.n).findSome? (fun i =>
    let base := r.addr + r.stride * i
    if r.mstride = 0 then (if a = base then some (i, 0) else none)
    else if base + r.mstride * r.m0 ≤ a ∧ a < base + r.mstride * r.m ∧ (a - base) % r.mstride = 0 then
      some (i, (a - base) / r.mstride)
    else none)

/-- The address under which the store keeps a register: the bar registers of a bar station stand apart (R204). -/
def State.storeAddr (s : State) (a : Nat) : Nat :=
  match stationOf a with
  | some (n, off) => if 0x400 ≤ off ∧ off < 0x600 ∧ s.bit (STNn_PL_CFG_KIND n) then a + barSpace else a
  | none => a

/-- The fields of the register at an address of the store. -/
def regFieldsAt (a : Nat) : Option (List Fld) :=
  regRows.findSome? (fun r => (r.index a).map (fun ij => r.fields ij.1 ij.2))

/-- A register's word, from the values in effect: a WO field and a reserved bit read 0 (R4, R5). -/
def State.wordOf (s : State) (fs : List Fld) : Nat :=
  fs.foldl (fun w f => if f.acc = .wo then w else w + s.fget f * 2 ^ f.lo) 0

/-- The bits of a written word that fall in a field. -/
def Fld.part (f : Fld) (w : Nat) : Nat := w / 2 ^ f.lo % 2 ^ f.width

end Sys2Proof.Machine
end

