-- ==== Sys2Proof/Machine/Tasks.lean ====
section
/-! DEFINITION. Tasks, releases, traps and events (R58 to R60, R91 to R93, R101 to R110). -/

namespace Sys2Proof.Machine

/-- A declared task. -/
def State.task? (s : State) (i : Nat) : Option Task := kvGet s.ex.tasks i

/-- Write a task back. -/
def State.setTask (s : State) (i : Nat) (t : Task) : State :=
  { s with ex := { s.ex with tasks := kvSet s.ex.tasks i t } }

/-- The device address of a segment address of a task (R63, R112). -/
def Task.segAddr (t : Task) (a : Nat) : Nat := (kvGet t.segBase (a / 2 ^ 28)).getD 0 + a % 2 ^ 28
def State.segAt (s : State) (i a : Nat) : Nat := ((s.task? i).map (fun t => t.segAddr a)).getD 0

/-- Record which task an engine runs. -/
def State.setRunning (s : State) (p : Nat) (i : Option Nat) : State :=
  { s with ex := { s.ex with running := match i with | some i => kvSet s.ex.running p i | none => kvDel s.ex.running p } }

/-- The code word at a task's PC is good in one copy at least (R160): else the engine stalls until it has been fetched again. -/
def State.codeGood (s : State) (t : Task) : Bool := !s.mem.sramBad.contains (t.area + 4 * t.arch.pc.toNat)

/-- The task that engine `p` runs, if it runs one. -/
def State.curTask (s : State) (p : Nat) : Option (Nat × Task) :=
  match kvGet s.ex.running p with
  | some i => match s.task? i with
    | some t => if t.stat = .running ∧ t.phys = p ∧ t.stall = false ∧ s.codeGood t = true then some (i, t) else none
    | none => none
  | none => none

/-- Run one instruction of the task on engine `p`: an engine that runs no task executes nothing (log entry 5). -/
def onTask (p : Nat) (s : State) (k : Nat → Task → State) : Host.Outcome State Fault Refusal :=
  if p < nEngines then
    match s.curTask p with
    | some (i, t) => .next (k i t)
    | none => .next s
  else .fault .noSuchUnit

/-- A general register; w0 reads 0 (R59). -/
def Arch.getW (a : Arch) (r : BitVec 5) : Word := if r = 0 then 0 else a.w[r.toNat]'(r.isLt)

/-- Write a general register; a write of w0 is discarded (R59). -/
def Arch.setW (a : Arch) (r : BitVec 5) (v : Word) : Arch :=
  if r = 0 then a else { a with w := a.w.set r.toNat v (r.isLt) }

/-- A time or position register (R59). -/
def Arch.getT (a : Arch) (r : BitVec 2) : Word64 := a.t[r.toNat]'(r.isLt)

/-- Write a time or position register. -/
def Arch.setT (a : Arch) (r : BitVec 2) (v : Word64) : Arch := { a with t := a.t.set r.toNat v (r.isLt) }

/-- The four flags at once (R61). -/
def Arch.setFlags (a : Arch) (n z c v : Bool) : Arch := { a with n := n, z := z, c := c, v := v }

/-- The argument words of a release stand in w1 to w4 (R101). -/
def Arch.setArgs (a : Arch) (args : List Word) : Arch :=
  ((args.zip [1, 2, 3, 4]).foldl (fun a e => a.setW (BitVec.ofNat 5 e.2) e.1) a)

/-- An instruction ends: the new architectural state, the cycles it took against BUDGET (R94, R103). PC counts on modulo 65,536 also past the last
word of the code segment, where the spec gives no trap (DESIGN CHOICE, log entry 39). -/
def State.retire (s : State) (i : Nat) (t : Task) (a : Arch) (cycles : Nat) : State :=
  s.setTask i { t with arch := { a with pc := a.pc + 1 }, cyc := t.cyc + cycles, maxCyc := max t.maxCyc (t.cyc + cycles) }

/-- A task becomes ready, behind those that are (R104). Tasks that become ready at one TB tick count as ready in one SYS cycle (log entry 40). -/
def State.makeReady (s : State) (i : Nat) (t : Task) : State := s.setTask i { t with stat := .ready, readyAt := s.tick }

/-- A trap (R91, R93): the instruction has no effect, the task stops, its engine sends the code with the PC. -/
def State.trapAt (s : State) (i : Nat) (t : Task) (code pc : Nat) : State :=
  let t' := { t with stat := .trapped, wait := none, dcall := none, stall := false, access := none, trapKind := code, trapPc := pc,
                     streak := min 3 (t.streak + 1), tries := min 3 (t.tries + 1), trapTime := s.tick, preempted := false }
  let s1 := s.setTask i t'
  let s2 := if kvGet s1.ex.running t.phys = some i then s1.setRunning t.phys none else s1
  s2.output 0x42 i t.phys pc code pc (fun s => s.sendFault (engineSrc t.phys) code pc)

/-- A trap at the instruction in progress. -/
def State.trap (s : State) (i : Nat) (t : Task) (code : Nat) : State := s.trapAt i t code t.arch.pc.toNat

/-- The trap codes of R92. -/
def trapIllegal : Nat := 0x01
def trapAlign : Nat := 0x02
def trapSegment : Nat := 0x03
def trapAccess : Nat := 0x04
def trapChannel : Nat := 0x05
def trapTiming : Nat := 0x06
def trapParity : Nat := 0x07
def trapBkpt : Nat := 0x08
def trapBudget : Nat := 0x09
def trapDeadline : Nat := 0x0A

/-- A lost release (R102): counted, OVERRUN set, and a class A message from the engine's source. The spec gives that
message neither kind nor detail (log entry 9). -/
def State.loseRelease (s : State) (i : Nat) (t : Task) : State :=
  ((s.setTask i { t with overrun := min 65535 (t.overrun + 1) }).flag PLC_STATUS_OVERRUN).sendOpen (engineSrc t.phys)

/-- Start an activation (R60): the registers at a first activation, else as they were left with the flags cleared; REF and
the argument words of the release. -/
def Task.activate (t : Task) (r : Release) : Task :=
  let a := if t.started then ({ t.arch with ref := r.ref }).setFlags false false false false
           else Arch.start (BitVec.ofNat 16 t.hdr.entry) r.ref
  { t with arch := a.setArgs r.args, started := true, inForce := r, cyc := 0, pending := none }

/-- Restart a task (R109): from its last checkpoint, or at its entry with the arguments of the release in force. The budget counter starts from 0:
R103 names releases and CKPT only (DESIGN CHOICE, log entry 39). -/
def Task.restart (t : Task) (fromCkpt clear : Bool) : Task :=
  let a := match t.ckpt with
    | some a => if fromCkpt then a
                else ({ (if clear then Arch.start 0 t.arch.ref else t.arch) with pc := BitVec.ofNat 16 t.hdr.entry }).setArgs t.inForce.args
    | none => ({ (if clear then Arch.start 0 t.arch.ref else t.arch) with pc := BitVec.ofNat 16 t.hdr.entry }).setArgs t.inForce.args
  { t with arch := a, started := true, wait := none, dcall := none, stall := false, access := none, cyc := 0, preempted := false, halted := false }

/-- A restart is recorded (R116): task, cause, PC. -/
def State.recordPlace (s : State) (r : List Nat) : State :=
  { s with ex := { s.ex with placeRecs := s.ex.placeRecs ++ [r] } }.record 0x15 (r.getD 0 0) (r.map (fun (x : Nat) => (x : Int)))

/-- A trapped task that restarts automatically (R109): RESTART = 1 and fewer than 3 traps with no DONE, CKPT or PLC_TASK_CMD restart between. -/
def Task.autoRestart (t : Task) : Bool := t.stat = .trapped ∧ t.hdr.restart = true ∧ t.tries < 3

/-- Two releases of a SHEET task are of one sheet: the words of the sequence number agree (R101). -/
def Task.sameSheet (t : Task) (a b : Release) : Bool := decide (t.hdr.rel = RelKind.sheet) && a.args.take 2 == b.args.take 2

/-- A release that arrives in an activation (R101, R102): it becomes pending; where one is pending it is lost, unless it is of the same sheet: the
latest release for a sequence number is the one in force, also in the activation of that sheet, whose restart takes its arguments. -/
def State.pendRelease (s : State) (i : Nat) (t : Task) (r : Release) : State :=
  let t1 := if t.sameSheet t.inForce r then { t with inForce := { t.inForce with args := r.args } } else t
  match t.pending with
  | none => s.setTask i { t1 with pending := some r }
  | some q => if t.sameSheet q r then s.setTask i { t1 with pending := some r } else s.loseRelease i t1

/-- A release acts on its task (R101, R102, R109). The release at which a trapped task restarts becomes its pending release where it has a checkpoint,
whose REF it keeps; where it has none, it restarts at its entry in the activation of that release (DESIGN CHOICE, log entry 39). -/
def State.releaseNow (s : State) (i : Nat) (r : Release) : State :=
  match s.task? i with
  | none => s
  | some t =>
    match t.stat with
    | .idle => s.makeReady i (t.activate r)
    | .ready | .running | .waiting => s.pendRelease i t r
    | .trapped =>
      if t.autoRestart then
        if t.ckpt.isSome then
          let s1 := s.makeReady i (t.restart true false)
          let s2 := match s1.task? i with
            | some t1 => s1.pendRelease i t1 r
            | none => s1
          s2.recordPlace [3, i, 1, (t.restart true false).arch.pc.toNat]
        else
          let t1 := { t with inForce := r }.restart false false
          (s.makeReady i { t1 with arch := { t1.arch with ref := r.ref } }).recordPlace [3, i, 1, t.hdr.entry]
      else s.loseRelease i t
    | .stopped => s.loseRelease i t

/-- A release arrives (R101): it is recorded; in replay tasks are released from the recording alone (R450). -/
def State.release (s : State) (i : Nat) (r : Release) : State :=
  if s.replaying then s
  else (s.record 0x10 i ((r.ref.toNat : Int) :: r.args.map (fun (w : Word) => (w.toNat : Int)))).releaseNow i r

/-- Release every task that a predicate on headers picks, in ascending task number. -/
def State.releaseAll (s : State) (p : TaskHdr → Bool) (r : Release) : State :=
  (s.ex.tasks.map (·.1)).foldl (fun s i => match s.task? i with
    | some t => if p t.hdr then s.release i r else s
    | none => s) s

/-- The words of a channel. -/
def State.chan (s : State) (ch : Nat) : List Word := (kvGet s.ex.chans ch).getD []

/-- Write a channel's words back. -/
def State.setChan (s : State) (ch : Nat) (l : List Word) : State :=
  { s with ex := { s.ex with chans := if l.isEmpty then kvDel s.ex.chans ch else kvSet s.ex.chans ch l } }

/-- A MESSAGE task is released when its trigger channel holds a word and it has neither an activation nor a pending release (R101). A trapped one is
released by the next word that reaches the channel: words in it at the trap do not restart the task (DESIGN CHOICE, log entry 39). -/
def State.messageRelease (s : State) (ch : Nat) : State :=
  (s.ex.tasks.map (·.1)).foldl (fun s i => match s.task? i with
    | some t => if t.hdr.rel = .message ∧ t.hdr.relArg = ch ∧ (s.chan ch).isEmpty = false ∧ t.pending = none
                   ∧ (t.stat = .idle ∨ t.autoRestart = true) then
        s.release i ⟨s.now, []⟩ else s
    | none => s) s

/-- Mark a task's EVWAIT on a selector with the time of the tick at which the event occurred. -/
def Task.markEvent (sel : Nat) (now : Word64) (t : Task) : Task :=
  match t.wait with
  | some w => if w.kind = .event sel ∧ w.hit = none then { t with wait := some { w with hit := some now } } else t
  | none => t

/-- A block event occurs (R82, R101): each EVWAIT on it is marked with the TB tick's time, each EVENT task is released. -/
def State.event (s : State) (sel : Nat) : State :=
  { s with ex := { s.ex with tasks := s.ex.tasks.map (fun (e : Nat × Task) => (e.1, e.2.markEvent sel s.now)) } }.releaseAll
    (fun h => decide (h.rel = RelKind.event) && h.relParam == sel) ⟨s.now, []⟩

/-- A trigger of the recorder (R448): ignored unless it records and has not triggered yet. -/
def State.trigger (s : State) (cause : Nat) : State :=
  if s.fget REC_STATUS_STATE = 1 then (s.trigLatch cause).event (selOf 0x0C0000 0) else s

/-- A sheet state is reported to engine programs (R45, R101): SHEET tasks of that state are released. -/
def State.sheetRelease (s : State) (st : Nat) (seq : Nat) (pos : Int) : State :=
  s.releaseAll (fun h => decide (h.rel = RelKind.sheet) && h.relArg == st)
    ⟨s.now, [BitVec.ofNat 32 seq, BitVec.ofNat 32 (seq / 2 ^ 32), BitVec.ofNat 32 (uint 64 pos),
      BitVec.ofNat 32 (uint 64 pos / 2 ^ 32)]⟩

/-- The number a task's state has in PLC_TASK_STATE (R117). -/
def TStat.code : TStat → Nat
  | .idle => 1 | .ready => 2 | .running => 3 | .waiting => 4 | .trapped => 5 | .stopped => 6

end Sys2Proof.Machine
end

