-- ==== Sys2Proof/Machine/Mem.lean ====
section
/-! DEFINITION. The page store and the SRAM window: errors, whole and partial writes, the merge buffer and the leaky buckets
(R9 to R11, R149, R151, R152, R158, R162, R165, R166). -/

namespace Sys2Proof.Machine

/-- The fault source of the channel that holds an address: bit [8] selects DDR1 (R149, R410). -/
def ddrSrc (a : Nat) : Nat := 0x011 + a / 256 % 2

/-- An error found by a read of a 64-byte unit (R162): one message, ERR_ADDR and the count; kind 1 corrected, 2
uncorrectable. -/
def State.eccErr (s : State) (a kind : Nat) : State :=
  let s1 := s.sendFault (ddrSrc a) kind (a / 64 % 65536)
  let s2 := s1.fsets [(DRAMC_ERR_ADDR_LO_ERR_ADDR, a / 64 * 64), (DRAMC_ERR_ADDR_HI_ERR_ADDR, a / 2 ^ 32 % 256)]
  s2.fsat (if kind = 1 then DRAMC_ECC_CNT_CORR else DRAMC_ECC_CNT_UNCORR) 1

/-! ### Leaky buckets (R165) -/

/-- The source of a memory class's bucket (R410). -/
def bucketSrc (c : Nat) : Nat := 0x018 + c

/-- A corrected error of a class adds 1 to its bucket; the add that takes it to 16 sets OVF and, once it has leaked below 8
since its last message, sends one message. -/
def State.bucketAdd (s : State) (c : Nat) : State :=
  let l := s.fget (MEMI_LEAKc_LEVEL c)
  if l = 16 then s
  else if l + 1 < 16 then s.fset (MEMI_LEAKc_LEVEL c) (l + 1)
  else
    let s1 := (s.fset (MEMI_LEAKc_LEVEL c) 16).flag (MEMI_LEAKc_OVF c)
    if (kvGet s.mem.armed c).getD true then
      let s2 := (s1.sendFree (bucketSrc c) 0x01).1
      { s2 with mem := { s2.mem with armed := kvSet s2.mem.armed c false } }
    else s1

/-- A bucket leaks by 1. -/
def State.bucketLeak (s : State) (c : Nat) : State :=
  let l := s.fget (MEMI_LEAKc_LEVEL c)
  let s1 := s.fset (MEMI_LEAKc_LEVEL c) (l - 1)
  if l - 1 < 8 then { s1 with mem := { s1.mem with armed := kvSet s1.mem.armed c true } } else s1

/-! ### Remapped lines (R166) -/

/-- The entry of the remap table that holds a line. -/
def State.remapOf (s : State) (line : Nat) : Option Nat := (s.mem.remap.find? (fun e => e.2.line == line)).map (fun e => e.1)

/-- The lowest free entry of the remap table: which one a line takes the spec does not say (DESIGN CHOICE, log entry 44). -/
def State.remapFree (s : State) : Option Nat := (List.range 32).find? (fun e => (kvGet s.mem.remap e).isNone)

/-- REMAP_USED follows the table. -/
def State.remapCount (s : State) : State := s.fset MEMI_REMAP_USED_USED s.mem.remap.length

/-- Remap a line (R166): its content moves to the entry, an uncorrectable one as zeros; refused when the table is full or the line is
mapped already. The content of a remapped line is kept under the line's own address. -/
def State.remapAdd (s : State) (line : Nat) (auto : Bool) : State :=
  match s.remapOf line, s.remapFree with
  | none, some e =>
    let bad := s.mem.badWords.any (fun w => w / 8 == line)
    let d := if bad then memWrite s.mem.dram (line * 64) (List.replicate 64 0) else s.mem.dram
    { s with mem := { s.mem with
        dram := d, badWords := s.mem.badWords.filter (fun w => w / 8 != line), oneBits := s.mem.oneBits.filter (fun w => w / 8 != line),
        onceLines := s.mem.onceLines.filter (fun l => l.line != line),
        remap := kvSet s.mem.remap e ⟨line, auto⟩, unsaved := true } }.remapCount
  | _, _ => (s.flag MEMI_STATUS_REMAP_FULL).draw.2.draw.2.sendFaultC 0x010 (1 + s.draw.1 % 63) (s.draw.2.draw.1) 1

/-- What a line has shown so far. -/
def State.onceOf (s : State) (line : Nat) : OnceLine := (s.mem.onceLines.find? (fun l => l.line == line)).getD ⟨line, false, false, false⟩

/-- A line shows a corrected error (R166), to the walk or to another access: with AUTO_REMAP the second occasion remaps it, which is a second pass of
the walk, or a second access with a write between. -/
def State.lineSeen (s : State) (line : Nat) (walk : Bool) : State :=
  let o := s.onceOf line
  if s.bit MEMI_CTRL_AUTO_REMAP = false then s
  else if (if walk then o.walk else o.access && o.written) then s.remapAdd line true
  else
    let o' := if walk then { o with walk := true } else { o with access := true, written := false }
    { s with mem := { s.mem with onceLines := s.mem.onceLines.filter (fun l => l.line != line) ++ [o'] } }

/-! ### Reads (R162) -/

/-- A read of a 64-byte unit finds an error (R162): kind 2 where a word is uncorrectable, else kind 1, which also enters the bucket (R165). -/
def State.unitRead (s : State) (u : Nat) (walk : Bool) : State :=
  if s.mem.badWords.any (fun w => w / 8 == u) then s.eccErr (u * 64) 2
  else if s.mem.oneBits.any (fun w => w / 8 == u) then ((s.eccErr (u * 64) 1).bucketAdd 0).lineSeen u walk
  else s

/-- Whether a list of 8-byte words has one in a range. -/
def wordsHit (ws : List Nat) (a len : Nat) : List Nat := ws.filter (fun w => decide (a / 8 ≤ w ∧ w ≤ (a + len - 1) / 8) && decide (0 < len))

/-- The 64-byte units of a range in which a word of the range holds an error. -/
def State.badUnits (s : State) (a len : Nat) : List Nat := ((wordsHit s.mem.badWords a len).map (fun w => w / 8)).dedup
def State.errUnits (s : State) (a len : Nat) : List Nat :=
  ((wordsHit (s.mem.badWords ++ s.mem.oneBits) a len).map (fun w => w / 8)).dedup

/-- A read of a range of the page store: what each unit reports, and whether a word of the range is uncorrectable. -/
def State.dramRead (s : State) (a len : Nat) : State × Bool :=
  ((s.errUnits a len).foldl (fun s u => s.unitRead u false) s, !(s.badUnits a len).isEmpty)

/-- Bytes of the page store; a remapped line's content is that of its entry, kept under the line's own address. -/
def State.dramBytes (s : State) (a len : Nat) : List Byte := memRead s.mem.dram a len

/-- Write an entry of the merge buffer back (R158). -/
def State.mergeDrop (s : State) (line : Nat) : State :=
  { s with mem := { s.mem with merge := s.mem.merge.filter (fun e => e.line != line) } }

/-! ### The merge buffer and writes (R158, R162) -/

/-- Bytes of a line reach the merge buffer (R158): a new line is read, and what the read finds is reported; where 32 entries are held, its writer
stalls until the oldest is written back. -/
def State.mergePut (s : State) (line : Nat) (offs : List Nat) : State :=
  match s.mem.merge.find? (fun e => e.line == line) with
  | some _ => { s with mem := { s.mem with merge := s.mem.merge.map (fun e =>
      if e.line = line then { e with offs := (e.offs ++ offs).dedup, last := s.tick } else e) } }
  | none =>
    let s1 := if s.mem.merge.length < 32 then s else
      match s.mem.merge with
      | e :: _ => (s.mergeDrop e.line).fsat DRAMC_MERGE_STALLS 1
      | [] => s
    let s2 := s1.unitRead line false
    { s2 with mem := { s2.mem with merge := s2.mem.merge ++ [⟨line, offs, s.tick⟩] } }

/-- The lines in which a range covers a code word in part. -/
def partLines (a len : Nat) : List Nat :=
  if len = 0 then [] else
  ((if a % 8 = 0 ∧ a / 8 * 8 + 8 ≤ a + len then [] else [a / 64])
    ++ (if (a + len) % 8 = 0 ∨ (a + len) / 8 = a / 8 then [] else [(a + len) / 64])).dedup

/-- The offsets that a range writes in a line. -/
def lineOffs (a len line : Nat) : List Nat := (List.range 64).filter (fun i => decide (a ≤ line * 64 + i ∧ line * 64 + i < a + len))

/-- Write bytes to the page store (R158, R162): whole code words store fresh check bits; a code word written in part passes
through the merge buffer and keeps an uncorrectable error visible, and whole words of a line that the buffer holds merge into its entry. -/
def State.dramWrite (s : State) (a : Nat) (b : List Byte) : State :=
  let len := b.length
  let ps := partLines a len
  let held := (s.mem.merge.filter (fun e => decide (a < e.line * 64 + 64 ∧ e.line * 64 < a + len) && !ps.contains e.line)).map (fun e => e.line)
  let s1 := (ps ++ held).foldl (fun s l => s.mergePut l (lineOffs a len l)) s
  { s1 with mem := { s1.mem with
    dram := memWrite s1.mem.dram a b,
    badWords := keepWords s1.mem.badWords a len 8, oneBits := keepWords s1.mem.oneBits a len 8,
    onceLines := s1.mem.onceLines.map (fun l => if a < l.line * 64 + 64 ∧ l.line * 64 < a + len then { l with written := true } else l) } }

/-! ### The SRAM window (R11) -/

/-- The kind of memory at an offset of the SRAM window: paired or backed; none where it is unmapped (R11). -/
def sramKind (o : Nat) : Option Bool :=
  if o < 0x100000 then some true
  else if o < 0x150000 then some true
  else if 0x200000 ≤ o ∧ o < 0x300000 then some true
  else if 0x400000 ≤ o ∧ o < 0xB00000 then some false
  else none

/-- The base of the SRAM window in device space (R9), and of the remap entries among the paired words. -/
def sramBase : Nat := 0x1000000000
def remapSpace : Nat := 0x40000000000

/-- Words of 4 bytes of a list that lie in a range. -/
def sramHit (ws : List Nat) (a len : Nat) : List Nat := ws.filter (fun w => decide (a < w + 4 ∧ w < a + len))

/-- Words of 4 bytes of a list that a write of a range does not make good. -/
def sramKeep (ws : List Nat) (a len : Nat) : List Nat := ws.filter (fun w => !decide (a ≤ w ∧ w + 4 ≤ a + len))

/-- Write bytes to the SRAM window: both copies of a word that is written whole are good again (R11). -/
def State.sramWrite (s : State) (a : Nat) (b : List Byte) : State :=
  { s with mem := { s.mem with sram := memWrite s.mem.sram (a - sramBase) b,
                               sramOne := sramKeep s.mem.sramOne a b.length, sramBad := sramKeep s.mem.sramBad a b.length,
                               sramLost := sramKeep s.mem.sramLost a b.length } }

/-- Bytes of a memory by their device address, and a write of them (R9, R11). -/
def State.rawGet (s : State) (a len : Nat) : List Byte :=
  if a < sramBase then s.dramBytes a len else memRead s.mem.sram (a - sramBase) len
def State.rawPut (s : State) (a : Nat) (b : List Byte) : State := if a < sramBase then s.dramWrite a b else s.sramWrite a b

/-- The bytes of a data segment, by the segment address of a task (R62, R63), and a write of them. -/
def State.segGet (s : State) (i a len : Nat) : List Byte := s.rawGet (s.segAt i a) len
def State.segPut (s : State) (i a : Nat) (b : List Byte) : State := s.rawPut (s.segAt i a) b

/-- A memory with a range of it zeroed. -/
def memClear (m : Memory) (a len : Nat) : Memory := m.filter (fun e => decide (e.1 < a ∨ a + len ≤ e.1))

/-- A range of a memory is filled at placement (R98): the bytes, and zeros for the rest; every word of it is good. -/
def State.rawFill (s : State) (a len : Nat) (b : List Byte) : State :=
  if a < sramBase then
    { s with mem := { s.mem with dram := memWrite (memClear s.mem.dram a len) a (b.take len),
                                 badWords := keepWords s.mem.badWords a len 8, oneBits := keepWords s.mem.oneBits a len 8 } }
  else
    { s with mem := { s.mem with sram := memWrite (memClear s.mem.sram (a - sramBase) len) (a - sramBase) (b.take len),
                                 sramOne := sramKeep s.mem.sramOne a len, sramBad := sramKeep s.mem.sramBad a len,
                                 sramLost := sramKeep s.mem.sramLost a len } }

end Sys2Proof.Machine
end

