-- ==== Sys2Proof/Machine/Down.lean ====
section
/-! DEFINITION. What a reset and a power-down leave: the always-on domain, the flash, and what the model itself keeps (R376, R379,
R386). -/

namespace Sys2Proof.Machine

/-- The registers of SYS marked AON (R391). -/
def aonAddr (a : Nat) : Bool :=
  a == 0x200000000C || a == 0x2000000018 || (decide (0x200000002C ≤ a) && decide (a < 0x2000000050))
  || (decide (0x2000000080 ≤ a) && decide (a < 0x20000000C0))

/-- A field that survives every reset but POR: of an AON register, or RWS (R5, R386). -/
def Fld.kept (f : Fld) : Bool := aonAddr f.addr || decide (f.acc = .rws)

/-- A key of the field store names a field that survives. -/
def keptKey (k : Nat) : Bool :=
  aonAddr (k / 32) || (match regFieldsAt (k / 32) with
    | some fs => fs.any (fun f => f.key == k && f.kept)
    | none => false)

/-- The register fields of RAIL, which a reset during FROST leaves alone until the FROST ends (R399), and of TIME. -/
def railAddr (a : Nat) : Bool := decide (0x20000E0000 ≤ a) && decide (a < 0x20000F0000)
def timeAddr (a : Nat) : Bool := decide (0x2000030000 ≤ a) && decide (a < 0x2000040000)

/-- Power down, or reset, everything but the AON domain and the registers that `keep` names. The flash keeps what it holds; the journal
keeps its staging area until it is flushed (R50, R376). RAIL keeps its state as its registers do. -/
def State.powerDown (s : State) (keep : Nat → Bool) : State :=
  let r := State.reset
  let jrn : Journal := { s.jrn with compact := none }
  let rail : RailSt := if keep 0x20000E0004 then s.rail else ⟨[], 0, 0, 0, s.rail.frostEnd, [], [], [], [], false, []⟩
  { r with pending := s.pending
           fields := s.fields.filter (fun (e : Nat × Nat) => keep (e.1 / 32) || keptKey e.1)
           shadow := s.shadow.filter (fun (e : Nat × Nat) => keep (e.1 / 32))
           shadowAt := s.shadowAt.filter (fun (e : Nat × Nat) => keep (e.1 / 32))
           aonQ := s.aonQ
           freeCtr := s.freeCtr
           tick := s.tick
           timeFx := if keep 0x2000030000 then s.timeFx else 0
           jrn := jrn
           mem := { r.mem with saved := s.mem.saved }
           needed := s.needed
           net := if keep 0x2000030000 then s.net else r.net
           power := { s.power with hb := false }
           rail := rail
           recd := { r.recd with nor := s.recd.nor }
           upd := { s.upd with asked := [], path := none, lastSeq := none, buf := [], token := false, written := none, answer := none }
           units := s.units.filterMap (fun (e : Nat × UnitSt) => if e.2.retired then some (e.1, ⟨false, true, e.2.unavail, 0, 0, false, false⟩) else none)
           tap := s.tap }

end Sys2Proof.Machine
end

