-- ==== Sys2Proof/Machine/Crc.lean ====
section
/-! DEFINITION. The CRC-32 of R47 and the CRC-16 of R241. -/

namespace Sys2Proof.Machine

/-- One bit of a reflected CRC-32 with the polynomial 0x04C1_1DB7 (R47). -/
def crc32Bit (c : Nat) : Nat := if c % 2 = 1 then (c / 2) ^^^ 0xEDB88320 else c / 2

/-- One byte of the CRC register. -/
def crc32Byte (c : Nat) (b : Byte) : Nat :=
  crc32Bit (crc32Bit (crc32Bit (crc32Bit (crc32Bit (crc32Bit (crc32Bit (crc32Bit (c ^^^ b.toNat))))))))

/-- The CRC register after some bytes; it starts at 0xFFFF_FFFF. -/
def crc32Run (c : Nat) (l : List Byte) : Nat := l.foldl crc32Byte c

/-- CRC-32 of R47. -/
def crc32 (l : List Byte) : Nat := crc32Run 0xFFFFFFFF l ^^^ 0xFFFFFFFF

end Sys2Proof.Machine
end

