-- ==== Sys2Proof/Machine/HostBar.lean ====
section
/-! DEFINITION. The memory behind BAR0 and the function's configuration space: command entries, sheet-queue slots, events, the MSI-X table
(R118, R120, R125 to R130, R135, R136, R138). -/

namespace Sys2Proof.Machine

/-! ### The layout of BAR0 (R120) -/

/-- The offsets of the MSI-X table, the command ring, the event ring and the sheet queue. -/
def msixTable : Nat := 0x8000
def cmdRing : Nat := 0x10000
def evtRing : Nat := 0x20000
def sheetQueue : Nat := 0x100000

/-- The offsets behind which BAR0 holds memory that the host may write. -/
def barRam (off : Nat) : Bool :=
  (decide (msixTable ≤ off) && decide (off < msixTable + 0x400)) || (decide (cmdRing ≤ off) && decide (off < evtRing + 0x40000))
  || (decide (sheetQueue ≤ off) && decide (off < sheetQueue + 0x200000))

/-- Bytes stored behind BAR0; both copies of a word that is written whole are good again (R11, R160). -/
def State.barPut (s : State) (off : Nat) (b : List Byte) : State :=
  { s with host := { s.host with bar := memWrite s.host.bar off b },
           mem := { s.mem with sramOne := sramKeep s.mem.sramOne (hifBase + off) b.length, sramBad := sramKeep s.mem.sramBad (hifBase + off) b.length } }

/-- The number that the bytes at an offset of BAR0 spell. -/
def State.barNum (s : State) (off n : Nat) : Nat := bytesToNat (memRead s.host.bar off n)

/-! ### Command entries (R125, R126) -/

/-- A field of the entry at CMD_HEAD, its OPCODE and its FLAGS. -/
def State.cmdNum (s : State) (off n : Nat) : Nat := s.barNum (cmdRing + 64 * s.fget HIF_CMD_HEAD_CMD_HEAD + off) n
def State.cmdOp (s : State) : Nat := s.cmdNum 0 2
def State.cmdFlags (s : State) : Nat := s.cmdNum 2 2

/-- The flags that a command permits (R125). -/
def entryFlags (op : Nat) : Nat := if op = 0x0003 then 1 else if op = 0x0005 then 2 else 0

/-- The first and the last argument byte that a command uses, of each run of them (R126); the recovery ROM takes the owner token in bytes 20 to
35 of UPDATE_STAGE (R442). -/
def argsOf (op flags : Nat) (recovery : Bool) : List (Nat × Nat) :=
  match op with
  | 0x0001 => [(8, 15)]
  | 0x0003 => [(8, 15)]
  | 0x0004 => [(8, 15)]
  | 0x0005 => if flags.testBit 1 then [(8, 15)] else []
  | 0x0006 => [(8, 9), (12, 27)]
  | 0x0010 => if recovery then [(8, 35)] else [(8, 19)]
  | 0x0020 => [(8, 23)]
  | _ => []

/-- The common part of the entry at CMD_HEAD. -/
def State.cmdHead (s : State) : CmdHead :=
  let used := argsOf s.cmdOp s.cmdFlags (s.power.phase == .recovery)
  ⟨s.cmdNum 4 4, s.cmdFlags ||| entryFlags s.cmdOp == entryFlags s.cmdOp,
   (List.range 56).all (fun k => used.any (fun u => decide (u.1 ≤ 8 + k) && decide (8 + k ≤ u.2)) || s.cmdNum (8 + k) 1 == 0)⟩

/-- The flags and the unused bytes of an entry are as R125 and R126 have them. -/
def cmdOk (h : CmdHead) : Bool := h.flagsOk && h.argsOk

/-- The opcodes of R126. -/
def knownOp (op : Nat) : Bool :=
  (decide (1 ≤ op) && decide (op ≤ 6)) || (decide (0x10 ≤ op) && decide (op ≤ 0x13)) || op == 0x20

/-! ### The sheet queue (R128, R129) -/

/-- The plane entry at an offset of BAR0 (R129). -/
def State.planeAt (s : State) (o : Nat) : PlaneEntry :=
  ⟨s.barNum o 1, s.barNum (o + 1) 1, s.barNum (o + 2) 1, s.barNum (o + 4) 4, s.barNum (o + 8) 4, s.barNum (o + 12) 4, s.barNum (o + 16) 8,
   s.barNum (o + 24) 4, s.barNum (o + 3) 1 == 0 && s.barNum (o + 28) 4 == 0⟩

/-- The slot of a sequence number (R128). -/
def State.slotAt (s : State) (seq : Nat) : SheetSlot :=
  let o := sheetQueue + 512 * (seq % 4096)
  ⟨s.barNum o 8, s.barNum (o + 8) 4, s.barNum (o + 12) 1, s.barNum (o + 16) 8, s.barNum (o + 13) 3 == 0 && s.barNum (o + 24) 40 == 0,
   (List.range (min 12 (s.barNum (o + 12) 1))).map (fun i => s.planeAt (o + 64 + 32 * i))⟩

/-! ### Events (R126, R135, R136) -/

/-- The result bytes of CMD_DONE (R126): of a STATUS_QUERY two numbers of 8 bytes come first. -/
def resultBytes (op : Nat) (rs : List Nat) : List Byte :=
  if op = 0x0005 then (rs.take 2).flatMap (fun r => natToBytes r 8) ++ (rs.drop 2).flatMap (fun r => natToBytes r 4)
  else rs.flatMap (fun r => natToBytes r 4)

/-- An event's bytes before it is filled up to 64 (R135, R136). -/
def HostEvent.head (eseq : Nat) : HostEvent → List Byte
  | .cmdDone tag op st det rs =>
    [1, 0, 0, 0] ++ natToBytes eseq 4 ++ natToBytes tag 4 ++ natToBytes op 2 ++ natToBytes st 2 ++ natToBytes det 4 ++ resultBytes op rs
  | .sheetState seq st reason limit time commitPos effPitch blank detail hostTag re =>
    [2, if re then 1 else 0, 0, 0] ++ natToBytes eseq 4 ++ natToBytes seq 8 ++ natToBytes (st + 16 * reason) 1 ++ natToBytes (limit % 32) 1 ++ [0, 0]
    ++ natToBytes time 8 ++ natToBytes (uint 64 commitPos) 8 ++ natToBytes effPitch 4 ++ blank.flatMap (fun b => natToBytes b 2)
    ++ natToBytes detail 4 ++ natToBytes hostTag 8
  | .planesReady seq count hostTag =>
    [3, 0, 0, 0] ++ natToBytes eseq 4 ++ natToBytes seq 8 ++ natToBytes count 1 ++ List.replicate 39 0 ++ natToBytes hostTag 8
  | .planeError seq i kind crc hostTag =>
    [4, 0, 0, 0] ++ natToBytes eseq 4 ++ natToBytes seq 8 ++ natToBytes i 1 ++ natToBytes kind 1 ++ [0, 0] ++ natToBytes crc 4
    ++ List.replicate 32 0 ++ natToBytes hostTag 8
  | .engine task w => [5, 0, 0, 0] ++ natToBytes eseq 4 ++ natToBytes task 2 ++ [0, 0] ++ w.flatMap (fun x => natToBytes x.toNat 4)
  | .resync count cause => [6, 1, 0, 0] ++ natToBytes eseq 4 ++ natToBytes count 4 ++ natToBytes cause 1

/-- The 64 bytes of an event. -/
def HostEvent.bytes (eseq : Nat) (e : HostEvent) : List Byte := (e.head eseq ++ List.replicate 64 0).take 64

/-! ### Configuration space (R118) -/

/-- The maximum payload and read request sizes in force, in bytes. -/
def PcieCfgMps (c : PcieCfg) : Nat := 128 * 2 ^ min 1 c.mps
def PcieCfgMrrs (c : PcieCfg) : Nat := min 512 (128 * 2 ^ c.mrrs)

/-- A word of the configuration header: the identities, the class code, the BARs and the subsystem IDs are the table's; where they stand is PCI
Express's (PRESUMED, log entry 46). Words of which the table says nothing are not answered. -/
def State.cfgWord (s : State) (off : Nat) : Option Nat :=
  match off with
  | 0x00 => some 0x96401F3A
  | 0x08 => some 0x0B4000B1
  | 0x10 => some (s.host.cfg.bar0 % 2 ^ 32 / 2 ^ 24 * 2 ^ 24 + 0x4)
  | 0x14 => some (s.host.cfg.bar0 / 2 ^ 32 % 2 ^ 32)
  | 0x18 => some (s.host.cfg.bar2 % 2 ^ 32 / 2 ^ 28 * 2 ^ 28 + 0xC)
  | 0x1C => some (s.host.cfg.bar2 / 2 ^ 32 % 2 ^ 32)
  | 0x20 => some 0
  | 0x24 => some 0
  | 0x2C => some (s.fget PCIE_SUBSYS_SUBSYS_ID * 2 ^ 16 + s.fget PCIE_SUBSYS_SUBSYS_VID)
  | 0x30 => some 0
  | _ => none

/-- The host can be reached (R141, R144): the link is up, bus mastering is enabled, and the function is not in D3hot. -/
def State.hostReach (s : State) : Bool := s.bit PCIE_STATUS_LINK_UP && s.bit PCIE_STATUS_BME && !s.bit PCIE_STATUS_D3HOT

/-- Bytes leave for the host's memory (R143). -/
def State.post (s : State) (a : Nat) (b : List Byte) : State := { s with host := { s.host with posted := (a, b) :: s.host.posted } }

/-! ### MSI-X (R138) -/

/-- A vector is masked, by the function or by its entry of the table (PRESUMED, log entry 46); the table holds the bit inverted, so that every
vector is masked after a reset. -/
def State.masked (s : State) (v : Nat) : Bool :=
  s.host.cfg.msixMask || !(memGet s.host.bar (msixTable + 16 * v + 12)).toNat.testBit 0

/-- A signal of a vector becomes a message, or its pending bit is set. -/
def State.msixSend (s : State) (v : Nat) : State :=
  if s.host.cfg.msixEn = false then s
  else if s.masked v ∨ s.hostReach = false then { s with host := { s.host with pend := if s.host.pend.contains v then s.host.pend else s.host.pend ++ [v] } }
  else { s with host := { s.host with msgs := kvSet s.host.msgs v ((kvGet s.host.msgs v).getD 0 + 1) } }

/-- The pending vectors that are no longer masked are sent. -/
def State.msixFlush (s : State) : State :=
  s.host.pend.foldl State.msixSend { s with host := { s.host with pend := [] } }

/-- Signal an MSI-X vector (R138). -/
def State.msix (s : State) (v : Nat) : State :=
  if s.bit HIF_CTRL_IRQ_EN then
    { s with host := { s.host with msix := kvSet s.host.msix v ((kvGet s.host.msix v).getD 0 + 1) } }.msixSend v
  else s

/-- The host writes an aligned word of the memory behind BAR0 (R120): reserved ranges and the pending-bit array take none; of a vector-control
word only the mask bit. -/
def State.barWord (s : State) (off w : Nat) : State :=
  if barRam off = false then s
  else if off < cmdRing ∧ off % 16 = 12 then (s.barPut off (natToBytes (1 - w % 2) 4)).msixFlush
  else s.barPut off (natToBytes w 4)

end Sys2Proof.Machine
end

