-- ==== Sys2Proof/Machine/HostPost.lean ====
section
/-! DEFINITION. Posting events to the host: the event ring, RESYNC series, MSI-X and the status mirror (R123, R134 to R138). -/

namespace Sys2Proof.Machine

/-- The free entries of the event ring (R134). -/
def State.evtFree (s : State) : Nat := 4095 - s.host.events.length

/-- EVT_TAIL has advanced: vector 0 is signalled, or is due at the end of the hold-off (R138). -/
def State.msixTail (s : State) : State :=
  if s.bit HIF_CTRL_IRQ_EN then
    let free := match s.host.vec0At with
      | some t => decide (t + usTicks (s.fget HIF_IRQ_HOLDOFF_HOLDOFF) ≤ s.tick)
      | none => true
    if free then { s.msix 0 with host := { (s.msix 0).host with vec0At := some s.tick, vec0Due := false } }
    else { s with host := { s.host with vec0Due := true } }
  else s

/-- Write an event and advance EVT_TAIL past it (R134). -/
def State.push (s : State) (e : HostEvent) : State :=
  let eseq := (s.host.eseq + 1) % 2 ^ 32
  let s1 := s.barPut (evtRing + 64 * s.fget HIF_EVT_TAIL_EVT_TAIL) (e.bytes eseq)
  ({ s1 with host := { s1.host with events := s1.host.events ++ [(eseq, e)], eseq := eseq } }.fset HIF_EVT_TAIL_EVT_TAIL
    ((s.fget HIF_EVT_TAIL_EVT_TAIL + 1) % 4096)).msixTail

/-- Post one of the events for which entries are kept, or hold it back for space (R124, R137). -/
def State.postKept (s : State) (e : HostEvent) : State :=
  if s.bit HIF_CTRL_ENABLE ∧ 0 < s.evtFree ∧ s.host.held = [] then s.push e
  else { s with host := { s.host with held := s.host.held ++ [e] } }

/-- Post the events held back, oldest first, as far as entries are free. -/
def State.postHeld (s : State) : Nat → State
  | 0 => s
  | k + 1 =>
    match s.host.held with
    | [] => s
    | e :: rest =>
      if s.bit HIF_CTRL_ENABLE ∧ 0 < s.evtFree then ({ s with host := { s.host with held := rest } }.push e).postHeld k else s

/-- A cause of a RESYNC series arises (R137). -/
def State.wantSeries (s : State) (cause : Nat) : State :=
  match s.host.series with
  | none => { s with host := { s.host with series := some ⟨cause, false, []⟩ } }.flag HIF_STATUS_RESYNC_PENDING
  | some r => if r.opened then { s with host := { s.host with nextSeries := (s.host.nextSeries <|> some cause) } } else s

/-- The number of R34 of a sheet state. -/
def SheetState.code : SheetState → Nat
  | .submitted => 1 | .admitted => 2 | .committed => 3 | .exposed => 4 | .transferred => 5 | .fused => 6
  | .delivered => 8 | .deliveredDefect => 9 | .failed => 10 | .withdrawn => 11

/-- An outcome is final (R34). -/
def SheetState.isFinal : SheetState → Bool
  | .delivered => true | .deliveredDefect => true | .failed => true | .withdrawn => true
  | _ => false

/-- COMMITTED to FUSED. -/
def SheetState.inFlight : SheetState → Bool
  | .committed => true | .exposed => true | .transferred => true | .fused => true
  | _ => false

/-- ADMITTED to FUSED: a sheet ADMITTED or later and not final. -/
def SheetState.isActive : SheetState → Bool
  | .admitted => true
  | st => st.inFlight

/-- The SHEET_STATE event that repeats a journal record (R136), with HOST_TAG as the ledger holds it. -/
def JRec.event (r : JRec) (hostTag : Nat) (resync : Bool) : HostEvent :=
  .sheetState r.seq r.st r.reason r.limit r.time r.commitPos r.effPitch r.blank r.detail hostTag resync

/-- Report a change of a sheet to the host (R45, R137): withheld when 8 or fewer entries are free, carried by the series for
a sheet that a series has still to reach, or by the series that follows once one was withheld in a series. -/
def State.postSheet (s : State) (r : JRec) (hostTag : Nat) : State :=
  if s.bit HIF_CTRL_ENABLE = false then s
  else match s.host.series with
    | some x =>
      if x.opened = false ∨ x.todo.contains r.seq ∨ s.host.nextSeries.isSome then s
      else if s.evtFree ≤ 8 then
        ({ s with host := { s.host with nextSeries := some 2 } }.flag HIF_STATUS_EVT_OVERFLOW)
      else s.push (r.event hostTag false)
    | none =>
      if s.evtFree ≤ 8 then (s.flag HIF_STATUS_EVT_OVERFLOW).wantSeries 2 else s.push (r.event hostTag false)

/-- A command ends (R124): its CMD_DONE is posted, then CMD_HEAD advances and vector 1 is signalled (R138). -/
def State.cmdFinish (s : State) (e : HostEvent) : State :=
  ((s.push e).fset HIF_CMD_HEAD_CMD_HEAD ((s.fget HIF_CMD_HEAD_CMD_HEAD + 1) % 1024)).msix 1

/-- A CMD_DONE whose record is programmed is posted once ENABLE is set and an entry is free (R122, R134). -/
def State.payDue (s : State) : State :=
  match s.host.owed with
  | some (none, _, e) =>
    if s.bit HIF_CTRL_ENABLE ∧ 0 < s.evtFree then { s with host := { s.host with owed := none } }.cmdFinish e else s
  | _ => s

/-- The record of a JSEQ is programmed: a CMD_DONE that waited for it is due (R45, R134). -/
def State.payOwed (s : State) (jseq : Nat) : State :=
  match s.host.owed with
  | some (some j, seq, e) => if j ≤ jseq then { s with host := { s.host with owed := some (none, seq, e) } }.payDue else s
  | _ => s

/-- The words 0x004 to 0x044 of the status mirror as they stand (R123); the running image's VERSION and slot are those of UPD. -/
def State.mirrorWords (s : State) (ledgStatus ledgLimiter ledgCount ver slot : Nat) : List Nat :=
  let ns := s.timeFx / 2 ^ 24
  [ledgStatus, ledgLimiter, ledgCount, s.led.nextSeq % 2 ^ 32, s.led.nextSeq / 2 ^ 32 % 2 ^ 32, s.led.ack % 2 ^ 32,
   s.led.ack / 2 ^ 32 % 2 ^ 32, s.fget LEDG_EFF_PITCH_EFF_PITCH,
   s.fget FLT_STATUS_SAFE + 2 * s.fget FLT_STATUS_B_PENDING, s.fget THM_TEMP_TEMP, (quotOpen ((s.fget THM_M_MULT : Int) * 1024) 10000).toNat,
   ns / 1000000000 % 2 ^ 32, ns / 1000000000 / 2 ^ 32 % 2 ^ 16, ns % 1000000000, 0, ver, slot]

end Sys2Proof.Machine
end

