-- ==== Sys2Proof/Machine/TimeGroup.lean ====
section
/-! DEFINITION. Branches and the time group (R73 to R78), and the belt position as a station sees it (R76, R207 to R210). -/

namespace Sys2Proof.Machine

/-- The belt position advances and is compared only while the block runs and the encoder is not lost (R207, R212). -/
def State.beltRuns (s : State) : Bool := s.bit PPOS_CTRL_EN && !s.bit PPOS_STATUS_ENC_LOST

/-- The belt position now, station 7 of R76, in 1/4096 PPOS unit: with INTERP it goes on at the mean count rate, never past
the position the next count will set (R208, R209). -/
def State.beltFx (s : State) : Int :=
  let p := s.ppos
  if s.bit PPOS_CTRL_INTERP ∧ s.beltRuns ∧ p.tSum ≠ 0 then
    match p.times with
    | (t0, d) :: _ =>
      let step : Int := (s.fget PPOS_SCALE_SCALE : Int)
      p.posFx + d * min step (step * (((s.tick - t0) * p.tNum : Nat) : Int) / (p.tSum : Int))
    | [] => p.posFx
  else p.posFx

/-- The belt position in PPOS units (R40, R208). -/
def State.belt (s : State) : Int := s.beltFx / 4096

/-- The offset in effect of a station; station 7 has none (R76, R210). -/
def State.ofsOf (s : State) (stn : Nat) : Int := if stn = 7 then 0 else (kvGet s.ppos.ofs stn).getD 0

/-- The position at a station, modulo 2^64 (R76, R210). -/
def State.posAt (s : State) (stn : Nat) : Word64 := BitVec.ofInt 64 (s.belt - s.ofsOf stn)

/-- TIME_NOW wraps after 48 bits of seconds (R349). -/
def timeWrap : Nat := 2 ^ 48 * 1000000000 * 2 ^ 24

/-- What a tick of a slew adds beside TIME_INC (R354): δ with the sign of what remains, or what remains where less than |δ| does. -/
def State.slewStep (s : State) : Int :=
  let m := (s.fget TIME_INC_INC * max 1 (min 1000 (s.fget TIME_ADJ_RATE_RATE)) + 500000) / 1000000
  if s.net.slewLeft.natAbs < m then s.net.slewLeft else if s.net.slewLeft < 0 then -(m : Int) else (m : Int)

/-- The RTC counts on; a SET waits for its next whole second (R381). -/
def State.rtcTick (s : State) : State :=
  if s.power.rtcTicks + 1 < 250000000 then { s with power := { s.power with rtcTicks := s.power.rtcTicks + 1 } }
  else
    let sec := (match s.power.rtcNext with
      | some v => v
      | none => s.fget SYS_RTC_LO_SEC + 2 ^ 32 * (s.fget SYS_RTC_HI_SEC % 2 ^ 16) + 1) % 2 ^ 48
    { s.fsets [(SYS_RTC_LO_SEC, sec), (SYS_RTC_HI_SEC, sec / 2 ^ 32)] with
      power := { s.power with rtcTicks := 0, rtcNext := none } }

/-- SLEWING reaches 0 with what remains of the slew (R354). -/
def State.slewOver (s : State) (left : Int) : State := if left = 0 ∧ s.bit TIME_STATUS_SLEWING = true then s.fset TIME_STATUS_SLEWING 0 else s

/-- One TB tick of TIME_NOW: TIME_INC is added (R349), and a slew's δ (R354), the copies that TGET and PGET read move on (R77), and station offsets
written before it take effect (R210). -/
def State.tbTick (s : State) : State :=
  if s.net.timeOn = false then { s.rtcTick with tick := s.tick + 1 } else
  let d := s.slewStep
  { s.rtcTick.slewOver (s.net.slewLeft - d) with
           tick := s.tick + 1
           timeFx := (s.timeFx + s.fget TIME_INC_INC + timeWrap + d).toNat % timeWrap
           net := { s.net with slewLeft := s.net.slewLeft - d }
           hist := ((s.now, s.belt) :: s.hist).take 4
           ppos := { s.ppos with ofs := s.ppos.ofsNext.foldl (fun m e => kvSet m e.1 e.2) s.ppos.ofs, ofsNext := [] } }

/-- What TGET and PGET read: a copy between 8 and 16 ns old, that is 2 to 4 ticks; which of them is a free value (R77). -/
def State.aged (s : State) (k : Nat) : Word64 × Int := (s.hist[1 + k % 3]?).getD ((s.hist.getLast?).getD (s.now, s.belt))

/-- An instruction that writes a t register (R77). -/
def tOp (p : Nat) (td : BitVec 2) (k : Arch → Word64) (s : State) : Host.Outcome State Fault Refusal :=
  onTask p s (fun i t => s.retire i t (t.arch.setT td (k t.arch)) 1)

/-- TGET (R77, R96): the time of a copy 8 to 16 ns old; in replay the recorded one. -/
def execTget (p : Nat) (td : BitVec 2) (s : State) : Host.Outcome State Fault Refusal :=
  onTask p s (fun i t =>
    let v := s.draw.2.taken i ((s.aged s.draw.1).1.toNat : Int)
    v.2.retire i t (t.arch.setT td (BitVec.ofInt 64 v.1)) 2)

/-- PGET (R77, R96): the position at a station, 8 to 16 ns old; in replay the recorded one. A station field of 6 traps (R67). -/
def execPget (p : Nat) (td : BitVec 2) (stn : BitVec 3) (s : State) : Host.Outcome State Fault Refusal :=
  onTask p s (fun i t =>
    if stn = 6 then s.trap i t trapIllegal
    else
      let v := s.draw.2.taken i ((s.aged s.draw.1).2 - s.ofsOf stn.toNat)
      v.2.retire i t (t.arch.setT td (BitVec.ofInt 64 v.1)) 2)

/-- TADD (R77). -/
def execTadd (p : Nat) (td ta : BitVec 2) (b : BitVec 5) (s : State) : Host.Outcome State Fault Refusal :=
  tOp p td (fun a => a.getT ta + (a.getW b).signExtend 64) s

/-- TSUB (R77). -/
def execTsub (p : Nat) (td ta tb : BitVec 2) (s : State) : Host.Outcome State Fault Refusal :=
  tOp p td (fun a => a.getT ta - a.getT tb) s

/-- TDIF (R77, R61): the 32-bit saturated difference. -/
def execTdif (p : Nat) (f : Bool) (d : BitVec 5) (ta tb : BitVec 2) (s : State) : Host.Outcome State Fault Refusal :=
  onTask p s (fun i t =>
    let x := (t.arch.getT ta - t.arch.getT tb).toInt
    let r : Word := if x < -(2 ^ 31) then 0x80000000 else if 2 ^ 31 ≤ x then 0x7FFFFFFF else BitVec.ofInt 32 x
    let a := t.arch.setW d r
    s.retire i t (if f then a.setFlags r.msb (r == 0) false (decide (x < -(2 ^ 31) ∨ 2 ^ 31 ≤ x)) else a) 1)

/-- TLO (R77). -/
def execTlo (p : Nat) (d : BitVec 5) (ta : BitVec 2) (s : State) : Host.Outcome State Fault Refusal :=
  onTask p s (fun i t => s.retire i t (t.arch.setW d ((t.arch.getT ta).truncate 32)) 1)

/-- THI (R77). -/
def execThi (p : Nat) (d : BitVec 5) (ta : BitVec 2) (s : State) : Host.Outcome State Fault Refusal :=
  onTask p s (fun i t => s.retire i t (t.arch.setW d ((t.arch.getT ta).extractLsb' 32 32)) 1)

/-- TSET (R77): wb is the high word. -/
def execTset (p : Nat) (td : BitVec 2) (a b : BitVec 5) (s : State) : Host.Outcome State Fault Refusal :=
  tOp p td (fun r => (r.getW b ++ r.getW a : BitVec 64)) s

/-- TMOV (R77). -/
def execTmov (p : Nat) (td ta : BitVec 2) (s : State) : Host.Outcome State Fault Refusal :=
  tOp p td (fun a => a.getT ta) s

/-- TCMP (R77, R61). -/
def execTcmp (p : Nat) (ta tb : BitVec 2) (s : State) : Host.Outcome State Fault Refusal :=
  onTask p s (fun i t =>
    let x := t.arch.getT ta
    let y := t.arch.getT tb
    let i' := x.toInt - y.toInt
    s.retire i t (t.arch.setFlags (x - y).msb (x == y) (decide (y.toNat ≤ x.toNat)) (decide (i' < -(2 ^ 63) ∨ 2 ^ 63 ≤ i'))) 1)

/-- TREF (R77). -/
def execTref (p : Nat) (td : BitVec 2) (s : State) : Host.Outcome State Fault Refusal :=
  tOp p td (fun a => a.ref) s

/-- TSREF (R77). -/
def execTsref (p : Nat) (ta : BitVec 2) (s : State) : Host.Outcome State Fault Refusal :=
  onTask p s (fun i t => s.retire i t { t.arch with ref := t.arch.getT ta } 1)

/-- The multipliers of R78. -/
def scaleMul (scale : BitVec 2) : Nat :=
  if scale = 0 then 1 else if scale = 1 then 1000 else if scale = 2 then 1000000 else 65536

/-- TADDI (R78). -/
def execTaddi (p : Nat) (td ta : BitVec 2) (scale : BitVec 2) (imm : BitVec 20) (s : State) : Host.Outcome State Fault Refusal :=
  tOp p td (fun a => a.getT ta + imm.signExtend 64 * BitVec.ofNat 64 (scaleMul scale)) s

/-- The conditions of BC (R74); 15 is illegal. -/
def condHolds (cond : BitVec 4) (a : Arch) : Bool :=
  match cond.toNat with
  | 0 => true
  | 1 => a.z
  | 2 => !a.z
  | 3 => a.n != a.v
  | 4 => a.n == a.v
  | 5 => a.z || a.n != a.v
  | 6 => !a.z && a.n == a.v
  | 7 => !a.c
  | 8 => a.c
  | 9 => !a.c || a.z
  | 10 => a.c && !a.z
  | 11 => a.n
  | 12 => !a.n
  | 13 => a.v
  | _ => !a.v

/-- A branch of the task's PC: a target outside the code segment traps with SEGMENT at the branch (R75). -/
def State.jump (s : State) (i : Nat) (t : Task) (a : Arch) (target : Int) : State :=
  if 0 ≤ target ∧ target < (t.hdr.codeWords : Int) then
    s.setTask i { t with arch := { a with pc := BitVec.ofInt 16 target }, cyc := t.cyc + 2, maxCyc := max t.maxCyc (t.cyc + 2) }
  else s.trap i t trapSegment

/-- BC (R74, R75). -/
def execBc (p : Nat) (cond : BitVec 4) (off : BitVec 22) (s : State) : Host.Outcome State Fault Refusal :=
  onTask p s (fun i t =>
    if cond = 15 then s.trap i t trapIllegal
    else if condHolds cond t.arch then s.jump i t t.arch ((t.arch.pc.toNat : Int) + off.toInt)
    else s.retire i t t.arch 2)

/-- BL (R68, R75). -/
def execBl (p : Nat) (off : BitVec 26) (s : State) : Host.Outcome State Fault Refusal :=
  onTask p s (fun i t =>
    s.jump i t (t.arch.setW 31 ((t.arch.pc.zeroExtend 32) + 1)) ((t.arch.pc.toNat : Int) + off.toInt))

/-- JALR (R68, R75): w[a] is read before w[d] is written. -/
def execJalr (p : Nat) (d a : BitVec 5) (imm : BitVec 16) (s : State) : Host.Outcome State Fault Refusal :=
  onTask p s (fun i t =>
    s.jump i t (t.arch.setW d ((t.arch.pc.zeroExtend 32) + 1))
      (((t.arch.getW a + imm.signExtend 32).truncate 16 : BitVec 16).toNat : Int))

end Sys2Proof.Machine
end

