-- ==== Sys2Proof/Machine/Journal.lean ====
section
/-! DEFINITION. The sheets of the ledger, journal records, staging and reporting (R34 to R36, R42 to R49, R55, R483). -/

namespace Sys2Proof.Machine

/-- A live sheet. -/
def State.sheet? (s : State) (seq : Nat) : Option Sheet := s.led.sheets.find? (fun sh => sh.seq == seq)

/-- Change a live sheet. -/
def State.modSheet (s : State) (seq : Nat) (f : Sheet → Sheet) : State :=
  { s with led := { s.led with sheets := s.led.sheets.map (fun sh => if sh.seq = seq then f sh else sh) } }

/-- The controller is in GUARANTEE_DEGRADED (R55). -/
def State.degraded (s : State) : Bool := s.bit LEDG_STATUS_GUARANTEE_DEGRADED

/-- A record that names no sheet, with CODE of LEDG_LIMITER (R46). -/
def State.plainRec (s : State) (typ seq aux : Nat) : JRec :=
  ⟨typ, 0, 0, s.fget LEDG_LIMITER_CODE, s.fget SYS_STRAPS_CTRL_NUM, s.degraded, 0, seq, s.jtime, 0, 0, [0, 0, 0, 0, 0, 0], 0, aux,
   true, false⟩

/-- The record of a sheet (R46): STATE, or CKPT_SHEET. -/
def State.sheetRec (s : State) (typ : Nat) (sh : Sheet) : JRec :=
  ⟨typ, sh.st.code, sh.reason, sh.pitchCode.getD (s.fget LEDG_LIMITER_CODE), s.fget SYS_STRAPS_CTRL_NUM, s.degraded, 0, sh.seq,
   s.jtime, sh.commitPos, sh.effPitch, sh.blank, if sh.st = .failed ∨ sh.st = .deliveredDefect then sh.detail else 0, 0, true, false⟩

/-- The bytes 0 to 59 of a record (R46). -/
def JRec.body (r : JRec) : List Byte :=
  natToBytes r.typ 1 ++ [0x01] ++ natToBytes (r.st + 16 * r.reason) 1
  ++ natToBytes (r.limit + 32 * r.ctrl + (if r.deg then 128 else 0)) 1 ++ natToBytes r.jseq 8 ++ natToBytes r.seq 8
  ++ natToBytes r.time 8 ++ natToBytes (uint 64 r.commitPos) 8 ++ natToBytes r.effPitch 4
  ++ (r.blank.flatMap (fun b => natToBytes b 2)) ++ natToBytes r.detail 4 ++ natToBytes r.aux 4

/-- The 64 bytes of a record, its CRC last (R46, R47). -/
def JRec.bytes (r : JRec) : List Byte := r.body ++ natToBytes (crc32 r.body) 4

/-- Stage a record (R44): it takes the next JSEQ. -/
def State.stage (s : State) (r : JRec) : State :=
  { s with jrn := { s.jrn with staged := s.jrn.staged ++ [{ r with jseq := s.jrn.jseq }], jseq := s.jrn.jseq + 1 } }

/-- The sheet keeps its newest record, which `told` counts as journaled (R45, R136). -/
def Sheet.recorded (sh : Sheet) (r : JRec) (told : Bool) : Sheet :=
  { sh with lastRec := some r, toldRec := if told then some r else sh.toldRec }

/-- Report the change that a record journals to the host and to engine programs (R45, R136). -/
def State.report (s : State) (r : JRec) : State :=
  match s.sheet? r.seq with
  | some sh => ((s.modSheet r.seq (fun x => { x with toldRec := some r })).postSheet r sh.hostTag).sheetRelease r.st r.seq r.commitPos
  | none => s

/-- Journal a sheet's present state, then report it: at once, or in GUARANTEE_DEGRADED once programmed (R45). -/
def State.journalSheet (s : State) (seq : Nat) : State :=
  match s.sheet? seq with
  | some sh =>
    let r := { s.sheetRec 0x01 sh with jseq := s.jrn.jseq, tell := s.degraded }
    let s1 := (s.modSheet seq (fun x => x.recorded r (!s.degraded))).stage r
    if s.degraded then s1 else s1.report r
  | none => s

/-- A sheet enters a state: the change is journaled and reported (R36), and may trigger the recorder (R448). -/
def State.enter (s : State) (seq : Nat) (st : SheetState) : State :=
  let s1 := (s.modSheet seq (fun sh => { sh with st := st })).journalSheet seq
  if st = .failed ∧ s1.bit REC_CTRL_TRIG_FAIL then s1.trigger 3
  else if st = .deliveredDefect ∧ s1.bit REC_CTRL_TRIG_DEFECT then s1.trigger 4
  else s1

/-- Blocks of the plane pool become free (R155). -/
def State.freeBlocks (s : State) (bs : List Nat) : State :=
  { s with mem := { s.mem with used := s.mem.used.filter (fun b => !bs.contains b) } }

/-- What a pipeline holds of a sheet's decoded data is discarded (R132, R180). -/
def Stn.forget (t : Stn) (seq : Nat) : Stn :=
  { t with fetch := t.fetch.filter (fun f => f.seq != seq), tiles := t.tiles.filter (fun d => d.1 != seq) }

/-- Free the space of a sheet's planes, and end what moves or decodes them (R132). -/
def State.freePlanes (s : State) (seq : Nat) : State :=
  match s.sheet? seq with
  | some sh =>
    let bs := sh.planes.flatMap (fun p => p.blocks)
    let s1 := (s.freeBlocks bs).modSheet seq (fun x => { x with planes := x.planes.map (fun p => { p with blocks := [], freed := true }) })
    { s1 with dma := s1.dma.map (fun (e : Nat × DmaCh) => match e.2.plane with
                | some pl => if pl.1 = seq then (e.1, { e.2 with plane := none }) else e
                | none => e)
              stn := s1.stn.map (fun (e : Nat × Stn) => (e.1, e.2.forget seq)) }
  | none => s

/-- Whether a sheet is ADMITTED or later and not final. -/
def State.anyActive (s : State) : Bool := s.led.sheets.any (fun sh => sh.st.isActive)

/-- Start or stop the idle time of R49. -/
def State.idleUpdate (s : State) : State :=
  if s.anyActive then { s with led := { s.led with idleSince := none, idleDone := false } }
  else if s.led.idleSince.isNone then { s with led := { s.led with idleSince := some s.tick } } else s

/-- A committed, non-final sheet fails (R35, R36): it is final at once, with its reason and DETAIL. -/
def State.failSheet (s : State) (seq reason detail : Nat) : State :=
  match s.sheet? seq with
  | some sh =>
    if sh.st.inFlight then
      (((s.freePlanes seq).modSheet seq (fun x => { x with reason := reason, detail := detail })).enter seq .failed).idleUpdate
    else s
  | none => s

/-- A cause of R35 reaches a locked sheet: it fails, at its commit where it has not committed yet (R41); the first cause stands. -/
def State.loseSheet (s : State) (seq reason detail : Nat) : State :=
  match s.sheet? seq with
  | some sh =>
    if sh.st.inFlight then s.failSheet seq reason detail
    else if sh.locked then s.modSheet seq (fun x => { x with doom := (x.doom <|> some (reason, detail)) })
    else s
  | none => s

/-- Fail every committed, non-final sheet that a predicate picks, in sequence order. -/
def State.failAll (s : State) (p : Sheet → Bool) (reason detail : Nat) : State :=
  ((s.led.sheets.filter p).map (·.seq)).foldl (fun s q => s.failSheet q reason detail) s

/-- DETAIL of a sheet failed with SAFE_STATE: the message that started the safe state (R46, R418). -/
def State.safeDetail (s : State) : Nat :=
  s.fget FLT_SAFE_SAFE_SRC + s.fget FLT_SAFE_SAFE_KIND * 2 ^ 10 + s.fget FLT_SAFE_DETAIL_SAFE_DETAIL * 2 ^ 16

/-- DETAIL of a fault message (R46). -/
def msgDetail (src kind detail : Nat) : Nat := src % 1024 + kind % 64 * 2 ^ 10 + detail % 65536 * 2 ^ 16

/-- A sheet returns to SUBMITTED and its commit position is released (R42, R39). -/
def Sheet.reverted (sh : Sheet) : Sheet :=
  { sh with st := .submitted, pitchCode := none, commitPos := 0, effPitch := 0, awaiting := false, locked := false }

/-- Release the commit positions of a sheet (R39). -/
def State.releasePos (s : State) (seq : Nat) : State :=
  { s with led := { s.led with fixed := s.led.fixed.filter (fun e => e.1 != seq) } }

/-- Revert one sheet: its decoded data is discarded (R180) and the reversion is journaled. -/
def State.revertOne (s : State) (seq : Nat) : State :=
  let s1 := (s.releasePos seq).modSheet seq Sheet.reverted
  { s1 with stn := s1.stn.map (fun (e : Nat × Stn) => (e.1, e.2.forget seq)) }.journalSheet seq

/-- A sheet that R42 reverts: ADMITTED, or awaiting its record, and not locked. -/
def Sheet.revertible (sh : Sheet) : Bool := (decide (sh.st = SheetState.admitted) || sh.awaiting) && !sh.locked

/-- Revert a sheet and every higher-numbered ADMITTED sheet, in descending order (R42). -/
def State.revertFrom (s : State) (seq : Nat) : State :=
  (((s.led.sheets.filter (fun sh => sh.revertible && decide (seq ≤ sh.seq))).map (·.seq)).reverse.foldl State.revertOne s).idleUpdate

/-- Revert every sheet that is ADMITTED and not locked (R18, R418). -/
def State.revertAll (s : State) : State :=
  match s.led.sheets.find? Sheet.revertible with
  | some sh => s.revertFrom sh.seq
  | none => s

/-! ### Frames of the hand-off (R23 to R25) -/

/-- This controller's number (R22). -/
def State.ctrlNum (s : State) : Nat := s.fget SYS_STRAPS_CTRL_NUM

/-- The 46-byte payload of a hand-off frame (R24). -/
def hoBytes (f : HoFrame) : List Byte :=
  natToBytes f.version 1 ++ natToBytes f.typ 1 ++ natToBytes f.from_ 1 ++ natToBytes f.to_ 1 ++ natToBytes f.epoch 8 ++ natToBytes f.hnum 4
  ++ natToBytes f.seq 8 ++ natToBytes f.time 8 ++ natToBytes (if f.resync then 1 else 0) 1 ++ natToBytes f.status 1 ++ List.replicate 12 0

/-- The fields that the bytes of a payload spell (R24). -/
def hoParse (b : List Byte) : HoFrame :=
  let n := fun (at_ len : Nat) => bytesToNat ((b.drop at_).take len)
  ⟨n 0 1, n 1 1, n 2 1, n 3 1, n 4 8, n 12 4, n 16 8, n 24 8, n 32 1 % 2 == 1, n 33 1⟩

/-- The Ethernet broadcast address. -/
def ethBroadcast : Nat := 0xFFFFFFFFFFFF

/-- The frame that carries a payload (R23). -/
def State.hoEth (s : State) (f : HoFrame) : EthFrame := ⟨ethBroadcast, s.fget SYS_HANDOFF_ETHERTYPE, hoBytes f⟩

/-- The network service sends a frame on a port (R23). -/
def State.sendFrame (s : State) (port : Nat) (f : HoFrame) : State :=
  { s with ho := { s.ho with sentFrames := (port, s.hoEth f) :: s.ho.sentFrames } }

/-- The ACK of a hand-off frame, on the port on which it arrived (R24). Of FLAGS no echo is stated: it is 0 (log entry 15). -/
def State.hoAck (s : State) (port : Nat) (f : HoFrame) (status : Nat) : State :=
  s.sendFrame port ⟨1, 2, s.ctrlNum, f.from_, f.epoch, f.hnum, f.seq, f.time, false, status⟩

/-! ### Acknowledgement (R32) -/

/-- M of R32: the lowest live sheet that is not final, or NEXT_SEQ. -/
def State.ackBound (s : State) : Nat :=
  match s.led.sheets.find? (fun sh => !sh.st.isFinal) with
  | some sh => sh.seq
  | none => s.led.nextSeq

/-- Apply an acknowledgement (R32): final sheets numbered at or below min(N, M − 1) leave the ledger. -/
def State.applyAck (s : State) (n : Nat) : State :=
  if s.ackBound = 0 then s else
  let k := min n (s.ackBound - 1)
  let s1 := { s with led := { s.led with sheets := s.led.sheets.filter (fun sh => !(sh.st.isFinal && decide (sh.seq ≤ k))) } }
  if s.led.ack < k then
    ({ s1 with led := { s1.led with ack := k } }).stage (s1.plainRec 0x04 k 0)
  else s1

/-- An acknowledgement needs an ACK record (R32). -/
def State.ackNeeds (s : State) (n : Nat) : Bool := s.ackBound != 0 && decide (s.led.ack < min n (s.ackBound - 1))

/-- Apply held acknowledgements in order, as far as their records find room (R483). -/
def State.ackRun (s : State) : List Nat → State
  | [] => { s with led := { s.led with heldAcks := [] } }
  | n :: rest => if s.ackNeeds n ∧ 192 ≤ s.jrn.staged.length then { s with led := { s.led with heldAcks := n :: rest } } else (s.applyAck n).ackRun rest

/-- Apply the acknowledgements held by a compaction or a series (R49, R137), or for room (R483). -/
def State.applyHeldAcks (s : State) : State :=
  if s.jrn.compact.isNone ∧ s.host.series.isNone then s.ackRun s.led.heldAcks else s

/-! ### Compaction (R49) -/

/-- What a compaction stages after CKPT_BEGIN. -/
def State.ckptItems (s : State) : List CkptItem :=
  s.led.sheets.map (fun sh => .sheet sh.seq) ++ s.ho.newest.map (fun e => .handoff e.1) ++ [.close]

/-- Stage one record of the running compaction. -/
def State.compactOne (s : State) (j : Nat) (item : CkptItem) (rest : List CkptItem) : State :=
  match item with
  | .start =>
    let s1 := s.stage (s.plainRec 0x10 s.led.ack (s.ckptItems.length - 1))
    { s1 with jrn := { s1.jrn with compact := some (s.jrn.jseq, s.ckptItems) } }
  | .sheet seq =>
    let s0 := { s with jrn := { s.jrn with compact := some (j, rest) } }
    match s.sheet? seq with
    | some sh => s0.stage { (sh.lastRec.getD (s.sheetRec 0x01 sh)) with typ := 0x11, aux := 0, tell := false }
    | none => s0
  | .handoff k =>
    let s0 := { s with jrn := { s.jrn with compact := some (j, rest) } }
    match kvGet s.ho.newest k with
    | some r => s0.stage { r with limit := s.fget LEDG_LIMITER_CODE, deg := s.degraded, tell := false }
    | none => s0
  | .close =>
    let s0 := { s with jrn := { s.jrn with compact := none } }
    (s0.stage (s.plainRec 0x12 s.led.nextSeq j)).applyHeldAcks

/-- Stage what a running compaction can: only while fewer than 192 records are staged (R483). -/
def State.compactPump (s : State) : Nat → State
  | 0 => s
  | k + 1 =>
    match s.jrn.compact with
    | some (j, item :: rest) => if s.jrn.staged.length < 192 then (s.compactOne j item rest).compactPump k else s
    | _ => s

/-- Start a compaction; a request while one runs is ignored (R49). -/
def State.compactStart (s : State) : State :=
  if s.jrn.compact.isSome ∨ s.bit LEDG_STATUS_COMPACTING then s
  else ({ s with jrn := { s.jrn with compact := some (0, [.start]) } }.fset LEDG_STATUS_COMPACTING 1).compactPump 193

/-! ### The ring (R48, R49) -/

/-- The block of a ring slot. -/
def blockOf (slot : Nat) : Nat := slot / 1024

/-- The next usable block in ring order (R48). -/
def nextBlock (retired : List Nat) (b : Nat) : Nat → Nat
  | 0 => (b + 1) % 512
  | k + 1 => if retired.contains ((b + 1) % 512) then nextBlock retired ((b + 1) % 512) k else (b + 1) % 512

/-- The slot after a programmed one. -/
def Journal.advance (j : Journal) : Nat :=
  if (j.writer + 1) % 1024 = 0 then nextBlock j.retired (blockOf j.writer) 512 * 1024 else j.writer + 1

/-- The block of the oldest record, where the ring holds no complete checkpoint (R49). -/
def Journal.oldestBlock (j : Journal) : Nat :=
  match j.ring.foldl (fun (m : Option (Nat × Nat)) e => match m with
      | none => some (e.2.jseq, e.1)
      | some b => if e.2.jseq < b.1 then some (e.2.jseq, e.1) else some b) none with
  | some b => blockOf b.2
  | none => blockOf j.writer

/-- BLOCKS_USED (R49): the usable blocks from the first not released to the one being written, and those whose erase has not
ended. -/
def Journal.blocksUsed (j : Journal) : Nat :=
  if j.ring = [] then 0 else
  let b0 := j.ckptBlock.getD j.oldestBlock
  let n := (blockOf j.writer + 512 - b0) % 512 + 1
  ((List.range n).filter (fun i => !j.retired.contains ((b0 + i) % 512) && !j.erasing.contains ((b0 + i) % 512))).length
    + j.erasing.length

/-- More than 75 % of the usable blocks hold records not released (R49). -/
def State.compactDue (s : State) : Bool := 75 * (512 - s.jrn.retired.length) < 100 * s.jrn.blocksUsed

/-- CKPT_END has been programmed: the blocks that lie wholly before its CKPT_BEGIN are released (R48, R49). -/
def State.ckptComplete (s : State) (j : Nat) : State :=
  match s.jrn.ring.find? (fun e => e.2.jseq == j && e.2.good) with
  | some e =>
    let b0 := s.jrn.ckptBlock.getD s.jrn.oldestBlock
    let n := (blockOf e.1 + 512 - b0) % 512
    let rel := ((List.range n).map (fun i => (b0 + i) % 512)).filter (fun b => !s.jrn.retired.contains b)
    { s with jrn := { s.jrn with ckptBlock := some (blockOf e.1), erasing := s.jrn.erasing ++ rel } }.fset LEDG_STATUS_COMPACTING 0
  | none => s.fset LEDG_STATUS_COMPACTING 0

/-- A program whose verify fails (R48): the record is written again in the next slot; a third failure retires the block. -/
def State.programFailed (s : State) (r : JRec) : State :=
  let b := blockOf s.jrn.writer
  let ring := kvSet s.jrn.ring s.jrn.writer { r with good := false }
  if s.jrn.fails + 1 < 3 then
    { s with jrn := { s.jrn with ring := ring, fails := if (s.jrn.writer + 1) % 1024 = 0 then 0 else s.jrn.fails + 1, writer := s.jrn.advance } }
  else
    ({ s with jrn := { s.jrn with ring := ring, fails := 0, retired := s.jrn.retired ++ [b],
                                  writer := nextBlock (s.jrn.retired ++ [b]) b 512 * 1024 } }.flag
      LEDG_STATUS_JOURNAL_ERR).sendFaultC 0x006 0x02 b 1

/-- A programmed STATE record is journaled in GUARANTEE_DEGRADED (R45): the sheet of the ADMITTED record that it awaits becomes ADMITTED
(R55), and the change that the record holds is reported. -/
def State.admitProgrammed (s : State) (r : JRec) : State :=
  match s.sheet? r.seq with
  | some sh =>
    if sh.awaiting ∧ r.st = 2 ∧ sh.lastRec.map (fun (x : JRec) => x.jseq) = some r.jseq then
      ((s.modSheet r.seq (fun x => { x with st := .admitted, awaiting := false })).report r).idleUpdate
    else if r.tell then s.report r else s
  | none => s

/-- The acknowledgement that waits for a HANDOFF record is sent once it is programmed (R25, R45). -/
def State.payAck (s : State) (jseq : Nat) : State :=
  (s.ho.owedAcks.filter (fun e => e.1 == jseq)).foldl (fun s e => s.hoAck e.2.1 e.2.2 0)
    { s with ho := { s.ho with owedAcks := s.ho.owedAcks.filter (fun e => e.1 != jseq) } }

/-- The head record of the staging area has been programmed and verified. -/
def State.programGood (s : State) (r : JRec) : State :=
  let enterNew := (s.jrn.writer + 1) % 1024 = 0
  let s1 := { s with jrn := { s.jrn with ring := kvSet s.jrn.ring s.jrn.writer { r with good := true, tell := false }
                                         staged := s.jrn.staged.tail
                                         fails := if enterNew then 0 else s.jrn.fails
                                         writer := s.jrn.advance } }
  if r.typ = 0x01 then (s1.admitProgrammed r).payOwed r.jseq
  else if r.typ = 0x07 then s1.payAck r.jseq
  else if r.typ = 0x12 then s1.ckptComplete r.aux
  else s1

/-- Program the slots of a page in order, each with the outcome of its verify; a block whose erase has not ended is waited
for (R48). -/
def State.programSlots (s : State) : List Bool → State
  | [] => s
  | ok :: rest =>
    match s.jrn.staged with
    | [] => s
    | r :: _ =>
      if s.jrn.erasing.contains (blockOf s.jrn.writer) then s
      else (if ok then s.programGood r else s.programFailed r).programSlots rest

/-! ### GUARANTEE_DEGRADED (R55) -/

/-- The causes of R55. -/
def State.degradedCause (s : State) : Bool :=
  (!s.bit SYS_STATUS_BACKUP_OK && s.bit LEDG_CTRL_DEGRADED_OK && !s.led.sheets.isEmpty) || decide (32 < s.jrn.retired.length)

/-- Enter GUARANTEE_DEGRADED where a cause stands, and keep the time since which none does (R55). -/
def State.degradedUpdate (s : State) : State :=
  if s.degradedCause then
    let s0 := { s with led := { s.led with clearSince := none } }
    if s.degraded then s0 else (s0.fset LEDG_STATUS_GUARANTEE_DEGRADED 1).stage ((s0.fset LEDG_STATUS_GUARANTEE_DEGRADED 1).plainRec 0x06 0 1)
  else if s.degraded ∧ s.led.clearSince.isNone then { s with led := { s.led with clearSince := some s.tick } } else s

/-! ### Boundary of a sheet (R114, R169, R117) -/

/-- What a pipeline holds of the planes that have no open window is dropped where another takes its station over: that one fetches them anew (R180,
R201). -/
def Stn.dropAhead (t : Stn) : Stn :=
  { t with fetch := t.fetch.filter (fun f => t.windows.any (fun w => w.seq == f.seq)),
           tiles := t.tiles.filter (fun d => t.windows.any (fun w => w.seq == d.1)) }

/-- The slots once the sheet boundary of a move or a return of STNX has come: where the loads are complete too, the station's next pipeline fetches
what it will produce. -/
def State.stnxReadyStn (s : State) : List (Nat × Stn) :=
  if s.stnx.loaded && !s.stnx.atWindow then
    let n := match s.stnx.moveReq with | some n => n | none => s.fget STNX_STATUS_SERVES
    s.stn.map (fun (e : Nat × Stn) => if e.1 = n ∧ (s.stnx.moveReq.isSome ∨ s.stnx.returnReq = true) then (e.1, e.2.dropAhead) else e)
  else s.stn

/-- A sheet boundary: the B fields of PLC and DRAMC take effect, and the boundary moves that wait come due; an engine that was slow in an
earlier interval only is slow no longer (R115), and so a class E axis (R307). -/
def State.sheetBoundary (s : State) (seq : Nat) : State :=
  let s1 := s.applyShadow ([PLC_CTRL_RETIRE_EN, PLC_CTRL_SLOW_EN] ++ (List.range 7).map DRAMC_RSVp_RSV)
  { s1 with ex := { s1.ex with moves := s1.ex.moves.filterMap (fun (m : Nat × (Bool × Bool)) => if m.2.1 && m.2.2 then none else some (m.1, (m.2.1, true))), boundarySeq := seq }
            axs := s1.axs.map (fun (e : Nat × AxsSt) => (e.1, { e.2 with lagged := false }))
            stnx := { s1.stnx with atWindow := s1.stnx.atWindow || s1.stnx.moveReq.isSome || s1.stnx.returnReq }
            stn := s1.stnxReadyStn }

end Sys2Proof.Machine
end

