-- ==== Sys2Proof/Machine/Ledger.lean ====
section
/-! DEFINITION. The events of the ledger and of its journal (R36, R41, R44, R48, R49, R55, R56). -/

namespace Sys2Proof.Machine

/-- Micrometres in PPOS units, to the nearest unit (R40): 1 unit is 25.4 mm / 157,286,400. -/
def umUnits (um : Nat) : Int := (2 * 786432 * um + 127 : Nat) / (254 : Nat)

/-- PPOS at STN0 (R39, R41). -/
def State.pos0 (s : State) : Int := s.belt - s.ofsOf 0

/-- A class C safe state is in force (R37, R41). -/
def State.safe (s : State) : Bool := s.bit FLT_STATUS_SAFE

/-- The safe state covers the imaging region, or the control region (R419): SCOPE 1 is full, 2 imaging, 3 control. -/
def State.safeImg (s : State) : Bool := s.safe && s.fget FLT_STATUS_SCOPE != 3
def State.safeCtl (s : State) : Bool := s.safe && s.fget FLT_STATUS_SCOPE != 2

/-- PPOS units per line at a station (R172). -/
def State.lineUnits (s : State) (n : Nat) : Nat := if s.bit (STNn_PL_CFG_RES n) then 65536 else 131072

/-- k of R172: output pixels and lines per input sample of a plane entry. -/
def State.planeK (s : State) (e : PlaneEntry) : Nat :=
  let st := if s.bit (STNn_PL_CFG_RES e.station) then 2400 else 1200
  if e.res = 1 then st / 600 else if e.res = 2 then st / 1200 else 1

/-- n of R172: the plane's lines at station resolution. -/
def State.planeLines (s : State) (e : PlaneEntry) : Nat := e.lines * s.planeK e

/-- The image length of R36: the belt distance of the longest plane. -/
def State.imageLength (s : State) (sh : Sheet) : Nat :=
  sh.planes.foldl (fun m p => max m (s.planeLines p.entry * s.lineUnits p.entry.station)) 0

/-- A sheet that locks while a needed channel coasts (R286), or commits while a needed channel runs on its observer after an
encoder loss (R288), has a defect counted; DETAIL keeps the message of the first. -/
def State.drvDefect (s : State) (seq : Nat) (commit : Bool) : State :=
  (List.range 8).foldl (fun s n =>
    if s.needed.contains n = false then s
    else if s.fget (DRVn_STATUS_STATE n) = 8 then
      s.modSheet seq (fun sh => if sh.defect then sh else
        { sh with defect := true, detail := msgDetail (0x141 + 2 * n) 0x11 (s.fget (DRVn_COUNT_RECATCH n)) })
    else match kvGet s.drv n with
      | some d =>
        if commit ∧ d.fallback = true ∧ s.bit (DRVn_STATUS_ENC_LOST n) = true then
          { s.modSheet seq (fun sh => if sh.defect then sh else { sh with defect := true, detail := msgDetail (0x141 + 2 * n) 0x10 d.lossCause })
            with drv := kvSet s.drv n { d with counted := d.counted ++ [seq] } }
        else s
      | none => s) s

/-- The causes that stand at the commit of a sheet (R35, R41): one that reached the ledger after the lock, and a station with an open window
of the sheet whose head is HOT (R269) or whose SOS is LOST (R231). -/
def State.commitCauses (s : State) (sh : Sheet) : List (Nat × Nat) :=
  sh.doom.toList ++ (List.range 6).flatMap (fun n => match kvGet s.stn n with
    | some t =>
      if t.windows.any (fun w => w.seq == sh.seq) then
        (if s.bit (STNn_HD_STATUS_HOT n) then [(3, t.head.hotDetail)] else [])
        ++ (if s.bit (STNn_PL_CFG_KIND n) = false ∧ s.bit (STNn_SC_STATUS_LOST n) = true then [(4, t.scan.lostDetail)] else [])
      else []
    | none => [])

/-- The cause of the lowest code (R35). -/
def State.commitCause (s : State) (sh : Sheet) : Option (Nat × Nat) :=
  (s.commitCauses sh).foldl (fun m c => match m with
    | some b => if c.1 < b.1 then some c else some b
    | none => some c) none

/-- SHEET_COMMIT (R36, R41): PPOS at STN0 crosses the commit position. In a safe state the sheet then fails at once, its
COMMITTED record journaled and reported first. The crossing is a sheet boundary (R114). -/
def execSheetCommit (seq : Nat) (s : State) : Host.Outcome State Fault Refusal :=
  .next (match s.sheet? seq with
    | some sh =>
      if s.beltRuns ∧ sh.st = .admitted ∧ sh.commitPos ≤ s.pos0 then
        let s1 := ((s.modSheet seq (fun x => { x with locked := true })).enter seq .committed).drvDefect seq true
        let s2 := if s.safe then s1.failSheet seq 5 s1.safeDetail
          else match s1.commitCause sh with
            | some c => s1.failSheet seq c.1 c.2
            | none => s1
        s2.sheetBoundary seq
      else s
    | none => s)

/-- SHEET_TRANSFERRED (R36): PPOS at STN0 crosses the commit position + XFER_DIST + image length. -/
def execSheetTransferred (seq : Nat) (s : State) : Host.Outcome State Fault Refusal :=
  .next (match s.sheet? seq with
    | some sh =>
      if s.beltRuns ∧ sh.st = .exposed
          ∧ sh.commitPos + umUnits (s.fget LEDG_XFER_DIST_XFER_DIST) + (s.imageLength sh : Int) ≤ s.pos0 then
        s.enter seq .transferred
      else s
    | none => s)

/-! ### Declarations (R56) -/

/-- A declaration is refused: the class A message of the ledger names the event and the case. -/
def State.refuseDeclare (s : State) (ev case : Nat) : State :=
  (s.flag LEDG_STATUS_DECLARE_REFUSED).sendFault 0x006 0x01 (ev + 16 * case)

/-- A defect of R36 has been counted for the sheet. -/
def Sheet.defective (sh : Sheet) : Bool := sh.defect || sh.blank.any (fun b => b != 0)

/-- The final delivery (R36): DETAIL and the blank counts stand as counted; the planes' space is freed (R132). -/
def State.deliver (s : State) (seq : Nat) (sh : Sheet) : State :=
  ((s.freePlanes seq).enter seq (if sh.defective then .deliveredDefect else .delivered)).idleUpdate

/-- A write of LEDG_DECLARE (R56), for the live sheet whose low 32 bits are those of DECLARE_SEQ. Of the cases that hold the first of the
rule's list is reported: an event of R36 that the sheet's state does not admit is out of order, whether the sheet is final or not. -/
def State.declare (s : State) (ev : Nat) : State :=
  if ev = 0 then s else
  match s.led.sheets.find? (fun sh => sh.seq % 2 ^ 32 == s.fget LEDG_DECLARE_SEQ_DECLARE_SEQ) with
  | none => s.refuseDeclare ev 0
  | some sh =>
    if 4 ≤ ev then s.refuseDeclare ev (if sh.st.isFinal then 2 else 3)
    else if ev = 1 then (if sh.st = .transferred then s.enter sh.seq .fused else s.refuseDeclare ev 1)
    else if ev = 2 then (if sh.st = .fused then s.deliver sh.seq sh else s.refuseDeclare ev 1)
    else if sh.st.inFlight then
      (s.failSheet sh.seq 7 (msgDetail 0x007 1 (sh.seq % 65536))).sendFaultC 0x007 0x01 (sh.seq % 65536) 2
    else s.refuseDeclare ev 1

/-- DECLARE_FUSED (R56). -/
def execDeclareFused (s : State) : Host.Outcome State Fault Refusal := .next (s.declare 1)

/-- DECLARE_DELIVERED (R56). -/
def execDeclareDelivered (s : State) : Host.Outcome State Fault Refusal := .next (s.declare 2)

/-- DECLARE_JAM (R56): an accepted jam is also the class C fault of source 0x007. -/
def execDeclareJam (s : State) : Host.Outcome State Fault Refusal := .next (s.declare 3)

/-! ### The journal -/

/-- What still runs in backup operation once the flush has ended: RAIL (R376). -/
def keepRail (a : Nat) : Bool := railAddr a

/-- A flush that was waited for ends once nothing is staged. In backup operation, or for a hibernate, FLUSH_DONE is set unless VBACK
fell below 2.7 V before, and everything but RAIL, the REF oscillator and the AON domain is powered down (R376, R380); a reset is
released where RESET_N is high (R386). -/
def State.flushEnd (s : State) : State :=
  if s.jrn.staged = [] then
    match s.power.phase with
    | .backup soft false =>
      let s1 := (if s.power.flushLost then s else s.fset SYS_RESET_CAUSE_FLUSH_DONE 1).powerDown keepRail
      { s1 with power := { s1.power with phase := .backup soft true } }
    | .reset => if s.power.pinLow then s else { s with power := { s.power with bootAt := s.tick } }
    | _ => s
  else s

/-- After a change of the staging area: a compaction goes on, a due one starts, degraded mode follows its causes (R49, R55); outside
a run of the controller the flusher only flushes what is staged (R44, R50, R376). -/
def State.journalPump (s : State) : State :=
  if s.power.phase = .run then
    let s1 := (s.compactPump 192).applyHeldAcks.degradedUpdate
    if s1.compactDue then s1.compactStart else s1
  else s.flushEnd

/-- JOURNAL_PAGE_PROGRAMMED (R44, R48, R55): the flusher programs up to four staged records, in staging order, each slot with
the outcome of its verify. -/
def execJournalPageProgrammed (good : List Bool) (s : State) : Host.Outcome State Fault Refusal :=
  .next (s.programSlots (good.take 4)).journalPump

/-- JOURNAL_BLOCK_ERASED (R48): the first released block in ring order is erased. -/
def execJournalBlockErased (s : State) : Host.Outcome State Fault Refusal :=
  .next (match s.jrn.erasing with
    | b :: rest =>
      { s with jrn := { s.jrn with erasing := rest, ring := s.jrn.ring.filter (fun e => blockOf e.1 != b) } }
    | [] => s)

/-- COMPACT_NOW (R49). -/
def execCompactNow (s : State) : Host.Outcome State Fault Refusal := .next s.compactStart

/-- IDLE_COMPACT (R49): IDLE_COMPACT ms have passed with no sheet ADMITTED or later; 0 disables it. -/
def execIdleCompact (s : State) : Host.Outcome State Fault Refusal :=
  .next (match s.led.idleSince with
    | some t =>
      if s.led.idleDone = false ∧ s.fget LEDG_IDLE_COMPACT_IDLE_COMPACT ≠ 0
          ∧ t + msTicks (s.fget LEDG_IDLE_COMPACT_IDLE_COMPACT) ≤ s.tick then
        { s with led := { s.led with idleDone := true } }.compactStart
      else s
    | none => s)

/-- DEGRADED_EXIT (R55): both causes absent for 1 s and no record staged. -/
def execDegradedExit (s : State) : Host.Outcome State Fault Refusal :=
  .next (match s.led.clearSince with
    | some t =>
      if s.degraded ∧ s.degradedCause = false ∧ t + msTicks 1000 ≤ s.tick ∧ s.jrn.staged = [] then
        let s1 := { s with led := { s.led with clearSince := none } }.fset LEDG_STATUS_GUARANTEE_DEGRADED 0
        s1.stage (s1.plainRec 0x06 0 0)
      else s
    | none => s)

end Sys2Proof.Machine
end

