-- ==== Sys2Proof/Machine/Pixel.lean ====
section
/-! DEFINITION. What a pipeline computes: tiles, screening, shim correction, calibration, splice and packing (R171 to R193). -/

namespace Sys2Proof.Machine

/-! ### Tiles (R174 to R179) -/

/-- Bits of a sample (R181). -/
def fmtBits (format : Nat) : Nat := if format = 1 then 8 else if format = 2 then 1 else if format = 3 then 2
  else if format = 4 then 4 else 2

/-- Bytes of a tile line: 128 samples (R175). -/
def tileLineBytes (format : Nat) : Nat := 16 * fmtBits format

/-- Run tokens (R177) that must produce exactly `need` bytes; the decoded bytes and the rest of the body. -/
def runTokens : Nat → Nat → List Byte → Option (List Byte × List Byte)
  | 0, need, inp => if need = 0 then some ([], inp) else none
  | fuel + 1, need, inp =>
    if need = 0 then some ([], inp) else
    match inp with
    | [] => none
    | t :: rest =>
      let k := t.toNat % 128 + 1
      if need < k then none
      else if t.toNat < 128 then
        if rest.length < k then none
        else (runTokens fuel (need - k) (rest.drop k)).map (fun r => (rest.take k ++ r.1, r.2))
      else
        match rest with
        | [] => none
        | b :: rest' => (runTokens fuel (need - k) rest').map (fun r => (List.replicate k b ++ r.1, r.2))

/-- One line coding of R177: the decoded line and the rest of the body. -/
def lineCoding (lb : Nat) (prev : Option (List Byte)) : List Byte → Option (List Byte × List Byte)
  | [] => none
  | c :: rest =>
    if c = 0 then (if rest.length < lb then none else some (rest.take lb, rest.drop lb))
    else if c = 1 then prev.map (fun p => (p, rest))
    else if c = 2 then runTokens lb lb rest
    else if c = 3 then
      (runTokens lb lb rest).map (fun x => (x.1.zipWith (fun a b => a ^^^ b) (prev.getD (List.replicate lb 0)), x.2))
    else none

/-- The line codings of a tile use the body exactly (R177). -/
def codedLines (lb : Nat) : Nat → Option (List Byte) → List Byte → Option (List Byte)
  | 0, _, inp => if inp = [] then some [] else none
  | k + 1, prev, inp =>
    match lineCoding lb prev inp with
    | none => none
    | some (line, rest) => (codedLines lb k (some line) rest).map (fun r => line ++ r)

/-- A tile's header (R176): its mode, fill, place, body length and check. -/
structure TileHdr where
  mode : Nat
  fill : Byte
  col : Nat
  row : Nat
  bodyLen : Nat
  check : Nat
  deriving DecidableEq, Repr

/-- The header of the first 16 bytes. -/
def tileHdr (b : List Byte) : TileHdr :=
  ⟨(b.getD 0 0).toNat, b.getD 1 0, bytesToNat ((b.drop 2).take 2), bytesToNat ((b.drop 4).take 4),
   bytesToNat ((b.drop 8).take 4), bytesToNat ((b.drop 12).take 4)⟩

/-- A header's fields are valid for a tile of `h` lines of `lb` bytes at this place (R176, R179). -/
def TileHdr.ok (t : TileHdr) (lb h col row : Nat) : Bool :=
  t.col == col && t.row == row
  && ((t.mode == 0xB1 && t.fill == 0 && t.bodyLen == h * lb)
      || (t.mode == 0xB2 && t.fill == 0 && decide (1 ≤ t.bodyLen) && decide (t.bodyLen < h * lb))
      || (t.mode == 0xB3 && t.bodyLen == 0))

/-- The decoded bytes of a tile, or none for a tile error (R179). -/
def decodeTile (t : TileHdr) (body : List Byte) (lb h : Nat) : Option (List Byte) :=
  let d := if t.mode = 0xB1 then some body
    else if t.mode = 0xB3 then some (List.replicate (h * lb) t.fill)
    else codedLines lb h none body
  match d with
  | some bytes => if crc32 bytes = t.check then some bytes else none
  | none => none

/-- Tile columns and rows of a plane entry (R174). -/
def tileCols (e : PlaneEntry) : Nat := (e.width + 127) / 128
def tileRows (e : PlaneEntry) : Nat := (e.lines + 63) / 64

/-- Lines of a tile (R174). -/
def tileH (e : PlaneEntry) (row : Nat) : Nat := if row + 1 = tileRows e then e.lines - 64 * row else 64

/-- Sample `i` of `b` bits of a tile line (R175). -/
def sampleAt (line : List Byte) (b i : Nat) : Nat := (line.getD (i * b / 8) 0).toNat / 2 ^ (b * (i % (8 / b))) % 2 ^ b

/-! ### Stations as the registers describe them -/

/-- A station slot's pipeline, head link and head. -/
def State.stnOf (s : State) (n : Nat) : Stn := (kvGet s.stn n).getD Stn.new

/-- Change a station slot. -/
def State.modStn (s : State) (n : Nat) (f : Stn → Stn) : State := { s with stn := kvSet s.stn n (f (s.stnOf n)) }

/-- The slot with the tables of the pipeline that produces a plane: its own, or those of STNX (R201). -/
def State.tabs (s : State) (n : Nat) (x : Bool) : Stn := if x then { s.stnOf n with tables := s.stnx.tables } else s.stnOf n

/-- Whether a slot is a bar station, its pixels or emitters N, and its beams B (R190, R204). -/
def State.isBar (s : State) (n : Nat) : Bool := s.bit (STNn_PL_CFG_KIND n)
/-- The 50 kΩ pull-up of STNn_SOS is on while the slot is a bar station, whose head drives the ball open-drain (R467). -/
def State.sosPullUp (s : State) (n : Nat) : Bool := s.bit (STNn_PL_CFG_KIND n)
def State.stnN (s : State) (n : Nat) : Nat := s.fget (STNn_PL_WIDTH_N n)
def State.stnB (s : State) (n : Nat) : Nat := 4 * (s.fget (STNn_PL_CFG_BEAMS_Q n) + 1)

/-- A byte of a table; a table that was never loaded holds zeros (R195). -/
def Stn.tbl (t : Stn) (k i : Nat) : Nat := (((kvGet t.tables k).getD []).getD i 0).toNat

/-- A little-endian word of a table. -/
def Stn.tblWord (t : Stn) (k i : Nat) : Nat :=
  t.tbl k (4 * i) + 2 ^ 8 * t.tbl k (4 * i + 1) + 2 ^ 16 * t.tbl k (4 * i + 2) + 2 ^ 24 * t.tbl k (4 * i + 3)

/-! ### Screening and mapping (R181 to R183) -/

/-- The level of a CT8 sample under screen `c` at plane pixel (x, y) (R182). -/
def State.screenLevel (s : State) (n : Nat) (t : Stn) (c : Nat) (x y : Nat) (v : Nat) : Nat :=
  let w := s.fget (STNn_PL_SCRc_GEOM_W_M1 n c) + 1
  let h := s.fget (STNn_PL_SCRc_GEOM_H_M1 n c) + 1
  let yy := y + s.fget (STNn_PL_SCRc_ORG_Y0 n c)
  let cx := (x + s.fget (STNn_PL_SCRc_ORG_X0 n c) + yy / h * s.fget (STNn_PL_SCRc_GEOM_SHIFT n c)) % w
  let i := (v + 255 - t.tbl c (128 + yy % h * w + cx)) / 2
  if i % 2 = 0 then t.tbl c (i / 2) % 16 else t.tbl c (i / 2) / 16

/-- The screen that a tag selects, or DEF_SCREEN without a tag plane (R181, R182). -/
def State.screenOf (s : State) (n : Nat) : Option Nat → Nat
  | none => s.fget (STNn_PL_SCREEN_DEF_SCREEN n)
  | some 0 => s.fget (STNn_PL_SCREEN_TAG_MAP0 n)
  | some 1 => s.fget (STNn_PL_SCREEN_TAG_MAP1 n)
  | some 2 => s.fget (STNn_PL_SCREEN_TAG_MAP2 n)
  | some _ => s.fget (STNn_PL_SCREEN_TAG_MAP3 n)

/-- The level of a sample of an HT format (R181). -/
def State.htLevel (s : State) (n format v : Nat) : Nat :=
  if format = 4 then v
  else if format = 3 then
    (if v = 0 then s.fget (STNn_PL_HTMAP_HT2_L0 n) else if v = 1 then s.fget (STNn_PL_HTMAP_HT2_L1 n)
     else if v = 2 then s.fget (STNn_PL_HTMAP_HT2_L2 n) else s.fget (STNn_PL_HTMAP_HT2_L3 n))
  else if v = 0 then 0 else s.fget (STNn_PL_HTMAP_HT1_ON n)

/-- An input sample of a plane, where its tile has been decoded. -/
def Stn.input (t : Stn) (seq plane : Nat) (e : PlaneEntry) (xi yi : Nat) : Option Nat :=
  let k := yi / 64 * tileCols e + xi / 128
  match t.tiles.find? (fun d => d.1 == seq && d.2.1 == plane && d.2.2.1 == k) with
  | some d =>
    let lb := tileLineBytes e.format
    some (sampleAt ((d.2.2.2.drop (yi % 64 * lb)).take lb) (fmtBits e.format) (xi % 128))
  | none => none

/-- V(x, y) of R185: the stage-2 level at a plane pixel, 0 outside the plane; none while its tile is not decoded. -/
def State.level (s : State) (n : Nat) (w : Win) (x y : Int) : Option Nat :=
  let k := s.planeK w.entry
  if x < 0 ∨ y < 0 ∨ (w.entry.width * k : Int) ≤ x ∨ (w.n : Int) ≤ y then some 0 else
  let t := s.tabs n w.x
  let xi := x.toNat / k
  let yi := y.toNat / k
  match t.input w.seq w.plane w.entry xi yi with
  | none => none
  | some v =>
    if w.entry.format = 1 then
      match w.tag with
      | none => some (s.screenLevel n t (s.screenOf n none) x.toNat y.toNat v)
      | some tg =>
        (t.input w.seq tg { w.entry with format := 8 } xi yi).map
          (fun g => s.screenLevel n t (s.screenOf n (some g)) x.toNat y.toNat v)
    else some (s.htLevel n w.entry.format v)

/-! ### Shim correction (R184, R185) -/

/-- PROC and SCAN of a segment in the bank of a window. -/
def Stn.proc (t : Stn) (bank k : Nat) : Int := sext 12 (t.tblWord (8 + bank) k / 2 ^ 16 % 2 ^ 12)
def Stn.scanOff (t : Stn) (bank k : Nat) : Int := sext 13 (t.tblWord (8 + bank) k % 2 ^ 13)

/-- The line a of R185 of an output line in a segment. -/
def sourceLine (p : Int) (l : Int) : Int := l + p / 16

/-- The level of output pixel `sp` of output line `l` (R185); none while a sample it needs is not decoded. -/
def State.warp (s : State) (n : Nat) (w : Win) (sp : Nat) (l : Int) : Option Nat :=
  let t := s.tabs n w.x
  let k := 64 * sp / s.stnN n
  let p := t.proc w.shim k
  let so := t.scanOff w.shim k
  let j : Int := (sp : Int) - s.fget (STNn_PL_XORG_XORG n) + so / 64
  if s.bit (STNn_PL_CTRL_INTERP n) then
    let f := (p % 16).toNat
    let g := if s.isBar n then (so % 64).toNat else 0
    let a := l + p / 16
    let u := fun (x : Int) => match s.level n w x a, s.level n w x (a + 1) with
      | some v0, some v1 => some ((v0 * (16 - f) + v1 * f + 8) / 16)
      | _, _ => none
    match u j, u (j + 1) with
    | some u0, some u1 => some ((u0 * (64 - g) + u1 * g + 32) / 64)
    | _, _ => none
  else
    let j' : Int := if s.isBar n then (sp : Int) - s.fget (STNn_PL_XORG_XORG n) + (so + 32) / 64 else j
    s.level n w j' (l + (p + 8) / 16)

/-- Whether the line a of a pixel lies inside the plane (R185, R186). -/
def State.owns (s : State) (n : Nat) (w : Win) (sp : Nat) (l : Int) : Bool :=
  let a := sourceLine ((s.tabs n w.x).proc w.shim (64 * sp / s.stnN n)) l
  decide (0 ≤ a ∧ a < (w.n : Int))

/-- Whether, for any segment, an output line's source line, a + 1 of R185, lies inside the plane (R173). -/
def State.anySource (s : State) (n : Nat) (w : Win) (l : Int) : Bool :=
  (List.range 64).any (fun k =>
    let a := sourceLine ((s.tabs n w.x).proc w.shim k) l + 1
    decide (0 ≤ a ∧ a < (w.n : Int)))

/-! ### Calibration, shading and splice (R187 to R189) -/

/-- CAL[e][level] (R187): bits [6i + 5 : 6i] of the 12 bytes of the emitter. -/
def Stn.cal (t : Stn) (e level : Nat) : Nat :=
  (t.tbl 16 (12 * e + 6 * level / 8) + 256 * t.tbl 16 (12 * e + 6 * level / 8 + 1)) / 2 ^ (6 * level % 8) % 64

/-- SHD[z][level] (R188). -/
def Stn.shd (t : Stn) (bank z level : Nat) : Nat := t.tbl (10 + bank) (8 * z + level / 2) / 2 ^ (4 * (level % 2)) % 16

/-- The entries of a splice bank (R189): emitter, WL, WR, up to the first word with VALID = 0. -/
def Stn.spliceEntries (t : Stn) (bank : Nat) : List (Nat × Nat × Nat) :=
  (((List.range 512).map (fun i => t.tblWord (12 + bank) i)).takeWhile (fun w => decide (2 ^ 31 ≤ w))).map
    (fun w => (w % 2 ^ 16, w / 2 ^ 16 % 32, w / 2 ^ 21 % 32))

/-- Stage 5 for one emitter (R189). -/
def spliceCode (es : List (Nat × Nat × Nat)) (c : List Nat) (m : Nat) : Nat :=
  if es.any (fun e => e.1 == m) then 0
  else min 63 (c.getD m 0 + ((es.filter (fun e => e.1 == m + 1)).map (fun e => (c.getD e.1 0 * e.2.1 + 8) / 16)).sum
    + ((es.filter (fun e => e.1 + 1 == m)).map (fun e => (c.getD e.1 0 * e.2.2 + 8) / 16)).sum)

/-- The windows of a line with the output line each serves, oldest first: the level of a pixel and the window it comes from
(R186); none while undecoded. -/
def State.merged (s : State) (n : Nat) (ws : List (Win × Int)) (sp : Nat) : Option (Nat × Option Win) :=
  match ws.find? (fun w => s.owns n w.1 sp w.2) with
  | some w => (s.warp n w.1 sp w.2).map (fun v => (v, some w.1))
  | none => some (0, none)

/-- A later plane whose pixel an earlier plane takes as well (R186): its line counts as late data. -/
def State.overlapped (s : State) (n : Nat) (ws : List (Win × Int)) : List Nat :=
  (ws.drop 1).filterMap (fun w =>
    if (List.range (s.stnN n)).any (fun sp => s.owns n w.1 sp w.2 &&
        (ws.takeWhile (fun v => v.1.seq != w.1.seq)).any (fun v => s.owns n v.1 sp v.2)) then some w.1.seq else none)

/-- The codes of a line by stages 1 to 5: a code for each pixel or emitter, none where a tile is not decoded yet. A pixel that no plane owns
has level 0 and the banks of the oldest window. -/
def State.lineCodes (s : State) (n : Nat) (ws : List (Win × Int)) : List (Option Nat) :=
  let nn := s.stnN n
  let first := ws.head?.map (fun w => w.1)
  let lv := (List.range nn).map (fun sp => ((s.merged n ws sp).map (fun v => (v.1, v.2 <|> first)), sp))
  if s.isBar n then
    let c := lv.map (fun x => x.1.map (fun v => (s.tabs n ((v.2.map (fun (w : Win) => w.x)).getD false)).cal x.2 v.1))
    let full := c.map (fun v => v.getD 0)
    let banks := ws.map (fun w => (w.1.seq, (s.tabs n w.1.x).spliceEntries w.1.splice))
    lv.map (fun x => x.1.map (fun v => spliceCode ((v.2.bind (fun (w : Win) => kvGet banks w.seq)).getD []) full x.2))
  else lv.map (fun x => x.1.map (fun v => match v.2 with
    | some w => (s.tabs n w.x).shd w.shade (256 * x.2 / nn) v.1
    | none => 0))

/-! ### Packing and framing (R190 to R192, R240, R241, R255, R256) -/

/-- The `k` bits of a number, most significant first. -/
def bitsOf (v : Nat) : Nat → List Bool
  | 0 => []
  | k + 1 => v.testBit k :: bitsOf v k

/-- One bit of the CRC-16 with the polynomial 0x1021 (R241). -/
def crc16Bit (c : Nat) (b : Bool) : Nat :=
  if (c / 2 ^ 15 % 2 = 1) != b then (c * 2 % 2 ^ 16) ^^^ 0x1021 else c * 2 % 2 ^ 16

/-- CRC-16 of R241: initial value 0xFFFF, no reflection and no final XOR. -/
def crc16 (l : List Bool) : Nat := l.foldl crc16Bit 0xFFFF

/-- A header with its CRC over bits 0 to 111. -/
def withHcrc (h : List Bool) : List Bool := h ++ bitsOf (crc16 h) 16

/-- Pad a list of bits with zeros to a length. -/
def padBits (l : List Bool) (n : Nat) : List Bool := l ++ List.replicate (n - l.length) false

/-- The codes of logical lane `l` of a bar line in the order sent (R191). -/
def barLane (codes : List Nat) (nn l : Nat) (descending : Bool) : List Bool :=
  let blk := (codes.drop (l * (nn / 16))).take (nn / 16)
  (if descending then blk.reverse else blk).flatMap (fun c => bitsOf c 6)

/-- The bits of one pixel clock on logical lane `l` of a scan station (R190, R241): the lane's slice of the pixel word, from
its highest-numbered bit. -/
def scanSlice (word : List Nat) (b l : Nat) : List Bool :=
  ((List.range (b / 4)).map (fun i => let bit := l * (b / 4) + i; (word.getD (bit / 4) 0).testBit (bit % 4))).reverse

/-- Put the logical lanes on the physical lanes (R192): the lane substituted goes to lane 16, the lane it leaves idles. -/
def placeLanes (sub : Nat) (logical : List (List Bool)) : List (List Bool) :=
  if sub < 16 then (logical.zipIdx.map (fun x => if x.2 = sub then [] else x.1)) ++ [logical.getD sub []]
  else logical ++ [[]]

end Sys2Proof.Machine
end

