-- ==== Sys2Proof/Machine/Station.lean ====
section
/-! DEFINITION. What scan and bar stations share: fault sources, readiness of the pipeline, windows, late lines, tile decoding
and tables (R173, R179, R180, R194 to R205). -/

namespace Sys2Proof.Machine

/-- The fault source of the pipeline that serves a station (R203, R410). -/
def State.pipeSrc (s : State) (n : Nat) : Nat := 0x060 + (if s.bit (STNn_PL_STATUS_SERVED_X n) then 6 else n)

/-- The timing source of a station (R410). -/
def timingSrc (n : Nat) : Nat := 0x068 + n

/-- An event of a station's block (R205). -/
def State.stnEvent (s : State) (n e : Nat) : State := s.event (selOf (stnOffset n) e)

/-- The bytes of a segment (R62, R63). -/
def State.segBytes (s : State) (task a len : Nat) : List Byte := s.segGet task a len

/-- The source of a table is read (R161, R196): what its words report (R162), and whether one is uncorrectable; `more` says that the read finds a new
uncorrectable error, in a free unit of the range (log entry 2). -/
def State.sourceRead (s : State) (task a len : Nat) (more : Bool) : State × Bool :=
  let r := s.dramRead (s.segAt task a) len
  if more ∧ r.2 = false then ((r.1.draw.2.eccErr (s.segAt task a + r.1.draw.1 % max 1 len) 2), true) else r

/-! ### Readiness of the pipeline (R199) -/

/-- A table is valid (R195). -/
def State.tblValid (s : State) (n k : Nat) : Bool := (s.fget (STNn_TBL_VALID_VALID n)).testBit k

/-- The screens that a CT8 plane needs. -/
def State.screensOf (s : State) (n : Nat) (tagged : Bool) : List Nat :=
  if tagged then [s.latest (STNn_PL_SCREEN_TAG_MAP0 n), s.latest (STNn_PL_SCREEN_TAG_MAP1 n),
    s.latest (STNn_PL_SCREEN_TAG_MAP2 n), s.latest (STNn_PL_SCREEN_TAG_MAP3 n)]
  else [s.latest (STNn_PL_SCREEN_DEF_SCREEN n)]

/-- The tables besides the screens that every plane needs. -/
def State.baseTables (s : State) (n : Nat) : List Nat :=
  (8 + s.latest (STNn_PL_BANK_SHIM n)) ::
    (if s.isBar n then [16, 12 + s.latest (STNn_PL_BANK_SPLICE n)] else [10 + s.latest (STNn_PL_BANK_SHADE n)])

/-- TABLES_OK: the tables of R199 for CT8 planes. -/
def State.tablesOk (s : State) (n : Nat) : Bool :=
  (s.baseTables n ++ s.screensOf n true ++ s.screensOf n false).all (s.tblValid n)

/-- The pipeline of a station, its own or STNX, has not failed. -/
def State.pipeUp (s : State) (n : Nat) (x : Bool) : Bool := if x then s.fget STNX_STATUS_STATE != 3 else !(s.stnOf n).failed

/-- A pipeline that has not failed serves the station: its own, or STNX. -/
def State.pipeServes (s : State) (n : Nat) : Bool := s.pipeUp n (s.bit (STNn_PL_STATUS_SERVED_X n))

/-- STNX, or the station's own pipeline, has loaded its tables and waits for the window opening at which it takes the station over (R201). -/
def State.toX (s : State) (n : Nat) : Bool := s.stnx.moveReq == some n && s.stnx.loaded
def State.toOwn (s : State) (n : Nat) : Bool := s.stnx.returnReq && s.stnx.loaded && s.fget STNX_STATUS_SERVES == n

/-- Whether STNX produces a plane of a station (R201): an open window says so; any other plane is for the pipeline of the next opening. -/
def State.servedX (s : State) (n seq : Nat) : Bool :=
  match (s.stnOf n).windows.find? (fun w => w.seq == seq) with
  | some w => w.x
  | none => if s.stnx.atWindow && s.toX n then true else if s.stnx.atWindow && s.toOwn n then false else s.bit (STNn_PL_STATUS_SERVED_X n)

/-- A table of a station is written (R196, R201): in the pipeline that serves it, and in one that has loaded to take it over. -/
def State.putTable (s : State) (n k : Nat) (b : List Byte) : State :=
  let served := s.bit (STNn_PL_STATUS_SERVED_X n)
  let s1 := if !served || s.toOwn n then s.modStn n (fun t => { t with tables := kvSet t.tables k b }) else s
  if served || s.toX n then { s1 with stnx := { s1.stnx with tables := kvSet s1.stnx.tables k b } } else s1

/-- The pipeline's conditions of R199 and R212 that name no plane. -/
def State.pipeReady (s : State) (n : Nat) : Bool :=
  s.bit (STNn_PL_CTRL_ENABLE n) && !s.bit (STNn_PL_CTRL_HOLD n) && s.stnN n != 0 && s.beltRuns
  && (s.stnOf n).load.isNone && (s.baseTables n).all (s.tblValid n) && s.pipeServes n

/-- An image format (R129). -/
def imageEntry (e : PlaneEntry) : Bool := e.format != 8

/-- The image plane of a sheet at a station: its place and its entry (R130). -/
def Sheet.imageAt (sh : Sheet) (n : Nat) : Option (Nat × PlaneEntry) :=
  (sh.planes.zipIdx.find? (fun p => p.1.entry.station == n && imageEntry p.1.entry)).map (fun p => (p.2, p.1.entry))

/-- The tag plane of a sheet at a station. -/
def Sheet.tagAt (sh : Sheet) (n : Nat) : Option Nat :=
  (sh.planes.zipIdx.find? (fun p => p.1.entry.station == n && !imageEntry p.1.entry)).map (fun p => p.2)

/-- The pipeline is ready for the planes of a sheet at its station (R199). -/
def State.pipeReadyFor (s : State) (n : Nat) (sh : Sheet) : Bool :=
  s.pipeReady n && (match sh.imageAt n with
    | some pl => pl.2.format != 1 || (s.screensOf n (sh.tagAt n).isSome).all (s.tblValid n)
    | none => true)

/-- A sheet that a station still serves: ADMITTED or later and not final, or awaiting its record. -/
def Sheet.inUse (sh : Sheet) : Bool := sh.st.isActive || sh.awaiting

/-- A station is in use (R195). -/
def State.stnInUse (s : State) (n : Nat) : Bool :=
  s.led.sheets.any (fun sh => sh.inUse && sh.planes.any (fun p => p.entry.station == n)) || (s.stnOf n).windows != []

/-! ### Late lines and windows (R173, R194, R205) -/

/-- CUR of STNn_PL_BLANK: the blank count of the oldest open window. -/
def State.setCur (s : State) (n : Nat) : State :=
  s.fset (STNn_PL_BLANK_CUR n) (match (s.stnOf n).windows with | w :: _ => w.blank | [] => 0)

/-- Add to the blank counts of a window's plane and of its sheet (R194, R258); both saturate at 65,535. -/
def State.addBlank (s : State) (n seq k : Nat) : State :=
  let s1 := s.modStn n (fun t => { t with windows := t.windows.map (fun w =>
    if w.seq = seq then { w with blank := min 65535 (w.blank + k) } else w) })
  (s1.modSheet seq (fun sh => { sh with blank := sh.blank.set n (min 65535 (sh.blank.getD n 0 + k)) })).setCur n

/-- One late line of a plane (R194): counted, LATE set, and with the plane's first one event 3 and a LATE message. -/
def State.lateLine (s : State) (n seq : Nat) (l : Int) : State :=
  let first := (s.stnOf n).windows.any (fun w => w.seq == seq && !w.late)
  let s1 := (s.addBlank n seq 1).flag (STNn_PL_STATUS_LATE n)
  let s2 := s1.modStn n (fun t => { t with windows := t.windows.map (fun w => if w.seq = seq then { w with late := true } else w) })
  if first then (s2.sendFault (s.pipeSrc n) 0x02 (uint 16 l)).stnEvent n 3 else s2

/-- The B fields of the pipeline, LANE_SUB apart (R204). -/
def plShadows (n : Nat) : List Fld :=
  [STNn_PL_CTRL_INTERP n, STNn_PL_XORG_XORG n, STNn_PL_HTMAP_HT2_L3 n, STNn_PL_HTMAP_HT2_L2 n, STNn_PL_HTMAP_HT2_L1 n,
   STNn_PL_HTMAP_HT2_L0 n, STNn_PL_HTMAP_HT1_ON n, STNn_PL_SCREEN_TAG_MAP3 n, STNn_PL_SCREEN_TAG_MAP2 n,
   STNn_PL_SCREEN_TAG_MAP1 n, STNn_PL_SCREEN_TAG_MAP0 n, STNn_PL_SCREEN_DEF_SCREEN n, STNn_PL_BANK_SPLICE n,
   STNn_PL_BANK_SHADE n, STNn_PL_BANK_SHIM n]

/-- Write bytes over a table from a position on. -/
def patchBytes (l : List Byte) (pos : Nat) (p : List Byte) : List Byte :=
  (List.range (max l.length (pos + p.length))).map (fun i =>
    if pos ≤ i ∧ i < pos + p.length then p.getD (i - pos) 0 else l.getD i 0)

/-- Apply a pending calibration patch (R198). -/
def State.applyPatch (s : State) (n : Nat) : State :=
  match (s.stnOf n).patch with
  | some p =>
    let put := fun (l : List (Nat × List Byte)) => kvSet l 16 (patchBytes ((kvGet l 16).getD []) (12 * p.first) p.stage)
    let s0 := s.modStn n (fun t => { t with patch := none, tables := put t.tables })
    let s1 := if s.bit (STNn_PL_STATUS_SERVED_X n) || s.toX n then { s0 with stnx := { s0.stnx with tables := put s0.stnx.tables } } else s0
    ((s1.flag (STNn_TBL_STATUS_DONE n)).fset (STNn_PL_STATUS_PATCH_PENDING n) 0).stnEvent n 5
  | none => s

/-- STNX begins to serve the station that it loads for, or gives it back (R201, R205, R206). -/
def State.stnxServe (s : State) (n : Nat) : State :=
  if s.stnx.moveReq = some n ∧ s.stnx.loaded ∧ s.stnx.atWindow then
    let s1 := { s.modStn n (fun t => { t with slow := false }) with stnx := { s.stnx with moveReq := none, loaded := false, atWindow := false } }
    (s1.fsets [(STNn_PL_STATUS_SERVED_X n, 1), (STNX_STATUS_SERVES, n), (STNX_STATUS_STATE, 2)]).stnEvent n 6
  else if s.stnx.returnReq ∧ s.stnx.atWindow ∧ s.stnx.loaded ∧ s.fget STNX_STATUS_SERVES = n then
    let s1 := { s with stnx := { s.stnx with returnReq := false, loaded := false, atWindow := false } }
    s1.fsets [(STNn_PL_STATUS_SERVED_X n, 0), (STNX_STATUS_SERVES, 7), (STNX_STATUS_STATE, 0)]
  else s

/-- The sheets whose windows a station opens: those whose commit position is fixed since the last reset, the failed ones
among them (their lines are written blank), and not withdrawn. -/
def State.windowSheets (s : State) (n : Nat) : List Sheet :=
  s.led.sheets.filter (fun sh => (sh.st.isActive || decide (sh.st = SheetState.failed))
    && s.led.fixed.any (fun e => e.1 == sh.seq) && (sh.imageAt n).isSome && !(s.stnOf n).done.contains sh.seq)

/-- The reference plane of a station (R224): the open window that opened first, else the plane of the lowest-numbered sheet
that has one there still to be written. -/
def State.refPlane (s : State) (n : Nat) : Option (Nat × Int) :=
  match (s.stnOf n).windows with
  | w :: _ => some (w.seq, w.commit)
  | [] => ((s.windowSheets n).head?).map (fun sh => (sh.seq, sh.commitPos))

/-- Open a plane's window (R173, R186, R198, R201, R205). -/
def State.openWindow (s : State) (n : Nat) (sh : Sheet) : State :=
  match sh.imageAt n with
  | none => s
  | some (i, e) =>
    let s1 := (((s.applyShadow (plShadows n)).applyPatch n).stnxServe n)
    let w : Win := ⟨sh.seq, sh.commitPos, s.planeLines e, i, sh.tagAt n, e, s1.fget (STNn_PL_BANK_SHIM n),
      s1.fget (STNn_PL_BANK_SHADE n), s1.fget (STNn_PL_BANK_SPLICE n), 0, false, false, false, s1.bit (STNn_PL_STATUS_SERVED_X n), none⟩
    let s2 := s1.modStn n (fun t => { t with windows := t.windows ++ [w], done := t.done ++ [sh.seq] })
    ((s2.fset (STNn_PL_PLANE_SEQ_SEQ_LO n) sh.seq).setCur n).stnEvent n 0

/-- All planes of a sheet have been exposed. -/
def Sheet.allExposed (sh : Sheet) : Bool := sh.planes.all (fun p => p.freed)

/-- The station's planes of a sheet have been exposed: their space is freed (R132). -/
def State.exposePlanes (s : State) (n seq : Nat) : State :=
  match s.sheet? seq with
  | some sh =>
    let bs := (sh.planes.filter (fun p => p.entry.station == n)).flatMap (fun p => p.blocks)
    ((s.freeBlocks bs).modSheet seq (fun x => { x with planes := x.planes.map (fun p =>
      if p.entry.station = n then { p with blocks := [], freed := true } else p) })).modStn n (fun t => t.forget seq)
  | none => s

/-- The last line of the last station is exposed (R36). -/
def State.exposedUpdate (s : State) (seq : Nat) : State :=
  match s.sheet? seq with
  | some sh => if sh.st = .committed ∧ sh.allExposed = true then s.enter seq .exposed else s
  | none => s

/-- STNX stands idle and may serve (R13, R206, R455). -/
def State.stnxFree (s : State) : Bool := s.fget STNX_STATUS_STATE == 0 && s.stnx.moveReq.isNone && s.unitOk 0x066

/-- A unit paced by lines becomes slow (R43, R200): it moves at the boundary where a spare is free. -/
def State.pipeSlow (s : State) (n margin : Nat) : State :=
  let s1 := ((s.flag (STNn_PL_STATUS_SLOW n)).sendFault (s.pipeSrc n) 0x03 margin).modStn n (fun t => { t with slow := true })
  if s.stnxFree = true ∧ s.bit (STNn_PL_STATUS_SERVED_X n) = false then
    { s1 with stnx := { s1.stnx with moveReq := some n, loaded := false, atWindow := false } }.fset STNX_STATUS_STATE 1
  else s1

/-- Close a plane's window (R132, R200, R205); `margin` is s / r of the plane in 1/1,024 as the pipeline measured it. -/
def State.closeWindow (s : State) (n margin : Nat) (w : Win) : State :=
  let m := min 65535 margin
  let s1 := (s.modStn n (fun t => { t with windows := t.windows.filter (fun x => x.seq != w.seq) })).fsets
    [(STNn_PL_BLANK_LAST n, w.blank), (STNn_PL_RATE_MARGIN n, m)]
  let s2 := (s1.setCur n).stnEvent n 2
  let s3 := if m < 1076 then s2.pipeSlow n m else s2.modStn n (fun t => { t with slow := false })
  (s3.exposePlanes n w.seq).exposedUpdate w.seq

/-- Close the windows of a station that a predicate picks. -/
def State.closeWindows (s : State) (n margin : Nat) (p : Win → Bool) : State :=
  ((s.stnOf n).windows.filter p).foldl (fun s w =>
    match (s.stnOf n).windows.find? (fun x => x.seq == w.seq) with
    | some w' => s.closeWindow n margin w'
    | none => s) s

/-- Fail the sheets with an open window at a station (R231, R269). -/
def State.failOpen (s : State) (n reason detail : Nat) : State :=
  (s.stnOf n).windows.foldl (fun s w => s.failSheet w.seq reason detail) s

/-- A window's sheet is still to be written: it is neither failed nor gone from the ledger. -/
def State.winLive (s : State) (w : Win) : Bool :=
  match s.sheet? w.seq with
  | some sh => !sh.st.isFinal
  | none => false

/-- LINE0 (R205): output line 0 of a plane is due. -/
def State.lineZero (s : State) (n seq : Nat) : State :=
  if (s.stnOf n).windows.any (fun w => w.seq == seq && !w.line0) then
    (s.modStn n (fun t => { t with windows := t.windows.map (fun w => if w.seq = seq then { w with line0 := true } else w) })).stnEvent n 1
  else s

/-- A line of a window written blank under R173: its position lies before the sheet's lock position. -/
def State.beforeLock (s : State) (n : Nat) (l : Int) : Bool :=
  decide (l * s.lineUnits n < -umUnits (s.fget LEDG_LOCK_DIST_LOCK_DIST))

/-- The windows of a line that may still be written, each with its own line, and the state after counting the lines that are
late for another reason than their data: a stopped pipeline (R202, R204), and a line before its sheet's lock whose source
lies inside the plane (R173). -/
def State.lineWindows (s : State) (n : Nat) (ws : List (Win × Int)) : List (Win × Int) × State :=
  let live := ws.filter (fun w => s.winLive w.1)
  let up := live.filter (fun w => s.bit (STNn_PL_CTRL_ENABLE n) && s.pipeUp n w.1.x)
  let down := live.filter (fun w => !(s.bit (STNn_PL_CTRL_ENABLE n) && s.pipeUp n w.1.x))
  let early := up.filter (fun w => s.beforeLock n w.2 && s.anySource n w.1 w.2)
  (up.filter (fun w => !s.beforeLock n w.2), (down ++ early).foldl (fun s w => s.lateLine n w.1.seq w.2) s)

/-! ### Fetching and decoding (R162, R179, R180) -/

/-- The device address of byte `o` of a plane: its blocks are 2 MiB each (R154). -/
def Plane.addr (p : Plane) (o : Nat) : Nat := p.blocks.getD (o / 2 ^ 21) 0 * 2 ^ 21 + o % 2 ^ 21

/-- Bytes of a plane in the page store. -/
def State.planeBytes (s : State) (p : Plane) (o len : Nat) : List Byte :=
  (List.range len).map (fun i => memGet s.mem.dram (p.addr (o + i)))

/-- The 64-byte units of a plane's bytes in which a word of a list stands (R162). -/
def Plane.hits (p : Plane) (ws : List Nat) (o len : Nat) : List Nat :=
  (((List.range len).filter (fun i => ws.contains (p.addr (o + i) / 8))).map (fun i => p.addr (o + i) / 64)).dedup
def State.planeBad (s : State) (p : Plane) (o len : Nat) : List Nat := p.hits s.mem.badWords o len

/-- A read of a plane's bytes whose words are correctable at worst: each unit with an error reports it. -/
def State.planeFixed (s : State) (p : Plane) (o len : Nat) : State := (p.hits s.mem.oneBits o len).foldl (fun s u => s.unitRead u false) s

/-- A tile of a sheet cannot be used (R162, R179): a locked sheet fails with DATA_CORRUPT, at its commit where it has not committed yet (R41);
the plane of another counts as not resident and the sheet reverts. -/
def State.dataLost (s : State) (seq plane detail : Nat) : State :=
  match s.sheet? seq with
  | none => s
  | some sh =>
    if sh.locked then s.loseSheet seq 6 detail
    else (s.modSheet seq (fun x => { x with planes := x.planes.zipIdx.map (fun p =>
      if p.2 = plane then { p.1 with ok := false, bad := true } else p.1) })).revertFrom seq

/-- Uncorrectable units found by the fetch of a tile (R162): a message for each, and the effect on the sheet. -/
def State.unitsLost (s : State) (seq plane : Nat) (us : List Nat) : State :=
  match us with
  | u :: _ => (us.foldl (fun s u => s.unitRead u false) s).dataLost seq plane (msgDetail (ddrSrc (u * 64)) 2 (u % 65536))
  | [] => s

/-- A tile error (R179): TILE_ERR, the tile's place, event 7 and a TILE_BAD message. -/
def State.tileError (s : State) (n seq plane row col : Nat) : State :=
  let s1 := ((s.fsets [(STNn_PL_STATUS_TILE_ERR n, 1), (STNn_PL_TILE_ERR_ROW n, row), (STNn_PL_TILE_ERR_COL n, col)]).sendFault
    (s.pipeSrc n) 0x01 row).stnEvent n 7
  s1.dataLost seq plane (msgDetail (s.pipeSrc n) 0x01 row)

/-- The planes that a station's pipeline has still to decode, in order: those of sheets ADMITTED or later whose tiles are not
all decoded. -/
def State.toDecode (s : State) (n : Nat) : List (Nat × Nat × Plane) :=
  s.led.sheets.flatMap (fun sh =>
    if sh.inUse then
      (sh.planes.zipIdx.filter (fun p => p.1.entry.station == n && p.1.ok && !p.1.freed && !p.1.bad
        && !(s.stnOf n).fetch.any (fun f => f.seq == sh.seq && f.plane == p.2
              && decide (tileCols p.1.entry * tileRows p.1.entry ≤ f.tile)))).map (fun p => (sh.seq, p.2, p.1))
    else [])

/-- Where the decoder stands in a plane. -/
def Stn.fetchOf (t : Stn) (seq plane : Nat) : Fetch :=
  (t.fetch.find? (fun f => f.seq == seq && f.plane == plane)).getD ⟨seq, plane, 0, 0, []⟩

/-- Where the decoder stands in a plane is written. -/
def Stn.setFetch (t : Stn) (f : Fetch) : Stn :=
  { t with fetch := t.fetch.filter (fun x => !(x.seq == f.seq && x.plane == f.plane)) ++ [f] }

/-- A tile error against the last tile of a plane: its tiles and LENGTH disagree (R179). -/
def State.lengthError (s : State) (n seq plane : Nat) (e : PlaneEntry) : State := s.tileError n seq plane (tileRows e - 1) (tileCols e - 1)

/-- The headers of a tile row are read ahead of its bodies (R176, R179, R180): of `k` tiles from column `col` on, the first at byte `off`. A
wrong one is a tile error, and then there is no list. -/
def State.readHdrs (s : State) (n seq plane : Nat) (p : Plane) (row col off : Nat) : Nat → State × Option (List (List Byte × Nat))
  | 0 => (s, some [])
  | k + 1 =>
    let raw := s.planeBytes p off 16
    let hd := tileHdr raw
    let last := row + 1 = tileRows p.entry ∧ k = 0
    let stop := off + 16 + hd.bodyLen
    if p.entry.length < off + 16 then (s.lengthError n seq plane p.entry, none)
    else if s.planeBad p off 16 ≠ [] then (s.unitsLost seq plane (s.planeBad p off 16), none)
    else
      let s1 := s.planeFixed p off 16
      if hd.ok (tileLineBytes p.entry.format) (tileH p.entry row) col row = false then (s1.tileError n seq plane row col, none)
      else if p.entry.length < stop ∨ (last ∧ stop ≠ p.entry.length) then (s1.lengthError n seq plane p.entry, none)
      else
        let r := s1.readHdrs n seq plane p row (col + 1) stop k
        (r.1, r.2.map (fun l => (raw, off + 16) :: l))

/-- The body of a tile is fetched, decoded and checked (R177, R179). -/
def State.decodeBody (s : State) (n seq plane : Nat) (p : Plane) (f : Fetch) (h : List Byte × Nat) : State :=
  let cols := tileCols p.entry
  let row := f.tile / cols
  let hd := tileHdr h.1
  if s.planeBad p h.2 hd.bodyLen ≠ [] then s.unitsLost seq plane (s.planeBad p h.2 hd.bodyLen)
  else
    let s1 := s.planeFixed p h.2 hd.bodyLen
    match decodeTile hd (s.planeBytes p h.2 hd.bodyLen) (tileLineBytes p.entry.format) (tileH p.entry row) with
    | none => s1.tileError n seq plane row (f.tile % cols)
    | some d => s1.modStn n (fun t => { t with tiles := t.tiles ++ [(seq, plane, f.tile, d)] }.setFetch { f with tile := f.tile + 1, hdrs := f.hdrs.tail })

/-- The end of a row whose headers have been read. -/
def rowEnd (off : Nat) (hs : List (List Byte × Nat)) : Nat := (hs.getLast?.map (fun h => h.2 + (tileHdr h.1).bodyLen)).getD off

/-- The next tile of a plane (R180): at the start of a row its headers are read, then the bodies follow tile by tile. -/
def State.decodeNext (s : State) (n seq plane : Nat) (p : Plane) : State :=
  let f := (s.stnOf n).fetchOf seq plane
  match f.hdrs with
  | h :: _ => s.decodeBody n seq plane p f h
  | [] =>
    match s.readHdrs n seq plane p (f.tile / tileCols p.entry) 0 f.off (tileCols p.entry) with
    | (s1, some (h :: t)) => s1.decodeBody n seq plane p { f with off := rowEnd f.off (h :: t), hdrs := h :: t } h
    | (s1, _) => s1

/-- TILE_DECODE (R179): a pipeline that has not failed decodes and checks the next tile that a station has to fetch. -/
def execTileDecode (n : Nat) (s : State) : Host.Outcome State Fault Refusal :=
  onUnit (n < 6) (match (s.toDecode n).find? (fun d => s.pipeUp n (s.servedX n d.1)) with
    | some (seq, plane, p) => s.decodeNext n seq plane p
    | none => s)

/-! ### Tables (R195 to R198) -/

/-- The size of a table in bytes (R195); none for a number that names no table. -/
def State.tblSize (s : State) (n k : Nat) : Option Nat :=
  if k < 4 then some (128 + (s.fget (STNn_PL_SCRc_GEOM_W_M1 n k) + 1) * (s.fget (STNn_PL_SCRc_GEOM_H_M1 n k) + 1))
  else if k = 8 ∨ k = 9 then some 256
  else if 10 ≤ k ∧ k ≤ 13 then some 2048
  else if k = 16 then some (12 * s.stnN n)
  else none

/-- Whether PL_BANK selects a bank, as in effect or as written. -/
def State.bankSelected (s : State) (n k : Nat) : Bool :=
  let f := if k < 10 then STNn_PL_BANK_SHIM n else if k < 12 then STNn_PL_BANK_SHADE n else STNn_PL_BANK_SPLICE n
  s.fget f == k % 2 || s.latest f == k % 2

/-- Whether an open window uses a bank. -/
def Stn.bankOpen (t : Stn) (k : Nat) : Bool :=
  t.windows.any (fun w => (if k < 10 then w.shim else if k < 12 then w.shade else w.splice) == k % 2)

/-- Whether a range lies in a segment of a task placed in DRAM (R196). -/
def State.dramRange (s : State) (task src len : Nat) : Bool :=
  match s.task? task with
  | some t =>
    kvGet t.segLoc (src / 2 ^ 28) == some 2 && t.hdr.segs.any (fun d => d.seg == src / 2 ^ 28 && decide (src % 2 ^ 28 + len ≤ d.size))
      && src % 4 == 0
  | none => false

/-- The error code that refuses a load (R195, R196, STNn_TBL_STATUS): the lowest that holds. -/
def State.loadErr (s : State) (n k : Nat) : Nat :=
  let t := s.stnOf n
  let len := s.fget (STNn_TBL_LEN_LEN n)
  if t.load.isSome then 1
  else if s.stnInUse n ∧ (k < 4 ∨ k = 16) then 2
  else if s.tblSize n k ≠ some len then 3
  else if s.dramRange (s.fget (STNn_TBL_TASK_TASK n)) (s.fget (STNn_TBL_SRC_SRC n)) len = false then 4
  else if s.stnInUse n ∧ (s.bankSelected n k = true ∨ t.bankOpen k = true) then 8
  else 0

/-- A table command ends in a refusal. -/
def State.tblRefuse (s : State) (n k err : Nat) : State :=
  s.fsets [(STNn_TBL_STATUS_TABLE n, k), (STNn_TBL_STATUS_ERR n, err), (STNn_TBL_STATUS_REFUSED n, 1)]

/-- Set or clear a bit of STNn_TBL_VALID. -/
def State.setValid (s : State) (n k : Nat) (v : Bool) : State :=
  let x := s.fget (STNn_TBL_VALID_VALID n)
  s.fset (STNn_TBL_VALID_VALID n) (if v = x.testBit k then x else if v then x + 2 ^ k else x - 2 ^ k)

/-- TABLE_LOAD (R196): the load starts, and the table is not valid until it is complete; or it is refused. -/
def State.tableLoad (s : State) (n table : Nat) : State :=
  let k := table % 32
  let err := s.loadErr n k
  if err ≠ 0 then s.tblRefuse n k err else
  let l : Load := ⟨k, s.fget (STNn_TBL_TASK_TASK n), s.fget (STNn_TBL_SRC_SRC n), s.fget (STNn_TBL_LEN_LEN n), 0, 0, []⟩
  ((s.modStn n (fun t => { t with load := some l })).setValid n k false).fsets
    [(STNn_TBL_STATUS_TABLE n, k), (STNn_TBL_STATUS_ERR n, 0), (STNn_TBL_STATUS_BUSY n, 1), (STNn_PL_STATUS_LOAD_BUSY n, 1)]

/-- TABLE_LOAD (R196). -/
def execTableLoad (n : Nat) (table : Nat) (s : State) : Host.Outcome State Fault Refusal := onUnit (n < 6) (s.tableLoad n table)

/-- A shim word with PROC and SCAN clamped to their ranges (R184), and whether it was changed. -/
def clampShim (w : Nat) : Nat × Bool :=
  let p := max (-1024) (min 1023 (sext 12 (w / 2 ^ 16 % 2 ^ 12)))
  let c := max (-2048) (min 2047 (sext 13 (w % 2 ^ 13)))
  let w' := uint 12 p * 2 ^ 16 + uint 13 c
  (w', decide (p ≠ sext 12 (w / 2 ^ 16 % 2 ^ 12) ∨ c ≠ sext 13 (w % 2 ^ 13)))

/-- The words of a table's bytes. -/
def wordsOf (b : List Byte) (k : Nat) : List Nat := (List.range k).map (fun i => bytesToNat ((b.drop (4 * i)).take 4))

/-- A table's contents as a load of its bytes leaves them (R184, R196). -/
def tableOf (k : Nat) (b : List Byte) : List Byte :=
  if k = 8 ∨ k = 9 then ((wordsOf b (b.length / 4)).map (fun w => (clampShim w).1)).flatMap (fun w => natToBytes w 4) else b

/-- A splice bank passes its content check (R196). -/
def spliceOk (ws : List Nat) (nn : Nat) : Bool :=
  let es := ws.takeWhile (fun w => decide (2 ^ 31 ≤ w))
  es.all (fun w => decide (w / 2 ^ 16 % 32 ≤ 16) && decide (w / 2 ^ 21 % 32 ≤ 16) && decide (w % 2 ^ 16 < nn))
  && (es.zip es.tail).all (fun p => decide (p.1 % 2 ^ 16 < p.2 % 2 ^ 16))

/-- LOAD_DONE (R184, R196): the load that runs ends, with its contents checked; `uncorr` says that a read of the source was
uncorrectable. -/
def execLoadDone (n : Nat) (uncorr : Bool) (s : State) : Host.Outcome State Fault Refusal :=
  onUnit (n < 6) (match (s.stnOf n).load with
    | none => s
    | some l =>
      let b := s.segBytes l.task l.src l.len
      let ws := wordsOf b (l.len / 4)
      let shim := l.table = 8 ∨ l.table = 9
      let bad := (l.table = 12 ∨ l.table = 13) ∧ spliceOk ws (s.stnN n) = false
      let r := s.sourceRead l.task l.src l.len uncorr
      let err := if r.2 then 5 else if bad then 6 else 0
      let s1 := (r.1.modStn n (fun t => { t with load := none })).fsets
        [(STNn_TBL_STATUS_BUSY n, 0), (STNn_PL_STATUS_LOAD_BUSY n, 0), (STNn_TBL_STATUS_DONE n, 1), (STNn_TBL_STATUS_ERR n, err)]
      let s2 :=
        if err ≠ 0 then s1.sendFault (s.pipeSrc n) 0x04 (l.table + 256 * err)
        else
          let s3 := ((s1.putTable n l.table (tableOf l.table b)).modStn n (fun t => { t with
            source := kvSet t.source l.table (l.task, l.src, l.len) })).setValid n l.table true
          if shim ∧ ws.any (fun w => (clampShim w).2) = true then
            (s3.flag (STNn_PL_STATUS_SHIM_CLAMP n)).sendFault (s.pipeSrc n) 0x05 l.table
          else s3
      s2.stnEvent n 4)

/-- TABLE_PATCH (R198): entries FIRST to FIRST + COUNT − 1 are copied from the calibration table's recorded source into the
staging area, and applied at the next window opening, or at once when no window is open; or the patch is refused. -/
def State.tablePatch (s : State) (n table : Nat) : State :=
  let k := table % 32
  let t := s.stnOf n
  let first := s.fget (STNn_TBL_PATCH_FIRST n)
  let count := s.fget (STNn_TBL_PATCH_COUNT n)
  if k ≠ 16 ∨ count = 0 ∨ 1024 < count ∨ s.stnN n < first + count ∨ t.patch.isSome then s.tblRefuse n k 7 else
  match kvGet t.source 16 with
  | none => s.tblRefuse n k 4
  | some src =>
    let p : Load := ⟨16, src.1, src.2.1 + 12 * first, 12 * count, first, count, s.segBytes src.1 (src.2.1 + 12 * first) (12 * count)⟩
    let s1 := (s.modStn n (fun t => { t with patch := some p })).fsets
      [(STNn_TBL_STATUS_TABLE n, 16), (STNn_TBL_STATUS_ERR n, 0), (STNn_PL_STATUS_PATCH_PENDING n, 1)]
    if t.windows = [] then s1.applyPatch n else s1

/-- TABLE_PATCH (R198). -/
def execTablePatch (n : Nat) (table : Nat) (s : State) : Host.Outcome State Fault Refusal := onUnit (n < 6) (s.tablePatch n table)

/-! ### STNX (R201, R202, R206) -/

/-- A sheet that uses a table of a station. -/
def State.usesTable (s : State) (n k : Nat) (sh : Sheet) : Bool :=
  match sh.imageAt n with
  | some pl => (s.baseTables n).contains k || (pl.2.format == 1 && (s.screensOf n (sh.tagAt n).isSome).contains k)
  | none => false

/-- The detail of a failure that the last raised message names (R44): its fields. -/
def State.lastDetail (s : State) : Nat :=
  match s.faultQ.getLast? with
  | some m => msgDetail m.src m.kind m.detail
  | none => 0

/-- A table whose source is uncorrectable: it is invalid and the locked sheets that use it fail (R161, R162). -/
def State.refetchLost (s : State) (n table : Nat) : State :=
  let s1 := s.setValid n table false
  ((s.led.sheets.filter (fun sh => sh.locked && s.usesTable n table sh && sh.planes.any (fun p => p.entry.station == n && !p.freed))).map
    (fun (sh : Sheet) => sh.seq)).foldl (fun s q => s.loseSheet q 6 s1.lastDetail) s1

/-- The valid tables of a station are loaded from their recorded sources (R201) into STNX, or into its own pipeline. An uncorrectable source is
treated as R161 says. -/
def State.loadTables (s : State) (n : Nat) (x : Bool) : State :=
  ((s.stnOf n).source.filter (fun e => s.tblValid n e.1)).foldl (fun (s : State) (e : Nat × (Nat × Nat × Nat)) =>
    let r := s.sourceRead e.2.1 e.2.2.1 e.2.2.2 false
    let b := tableOf e.1 (s.segBytes e.2.1 e.2.2.1 e.2.2.2)
    if r.2 then r.1.refetchLost n e.1
    else if x then { r.1 with stnx := { r.1.stnx with tables := kvSet r.1.stnx.tables e.1 b } }
    else r.1.modStn n (fun t => { t with tables := kvSet t.tables e.1 b })) s

/-- The loads for a station are complete (R201); where the sheet boundary has come too, its next pipeline fetches what it will produce. -/
def State.stnxLoaded (s : State) (n : Nat) : State :=
  let s1 := { s with stnx := { s.stnx with loaded := true } }
  if s.stnx.atWindow then s1.modStn n Stn.dropAhead else s1

/-- STNX begins to load the tables of a station (R201). The move waits for the ledger's next sheet boundary (R114); with no
sheet ADMITTED or later it has come. -/
def State.stnxMove (s : State) (n : Nat) : State :=
  { s with stnx := { s.stnx with moveReq := some n, loaded := false, atWindow := !s.anyActive, tables := [] } }.fset STNX_STATUS_STATE 1

/-- MOVE of STNX_CMD (R206): refused unless STNX is idle. -/
def State.stnxMoveCmd (s : State) (n : Nat) : State := if s.stnxFree then s.stnxMove n else s.flag STNX_STATUS_CMD_REFUSED

/-- STNX_MOVE (R206). -/
def execStnxMove (n : Nat) (s : State) : Host.Outcome State Fault Refusal := onUnit (n < 6) (s.stnxMoveCmd n)

/-- RETURN of STNX_CMD (R206): refused unless STNX serves a station whose own pipeline is neither retired nor failed. -/
def State.stnxReturnCmd (s : State) : State :=
  let n := s.fget STNX_STATUS_SERVES
  if s.fget STNX_STATUS_STATE = 2 ∧ (s.stnOf n).failed = false ∧ (s.stnOf n).retired = false then
    { s with stnx := { s.stnx with returnReq := true, loaded := false, atWindow := !s.anyActive } }
  else s.flag STNX_STATUS_CMD_REFUSED

/-- STNX_RETURN (R206). -/
def execStnxReturn (s : State) : Host.Outcome State Fault Refusal := .next s.stnxReturnCmd

/-- The offset of a tile row of a plane (R174, R176): its headers are walked from the start of the plane. -/
def State.rowOffset (s : State) (p : Plane) : Nat → Nat → Nat
  | 0, off => off
  | k + 1, off => s.rowOffset p k (off + 16 + (tileHdr (s.planeBytes p off 16)).bodyLen)

/-- The tile row that the lines from output line `l` on need first (R202): that of the lowest source line of any segment. -/
def State.rowNeeded (s : State) (n : Nat) (w : Win) (l : Int) (e : PlaneEntry) : Nat :=
  let a := ((List.range 64).map (fun k => sourceLine ((s.tabs n w.x).proc w.shim k) l)).foldl min (l + 64)
  a.toNat / s.planeK e / 64

/-- STNX takes over the planes in progress of a station whose pipeline has failed (R202): decoding restarts at the start of the tile rows that
the present line needs. -/
def State.takeOver (s : State) (n : Nat) : State :=
  let s1 := s.modStn n (fun t => { t with tiles := [], fetch := [], windows := t.windows.map (fun w => { w with x := true }) })
  (s1.stnOf n).windows.foldl (fun (s : State) (w : Win) =>
    let l := (s.belt - s.ofsOf n - w.commit) / (s.lineUnits n : Int)
    match s.sheet? w.seq with
    | some sh => (sh.planes.zipIdx.filter (fun (p : Plane × Nat) => p.1.entry.station == n)).foldl (fun (s : State) (p : Plane × Nat) =>
        let row := s.rowNeeded n w l p.1.entry
        let k := row * tileCols p.1.entry
        s.modStn n (fun t => t.setFetch ⟨w.seq, p.2, k, s.rowOffset p.1 k 0, []⟩)) s
    | none => s) s1

/-- MOVED (R201): STNX has loaded every valid table, and serves the station from the next window opening after the ledger's
sheet boundary; where the station has no window to wait for, or its own pipeline has failed
(R202), at once. The command says that the loads are complete. -/
def execMoved (s : State) : Host.Outcome State Fault Refusal :=
  .next (match s.stnx.moveReq with
    | some n =>
      let s0 := s.loadTables n true
      let s1 := s0.stnxLoaded n
      if (s1.stnOf n).failed then (s1.stnxServe n).takeOver n
      else if s1.anyActive then s1 else s1.stnxServe n
    | none =>
      if s.stnx.returnReq then
        let n := s.fget STNX_STATUS_SERVES
        let s0 := s.loadTables n false
        let s1 := s0.stnxLoaded n
        if s1.anyActive then s1 else s1.stnxServe n
      else s)

end Sys2Proof.Machine
end

