-- ==== Sys2Proof/Machine/Head.lean ====
section
/-! DEFINITION. Heads: the record, failed emitters, the status target and the head temperature (R257 to R271). -/

namespace Sys2Proof.Machine

/-- BAR_EN or SC_EN of a station, by its kind (R243, R272). -/
def enField (s : State) (n : Nat) : Fld := if s.isBar n then STNn_BR_CTRL_BAR_EN n else STNn_SC_CTRL_SC_EN n

/-- NOM of the station's PIX clock (R217, R254). -/
def State.pixNom (s : State) (n : Nat) : Nat := if s.isBar n then s.fget (STNn_BR_RATE_NOM n) else s.fget (STNn_SC_PIXFREQ_NOM n)

/-- The 4,096 PIX cycles of idle that follow the first lock are over, so that frames may be sent (R241, R254). -/
def State.linkOpen (s : State) (n : Nat) : Bool :=
  match (s.stnOf n).lockTick with
  | some t => decide (4096 * pixUnit ≤ (s.tick - t) * s.pixNom n)
  | none => false

/-- The station's head link runs. -/
def State.stnEnabled (s : State) (n : Nat) : Bool := s.bit (enField s n)

/-- The CFG code of a station, by its kind. -/
def cfgField (s : State) (n : Nat) : Fld := if s.isBar n then STNn_BR_STATUS_CFG n else STNn_SC_STATUS_CFG n

/-- Set the CFG code: when it becomes nonzero the event and the message follow (R243, R272). -/
def State.setCfg (s : State) (n code : Nat) : State :=
  let s1 := s.fset (cfgField s n) code
  if code ≠ 0 ∧ s.fget (cfgField s n) = 0 then (s1.sendFault (timingSrc n) 0x16 code).stnEvent n 0x1B else s1

/-- The PIX clock frequencies in units of 25 MHz / 2^44, the facets' trims included (R217, R254). -/
def State.pixFreqs (s : State) (n : Nat) : List Int :=
  if s.isBar n then [((s.fget (STNn_BR_RATE_NOM n) : Nat) : Int) * 2 ^ 20]
  else (List.range (s.fget (STNn_SC_CFG_FACETS n))).map (fun f =>
    (s.fget (STNn_SC_PIXFREQ_NOM n) : Int) *
      (2 ^ 20 + sext 16 (s.fget (STNn_SC_FACETf_MAG n (if s.bit (STNn_SC_CFG_FACET_SRC n) then 0 else f)))))

/-- The greatest and the least of some integers. -/
def maxI (l : List Int) : Int := l.foldl max (l.headD 0)
def minI (l : List Int) : Int := l.foldl min (l.headD 0)

/-- The lane rate in bit/s times 2^44 (R220, R254): B/4 bits per pixel clock on a scan station, 8 on a bar station. -/
def State.laneRate (s : State) (n : Nat) : Int :=
  maxI (s.pixFreqs n) * 25000000 * (if s.isBar n then 8 else (s.stnB n / 4 : Nat))

/-! ### The head record (R260, R261) -/

/-- A little-endian field of the record. -/
def recField (r : List Byte) (o len : Nat) : Nat := bytesToNat ((r.drop o).take len)

/-- The defective emitters of the record. -/
def recDefs (r : List Byte) : List Nat :=
  (List.range (recField r 46 2)).map (fun i => recField r (64 + recField r 40 4 + 2 * i) 2)

/-- The first failing check of R261; 0 when the record passes. -/
def State.hrecCheck (s : State) (n : Nat) : Option (List Byte) → Nat
  | none => 1
  | some r =>
    let units := recField r 40 4
    let defs := recDefs r
    let len := 68 + units + 2 * recField r 46 2
    if recField r 0 4 ≠ 0x43455248 then 2
    else if recField r 4 1 ≠ 1 then 3
    else if recField r 5 1 ≠ (if s.isBar n then 2 else 1) then 4
    else if units ≠ (if s.isBar n then s.stnN n else s.stnB n) then 5
    else if recField r 44 2 ≠ (if s.bit (STNn_PL_CFG_RES n) then 2400 else 1200) then 6
    else if (recField r 48 2 : Int) * 10000000 * 2 ^ 44 < s.laneRate n then 7
    else if 512 < recField r 46 2 ∨ (s.isBar n = false ∧ recField r 46 2 ≠ 0) ∨ defs.any (fun d => decide (units ≤ d)) = true
        ∨ (defs.zip defs.tail).any (fun p => decide (p.2 ≤ p.1)) = true then 8
    else if recField r 7 1 < 0x41 ∨ 0x48 < recField r 7 1 then 9
    else if crc32 (r.take (len - 4)) ≠ recField r (len - 4) 4 then 10
    else 0

/-- Add an emitter to the known-failed list (R265): ascending, none twice, at most 512. -/
def insertKnown (l : List (Nat × Nat)) (e o : Nat) : List (Nat × Nat) :=
  if l.any (fun x => x.1 == e) ∨ 512 ≤ l.length then l else kvSet l e o

/-- The known-failed list of a station. -/
def State.known (s : State) (n : Nat) : List (Nat × Nat) := (s.stnOf n).bar.known

/-- SPLICE_OK (R266): every known-failed emitter has an entry in the valid splice bank that PL_BANK names as written. -/
def State.spliceOkNow (s : State) (n : Nat) : Bool :=
  let b := s.latest (STNn_PL_BANK_SPLICE n)
  let es := (s.tabs n (s.bit (STNn_PL_STATUS_SERVED_X n))).spliceEntries b
  s.tblValid n (12 + b) && (s.known n).all (fun k => es.any (fun e => e.1 == k.1))

/-- An emitter reported by the head or added by the program (R265). -/
def State.addFailed (s : State) (n e origin : Nat) : State :=
  if (s.known n).any (fun x => x.1 == e) then s
  else if 512 ≤ (s.known n).length then s.sendFault (timingSrc n) 0x19 0xFFFF
  else
    let s1 := s.modStn n (fun t => { t with bar := { t.bar with known := insertKnown t.bar.known e origin } })
    ((s1.flag (STNn_BR_STATUS_FAIL_NEW n)).sendFault (timingSrc n) 0x19 e).stnEvent n 0x13

/-- A read of the head record starts (R261). -/
def State.hrecStart (s : State) (n : Nat) : State := s.fset (STNn_HD_STATUS_HREC_BUSY n) 1

/-- HREC_READ of a station (R261): refused while the station is in use. -/
def State.hrecCmd (s : State) (n : Nat) : State := if s.stnInUse n then s.flag (STNn_HD_STATUS_CLR_REFUSED n) else s.hrecStart n

/-- HREC_READ (R262): refused while the station is in use. -/
def execHrecRead (n : Nat) (s : State) : Host.Outcome State Fault Refusal := onUnit (n < 6) (s.hrecCmd n)

/-! ### The checks of the configuration -/

/-- D of R251: the data cycles of a bar frame. -/
def State.barD (s : State) (n : Nat) : Nat := (s.stnN n * 6 / 16 + 7) / 8

/-- SHIFT_START and LATCH_W as they act (R272). -/
def State.shiftStart (s : State) (n : Nat) : Nat := max 16 (s.fget (STNn_BR_FRAME_SHIFT_START n))
def State.latchW (s : State) (n : Nat) : Nat := max 1 (s.fget (STNn_BR_FRAME_LATCH_W n))

/-- The CFG code of a bar station (R251, R254, R272): the lowest that holds. -/
def State.barCfg (s : State) (n : Nat) : Nat :=
  let nom := s.fget (STNn_BR_RATE_NOM n)
  let lm := s.fget (STNn_BR_LINE_MIN_LINE_MIN n)
  let on := s.fget (STNn_BR_ONTIME_ON_UNIT n)
  let hd := (s.stnOf n).head
  let ok := s.bit (STNn_HD_STATUS_HREC_OK n)
  if 8 * nom * 25 < 320 * 2 ^ 24 ∨ 2000 * 2 ^ 24 < 8 * nom * 25 ∨ (ok ∧ hd.maxRate * 10 * 2 ^ 24 < 8 * nom * 25) then 1
  else if lm = 0 ∨ lm * nom < (s.shiftStart n + 36 + s.barD n + s.latchW n) * 2 ^ 24 * 40 then 2
  else if lm * nom < (63 * on + 16) * 2 ^ 24 * 10 then 3
  else if s.stnN n = 0 ∨ s.stnN n % 16 ≠ 0 then 4
  else if on = 0 ∨ (ok ∧ on < hd.minOn)
      ∨ (ok ∧ s.bit (STNn_BR_CTRL_CENTER n) = true ∧ (s.fget (STNn_HD_INFO_FEATURES n)).testBit 1 = false) then 5
  else if s.fget (STNn_HD_STATUS_HREC_ERR n) ≠ 0 then 6
  else 0

/-- H and T of R215. -/
def hdrLen (b : Nat) : Nat := (512 + b - 1) / b
def trlLen (b : Nat) : Nat := (128 + b - 1) / b

/-- The mean facet interval in 1/64 pixel clock (R230). -/
def ScanSt.mean (t : ScanSt) : Int := if t.ivs = [] then 0 else ((t.ivs.foldl (· + ·) 0 / t.ivs.length : Nat) : Int)

/-- The mean of the intervals since tracking began (R216). -/
def ScanSt.trackMean (t : ScanSt) : Int := ((t.pSum / max 1 t.pNum : Nat) : Int)

/-- The facet entry that serves facet `f` (R233): entry 0 where facets have no identity. -/
def State.facetEntry (s : State) (n f : Nat) : Nat := if s.bit (STNn_SC_CFG_FACET_SRC n) then 0 else f

/-- The order of R216 holds, in 1/64 pixel clock; the parts that need a measured period are not judged before there is one. -/
def State.orderOk (s : State) (n : Nat) : Bool :=
  let b := s.stnB n
  let h : Int := hdrLen b
  let tr : Int := trlLen b
  let w : Int := s.fget (STNn_SC_SOS_WIN_HALF n)
  let offs := (List.range (s.fget (STNn_SC_CFG_FACETS n))).map (fun f =>
    sext 16 (s.fget (STNn_SC_FACETf_OFFSET n (s.facetEntry n f))))
  let dly : Int := s.fget (STNn_SC_SOS_DELAY_DELAY n)
  let gap := dly + minI offs - 64 * 64 - 64 * h - 64 * w
  let dataEnd := dly + maxI offs + 64 * ((s.stnN n : Int) + 64 + tr)
  let ref : Int := s.fget (STNn_SC_EOS_REF_REF n)
  let eosOn := s.bit (STNn_SC_CFG_EOS_EN n)
  let end1 := if eosOn then ref + 64 * (w + tr) else dataEnd
  let apcOn := s.bit (STNn_SC_CTRL_APC_EN n) && s.fget (STNn_SC_APC_LEN_LEN n) != 0
  let start : Int := s.fget (STNn_SC_APC_START_START n)
  let end2 := if apcOn then 64 * (start + s.fget (STNn_SC_APC_LEN_LEN n)) else end1
  let p := (s.stnOf n).scan.trackMean
  decide (0 ≤ gap ∧ 6400 * maxI (s.pixFreqs n) ≤ gap * 2 ^ 44
    ∧ (eosOn = true → dataEnd ≤ ref - 64 * (w + h)) ∧ (apcOn = true → end1 ≤ 64 * start)
    ∧ ((s.stnOf n).scan.pNum ≠ 0 → end2 + 64 * 64 ≤ p - 64 * (w + h) ∧ 128 * (w + h) < p))

/-- No two cyclically consecutive facets differ by more than 5,242 (R218), in the table as last written: a write that breaks it is caught at
once. -/
def State.magOk (s : State) (n : Nat) : Bool :=
  let k := s.fget (STNn_SC_CFG_FACETS n)
  s.bit (STNn_SC_CFG_FACET_SRC n) || (List.range k).all (fun f =>
    decide ((sext 16 (s.latest (STNn_SC_FACETf_MAG n f)) - sext 16 (s.latest (STNn_SC_FACETf_MAG n ((f + 1) % k)))).natAbs ≤ 5242))

/-- The CFG code of a scan station (R216, R218, R220, R243): the lowest that holds. -/
def State.scanCfg (s : State) (n : Nat) : Nat :=
  let fs := s.pixFreqs n
  let k := s.fget (STNn_SC_CFG_FACETS n)
  if minI fs * 25 < 40 * 2 ^ 44 ∨ 400 * 2 ^ 44 < maxI fs * 25 then 1
  else if 2000000000 * 2 ^ 44 < s.laneRate n then 2
  else if s.orderOk n = false then 3
  else if s.magOk n = false then 4
  else if k < 4 ∨ 12 < k ∨ s.stnB n ≤ s.fget (STNn_SC_CFG_SOS_BEAM n) then 5
  else if s.fget (STNn_HD_STATUS_HREC_ERR n) ≠ 0 then 6
  else 0

/-- Run the configuration checks of a station. -/
def State.recheckCfg (s : State) (n : Nat) : State :=
  if s.stnEnabled n then s.setCfg n (if s.isBar n then s.barCfg n else s.scanCfg n) else s

/-- HREC_DONE (R261): the record that runs ends. On success the header fields, the CRC and the defective emitters are
taken; on failure CFG code 6 and HREC_BAD follow. -/
def execHrecDone (n : Nat) (rec : Option (List Byte)) (s : State) : Host.Outcome State Fault Refusal :=
  onUnit (n < 6) (if s.bit (STNn_HD_STATUS_HREC_BUSY n) = false then s else
    let err := s.hrecCheck n rec
    let r := rec.getD []
    let s1 := s.fsets [(STNn_HD_STATUS_HREC_BUSY n, 0), (STNn_HD_STATUS_HREC_ERR n, err),
      (STNn_HD_STATUS_HREC_OK n, if err = 0 then 1 else 0)]
    let s2 :=
      if err ≠ 0 then s1.sendFault (timingSrc n) 0x22 err
      else
        let len := 68 + recField r 40 4 + 2 * recField r 46 2
        let s3 := s1.fsets [(STNn_HD_INFO_RANK n, recField r 7 1), (STNn_HD_INFO_FEATURES n, recField r 6 1),
          (STNn_HD_INFO_KIND n, recField r 5 1), (STNn_HD_UNITS_NDEF n, recField r 46 2), (STNn_HD_UNITS_UNITS n, recField r 40 4),
          (STNn_HD_STATUS_STATUS_TGT n, recField r 6 1 % 2), (STNn_HD_CRC_CRC n, recField r (len - 4) 4)]
        s3.modStn n (fun t => { t with
          head := { t.head with maxRate := recField r 48 2, minOn := recField r 50 2 },
          bar := { t.bar with known := (recDefs r).foldl (fun l e => insertKnown l e 0) t.bar.known } })
    (s2.recheckCfg n).stnEvent n 0x23)

/-! ### The status target, lanes and emitters (R257, R258, R264, R265) -/

/-- The fault source of a head-link lane (R410). -/
def laneSrc (n l : Nat) : Nat := 0x080 + 0x20 * n + l

/-- The logical lane that a physical lane carries, with LANE_SUB in effect (R192). -/
def State.laneSub (s : State) (n : Nat) : Nat :=
  if s.fget (STNn_PL_LANE_LANE_SUB n) < 16 then s.fget (STNn_PL_LANE_LANE_SUB n) else 31

/-- LANE_SUB as last written. -/
def State.laneSubLatest (s : State) (n : Nat) : Nat :=
  if s.latest (STNn_PL_LANE_LANE_SUB n) < 16 then s.latest (STNn_PL_LANE_LANE_SUB n) else 31

/-- Lane 16 can carry another (R13, R455): it has neither failed nor been retired. -/
def State.spareLane (s : State) (n : Nat) : Bool := !s.bit (STNn_BR_LANEl_FAILED n 16) && s.unitOk (laneSrc n 16)

/-- A physical lane fails (R257). -/
def State.laneFail (s : State) (n l count : Nat) : State :=
  let s1 := (s.fset (STNn_BR_LANEl_FAILED n l) 1).sendFault (laneSrc n l) 0x01 count
  let sub := s.laneSubLatest n
  if (l < 16 ∧ l = sub) ∨ (l = 16 ∧ sub = 31) then s1
  else if l < 16 ∧ sub = 31 ∧ s.bit (STNn_BR_CTRL_AUTO_LANE n) = true ∧ s.spareLane n = true then
    (if s.stnEnabled n then s1.shadowSet (STNn_PL_LANE_LANE_SUB n) l else s1.fset (STNn_PL_LANE_LANE_SUB n) l).stnEvent n 0x17
  else s1.fset (STNn_BR_STATUS_LANE_DEAD n) 1

/-- The lane counts of a status read: the baseline at the first read after BAR_EN, each lane's errors and failure (R257). -/
def State.laneCounts (s : State) (n : Nat) (lanes : List Nat) : State :=
  let base := ((s.stnOf n).bar.base).getD lanes
  let s0 := s.modStn n (fun t => { t with bar := { t.bar with base := some base } })
  (List.range 17).foldl (fun s l =>
    let c := lanes.getD l 0 - base.getD l 0
    let s1 := s.fset (STNn_BR_LANEl_ERRS n l) c
    if max 1 (s.fget (STNn_BR_LANE_THR_THR n)) ≤ c ∧ s.bit (STNn_BR_LANEl_FAILED n l) = false then s1.laneFail n l c else s1) s0

/-- An increase of the sum of the counts since the last read (the first read finds none: DEDUCED, log entry 49) goes to the plane whose window holds BAD_LINE, else to the oldest open window
(R258). The sheet's line numbers are compared by their low 32 bits. -/
def State.laneBlank (s : State) (n : Nat) (lanes : List Nat) (badLine : Nat) : State :=
  let sum := lanes.foldl (· + ·) 0
  let old := ((s.stnOf n).bar.sum).getD sum
  let s1 := s.modStn n (fun t => { t with bar := { t.bar with sum := some sum } })
  if sum ≤ old then s1 else
  let l := sext 32 badLine
  let w := match (s.stnOf n).windows.find? (fun w => decide (-64 ≤ l ∧ l ≤ (w.n : Int) + 63)) with
    | some w => some w
    | none => (s.stnOf n).windows.head?
  let s2 := match w with
    | some w => s1.addBlank n w.seq (sum - old)
    | none => s1
  (s2.flag (STNn_BR_STATUS_LANE_ERR n)).stnEvent n 0x14

/-- HEAD_STATUS_READ (R264): HATN_N falling starts a read of the status target of a bar head; none: a bus error. -/
def execHeadStatusRead (n : Nat) (st : Option HeadStat) (s : State) : Host.Outcome State Fault Refusal :=
  onUnit (n < 6) (if s.isBar n = false ∨ s.bit (STNn_HD_STATUS_STATUS_TGT n) = false then s else
    match st with
    | none => ((s.fset (STNn_HD_STATUS_HEAD_FAULT n) 1).sendFault (timingSrc n) 0x23 3).stnEvent n 0x24
    | some h =>
      let s1 := if h.cause.testBit 0 then (s.laneCounts n h.lanes).laneBlank n h.lanes h.badLine else s
      let s2 := if h.cause.testBit 1 then h.fails.foldl (fun s e => s.addFailed n e 1) s1 else s1
      if h.cause.testBit 2 then
        ((s2.fset (STNn_HD_STATUS_HEAD_FAULT n) 1).sendFault (timingSrc n) 0x23 (0x100 + h.faultCode)).stnEvent n 0x24
      else s2.fset (STNn_HD_STATUS_HEAD_FAULT n) 0)

/-- EMITTER of STNn_BR_DEF_ADD (R265): an emitter of the bar is added to the list, with origin 2. -/
def State.defAdd (s : State) (n emitter : Nat) : State := if emitter % 65536 < s.stnN n then s.addFailed n (emitter % 65536) 2 else s

/-- DEF_ADD (R265): a value at or beyond N is ignored. -/
def execDefAdd (n : Nat) (emitter : Nat) (s : State) : Host.Outcome State Fault Refusal := onUnit (n < 6) (s.defAdd n emitter)

/-! ### Head temperature (R267 to R270) -/

/-- The thermistor input of a station; 80 and above: none (R267, R273). -/
def State.thAin (s : State) (n : Nat) : Option Nat :=
  if s.fget (STNn_HD_TH_CFG_TH_AIN n) < 80 then some (s.fget (STNn_HD_TH_CFG_TH_AIN n)) else none

/-- A code beyond a limit, on the hot side of it. -/
def beyond (pol : Bool) (code lim : Nat) : Bool := if pol then decide (lim < code) else decide (code < lim)

/-- A conversion of the thermistor input is judged (R267 to R269). -/
def State.headConv (s : State) (n code : Nat) : State :=
  let pol := s.bit (STNn_HD_TH_CFG_TH_POL n)
  let warn := s.fget (STNn_HD_TH_LIMIT_TH_WARN n)
  let hyst := s.fget (STNn_HD_TH_HYST_TH_HYST n)
  let w := beyond pol code warn
  let cool := if pol then decide (code + hyst ≤ warn) else decide (warn + hyst ≤ code)
  let hot := beyond pol code (s.fget (STNn_HD_TH_LIMIT_TH_HARD n))
  let hd := (s.stnOf n).head
  let hd' := { hd with warnRun := if w then hd.warnRun + 1 else 0, coolRun := if cool then hd.coolRun + 1 else 0,
                       hotRun := if hot then hd.hotRun + 1 else 0, convAt := some s.tick }
  let s1 := (s.modStn n (fun t => { t with head := hd' })).fsets [(STNn_HD_TH_NOW_CODE n, code), (STNn_HD_STATUS_TH_STALE n, 0)]
  let s2 := if 4 ≤ hd'.warnRun ∧ s1.bit (STNn_HD_STATUS_WARN n) = false then
      ((s1.fset (STNn_HD_STATUS_WARN n) 1).sendFree (timingSrc n) 0x20).1.stnEvent n 0x20
    else if 4 ≤ hd'.coolRun ∧ s1.bit (STNn_HD_STATUS_WARN n) = true then (s1.fset (STNn_HD_STATUS_WARN n) 0).stnEvent n 0x22
    else s1
  if 2 ≤ hd'.hotRun ∧ s2.bit (STNn_HD_STATUS_HOT n) = false then
    ((((s2.flag (STNn_HD_STATUS_HOT n)).modStn n (fun t => { t with
      head := { t.head with hotDetail := msgDetail (timingSrc n) 0x21 code } })).failOpen n 3 (msgDetail (timingSrc n) 0x21 code)).sendFault (timingSrc n) 0x21 code).stnEvent n 0x21
  else s2

/-- TH_STALE (R267): more than 1 ms without a conversion while the station is enabled. -/
def execThStale (n : Nat) (s : State) : Host.Outcome State Fault Refusal :=
  onUnit (n < 6) (
    let gap : Bool := match (s.stnOf n).head.convAt with
      | some t => decide (t + msTicks 1 < s.tick)
      | none => decide (msTicks 1 < s.tick)
    if s.stnEnabled n ∧ (s.thAin n).isSome ∧ gap = true ∧ s.bit (STNn_HD_STATUS_TH_STALE n) = false then
      ((s.fset (STNn_HD_STATUS_TH_STALE n) 1).sendFault (timingSrc n) 0x23 2).stnEvent n 0x24
    else s)

/-- A 1 written to HOT (R270): refused while the head is not cool. -/
def State.hotClear (s : State) (n : Nat) : State :=
  if s.bit (STNn_HD_STATUS_WARN n) ∨ (s.stnOf n).head.hotRun ≠ 0 then s.flag (STNn_HD_STATUS_CLR_REFUSED n)
  else s.fset (STNn_HD_STATUS_HOT n) 0

/-- HOT_CLEAR (R270): refused while WARN is set or a conversion lies beyond TH_HARD. -/
def execHotClear (n : Nat) (s : State) : Host.Outcome State Fault Refusal := onUnit (n < 6) (s.hotClear n)

/-- The head's own conditions of readiness (R271). -/
def State.headReady (s : State) (n : Nat) : Bool :=
  !s.bit (STNn_HD_STATUS_WARN n) && !s.bit (STNn_HD_STATUS_HOT n) && !s.bit (STNn_HD_STATUS_TH_STALE n)
  && !s.bit (STNn_HD_STATUS_HEAD_FAULT n)

end Sys2Proof.Machine
end

