-- ==== Sys2Proof/Machine/Bar.lean ====
section
/-! DEFINITION. Bar stations: the line grid, shift, latch and expose (R244 to R256, R271). -/

namespace Sys2Proof.Machine

/-- STNn_EXPOSE of a bar station may rise (R253). -/
def State.exposeOpen (s : State) (n : Nat) : Bool :=
  s.bit (STNn_BR_CTRL_BAR_EN n) && s.bit (STNn_BR_CTRL_EXP_EN_REQ n) && !s.safeImg && !s.bit (STNn_HD_STATUS_HOT n)

/-- READY of a bar station (R271). -/
def State.barReady (s : State) (n : Nat) : Bool :=
  s.exposeOpen n && s.fget (STNn_BR_STATUS_CFG n) == 0 && s.bit (STNn_HD_STATUS_HREC_OK n)
  && s.bit (STNn_BR_STATUS_PIX_LOCK n) && !s.bit (STNn_BR_STATUS_LANE_DEAD n) && s.headReady n
  && (s.spliceOkNow n || !s.bit (STNn_BR_CTRL_DEF_CHECK n))

/-- The B fields of the bar registers, and LANE_SUB (R204, R244). -/
def brShadows (n : Nat) : List Fld :=
  [STNn_BR_CTRL_CENTER n, STNn_BR_FRAME_SHIFT_START n, STNn_BR_ONTIME_ON_UNIT n, STNn_PL_LANE_LANE_SUB n]

/-- The station's time in units of 1/64 of `pixUnit` to a PIX cycle: 1/64 of a TB tick of 4 ns is NOM of them. -/
def State.barTime (s : State) (n at64 : Nat) : Nat := at64 * s.fget (STNn_BR_RATE_NOM n)
def State.barNow (s : State) (n : Nat) : Nat := s.barTime n (64 * s.tick)
def barCycles (k : Nat) : Nat := k * (64 * pixUnit)

/-- When the station's position crossed a boundary at `q`, in 1/64 of a TB tick: between the last tick and this one by linear interpolation
(R209). -/
def State.crossAt (s : State) (n : Nat) (q : Int) : Nat :=
  let cur := s.belt - s.ofsOf n
  match s.hist with
  | (_, b) :: _ =>
    let prev := b - s.ofsOf n
    if s.net.timeOn = true ∧ prev < q ∧ q ≤ cur then 64 * (s.tick - 1) + (64 * (q - prev) / (cur - prev)).toNat else 64 * s.tick
  | [] => 64 * s.tick

/-- The cycles from a frame's start of counting to the end of its LATCH pulse and of its setup (R248, R249). -/
def State.latchEnd (s : State) (n : Nat) (data : Bool) : Nat :=
  s.shiftStart n + 20 + (if data then s.barD n else 0) + s.latchW n
def State.setupEnd (s : State) (n : Nat) (data : Bool) : Nat := s.latchEnd n data + 16

/-- The own line of a window at a station position: the nearest, ties to the lower (R245). -/
def nearestLine (p c : Int) (u : Nat) : Int := -((-(2 * (p - c) - u)) / (2 * (u : Int)))

/-- The header bits 0 to 111 of a bar frame on a logical lane (R255). -/
def State.barHeader (s : State) (n lane : Nat) (blank : Bool) (line : Int) : List Bool :=
  bitsOf 0x5A3C 16 ++ bitsOf lane 4 ++ bitsOf 0 4 ++ [blank, s.bit (STNn_BR_CTRL_CENTER n)] ++ bitsOf 0 6
  ++ bitsOf (uint 32 line) 32 ++ bitsOf (s.fget (STNn_BR_ONTIME_ON_UNIT n)) 12 ++ bitsOf 0 4 ++ bitsOf (s.stnN n / 16) 16
  ++ bitsOf 0 16

/-- A bar frame on a logical lane (R255, R256). -/
def State.barFrame (s : State) (n lane : Nat) (codes : Option (List Nat)) (line : Int) : List Bool :=
  match codes with
  | some c =>
    let d := padBits (barLane c (s.stnN n) lane (s.bit (STNn_PL_CFG_BAR_ORDER n))) (8 * s.barD n)
    withHcrc (s.barHeader n lane false line) ++ d ++ bitsOf (crc16 d) 16 ++ bitsOf 0xC3A5 16
  | none => withHcrc (s.barHeader n lane true line) ++ bitsOf 0xFFFF 16 ++ bitsOf 0xC3A5 16

/-- The windows that the frame of the boundary at position `p` serves, each with its own line. -/
def State.barWindows (s : State) (n : Nat) (p : Int) : List (Win × Int) :=
  ((s.stnOf n).windows.map (fun w => (w, nearestLine p w.commit (s.lineUnits n)))).filter
    (fun w => decide (-64 ≤ w.2 ∧ w.2 ≤ (w.1.n : Int) + 63))

/-- The codes of a line that is ready, or the state with its planes counted late (R194). -/
def State.barCodes (s : State) (n : Nat) (ws : List (Win × Int)) : Option (List Nat) × State :=
  if ws = [] then (none, s) else
  let c := s.lineCodes n ws
  if c.all (fun x => x.isSome) then
    let late := s.overlapped n ws
    (some (c.map (fun x => x.getD 0)),
     (ws.filter (fun w => late.contains w.1.seq)).foldl (fun s w => s.lateLine n w.1.seq w.2) s)
  else (none, ws.foldl (fun s w => s.lateLine n w.1.seq w.2) s)

/-- Send the frame of the line at boundary position `p`, line `l` of the reference plane, counted from `t0` (R245, R248, R249):
a data frame, a BLANK frame, or none outside every window and before the first idle is over. -/
def State.barSend (s : State) (n : Nat) (p l : Int) (t0 : Nat) : State :=
  let ws := s.barWindows n p
  if ws = [] ∨ s.linkOpen n = false then s.modStn n (fun t => { t with bar := { t.bar with latched := none, frameAt := t0 } }) else
  let s0 := ws.foldl (fun s w => if w.2 = 0 then s.lineZero n w.1.seq else s) s
  let r : Option (List Nat) × State :=
    if s0.safeImg ∨ s0.bit (STNn_HD_STATUS_HOT n) = true then (none, s0)
    else
      let x := s0.lineWindows n ws
      x.2.barCodes n x.1
  let fr : HeadFrame := ⟨l, r.1.isNone, (r.1.toList),
    placeLanes (r.2.laneSub n) ((List.range 16).map (fun k => r.2.barFrame n k r.1 l)), []⟩
  r.2.modStn n (fun t => { t with sent := some fr, bar := { t.bar with latched := some (l, r.1.isSome), frameAt := t0 } })

/-- EXPOSE is high at a time (R252, R253): for 63 × ON_UNIT periods of STNn_CK, 4 to a PIX cycle, and while it may be. -/
def State.exposing (s : State) (n now : Nat) : Bool :=
  match (s.stnOf n).bar.exposeAt with
  | some t => decide (t ≤ now ∧ now < t + 63 * s.fget (STNn_BR_ONTIME_ON_UNIT n) * (64 * pixUnit / 4))
      && s.bit (STNn_BR_CTRL_BAR_EN n) && s.bit (STNn_BR_CTRL_EXP_EN_REQ n) && !s.safeImg
  | none => false

/-- The levels of STNn_EXPOSE and STNn_LATCH of a bar station now (R248, R249); STNn_APC is low (R253). -/
def State.barExpose (s : State) (n : Nat) : Bool := s.exposing n (s.barNow n)
def State.barLatch (s : State) (n : Nat) : Bool :=
  match (s.stnOf n).bar.latched with
  | some (_, data) =>
    decide ((s.stnOf n).bar.frameAt + barCycles (s.latchEnd n data - s.latchW n) ≤ s.barNow n
      ∧ s.barNow n < (s.stnOf n).bar.frameAt + barCycles (s.latchEnd n data))
  | none => false

/-- A boundary that arrives before its line's setup is complete (R250); the first of each plane sends a message with the plane's own line. -/
def State.barOverrun (s : State) (n : Nat) (ws : List (Win × Int)) : State :=
  let s1 := ((s.fsat (STNn_BR_COUNT_OVERRUNS n) 1).flag (STNn_BR_STATUS_OVERRUN n)).stnEvent n 0x11
  let live := ws.filter (fun w => s.winLive w.1)
  let s2 := (ws.filter (fun w => !w.1.overrun)).foldl (fun s w => s.sendFault (timingSrc n) 0x18 (uint 16 w.2)) s1
  (live.foldl (fun s w => s.lateLine n w.1.seq w.2) s2).modStn n (fun t => { t with
    windows := t.windows.map (fun w => if ws.any (fun v => v.1.seq == w.seq) then { w with overrun := true } else w) })

/-- Open the windows whose line −64 or a later one is due at the boundary position `p` (R205). -/
def State.barOpen (s : State) (n : Nat) (p : Int) : State :=
  ((s.windowSheets n).filter (fun sh => decide (-64 ≤ nearestLine p sh.commitPos (s.lineUnits n)))).foldl (fun s sh =>
    let s1 := s.openWindow n sh
    if s1.bit (STNn_HD_STATUS_HOT n) then s1.failSheet sh.seq 3 (s1.stnOf n).head.hotDetail
    else s1) s

/-- The grid of the line boundaries (R244): that of the reference plane, which changes at the first boundary after its window's close (R224). -/
def State.barGrid (s : State) (n : Nat) : Int :=
  match (s.stnOf n).bar.hold with
  | some r => r.2
  | none => match s.refPlane n with | some r => r.2 | none => 0

/-- The output line of the reference plane at a boundary position. -/
def State.refLine (s : State) (n : Nat) (p : Int) : Int :=
  nearestLine p (match s.refPlane n with | some r => r.2 | none => 0) (s.lineUnits n)

/-- The first position of a grid beyond a position. -/
def nextGrid (c m u : Int) : Int := c + ((m - c) / u + 1) * u

/-- Close the windows whose last line is exposed at a boundary; the reference plane's grid holds up to the next one (R205, R224). -/
def State.barClose (s : State) (n margin : Nat) (p : Int) : State :=
  let s1 := s.closeWindows n margin (fun w => decide ((w.n : Int) + 63 ≤ nearestLine p w.commit (s.lineUnits n)))
  match (s.stnOf n).windows with
  | w :: _ => if (s1.stnOf n).windows.any (fun x => x.seq == w.seq) then s1
      else s1.modStn n (fun t => { t with bar := { t.bar with hold := some (w.seq, w.commit) } })
  | [] => s1

/-- One line boundary (R248): the line at position `p` is strobed at `at64`, and the frame of the next one is sent. -/
def State.barBoundary (s : State) (n margin at64 : Nat) (p : Int) : State :=
  let b := (s.stnOf n).bar
  let now := s.barTime n at64
  let data := match b.latched with | some x => x.2 | none => false
  let early := b.latched.isSome && decide (now < b.frameAt + barCycles (s.setupEnd n data))
  let t0 := if early then max now (b.frameAt + barCycles (s.latchEnd n data)) else now
  let trunc := s.exposing n now
  let s1 := (s.applyShadow (brShadows n)).modStn n (fun t => { t with bar := { t.bar with maxPos := some p, hold := none, exposeAt := none } })
  let s2 := if trunc then ((s1.fsat (STNn_BR_COUNT_TRUNCS n) 1).flag (STNn_BR_STATUS_TRUNC n)).stnEvent n 0x12 else s1
  let s3 := if early then s2.barOverrun n (s2.barWindows n p)
    else if data ∧ s2.exposeOpen n = true then
      s2.modStn n (fun t => { t with bar := { t.bar with exposeAt := some (if trunc then now + barCycles 4 else now) } })
    else s2
  let s4 := (s3.fset (STNn_BR_LINE_LINE n) (uint 32 (s3.refLine n p))).stnEvent n 0x10
  let s5 := (s4.barClose n margin p).recheckCfg n
  let q := nextGrid (s5.barGrid n) p (s.lineUnits n)
  let s6 := s5.barOpen n q
  s6.barSend n q (s6.refLine n q) t0

/-- The line boundaries up to the station's position, in order. -/
def State.barBoundaries (s : State) (n margin : Nat) : Nat → State
  | 0 => s
  | k + 1 =>
    let b := (s.stnOf n).bar
    let pos := s.belt - s.ofsOf n
    let q := nextGrid (s.barGrid n) ((b.maxPos <|> b.low).getD pos) (s.lineUnits n)
    if q ≤ pos then (s.barBoundary n margin (s.crossAt n q) q).barBoundaries n margin k else s

/-- LINE_BOUNDARY (R244, R246): the station's position has crossed grid boundaries of the reference plane beyond the greatest
one already crossed; `margin` is the rate the pipeline measured, for a plane whose window closes (R200). -/
def execLineBoundary (n margin : Nat) (s : State) : Host.Outcome State Fault Refusal :=
  onUnit (n < 6) (
    if s.isBar n = false ∨ s.bit (STNn_BR_CTRL_BAR_EN n) = false ∨ s.beltRuns = false then s else
    let b := (s.stnOf n).bar
    let pos := s.belt - s.ofsOf n
    s.barBoundaries n margin ((pos - (b.maxPos <|> b.low).getD pos) / (s.lineUnits n : Int) + 2).toNat)

/-- While no boundary has been crossed since BAR_EN was set, the lowest position says which the belt will cross (R244). -/
def State.barLow (s : State) : State :=
  (List.range 6).foldl (fun s n =>
    if s.isBar n = true ∧ s.bit (STNn_BR_CTRL_BAR_EN n) = true ∧ (s.stnOf n).bar.maxPos.isNone then
      let pos := s.belt - s.ofsOf n
      s.modStn n (fun t => { t with bar := { t.bar with low := some (min pos (t.bar.low.getD pos)) } })
    else s) s

/-- BAR_EN changes from 0 to 1 (R244, R251, R257, R261). -/
def State.barEnable (s : State) (n : Nat) : State :=
  let s1 := (s.fsets [(STNn_BR_CTRL_BAR_EN n, 1), (STNn_BR_STATUS_LANE_DEAD n, 0)]).modStn n (fun t => { t with
    bar := { t.bar with maxPos := none, low := some (s.belt - s.ofsOf n), hold := none, latched := none, exposeAt := none, base := none } })
  (s1.recheckCfg n).hrecStart n

/-- BAR_ENABLE (R261). -/
def execBarEnable (n : Nat) (s : State) : Host.Outcome State Fault Refusal :=
  onUnit (n < 6) (if s.isBar n ∧ s.bit (STNn_BR_CTRL_BAR_EN n) = false then s.barEnable n else s)

end Sys2Proof.Machine
end

