-- ==== Sys2Proof/Machine/Scan.lean ====
section
/-! DEFINITION. Scan stations: facets, pixel clock, lines from belt position, SOS and EOS, learning, survey, framing and
readiness (R214 to R242). -/

namespace Sys2Proof.Machine

/-- LD_EN of a scan station (R238). -/
def State.ldEn (s : State) (n : Nat) : Bool :=
  s.bit (STNn_SC_CTRL_SC_EN n) && s.bit (STNn_SC_CTRL_LD_EN_REQ n) && !s.safeImg

/-- READY of a scan station (R242, R271). -/
def State.scanReady (s : State) (n : Nat) : Bool :=
  s.ldEn n && s.fget (STNn_SC_STATUS_CFG n) == 0 && s.bit (STNn_HD_STATUS_HREC_OK n) && s.bit (STNn_SC_STATUS_PIX_LOCK n)
  && s.bit (STNn_SC_STATUS_TRACKING n) && s.bit (STNn_SC_STATUS_FACET_SYNC n) && !s.bit (STNn_SC_STATUS_LOST n)
  && s.bit (STNn_SC_STATUS_PH_SETTLED n) && s.headReady n

/-- A station's own conditions of readiness, by its kind. -/
def State.headLinkReady (s : State) (n : Nat) : Bool := if s.isBar n then s.barReady n else s.scanReady n

/-- The B fields of the scan registers, and LANE_SUB (R214, R243). -/
def scShadows (n : Nat) : List Fld :=
  [STNn_SC_CTRL_APC_EN n, STNn_SC_PIXFREQ_NOM n, STNn_SC_SOS_DELAY_DELAY n, STNn_SC_SOS_WIN_HALF n, STNn_SC_APC_START_START n,
   STNn_SC_APC_LEN_LEN n, STNn_SC_EOS_REF_REF n, STNn_SC_PHASE_TGT_TGT n, STNn_SC_BEAM_MASK_MASK n, STNn_PL_LANE_LANE_SUB n]
  ++ (List.range 12).flatMap (fun f => [STNn_SC_FACETf_OFFSET n f, STNn_SC_FACETf_MAG n f])
  ++ (List.range 32).map (fun b => STNn_SC_BEAMb_OFFSET n b)

/-- Change the scan part of a station. -/
def State.modScan (s : State) (n : Nat) (f : ScanSt → ScanSt) : State := s.modStn n (fun t => { t with scan := f t.scan })

/-- A quotient rounded to the nearest integer. -/
def divRound (a : Int) (b : Nat) : Int := (2 * a + b) / (2 * b)

/-- OFF_b as it acts (R221): for the plane that the beam writes, if any (R235). -/
def State.beamOff (s : State) (n : Nat) (w : Option Win) (b : Nat) : Int :=
  let v := match w.bind (fun (w : Win) => w.keep) with
    | some k => k.2.getD b 0
    | none => s.fget (STNn_SC_BEAMb_OFFSET n b)
  max (-4096) (min 4095 (sext 16 v))

/-- FACETS as it acts in counting. -/
def State.facets (s : State) (n : Nat) : Nat := max 1 (s.fget (STNn_SC_CFG_FACETS n))

/-- MAG_f in force (R217, R235): that of the oldest open window. -/
def State.magOf (s : State) (n f : Nat) : Nat :=
  match ((s.stnOf n).windows.head?).bind (fun (w : Win) => w.keep) with
  | some k => k.1.getD f 0
  | none => s.fget (STNn_SC_FACETf_MAG n f)

/-! ### The facet in progress (R215) -/

/-- Pixel clocks since the SOS time of the facet in progress, at its own frequency (R215, R217). -/
def State.scanPos (s : State) (n : Nat) : Nat :=
  let t := (s.stnOf n).scan
  let f := s.facetEntry n (s.fget (STNn_SC_FACET_FACET n))
  t.lag + (s.tick - t.startTick) * ((s.fget (STNn_SC_PIXFREQ_NOM n) : Int) * (2 ^ 20 + sext 16 (s.magOf n f))).toNat / (pixUnit * 2 ^ 20)

/-- D of R215, in pixel clocks. -/
def State.dataStart (s : State) (n : Nat) : Int :=
  ((s.fget (STNn_SC_SOS_DELAY_DELAY n) : Int) + sext 16 (s.fget (STNn_SC_FACETf_OFFSET n (s.facetEntry n (s.fget (STNn_SC_FACET_FACET n)))))) / 64

/-- The levels of STNn_EXPOSE, STNn_LATCH and STNn_APC of a scan station now (R215, R237, R238). -/
def State.scanExpose (s : State) (n : Nat) : Bool := s.ldEn n
def State.scanLatch (s : State) (n : Nat) : Bool :=
  s.bit (STNn_SC_CTRL_SC_EN n) && (s.stnOf n).sent.isSome && decide (s.dataStart n ≤ s.scanPos n ∧ (s.scanPos n : Int) < s.dataStart n + 1)
def State.scanApc (s : State) (n : Nat) : Bool :=
  s.ldEn n && s.bit (STNn_SC_CTRL_APC_EN n) && decide (s.fget (STNn_SC_APC_START_START n) ≤ s.scanPos n
    ∧ s.scanPos n < s.fget (STNn_SC_APC_START_START n) + s.fget (STNn_SC_APC_LEN_LEN n))

/-- The levels of a station's control balls now, by its kind. -/
def State.stnExpose (s : State) (n : Nat) : Bool := if s.isBar n then s.barExpose n else s.scanExpose n
def State.stnLatch (s : State) (n : Nat) : Bool := if s.isBar n then s.barLatch n else s.scanLatch n
def State.stnApc (s : State) (n : Nat) : Bool := !s.isBar n && s.scanApc n

/-! ### Facet identity, intervals and learning (R230, R233, R234) -/

/-- Start of tracking: the learned facet tables clear where facets have no identity (R233), and the phase condition starts
afresh (R242). -/
def State.startTracking (s : State) (n : Nat) : State :=
  let s1 := (s.fsets [(STNn_SC_STATUS_TRACKING n, 1), (STNn_SC_STATUS_PH_SETTLED n, 0), (STNn_SC_COUNT_CONSEC n, 0)]).modScan n
    (fun t => { t with settle := 0, ivs := [], pSum := 0, pNum := 0, last := none })
  if s.bit (STNn_SC_CFG_FACET_SRC n) then
    (s1.fsets ((List.range 12).flatMap (fun f => [(STNn_SC_FLEARNf_PERDEV n f, 0), (STNn_SC_FLEARNf_MAG n f, 0)]))).fset
      (STNn_SC_STATUS_FACET_SYNC n) 1 |>.fset (STNn_SC_FACET_FACET n) (s.facets n - 1)
  else s1

/-- The index of the facet that begins, with a renumbering by the Z index of the drive (R233). -/
def State.nextFacet (s : State) (n : Nat) : State :=
  let k := s.facets n
  let f := (s.fget (STNn_SC_FACET_FACET n) + 1) % k
  let z := (s.stnOf n).scan.zNext
  let s1 := s.modScan n (fun t => { t with zNext := false })
  if z ∧ s.bit (STNn_SC_CFG_FACET_SRC n) = false then
    if s.bit (STNn_SC_STATUS_FACET_SYNC n) = false then s1.fsets [(STNn_SC_STATUS_FACET_SYNC n, 1), (STNn_SC_FACET_FACET n, 0)]
    else if f = 0 then s1.fset (STNn_SC_FACET_FACET n) 0
    else ((s1.fset (STNn_SC_FACET_FACET n) 0).sendFree (timingSrc n) 0x17).1.stnEvent n 0x1A
  else s1.fset (STNn_SC_FACET_FACET n) f

/-- Where facets have no identity the one entry is learned once per revolution, at the facet counted 0 (R233, R234; DESIGN CHOICE, log entry 48). -/
def State.learns (s : State) (n : Nat) : Bool := !s.bit (STNn_SC_CFG_FACET_SRC n) || s.fget (STNn_SC_FACET_FACET n) == 0

/-- The interval that ends at the facet: MEAN over the last revolution, and the facet's learned deviation (R216, R230, R234). The first edge of a
tracking ends none. -/
def State.learnInterval (s : State) (n : Nat) (iv : Option Nat) (measured : Bool) : State :=
  match iv with
  | none => s
  | some iv =>
    let f := s.facetEntry n (s.fget (STNn_SC_FACET_FACET n))
    let m := (s.stnOf n).scan.mean
    let old := sext 16 (s.fget (STNn_SC_FLEARNf_PERDEV n f))
    let s1 := s.modScan n (fun t => { t with ivs := (iv :: t.ivs).take (s.facets n), pSum := t.pSum + iv, pNum := t.pNum + 1 })
    let s2 := s1.fset (STNn_SC_FACET_MEAN n) (uint 20 (divRound (s1.stnOf n).scan.mean 64))
    if measured ∧ (s.stnOf n).scan.ivs.length = s.facets n ∧ s.learns n = true then
      s2.fset (STNn_SC_FLEARNf_PERDEV n f) (uint 16 (old + divRound ((iv : Int) - m - old) 16))
    else s2

/-- The trim of the facet that ends, learned from its SOS-to-EOS interval with the values in force for it (R234). -/
def State.learnMag (s : State) (n : Nat) : State :=
  match (s.stnOf n).scan.nf with
  | none => s
  | some nf =>
    let f := s.facetEntry n (s.fget (STNn_SC_FACET_FACET n))
    let prog := sext 16 (s.magOf n f)
    let old := sext 16 (s.fget (STNn_SC_FLEARNf_MAG n f))
    let s1 := s.modScan n (fun t => { t with nf := none })
    if nf = 0 ∨ s.bit (STNn_SC_CFG_EOS_EN n) = false ∨ s.learns n = false then s1 else
    let tgt := divRound ((2 ^ 20 + prog) * (s.fget (STNn_SC_EOS_REF_REF n) : Int)) nf - 2 ^ 20
    s1.fset (STNn_SC_FLEARNf_MAG n f) (uint 16 (old + divRound (tgt - old) 16))

/-- The planes whose windows are open already keep the values in force up to a copy (R235). -/
def State.keepOld (s : State) (n : Nat) : State :=
  let k := ((List.range 12).map (fun f => s.fget (STNn_SC_FACETf_MAG n f)), (List.range 32).map (fun b => s.fget (STNn_SC_BEAMb_OFFSET n b)))
  s.modStn n (fun t => { t with windows := t.windows.map (fun w => { w with keep := w.keep <|> some k }) })

/-- The copies of learned values at a facet boundary where a window opens (R235). -/
def State.autoCopy (s : State) (n : Nat) : State :=
  let k := s.facets n
  let m := fun f => sext 16 (s.fget (STNn_SC_FLEARNf_MAG n f))
  let ok := s.bit (STNn_SC_CFG_FACET_SRC n) || (List.range k).all (fun f => decide ((m f - m ((f + 1) % k)).natAbs ≤ 5242))
  let s0 := if s.bit (STNn_SC_CTRL_AUTO_FACET n) || s.bit (STNn_SC_CTRL_AUTO_BEAM n) then s.keepOld n else s
  let s1 := if s.bit (STNn_SC_CTRL_AUTO_FACET n) ∧ ok = true then
      (List.range k).foldl (fun s' f => s'.fset (STNn_SC_FACETf_MAG n f) (s.fget (STNn_SC_FLEARNf_MAG n f))) s0
    else s0
  if s.bit (STNn_SC_CTRL_AUTO_BEAM n) then
    (List.range (s.stnB n)).foldl (fun s' b => if s.bit (STNn_SC_BLEARNb_VALID n b) then
      s'.fset (STNn_SC_BEAMb_OFFSET n b) (s.fget (STNn_SC_BLEARNb_OFFSET n b)) else s') s1
  else s1

/-! ### The survey (R236) -/

/-- The SOS window of the facet that begins surveys a beam (R236): SURVEY = 1, the station not in use, an interval known, and of each revolution the
facet 0 (DESIGN CHOICE, log entry 48). -/
def State.surveyFacet (s : State) (n : Nat) : Bool :=
  s.bit (STNn_SC_CTRL_SURVEY n) && !s.stnInUse n && s.bit (STNn_SC_STATUS_TRACKING n) && !s.bit (STNn_SC_STATUS_LOST n)
  && (s.fget (STNn_SC_FACET_FACET n) + 1) % s.facets n == 0 && (s.stnOf n).scan.pNum != 0

/-- The next beam in ascending order; a complete pass is counted. -/
def State.surveyNext (s : State) (n : Nat) : State :=
  let b := s.fget (STNn_SC_SURVEY_BEAM n)
  if b + 1 < s.stnB n then s.fset (STNn_SC_SURVEY_BEAM n) (b + 1) else (s.fset (STNn_SC_SURVEY_BEAM n) 0).fwrap (STNn_SC_SURVEY_PASSES n) 1

/-- Set or clear a beam's bit of BEAM_DEAD. -/
def State.setDead (s : State) (n b : Nat) (v : Bool) : State :=
  let x := s.fget (STNn_SC_BEAM_DEAD_DEAD n)
  s.fset (STNn_SC_BEAM_DEAD_DEAD n) (if v = x.testBit b then x else if v then x + 2 ^ b else x - 2 ^ b)

/-- A survey facet with an edge `sample` past its prediction, or without one. -/
def State.surveyBeam (s : State) (n : Nat) (sample : Option Int) : State :=
  let b := s.fget (STNn_SC_SURVEY_BEAM n)
  let r := (kvGet (s.stnOf n).scan.survey b).getD (0, 0)
  match sample with
  | some x =>
    let old := sext 16 (s.fget (STNn_SC_BLEARNb_OFFSET n b))
    let s1 := (s.fset (STNn_SC_BLEARNb_OFFSET n b) (uint 16 (old + divRound (x - old) 16))).modScan n
      (fun t => { t with survey := kvSet t.survey b (r.1 + 1, 0) })
    let s2 := if 16 ≤ r.1 + 1 then s1.fset (STNn_SC_BLEARNb_VALID n b) 1 else s1
    (s2.setDead n b false).surveyNext n
  | none =>
    let s1 := s.modScan n (fun t => { t with survey := kvSet t.survey b (r.1, r.2 + 1) })
    let s2 := if r.2 + 1 = 3 then
        (((s1.setDead n b true).flag (STNn_SC_STATUS_BEAM_DEAD n)).sendFault (timingSrc n) 0x15 b).stnEvent n 0x18
      else s1
    s2.surveyNext n

/-! ### The lines of a facet (R223 to R226) -/

/-- L0 and e of R223 for a commit position. -/
def State.facetL0 (s : State) (n : Nat) (p c : Int) : Int × Int :=
  let u : Int := s.lineUnits n
  let r := p - c - s.fget (STNn_SC_PHASE_TGT_TGT n)
  let l0 := (r + u / 2) / u
  (l0, r - l0 * u)

/-- The place of beam `b` among a facet's lines (R223). -/
def State.beamLine (s : State) (n b : Nat) : Nat := if s.bit (STNn_SC_CFG_BEAM_DIR n) then s.stnB n - 1 - b else b

/-- The windows of the facet's line `i`, each with its own line. -/
def State.facetWindows (s : State) (n : Nat) (p : Int) (i : Nat) : List (Win × Int) :=
  ((s.stnOf n).windows.map (fun w => (w, (s.facetL0 n p w.commit).1 + i))).filter
    (fun w => decide (-64 ≤ w.2 ∧ w.2 ≤ (w.1.n : Int) + 63))

/-- A slip (R225): the advance of L0 differs from B. Lines that no beam writes count late in their windows. -/
def State.slip (s : State) (n : Nat) (p adv : Int) : State :=
  let b : Int := s.stnB n
  let s1 := (((s.fsat (STNn_SC_COUNT_SLIPS n) 1).flag (STNn_SC_STATUS_SLIP n)).sendFault (timingSrc n) 0x12 (uint 16 (adv - b))).stnEvent n 0x14
  if adv ≤ b then s1 else
  (List.range (adv - b).toNat).foldl (fun s i =>
    ((s.stnOf n).windows.filter (fun w => s.winLive w)).foldl (fun s w =>
      let l := (s.facetL0 n p w.commit).1 - (i + 1 : Int)
      if -64 ≤ l ∧ l ≤ (w.n : Int) + 63 then s.lateLine n w.seq l else s) s) s1

/-- The codes of one beam's line, or none where it sends code 0 throughout: its windows, and the state with late lines of a
masked beam and of R173 counted. -/
def State.beamWindows (s : State) (n : Nat) (p : Int) (b : Nat) (repeated : Nat) : List (Win × Int) × State :=
  let i := s.beamLine n b
  if i < repeated then ([], s) else
  let ws := s.facetWindows n p i
  if (s.fget (STNn_SC_BEAM_MASK_MASK n)).testBit b then
    ([], (ws.filter (fun w => s.winLive w.1)).foldl (fun s w => s.lateLine n w.1.seq w.2) s)
  else s.lineWindows n ws

/-- The first pixel column of which a line has no data (R194). -/
def cutOf (cs : List (List (Option Nat))) : Option Nat :=
  ((cs.filterMap (fun c => c.findIdx? (fun x => x.isNone))).min?)

/-- Codes up to a column, and code 0 from there on (R194). -/
def runOut (cut : Option Nat) (c : List (Option Nat)) : List Nat :=
  match cut with
  | some k => (c.take k).map (fun x => x.getD 0) ++ List.replicate (c.length - k) 0
  | none => c.map (fun x => x.getD 0)

/-- The data of a facet (R194): it starts only when the first 4,096 columns of every line are there; where it does not start
or runs out, every line of it counts late. The codes of the lines with windows, by beam. -/
def State.facetCodes (s : State) (n : Nat) (lines : List (Nat × List (Win × Int))) : Option (List (Nat × List Nat)) × State :=
  let cs := lines.map (fun x => (x.1, s.lineCodes n x.2))
  let full := cs.all (fun x => x.2.all (fun c => c.isSome))
  let starts := cs.all (fun x => (x.2.take 4096).all (fun c => c.isSome))
  let late := fun (s : State) => lines.foldl (fun s x => x.2.foldl (fun s w => s.lateLine n w.1.seq w.2) s) s
  let dup := fun (s : State) => lines.foldl (fun s x =>
    let o := s.overlapped n x.2
    (x.2.filter (fun w => o.contains w.1.seq)).foldl (fun s w => s.lateLine n w.1.seq w.2) s) s
  if starts then (some (cs.map (fun x => (x.1, runOut (cutOf (cs.map (fun y => y.2))) x.2))), if full then dup s else late s) else (none, late s)

/-! ### Frames (R240, R241) -/

/-- What the headers of a facet's frames say (R240): the kind of frame, 0 data, 1 SOS, 2 EOS; BLANK; LINE0; the beam regulated; the beam lit; and
OFF_b of each beam. -/
structure ScanHead where
  kind : Nat
  blank : Bool
  line : Int
  apc : Nat
  light : Nat
  offs : List Int

/-- The header bits 0 to 111 of a frame on a logical lane (R240). -/
def State.scanHeader (s : State) (n lane : Nat) (h : ScanHead) : List Bool :=
  let frac := fun b => if b < s.stnB n then bitsOf (uint 6 (h.offs.getD b 0)) 6 else bitsOf 0 6
  bitsOf 0x5A3C 16 ++ bitsOf lane 4 ++ bitsOf (s.fget (STNn_SC_FACET_FACET n)) 4
  ++ [h.blank, h.kind == 1, h.kind == 2, decide (h.apc ≠ 0xFF) && h.kind != 1, s.bit (STNn_SC_CFG_BEAM_DIR n)] ++ bitsOf 0 3 ++ bitsOf (uint 32 h.line) 32
  ++ frac (2 * lane) ++ frac (2 * lane + 1) ++ bitsOf 0 4 ++ bitsOf h.apc 8 ++ bitsOf h.light 8 ++ bitsOf 0 16

/-- The code of a beam with offset `o` in data slot `j` of a facet, slot 64 being pixel 0 of a beam with zero offset (R215, R221). -/
def slotCode (o : Int) (codes : List Nat) (j : Nat) : Nat :=
  let px : Int := (j : Int) - 64 - o / 64
  if px < 0 then 0 else codes.getD px.toNat 0

/-- A frame on a logical lane (R240, R241): the header, padded to whole pixel clocks, the pixel words, and the trailer. -/
def State.scanFrame (s : State) (n lane : Nat) (h : ScanHead) (words : List (List Nat)) : List Bool :=
  let b := s.stnB n
  let data := words.flatMap (fun w => scanSlice w b lane)
  padBits (withHcrc (s.scanHeader n lane h)) (hdrLen b * (b / 4)) ++ data
  ++ padBits (bitsOf (crc16 data) 16 ++ bitsOf 0xC3A5 16) (trlLen b * (b / 4))

/-- The pixel words of a data frame: N + 128 slots of B codes each (R215, R241). -/
def State.dataWords (s : State) (n : Nat) (offs : List Int) (codes : List (Nat × List Nat)) : List (List Nat) :=
  (List.range (s.stnN n + 128)).map (fun j =>
    (List.range (s.stnB n)).map (fun bm => slotCode (offs.getD bm 0) ((kvGet codes bm).getD []) j))

/-- An SOS or EOS frame of so many slots (R241): the light beam carries code 15 and every other beam code 0. -/
def State.lightFrame (s : State) (n kind beam apc : Nat) (start : Int) (slots : Nat) : LightFrame :=
  let offs := (List.range (s.stnB n)).map (fun b => s.beamOff n (s.stnOf n).windows.head? b)
  let word := (List.range (s.stnB n)).map (fun b => if b = beam then 15 else 0)
  ⟨beam, start, slots, placeLanes (s.laneSub n) ((List.range 16).map (fun k =>
    s.scanFrame n k ⟨kind, false, 0, apc, beam, offs⟩ (List.replicate slots word)))⟩

/-- The phase of the pixel clock in each shim segment, in 1/64 pixel clock after the SOS time: SOS_DELAY + OFF_f − (S_k & 63) (R221), with the
shim bank of the oldest open window. -/
def State.segPhases (s : State) (n : Nat) : List Int :=
  let w := (s.stnOf n).windows.head?
  let t := s.tabs n ((w.map (fun (w : Win) => w.x)).getD (s.bit (STNn_PL_STATUS_SERVED_X n)))
  let bank := (w.map (fun (w : Win) => w.shim)).getD (s.fget (STNn_PL_BANK_SHIM n))
  let base := (s.fget (STNn_SC_SOS_DELAY_DELAY n) : Int)
    + sext 16 (s.fget (STNn_SC_FACETf_OFFSET n (s.facetEntry n (s.fget (STNn_SC_FACET_FACET n)))))
  (List.range 64).map (fun k => base - t.scanOff bank k % 64)

/-- The phase at a pixel (R222): from a segment's first pixel on it moves by at most 1/64 pixel for each pixel clock. -/
def HeadFrame.phaseAt (f : HeadFrame) (nn sp : Nat) : Int :=
  let k := 64 * sp / nn
  let new := f.phase.getD k 0
  if k = 0 then new else
  let old := f.phase.getD (k - 1) 0
  let j : Int := (sp : Int) - ((k * nn + 63) / 64 : Nat) + 1
  if (new - old).natAbs ≤ j then new else old + (new - old).sign * j

/-- When a beam writes a pixel, in 1/64 pixel clock after the facet's SOS time (R221). -/
def State.pixelTime (s : State) (n : Nat) (f : HeadFrame) (w : Option Win) (b sp : Nat) : Int :=
  f.phaseAt (s.stnN n) sp + s.beamOff n w b + 64 * sp

/-- The beam regulated in a facet (R237): the next in ascending order that is not masked; 0xFF for none. -/
def State.apcBeam (s : State) (n : Nat) : Nat :=
  if s.bit (STNn_SC_CTRL_APC_EN n) ∧ s.fget (STNn_SC_APC_LEN_LEN n) ≠ 0 ∧ s.ldEn n = true then
    let b := s.stnB n
    ((List.range b).map (fun i => ((s.stnOf n).scan.apcBeam + i) % b)).find?
      (fun k => !(s.fget (STNn_SC_BEAM_MASK_MASK n)).testBit k) |>.getD 0xFF
  else 0xFF

/-! ### A facet (R214, R223 to R231) -/

/-- Open the windows that the facet first writes, and copy the learned values (R205, R223, R231, R235). -/
def State.scanOpen (s : State) (n : Nat) (p : Int) : State :=
  let open_ := (s.windowSheets n).filter (fun sh => decide (-64 ≤ (s.facetL0 n p sh.commitPos).1 + s.stnB n - 1))
  if open_ = [] then s else
  open_.foldl (fun s sh =>
    let s2 := s.openWindow n sh
    if s2.bit (STNn_HD_STATUS_HOT n) then s2.failSheet sh.seq 3 (s2.stnOf n).head.hotDetail
    else if s2.bit (STNn_SC_STATUS_LOST n) then s2.failSheet sh.seq 4 (s2.stnOf n).scan.lostDetail
    else s2) (s.autoCopy n)

/-- A window has opened while |e| of its facet exceeds PH_READY (R228). -/
def State.phaseWarn (s : State) (n : Nat) (opened : Bool) (e : Int) : State :=
  if opened && decide ((s.fget (STNn_SC_PH_READY_READY n) : Int) < e.natAbs) then (s.flag (STNn_SC_STATUS_PH_WARN n)).stnEvent n 0x19 else s

/-- The phase error of the facet (R224, R228, R242): PHERR, and the count toward the latched phase condition. -/
def State.phase (s : State) (n : Nat) (e : Int) : State :=
  let u : Int := s.lineUnits n
  let s1 := s.fset (STNn_SC_PHERR_PHERR n) (uint 32 (e * 65536 / u))
  let k := if e.natAbs ≤ s.fget (STNn_SC_PH_READY_READY n) then (s.stnOf n).scan.settle + 1 else 0
  let s2 := s1.modScan n (fun t => { t with settle := k })
  if 64 ≤ k ∧ s.bit (STNn_SC_STATUS_TRACKING n) = true then s2.fset (STNn_SC_STATUS_PH_SETTLED n) 1 else s2

/-- The facet is written or blanked, line by line (R223 to R226, R231, R238 to R241): with LD_EN low, while LOST and once HOT every frame is
blank. -/
def State.writeFacet (s : State) (n : Nat) (p : Int) (l0 : Int) (repeated : Nat) : State :=
  let b := s.stnB n
  let due := (List.range b).any (fun i => !(s.facetWindows n p i).isEmpty)
  let apc := s.apcBeam n
  let s0 := s.modScan n (fun t => { t with apcBeam := if apc = 0xFF then t.apcBeam else (apc + 1) % b, apcNow := apc })
  let s1 := (s0.stnOf n).windows.foldl (fun s w =>
    if (List.range b).any (fun i => (s.facetL0 n p w.commit).1 + (i : Int) == 0) then s.lineZero n w.seq else s) s0
  let r : Option (List (Nat × List Nat)) × State :=
    if s1.bit (STNn_SC_STATUS_LOST n) = true ∨ s1.bit (STNn_HD_STATUS_HOT n) = true ∨ s1.ldEn n = false then (none, s1)
    else if due = false then (some [], s1)
    else
      let x := (List.range b).foldl (fun (a : List (Nat × List (Win × Int)) × State) bm =>
        let y := a.2.beamWindows n p bm repeated
        (if y.1 = [] then a.1 else a.1 ++ [(bm, y.1)], y.2)) ([], s1)
      if x.1 = [] then (some [], x.2) else x.2.facetCodes n x.1
  let offs := (List.range b).map (fun bm => s.beamOff n ((s.facetWindows n p (s.beamLine n bm)).head?.map (fun w => w.1)) bm)
  let h : ScanHead := ⟨0, r.1.isNone, l0, apc, 0xFF, offs⟩
  let words := r.2.dataWords n offs (r.1.getD [])
  let fr : HeadFrame := ⟨l0, r.1.isNone, (r.1.getD []).map (fun x => x.2),
    placeLanes (r.2.laneSub n) ((List.range 16).map (fun k => r.2.scanFrame n k h words)), r.2.segPhases n⟩
  if r.2.linkOpen n then r.2.modStn n (fun t => { t with sent := some fr }) else r.2

/-- PIX_UNLOCK of a station (R219): PIX_LOCK clears, and with it the latched phase condition (R242). -/
def pixLockField (s : State) (n : Nat) : Fld := if s.isBar n then STNn_BR_STATUS_PIX_LOCK n else STNn_SC_STATUS_PIX_LOCK n
def pixSeenField (s : State) (n : Nat) : Fld := if s.isBar n then STNn_BR_STATUS_PIX_UNLOCK_SEEN n else STNn_SC_STATUS_PIX_UNLOCK_SEEN n
def State.pixUnlock (s : State) (n detail : Nat) : State :=
  if s.bit (pixLockField s n) = false then s else
  let s1 := (s.fset (pixLockField s n) 0).flag (pixSeenField s n)
  let s2 := if s.isBar n then s1 else (s1.fset (STNn_SC_STATUS_PH_SETTLED n) 0).modScan n (fun t => { t with settle := 0 })
  (s2.sendFault (timingSrc n) 0x13 detail).stnEvent n 0x15

/-- NOM has changed (R217, R218): 0 stops PIXPLLn, and a change of more than 0.5 % clears LOCK; either way lock is lost (DEDUCED, log entry 48). -/
def State.nomChanged (s : State) (n old : Nat) : State :=
  let new := s.pixNom n
  if new ≠ old ∧ (new = 0 ∨ 5 * old < 1000 * ((new : Int) - old).natAbs) then s.pixUnlock n 1 else s

/-- The facet's SOS frame ends (R215, R229): it was sent in the facet before, from the opening of the window on; while LOST it fills the facet (R231).
`at_` is where its last slot lies, in pixel clocks after that facet's SOS time. -/
def State.sosFrame (s : State) (n beam : Nat) (mean at_ : Int) : State :=
  let w : Int := s.fget (STNn_SC_SOS_WIN_HALF n)
  let start := if s.bit (STNn_SC_STATUS_LOST n) then 0 else mean / 64 - w
  if s.linkOpen n then
    s.modScan n (fun t => { t with sos := some (s.lightFrame n 1 beam (s.stnOf n).scan.apcNow start (at_ - start).toNat) })
  else s

/-- A facet boundary (R214) at SOS position `p`, ending an interval of `iv` in 1/64 pixel clock, measured by an edge or
predicted; `lag` pixel clocks have passed since the SOS time. -/
def State.facet (s : State) (n : Nat) (iv : Option Nat) (margin lag : Nat) (p : Int) (measured : Bool) : State :=
  let nom := s.pixNom n
  let changed := (scShadows n).any (fun f => (kvGet s.shadow f.key).isSome)
  let s0 := (((s.learnMag n).applyShadow (scShadows n)).nomChanged n nom).modScan n (fun t => { t with startTick := s.tick, lag := lag })
  let s1 := (s0.nextFacet n).learnInterval n iv measured
  let s2 := s1.closeWindows n margin (fun w => decide ((w.n : Int) + 63 < (s1.facetL0 n p w.commit).1))
  let s3 := s2.scanOpen n p
  let ref := s3.refPlane n
  let le := match ref with | some r => s3.facetL0 n p r.2 | none => (0, 0)
  let s4 := (s3.phaseWarn n (decide ((s2.stnOf n).windows.length < (s3.stnOf n).windows.length)) le.2).phase n le.2
  let b : Int := s.stnB n
  let adv : Option Int := match ref, (s.stnOf n).scan.last with
    | some r, some x => if r.1 = x.1 then some (le.1 - x.2) else none
    | _, _ => none
  let s5 : State := match adv with
    | some a => if a ≠ b then s4.slip n p a else s4
    | none => s4
  let repeated : Nat := match adv with
    | some a => (min b (b - a)).toNat
    | none => 0
  let s6 := s5.modScan n (fun t => { t with last := ref.map (fun r => (r.1, le.1)) })
  let s7 := if changed ∨ s6.fget (STNn_SC_FACET_FACET n) = 0 then s6.recheckCfg n else s6
  let s8 := s7.writeFacet n p le.1 repeated
  let s9 := s8.closeWindows n margin (fun w => decide ((w.n : Int) + 63 ≤ (s8.facetL0 n p w.commit).1 + b - 1))
  s9.stnEvent n 0x10

/-- The interval predicted for the next facet (R230). -/
def State.predicted (s : State) (n : Nat) : Int :=
  (s.stnOf n).scan.mean +
    sext 16 (s.fget (STNn_SC_FLEARNf_PERDEV n (s.facetEntry n ((s.fget (STNn_SC_FACET_FACET n) + 1) % s.facets n))))

/-- A qualified edge while LOST (R231): after two revolutions of them, with facet identity, the station tracks again. The first of them ends no
interval. -/
def State.lostEdge (s : State) (n : Nat) : State :=
  let g := (s.stnOf n).scan.good + 1
  let s1 := s.modScan n (fun t => { t with good := g, ivs := if g = 1 then [] else t.ivs })
  if 2 * s.facets n ≤ g ∧ (s.bit (STNn_SC_STATUS_FACET_SYNC n) = true ∨ s.bit (STNn_SC_CFG_FACET_SRC n) = true) then
    ((s1.fset (STNn_SC_STATUS_LOST n) 0).startTracking n).stnEvent n 0x13
  else s1

/-- An edge of the SOS input has the polarity and the width of R229. -/
def State.edgeOk (s : State) (n : Nat) (e : LightEdge) : Bool :=
  e.falling == s.bit (STNn_SC_SOS_WIN_POL n) && decide (s.fget (STNn_SC_SOS_WIN_MINW n) ≤ e.width)

/-- No prediction stands yet: before the first edge of a tracking, after it until an interval is known, and while LOST up to the first qualified edge,
when the SOS frame fills the facet (R231). Any edge may then qualify (DEDUCED, log entry 48). -/
def State.windowOpen (s : State) (n : Nat) : Bool :=
  let t := (s.stnOf n).scan
  t.ivs.isEmpty || (s.bit (STNn_SC_STATUS_LOST n) && t.good == 0)

/-- An edge lies in the SOS window, bounds included (R229). -/
def State.inWindow (s : State) (n iv : Nat) : Bool :=
  s.windowOpen n || decide (((iv : Int) - s.predicted n).natAbs ≤ 64 * s.fget (STNn_SC_SOS_WIN_HALF n))

/-- The position at an edge that came `frac`/64 of a TB cycle before this tick (R209, R223): between the last tick and this one by linear
interpolation. -/
def State.edgePos (s : State) (n frac : Nat) : Int :=
  match s.hist with
  | (_, b) :: _ => if s.net.timeOn then (b * frac + s.belt * (64 - frac % 64 : Nat)) / 64 - s.ofsOf n else s.belt - s.ofsOf n
  | [] => s.belt - s.ofsOf n

/-- The end of the SOS frame of an edge: 64 pixel clocks after it, or at the window's close (R229). -/
def State.edgeEnd (s : State) (n iv : Nat) : Int :=
  if s.windowOpen n then (iv : Int) / 64 + 64
  else min ((iv : Int) / 64 + 64) (s.predicted n / 64 + s.fget (STNn_SC_SOS_WIN_HALF n))

/-- FACET_BOUNDARY (R214, R229): an edge of the SOS input, `iv` in 1/64 pixel clock after the last SOS time; one that does not qualify is ignored.
`margin` is the rate the pipeline measured (R200). In a survey facet the edge is the beam's sample and the facet runs on its prediction, when the
belt stood so many PPOS units before the edge's position as `e` says beside it (R236). -/
def execFacetBoundary (n : Nat) (e : LightEdge × Int) (margin : Nat) (s : State) : Host.Outcome State Fault Refusal :=
  onUnit (n < 6) (
    if s.isBar n ∨ s.bit (STNn_SC_CTRL_SC_EN n) = false ∨ s.edgeOk n e.1 = false ∨ s.inWindow n e.1.iv = false then s else
    let p := s.edgePos n e.1.frac
    if s.surveyFacet n then
      let s0 := s.sosFrame n (s.fget (STNn_SC_SURVEY_BEAM n)) (s.predicted n) (s.edgeEnd n e.1.iv)
      (s0.surveyBeam n (some ((e.1.iv : Int) - s.predicted n))).facet n (some (s.predicted n).toNat) margin 0 (p - e.2) false
    else
      let s0 := s.sosFrame n (s.fget (STNn_SC_CFG_SOS_BEAM n)) (s.predicted n) (s.edgeEnd n e.1.iv)
      let first := s.bit (STNn_SC_STATUS_TRACKING n) = false ∧ (s.bit (STNn_SC_STATUS_LOST n) = false ∨ (s.stnOf n).scan.good = 0)
      let s1 := if s0.bit (STNn_SC_STATUS_TRACKING n) = false ∧ s0.bit (STNn_SC_STATUS_LOST n) = false then s0.startTracking n else s0
      let s2 := (if s1.bit (STNn_SC_STATUS_LOST n) then s1.lostEdge n else s1).fset (STNn_SC_COUNT_CONSEC n) 0
      s2.facet n (if first then none else some e.1.iv) margin 0 p true)

/-- A third consecutive miss (R231): LOST. -/
def State.goLost (s : State) (n : Nat) : State :=
  let s1 := s.fsets [(STNn_SC_STATUS_LOST n, 1), (STNn_SC_STATUS_TRACKING n, 0), (STNn_SC_STATUS_PH_SETTLED n, 0),
    (STNn_SC_STATUS_FACET_SYNC n, 0)]
  let m := s1.sendFree (timingSrc n) 0x11
  let d := msgDetail (timingSrc n) 0x11 m.2
  ((m.1.modScan n (fun t => { t with good := 0, settle := 0, lostDetail := d })).failOpen n 4 d).stnEvent n 0x12

/-- A miss is counted (R230): CONSEC stays at 3. -/
def State.countMiss (s : State) (n : Nat) : State :=
  let c := min 3 (s.fget (STNn_SC_COUNT_CONSEC n) + 1)
  let f := (s.fget (STNn_SC_FACET_FACET n) + 1) % s.facets n
  let s1 := ((((s.fset (STNn_SC_COUNT_CONSEC n) c).fsat (STNn_SC_COUNT_MISSES n) 1).flag (STNn_SC_STATUS_SOS_MISS n)).sendFault
    (timingSrc n) 0x10 (c + 16 * f)).stnEvent n 0x11
  if c = 3 ∧ s.bit (STNn_SC_STATUS_LOST n) = false then s1.goLost n
  else if s.bit (STNn_SC_STATUS_LOST n) then s1.modScan n (fun t => { t with good := 0 }) else s1

/-- SOS_MISS (R230, R231): the window closes with no qualified edge and the facet runs on the predicted SOS, when the belt
stood `back` PPOS units before its position now. Misses are not counted in a safe state, with LD_EN low, or in a
survey facet. -/
def execSosMiss (n : Nat) (back : Int) (margin : Nat) (s : State) : Host.Outcome State Fault Refusal :=
  onUnit (n < 6) (
    if s.isBar n ∨ s.bit (STNn_SC_CTRL_SC_EN n) = false ∨ (s.stnOf n).scan.ivs = [] then s else
    let p := s.belt - s.ofsOf n - back
    let iv := (s.predicted n).toNat
    let w := s.fget (STNn_SC_SOS_WIN_HALF n)
    let surveys := s.surveyFacet n
    let s0 := s.sosFrame n (if surveys then s.fget (STNn_SC_SURVEY_BEAM n) else s.fget (STNn_SC_CFG_SOS_BEAM n)) (s.predicted n) (s.predicted n / 64 + w)
    let s1 := if surveys then s0.surveyBeam n none
      else if s.safeImg ∨ s.ldEn n = false then (if s.bit (STNn_SC_STATUS_LOST n) then s0.modScan n (fun t => { t with good := 0 }) else s0)
      else s0.countMiss n
    s1.facet n (some iv) margin w p false)

/-! ### EOS, the pixel clock and SC_EN (R219, R232, R261) -/

/-- The station takes EOS edges. -/
def State.eosOn (s : State) (n : Nat) : Bool := !s.isBar n && s.bit (STNn_SC_CTRL_SC_EN n) && s.bit (STNn_SC_CFG_EOS_EN n)

/-- The EOS frame of a facet, up to a slot (R215, R232). -/
def State.eosFrame (s : State) (n : Nat) (at_ : Int) : State :=
  let start := (s.fget (STNn_SC_EOS_REF_REF n) : Int) / 64 - s.fget (STNn_SC_SOS_WIN_HALF n)
  if s.linkOpen n then
    s.modScan n (fun t => { t with eos := some (s.lightFrame n 2 (s.fget (STNn_SC_CFG_SOS_BEAM n)) (s.stnOf n).scan.apcNow start (at_ - start).toNat) })
  else s

/-- The close of the EOS window, in pixel clocks after the facet's SOS. -/
def State.eosClose (s : State) (n : Nat) : Int := (s.fget (STNn_SC_EOS_REF_REF n) : Int) / 64 + s.fget (STNn_SC_SOS_WIN_HALF n)

/-- EOS_EDGE (R232): an edge of the EOS input `iv` in 1/64 pixel clock after the facet's SOS: the first that qualifies, in the window of ±W about
EOS_REF/64, gives the interval. -/
def execEosEdge (n : Nat) (e : LightEdge) (s : State) : Host.Outcome State Fault Refusal :=
  onUnit (n < 6) (
    if s.eosOn n ∧ s.edgeOk n e = true ∧ (s.stnOf n).scan.nf = none
        ∧ ((e.iv : Int) - s.fget (STNn_SC_EOS_REF_REF n)).natAbs ≤ 64 * s.fget (STNn_SC_SOS_WIN_HALF n) then
      (s.eosFrame n (min ((e.iv : Int) / 64 + 64) (s.eosClose n))).modScan n (fun t => { t with nf := some e.iv })
    else s)

/-- EOS_MISS (R232): the window closes with no qualified edge. -/
def execEosMiss (n : Nat) (s : State) : Host.Outcome State Fault Refusal :=
  onUnit (n < 6) (if s.eosOn n ∧ (s.stnOf n).scan.nf = none then
    ((((s.eosFrame n (s.eosClose n)).flag (STNn_SC_STATUS_EOS_MISS n)).sendFault (timingSrc n) 0x14 (s.fget (STNn_SC_FACET_FACET n))).stnEvent n 0x17)
  else s)

/-- PIXPLLn runs: NOM is not 0 (R217, R254). -/
def State.pixRuns (s : State) (n : Nat) : Bool := s.pixNom n != 0

/-- PIX_UNLOCK (R219, R254): lock or the REF clock is lost and the PLL coasts. -/
def execPixUnlock (n : Nat) (ref : Bool) (s : State) : Host.Outcome State Fault Refusal := onUnit (n < 6) (s.pixUnlock n (if ref then 2 else 1))

/-- PIX_LOCK (R219); the first lock starts the idle before the first header (R241, R254). -/
def execPixLock (n : Nat) (s : State) : Host.Outcome State Fault Refusal :=
  onUnit (n < 6) (if s.pixRuns n ∧ s.bit (pixLockField s n) = false then
    ((s.modStn n (fun t => { t with lockTick := t.lockTick <|> some s.tick })).fset (pixLockField s n) 1).stnEvent n 0x16 else s)

/-- SC_EN changes from 0 to 1 (R216, R233, R261). -/
def State.scanEnable (s : State) (n : Nat) : State :=
  let s1 := (s.fsets [(STNn_SC_CTRL_SC_EN n, 1), (STNn_SC_STATUS_TRACKING n, 0), (STNn_SC_STATUS_LOST n, 0),
    (STNn_SC_STATUS_FACET_SYNC n, 0), (STNn_SC_STATUS_PH_SETTLED n, 0), (STNn_SC_COUNT_CONSEC n, 0)]).modScan n
      (fun t => { t with ivs := [], pSum := 0, pNum := 0, good := 0, settle := 0, last := none, nf := none, zNext := false })
  (s1.recheckCfg n).hrecStart n

/-- SCAN_ENABLE (R261). -/
def execScanEnable (n : Nat) (s : State) : Host.Outcome State Fault Refusal :=
  onUnit (n < 6) (if s.isBar n = false ∧ s.bit (STNn_SC_CTRL_SC_EN n) = false then s.scanEnable n else s)

end Sys2Proof.Machine
end

