-- ==== Sys2Proof/Machine/Motion.lean ====
section
/-! DEFINITION. What the belt encoder, the drive channels and the axes share: the speed estimator (R211, R279) and the profile
generator (R294 to R300); and a conversion's result (R345). -/

namespace Sys2Proof.Machine

/-- The greatest integer whose square is at most `n`: one bit of the root per step. -/
def isqrtFrom : Nat → Nat → Nat → Nat
  | 0, _, r => r
  | k + 1, n, r => if (r + 2 ^ k) * (r + 2 ^ k) ≤ n then isqrtFrom k n (r + 2 ^ k) else isqrtFrom k n r

/-- The whole part of a square root, of numbers below 2^192. -/
def isqrt (n : Nat) : Nat := isqrtFrom 96 n 0

/-- Clamp an integer. -/
def clampInt (lo hi x : Int) : Int := max lo (min hi x)

/-! ### The speed estimator (R279) -/

/-- Changes of ph back to the first that lies a window before the newest. -/
def keepWindow (newest win : Nat) : List (Nat × Int) → List (Nat × Int)
  | [] => []
  | c :: t => if win ≤ newest - c.1 then [c] else c :: keepWindow newest win t

/-- One count, of a position kept modulo 2^32: the hysteresis of 2 counts; whether the count moved against the last direction and was absorbed. -/
def SpeedEst.count (e : SpeedEst) (pos : Int) (d : Int) (now win : Nat) : SpeedEst × Bool :=
  let at_ := e.ph + sext 32 (uint 32 (pos - e.ph))
  let ph := min (max e.ph (at_ - 1)) (at_ + 1)
  if ph = e.ph then (e, decide (d = -e.dir ∧ e.dir ≠ 0))
  else ({ ph := ph, dir := d, changes := (now, ph) :: keepWindow now win e.changes }, false)

/-- The speed as a fraction (counts, TB ticks): from the newest change and the nearest one a window before it, never above one
count in the time since the newest (the decay). -/
def SpeedEst.speed (e : SpeedEst) (now win : Nat) : Int × Nat :=
  match e.changes with
  | a :: rest =>
    match rest.find? (fun b => decide (win ≤ a.1 - b.1 ∧ b.1 < a.1)) with
    | some b =>
      let dp := a.2 - b.2
      let dt := a.1 - b.1
      if (dt : Int) < dp.natAbs * (now - a.1 : Nat) then (dp.sign, now - a.1) else (dp, dt)
    | none => (0, 1)
  | [] => (0, 1)

/-! ### The profile generator (R294 to R300) -/

/-- One tick of length τ = tn/td with jerk `j` in the owner's Q16 unit (R295). -/
def Prof.tick (x : Prof) (j : Int) (tn td : Nat) : Prof :=
  let n : Int := tn
  let d : Int := td
  { x with
    p := x.p + quotOpen (6 * x.v * n * d * d + 3 * x.a * n * n * d + j * 65536 * n * n * n) (6 * td * td * td * 65536)
    v := x.v + quotOpen (2 * x.a * n * d + j * 65536 * n * n) (2 * td * td)
    a := x.a + quotOpen (j * 65536 * n) td }

/-- The limits of a profile in the owner's Q16 units; without V_MAX where it is none. -/
structure Lim where
  v : Option Nat
  a : Nat
  j : Nat

/-- The jerks that keep |a| ≤ A_MAX and |v| ≤ V_MAX at the end of the tick, among those of at most J_MAX; where |a| or |v| is
beyond its limit, the jerk brings it back (R295, R300). -/
def Lim.allowed (l : Lim) (x : Prof) (tn td : Nat) : Int × Int :=
  let jm : Int := l.j
  let am : Int := l.a * 65536
  let den : Int := max 1 (65536 * tn)
  let loA := max (-jm) ((-am - x.a) * td / den + 1)
  let hiA := min jm ((am - x.a) * td / den)
  match l.v with
  | none => (min loA jm, max hiA (-jm))
  | some v =>
    let vm : Int := v * 65536
    let den2 : Int := max 1 (65536 * tn * tn)
    let lo := max loA ((2 * (-vm - x.v) * td * td - 2 * x.a * tn * td) / den2 + 1)
    let hi := min hiA ((2 * (vm - x.v) * td * td - 2 * x.a * tn * td) / den2)
    (min lo jm, max hi (-jm))

/-- A jerk brought within the bounds of a tick. -/
def Lim.within (l : Lim) (x : Prof) (tn td : Nat) (q : Int) : Int :=
  let r := l.allowed x tn td
  if r.1 ≤ r.2 then clampInt r.1 r.2 q else clampInt (-(l.j : Int)) l.j r.1

/-- What the generator's choice of a tick depends on. -/
def planKey (x : Prof) (goal : List Int) : List Int := [x.p, x.v, x.a] ++ goal

/-- The jerk of a tick that no segment of R296 gives: the generator's choice within its bounds (log entry 12). -/
def Lim.jerk (l : Lim) (x : Prof) (tn td : Nat) (goal : List Int) : Int := l.within x tn td (Config.planJerk (planKey x goal))

/-- The least of the 2^k numbers from `r` that meets a condition which every larger one then meets. -/
def leastFrom (p : Nat → Bool) : Nat → Nat → Nat
  | 0, r => r
  | k + 1, r => if p (r + 2 ^ k - 1) then leastFrom p k r else leastFrom p k (r + 2 ^ k)

/-- The whole ticks that a time of `num`/`den` takes, in ticks of tn/td. -/
def ticksFor (num den tn td : Nat) : Nat := (num * td + (den * tn - 1)) / max 1 (den * tn)

/-- The durations Tj, Ta and Tv of a move from rest to rest over `d` (R296), in whole ticks; d, V, A and J in Q16. -/
def moveTimes (v a j d tn td : Nat) : Nat × Nat × Nat :=
  let tjFull := ticksFor a j tn td
  if a * a ≤ v * j ∧ v * (v * j + a * a) ≤ d * a * j then
    (tjFull, ticksFor (v * j - a * a) (a * j) tn td, ticksFor (d * a * j - v * (v * j + a * a)) (v * a * j) tn td)
  else if v * j < a * a ∧ 4 * v * v * v ≤ d * d * j then
    (leastFrom (fun n => decide (v * td * td ≤ n * n * tn * tn * j)) 40 0, 0,
     leastFrom (fun n => decide ((d * td - n * tn * v) * (d * td - n * tn * v) * j ≤ 4 * v * v * v * td * td)) 40 0)
  else if 2 * a * a * a ≤ d * j * j then
    (tjFull, leastFrom (fun n => decide (d * j * j * td * td ≤ a * (n * tn * j + a * td) * (n * tn * j + 2 * a * td))) 40 0, 0)
  else (leastFrom (fun n => decide (d * td * td * td ≤ 2 * j * n * n * n * tn * tn * tn)) 40 0, 0, 0)

/-- The durations Tj and Ta of a change of velocity by `dv` from a = 0 (R297, R299), in whole ticks; dv with 32 fraction bits. -/
def velTimes (a j dv tn td : Nat) : Nat × Nat :=
  if a * a * 65536 ≤ dv * j then (ticksFor a j tn td, ticksFor (dv * j - a * a * 65536) (a * j * 65536) tn td)
  else (leastFrom (fun n => decide (dv * td * td ≤ n * n * tn * tn * j * 65536)) 40 0, 0)

/-- Segments of some length. -/
def segments (l : List (Int × Nat)) : List (Int × Nat) := l.filter (fun e => e.2 != 0)

/-- The seven segments of a move (R296), and the three of a change of velocity (R299). -/
def moveSegs (l : Lim) (dist : Int) (tn td : Nat) : List (Int × Nat) :=
  let t := moveTimes (l.v.getD 0) l.a l.j dist.natAbs tn td
  let g := dist.sign
  segments [(g, t.1), (0, t.2.1), (-g, t.1), (0, t.2.2), (-g, t.1), (0, t.2.1), (g, t.1)]
def velSegs (l : Lim) (dv : Int) (tn td : Nat) : List (Int × Nat) :=
  let t := velTimes l.a l.j dv.natAbs tn td
  segments [(dv.sign, t.1), (0, t.2), (-dv.sign, t.1)]

/-- A tick of a plan: J_MAX in the segment's direction; in a segment's last tick scaled down, by an amount that the spec leaves to the generator
(R296, log entry 12). -/
def Prof.follow (x : Prof) (l : Lim) (tn td : Nat) : Prof :=
  match x.plan with
  | [] => x
  | (g, k) :: rest =>
    let q := if k ≤ 1 then g * ((Config.planJerk (planKey x x.goal)).natAbs % (l.j + 1) : Nat) else g * (l.j : Int)
    { x.tick (l.within x tn td q) tn td with plan := if k ≤ 1 then rest else (g, k - 1) :: rest }

/-- The plan goes on while its target and limits stand; else one is made where the formulas of R296, R297 and R299 give it. -/
def Prof.replan (x : Prof) (goal : List Int) (from0 : Bool) (segs : List (Int × Nat)) : Prof :=
  if x.goal = goal ∧ x.plan ≠ [] then x else { x with goal := goal, plan := if from0 then segs else [] }

/-- A tick toward a target velocity (R299), never beyond V_MAX: the last tick reaches it, with a = 0. `vt` is in Q16. -/
def Prof.velTick (x : Prof) (l : Lim) (vt : Int) (tn td : Nat) : Prof :=
  let w := match l.v with
    | some m => clampInt (-(m : Int)) m vt
    | none => vt
  if x.v = w * 65536 ∧ x.a = 0 then { x.tick 0 tn td with plan := [] }
  else
    let z := x.replan [0, w, (l.v.getD 0 : Nat), l.a, l.j] (x.a == 0) (velSegs l (w * 65536 - x.v) tn td)
    if z.plan = [] then
      let y := z.tick (l.jerk z tn td z.goal) tn td
      if Config.planLast (planKey z z.goal) ∧ ((y.v - w * 65536).natAbs * td * td ≤ l.j * 65536 * tn * tn) then { y with v := w * 65536, a := 0 } else y
    else
      let y := z.follow l tn td
      if y.plan = [] then { y with v := w * 65536, a := 0 } else y

/-- A tick of a position move (R296): the last tick carries the residual, less than 1 microstep. `tgt` is in microsteps. -/
def Prof.posTick (x : Prof) (l : Lim) (tgt : Int) (tn td : Nat) : Prof :=
  let z := x.replan [1, tgt, (l.v.getD 0 : Nat), l.a, l.j] (x.v == 0 && x.a == 0) (moveSegs l (tgt * 65536 - x.p) tn td)
  if z.plan = [] then
    let y := z.tick (l.jerk z tn td z.goal) tn td
    if Config.planLast (planKey z z.goal) ∧ (y.p - tgt * 65536).natAbs < 65536 then .free (tgt * 65536) 0 else y
  else
    let y := z.follow l tn td
    if y.plan = [] then .free (tgt * 65536) 0 else y

/-- Whether the profile stands at its target velocity (R291). -/
def Prof.atVel (x : Prof) (vt : Int) : Bool := x.v == vt * 65536 && x.a == 0

/-- Whether a target `dist` ahead, in Q16 positions, is nearer than the stopping distance from (v, a) (R297); from a ≠ 0 the
spec gives no formula (log entry 12). -/
def Prof.tooNear (x : Prof) (l : Lim) (dist : Int) : Bool :=
  if x.a ≠ 0 then !Config.planReach [x.v, x.a, l.a, l.j, dist]
  else
    let v : Nat := x.v.natAbs / 65536
    let d : Nat := dist.toNat
    if l.a * l.a ≤ v * l.j then decide (2 * l.a * l.j * d < v * (v * l.j + l.a * l.a))
    else decide (l.j * d * d < v * v * v)

/-! ### A conversion's result (R345) -/

/-- Every conversion writes the input's result register and restarts its AGE; the head thermistors read it (R267). -/
def State.adcResult (s : State) (k code : Nat) : State :=
  if 80 ≤ k then s else
  let s1 := { s.fset (ADC_AINk_CODE k) code with adcAt := kvSet s.adcAt k s.tick }
  (List.range 6).foldl (fun s n => if s.fget (STNn_HD_TH_CFG_TH_AIN n) = k then s.headConv n code else s) s1

/-! ### The converters (R344, R345) -/

def State.adcOf (s : State) (c : Nat) : AdcSt := (kvGet s.adc c).getD AdcSt.new

/-- The status bits follow the converter's state. -/
def State.setAdc (s : State) (c : Nat) (x : AdcSt) : State :=
  let b := fun (p : Bool) => if p then 1 else 0
  { s.fsets [(ADCc_STATUS_CONVERTING c, b x.cur.isSome), (ADCc_STATUS_SEQ_BUSY c, b x.seq.isSome),
      (ADCc_STATUS_SEQ c, match x.seq with | some q => q.1 | none => s.fget (ADCc_STATUS_SEQ c)),
      (ADCc_STATUS_SCANNING c, b (match x.cur with | some (_, .scan) => true | _ => false))] with adc := kvSet s.adc c x }

/-- The next input of the background scan in ascending order. -/
def State.scanInput (s : State) (c : Nat) : Option Nat :=
  let m := s.fget (ADCc_SCAN_MASK c)
  let x := (s.adcOf c).scanNext
  (((List.range 16).map (fun i => (x + i) % 16)).find? (fun i => m.testBit i))

/-- Start the next conversion, by the priority of R344: drive conversions, a sequence's next input, then a waiting request of the scan. -/
def State.adcNext (s : State) (c : Nat) : State :=
  let x := s.adcOf c
  if x.cur.isSome ∨ s.bit (ADCc_CTRL_EN c) = false then s.setAdc c x
  else match x.drv, x.seq with
    | e :: rest, _ => s.setAdc c { x with cur := some (e.2.1, .drive e.2.2), drv := rest }
    | [], some (q, i :: rest) => s.setAdc c { x with cur := some (i, .seq q), seq := some (q, rest) }
    | [], some (_, []) => s.setAdc c { x with seq := none }
    | [], none =>
      if x.scanReq then
        match s.scanInput c with
        | some i => s.setAdc c { x with cur := some (i, .scan), scanReq := false, scanNext := (i + 1) % 16 }
        | none => s.setAdc c { x with scanReq := false }
      else s.setAdc c x

/-- A drive conversion of input `k` is requested (R275, R280, R344), served by channel and, within a channel, in the order of `ord`. -/
def State.adcDrive (s : State) (n ord k code : Nat) : State :=
  if 80 ≤ k then s else
  let c := k / 16
  let x := s.adcOf c
  let o := 8 * n + ord
  (s.setAdc c { x with drv := x.drv.filter (fun e => decide (e.1 ≤ o)) ++ [(o, k % 16, code)] ++ x.drv.filter (fun e => decide (o < e.1)) }).adcNext c

end Sys2Proof.Machine
end

