-- ==== Sys2Proof/Machine/Ppos.lean ====
section
/-! DEFINITION. The belt position (R207 to R213). -/

namespace Sys2Proof.Machine

/-- The source of the belt encoder's messages (R212, R410) and the base of its events (R213). -/
def pposSrc : Nat := 0x01E
def pposEvent (s : State) (e : Nat) : State := s.event (selOf 0x170000 e)

/-- SPD_WIN in TB ticks; 0 acts as 1. -/
def State.pposWin (s : State) : Nat := usTicks (max 1 (s.fget PPOS_SPD_WIN_WIN))

/-- |SPEED| or SPEED as a fraction of mm/s (R211): 1 mm is 1,572,864,000/254 PPOS units, a TB tick 4 ns. -/
def State.pposFrac (s : State) : Int × Nat :=
  if s.bit PPOS_CTRL_EN then
    let r := s.ppos.est.speed s.tick s.pposWin
    (r.1 * s.fget PPOS_SCALE_SCALE * 250000000 * 254, 4096 * r.2 * 1572864000)
  else (0, 1)

/-- SPEED in Q15.16 mm/s: signal 0x050 of R325. -/
def State.pposSpeed (s : State) : Int := satS 32 (quotOpen (s.pposFrac.1 * 65536) s.pposFrac.2)

/-- |SPEED| exceeds VMAX (R211). -/
def State.overspeed (s : State) : Bool :=
  s.fget PPOS_VMAX_VMAX != 0 && decide (s.fget PPOS_VMAX_VMAX * s.pposFrac.2 < s.pposFrac.1.natAbs)

/-- t_cnt of R209 at a count: the mean interval of the counts of the last SPD_WIN µs; of fewer than two, the last interval. -/
def countRate (now win : Nat) (times : List (Nat × Int)) : Nat × Nat :=
  let inWin := times.filter (fun t => decide (now - t.1 ≤ win))
  match inWin.getLast? with
  | some o =>
    if 2 ≤ inWin.length then (now - o.1, inWin.length - 1)
    else match times with
      | _ :: p :: _ => (now - p.1, 1)
      | _ => (0, 0)
  | none => (0, 0)

/-- The counts that t_cnt can still need. -/
def keepCounts (now win : Nat) : List (Nat × Int) → List (Nat × Int)
  | [] => []
  | c :: t => if win < now - c.1 then [c] else c :: keepCounts now win t

/-- Whether |SPEED| exceeds VMAX is judged (R211): OVERSPEED is set and sent where it begins to, and where it goes on after a clear. -/
def State.overJudge (s : State) : State :=
  let o := s.overspeed
  let s1 := { s with ppos := { s.ppos with fast := o } }
  if o && !(s.ppos.fast && s.bit PPOS_STATUS_OVERSPEED) then
    pposEvent ((s1.flag PPOS_STATUS_OVERSPEED).sendFault pposSrc 0x02 (min 65535 (s1.pposFrac.1.natAbs / s1.pposFrac.2))) 3
  else s1

/-- One count: the position takes the count's exact value, the filtered count and the speed follow (R207 to R211). -/
def State.beltCount (s : State) (up : Bool) : State :=
  let d : Int := if up = s.bit PPOS_CTRL_INVERT then -1 else 1
  let p := s.ppos
  let count := sext 32 (uint 32 (p.count + d))
  let times := (s.tick, d) :: keepCounts s.tick s.pposWin p.times
  let est := (p.est.count count d s.tick s.pposWin).1
  let rate := countRate s.tick s.pposWin times
  let s1 := { s with ppos := { p with count := count, posFx := p.posFx + d * s.fget PPOS_SCALE_SCALE, times := times,
                                      tSum := rate.1, tNum := rate.2, est := est } }
  let fwd := if est.dir < 0 then 0 else if est.dir = 0 then s.fget PPOS_STATUS_FORWARD else 1
  (if fwd = s1.fget PPOS_STATUS_FORWARD then s1 else pposEvent (s1.fset PPOS_STATUS_FORWARD fwd) 1).overJudge

/-- ENCODER_COUNT (R207, R208, R209, R211): a qualified transition, counted while the block runs and the encoder is not lost. -/
def execEncoderCount (up : Bool) (s : State) : Host.Outcome State Fault Refusal :=
  .next (if s.beltRuns then s.beltCount up else s)

/-- INDEX (R211): a Z edge captures the belt position with Z_EN = 1 where A and B are both high (`ab`). -/
def execIndexZ (ab : Bool) (s : State) : Host.Outcome State Fault Refusal :=
  .next (if s.bit PPOS_CTRL_EN ∧ s.bit PPOS_CTRL_Z_EN ∧ ab = true then
      pposEvent ({ s with ppos := { s.ppos with zcap := s.belt } }.fset PPOS_STATUS_Z_SEEN 1) 0
    else s)

/-- ENC_LOST (R212), of cause 1 or 2: the position freezes at its last count. -/
def execEncLost (cause : Nat) (s : State) : Host.Outcome State Fault Refusal :=
  onUnit (cause == 1 || cause == 2) (if s.bit PPOS_CTRL_EN then
      pposEvent (({ s with ppos := { s.ppos with causeOne := s.ppos.causeOne || cause == 1, times := [], tSum := 0, tNum := 0 } }.fsets
        [(PPOS_STATUS_ENC_LOST, 1), (PPOS_STATUS_LOSS_CAUSE, cause)]).sendFault pposSrc 0x01 cause) 2
    else s)

/-- EN changes from 0 to 1 (R207, R208, R39): counting starts from 0; the commit positions fixed before are gone. -/
def State.pposStart (s : State) : State :=
  let s1 := { s with ppos := { s.ppos with count := 0, posFx := 0, times := [], tSum := 0, tNum := 0, est := ⟨0, 0, []⟩ },
                     led := { s.led with fixed := [] } }
  let s2 := s1.fsets [(PPOS_CTRL_EN, 1), (PPOS_STATUS_Z_SEEN, 0), (PPOS_STATUS_CFG_ERR, 0)]
  if s2.fget PPOS_SCALE_SCALE = 0 then (s2.fset PPOS_STATUS_CFG_ERR 1).sendFault pposSrc 0x03 1 else s2

/-- A write of PPOS_CTRL.EN (R207). -/
def State.pposSetEn (s : State) (en : Bool) : State :=
  if en = s.bit PPOS_CTRL_EN then s
  else if en then s.pposStart
  else if s.anyActive then s.flag PPOS_STATUS_WRITE_REFUSED
  else { s with ppos := { s.ppos with posFx := s.beltFx, times := [], tSum := 0, tNum := 0, est := ⟨0, 0, []⟩ } }.fset PPOS_CTRL_EN 0

/-- PPOS_ENABLE (R207). -/
def execPposEnable (en : Bool) (s : State) : Host.Outcome State Fault Refusal := .next (s.pposSetEn en)

/-- Whether cause 1 still persists when a write of 1 to ENC_LOST arrives: once it has come, how long it lasts is free (log entry 2). -/
def State.lossPersists (s : State) : State :=
  if s.ppos.causeOne then { s.draw.2 with ppos := { s.ppos with causeOne := s.draw.1 % 2 == 1 } } else s

/-- A write of 1 to ENC_LOST (R212): counting resumes from the frozen position; refused while cause 1 persists. -/
def State.pposClearLost (s : State) : State :=
  if s.bit PPOS_STATUS_ENC_LOST = false then s
  else if s.ppos.causeOne then s.flag PPOS_STATUS_CLEAR_REFUSED
  else { s with ppos := { s.ppos with est := ⟨s.ppos.count, 0, []⟩ } }.fset PPOS_STATUS_ENC_LOST 0

/-- PPOS_ENC_LOST_CLEAR (R212); `persists` is whether a pair's level is still below the limit. -/
def execPposEncLostClear (persists : Bool) (s : State) : Host.Outcome State Fault Refusal :=
  .next { s with ppos := { s.ppos with causeOne := persists } }.pposClearLost

/-- A write of OFS_n's HI word (R210): with the LO word written before it, from the next TB tick. -/
def State.pposOffset (s : State) (n : Nat) (hi : Nat) : State :=
  let s1 := s.fset (PPOS_OFSn_HI_OFS n) hi
  { s1 with ppos := { s1.ppos with ofsNext := s1.ppos.ofsNext ++ [(n, sext 64 (s1.fget (PPOS_OFSn_LO_OFS n) + hi % 2 ^ 32 * 2 ^ 32))] } }

/-- PPOS_OFFSET_WRITE (R210). -/
def execPposOffsetWrite (n : Nat) (hi : BitVec 32) (s : State) : Host.Outcome State Fault Refusal :=
  onUnit (n < 6) (s.pposOffset n hi.toNat)

end Sys2Proof.Machine
end

