-- ==== Sys2Proof/Machine/Drv.lean ====
section
/-! DEFINITION. The brushless drive channels (R274 to R293). -/

namespace Sys2Proof.Machine

/-- The state numbers of DRVn_STATUS. -/
def dOff : Nat := 0
def dCatch : Nat := 1
def dBrake : Nat := 2
def dAlign : Nat := 3
def dRamp : Nat := 4
def dObserve : Nat := 5
def dSensorless : Nat := 6
def dRun : Nat := 7
def dCoast : Nat := 8
def dStopping : Nat := 9
def dFault : Nat := 10

/-- Backup operation, whichever input is selected (R372, R376). -/
def State.inBackup (s : State) : Bool := match s.power.phase with | .backup _ _ => true | _ => false

/-- What a channel keeps beside its registers. -/
def State.drvOf (s : State) (n : Nat) : DrvSt := (kvGet s.drv n).getD DrvSt.new
def State.modDrv (s : State) (n : Nat) (f : DrvSt → DrvSt) : State := { s with drv := kvSet s.drv n (f (s.drvOf n)) }
def State.drvState (s : State) (n : Nat) : Nat := s.fget (DRVn_STATUS_STATE n)

/-- The failure and the notice source (R292, R410), and the base of the events (R293). -/
def drvFail (n : Nat) : Nat := 0x140 + 2 * n
def drvNotice (n : Nat) : Nat := 0x141 + 2 * n
def State.drvEvent (s : State) (n e : Nat) : State := s.event (selOf (0x200000 + n * 0x1000) e)

/-- POS_SRC and CPR as they act: 0 encoder, 1 resolver, 2 none. -/
def State.posSrc (s : State) (n : Nat) : Nat := min 2 (s.fget (DRVn_CFG_POS_SRC n))
def State.drvCpr (s : State) (n : Nat) : Nat := if s.posSrc n = 1 then 65536 else max 1 (s.fget (DRVn_CPR_CPR n))
def State.poles (s : State) (n : Nat) : Nat := max 1 (s.fget (DRVn_CFG_POLE_PAIRS n))

/-- The period in TB ticks (R274) and SPD_WIN in TB ticks. -/
def State.drvPeriod (s : State) (n : Nat) : Nat := 2 * max 1250 (min 6250 (s.fget (DRVn_PWM_PER n)))
def State.drvWin (s : State) (n : Nat) : Nat := max 1 (s.fget (DRVn_CFG_SPD_WIN n)) * s.drvPeriod n

/-- SPEED in Q15.16 rev/s (R279): from the observer in SENSORLESS, in the start, in COAST and in a stop on the observer; else from
the position source. -/
def State.drvSpeed (s : State) (n : Nat) : Int :=
  let d := s.drvOf n
  let st := s.drvState n
  if s.posSrc n = 2 ∨ (dCatch ≤ st ∧ st ≤ dSensorless) ∨ st = dCoast ∨ (st = dStopping ∧ d.onObs = true) then d.obsSpeed
  else if s.posSrc n = 1 then d.resSpeed
  else
    let r := d.est.speed s.tick (s.drvWin n)
    satS 32 (quotOpen (r.1 * 65536 * 250000000) (r.2 * s.drvCpr n))

/-- A speed of at least 5 % of RATED (R282). -/
def State.fivePct (s : State) (n : Nat) (v : Int) : Bool := decide (s.fget (DRVn_RATED_SPEED n) ≤ 20 * v.natAbs)

/-- The direction of the profile target; zero is forward (R285). -/
def State.drvDir (s : State) (n : Nat) : Int := if sext 32 (s.fget (DRVn_TARGET_VALUE n)) < 0 then -1 else 1

/-- RAMP_END, at least 5 % of RATED. -/
def State.rampEnd (s : State) (n : Nat) : Nat := max (s.fget (DRVn_RAMP_END_SPEED n)) (s.fget (DRVn_RATED_SPEED n) / 20)

/-- A start state of R282. -/
def State.drvStarting (s : State) (n : Nat) : Bool :=
  let st := s.drvState n
  decide (dCatch ≤ st ∧ st ≤ dObserve) || (st == dSensorless && s.posSrc n == 0 && !(s.drvOf n).indexed)

/-- Enter a state, with its gates. -/
def State.drvGoto (s : State) (n st : Nat) (g : Gates) : State :=
  let calm := (st = dSensorless ∨ st = dRun) ∧ ¬(s.drvState n = dSensorless ∨ s.drvState n = dRun)
  (s.fset (DRVn_STATUS_STATE n) st).modDrv n (fun d =>
    { d with since := s.tick, gates := g, shortAt := none, zeroSince := none, tolSince := none, steadySince := none, keSum := 0, keNum := 0
             calmSince := if calm then s.tick else d.calmSince
             xd := if g = .pwm ∧ d.gates = .pwm then d.xd else 0, xq := if g = .pwm ∧ d.gates = .pwm then d.xq else 0
             posEntry := if st = dSensorless then sext 32 (s.fget (DRVn_POS_POS n)) else d.posEntry
             fallback := if st = dSensorless ∨ st = dRun ∨ st = dCoast ∨ st = dStopping then d.fallback else false })

/-- OFF, with the gates of a state in which nothing holds the rotor. -/
def State.drvOffNow (s : State) (n : Nat) (g : Gates) : State :=
  ((s.drvGoto n dOff g).fset (DRVn_STATUS_READY n) 0).fset (DRVn_STATUS_OBS_VALID n) 0

/-- FAULT: all gates off. -/
def State.drvFaultNow (s : State) (n : Nat) : State := (s.drvGoto n dFault .off).fset (DRVn_STATUS_READY n) 0

/-- A class C safe state (R290): the gates as SAFE_MODE gives; k = 0. -/
def State.drvSafe (s : State) (n : Nat) : State :=
  (s.drvOffNow n (if s.bit (DRVn_CTRL_SAFE_MODE n) then .brake else .off)).fset (DRVn_STATUS_ATTEMPT n) 0

/-- The first two rows of R282 come before any other. -/
def State.drvGuard (s : State) (n : Nat) (k : State) : State :=
  if s.safeCtl then s.drvSafe n
  else if s.bit (DRVn_CTRL_ENABLE n) = false ∧ s.drvState n ≠ dOff then s.drvOffNow n .off
  else k

/-- A start fails for good (R283). -/
def State.drvStartFail (s : State) (n cause : Nat) : State :=
  (((s.drvFaultNow n).fsets [(DRVn_STATUS_START_FAIL n, 1), (DRVn_STATUS_START_CAUSE n, cause)]).sendFault (drvFail n) 0x01 cause).drvEvent n 2

/-- An attempt fails (R283). -/
def State.drvAttemptFail (s : State) (n cause : Nat) : State :=
  let k := s.fget (DRVn_STATUS_ATTEMPT n)
  let s1 := s.fsat (DRVn_COUNT_RETRIES n) 1
  if k < 3 then
    ((s1.drvGoto n dCatch .off).fset (DRVn_STATUS_ATTEMPT n) (k + 1)).sendFault (drvNotice n) 0x13 (k + 1 + 16 * cause)
  else s1.drvStartFail n cause

/-- Count a defect for a sheet (R36): DETAIL keeps the message of the first. -/
def Sheet.count (sh : Sheet) (detail : Nat) : Sheet :=
  if sh.defect then sh else { sh with defect := true, detail := detail }

/-- Every sheet that is locked and not final has a defect counted (R286, R288). -/
def State.countLocked (s : State) (detail : Nat) : State :=
  { s with led := { s.led with sheets := s.led.sheets.map (fun sh =>
      if sh.locked ∧ sh.st.isFinal = false then sh.count detail else sh) } }

/-- A channel is marked needed (R37). -/
def State.drvNeeded (s : State) (n : Nat) : Bool := s.needed.contains n

/-- The observer is lost outside the start (R286): COAST. -/
def State.drvCoast (s : State) (n : Nat) : State :=
  let r := s.fget (DRVn_COUNT_RECATCH n)
  let s1 := ((((s.drvGoto n dCoast .off).fset (DRVn_STATUS_READY n) 0).flag (DRVn_STATUS_OBS_LOST_SEEN n)).sendFault (drvNotice n) 0x11 r).drvEvent n 5
  if s1.drvNeeded n then s1.countLocked (msgDetail (drvNotice n) 0x11 r) else s1

/-- An encoder loss (R282, R287, R288). -/
def State.drvLoss (s : State) (n cause : Nat) : State :=
  if s.bit (DRVn_CTRL_ENABLE n) = false ∨ s.posSrc n = 2 then s else
  let s1 := (((s.flag (DRVn_STATUS_ENC_LOST n)).modDrv n (fun d => { d with persist := d.persist || cause == 1, angRun := 0, lossCause := cause })).sendFault
    (drvNotice n) 0x10 cause).drvEvent n 4
  s1.drvGuard n (
    if s1.drvStarting n then (s1.fsat (DRVn_COUNT_RETRIES n) 1).drvStartFail n 4
    else if s1.drvState n = dRun then
      if s1.fivePct n (s1.drvSpeed n) then
        let s2 := (s1.drvGoto n dSensorless .pwm).modDrv n (fun d =>
          { d with fallback := true
                   counted := if s1.drvNeeded n then (s1.led.sheets.filter (fun sh => sh.locked && !sh.st.isFinal)).map (·.seq) else [] })
        let s3 := s2.fset (DRVn_STATUS_READY n) 0
        if s3.drvNeeded n then s3.countLocked (msgDetail (drvNotice n) 0x10 cause) else s3
      else (s1.drvFaultNow n).sendFault (drvFail n) 0x04 cause
    else s1)

/-! ### The position source (R278 to R280, R284) -/

/-- DRV_ENCODER_COUNT (R278, R279): one qualified transition. -/
def execDrvEncoderCount (n : Nat) (up : Bool) (s : State) : Host.Outcome State Fault Refusal :=
  onUnit (n < 8) (if s.bit (DRVn_CTRL_ENABLE n) ∧ s.posSrc n = 0 then
      let d : Int := if up then 1 else -1
      let pos := sext 32 (uint 32 (sext 32 (s.fget (DRVn_POS_POS n)) + d))
      let r := (s.drvOf n).est.count pos d s.tick (s.drvWin n)
      let s1 := (s.fset (DRVn_POS_POS n) (uint 32 pos)).modDrv n (fun x => { x with est := r.1 })
      if r.2 then s1.fsat (DRVn_COUNT_JITTER n) 1 else s1
    else s)

/-- The electrical angle of a count, without its offset (R278). -/
def State.posTheta (s : State) (n : Nat) (pos : Int) : Nat :=
  let cpr := s.drvCpr n
  (pos % (cpr : Int)).toNat * s.poles n * 65536 / cpr % 65536

/-- The electrical angle in force at a valley (R278, R282). -/
def State.drvTheta (s : State) (n : Nat) : Nat :=
  let st := s.drvState n
  let d := s.drvOf n
  if st = dAlign then 0
  else if st = dRamp ∨ st = dObserve then (d.openTheta / 65536 % 65536).toNat
  else if st = dRun ∨ (st = dStopping ∧ d.onObs = false) then
    if s.posSrc n = 1 then (s.fget (DRVn_RES_RES_OFS n) + d.resAngle * s.poles n) % 65536
    else (s.fget (DRVn_ANGLE_COMM_OFS n) + s.posTheta n (sext 32 (s.fget (DRVn_POS_POS n)))) % 65536
  else d.obsAngle % 65536

/-- RUN is entered. -/
def State.drvEnterRun (s : State) (n : Nat) : State := (s.drvGoto n dRun .pwm).drvEvent n 1

/-- DRV_INDEX (R233, R282, R284): a qualified Z edge latches COMM_OFS, or its count is checked. -/
def execDrvIndex (n : Nat) (s : State) : Host.Outcome State Fault Refusal :=
  onUnit (n < 8) (if s.bit (DRVn_CTRL_ENABLE n) ∧ s.posSrc n = 0 then
      let pos := sext 32 (s.fget (DRVn_POS_POS n))
      let s1 := (List.range 6).foldl (fun s k =>
        if s.bit (STNn_SC_CFG_FACET_SRC k) = false ∧ s.fget (STNn_SC_CFG_FACET_DRV k) = n ∧ s.bit (STNn_SC_CTRL_SC_EN k) then
          s.modScan k (fun t => { t with zNext := true })
        else s) (s.drvEvent n 3)
      let d := s1.drvOf n
      s1.drvGuard n (
        if s1.drvState n = dSensorless ∧ d.indexed = false then
          let ofs := uint 16 ((d.obsAngle : Int) - (s1.posTheta n pos : Int))
          ((s1.fsets [(DRVn_ANGLE_COMM_OFS n, ofs), (DRVn_STATUS_COMM_VALID n, 1)]).modDrv n (fun x =>
            { x with indexed := true, pz := pos })).drvEnterRun n
        else if d.indexed then
          let cpr : Int := s1.drvCpr n
          let e := (pos - d.pz) % cpr
          if e ≤ 4 ∨ cpr - 4 ≤ e then s1 else s1.drvLoss n 3
        else s1)
    else s)

/-- DRV_ENC_LOST (R287): causes 1 and 2 reach the channel from its encoder inputs, cause 4 from its resolver inputs; the channel finds the others. -/
def execDrvEncLost (n cause : Nat) (s : State) : Host.Outcome State Fault Refusal :=
  onUnit (n < 8 ∧ (cause = 1 ∨ cause = 2 ∨ cause = 4)) (if s.posSrc n = (if cause = 4 then 1 else 0) then s.drvLoss n cause else s)

/-- RESOLVER_SAMPLE (R280): the angle, POS, the speed of the tracking loop, and the check of the amplitude. -/
def execResolverSample (n sin cos : Nat) (speed : Int) (s : State) : Host.Outcome State Fault Refusal :=
  onUnit (n < 8) (
    let s1 := (s.adcDrive n 6 (s.fget (DRVn_AIN1_SIN n)) sin).adcDrive n 7 (s.fget (DRVn_AIN1_COS n)) cos
    if s1.bit (DRVn_CTRL_ENABLE n) ∧ s1.posSrc n = 1 ∧ s1.safeCtl = false then
      let a : Int := (sin : Int) - 32768
      let b : Int := (cos : Int) - 32768
      let d := s1.drvOf n
      let ang := Config.resolverAngle a b % 65536
      let pw := (a * a + b * b).toNat
      let early : Bool := s1.tick < d.enabledAt + msTicks 100
      let ref := if early then some pw else d.resRef
      let out := match ref with
        | some r => decide (2 * pw < r ∨ 3 * r < 2 * pw) && !early
        | none => false
      let bad := if out then d.resBad + 1 else 0
      let step := sext 16 (uint 16 ((ang : Int) - d.resAngle))
      let s2 := (s1.modDrv n (fun x => { x with resAngle := ang, resSpeed := satS 32 speed, resRef := ref, resBad := bad })).fset
        (DRVn_POS_POS n) (uint 32 (sext 32 (s1.fget (DRVn_POS_POS n)) + step))
      if bad = 8 then s2.drvLoss n 4 else s2
    else s1)

/-! ### The current loop (R275, R276) -/

/-- A current in µA from a code, and in Q15.16 A. -/
def State.uA (s : State) (n code : Nat) : Int := ((code : Int) - 32768) * s.fget (DRVn_SCALE_I_LSB n)
def ampQ (ua : Int) : Int := satS 32 (quotOpen (ua * 65536) 1000000)

/-- mA in Q15.16 A. -/
def milliQ (ma : Nat) : Int := satS 32 (quotOpen ((ma : Int) * 65536) 1000)

/-- A current of the start, × (4 + k)/4, capped at I_MAX (R283). -/
def State.startCurrent (s : State) (n ma : Nat) : Int :=
  min (milliQ (s.fget (DRVn_LIMIT_I_MAX n))) (satS 32 (quotOpen ((ma : Int) * (4 + s.fget (DRVn_STATUS_ATTEMPT n)) * 65536) 4000))

/-- id_ref and iq_ref (R276, R282); what the channel uses in BRAKE is a free value (log entry 13). -/
def State.currentRefs (s : State) (n : Nat) : (Int × Int) × State :=
  let lim := milliQ (s.fget (DRVn_LIMIT_I_MAX n))
  let st := s.drvState n
  if st = dAlign then ((s.startCurrent n (s.fget (DRVn_ALIGN_I n)), 0), s)
  else if st = dRamp ∨ st = dObserve then ((0, s.drvDir n * s.startCurrent n (s.fget (DRVn_RAMP_I n))), s)
  else if st = dBrake then ((0, clampInt (-lim) lim (sext 32 s.draw.1)), s.draw.2)
  else ((clampInt (-lim) lim (sext 32 (s.fget (DRVn_ID_REF_REF n))), clampInt (-lim) lim (sext 32 (s.fget (DRVn_IQ_REF_REF n)))), s)

/-- Limit (vd, vq) to vdc/√3, shortening vq last: vd is shortened first. -/
def limitV (vd vq vdc : Int) : (Int × Int) × Bool :=
  let m2 : Int := vdc * vdc / 3
  if vd * vd + vq * vq ≤ m2 then ((vd, vq), false)
  else if vq * vq ≤ m2 then ((vd.sign * isqrt (m2 - vq * vq).toNat, vq), true)
  else ((0, vq.sign * isqrt m2.toNat), true)

/-- The current loop of one valley, with the gates on: signed Q3.28 gains, every step saturating. -/
def State.currentLoop (s : State) (n : Nat) (x : DrvSample) : State :=
  let th := s.drvTheta n
  let i := Config.park (ampQ (s.uA n x.ia)) (ampQ (s.uA n x.ib)) th
  let id := satS 32 i.1
  let iq := satS 32 i.2
  let r := s.currentRefs n
  let d := s.drvOf n
  let ed := satS 32 (r.1.1 - id)
  let eq := satS 32 (r.1.2 - iq)
  let ki := sext 32 (s.fget (DRVn_KI_GAIN n))
  let kp := sext 32 (s.fget (DRVn_KP_GAIN n))
  let mul := fun (k e : Int) => satS 32 (quotOpen (k * e) (2 ^ 28))
  let xd := satS 32 (d.xd + mul ki ed)
  let xq := satS 32 (d.xq + mul ki eq)
  let vdc := satS 32 (quotOpen ((x.vdc : Int) * s.fget (DRVn_SCALE_V_LSB n) * 65536) 100000)
  let v := limitV (satS 32 (mul kp ed + xd)) (satS 32 (mul kp eq + xq)) vdc
  let ahead := quotOpen (s.drvSpeed n * s.poles n * s.drvPeriod n) 250000000
  let duty := Config.svpwm v.1.1 v.1.2 (uint 16 ((th : Int) + ahead)) vdc
  (r.2.fset (DRVn_IQ_VALUE n) (uint 32 iq)).modDrv n (fun d =>
    { d with xd := if v.2 then d.xd else xd, xq := if v.2 then d.xq else xq, vq := v.1.2, nextDuty := [duty.1, duty.2.1, duty.2.2] })

/-- The phase whose sampled current exceeds I_MAX: 1 U, 2 V, 3 W (R276). -/
def State.overPhase (s : State) (n : Nat) (x : DrvSample) : Option Nat :=
  let lim := s.fget (DRVn_LIMIT_I_MAX n) * 1000
  let ia := s.uA n x.ia
  let ib := s.uA n x.ib
  if lim < ia.natAbs then some 1 else if lim < ib.natAbs then some 2 else if lim < (ia + ib).natAbs then some 3 else none

/-! ### The valley (R274, R275, R281, R282, R288, R291) -/

/-- The B fields of a channel. -/
def drvShadows (n : Nat) : List Fld :=
  [DRVn_PWM_PER n, DRVn_KP_GAIN n, DRVn_KI_GAIN n, DRVn_ALIGN_I n, DRVn_ALIGN_T n, DRVn_RAMP_I n, DRVn_RAMP_T n,
   DRVn_OBS_ZWAIT n, DRVn_OBS_CATCH_T n, DRVn_OBS_OBS_T n]

/-- The profile's target at this valley (R282, R299). -/
def State.drvGoal (s : State) (n : Nat) : Int :=
  let st := s.drvState n
  if st = dStopping ∨ st = dBrake then 0
  else if st = dSensorless ∧ s.posSrc n = 0 ∧ (s.drvOf n).indexed = false then s.drvDir n * s.rampEnd n
  else sext 32 (s.fget (DRVn_TARGET_VALUE n))

/-- The profile runs at every valley in the states that follow it (R294). -/
def State.drvProfile (s : State) (n : Nat) : State :=
  let st := s.drvState n
  if st = dSensorless ∨ st = dRun ∨ st = dStopping ∨ st = dBrake then
    let l : Lim := ⟨none, (sext 32 (s.fget (DRVn_ACC_MAX_VALUE n))).toNat, (sext 32 (s.fget (DRVn_JERK_MAX_VALUE n))).toNat⟩
    let p := (s.drvOf n).prof.velTick l (s.drvGoal n) (s.drvPeriod n) 250000000
    (s.modDrv n (fun d => { d with prof := p })).fset (DRVn_ACCEL_CMD_ACCEL n) (uint 32 (satS 32 (p.a / 65536)))
  else s

/-- The profile starts from a speed. -/
def DrvSt.profFrom (d : DrvSt) (v : Int) : DrvSt := { d with prof := .free 0 (v * 65536) }

/-- The observer of R281 in this control cycle. -/
def State.observe (s : State) (n : Nat) (x : DrvSample) : State :=
  let d := s.drvOf n
  let low := if x.obsResid < 2048 then d.lowRun + 1 else 0
  let high := if 8192 < x.obsResid then d.highRun + 1 else 0
  let conv := (d.converged || decide (64 ≤ low)) && decide (high < 16)
  (s.modDrv n (fun d => { d with obsAngle := x.obsAngle % 65536, obsSpeed := satS 32 x.obsSpeed, lowRun := low, highRun := high,
                                 converged := conv })).fset (DRVn_STATUS_OBS_VALID n)
    (if conv && s.fivePct n x.obsSpeed then 1 else 0)

/-- The speed is within READY_TOL of the target, which the profile has reached (R291). -/
def State.withinTol (s : State) (n : Nat) : Bool :=
  let t := sext 32 (s.fget (DRVn_TARGET_VALUE n))
  (s.drvOf n).prof.atVel t &&
  decide ((s.drvSpeed n - t).natAbs * 10000 ≤ s.fget (DRVn_READY_READY_TOL n) * t.natAbs)

/-- The conditions of R291 other than the settling time. -/
def State.drvReadyNow (s : State) (n : Nat) : Bool :=
  s.bit (DRVn_CTRL_ENABLE n) && (s.drvState n == dRun || (s.drvState n == dSensorless && s.posSrc n == 2)) && s.withinTol n
  && !s.bit (DRVn_STATUS_START_FAIL n) && !s.bit (DRVn_STATUS_ENC_LOST n)
  && (!s.bit (DRVn_STATUS_KE_BAD n) || !s.bit (DRVn_CTRL_KE_HOLD n))

/-- When a condition began to hold. -/
def sinceWhen (now : Nat) (holds : Bool) (t : Option Nat) : Option Nat := if holds then some (t.getD now) else none

/-- The held conditions that READY, STOPPED and KE_ESTIMATE wait for (R282, R289, R291). -/
def State.drvHeld (s : State) (n : Nat) : State :=
  let st := s.drvState n
  let t := sext 32 (s.fget (DRVn_TARGET_VALUE n))
  let v := s.drvSpeed n
  let steady := decide (st = dRun ∨ st = dSensorless) && s.fget (DRVn_ACCEL_CMD_ACCEL n) == 0 && decide ((v - t).natAbs * 100 ≤ t.natAbs)
  let e := (s.drvOf n).vq - quotOpen ((s.fget (DRVn_LIMIT_RS n) : Int) * sext 32 (s.fget (DRVn_IQ_VALUE n))) 1000
  let s1 := s.modDrv n (fun d =>
    { d with zeroSince := sinceWhen s.tick (v == 0) d.zeroSince, tolSince := sinceWhen s.tick (s.withinTol n) d.tolSince,
             steadySince := sinceWhen s.tick steady d.steadySince,
             keSum := if steady ∧ v ≠ 0 then d.keSum + quotOpen (e * v.sign * 2 ^ 32) v.natAbs else 0,
             keNum := if steady ∧ v ≠ 0 then d.keNum + 1 else 0 })
  if s1.bit (DRVn_STATUS_READY n) ∧ s1.drvReadyNow n = false then s1.fset (DRVn_STATUS_READY n) 0 else s1

/-- The rows of R282 that a valley itself judges, once the first ones do not match. -/
def State.drvRows (s : State) (n : Nat) (x : DrvSample) : State :=
  let st := s.drvState n
  let d := s.drvOf n
  match (if dAlign ≤ st ∧ st ≤ dStopping then s.overPhase n x else none) with
  | some ph => ((s.flag (DRVn_STATUS_OVERCURRENT n)).drvFaultNow n).sendFault (drvFail n) 0x03 ph
  | none =>
    if 64 ≤ d.angRun then s.drvLoss n 5
    else if st = dBrake then
      match d.shortAt with
      | some t => if t + msTicks (max 1 (s.fget (DRVn_OBS_CATCH_T n))) ≤ s.tick then s.drvGoto n dAlign .pwm else s
      | none => if s.fivePct n d.obsSpeed ∧ s.drvDir n * d.obsSpeed < 0 then s
                else s.modDrv n (fun d => { d with shortAt := some s.tick, gates := .brake })
    else if st = dObserve ∧ d.converged = true then
      if 0 ≤ s.drvDir n * d.obsSpeed then
        let s1 := (s.drvGoto n dSensorless .pwm).modDrv n (fun d => d.profFrom (s.drvDir n * s.rampEnd n))
        if s.posSrc n = 2 then s1.drvEvent n 1 else s1
      else s.drvAttemptFail n 3
    else if st = dSensorless ∧ 16 ≤ d.highRun then
      if s.posSrc n = 0 ∧ d.indexed = false then s.drvAttemptFail n 5 else s.drvCoast n
    else if st = dSensorless ∧ d.fallback = true ∧ s.bit (DRVn_STATUS_ENC_LOST n) = true
        ∧ d.counted.all (fun q => match s.sheet? q with | some sh => sh.st.isFinal | none => true) = true then
      (s.drvGoto n dStopping .pwm).modDrv n (fun d => { d with onObs := true })
    else s

/-- The open-loop ramp of RAMP, held in OBSERVE (R282). -/
def State.openLoop (s : State) (n : Nat) : State :=
  let st := s.drvState n
  if st = dRamp ∨ st = dObserve then
    let t := msTicks (s.fget (DRVn_RAMP_T n))
    let e := s.tick - (s.drvOf n).since
    let v := if st = dObserve ∨ t ≤ e then (s.rampEnd n : Int) else quotOpen ((s.rampEnd n : Int) * e) t
    s.modDrv n (fun d => { d with openTheta := d.openTheta + quotOpen (s.drvDir n * v * s.poles n * s.drvPeriod n * 65536) 250000000 })
  else s

/-- DRV_VALLEY (R274, R275, R281, R282): the shadows act, the duties computed at the last valley are loaded, the conversions are
taken, the state table is judged, and the current loop runs with the gates on. -/
def execDrvValley (n : Nat) (x : DrvSample) (s : State) : Host.Outcome State Fault Refusal :=
  onUnit (n < 8) (
    let s1 := ((s.applyShadow (drvShadows n)).record 0x21 n [(s.fget (DRVn_POS_POS n) : Int), s.ppos.count]).record 0x22 n
      [(x.ia : Int), (x.ib : Int), (x.vdc : Int), (x.vu : Int), (x.vv : Int), (x.vw : Int)]
    if s1.safeCtl then s1.drvSafe n
    else if s1.bit (DRVn_CTRL_ENABLE n) = false then (if s1.drvState n = dOff then s1 else s1.drvOffNow n .off)
    else
      let on := (s1.drvOf n).gates == Gates.pwm
      let s2 := ((s1.adcDrive n 0 (s1.fget (DRVn_AIN0_IA n)) x.ia).adcDrive n 1 (s1.fget (DRVn_AIN0_IB n)) x.ib).adcDrive n 2 (s1.fget (DRVn_AIN0_VDC n)) x.vdc
      let s3 := if on then s2 else
        ((s2.adcDrive n 3 (s1.fget (DRVn_AIN0_VU n)) x.vu).adcDrive n 4 (s1.fget (DRVn_AIN1_VV n)) x.vv).adcDrive n 5 (s1.fget (DRVn_AIN1_VW n)) x.vw
      let s4 := (s3.modDrv n (fun d => { d with duty := d.nextDuty })).observe n x
      let enc := (s4.fget (DRVn_ANGLE_COMM_OFS n) + s4.posTheta n (sext 32 (s4.fget (DRVn_POS_POS n)))) % 65536
      let away := (s4.drvState n == dRun || (s4.drvState n == dStopping && !(s4.drvOf n).onObs)) && s4.posSrc n == 0 && s4.bit (DRVn_STATUS_OBS_VALID n)
        && decide (16384 < (sext 16 (uint 16 ((enc : Int) - x.obsAngle))).natAbs)
      let s5 := (s4.modDrv n (fun d => { d with angRun := if away then d.angRun + 1 else 0 })).drvRows n x
      let s6 := (s5.openLoop n).drvProfile n
      let s7 := s6.fset (DRVn_ANGLE_THETA n) (s6.drvTheta n)
      let s8 := if (s7.drvOf n).gates = .pwm then s7.currentLoop n x else s7
      (s8.drvHeld n).drvEvent n 0)

/-! ### Commands and time limits -/

/-- The CFG code of a channel at ENABLE (R275, R293): 1 analog inputs, 2 CPR, 3 I_MAX; the lowest that holds. -/
def State.drvCfg (s : State) (n : Nat) : Nat :=
  let a := s.fget (DRVn_AIN0_IA n)
  let b := s.fget (DRVn_AIN0_IB n)
  let need := [a, b, s.fget (DRVn_AIN0_VDC n), s.fget (DRVn_AIN0_VU n), s.fget (DRVn_AIN1_VV n), s.fget (DRVn_AIN1_VW n)]
    ++ (if s.posSrc n = 1 then [s.fget (DRVn_AIN1_SIN n), s.fget (DRVn_AIN1_COS n)] else [])
  if need.any (fun k => decide (80 ≤ k)) ∨ a / 16 = b / 16 then 1
  else if s.posSrc n = 0 ∧ (s.fget (DRVn_CPR_CPR n) < 4 ∨ s.fget (DRVn_CPR_CPR n) % 4 ≠ 0) then 2
  else if s.fget (DRVn_LIMIT_I_MAX n) = 0 then 3
  else 0

/-- A write of ENABLE. -/
def State.drvSetEnable (s : State) (n : Nat) (en : Bool) : State :=
  if en = s.bit (DRVn_CTRL_ENABLE n) then s
  else if en then
    let s1 := (s.fsets [(DRVn_CTRL_ENABLE n, 1), (DRVn_STATUS_COMM_VALID n, 0), (DRVn_STATUS_CFG n, s.drvCfg n)]).modDrv n (fun d =>
      { d with enabledAt := s.tick, resRef := none, resBad := 0, lowRun := 0, highRun := 0, converged := false, angRun := 0
               est := ⟨sext 32 (s.fget (DRVn_POS_POS n)), 0, []⟩ })
    if s1.drvCfg n = 0 then s1 else s1.sendFault (drvFail n) 0x05 (s1.drvCfg n)
  else (s.fset (DRVn_CTRL_ENABLE n) 0).drvOffNow n .off

/-- DRV_DISABLE (R282). -/
def execDrvDisable (n : Nat) (s : State) : Host.Outcome State Fault Refusal := onUnit (n < 8) (s.drvSetEnable n false)

/-- START (R282). -/
def State.drvStart (s : State) (n : Nat) : State :=
  s.drvGuard n (
    if s.drvState n = dOff ∧ s.bit (DRVn_CTRL_ENABLE n) = true ∧ s.bit (DRVn_STATUS_START_FAIL n) = false
        ∧ s.bit (DRVn_STATUS_ENC_LOST n) = false then
      let s1 := (s.fset (DRVn_STATUS_ATTEMPT n) 0).modDrv n (fun d => { d with indexed := false, fallback := false, counted := [] })
      if s.posSrc n = 1 then (s1.modDrv n (fun d => d.profFrom d.resSpeed)).drvEnterRun n
      else s1.drvGoto n dCatch .off
    else s.flag (DRVn_STATUS_CMD_REFUSED n))

/-- DRV_START (R282). -/
def execDrvStart (n : Nat) (s : State) : Host.Outcome State Fault Refusal := onUnit (n < 8) (s.drvStart n)

/-- STOP (R282). -/
def State.drvStop (s : State) (n : Nat) : State :=
  let st := s.drvState n
  s.drvGuard n (
    if st = dRun ∨ st = dSensorless then
      (s.drvGoto n dStopping .pwm).modDrv n (fun d => { d with onObs := decide (st = dSensorless) })
    else if (dCatch ≤ st ∧ st ≤ dObserve) ∨ st = dCoast then s.drvOffNow n .off
    else s)

/-- DRV_STOP (R282). -/
def execDrvStop (n : Nat) (s : State) : Host.Outcome State Fault Refusal := onUnit (n < 8) (s.drvStop n)

/-- A time of the present state has passed. -/
def State.drvElapsed (s : State) (n ms : Nat) : Bool := decide ((s.drvOf n).since + msTicks ms ≤ s.tick)

/-- CATCH_TIMEOUT (R282, R285, R286): CATCH_T has passed in CATCH or COAST; `emf` is the speed that the back-EMF gives. -/
def execCatchTimeout (n : Nat) (emf : Int) (s : State) : Host.Outcome State Fault Refusal :=
  onUnit (n < 8) (s.drvGuard n (
    let v := satS 32 emf
    let fwd := s.fivePct n v && decide (0 < s.drvDir n * v)
    let back := s.fivePct n v && decide (s.drvDir n * v < 0)
    let preset := fun (d : DrvSt) => { d.profFrom v with obsSpeed := v, lowRun := 0, highRun := 0 }
    if s.drvElapsed n (max 1 (s.fget (DRVn_OBS_CATCH_T n))) = false then s
    else if s.drvState n = dCatch then
      if fwd ∧ s.bit (DRVn_CTRL_CATCH_EN n) then
        let s1 := (s.modDrv n preset).drvGoto n dSensorless .pwm
        if s.posSrc n = 2 then s1.drvEvent n 1 else s1
      else if back ∧ s.bit (DRVn_CTRL_CATCH_EN n) then (s.modDrv n preset).drvGoto n dBrake .pwm
      else s.drvGoto n dAlign .pwm
    else if s.drvState n = dCoast then
      if fwd ∧ s.fget (DRVn_COUNT_RECATCH n) < 3 then
        let s1 := ((s.modDrv n preset).drvGoto n dSensorless .pwm).fset (DRVn_COUNT_RECATCH n) (s.fget (DRVn_COUNT_RECATCH n) + 1)
        (if s.posSrc n = 2 then s1.drvEvent n 1 else s1).drvEvent n 6
      else (s.drvFaultNow n).sendFault (drvFail n) 0x02 (s.fget (DRVn_COUNT_RECATCH n))
    else s))

/-- ALIGN_TIMEOUT (R282): the open-loop ramp begins at θ = 0. -/
def execAlignTimeout (n : Nat) (s : State) : Host.Outcome State Fault Refusal :=
  onUnit (n < 8) (s.drvGuard n (
    if s.drvState n = dAlign ∧ s.drvElapsed n (s.fget (DRVn_ALIGN_T n)) = true then
      (s.drvGoto n dRamp .pwm).modDrv n (fun d => { d with openTheta := 0 })
    else s))

/-- RAMP_TIMEOUT (R282). -/
def execRampTimeout (n : Nat) (s : State) : Host.Outcome State Fault Refusal :=
  onUnit (n < 8) (s.drvGuard n (
    if s.drvState n = dRamp ∧ s.drvElapsed n (s.fget (DRVn_RAMP_T n)) = true then
      (s.drvGoto n dObserve .pwm).modDrv n (fun d => { d with lowRun := 0, converged := false })
    else s))

/-- OBSERVE_TIMEOUT (R282): cause 1. -/
def execObserveTimeout (n : Nat) (s : State) : Host.Outcome State Fault Refusal :=
  onUnit (n < 8) (s.drvGuard n (
    if s.drvState n = dObserve ∧ s.drvElapsed n (s.fget (DRVn_OBS_OBS_T n)) = true ∧ (s.drvOf n).converged = false then
      s.drvAttemptFail n 1
    else s))

/-- ZWAIT_EXPIRY (R282): cause 2, after ZWAIT revolutions in SENSORLESS without the first index. -/
def execZwaitExpiry (n : Nat) (s : State) : Host.Outcome State Fault Refusal :=
  onUnit (n < 8) (s.drvGuard n (
    let d := s.drvOf n
    if s.drvState n = dSensorless ∧ s.posSrc n = 0 ∧ d.indexed = false
        ∧ s.fget (DRVn_OBS_ZWAIT n) * s.drvCpr n ≤ (sext 32 (s.fget (DRVn_POS_POS n)) - d.posEntry).natAbs then
      s.drvAttemptFail n 2
    else s))

/-- STOPPED (R282). -/
def execStoppedEv (n : Nat) (s : State) : Host.Outcome State Fault Refusal :=
  onUnit (n < 8) (s.drvGuard n (
    let d := s.drvOf n
    let still : Bool := match d.zeroSince with
      | some t => decide (t + msTicks 100 ≤ s.tick)
      | none => false
    if s.drvState n = dStopping ∧ ((d.onObs = false ∧ still = true) ∨ (d.onObs = true ∧ s.fivePct n (s.drvSpeed n) = false)) then
      (s.drvOffNow n .off).drvEvent n 8
    else s))

/-- RECATCH_RESET (R283): 1 s in RUN or SENSORLESS without an observer loss. -/
def execRecatchReset (n : Nat) (s : State) : Host.Outcome State Fault Refusal :=
  onUnit (n < 8) (
    if (s.drvState n = dRun ∨ s.drvState n = dSensorless) ∧ (s.drvOf n).calmSince + msTicks 1000 ≤ s.tick then
      s.fset (DRVn_COUNT_RECATCH n) 0
    else s)

/-- An estimate of KE is written and checked (R289). -/
def State.keWrite (s : State) (n ke : Nat) : State :=
  let k := min (2 ^ 24 - 1) ke
  let nom := s.fget (DRVn_KE_CFG_KE_NOM n)
  let tol := s.fget (DRVn_KE_CFG_KE_TOL n)
  let s1 := s.fset (DRVn_KE_KE n) k
  if nom ≠ 0 ∧ (k * 100 < nom * (100 - tol) ∨ nom * (100 + tol) < k * 100) then
    ((s1.flag (DRVn_STATUS_KE_BAD n)).sendFault (drvNotice n) 0x12 (min 65535 (k / 16))).drvEvent n 7
  else s1

/-- KE_ESTIMATE (R289): at steady speed held for 100 ms, from the current loop's averages, line to line: √3 × (vq − RS × iq) in
µV per rpm; in CATCH or COAST at 5 % or more from `vll`, the line-to-line peak in µV that the phase voltages show. -/
def execKeEstimate (n vll : Nat) (s : State) : Host.Outcome State Fault Refusal :=
  onUnit (n < 8) (
    let d := s.drvOf n
    let held : Bool := match d.steadySince with
      | some t => decide (t + msTicks 100 ≤ s.tick)
      | none => false
    if s.bit (DRVn_CTRL_ENABLE n) = false then s
    else if held ∧ d.keNum ≠ 0 then
      let mean := (quotOpen d.keSum d.keNum).toNat
      let ke := isqrt (3 * (mean * 1000000 / 60) * (mean * 1000000 / 60)) / 2 ^ 32
      (s.modDrv n (fun d => { d with steadySince := none, keSum := 0, keNum := 0 })).keWrite n ke
    else if (s.drvState n = dCatch ∨ s.drvState n = dCoast) ∧ s.fivePct n d.obsSpeed = true ∧ d.obsSpeed ≠ 0 then
      s.keWrite n (quotOpen ((vll : Int) * 65536) (d.obsSpeed.natAbs * 60)).toNat
    else s)

/-- A write of 1 to ENC_LOST (R287): refused while cause 1 persists or outside OFF. -/
def State.drvClearLost (s : State) (n : Nat) : State :=
  if s.bit (DRVn_STATUS_ENC_LOST n) = false then s
  else if (s.drvOf n).persist ∨ s.drvState n ≠ dOff then s.flag (DRVn_STATUS_CMD_REFUSED n)
  else s.fset (DRVn_STATUS_ENC_LOST n) 0

/-- Whether cause 1 still persists when a write of 1 to ENC_LOST arrives: once it has come, how long it lasts is free (log entry 2). -/
def State.drvPersists (s : State) (n : Nat) : State :=
  if (s.drvOf n).persist then s.draw.2.modDrv n (fun d => { d with persist := s.draw.1 % 2 == 1 }) else s

/-- DRV_ENC_LOST_CLEAR (R287). -/
def execDrvEncLostClear (n : Nat) (persists : Bool) (s : State) : Host.Outcome State Fault Refusal :=
  onUnit (n < 8) ((s.modDrv n (fun d => { d with persist := persists })).drvClearLost n)

/-- READY (R291): the conditions hold, the speed for READY_T ms. -/
def execReadyEv (n : Nat) (s : State) : Host.Outcome State Fault Refusal :=
  onUnit (n < 8) (
    let held : Bool := match (s.drvOf n).tolSince with
      | some t => decide (t + msTicks (s.fget (DRVn_READY_READY_T n)) ≤ s.tick)
      | none => false
    if s.drvReadyNow n ∧ held = true ∧ s.bit (DRVn_STATUS_READY n) = false then (s.fset (DRVn_STATUS_READY n) 1).drvEvent n 9 else s)

/-! ### The gate outputs and the excitation (R274, R277, R280, R290) -/

/-- The PWM counter: from 0 up to PER and back, 0 at every whole multiple of the period in the time format (R274). -/
def State.pwmCounter (s : State) (n : Nat) : Nat :=
  let c := s.now.toNat / 4 % s.drvPeriod n
  min c (s.drvPeriod n - c)

/-- What the gates of leg `k` are to be, high side and low side. -/
def State.legWant (s : State) (n k : Nat) : Bool × Bool :=
  let brake := s.bit (DRVn_CTRL_SAFE_MODE n)
  if s.inBackup then (false, false)
  else if s.safeCtl then (false, brake)
  else if s.drvState n = dOff then (false, false)
  else match (s.drvOf n).gates with
    | .off => (false, false)
    | .brake => (false, true)
    | .pwm =>
      let h := Config.pwmHigh (((s.drvOf n).duty[k]?).getD 0) (s.pwmCounter n) (s.drvPeriod n / 2)
      (h, !h)

/-- A gate may rise DEAD TB cycles after its partner has fallen. -/
def deadOver (now dead : Nat) (fell : Option Nat) : Bool := match fell with | none => true | some t => decide (t + dead ≤ now)

/-- A leg at a TB tick: gates fall at once; a gate rises only while its partner is low and DEAD has passed since that fell (R277). -/
def Leg.tick (l : Leg) (now dead : Nat) (want : Bool × Bool) : Leg :=
  let hi := l.hi && want.1
  let lo := l.lo && want.2
  let hiFell := if l.hi && !hi then some now else l.hiFell
  let loFell := if l.lo && !lo then some now else l.loFell
  let hi' := hi || (want.1 && !lo && deadOver now dead loFell)
  ⟨hi', lo || (want.2 && !want.1 && !hi' && deadOver now dead hiFell), hiFell, loFell⟩

/-- The legs of one channel at a TB tick. -/
def State.legsTick (s : State) (n : Nat) : State :=
  let dead := max 2 (s.fget (DRVn_PWM_DEAD n))
  s.modDrv n (fun d => { d with legs := (d.legs.zip (List.range 3)).map (fun e => e.1.tick s.tick dead (s.legWant n e.2)) })

/-- The legs of every channel that has run. -/
def State.gatesTick (s : State) : State := s.drv.foldl (fun s e => s.legsTick e.1) s

/-- The levels of DRVn_UH and UL, VH and VL, WH and WL: all low in reset, in hibernate, in backup operation and without power (R290). -/
def State.driveGates (s : State) (n k : Nat) : Bool × Bool :=
  match s.power.phase, (s.drvOf n).legs[k]? with
  | .run, some l => (l.hi && (s.legWant n k).1, l.lo && (s.legWant n k).2)
  | _, _ => (false, false)

/-- The excitation on DRVn_EZP: 10 kHz at 50 % duty from ENABLE on, none under R290 (R280; its phase is log entry 50's choice). -/
def State.excitation (s : State) (n : Nat) : Bool :=
  s.bit (DRVn_CTRL_ENABLE n) && s.posSrc n == 1 && !s.safeCtl && !s.inBackup && decide ((s.tick - (s.drvOf n).enabledAt) % 25000 < 12500)

/-- While a needed channel is in COAST, every sheet that is locked and not final has a defect counted (R286). -/
def State.coastDefects (s : State) : State :=
  s.drv.foldl (fun s e =>
    if s.drvNeeded e.1 ∧ s.drvState e.1 = dCoast then s.countLocked (msgDetail (drvNotice e.1) 0x11 (s.fget (DRVn_COUNT_RECATCH e.1))) else s) s

end Sys2Proof.Machine
end

