-- ==== Sys2Proof/Machine/Axs.lean ====
section
/-! DEFINITION. The paper path axes (R294 to R320). -/

namespace Sys2Proof.Machine

/-- The state numbers of AXSn_STATUS. -/
def aDisabled : Nat := 0
def aIdle : Nat := 1
def aMoving : Nat := 2
def aStopping : Nat := 3
def aHoming : Nat := 4
def aFollowing : Nat := 5
def aSafe : Nat := 6

/-- What an axis keeps beside its registers. -/
def State.axsOf (s : State) (n : Nat) : AxsSt := (kvGet s.axs n).getD AxsSt.new
def State.modAxs (s : State) (n : Nat) (f : AxsSt → AxsSt) : State := { s with axs := kvSet s.axs n (f (s.axsOf n)) }
def State.axsState (s : State) (n : Nat) : Nat := s.fget (AXSn_STATUS_STATE n)
def State.axsPos (s : State) (n : Nat) : Int := sext 32 (s.fget (AXSn_POS_VALUE n))
def State.classE (s : State) (n : Nat) : Bool := s.bit (AXSn_CTRL_CLASS n)

/-- The failure and the notice source (R319, R410), and the base of the events. -/
def axsFail (n : Nat) : Nat := 0x160 + 2 * n
def axsNotice (n : Nat) : Nat := 0x161 + 2 * n
def State.axsEvent (s : State) (n e : Nat) : State := s.event (selOf (0x300000 + n * 0x1000) e)

/-- |v| against a threshold in microsteps/ms. -/
def State.axsFast (s : State) (n t : Nat) : Bool := decide (t * 2 ^ 32 ≤ (s.axsOf n).prof.v.natAbs)

/-- V_MAX, A_MAX and J_MAX in effect (R294). -/
def State.axsLim (s : State) (n : Nat) : Lim :=
  ⟨some (sext 32 (s.fget (AXSn_VMAX_VALUE n))).toNat, (sext 32 (s.fget (AXSn_AMAX_VALUE n))).toNat,
   (sext 32 (s.fget (AXSn_JMAX_VALUE n))).toNat⟩
def State.axsNoLim (s : State) (n : Nat) : Bool :=
  s.fget (AXSn_VMAX_VALUE n) == 0 || s.fget (AXSn_AMAX_VALUE n) == 0 || s.fget (AXSn_JMAX_VALUE n) == 0

/-- POS_UNC is set; its event is raised once on entry (R314). -/
def State.setUnc (s : State) (n : Nat) : State :=
  if s.bit (AXSn_STATUS_POS_UNC n) then s else (s.fset (AXSn_STATUS_POS_UNC n) 1).axsEvent n 8

/-- R314: a hard stop, or a removal of drive, at |v| > V_HARD. -/
def State.uncertain (s : State) (n : Nat) : State :=
  if s.fget (AXSn_VLIM_V_HARD n) * 2 ^ 32 < (s.axsOf n).prof.v.natAbs then s.setUnc n else s

/-- The active limit in a direction, qualified (R312). -/
def State.limitAt (s : State) (n : Nat) (d : Int) : Bool :=
  if d < 0 then (s.axsOf n).limNeg.level else if 0 < d then (s.axsOf n).limPos.level else false

/-- The axis stands: the end of a stop. A position move that ended short leaves its remaining distance (R315). -/
def State.axsRest (s : State) (n : Nat) : State :=
  let x := s.axsOf n
  let pos := s.axsPos n
  let s1 := s.modAxs n (fun x => { x with motion := .rest, posMode := false, prof := { x.prof with v := 0, a := 0 }, zeroSince := s.tick })
  let s2 := if s1.axsState n = aStopping ∨ s1.axsState n = aMoving then s1.fset (AXSn_STATUS_STATE n) aIdle else s1
  if x.posMode ∧ x.target ≠ pos then
    (s2.fsets [(AXSn_REMAIN_VALUE n, uint 32 (x.target - pos)), (AXSn_STATUS_REMAIN_VALID n, 1)]).axsEvent n 1
  else s2

/-- A hard stop (R313): v = a = 0 at once; E is held equal to POS on a class E axis. -/
def State.axsHard (s : State) (n : Nat) : State :=
  let s1 := ((s.uncertain n).modAxs n (fun x => { x with prof := { x.prof with v := 0, a := 0 }, edgePos := s.axsPos n })).axsRest n
  if s.classE n then s1.fset (AXSn_EXT_COUNT_VALUE n) (s.fget (AXSn_POS_VALUE n)) else s1

/-- A ramped stop (R297, R313); a class E axis has no ramp and stops hard. -/
def State.axsRamp (s : State) (n : Nat) : State :=
  let x := s.axsOf n
  if s.classE n then s.axsHard n
  else if x.prof.v = 0 ∧ x.prof.a = 0 then s.axsRest n
  else (s.modAxs n (fun x => { x with motion := .ramp, dir := x.prof.v.sign })).fset (AXSn_STATUS_STATE n) aStopping

/-- A homing fails (R317): HOMED clears; the stop is the caller's. -/
def State.homeFail (s : State) (n cause : Nat) : State :=
  let s1 := (s.fsets [(AXSn_STATUS_HOMED n, 0), (AXSn_STATUS_HOME_FAIL n, 1), (AXSn_STATUS_HOME_CAUSE n, cause),
    (AXSn_STATUS_STATE n, aIdle)]).modAxs n (fun x => { x with hst := .none })
  (if cause = 1 then (s1.fsat (AXSn_COUNT_CHATTERS n) 1).sendFault (axsFail n) 0x02 5 else s1.sendFault (axsFail n) 0x03 cause).axsEvent n 5

/-- A homing in progress fails with cause 4 (R317). -/
def State.homeAbort (s : State) (n : Nat) : State := if (s.axsOf n).hst = .none then s else s.homeFail n 4

/-- The bridge inputs go to 0. -/
def State.coilsOff (s : State) (n : Nat) : State := s.modAxs n (fun x => { x with coilA := .off, coilB := .off, repower := none, queued := none })

/-- A class C safe state (R313): hard stop, inputs 0, STATE SAFE. -/
def State.axsSafe (s : State) (n : Nat) : State :=
  if s.axsState n = aDisabled ∨ s.axsState n = aSafe then s
  else (((s.homeAbort n).axsHard n).coilsOff n).fset (AXSn_STATUS_STATE n) aSafe

/-! ### The coils (R302, R303, R308) -/

/-- π in 2^-60. -/
def piQ60 : Int := 3622009729038561421

/-- The sum of the cosine series from term `m`, in 2^-60; `x2` is x² in 2^-60. -/
def cosSeries : Nat → Nat → Int → Int → Int
  | 0, _, _, _ => 0
  | k + 1, m, x2, t => t + cosSeries k (m + 1) x2 (-(t * x2 / 2 ^ 60) / ((2 * m + 1) * (2 * m + 2) : Nat))

/-- cos(2πk/1024) in 2^-30, to the nearest. -/
def cosQ30 (k : Nat) : Int :=
  let j := k % 1024
  let i := if 512 < j then 1024 - j else j
  let x := 2 * piQ60 * i / 1024
  (cosSeries 16 0 (x * x / 2 ^ 60) (2 ^ 60) + 2 ^ 29) / 2 ^ 30

/-- Microsteps per full step of a band (R305). -/
def bandStep (b : Nat) : Nat := if b = 0 then 256 else if b = 1 then 64 else if b = 2 then 16 else if b = 3 then 4 else 1

/-- The coil phase applied (R305, R306). -/
def State.phaseApplied (s : State) (n : Nat) : Nat :=
  let p := s.fget (AXSn_PHASE_PHASE n)
  if s.classE n then p else
  let m := 256 / bandStep (s.fget (AXSn_STATUS_RES n))
  p / m * m

/-- The factors of R302 for coils A and B, in 2^-30. -/
def State.coilTab (s : State) (n : Nat) : Int × Int :=
  let p := s.phaseApplied n + 128
  (cosQ30 p, cosQ30 (p + 768))

/-- How a coil is driven in the period that begins (R301, R303). -/
def State.coilDrive (s : State) (n : Nat) (tab : Int) : Coil :=
  let i := s.fget (AXSn_DRIVE_I_APPLIED n)
  if s.bit (AXSn_STATUS_STRONG n) then
    if tab * i = 0 then .decay
    else .strong (decide (tab < 0)) (min 255 ((2 * i * s.fget (AXSn_SENSE_R_SENSE n) * tab.natAbs + 2000 * 2 ^ 30) / (2 * 2000 * 2 ^ 30)))
  else
    let vm := max 1 (Config.motorVolts n (s.fget (ADC_AINk_CODE (s.fget (AXSn_SENSE_VM_AIN n)))))
    let uv : Int := (i * s.fget (AXSn_QUIET_R_COIL n) : Nat)
      + quotOpen ((s.fget (AXSn_QUIET_KE_STEP n) * (s.axsOf n).prof.v.natAbs : Nat) : Int) (2 ^ 32)
    .quiet (decide (tab < 0)) (min 65536 (quotOpen (uv * tab.natAbs * 65536) (vm * 2 ^ 30)).toNat)

/-- The bridges are without drive. -/
def State.undriven (s : State) (n : Nat) : Bool :=
  s.safeCtl || s.axsState n == aDisabled || s.axsState n == aSafe || s.bit (AXSn_STATUS_POWERED_DOWN n)

/-- Fast decay drives the bridge in reverse; slow decay brakes (R301, R303). -/
def reverseOf (neg : Bool) : Bool × Bool := (neg, !neg)

/-- The inputs x1 and x2 of a coil's bridge, `t` ns into a chopper period in which the comparator trips at `trip` and the current reaches zero
at `zero` in fast decay, if ever (R301, R303). A coil whose setpoint is 0 decays for the whole period, in the direction of its last drive. -/
def State.bridge (s : State) (n : Nat) (c : Coil) (t : Nat) (trip zero : Option Nat) : Bool × Bool :=
  let per := s.fget (AXSn_CHOP_CHOP_PER n) * 4
  let mode := s.fget (AXSn_CHOP_DECAY n)
  let decay := fun (start : Nat) (neg : Bool) =>
    let fastFor := if mode = 0 then 0 else if mode = 1 then per - start else (per - start) * s.fget (AXSn_CHOP_FAST_SIXT n) / 16
    let gone : Bool := match zero with | some z => decide (z ≤ t) | none => false
    if t < start + fastFor ∧ gone = false then reverseOf neg else (true, true)
  match c with
  | .off => (false, false)
  | .decay => decay 0 false
  | .strong neg _ =>
    match trip with
    | some u =>
      let u' := max u (s.fget (AXSn_CHOP_BLANK n) * 16)
      if t < u' then (!neg, neg) else decay u' neg
    | none => (!neg, neg)
  | .quiet neg duty =>
    let stop := min (per * duty / 65536) (trip.getD per)
    if t < stop then (!neg, neg) else (true, true)

/-- CHOP_PERIOD_START (R303, R308): the on-time of the period that ends counts in strong mode, for the coil with the larger
setpoint; a period without a trip counts as the period less the blanking time. Each coil is then driven by its mode. -/
def execChopPeriodStart (n : Nat) (tripA tripB : Option Nat) (s : State) : Host.Outcome State Fault Refusal :=
  onUnit (n < 20) (
    let t := s.coilTab n
    let full := s.fget (AXSn_CHOP_CHOP_PER n) * 4 - s.fget (AXSn_CHOP_BLANK n) * 16
    let on := ((if t.2.natAbs ≤ t.1.natAbs then tripA else tripB)).getD full
    if s.undriven n then s.modAxs n (fun x => { x with coilA := .off, coilB := .off })
    else
      let s1 := if s.bit (AXSn_STATUS_STRONG n) ∧ (s.axsOf n).motion ≠ .rest then
          s.modAxs n (fun x => { x with onSum := x.onSum + on, onNum := x.onNum + 1 })
        else s
      let a := s1.coilDrive n t.1
      let b := s1.coilDrive n t.2
      s1.modAxs n (fun x => { x with coilA := a, coilB := b }))

/-! ### Full-step boundaries (R304, R305, R308 to R310) -/

/-- The band that |v| asks for, from the band in force (R305). -/
def State.bandFor (s : State) (n : Nat) : Nat :=
  let ts := [s.fget (AXSn_RES_THR0_T_LOW n), s.fget (AXSn_RES_THR0_T_HIGH n), s.fget (AXSn_RES_THR1_T_LOW n), s.fget (AXSn_RES_THR1_T_HIGH n)]
  let used := ts.takeWhile (fun t => t != 0)
  let v := (s.axsOf n).prof.v.natAbs
  let now := s.fget (AXSn_STATUS_RES n)
  let h := 100 - s.fget (AXSn_MODE_THR_RES_HYST n)
  let up := (used.filter (fun t => decide (t * 2 ^ 32 ≤ v))).length
  let keep := ((used.take now).filter (fun t => decide (t * h * 2 ^ 32 ≤ v * 100))).length
  max up keep

/-- The drive mode of the next full step (R304). -/
def State.modeStep (s : State) (n : Nat) : State :=
  let t := s.fget (AXSn_MODE_THR_MODE_THR n)
  let v := (s.axsOf n).prof.v.natAbs
  if s.bit (AXSn_STATUS_STRONG n) = false ∧ t * 2 ^ 32 ≤ v then
    ((s.fset (AXSn_STATUS_STRONG n) 1).modAxs n (fun x => { x with cur := s.fget (AXSn_CUR_I_MAX n) * 1000, onSum := 0, onNum := 0 })).axsEvent n 7
  else if s.bit (AXSn_STATUS_STRONG n) ∧ v * 100 < t * (100 - s.fget (AXSn_MODE_THR_MODE_HYST n)) * 2 ^ 32 then
    (s.fsets [(AXSn_STATUS_STRONG n, 0), (AXSn_PHASE_LOAD n, 0)]).axsEvent n 7
  else s

/-- LOAD and TON of the full step that ends (R308). -/
def State.loadStep (s : State) (n : Nat) : State :=
  let x := s.axsOf n
  let s1 := s.modAxs n (fun x => { x with onSum := 0, onNum := 0 })
  if s.bit (AXSn_STATUS_STRONG n) = false then s1.fset (AXSn_PHASE_LOAD n) 0
  else if x.onNum = 0 then s1
  else
    let ton := (quotOpen x.onSum x.onNum).toNat
    let num : Int := 1023 * ((ton * 1000 * 2 ^ 32 : Nat) - (s.fget (AXSn_LOAD_REF_T0 n) * 1000 * 2 ^ 32 : Nat)
      - (s.fget (AXSn_LOAD_REF_TK n) * x.prof.v.natAbs : Nat))
    (s1.fset (AXSn_DRIVE_TON n) (min 65535 ton)).fset (AXSn_PHASE_LOAD n)
      (clampInt 0 1023 (divRound num (max 1 (s.fget (AXSn_STALL_SPAN n)) * 1000 * 2 ^ 32))).toNat

/-- The current of the next full step (R309). -/
def State.currentStep (s : State) (n : Nat) : State :=
  let hi := s.fget (AXSn_CUR_I_MAX n) * 1000
  let lo := s.fget (AXSn_CUR_I_MIN n) * 1000
  let c := (s.axsOf n).cur
  let i := if s.bit (AXSn_STATUS_STRONG n) ∧ s.bit (AXSn_CTRL_AUTO_CUR n) then
      let t := lo + (quotOpen (((hi - lo) * s.fget (AXSn_PHASE_LOAD n) : Nat) : Int) 1023).toNat
      if c < t then min (c + (hi - lo) / 8) t else max (c - (hi - lo) / 32) t
    else hi
  (s.modAxs n (fun x => { x with cur := i })).fset (AXSn_DRIVE_I_APPLIED n) (i / 1000)

/-- A stall (R310, R313): hard stop, POS_UNC. -/
def State.axsStall (s : State) (n : Nat) : State :=
  let s1 := (((s.modAxs n (fun x => { x with dir := x.prof.v.sign, stallRun := 0 })).homeAbort n).axsHard n).setUnc n
  ((((s1.flag (AXSn_STATUS_STALL n)).fsat (AXSn_COUNT_STALLS n) 1).sendFault (axsFail n) 0x01 (uint 16 (s.axsPos n / 256)))).axsEvent n 3

/-- A full-step boundary (R304, R305, R308 to R310). -/
def State.fullStep (s : State) (n : Nat) : State :=
  let s1 := s.loadStep n
  let bad := s1.bit (AXSn_CTRL_STALL_EN n) && s1.bit (AXSn_STATUS_STRONG n) && s1.axsFast n (s1.fget (AXSn_VLIM_STALL_VMIN n))
    && decide (s1.fget (AXSn_CUR_I_MAX n) * 1000 ≤ (s1.axsOf n).cur)
    && decide (s1.fget (AXSn_STALL_STALL_THR n) < s1.fget (AXSn_PHASE_LOAD n))
  let k := if bad then (s1.axsOf n).stallRun + 1 else 0
  let s2 := (s1.modAxs n (fun x => { x with stallRun := k })).currentStep n |>.modeStep n
  let s3 := if s2.classE n then s2.fset (AXSn_STATUS_RES n) 0 else s2.fset (AXSn_STATUS_RES n) (s2.bandFor n)
  if 2 ≤ k then s3.axsStall n else s3

/-- Microsteps are made: POS and PHASE move (R302), and every full-step boundary passed acts. -/
def State.microsteps (s : State) (n : Nat) (pos : Int) : State :=
  let d := sext 32 (uint 32 (pos - s.axsPos n))
  let ph : Int := s.fget (AXSn_PHASE_PHASE n)
  let k := if 0 ≤ d then ((ph + d) / 256 - ph / 256).toNat else ((ph + 255) / 256 - (ph + d + 255) / 256).toNat
  (List.range k).foldl (fun s _ => s.fullStep n)
    (s.fsets [(AXSn_POS_VALUE n, uint 32 pos), (AXSn_PHASE_PHASE n, ((ph + d) % 1024).toNat)])

/-! ### Commands (R296, R297, R299, R315 to R317) -/

/-- Standstill (R311): v has been 0 for STANDSTILL_T ms. -/
def State.standstill (s : State) (n : Nat) : Bool :=
  let x := s.axsOf n
  decide (x.motion = .rest) && x.prof.v == 0 && decide (x.zeroSince + msTicks (max 1 (s.fget (AXSn_HOLD_STANDSTILL_T n))) ≤ s.tick)

/-- The motion begins with its current (R309). -/
def State.driveOn (s : State) (n : Nat) : State :=
  (s.modAxs n (fun x => { x with cur := s.fget (AXSn_CUR_I_MAX n) * 1000, stallRun := 0, onSum := 0, onNum := 0 })).fset
    (AXSn_DRIVE_I_APPLIED n) (s.fget (AXSn_CUR_I_MAX n))

/-- A position move from the present state (R296, R297). -/
def State.planMove (s : State) (n : Nat) (target : Int) : State :=
  let x := s.axsOf n
  let d := x.prof.v.sign
  let dist := (target * 65536 - x.prof.p) * d
  let stop := x.prof.v ≠ 0 ∧ (dist < 0 ∨ x.prof.tooNear (s.axsLim n) dist = true)
  s.modAxs n (fun x => { x with target := target, dir := d, motion := if stop then .stopFirst else .move })

/-- Velocity mode (R299). -/
def State.planVel (s : State) (n : Nat) (vt : Int) : State := s.modAxs n (fun x => { x with motion := .vel, vt := vt })

/-- The reference input of the homing (R317): HOME, LIM_NEG or LIM_POS, with the pin that names it and its direction. -/
def State.homeRef (s : State) (n : Nat) : Deb × Nat × Int :=
  let x := s.axsOf n
  if s.fget (AXSn_HOME_CFG_HOME_SRC n) = 1 then (x.limNeg, s.fget (AXSn_PINS_LIM_NEG_PIN n), -1)
  else if s.fget (AXSn_HOME_CFG_HOME_SRC n) = 2 then (x.limPos, s.fget (AXSn_PINS_LIM_POS_PIN n), 1)
  else (x.home, s.fget (AXSn_PINS_HOME_PIN n), 0)

/-- The sign of HOME_DIR. -/
def State.homeDir (s : State) (n : Nat) : Int := if s.bit (AXSn_HOME_CFG_HOME_DIR n) then 1 else -1

/-- Enter a homing state that moves at a constant velocity. -/
def State.homeVel (s : State) (n : Nat) (h : HomeSt) (vt : Int) : State :=
  (s.planVel n vt).modAxs n (fun x => { x with hst := h, hcount := 0, hstart := s.axsPos n })

/-- The commands that begin a motion or set the position, on an axis that can take them now: 1 MOVE, 2 VEL, 5 RESUME, 6 HOME,
7 SETPOS; what cannot be done is refused. -/
def State.axsBegin (s : State) (n a : Nat) : State :=
  let no := s.flag (AXSn_STATUS_CMD_REFUSED n)
  let x := s.axsOf n
  let pos := s.axsPos n
  let st := s.axsState n
  let wake := fun (k : State) =>
    if s.bit (AXSn_STATUS_POWERED_DOWN n) then
      ((s.fset (AXSn_STATUS_POWERED_DOWN n) 0).modAxs n (fun x => { x with queued := some a, repower := some (s.tick + msTicks 1) })).driveOn n
    else k
  if a = 7 then
    if s.standstill n then
      let t := sext 32 (s.fget (AXSn_TARGET_VALUE n))
      (s.fsets [(AXSn_POS_VALUE n, uint 32 t), (AXSn_EXT_COUNT_VALUE n, uint 32 t), (AXSn_STATUS_POS_UNC n, 0),
        (AXSn_STATUS_REMAIN_VALID n, 0)]).modAxs n (fun x => { x with prof := .free (t * 65536) 0, edgePos := t })
    else no
  else if s.classE n = true ∨ (st ≠ aIdle ∧ st ≠ aMoving) then no
  else if a = 6 then
    let r := s.homeRef n
    if st ≠ aIdle ∨ s.standstill n = false ∨ r.2.1 = 0x7F ∨ s.axsNoLim n = true ∨ s.fget (AXSn_HOME_V_V_SLOW n) = 0
        ∨ s.fget (AXSn_HOME_V_V_FAST n) = 0 ∨ (r.2.2 ≠ 0 ∧ r.2.2 ≠ s.homeDir n) then no
    else wake (
      let s1 := (s.fsets [(AXSn_STATUS_STATE n, aHoming), (AXSn_STATUS_REMAIN_VALID n, 0)]).driveOn n
      if r.1.level then s1.homeVel n .clear (-(s.homeDir n) * s.fget (AXSn_HOME_V_V_SLOW n) * 65536)
      else s1.homeVel n .fast (s.homeDir n * s.fget (AXSn_HOME_V_V_FAST n) * 65536))
  else if s.axsNoLim n ∧ a ≠ 5 then no
  else if a = 5 then
    let rem := sext 32 (s.fget (AXSn_REMAIN_VALUE n))
    if s.bit (AXSn_STATUS_REMAIN_VALID n) = false ∨ st ≠ aIdle ∨ s.bit (AXSn_STATUS_POS_UNC n) = true ∨ s.limitAt n rem.sign = true then no
    else wake (((s.fset (AXSn_STATUS_STATE n) aMoving).driveOn n).planMove n (pos + rem) |>.modAxs n (fun x =>
      { x with posMode := true, resumed := true }))
  else if a = 1 then
    let t := sext 32 (s.fget (AXSn_TARGET_VALUE n))
    if s.limitAt n (t - pos).sign then no
    else wake ((((if x.motion = .rest then s.driveOn n else s).fsets [(AXSn_STATUS_STATE n, aMoving), (AXSn_STATUS_REMAIN_VALID n, 0)]).planMove n t).modAxs n
      (fun x => { x with posMode := true, resumed := false }))
  else if a = 2 then
    let v := sext 32 (s.fget (AXSn_VTARGET_VALUE n))
    if s.limitAt n v.sign then no
    else wake (((((if x.motion = .rest then s.driveOn n else s).fsets [(AXSn_STATUS_STATE n, aMoving), (AXSn_STATUS_REMAIN_VALID n, 0)]).planVel n v)).modAxs n
      (fun x => { x with posMode := false, resumed := false }))
  else s

/-- The command that waited for the end of a stop (R316). -/
def State.axsQueued (s : State) (n : Nat) : State :=
  match (s.axsOf n).queued with
  | some a => if s.axsState n = aIdle ∨ s.axsState n = aFollowing then (s.modAxs n (fun x => { x with queued := none })).axsBegin n a else s
  | none => s

/-- HALT (R313). -/
def State.axsHalt (s : State) (n : Nat) : State :=
  if s.axsState n = aDisabled ∨ s.axsState n = aSafe then s else ((s.homeAbort n).axsHard n).axsQueued n

/-- STOP (R313). -/
def State.axsStopCmd (s : State) (n : Nat) : State :=
  let st := s.axsState n
  if st = aMoving ∨ st = aHoming ∨ st = aFollowing then ((s.homeAbort n).axsRamp n).axsQueued n else s

/-- A write of AXSn_CMD (R313, R316): a command written while STOPPING waits, but for STOP and HALT. -/
def State.axsCmd (s : State) (n a : Nat) : State :=
  if a = 0 then s
  else if a = 3 then s.axsStopCmd n
  else if a = 4 then s.axsHalt n
  else if s.axsState n = aDisabled ∨ s.axsState n = aSafe ∨ s.safeCtl = true then s.flag (AXSn_STATUS_CMD_REFUSED n)
  else if s.axsState n = aStopping ∨ (s.axsOf n).repower ≠ none then s.modAxs n (fun x => { x with queued := some a })
  else s.axsBegin n a

/-- MOVE (R296, R297). -/
def execMoveEv (n : Nat) (s : State) : Host.Outcome State Fault Refusal := onUnit (n < 20) (s.axsCmd n 1)
/-- VEL (R299). -/
def execVelEv (n : Nat) (s : State) : Host.Outcome State Fault Refusal := onUnit (n < 20) (s.axsCmd n 2)
/-- STOP (R313). -/
def execAxsStop (n : Nat) (s : State) : Host.Outcome State Fault Refusal := onUnit (n < 20) (s.axsCmd n 3)
/-- HALT (R313). -/
def execHaltEv (n : Nat) (s : State) : Host.Outcome State Fault Refusal := onUnit (n < 20) (s.axsCmd n 4)
/-- RESUME (R315). -/
def execResumeEv (n : Nat) (s : State) : Host.Outcome State Fault Refusal := onUnit (n < 20) (s.axsCmd n 5)
/-- HOME (R317). -/
def execHomeEv (n : Nat) (s : State) : Host.Outcome State Fault Refusal := onUnit (n < 20) (s.axsCmd n 6)
/-- SETPOS (R320). -/
def execSetposEv (n : Nat) (s : State) : Host.Outcome State Fault Refusal := onUnit (n < 20) (s.axsCmd n 7)

/-- The CFG code of an axis at ENABLE (R305, R307, R309, R312, R320); the lowest that holds, the ninth class E axis apart. -/
def State.axsCfg (s : State) (n : Nat) : Nat :=
  let pins := [s.fget (AXSn_PINS_LIM_NEG_PIN n), s.fget (AXSn_PINS_LIM_POS_PIN n), s.fget (AXSn_PINS_HOME_PIN n)]
    ++ (if s.classE n then [s.fget (AXSn_EXT_STEP_PIN n), s.fget (AXSn_EXT_DIR_PIN n)] else [])
  let named := pins.filter (fun p => p != 0x7F)
  let ts := [s.fget (AXSn_RES_THR0_T_LOW n), s.fget (AXSn_RES_THR0_T_HIGH n), s.fget (AXSn_RES_THR1_T_LOW n), s.fget (AXSn_RES_THR1_T_HIGH n)].filter
    (fun t => t != 0)
  let per := s.fget (AXSn_CHOP_CHOP_PER n)
  if named.any (fun p => decide (96 ≤ p)) ∨ named.length ≠ named.eraseDups.length
      ∨ (s.classE n = true ∧ s.fget (AXSn_EXT_STEP_PIN n) = 0x7F)
      ∨ (s.fget (AXSn_MODE_THR_MODE_THR n) ≠ 0 ∧ s.fget (AXSn_SENSE_VM_AIN n) = 0x7F) then 1
  else if (ts.zip (ts.drop 1)).any (fun p => decide (p.2 ≤ p.1)) then 3
  else if s.fget (AXSn_CUR_I_MAX n) < s.fget (AXSn_CUR_I_MIN n) ∨ 510000 < s.fget (AXSn_CUR_I_MAX n) * s.fget (AXSn_SENSE_R_SENSE n) then 4
  else if per < 2500 ∨ 12500 < per then 5
  else 0

/-- A write of ENABLE (R307, R313, R320): at most 8 axes of class E are enabled. -/
def State.axsSetEnable (s : State) (n : Nat) (en : Bool) : State :=
  if en = s.bit (AXSn_CTRL_ENABLE n) then s
  else if en then
    let s0 := s.fset (AXSn_CTRL_ENABLE n) 1
    let others := (List.range 20).filter (fun k => k != n && s.classE k && s.axsState k != aDisabled)
    if s.classE n ∧ 8 ≤ others.length then (s0.fset (AXSn_STATUS_CFG n) 2).sendFault (axsFail n) 0x04 2
    else
      let c := s.axsCfg n
      let s1 := (s0.fsets [(AXSn_STATUS_CFG n, c), (AXSn_STATUS_STATE n, if s.safeCtl then aSafe else if s.classE n then aFollowing else aIdle)]).modAxs n
        (fun x => { x with motion := .rest, prof := .free (s.axsPos n * 65536) 0, posMode := false, zeroSince := s.tick, edgePos := s.axsPos n, edgeAt := none
                           queued := none, repower := none, cur := s.fget (AXSn_CUR_I_MAX n) * 1000 })
      let s2 := if s.classE n then s1.fset (AXSn_EXT_COUNT_VALUE n) (s.fget (AXSn_POS_VALUE n)) else s1
      if c = 0 then s2 else s2.sendFault (axsFail n) 0x04 c
  else
    let s1 := if s.axsState n = aDisabled ∨ s.axsState n = aSafe then s else (s.homeAbort n).axsHard n
    ((s1.coilsOff n).fsets [(AXSn_CTRL_ENABLE n, 0), (AXSn_STATUS_STATE n, aDisabled)])

/-- AXS_DISABLE (R313). -/
def execAxsDisable (n : Nat) (s : State) : Host.Outcome State Fault Refusal := onUnit (n < 20) (s.axsSetEnable n false)

/-! ### Class E (R306, R307) -/

/-- M of a class E axis. -/
def State.extStep (s : State) (n : Nat) : Int := (256 / 2 ^ (min 8 (s.fget (AXSn_EXT_STEP_RES n))) : Nat)

/-- The external count E. -/
def State.extCount (s : State) (n : Nat) : Int := sext 32 (s.fget (AXSn_EXT_COUNT_VALUE n))

/-- The interpolator moves POS toward E at the rate of the last edge, never past E. -/
def State.interpolate (s : State) (n : Nat) : State :=
  let x := s.axsOf n
  match x.edgeAt with
  | some t0 =>
    if x.repower.isSome then s else
    let e := s.extCount n
    let dt := s.tick - t0
    let far := e - x.edgePos
    let pos := if x.delta ≤ dt then e else x.edgePos + far.sign * (far.natAbs * dt / max 1 x.delta : Nat)
    if pos = s.axsPos n then (if pos = e then s.modAxs n (fun x => { x with prof := { x.prof with v := 0 } }) else s)
    else
      let v : Int := far * 2 ^ 32 * 250000 / (max 1 x.delta : Nat)
      ((s.modAxs n (fun x => { x with prof := .free (pos * 65536) v, zeroSince := s.tick })).microsteps n pos)
  | none => s

/-- STEP_EDGE (R306, R307): a qualified edge; DIR gives the sign. -/
def execStepEdge (n : Nat) (dir : Bool) (s : State) : Host.Outcome State Fault Refusal :=
  onUnit (n < 20) (
    if s.classE n = false ∨ s.undriven n && !s.bit (AXSn_STATUS_POWERED_DOWN n) = true ∨ s.axsState n = aDisabled ∨ s.safeCtl = true then s else
    let sg : Int := if dir = s.bit (AXSn_EXT_DIR_POL n) then -1 else 1
    let s0 := s.interpolate n
    let x0 := s0.axsOf n
    if s0.limitAt n sg ∨ (s0.bit (AXSn_STATUS_STALL n) = true ∧ x0.dir = sg) then
      s0.fset (AXSn_EXT_COUNT_VALUE n) (s0.fget (AXSn_POS_VALUE n))
    else
      let s1 := if s0.bit (AXSn_STATUS_POWERED_DOWN n) then
          ((s0.fset (AXSn_STATUS_POWERED_DOWN n) 0).modAxs n (fun x => { x with repower := some (s.tick + msTicks 1) })).driveOn n
        else s0.driveOn n
      let e := s1.extCount n + sg * s1.extStep n
      let pause := 640000
      let dl := match x0.edgeAt with
        | some t => min pause (s.tick - t)
        | none => pause
      let s2 := (s1.fsets [(AXSn_EXT_COUNT_VALUE n, uint 32 e), (AXSn_STATUS_STATE n, aFollowing)]).modAxs n (fun x =>
        { x with edgeAt := some s.tick, delta := max 1 dl, edgePos := s1.axsPos n, dir := sg, motion := .rest })
      let far := e - s1.axsPos n
      let m := s1.extStep n
      if 2 * m < far.natAbs then
        let jump := far.natAbs - m.natAbs
        let pos := s1.axsPos n + far.sign * jump
        ((((s2.microsteps n pos).modAxs n (fun x => { x with edgePos := pos, lagged := true })).flag (AXSn_STATUS_LAG n)).fsat (AXSn_COUNT_LAGS n) 1).sendFault
          (axsNotice n) 0x12 (min 65535 jump)
      else s2)

/-! ### The axis tick (R294, R295, R312 to R317) -/

/-- The B fields of an axis. -/
def axsShadows (n : Nat) : List Fld :=
  [AXSn_VMAX_VALUE n, AXSn_AMAX_VALUE n, AXSn_JMAX_VALUE n, AXSn_CUR_I_MAX n, AXSn_CUR_I_MIN n, AXSn_HOLD_I_HOLD n, AXSn_QUIET_KE_STEP n,
   AXSn_QUIET_R_COIL n, AXSn_MODE_THR_RES_HYST n, AXSn_MODE_THR_MODE_HYST n, AXSn_MODE_THR_MODE_THR n, AXSn_RES_THR0_T_HIGH n,
   AXSn_RES_THR0_T_LOW n, AXSn_RES_THR1_T_HIGH n, AXSn_RES_THR1_T_LOW n]

/-- A GPIO level as an axis input (R312). -/
def State.axsPin (s : State) (pin : Nat) (inv : Bool) : Bool :=
  if 96 ≤ pin then false else ((s.fget (GPIO_INw_IN (pin / 32))).testBit (pin % 32)) != inv

/-- One sample of a debounced input; the flag says that a change has qualified. -/
def Deb.sample (d : Deb) (v : Bool) (deb : Nat) (pos : Int) : Deb × Bool :=
  let c : Deb := if d.run ≠ 0 ∧ v = d.cand then { d with run := min deb (d.run + 1) } else { d with cand := v, run := 1, pos := pos }
  if deb ≤ c.run ∧ c.cand ≠ c.level then ({ c with level := c.cand }, true) else (c, false)

/-- Sample the three inputs; whether the reference of the homing changed. -/
def State.axsInputs (s : State) (n : Nat) : State × Bool :=
  let inv := s.fget (AXSn_PINS_INV n)
  let ld := max 1 (s.fget (AXSn_DEBOUNCE_LIM_DEB n))
  let hd := max 1 (s.fget (AXSn_DEBOUNCE_HOME_DEB n))
  let x := s.axsOf n
  let pos := s.axsPos n
  let a := x.limNeg.sample (s.axsPin (s.fget (AXSn_PINS_LIM_NEG_PIN n)) (inv.testBit 0)) ld pos
  let b := x.limPos.sample (s.axsPin (s.fget (AXSn_PINS_LIM_POS_PIN n)) (inv.testBit 1)) ld pos
  let c := x.home.sample (s.axsPin (s.fget (AXSn_PINS_HOME_PIN n)) (inv.testBit 2)) hd pos
  let src := s.fget (AXSn_HOME_CFG_HOME_SRC n)
  ((s.modAxs n (fun x => { x with limNeg := a.1, limPos := b.1, home := c.1 })).fsets
    [(AXSn_STATUS_LIM_NEG_ACT n, if a.1.level then 1 else 0), (AXSn_STATUS_LIM_POS_ACT n, if b.1.level then 1 else 0),
     (AXSn_STATUS_HOME_ACT n, if c.1.level then 1 else 0)],
   if src = 1 then a.2 else if src = 2 then b.2 else c.2)

/-- A limit that stops the axis at this tick: in the direction of travel, and not the reference of a homing. -/
def State.limitHit? (s : State) (n : Nat) : Option Nat :=
  let x := s.axsOf n
  let d := x.prof.v.sign
  let isRef := x.hst ≠ .none ∧ (s.homeRef n).2.2 = d
  if d = 0 ∨ s.limitAt n d = false ∨ isRef ∨ (x.motion = .ramp ∧ s.bit (AXSn_CTRL_LIM_RAMP n) = true) then none
  else some (if d < 0 then 1 else 2)

/-- A limit stop (R313, R317). -/
def State.limitStop (s : State) (n side : Nat) : State :=
  let s1 := if (s.axsOf n).hst = .none then s else s.homeFail n 3
  let s2 := if s.bit (AXSn_CTRL_LIM_RAMP n) then s1.axsRamp n else s1.axsHard n
  (((s2.flag (AXSn_STATUS_LIMIT_HIT n)).sendFault (axsNotice n) 0x10 side).axsEvent n 2).axsQueued n

/-- The homing table at a tick, before the generator (R317); `tr` is a qualified transition of the reference. -/
def State.homingTick (s : State) (n : Nat) (tr : Bool) : State :=
  let x := s.axsOf n
  let r := s.homeRef n
  let fast := x.hst = .fast ∨ x.hst = .slow
  let approach := fast ∨ x.hst = .brake ∨ x.hst = .finish
  let k := if tr ∧ approach then x.hcount + 1 else x.hcount
  let s1 := s.modAxs n (fun x => { x with hcount := k })
  if approach ∧ 5 ≤ k then (s1.homeFail n 1).axsRamp n
  else if x.hst = .clear ∧ r.1.level = false then
    (s1.planMove n (s.axsPos n - s.homeDir n * s.fget (AXSn_HOME_BACKOFF_VALUE n))).modAxs n (fun x => { x with hst := .back })
  else if fast ∧ r.1.level = true then
    (s1.fset (AXSn_HOME_CAP_VALUE n) (uint 32 r.1.pos)).modAxs n (fun x =>
      { x with hst := if x.hst = .fast then .brake else .finish, motion := .ramp, hcount := max 1 k })
  else if fast ∧ s.fget (AXSn_HOME_MAX_VALUE n) ≠ 0 ∧ s.fget (AXSn_HOME_MAX_VALUE n) ≤ (s.axsPos n - x.hstart).natAbs then
    (s1.homeFail n 2).axsRamp n
  else s1

/-- What the end of a motion brings (R296 to R298, R315, R317), after the generator's tick. -/
def State.axsArrive (s : State) (n : Nat) : State :=
  let x := s.axsOf n
  let still := x.prof.v = 0 ∧ x.prof.a = 0
  match x.motion with
  | .rest => s
  | .move =>
    if still ∧ x.prof.p = x.target * 65536 then
      let s1 := s.modAxs n (fun x => { x with motion := .rest, posMode := false, zeroSince := s.tick })
      if x.hst = .back then s1.homeVel n .slow (s.homeDir n * s.fget (AXSn_HOME_V_V_SLOW n) * 65536)
      else
        let s2 := (s1.fset (AXSn_STATUS_STATE n) aIdle).axsEvent n 0
        if x.resumed then s2.fset (AXSn_STATUS_REMAIN_VALID n) 0 else s2
    else s
  | .vel => if still ∧ x.vt = 0 ∧ x.hst = .none then
      (s.modAxs n (fun x => { x with motion := .rest, zeroSince := s.tick })).fset (AXSn_STATUS_STATE n) aIdle else s
  | .stopFirst =>
    if still then
      let s1 := s.modAxs n (fun x => { x with motion := .move })
      let past := (s.axsPos n - x.target) * x.dir
      if 0 < past then
        ((((s1.fset (AXSn_OVERSHOOT_VALUE n) past.toNat).flag (AXSn_STATUS_OVERSHOOT n)).sendFault (axsNotice n) 0x11 (min 65535 (past.toNat / 256)))).axsEvent n 6
      else s1
    else s
  | .ramp =>
    if still then
      match x.hst with
      | .brake => s.homeVel n .clear (-(s.homeDir n) * s.fget (AXSn_HOME_V_V_SLOW n) * 65536)
      | .finish =>
        let pos := s.axsPos n + sext 32 (s.fget (AXSn_HOME_POS_VALUE n)) - sext 32 (s.fget (AXSn_HOME_CAP_VALUE n))
        ((s.fsets [(AXSn_POS_VALUE n, uint 32 pos), (AXSn_STATUS_HOMED n, 1), (AXSn_STATUS_POS_UNC n, 0), (AXSn_STATUS_STATE n, aIdle)]).modAxs n
          (fun x => { x with prof := .free (sext 32 (uint 32 pos) * 65536) 0, motion := .rest, hst := .none, zeroSince := s.tick })).axsEvent n 4
      | _ => (s.axsRest n).axsQueued n
    else s

/-- In quiet mode, and in strong mode with AUTO_CUR = 0, i_set follows I_MAX while the axis moves (R309). -/
def State.followCur (s : State) (n : Nat) : State :=
  if (s.axsOf n).motion = .rest ∨ (s.bit (AXSn_STATUS_STRONG n) = true ∧ s.bit (AXSn_CTRL_AUTO_CUR n) = true) then s
  else (s.modAxs n (fun x => { x with cur := s.fget (AXSn_CUR_I_MAX n) * 1000 })).fset (AXSn_DRIVE_I_APPLIED n) (s.fget (AXSn_CUR_I_MAX n))

/-- The generator's tick of a class I axis: τ is 1/100 ms. -/
def State.generate (s : State) (n : Nat) : State :=
  let x := s.axsOf n
  let l := s.axsLim n
  let p := match x.motion with
    | .rest => x.prof
    | .move => if x.prof.p = x.target * 65536 ∧ x.prof.v = 0 ∧ x.prof.a = 0 then x.prof else x.prof.posTick l x.target 1 100
    | .vel => x.prof.velTick l x.vt 1 100
    | .stopFirst => x.prof.velTick l 0 1 100
    | .ramp => x.prof.velTick l 0 1 100
  (s.modAxs n (fun x => { x with prof := p })).microsteps n (sext 32 (uint 32 (p.p / 65536)))

/-- AXS_TICK (R294, R295, R312, R313, R317): the shadows act, the inputs are sampled, the causes of R313 are judged in order, then
the generator or the interpolator advances. -/
def execAxsTick (n : Nat) (s : State) : Host.Outcome State Fault Refusal :=
  onUnit (n < 20) (
    let s1 := (s.applyShadow (axsShadows n)).followCur n
    if s1.bit (AXSn_CTRL_ENABLE n) = false ∨ s1.axsState n = aDisabled then s1
    else if s1.safeCtl then s1.axsSafe n
    else
      let i := s1.axsInputs n
      let s2 := if i.1.axsState n = aSafe then i.1.fsets [(AXSn_STATUS_STATE n, aIdle), (AXSn_STATUS_POWERED_DOWN n, 1)] else i.1
      match s2.limitHit? n with
      | some side => s2.limitStop n side
      | none =>
        let s3 := if (s2.axsOf n).hst = .none then s2 else s2.homingTick n i.2
        if s3.classE n then s3.interpolate n
        else if (s3.axsOf n).repower.isSome then s3
        else (s3.generate n).axsArrive n)

/-! ### Standstill and drive (R311, R314, R318) -/

/-- STANDSTILL (R311): i_set becomes I_HOLD. -/
def execStandstillEv (n : Nat) (s : State) : Host.Outcome State Fault Refusal :=
  onUnit (n < 20) (if s.undriven n = false ∧ s.standstill n = true then
      s.fset (AXSn_DRIVE_I_APPLIED n) (s.fget (AXSn_HOLD_I_HOLD n)) else s)

/-- POWERED_DOWN (R311): a further STANDSTILL_T with POWERDOWN = 1. -/
def execPoweredDown (n : Nat) (s : State) : Host.Outcome State Fault Refusal :=
  onUnit (n < 20) (
    if s.undriven n = false ∧ s.standstill n = true ∧ s.bit (AXSn_CTRL_POWERDOWN n) = true ∧ (s.axsOf n).repower = none
        ∧ (s.axsOf n).zeroSince + 2 * msTicks (max 1 (s.fget (AXSn_HOLD_STANDSTILL_T n))) ≤ s.tick then
      (s.coilsOff n).fset (AXSn_STATUS_POWERED_DOWN n) 1
    else s)

/-- AXS_REPOWER (R311): after 1 ms at I_MAX the motion begins. -/
def execAxsRepower (n : Nat) (s : State) : Host.Outcome State Fault Refusal :=
  onUnit (n < 20) (match (s.axsOf n).repower with
    | some t => if t ≤ s.tick then
        (s.modAxs n (fun x => { x with repower := none, edgeAt := x.edgeAt.map (fun _ => s.tick) })).axsQueued n else s
    | none => s)

/-- A write of 1 to POS_UNC (R314): only at standstill. -/
def State.uncClear (s : State) (n : Nat) : State :=
  if s.bit (AXSn_STATUS_POS_UNC n) = false then s
  else if s.standstill n then s.fset (AXSn_STATUS_POS_UNC n) 0 else s.flag (AXSn_STATUS_CMD_REFUSED n)

/-- POS_UNC_CLEAR (R314). -/
def execPosUncClear (n : Nat) (s : State) : Host.Outcome State Fault Refusal := onUnit (n < 20) (s.uncClear n)

/-- READY of an axis (R318). -/
def State.axsReady (s : State) (n : Nat) : Bool :=
  let st := s.axsState n
  s.bit (AXSn_CTRL_ENABLE n) && s.fget (AXSn_STATUS_CFG n) == 0 && (st == aIdle || st == aMoving || st == aFollowing)
  && !s.bit (AXSn_STATUS_STALL n) && !s.bit (AXSn_STATUS_POS_UNC n) && (s.bit (AXSn_STATUS_HOMED n) || !s.bit (AXSn_CTRL_HOME_REQ n))

end Sys2Proof.Machine
end

