-- ==== Sys2Proof/Machine/Outputs.lean ====
section
/-! DEFINITION. High-voltage outputs, fuser drives, converters and general-purpose pins (R336 to R348, R485). -/

namespace Sys2Proof.Machine

/-- VBACK is the selected input (R371). -/
def State.onVback (s : State) : Bool := s.bit SYS_STATUS_ON_VBACK

/-- Write a B field from inside the controller: at once where its block stands, else into its shadow (R6). -/
def State.bWrite (s : State) (running : Bool) (f : Fld) (v : Nat) : State := if running then s.shadowSet f v else s.fset f v

/-! ### HVO (R336, R337) -/

/-- HVO runs while any EN is 1 (R342). -/
def State.hvoRuns (s : State) : Bool := (List.range 32).any (fun k => s.bit (HVOk_CTRL_EN k))

/-- How long a period is high, in ns (R336). -/
def hvoHighTime (duty per : Nat) : Nat := (duty * 4 * max 1250 (min 12500 per) + 2048) / 4096

/-- The output falls and stays low (R337). -/
def State.hvoLow (s : State) (k : Nat) : State := { s.fset (HVOk_STATUS_APPLIED k) 0 with hvoHigh := kvDel s.hvoHigh k }

/-- HVO_PERIOD_START (R336, R337): the new duty is taken, limited by DUTY_MAX. -/
def execHvoPeriodStart (k : Nat) (s : State) : Host.Outcome State Fault Refusal :=
  onUnit (k < 32) (
    let s1 := s.applyShadow [HVOk_DUTY_DUTY_MAX k, HVOk_DUTY_DUTY k]
    if s1.bit (HVOk_CTRL_EN k) = false ∨ s1.safeCtl = true ∨ s1.inBackup = true then s1.hvoLow k
    else
      let d := min (s1.fget (HVOk_DUTY_DUTY k)) (s1.fget (HVOk_DUTY_DUTY_MAX k))
      let clamps := s1.fget HVO_CLAMP_CLAMP
      let s2 := if d < s1.fget (HVOk_DUTY_DUTY k) ∧ clamps.testBit k = false then s1.fset HVO_CLAMP_CLAMP (clamps + 2 ^ k) else s1
      { s2.fset (HVOk_STATUS_APPLIED k) d with hvoHigh := kvSet s2.hvoHigh k (hvoHighTime d (s2.fget (HVOk_CTRL_PER k))) })

/-- The level of an output (R336): high from the period start, PHASE after a multiple of the period in the time format, for the high time. -/
def State.hvoLevel (s : State) (k : Nat) : Bool :=
  let per := max 1250 (min 12500 (s.fget (HVOk_CTRL_PER k)))
  match kvGet s.hvoHigh k with
  | some h => decide ((s.now.toNat / 4 + per - s.fget (HVOk_CTRL_PHASE k) % per) % per * 4 < h)
  | none => false

/-! ### FUS and FUSER_EN (R338 to R340) -/

/-- FUS runs while FUSER_EN_REQ or any EN is 1 (R343). -/
def State.fusRuns (s : State) : Bool := s.bit FUS_CTRL_FUSER_EN_REQ || s.bit (FUSf_CTRL_EN 0) || s.bit (FUSf_CTRL_EN 1)

def State.fusOf (s : State) (f : Nat) : FusSt := (kvGet s.fus f).getD ⟨0, false, 0, none⟩

/-- Both gates low. -/
def State.fusLow (s : State) (f : Nat) : State := s.fsets [(FUSf_STATUS_RUNNING f, 0), (FUSf_STATUS_F_APPLIED f, 0)]

/-- The request clamped to [FMIN, FMAX], in 1/65536 Hz, and whether the clamp acted. -/
def State.fusTarget (s : State) (f : Nat) : Nat × Bool :=
  let q := (sext 32 (s.fget (FUSf_FREQ_FREQ f))).toNat * 1000
  let lo := s.fget (FUSf_LIMIT_FMIN f) * 655360
  let hi := s.fget (FUSf_LIMIT_FMAX f) * 655360
  (max lo (min hi q), decide (q < lo ∨ hi < q))

/-- FUS_PERIOD_START (R338, R339): the frequency is taken, slewed and clamped; the gates switch only while FUSER_EN toggles. -/
def execFusPeriodStart (f : Nat) (s : State) : Host.Outcome State Fault Refusal :=
  onUnit (f < 2) (
    let s1 := s.applyShadow [FUSf_FREQ_FREQ f, FUSf_DEAD_SLEW f]
    let x := s1.fusOf f
    if s1.bit (FUSf_CTRL_EN f) = false ∨ x.live = false ∨ s1.bit FUS_STATUS_TOGGLING = false then s1.fusLow f
    else
      let t := s1.fusTarget f
      let sl := s1.fget (FUSf_DEAD_SLEW f) * 65536
      let fr := if sl = 0 then t.1 else if x.freq < t.1 then min t.1 (x.freq + sl) else max t.1 (x.freq - sl)
      let s2 := if t.2 then s1.flag (FUSf_STATUS_CLAMPED f) else s1
      { s2.fsets [(FUSf_STATUS_RUNNING f, 1), (FUSf_STATUS_F_APPLIED f, (quotOpen fr 655360).toNat)] with fus := kvSet s2.fus f ⟨fr, true, s.tick, none⟩ })

/-- The half-period of F_APPLIED in TB ticks, rounded up. -/
def State.fusHalf (s : State) (f : Nat) : Nat := (125000000 * 65536 + (s.fusOf f).freq - 1) / max 1 (s.fusOf f).freq

/-- A write of FUSf EN (R339): 0 to 1 starts the drive at FMAX, unless FUSf_FLT_N is low; at 0 the gates go low at the end of the half-period in
progress. -/
def State.fusSetEn (s : State) (f : Nat) (en : Bool) : State :=
  if en = s.bit (FUSf_CTRL_EN f) then s
  else if en then
    { (s.fset (FUSf_CTRL_EN f) 1).fusLow f with fus := kvSet s.fus f ⟨s.fget (FUSf_LIMIT_FMAX f) * 655360, !s.bit (FUSf_STATUS_FLT f), s.tick, none⟩ }
  else if s.bit (FUSf_STATUS_RUNNING f) then
    let x := s.fusOf f
    let h := s.fusHalf f
    let e := if s.tick < x.startAt + h then x.startAt + h else x.startAt + 2 * h
    { s.fset (FUSf_CTRL_EN f) 0 with fus := kvSet s.fus f { x with live := false, stopAt := some e } }
  else { s.fset (FUSf_CTRL_EN f) 0 with fus := kvSet s.fus f ⟨0, false, s.tick, none⟩ }

/-- The end of the last half-period of a drive whose EN has become 0 (R339). -/
def State.fusTick (s : State) (f : Nat) : State :=
  match (s.fusOf f).stopAt with
  | some e => if e ≤ s.tick then { s.fusLow f with fus := kvSet s.fus f ⟨0, false, s.tick, none⟩ } else s
  | none => s

/-- The levels of FUSf_H and FUSf_L (R338): H from DEAD to T/2, L from T/2 + DEAD to T. -/
def State.fusGates (s : State) (f : Nat) : Bool × Bool :=
  if s.bit (FUSf_STATUS_RUNNING f) = false ∨ s.bit FUS_STATUS_TOGGLING = false then (false, false) else
  let x := s.fusOf f
  let t := (s.tick - x.startAt) * x.freq
  let half := 125000000 * 65536
  let dead := max 2 (s.fget (FUSf_DEAD_DEAD f)) * x.freq
  (decide (dead ≤ t ∧ t < half), decide (half + dead ≤ t ∧ t < 2 * half))

/-- FUS_ENABLE (R339). -/
def execFusEnable (f : Nat) (en : Bool) (s : State) : Host.Outcome State Fault Refusal := onUnit (f < 2) (s.fusSetEn f en)

/-- FLT (R339): FUSf_FLT_N has been low for 2 TB cycles, or is high again; switching resumes only after a new EN. -/
def execFltEv (f : Nat) (low : Bool) (s : State) : Host.Outcome State Fault Refusal :=
  onUnit (f < 2) (
    if low then
      if s.bit (FUSf_STATUS_FLT f) then s else
      let s1 := { (s.fusLow f).fsets [(FUSf_STATUS_FLT f, 1), (FUSf_STATUS_FLT_SEEN f, 1)] with fus := kvSet s.fus f ⟨0, false, s.tick, none⟩ }
      (s1.sendFree (0x1E0 + f) 0x01).1.event (selOf 0x420000 f)
    else s.fset (FUSf_STATUS_FLT f) 0)

/-- FUSER_EN may toggle (R340). -/
def State.fuserMay (s : State) : Bool := s.bit FUS_CTRL_FUSER_EN_REQ && !s.safeCtl && !s.inBackup

/-- FUSER_EN stops: it is held low, the gates of both drives fall, and FUS event 2 is raised (R339, R340). -/
def State.fuserStop (s : State) : State :=
  if s.bit FUS_STATUS_TOGGLING = false then s else
  let s1 := (({ s.fset FUS_STATUS_TOGGLING 0 with fuserEn := false }.fusLow 0).fusLow 1)
  (if s1.bit FUS_CTRL_FUSER_EN_REQ then s1.flag FUS_STATUS_STOP_SEEN else s1).event (selOf 0x420000 2)

/-- FUSER_EN_EDGE (R340): a whole multiple of 50 µs; FUSER_EN rises at the even ones. -/
def execFuserEnEdge (s : State) : Host.Outcome State Fault Refusal :=
  .next (if s.fuserMay then
      { s.fset FUS_STATUS_TOGGLING 1 with fuserEn := decide (s.timeFx / 2 ^ 24 / 50000 % 2 = 0) }
    else s.fuserStop)

/-! ### Encoder pairs (R469) -/

/-- The terminations of a channel's A and B pairs are on while POS_SRC is 0; those of its Z pair are off while POS_SRC is 1, and the pair then
drives the excitation (R280). -/
def State.drvTerminated (s : State) (n : Nat) : Bool := s.power.phase == .run && s.fget (DRVn_CFG_POS_SRC n) == 0
def State.drvZTerminated (s : State) (n : Nat) : Bool := s.power.phase == .run && s.fget (DRVn_CFG_POS_SRC n) != 1

/-- The terminations of the belt encoder's pairs are on while EN in PPOS_CTRL is 1 (R207). -/
def State.beltTerminated (s : State) : Bool := s.bit PPOS_CTRL_EN

/-! ### ADC (R344 to R346) -/

/-- The inputs that a sequence converts, in order (R345). -/
def State.seqInputs (s : State) (c q : Nat) : List Nat :=
  [s.fget (ADCc_SEQs_IN0 c q), s.fget (ADCc_SEQs_IN1 c q), s.fget (ADCc_SEQs_IN2 c q), s.fget (ADCc_SEQs_IN3 c q)].take
    (s.fget (ADCc_SEQs_LEN_M1 c q) + 1)

/-- An Almanac start of a sequence (R345, R363): dropped while the converter has not finished an earlier one. The flag says
whether it was dropped. -/
def State.adcStart (s : State) (c q : Nat) : State × Bool :=
  if (s.adcOf c).seq.isSome then ((s.fsat (ADCc_STATUS_DROPPED c) 1).sendFault (0x1A0 + c) 0x01 q, true)
  else
    let s1 := s.applyShadow [ADCc_SEQs_LEN_M1 c q, ADCc_SEQs_IN0 c q, ADCc_SEQs_IN1 c q, ADCc_SEQs_IN2 c q, ADCc_SEQs_IN3 c q]
    ((s1.setAdc c { s1.adcOf c with seq := some (q, s1.seqInputs c q) }).adcNext c, false)

/-- ADC_CONVERSION_DONE (R345): the input's result register takes the code; the end of a sequence raises its event. -/
def execAdcConversionDone (c code : Nat) (s : State) : Host.Outcome State Fault Refusal :=
  onUnit (c < 5) (
    let x := s.adcOf c
    match x.cur with
    | none => s
    | some (i, q) =>
      let s1 := (s.adcResult (16 * c + i) (match q with | .drive v => v | _ => code)).setAdc c { x with cur := none }
      match q, x.seq with
      | .seq q, some (_, []) => ((s1.setAdc c { x with cur := none, seq := none }).event (selOf 0x0F0000 (16 * c + q))).adcNext c
      | _, _ => s1.adcNext c)

/-- BACKGROUND_SCAN (R345): SCAN_INT has passed; the next input is requested. -/
def execBackgroundScan (c : Nat) (s : State) : Host.Outcome State Fault Refusal :=
  onUnit (c < 5) (if s.fget (ADCc_SCAN_MASK c) = 0 then s else (s.setAdc c { s.adcOf c with scanReq := true }).adcNext c)

/-- REF_BAD (R345): the check of the reference once per millisecond. -/
def execRefBad (c : Nat) (bad : Bool) (s : State) : Host.Outcome State Fault Refusal :=
  onUnit (c < 5) (if bad then ((s.flag (ADCc_STATUS_REF_BAD c)).sendFree (0x1A0 + c) 0x02).1 else s)

/-! ### GPIO (R347, R348) -/

/-- MODE of a pin as it acts: 3 acts as 0. -/
def State.pinMode (s : State) (p : Nat) : Nat := if s.fget (GPIO_CFGp_MODE p) = 3 then 0 else s.fget (GPIO_CFGp_MODE p)

/-- Replace one bit of a word. -/
def setBit (w b : Nat) (v : Bool) : Nat := if w.testBit b = v then w else if v then w + 2 ^ b else w - 2 ^ b

/-- The level of a pin at the last TB tick, and its output bit. -/
def State.pinIn (s : State) (p : Nat) : Bool := (s.fget (GPIO_INw_IN (p / 32))).testBit (p % 32)
def State.setPinOut (s : State) (p : Nat) (v : Bool) : State :=
  s.fset (GPIO_OUTw_OUT (p / 32)) (setBit (s.fget (GPIO_OUTw_OUT (p / 32))) (p % 32) v)

/-- The level that a pin's own output gives it: its OUT bit in push-pull, low in open drain with its OUT bit 0. -/
def State.pinDriven (s : State) (p : Nat) : Option Bool :=
  let o := (s.fget (GPIO_OUTw_OUT (p / 32))).testBit (p % 32)
  if s.pinMode p = 1 then some o else if s.pinMode p = 2 ∧ o = false then some false else none

/-- A pin's sampled level is `level`; EDGE selects the changes that raise event p (R347). -/
def State.pinSample (s : State) (p : Nat) (level : Bool) : State :=
  if s.pinIn p = level then s else
  let s1 := (s.fset (GPIO_INw_IN (p / 32)) (setBit (s.fget (GPIO_INw_IN (p / 32))) (p % 32) level)).record 0x20 p [if level then 1 else 0]
  let e := s1.fget (GPIO_CFGp_EDGE p)
  if e = 3 ∨ (e = 1 ∧ level = true) ∨ (e = 2 ∧ level = false) then s1.event (selOf 0x430000 p) else s1

/-- GPIO_INPUT_EDGE (R347): the sampled level of a pin changes from outside, where its own output does not hold it. -/
def execGpioInputEdge (p : Nat) (level : Bool) (s : State) : Host.Outcome State Fault Refusal :=
  onUnit (p < 96) (s.pinSample p ((s.pinDriven p).getD level))

/-- Every pin that its own output holds is sampled at its level (R347). -/
def State.gpioTick (s : State) : State :=
  (List.range 96).foldl (fun s p => match s.pinDriven p with | some v => s.pinSample p v | none => s) s

end Sys2Proof.Machine
end

