-- ==== Sys2Proof/Machine/Loops.lean ====
section
/-! DEFINITION. The loop descriptors and LRUN (R321 to R335). -/

namespace Sys2Proof.Machine

def State.loopOf (s : State) (n : Nat) : LoopSt := (kvGet s.loop n).getD ⟨none, none⟩

/-- The source of the LOOP block (R335). -/
def loopSrc : Nat := 0x00E

/-- Dimensions (R321). -/
def State.nx (s : State) (n : Nat) : Nat := s.fget (LOOPn_CFG_NX_M1 n) + 1
def State.ny (s : State) (n : Nat) : Nat := s.fget (LOOPn_CFG_NY_M1 n) + 1
def State.nu (s : State) (n : Nat) : Nat := s.fget (LOOPn_CFG_NU_M1 n) + 1

/-- Source and destination codes, and INT_EN and INT_MAP of an output. -/
def State.srcCode (s : State) (n k : Nat) : Nat :=
  if k % 2 = 0 then s.fget (LOOPn_SRCk_SRC_LO n (k / 2)) else s.fget (LOOPn_SRCk_SRC_HI n (k / 2))
def State.dstCode (s : State) (n j : Nat) : Nat :=
  if j = 0 then s.fget (LOOPn_DST01_DST_LO n) else if j = 1 then s.fget (LOOPn_DST01_DST_HI n)
  else if j = 2 then s.fget (LOOPn_DST23_DST_LO n) else s.fget (LOOPn_DST23_DST_HI n)
def State.intMap (s : State) (n i : Nat) : Nat := s.fget (LOOPn_BIND_INT_MAP n) / 4 ^ i % 4

/-- M of R322 and the cycles of LRUN (R90). -/
def State.loopM (s : State) (n : Nat) : Nat :=
  let nx := s.nx n
  let nu := s.nu n
  nx * (nx + 2 * nu + 2 * s.ny n) + 2 * nu + (if s.fget (LOOPn_CFG_FF_SRC n) = 0 then 0 else nu)
    + ((List.range nu).filter (fun i => (s.fget (LOOPn_CTRL_INT_EN n)).testBit i)).length
def lrunCycles (m : Nat) : Nat := 12 + (m + 3) / 4

/-! ### Arithmetic (R323) -/

/-- sat32, with whether it limited. -/
def loopSat (x : Int) : Int × Bool := (satS 32 x, decide (satS 32 x ≠ x))

/-- The accumulator's terms, saturating at 64 bits, with whether it saturated. -/
def accum (terms : List Int) : Int × Bool :=
  terms.foldl (fun a t => (satS 64 (a.1 + t), a.2 || decide (satS 64 (a.1 + t) ≠ a.1 + t))) (0, false)

/-- One rounding at the end of a dot product. -/
def rnd (acc : Int) : Int × Bool := loopSat ((acc + 2 ^ 27) / 2 ^ 28)

/-- One dot product: its value, whether the accumulator saturated, and whether rnd limited. -/
def dot (terms : List Int) : Int × Bool × Bool :=
  let a := accum terms
  let r := rnd a.1
  (r.1, a.2, r.2)

/-! ### Inputs (R324 to R326) -/

/-- A signal of R325; none for a code outside the table. -/
def State.signal (s : State) (code : Nat) : Option Int :=
  let n := code % 16
  if code / 16 = 0 ∧ n < 8 then some (s.drvSpeed n)
  else if code / 16 = 1 ∧ n < 8 then some (sext 32 (s.fget (DRVn_IQ_VALUE n)))
  else if code / 16 = 2 ∧ n < 8 then some (sext 32 (s.fget (DRVn_ACCEL_CMD_ACCEL n)))
  else if code / 16 = 3 ∧ n < 8 then some (satS 32 ((s.drvOf n).prof.v / 65536))
  else if code / 16 = 4 ∧ n < 6 then some (sext 32 (s.fget (STNn_SC_PHERR_PHERR n)))
  else if code = 0x050 then some s.pposSpeed
  else none

/-- A source code is one of the table (R324); the reserved bits of its parameter are 0. -/
def State.srcOk (s : State) (code : Nat) : Bool :=
  let p := code % 4096
  match code / 4096 with
  | 0 => p == 0
  | 1 => decide (p % 128 < 80 ∧ p / 128 % 16 = 0)
  | 2 => (s.signal p).isSome
  | 3 => decide (p / 256 = 0)
  | 4 => p == 0
  | _ => false

/-- The value that an input slot delivers in Q15.16, and whether it sets OVF_IN. -/
def State.loopInput (s : State) (n slot : Nat) : Int × Bool :=
  let code := s.srcCode n slot
  let p := code % 4096
  let sc := sext 32 (s.fget (LOOPn_SCALEs_SCALE n slot))
  match code / 4096 with
  | 1 =>
    let c := s.fget (ADC_AINk_CODE (p % 128))
    let uni := p.testBit 11
    let r := rnd ((if uni then (c : Int) else (c : Int) - 32768) * 65536 * sc)
    (r.1, r.2 || c == 65535 || (!uni && c == 0))
  | 2 => rnd ((s.signal p).getD 0 * sc)
  | 3 => rnd (sext 32 (s.fget (LOOPn_Uj_VALUE (p / 4 % 64) (p % 4))) * sc)
  | 4 => (sc, false)
  | _ => (0, false)

/-! ### Flags and messages (R329, R335) -/

/-- A message of kind `k` leaves, where MSG_EN selects it. -/
def State.loopMsg (s : State) (n k : Nat) : State :=
  if (s.fget (LOOPn_BIND_MSG_EN n)).testBit (k - 1) then s.sendFault loopSrc k n else s

/-- Set flags, given by field, message kind and whether its cause holds; the event of the descriptor occurs when any changes
from 0 to 1. -/
def State.loopFlags (s : State) (n : Nat) (fl : List (Fld × Nat × Bool)) : State :=
  let rising := fl.filter (fun e => e.2.2 && !s.bit e.1)
  let s1 := rising.foldl (fun s e => (s.flag e.1).loopMsg n e.2.1) s
  if rising.isEmpty then s1 else s1.event (selOf 0x400000 n)

/-! ### The safe state (R333) -/

/-- An enabled descriptor with a destination of kind 1 to 4 is forced to manual, with outputs of 0 within its limits. -/
def State.loopSafe (s : State) (n : Nat) : State :=
  if s.bit (LOOPn_CTRL_ENABLE n) ∧ (List.range (s.nu n)).any (fun j => s.dstCode n j / 4096 != 0) then
    (List.range (s.nu n)).foldl (fun s j => s.fset (LOOPn_MAN_Uj_VALUE n j)
      (uint 32 (clampInt (sext 32 (s.fget (LOOPn_U_MINj_VALUE n j))) (sext 32 (s.fget (LOOPn_U_MAXj_VALUE n j))) 0)))
      (s.fsets [(LOOPn_CTRL_MODE n, 0), (LOOPn_STATUS_SAFE_MANUAL n, 1)])
  else s

/-- While a class C safe state is in force, that holds after every write of the descriptor too. -/
def State.loopHeld (s : State) (n : Nat) : State := if s.safeCtl then s.loopSafe n else s

/-! ### Configuration (R331) -/

/-- A destination exists (R334). -/
def dstOk (code : Nat) : Bool :=
  let p := code % 4096
  match code / 4096 with
  | 0 => true
  | 1 => decide (p < 32)
  | 2 => decide (p < 2)
  | 3 => decide (p < 8)
  | 4 => decide (p < 8)
  | _ => false

/-- The first check of R331 that fails, of the configuration that the descriptor would use. -/
def State.loopCheck (s : State) (n : Nat) : Nat :=
  let ff := s.fget (LOOPn_CFG_FF_SRC n)
  let slots := List.range (s.ny n) ++ (List.range (s.nu n)).map (fun i => i + 4) ++ (if ff = 0 then [] else [8])
  let c8 := s.srcCode n 8
  let outs := List.range (s.nu n)
  let taken := fun (m j : Nat) => m != n && s.bit (LOOPn_CTRL_ENABLE m) && decide (j < s.nu m)
  let clash := outs.any (fun i =>
    let d := s.dstCode n i
    d / 4096 != 0 && (outs.any (fun j => j != i && s.dstCode n j == d) ||
      (List.range 64).any (fun m => (List.range 4).any (fun j => taken m j && s.dstCode m j == d))))
  let ints := outs.filter (fun i => (s.latest (LOOPn_CTRL_INT_EN n)).testBit i)
  if slots.any (fun k => !s.srcOk (s.srcCode n k)) then 1
  else if ff = 3 ∨ (ff = 1 ∧ c8 / 4096 ≠ 1) ∨ (ff = 2 ∧ ¬(c8 / 4096 = 2 ∧ c8 % 4096 / 16 = 2)) then 2
  else if outs.any (fun i => !dstOk (s.dstCode n i)) ∨ clash = true then 3
  else if ints.any (fun i => decide (s.ny n ≤ s.intMap n i)) then 4
  else if outs.any (fun i => decide (sext 32 (s.latest (LOOPn_U_MAXj_VALUE n i)) < sext 32 (s.latest (LOOPn_U_MINj_VALUE n i)))) then 5
  else match s.task? (s.fget (LOOPn_BIND_OWNER n)) with
    | some t => if t.hdr.loop then 0 else 6
    | none => 6

/-- The check writes CFG; a failure applies nothing and sends the CFG message. The flag is whether it passed. -/
def State.loopJudge (s : State) (n : Nat) : State × Bool :=
  let c := s.loopCheck n
  if c = 0 then (s.fset (LOOPn_STATUS_CFG n) 0, true)
  else ((s.fsets [(LOOPn_STATUS_CFG n, c), (LOOPn_STATUS_APPLY_PENDING n, 0)]).sendFault loopSrc 0x07 n, false)

/-- A write of 1 to APPLY (R331). -/
def State.loopApply (s : State) (n : Nat) : State :=
  let r := s.loopJudge n
  if r.2 ∧ s.bit (LOOPn_CTRL_ENABLE n) then r.1.fset (LOOPn_STATUS_APPLY_PENDING n) 1 else r.1

/-- APPLY (R331). -/
def execApplyEv (n : Nat) (s : State) : Host.Outcome State Fault Refusal := onUnit (n < 64) (s.loopApply n)

/-- A write of ENABLE (R331). -/
def State.loopSetEnable (s : State) (n : Nat) (en : Bool) : State :=
  if en = s.bit (LOOPn_CTRL_ENABLE n) then s
  else if en then ({ s.fset (LOOPn_CTRL_ENABLE n) 1 with loop := kvSet s.loop n ⟨none, none⟩ }.loopJudge n).1
  else s.fsets [(LOOPn_CTRL_ENABLE n, 0), (LOOPn_STATUS_APPLY_PENDING n, 0)]

/-- LOOP_ENABLE (R331): ENABLE changes from 0 to 1. -/
def execLoopEnable (n : Nat) (s : State) : Host.Outcome State Fault Refusal := onUnit (n < 64) ((s.loopSetEnable n true).loopHeld n)

/-! ### The sample (R327 to R334) -/

/-- The B fields of a descriptor. -/
def loopShadows (n : Nat) : List Fld :=
  [LOOPn_CTRL_INT_EN n] ++ (List.range 9).map (fun k => LOOPn_SCALEs_SCALE n k)
  ++ (List.range 4).flatMap (fun j => [LOOPn_U_MINj_VALUE n j, LOOPn_U_MAXj_VALUE n j, LOOPn_Gj_VALUE n j, LOOPn_Fj_VALUE n j,
       LOOPn_Hj_VALUE n j, LOOPn_Zj_VALUE n j])
  ++ (List.range 8).map (fun i => LOOPn_Xi_VALUE n i)
  ++ (List.range 64).map (fun k => LOOPn_MAT_A_VALUE n k)
  ++ (List.range 32).flatMap (fun k => [LOOPn_MAT_B_VALUE n k, LOOPn_MAT_C_VALUE n k, LOOPn_MAT_L_VALUE n k, LOOPn_MAT_K_VALUE n k])

/-- Deliver an output to its destination (R334). -/
def State.deliverOut (s : State) (n j : Nat) (u : Int) : State :=
  let c := s.dstCode n j
  let p := c % 4096
  match c / 4096 with
  | 1 => s.bWrite s.hvoRuns (HVOk_DUTY_DUTY p) (clampInt 0 4095 ((u + 8) / 16)).toNat
  | 2 => s.bWrite s.fusRuns (FUSf_FREQ_FREQ p) (uint 32 u)
  | 3 => s.fset (DRVn_IQ_REF_REF p) (uint 32 u)
  | 4 => s.fset (DRVn_ID_REF_REF p) (uint 32 u)
  | _ => s

/-- What a sample computes for one output: z to store, u, and the flags SAT_STATE, SAT_OUT and SAT_ACC. -/
structure OutRow where
  z : Int
  u : Int
  satState : Bool
  satOut : Bool
  satAcc : Bool

/-- Steps 2 to 4 and 6 of R327 for output `i`, with the preset of R330 at a first auto sample. -/
def State.outRow (s : State) (n i : Nat) (auto first : Bool) (xs rs ys : List Int) (w : Int) : OutRow :=
  let f := fun (x : Fld) => sext 32 (s.fget x)
  let r := rs.getD i 0
  let z := f (LOOPn_Zj_VALUE n i)
  let integ := (s.fget (LOOPn_CTRL_INT_EN n)).testBit i
  let kx := (List.range (s.nx n)).map (fun j => -(f (LOOPn_MAT_K_VALUE n (8 * i + j)) * xs.getD j 0))
  let drive := kx ++ [f (LOOPn_Gj_VALUE n i) * r] ++ (if s.fget (LOOPn_CFG_FF_SRC n) = 0 then [] else [f (LOOPn_Fj_VALUE n i) * w])
  let d := loopSat (r - ys.getD (s.intMap n i) 0)
  let hd := dot [f (LOOPn_Hj_VALUE n i) * d.1]
  let zi := loopSat (z + hd.1)
  let runs := integ && auto && !first
  let pre := dot drive
  let zp := loopSat (sext 32 (s.fget (LOOPn_Uj_VALUE n i)) - pre.1)
  let uPrev0 := loopSat (-pre.1)
  let preset := integ && auto && first
  let zpre := if (s.loopOf n).lastAuto.isNone then uPrev0 else zp
  let z1 := if runs then zi.1 else if preset then zpre.1 else z
  let v := dot ((if integ then [z1 * 2 ^ 28] else []) ++ drive)
  let lo := f (LOOPn_U_MINj_VALUE n i)
  let hi := f (LOOPn_U_MAXj_VALUE n i)
  let raw := if auto then v.1 else f (LOOPn_MAN_Uj_VALUE n i)
  let u := clampInt lo hi raw
  let hold := runs && ((decide (hi < v.1) && decide (z < z1)) || (decide (v.1 < lo) && decide (z1 < z)))
  { z := if hold then z else z1, u := u
    satState := (runs && !hold && (zi.2 || hd.2.2)) || (preset && (zpre.2 || pre.2.2))
    satOut := decide (u ≠ raw)
    satAcc := v.2.1 || v.2.2 || (runs && (d.2 || hd.2.1)) || (preset && pre.2.1) }

/-- The converter results that a sample consumes are recorded (R445). -/
def State.adcUsed (s : State) (n : Nat) (slots : List Nat) : State :=
  slots.foldl (fun s k =>
    if s.srcCode n k / 4096 = 1 then s.record 0x22 (s.srcCode n k % 128) [(s.fget (ADC_AINk_CODE (s.srcCode n k % 128)) : Int)] else s) s

/-- The inputs that a sample consumes (R326): the y, r and w slots in use; they are recorded, and in replay come from the recording
(R445, R450). -/
def State.loopInputs (s : State) (n : Nat) : List (Int × Bool) × State :=
  let slots := List.range (s.ny n) ++ (List.range (s.nu n)).map (fun k => k + 4) ++ (if s.fget (LOOPn_CFG_FF_SRC n) = 0 then [] else [8])
  let live := slots.map (fun k => s.loopInput n k)
  match s.replayVal 0x14 n with
  | some (vs, s1) => ((List.range slots.length).map (fun i => (vs.getD (2 * i) 0, vs.getD (2 * i + 1) 0 != 0)), s1)
  | none => (live, (s.adcUsed n slots).record 0x14 n (live.flatMap (fun e => [e.1, if e.2 then 1 else 0])))

/-- An output goes to its destination (R334, R445): in replay it is only compared. -/
def State.sendOut (s : State) (n task j : Nat) (u : Int) : State :=
  if s.dstCode n j / 4096 = 0 then s else
  let tk := s.task? task
  s.output 0x41 task ((tk.map (·.phys)).getD 0) ((tk.map (fun t => t.arch.pc.toNat)).getD 0) (s.dstCode n j) (uint 32 u)
    (fun s => s.deliverOut n j u)

/-- One sample of a descriptor that may run. -/
def State.loopSample (s : State) (n task : Nat) : State :=
  let f := fun (x : Fld) => sext 32 (s.fget x)
  let nx := s.nx n
  let ny := s.ny n
  let nu := s.nu n
  let ff := s.fget (LOOPn_CFG_FF_SRC n)
  let auto := s.bit (LOOPn_CTRL_MODE n)
  let first := (s.loopOf n).lastAuto != some true
  let ins := s.loopInputs n
  let yin := ins.1.take ny
  let rin := (ins.1.drop ny).take nu
  let win := if ff = 0 then (0, false) else ins.1.getD (ny + nu) (0, false)
  let ys := yin.map (·.1)
  let xs := (List.range nx).map (fun i => f (LOOPn_Xi_VALUE n i))
  let eps := (List.range ny).map (fun i =>
    dot ((ys.getD i 0 * 2 ^ 28) :: (List.range nx).map (fun j => -(f (LOOPn_MAT_C_VALUE n (8 * i + j)) * xs.getD j 0))))
  let rows := (List.range nu).map (fun i => s.outRow n i auto first xs (rin.map (·.1)) ys win.1)
  let xn := (List.range nx).map (fun i =>
    dot ((List.range nx).map (fun j => f (LOOPn_MAT_A_VALUE n (8 * i + j)) * xs.getD j 0)
      ++ (rows.zip (List.range nu)).map (fun e => f (LOOPn_MAT_B_VALUE n (4 * i + e.2)) * e.1.u)
      ++ (eps.zip (List.range ny)).map (fun e => f (LOOPn_MAT_L_VALUE n (4 * i + e.2)) * e.1.1)))
  let s1 := (rows.zip (List.range nu)).foldl (fun s e =>
    ((s.sendOut n task e.2 e.1.u).fset (LOOPn_Uj_VALUE n e.2) (uint 32 e.1.u)).fset (LOOPn_Zj_VALUE n e.2) (uint 32 e.1.z)) ins.2
  let s2 := (xn.zip (List.range nx)).foldl (fun s e => s.fset (LOOPn_Xi_VALUE n e.2) (uint 32 e.1.1)) s1
  let late := match (s.loopOf n).lastAt with
    | some t => s.fget (LOOPn_TS_TS n) != 0 && decide (3 * s.fget (LOOPn_TS_TS n) < 8 * (s.tick - t))
    | none => false
  let s3 := { (s2.fwrap (LOOPn_COUNT_SAMPLES n) 1).fset (LOOPn_STATUS_AUTO_ACT n) (if auto then 1 else 0) with
              loop := kvSet s2.loop n ⟨some s.tick, some auto⟩ }
  (if late then s3.fsat (LOOPn_COUNT_LATES n) 1 else s3).loopFlags n
    [(LOOPn_STATUS_SAT_STATE n, 1, rows.any (·.satState) || xn.any (fun e => e.2.2)),
     (LOOPn_STATUS_SAT_OUT n, 2, rows.any (·.satOut)),
     (LOOPn_STATUS_SAT_ACC n, 3, rows.any (·.satAcc) || eps.any (fun e => e.2.1 || e.2.2) || xn.any (fun e => e.2.1)),
     (LOOPn_STATUS_OVF_IN n, 4, yin.any (·.2) || rin.any (·.2) || win.2),
     (LOOPn_STATUS_LATE n, 6, late)]

/-- The cases in which LRUN is refused (R332). -/
def State.loopRefused (s : State) (n task : Nat) : Bool :=
  !s.bit (LOOPn_CTRL_ENABLE n) || s.fget (LOOPn_STATUS_CFG n) != 0 || s.fget (LOOPn_BIND_OWNER n) != task
  || (match (s.loopOf n).lastAt with | some t => decide (s.tick - t < 1250) | none => false)

/-- The shadows that an APPLY has armed are loaded before a sample (R331). -/
def State.loopLoad (s : State) (n : Nat) : State :=
  if s.bit (LOOPn_STATUS_APPLY_PENDING n) then (s.applyShadow (loopShadows n)).fset (LOOPn_STATUS_APPLY_PENDING n) 0 else s

/-- LRUN n as it runs (R327, R331 to R333): refused, or one sample under the shadows that an APPLY has armed. -/
def State.loopRun (s : State) (n task : Nat) : State :=
  if s.loopRefused n task then s.loopFlags n [(LOOPn_STATUS_REFUSED n, 5, true)]
  else if s.inBackup then s
  else
    let s1 := s.loopLoad n
    (s1.loopHeld n).loopSample n task

end Sys2Proof.Machine
end

