-- ==== Sys2Proof/Machine/TimeMod.lean ====
section
/-! DEFINITION. Network time: the timebase, PTP, transmit stamps, the Almanac and the capture inputs (R349 to R370). -/

namespace Sys2Proof.Machine

/-- The source of TIME (R410). -/
def timeSrc : Nat := 0x00A

/-- TB_LIVE (R353). -/
def State.tbLive (s : State) : Bool :=
  (List.range 8).any (fun n => s.bit (DRVn_CTRL_ENABLE n)) || (List.range 20).any (fun n => s.bit (AXSn_CTRL_ENABLE n))
  || s.hvoRuns || s.fusRuns || s.led.sheets.any (fun sh => sh.st.isActive)

/-- Seconds and nanoseconds of TIME_NOW (R349). -/
def State.timeSec (s : State) : Nat := s.timeFx / 2 ^ 24 / 1000000000
def State.timeNs (s : State) : Nat := s.timeFx / 2 ^ 24 % 1000000000

/-! ### The Almanac (R362 to R366) -/

def almTarget (s : State) (c : Nat) : Nat := s.fget (ALMc_TARGET_LO_VALUE c) + 2 ^ 32 * s.fget (ALMc_TARGET_HI_VALUE c)
def State.setTarget (s : State) (c v : Nat) : State :=
  s.fsets [(ALMc_TARGET_LO_VALUE c, v), (ALMc_TARGET_HI_VALUE c, v % 2 ^ 64 / 2 ^ 32)]

/-- The B fields of a channel (R364). -/
def almShadows (c : Nat) : List Fld := [ALMc_TARGET_LO_VALUE c, ALMc_TARGET_HI_VALUE c, ALMc_PERIOD_VALUE c, ALMc_ACTION_VALUE c]

/-- An ACTION that a channel can perform (R363). -/
def actionOk (a : Nat) : Bool :=
  let p := a % 2 ^ 28
  match a / 2 ^ 28 with
  | 0 => p == 0
  | 1 => decide (p / 256 = 0 ∧ p / 8 % 2 = 0 ∧ p % 8 ≤ 4)
  | 2 => decide (p / 1024 = 0 ∧ p / 128 % 2 = 0 ∧ p % 128 < 96 ∧ p / 256 % 4 ≤ 2)
  | 3 => decide (p / 512 = 0)
  | _ => false

/-- An action is dropped: DROPPED counts it (R363). -/
def State.almDrop (s : State) (c : Nat) : State := s.fsat (ALMc_STATUS_DROPPED c) 1

/-- The action of a channel at its firing (R363); kinds 1 to 3 are suppressed in backup operation (R356). -/
def State.almAct (s : State) (c a : Nat) : State :=
  let p := a % 2 ^ 28
  if s.inBackup then s else
  match a / 2 ^ 28 with
  | 1 => let r := s.adcStart (p % 8) (p / 16 % 16)
         if r.2 then r.1.almDrop c else r.1
  | 2 =>
    let pin := p % 128
    if s.pinMode pin = 0 then (s.almDrop c).sendFault 0x01F 0x01 pin
    else s.setPinOut pin (match p / 256 % 4 with
      | 0 => false
      | 1 => true
      | _ => !(s.fget (GPIO_OUTw_OUT (pin / 32))).testBit (pin % 32))
  | 3 => (List.range 8).foldl (fun s n => if p.testBit n then (if p.testBit 8 then s.drvStop n else s.drvStart n) else s) s
  | _ => s

/-- A channel fires (R362, R364): it raises its event, performs its action, and re-arms or disarms under the shadows. -/
def State.almFire (s : State) (c : Nat) : State :=
  let s1 := ((s.flag (ALMc_STATUS_FIRED c)).event (selOf 0x030000 c)).almAct c (s.fget (ALMc_ACTION_VALUE c))
  let target := almTarget s c
  let s2 := s1.applyShadow (almShadows c)
  let per := s2.fget (ALMc_PERIOD_VALUE c)
  if per = 0 then s2.fset (ALMc_STATUS_ARMED c) 0
  else s2.setTarget c (target + per)

/-- Whether an armed channel's target is reached. -/
def State.almDue (s : State) (c : Nat) : Bool :=
  s.bit (ALMc_STATUS_ARMED c) && reached s.now (BitVec.ofNat 64 (almTarget s c))

/-- A channel fires where it is due. -/
def State.almDoes (s : State) (c : Nat) : State := if s.almDue c then s.almFire c else s

/-- ALMANAC_FIRE (R362): a channel fires at its tick, after those of a lower number that fire at the same tick (R365). -/
def execAlmanacFire (c : Nat) (s : State) : Host.Outcome State Fault Refusal :=
  onUnit (c < 32) (((List.range c).foldl State.almDoes s).almDoes c)

/-- After a forward step, a channel whose target lies behind fires once; firings that the step skipped count as MISSED (R366). -/
def State.almSkip (s : State) (c : Nat) : State :=
  if s.almDue c = false then s else
  let s1 := s.almFire c
  let per := s1.fget (ALMc_PERIOD_VALUE c)
  if s1.almDue c = false ∨ per = 0 then s1
  else
    let k := (s1.now - BitVec.ofNat 64 (almTarget s1 c)).toNat / per + 1
    ((s1.setTarget c (almTarget s1 c + k * per)).fsat (ALMc_STATUS_MISSED c) k).sendFault timeSrc 0x01 c

/-- ARM (R362 to R364): the fields are loaded; an ACTION that cannot be performed keeps the channel from arming. -/
def State.almArm (s : State) (c : Nat) : State :=
  let s1 := s.applyShadow (almShadows c)
  if actionOk (s1.fget (ALMc_ACTION_VALUE c)) then
    let s2 := s1.fsets [(ALMc_STATUS_CFG c, 0), (ALMc_STATUS_ARMED c, 1)]
    if s2.almDue c then s2.flag (ALMc_STATUS_LATE c) else s2
  else s1.fsets [(ALMc_STATUS_CFG c, 1), (ALMc_STATUS_ARMED c, 0)]

/-- ARM (R364). -/
def execArmEv (c : Nat) (s : State) : Host.Outcome State Fault Refusal := onUnit (c < 32) (s.almArm c)

/-- A disarmed channel does not fire (R364). -/
def State.almDisarm (s : State) (c : Nat) : State := s.fset (ALMc_STATUS_ARMED c) 0

/-- DISARM (R364). -/
def execDisarmEv (c : Nat) (s : State) : Host.Outcome State Fault Refusal := onUnit (c < 32) (s.almDisarm c)

/-! ### Steps and slews (R349 to R355) -/

/-- A step (R352): TIME_NOW takes a new value, STEPS counts, STEPPED is raised, the recorder notes it; after a forward step the
channels passed act in ascending order (R365, R366). -/
def State.stepTime (s : State) (fx : Int) : State :=
  let v := (fx % (timeWrap : Int)).toNat
  let r := s.record 0x01 0 [((v / 2 ^ 24 : Nat) : Int)]
  let s1 := ({ r with timeFx := v }.fwrap TIME_STEPS_STEPS 1).event (selOf 0x030000 64)
  if (s.timeFx : Int) < fx then (List.range 32).foldl (fun s c => s.almSkip c) s1 else s1

/-- A refused TIME_CMD (R353). -/
def State.stepRefuse (s : State) (action : Nat) : State := (s.flag TIME_STATUS_STEP_REFUSED).sendFault timeSrc 0x04 action

/-- TIME_OFS, signed, in ns. -/
def State.timeOfs (s : State) : Int := sext 64 (s.fget TIME_OFS_LO_OFS + 2 ^ 32 * s.fget TIME_OFS_HI_OFS)

/-- TIME_CMD (R352 to R354). -/
def State.timeCmd (s : State) (action : Nat) : State :=
  match action with
  | 1 => if s.tbLive ∨ s.bit TIME_STATUS_SLEWING ∨ 1000000000 ≤ s.fget TIME_SET_NS_SET then s.stepRefuse 1
         else s.stepTime ((((s.fget TIME_SET_SEC_LO_SET + 2 ^ 32 * (s.fget TIME_SET_SEC_HI_SET % 2 ^ 16)) * 1000000000
                            + s.fget TIME_SET_NS_SET) * 2 ^ 24 : Nat) : Int)
  | 2 => if s.tbLive ∨ s.bit TIME_STATUS_SLEWING then s.stepRefuse 2
         else s.stepTime ((s.timeFx : Int) + s.timeOfs * 2 ^ 24)
  | 3 => if s.bit TIME_STATUS_SLEWING ∨ 1000000000 < s.timeOfs.natAbs then s.stepRefuse 3
         else if s.timeOfs = 0 then s
         else { s.fset TIME_STATUS_SLEWING 1 with net := { s.net with slewLeft := s.timeOfs * 2 ^ 24 } }
  | _ => s

/-- SET (R352). -/
def execSetEv (s : State) : Host.Outcome State Fault Refusal := .next (s.timeCmd 1)

/-- ADD (R352). -/
def execAddOffset (s : State) : Host.Outcome State Fault Refusal := .next (s.timeCmd 2)

/-- SLEW (R354). -/
def execSlewEv (s : State) : Host.Outcome State Fault Refusal := .next (s.timeCmd 3)

/-- SLEW_END (R354): nothing remains of the slew. -/
def execSlewEnd (s : State) : Host.Outcome State Fault Refusal :=
  .next (if s.net.slewLeft = 0 then s.fset TIME_STATUS_SLEWING 0 else s)

/-- A write of TIME_INC (R350). -/
def State.timeInc (s : State) (v : Nat) : State :=
  if v < 0x03FEF9DB then (s.fset TIME_INC_INC 0x03FEF9DB).flag TIME_STATUS_INC_CLAMP
  else if 0x04010625 < v then (s.fset TIME_INC_INC 0x04010625).flag TIME_STATUS_INC_CLAMP
  else s.fset TIME_INC_INC v

/-- TIME_INC_WRITE (R350). -/
def execTimeIncWrite (v : BitVec 32) (s : State) : Host.Outcome State Fault Refusal := .next (s.timeInc v.toNat)

/-! ### PTP (R357 to R361) -/

def syncFree : Nat := 0
def syncLocking : Nat := 1
def syncLocked : Nat := 2
def syncHold : Nat := 3
def syncMaster : Nat := 4

def State.ptpSync (s : State) : Nat := s.fget TIME_STATUS_SYNC

/-- The SYNC state changes (R359): LOCKED is announced, and so is leaving it. -/
def State.setSync (s : State) (v : Nat) : State :=
  if v = s.ptpSync then s else
  let s1 := s.fset TIME_STATUS_SYNC v
  let s2 := if s.ptpSync = syncLocked then (s1.event (selOf 0x030000 66)).sendFault timeSrc 0x03 v else s1
  if v = syncLocked then s2.event (selOf 0x030000 65) else s2

/-- The profile as it acts: 3 acts as 0 (R369). -/
def State.ptpProfile (s : State) : Nat := s.fget TIME_PTP_CFG_PROFILE % 3

/-- A configuration that does not start the instance (R357). -/
def State.ptpBad (s : State) : Bool :=
  s.ptpProfile == 2 && (s.fget TIME_PTP_CFG_TRANSPORT % 3 != 0 || s.fget TIME_PTP_CFG_DOMAIN != 0)

/-- A write of ROLE (R357, R358): the instance starts on its port, unless its configuration forbids it. -/
def State.ptpRole (s : State) (role : Nat) : State :=
  let s1 := s.fset TIME_PTP_CFG_ROLE role
  if s.fget TIME_PTP_CFG_ROLE ≠ 0 ∨ role = 0 then s1
  else if s1.ptpBad then s1.fset TIME_STATUS_PTP_CFG_ERR 1
  else { s1.fset TIME_STATUS_PTP_CFG_ERR 0 with
         net := { s1.net with port := (if s1.fget TIME_PTP_CFG_PORT = 1 then 1 else 0), good := 0, first := true } }

/-- The instance runs on a port (R356, R357, R370): its MAC is enabled, not at 10 Mb/s, and not in backup operation. -/
def State.ptpOn (s : State) (port : Nat) : Bool :=
  s.fget TIME_PTP_CFG_ROLE != 0 && !s.bit TIME_STATUS_PTP_CFG_ERR && s.net.port == port && s.bit (ETHn_CTRL_EN port)
  && s.fget (ETHn_CTRL_SPEED port) != 2 && !s.inBackup

/-- The servo removes an offset above 1 ms (R359): by a step, or by a slew while TB_LIVE holds. -/
def State.servoStep (s : State) (offset : Int) : State :=
  let o := uint 64 (-offset)
  let s1 := s.fsets [(TIME_OFS_LO_OFS, o), (TIME_OFS_HI_OFS, o / 2 ^ 32)]
  s1.timeCmd (if s.tbLive then 3 else 2)

/-- The servo's TIME_INC after a Sync exchange: a free value within R350's range (log entry 2). -/
def State.servoInc (s : State) : State := s.draw.2.fset TIME_INC_INC (0x03FEF9DB + s.draw.1 % (0x04010625 - 0x03FEF9DB + 1))

/-- A Sync exchange with the chosen master (R359). -/
def State.ptpOffset (s : State) (offset : Int) : State :=
  let s1 := s.fset TIME_OFFSET_VALUE (uint 32 (satS 32 offset))
  let st := s1.ptpSync
  let s2 := if st = syncFree ∨ st = syncMaster ∨ (st = syncHold ∧ s1.net.first = true) then s1.setSync syncLocking else s1
  let good := if offset.natAbs ≤ 100 then s2.net.good + 1 else 0
  let s3 := { s2 with net := { s2.net with good := good, first := false } }
  let owns := s3.bit TIME_CTRL_PTP_OWN && !s3.bit TIME_STATUS_SLEWING
  if s3.ptpSync = syncLocked then
    if 1000 < offset.natAbs then { s3.setSync syncHold with net := { s3.net with good := 0 } }
    else if owns then s3.servoInc else s3
  else if 1000000 < offset.natAbs then (if owns then s3.servoStep offset else s3)
  else if 16 ≤ good ∧ s3.bit TIME_STATUS_SLEWING = false then s3.setSync syncLocked
  else if owns ∧ s3.ptpSync = syncLocking then s3.servoInc
  else s3

/-- The instance becomes the grandmaster where the best master clock algorithm chooses it (R357, R359). -/
def State.ptpBest (s : State) (self : Bool) : State :=
  if self ∧ s.fget TIME_PTP_CFG_ROLE = 2 then s.setSync syncMaster else s

/-- The PHY's receive latency of a port at its speed (R360). -/
def State.phyRx (s : State) (n : Nat) : Nat :=
  if s.fget (ETHn_CTRL_SPEED n) = 1 then s.fget (ETHn_PHYLAT_RX_LAT_100 n) else s.fget (ETHn_PHYLAT_RX_LAT_1000 n)

/-- Slave time minus master time (R359, R360): the stamp moved to the medium side of the PHY, against the master's time and the path's delay. -/
def State.rxOffset (s : State) (port : Nat) (stamp origin : Int) : Int := stamp - s.phyRx port - (origin + s.net.delay)

/-- PTP_FRAME_RX (R357 to R360). -/
def execPtpFrameRx (port : Nat) (f : PtpRx) (s : State) : Host.Outcome State Fault Refusal :=
  onUnit (port < 2) (
    if s.ptpOn port = false then s else
    match f with
    | .sync stamp origin => s.ptpOffset (s.rxOffset port stamp origin)
    | .announce self => s.ptpBest self
    | .delayResp d => { s with net := { s.net with delay := d } }
    | .ignored => s)

/-- ANNOUNCE_TIMEOUT (R358, R359): 3 announce intervals without the master: HOLDOVER, and with PORT = 2 the other port. -/
def execAnnounceTimeout (self : Bool) (s : State) : Host.Outcome State Fault Refusal :=
  .next (
    if s.fget TIME_PTP_CFG_ROLE = 0 ∨ s.bit TIME_STATUS_PTP_CFG_ERR ∨ s.ptpSync = syncMaster then s
    else if self ∧ s.fget TIME_PTP_CFG_ROLE = 2 then s.setSync syncMaster
    else
      let s1 := if s.ptpSync = syncFree then s else s.setSync syncHold
      let swap := s.fget TIME_PTP_CFG_PORT == 2
      { s1 with net := { s1.net with good := 0, first := !swap, port := if swap then 1 - s1.net.port else s1.net.port } })

/-- The PHY latencies of a port at its speed (R360). -/
def State.phyTx (s : State) (n : Nat) : Nat :=
  if s.fget (ETHn_CTRL_SPEED n) = 1 then s.fget (ETHn_PHYLAT_TX_LAT_100 n) else s.fget (ETHn_PHYLAT_TX_LAT_1000 n)

/-- The instance sends a message. -/
def State.ptpSend (s : State) (typ seq : Nat) (time : Option Nat) : State :=
  { s with net := { s.net with sent := ⟨s.net.port, typ, seq % 65536, time⟩ :: s.net.sent } }

/-- PTP_SYNC_TX (R357, R359, R360): as master; a one-step Sync carries its transmit time, of which `stamp` is the MAC's stamp. -/
def execPtpSyncTx (stamp : Nat) (s : State) : Host.Outcome State Fault Refusal :=
  .next (
    if s.ptpOn s.net.port = false ∨ s.ptpSync ≠ syncMaster then s else
    let s1 := s.ptpSend 0 s.net.syncSeq (if s.bit TIME_PTP_CFG_ONE_STEP then some (stamp + s.phyTx s.net.port) else none)
    { s1 with net := { s1.net with syncSeq := (s1.net.syncSeq + 1) % 65536 } })

/-- PTP_DELAY_REQUEST (R357): as a slave; Delay_Req, or Pdelay_Req under a peer-delay profile. -/
def execPtpDelayRequest (s : State) : Host.Outcome State Fault Refusal :=
  .next (
    if s.ptpOn s.net.port = false ∨ s.ptpSync = syncMaster then s else
    let s1 := s.ptpSend (if s.ptpProfile = 0 then 1 else 2) s.net.delaySeq none
    { s1 with net := { s1.net with delaySeq := (s1.net.delaySeq + 1) % 65536 } })

def State.txtsOf (s : State) (n : Nat) : List (Nat × Nat × Nat) := (kvGet s.net.txts n).getD []

/-- TX_TIMESTAMP (R361): a two-step stamp enters the FIFO of its MAC, and the Follow_Up carries the transmit time; a full FIFO
discards it. -/
def execTxTimestamp (n id typ stamp : Nat) (s : State) : Host.Outcome State Fault Refusal :=
  onUnit (n < 2) (
    if s.bit (ETHn_CTRL_EN n) = false ∨ s.inBackup then s
    else if 16 ≤ (s.txtsOf n).length then s.flag (ETHn_STATUS_TS_OVF n)
    else
      let s1 := { s with net := { s.net with txts := kvSet s.net.txts n (s.txtsOf n ++ [(id % 65536, typ % 16, stamp)]) } }
      if typ % 16 = 0 ∨ typ % 16 = 3 then s1.ptpSend (typ % 16 + 8 - (if typ % 16 = 3 then 1 else 0)) id (some (stamp + s.phyTx n)) else s1)

/-- Capture words for later reads (R27). -/
def State.capture (s : State) (l : List (Fld × Nat)) : State :=
  { s with snap := l.foldl (fun m e => kvSet m e.1.addr (e.2 % 2 ^ 32)) s.snap }

/-- A read of ETHn_TXTS_ID (R361, R370): the oldest stamp leaves the FIFO and its four words are captured. -/
def State.txtsPop (s : State) (n : Nat) : State :=
  match s.txtsOf n with
  | [] => s.capture [(ETHn_TXTS_ID_TXTS n, 0), (ETHn_TXTS_NS_TXTS n, 0), (ETHn_TXTS_SEC_LO_TXTS n, 0), (ETHn_TXTS_SEC_HI_TXTS n, 0)]
  | (id, typ, st) :: rest =>
    { s with net := { s.net with txts := kvSet s.net.txts n rest } }.capture
      [(ETHn_TXTS_ID_TXTS n, id * 65536 + typ * 256 + 1), (ETHn_TXTS_NS_TXTS n, st % 1000000000),
       (ETHn_TXTS_SEC_LO_TXTS n, st / 1000000000), (ETHn_TXTS_SEC_HI_TXTS n, st / 1000000000 / 2 ^ 32 % 2 ^ 16)]

/-- TXTS_READ (R361). -/
def execTxtsRead (n : Nat) (s : State) : Host.Outcome State Fault Refusal := onUnit (n < 2) (s.txtsPop n)

/-! ### The capture inputs (R367) -/

def State.capOf (s : State) (k : Nat) : List (Nat × Bool) := (kvGet s.net.caps k).getD []

/-- CAPTURE_EDGE (R367): an edge of the pin that CAPk names, `dt` ns after the last TB tick. -/
def execCaptureEdge (k : Nat) (falling : Bool) (dt : Nat) (s : State) : Host.Outcome State Fault Refusal :=
  onUnit (k < 32) (
    let e := min 2 (s.fget (CAPk_CFG_EDGE k))
    if s.bit (CAPk_CFG_EN k) = false ∨ 96 ≤ s.fget (CAPk_CFG_PIN k) ∨ (e = 0 ∧ falling = true) ∨ (e = 1 ∧ falling = false) then s
    else
      let s0 := s.record 0x20 (256 + k) [if falling then 0 else 1]
      if 4 ≤ (s.capOf k).length then (s0.flag (CAPk_STATUS_OVF k)).sendFault timeSrc 0x02 k
      else { s0 with net := { s0.net with caps := kvSet s.net.caps k (s.capOf k ++ [((s.now.toNat + dt % 4) % 2 ^ 64, falling)]) } }.event
        (selOf 0x030000 (32 + k)))

/-- A read of CAPk_TS_LO (R367): the oldest entry leaves the FIFO and is captured whole. -/
def State.capPop (s : State) (k : Nat) : State :=
  match s.capOf k with
  | [] => (s.fsets [(CAPk_STATUS_VALID k, 0), (CAPk_STATUS_HEAD_EDGE k, 0)]).capture [(CAPk_TS_LO_TS k, 0), (CAPk_TS_HI_TS k, 0)]
  | (ts, falling) :: rest =>
    ({ s with net := { s.net with caps := kvSet s.net.caps k rest } }.fsets
      [(CAPk_STATUS_VALID k, 1), (CAPk_STATUS_HEAD_EDGE k, if falling then 1 else 0)]).capture
      [(CAPk_TS_LO_TS k, ts), (CAPk_TS_HI_TS k, ts / 2 ^ 32)]

/-- CAPTURE_READ (R367). -/
def execCaptureRead (k : Nat) (s : State) : Host.Outcome State Fault Refusal := onUnit (k < 32) (s.capPop k)

end Sys2Proof.Machine
end

