-- ==== Sys2Proof/Machine/Rail.lean ====
section
/-! DEFINITION. Engine rails: THAW, FROST and the Rail Link (R392 to R407). -/

namespace Sys2Proof.Machine

/-- The source of RAIL (R410). -/
def railSrc : Nat := 0x00D

/-- The states of R407. -/
def rOff : Nat := 0
def rHold : Nat := 1
def rConfig : Nat := 2
def rThaw : Nat := 3
def rChain : Nat := 4
def rUp : Nat := 5
def rFrostChain : Nat := 6
def rFrostMaster : Nat := 7

def State.railState (s : State) : Nat := s.fget RAIL_STATUS_STATE
def State.railEvent (s : State) (e : Nat) : State := s.event (selOf 0x0E0000 e)

/-- Slaves (R407): 9 to 15 act as 8. -/
def State.nSlaves (s : State) : Nat := min 8 (s.fget RAIL_CFG_NSLAVES)

/-- The sense input of a rail; none where the field names none (R407). -/
def State.railSense (s : State) (r : Nat) : Option Nat :=
  if s.fget (RAIL_RAILr_A_SENSE r) < 40 then some (s.fget (RAIL_RAILr_A_SENSE r)) else none

def RailJ.new : RailJ := ⟨false, true, 0, 0, 0, none⟩
def State.judgeOf (s : State) (r : Nat) : RailJ := (kvGet s.rail.judge r).getD RailJ.new

/-- A rail's judgement; GOOD shows it (R393). -/
def State.setJudge (s : State) (r : Nat) (j : RailJ) : State :=
  { s.fset RAIL_GOOD_GOOD (setBit (s.fget RAIL_GOOD_GOOD) r j.good) with rail := { s.rail with judge := kvSet s.rail.judge r j } }

def State.railOn (s : State) (r : Nat) : Bool := (s.fget RAIL_GOOD_EN).testBit r

/-- Enable a rail (R393, R394): one without a sense input is good at once. -/
def State.railEnable (s : State) (r : Nat) : State :=
  let j : RailJ := if (s.railSense r).isNone then ⟨true, false, 0, 0, 0, some s.tick⟩ else ⟨false, false, 0, 0, 0, none⟩
  ((s.fset RAIL_GOOD_EN (setBit (s.fget RAIL_GOOD_EN) r true)).fset (RAIL_RAILr_B_FLIPS r) 0).setJudge r j

/-- Disable a rail (R393, R398): one without a sense input is off at once. -/
def State.railDisable (s : State) (r : Nat) : State :=
  let j := s.judgeOf r
  let k : RailJ := if (s.railSense r).isNone then RailJ.new else { j with off := false, offRun := 0, goodSince := none }
  (s.fset RAIL_GOOD_EN (setBit (s.fget RAIL_GOOD_EN) r false)).setJudge r k

/-- The used rails of a step (R394). -/
def State.stepRails (s : State) (st : Nat) : List Nat :=
  (List.range 8).filter (fun r => s.bit (RAIL_RAILr_A_USED r) && s.fget (RAIL_RAILr_A_STEP r) == st)

/-- The lowest used step from `st` on. -/
def State.nextStep (s : State) (st : Nat) : Option Nat :=
  (List.range 8).find? (fun k => decide (st ≤ k) && !(s.stepRails k).isEmpty)

/-- Start a master step (R394): its rails are enabled in one tick. -/
def State.thawStep (s : State) (st : Nat) : State :=
  let s1 := (s.stepRails st).foldl (fun s r => s.railEnable r) (s.fsets [(RAIL_STATUS_STATE, rThaw), (RAIL_STATUS_STEP, st)])
  { s1 with rail := { s1.rail with stepAt := s1.tick } }

/-! ### FROST (R397, R398) -/

/-- Begin to frost slave `k` (R398). -/
def State.frostSlave (s : State) (k : Nat) : State :=
  { s.fsets [(RAIL_STATUS_STATE, rFrostChain), (RAIL_STATUS_SLAVE, k)] with
    rail := { s.rail with slaveAt := s.tick, link := [⟨k, 6, 0, 0, none⟩] } }

/-- RAIL returns to its reset state; the end of the last FROST is kept in the AON domain (R397, R399). -/
def State.railReset (s : State) : State :=
  { s with fields := s.fields.filter (fun e => !railAddr (e.1 / 32))
           rail := ⟨[], 0, 0, 0, s.rail.frostEnd, [], [], [], [], false, []⟩ }

/-- FROST has ended (R397, R398). -/
def State.frostDone (s : State) : State :=
  let s1 := { s with rail := { s.rail with frostEnd := some s.tick, link := [], pass := [] } }
  let c := s1.fget RAIL_STATUS_FROST_CAUSE
  if s1.rail.resetAtEnd then s1.railReset.railEvent 1
  else if s1.inBackup = false ∧ (s1.bit RAIL_STATUS_THAW_PEND ∨ (s1.bit RAIL_CTRL_AUTO_RESTART ∧ 6 ≤ c ∧ c ≤ 8)) then
    s1.fsets [(RAIL_STATUS_STATE, rHold), (RAIL_STATUS_THAW_PEND, 0), (RAIL_STATUS_STEP, 0)]
  else (s1.fsets [(RAIL_STATUS_STATE, rOff), (RAIL_STATUS_STEP, 0)]).railEvent 1

/-- The steps of FROST_MASTER from `k − 1` down (R398): the rails of a step are disabled in one tick; the next step follows when every
one of them is off, and steps with no enabled rail are skipped. -/
def State.frostSteps (s : State) : Nat → State
  | 0 => s.frostDone
  | k + 1 =>
    let rs := (s.stepRails k).filter (fun r => s.railOn r)
    if rs.isEmpty then s.frostSteps k
    else
      let s1 := rs.foldl (fun s r => s.railDisable r) (s.fset RAIL_STATUS_STEP k)
      let s2 := { s1 with rail := { s1.rail with stepAt := s1.tick } }
      if rs.all (fun r => (s2.judgeOf r).off) then s2.frostSteps k else s2

/-- FROST_MASTER begins (R398). -/
def State.frostMaster (s : State) : State :=
  ({ s.fsets [(RAIL_STATUS_STATE, rFrostMaster), (RAIL_STATUS_SLAVE, 0)] with rail := { s.rail with link := [] } }).frostSteps 8

/-- The next slave down, or the master (R398). -/
def State.frostNext (s : State) (k : Nat) : State := if k ≤ 1 then s.frostMaster else s.frostSlave (k - 1)

/-- A FROST cause (R397): it acts outside OFF and FROST. A THAW that ends so has failed. -/
def State.frostCause (s : State) (cause : Nat) : State :=
  let st := s.railState
  if st = rOff ∨ rFrostChain ≤ st then s
  else
    let s1 := s.fsets [(RAIL_STATUS_SEQ_OUT, 0), (RAIL_STATUS_FROST_CAUSE, cause)]
    let s2 := if st = rUp then s1 else (s1.flag RAIL_STATUS_THAW_FAIL).railEvent 2
    let s3 := { s2 with rail := { s2.rail with link := [], pass := [] } }
    if s3.nSlaves = 0 then (s3.fset RAIL_STATUS_STATE rFrostChain).frostMaster else s3.frostSlave s3.nSlaves

/-- FROST (R397): a write of FROST. -/
def execFrostEv (s : State) : Host.Outcome State Fault Refusal := .next (s.frostCause 1)

/-! ### THAW (R394 to R397) -/

/-- UP (R395, R397). -/
def State.railUp (s : State) : State :=
  ({ s.fset RAIL_STATUS_STATE rUp with rail := { s.rail with link := [], polls := [] } }).railEvent 0

/-- The last master step has completed (R395). -/
def State.chainStart (s : State) : State :=
  let s1 := s.fsets [(RAIL_STATUS_STATE, rChain), (RAIL_STATUS_SEQ_OUT, 1), (RAIL_STATUS_SLAVE, 0)]
  let s2 := { s1 with rail := { s1.rail with chainAt := s1.tick, up := [], link := [] } }
  if s2.nSlaves = 0 then s2.railUp else { s2 with rail := { s2.rail with link := [⟨1, 5, 0, 0, none⟩] } }

/-- The steps of THAW from `st` on, or CHAIN where no used step is left (R394, R395, R397). -/
def State.thawFrom (s : State) (st : Nat) : State :=
  match s.nextStep st with
  | some k => s.thawStep k
  | none => s.chainStart

/-- The exchanges of the configuration pass for slave `k` (R396, R403). -/
def State.passOf (s : State) (k : Nat) : List LinkReq :=
  let q := fun (cmd arg : Nat) => (⟨k, cmd, arg, 0, none⟩ : LinkReq)
  let used := fun (r : Nat) => s.fget ([RAIL_SRAILk_USED_0 k, RAIL_SRAILk_USED_1 k, RAIL_SRAILk_USED_2 k, RAIL_SRAILk_USED_3 k,
    RAIL_SRAILk_USED_4 k, RAIL_SRAILk_USED_5 k, RAIL_SRAILk_USED_6 k, RAIL_SRAILk_USED_7 k].getD r (RAIL_SRAILk_USED_0 k))
  let step := fun (r : Nat) => s.fget ([RAIL_SRAILk_STEP_0 k, RAIL_SRAILk_STEP_1 k, RAIL_SRAILk_STEP_2 k, RAIL_SRAILk_STEP_3 k,
    RAIL_SRAILk_STEP_4 k, RAIL_SRAILk_STEP_5 k, RAIL_SRAILk_STEP_6 k, RAIL_SRAILk_STEP_7 k].getD r (RAIL_SRAILk_STEP_0 k))
  [q 1 0, q 2 s.nSlaves, q 3 (s.fget RAIL_STIME_A_HIGH), q 3 (2 ^ 14 + s.fget RAIL_STIME_A_LOW),
   q 3 (2 ^ 15 + s.fget RAIL_STIME_B_HIGH), q 3 (2 ^ 15 + 2 ^ 14 + s.fget RAIL_STIME_B_LOW)]
  ++ (List.range 8).map (fun r => q 4 (r * 2 ^ 13 + used r * 2 ^ 12 + step r * 2 ^ 9)) ++ [q 7 0]

/-- The configuration pass goes on, or is complete (R396, R397). -/
def State.passNext (s : State) : State :=
  match s.rail.pass with
  | [] => ({ s.fset RAIL_STATUS_SLAVE 0 with rail := { s.rail with link := [] } }).thawFrom 0
  | q :: rest => { s.fset RAIL_STATUS_SLAVE q.k with rail := { s.rail with link := [q], pass := rest } }

/-- CONFIG begins (R396, R397). -/
def State.configStart (s : State) : State :=
  let s1 := s.fset RAIL_STATUS_STATE rConfig
  ({ s1 with rail := { s1.rail with asked := [], up := [], pass := (List.range s1.nSlaves).flatMap (fun k => s1.passOf (k + 1)) } }).passNext

/-- RESTART_HOLD has passed since the last FROST (R397). -/
def State.holdOver (s : State) : Bool :=
  match s.rail.frostEnd with
  | some t => decide (t + msTicks (s.fget RAIL_HOLDOFF_RESTART_HOLD) ≤ s.tick)
  | none => true

/-- A write of THAW (R397). -/
def State.thaw (s : State) : State :=
  let st := s.railState
  if rFrostChain ≤ st then (if s.inBackup then s.flag RAIL_STATUS_CMD_REFUSED else s.fset RAIL_STATUS_THAW_PEND 1)
  else if st = rOff then
    if s.bit FLT_STATUS_SAFE ∨ s.inBackup then s.flag RAIL_STATUS_CMD_REFUSED
    else if s.holdOver then s.configStart else s.fset RAIL_STATUS_STATE rHold
  else s

/-- THAW (R397). -/
def execThawEv (s : State) : Host.Outcome State Fault Refusal := .next s.thaw

/-- RESTART_HOLD_EXPIRY (R397). -/
def execRestartHoldExpiry (s : State) : Host.Outcome State Fault Refusal :=
  .next (if s.railState = rHold ∧ s.holdOver = true then s.configStart else s)

/-- RAIL_SETTLE_EXPIRY (R394): every rail of the step has been good for SETTLE ms. -/
def execRailSettleExpiry (s : State) : Host.Outcome State Fault Refusal :=
  .next (
    let st := s.fget RAIL_STATUS_STEP
    let ok := (s.stepRails st).all (fun r => match (s.judgeOf r).goodSince with
      | some t => (s.judgeOf r).good && decide (t + msTicks (s.fget (RAIL_STEPs_SETTLE st)) ≤ s.tick)
      | none => false)
    if s.railState = rThaw ∧ ok = true then s.thawFrom (st + 1) else s)

/-- THAW_TIMEOUT (R394). -/
def execThawTimeout (s : State) : Host.Outcome State Fault Refusal :=
  .next (
    let st := s.fget RAIL_STATUS_STEP
    if s.railState = rThaw ∧ s.rail.stepAt + msTicks (max 1 (s.fget (RAIL_STEPs_THAW_TO st))) ≤ s.tick then
      (s.sendFault railSrc 0x01 (st * 256)).frostCause 6
    else s)

/-- CHAIN_TIMEOUT (R395, R406): the detail names the slaves whose last poll did not report UP. -/
def execChainTimeout (s : State) : Host.Outcome State Fault Refusal :=
  .next (
    if s.railState = rChain ∧ s.rail.chainAt + msTicks (max 1 (s.fget RAIL_CHAIN_CHAIN_TO)) ≤ s.tick then
      let down := (List.range s.nSlaves).filter (fun k => s.fget (RAIL_SLAVEk_STATE (k + 1)) != 3)
      (s.sendFault railSrc 0x07 (down.foldl (fun w k => w + 2 ^ k) 0)).frostCause 6
    else s)

/-- SEQ_IN_RISE (R395): the next polls of the slaves count for UP. -/
def execSeqInRise (s : State) : Host.Outcome State Fault Refusal :=
  .next (if s.bit RAIL_STATUS_SEQ_IN then s
    else { s.fset RAIL_STATUS_SEQ_IN 1 with rail := { s.rail with up := [] } })

/-- A rail is lost (R394, R397, R406). -/
def State.railLost (s : State) (detail : Nat) : State :=
  ((s.flag RAIL_STATUS_RAIL_LOST).sendFault railSrc 0x04 detail).railEvent 3

/-- SEQ_IN_FALL (R397): in UP the chain is broken; NSLAVES = 0 ignores SEQ_IN (R395). -/
def execSeqInFall (s : State) : Host.Outcome State Fault Refusal :=
  .next (
    let s1 := { s.fset RAIL_STATUS_SEQ_IN 0 with rail := { s.rail with up := [] } }
    if s.railState = rUp ∧ s.nSlaves ≠ 0 then (s1.railLost (9 * 4096)).frostCause 8 else s1)

/-! ### The sense inputs (R392, R393) -/

/-- A rail turns bad or good (R393, R394, R397, R399): what its flip does. -/
def State.railFlip (s : State) (r : Nat) (bad : Bool) : State :=
  let st := s.railState
  let mine := s.fget (RAIL_RAILr_A_STEP r) == s.fget RAIL_STATUS_STEP
  if st = rThaw ∧ mine = true then
    let s1 := s.fsat (RAIL_RAILr_B_FLIPS r) 1
    if s1.fget (RAIL_RAILr_B_FLIPS r) = 9 then
      ((s1.flag RAIL_STATUS_RAIL_UNSTABLE).sendFault railSrc 0x02 r).frostCause 6
    else s1
  else if st = rThaw ∧ bad = true then (s.railLost r).frostCause 7
  else if st = rUp ∧ bad = true then
    if s.bit RAIL_CTRL_LOSS_FROST then (s.railLost r).frostCause 7 else s.railLost r
  else s

/-- One reading of a rail (R393). -/
def State.railRead (s : State) (r c : Nat) : State :=
  let nom := s.fget (RAIL_RAILr_A_NOM r)
  let tol := max 1 (min 50 (s.fget (RAIL_RAILr_B_TOL r)))
  let lo := (nom * (100 - tol) + 99) / 100
  let hi := nom * (100 + tol) / 100
  let h := nom * 2 / 100
  let j := s.judgeOf r
  let inRun := if lo ≤ c ∧ c ≤ hi then j.inRun + 1 else 0
  let outRun := if c + h < lo ∨ hi + h < c then j.outRun + 1 else 0
  let offRun := if c < nom * s.fget (RAIL_RAILr_B_OFF r) / 100 then j.offRun + 1 else 0
  let good := if j.good then decide (outRun < 3) else s.railOn r && decide (3 ≤ inRun)
  let off := !s.railOn r && (j.off || decide (3 ≤ offRun))
  let j1 : RailJ := ⟨good && !off, off, inRun, outRun, offRun, if good && !off then (j.goodSince <|> some s.tick) else none⟩
  let s1 := s.setJudge r j1
  if s.railOn r ∧ good ≠ j.good then s1.railFlip r j.good else s1

/-- RS_CONVERSION (R392, R393): input `k` is converted; the rails that name it are judged, and in FROST_MASTER the step ends when
every one of its rails is off. The converter stops only in hibernate. -/
def execRsConversion (k : Nat) (code : BitVec 12) (s : State) : Host.Outcome State Fault Refusal :=
  onUnit (k < 40) (
    if (match s.power.phase with | .hibernate _ => true | _ => false) then s else
    let s1 := s.fset (if k % 2 = 0 then RAIL_RSk_LO (k / 2) else RAIL_RSk_HI (k / 2)) code.toNat
    let rs := (List.range 8).filter (fun r => s1.bit (RAIL_RAILr_A_USED r) && s1.railSense r == some k)
    let s2 := rs.foldl (fun s r => s.railRead r code.toNat) s1
    let st := s2.fget RAIL_STATUS_STEP
    if s2.railState = rFrostMaster ∧ (s2.stepRails st).all (fun r => (s2.judgeOf r).off) = true then s2.frostSteps st else s2)

/-! ### The Rail Link (R400 to R404) -/

/-- One bit of the CRC-8 of R401. -/
def crc8Bit (c : Nat) (b : Bool) : Nat :=
  let x := (decide (128 ≤ c) != b)
  if x then (c * 2 % 256) ^^^ 0x07 else c * 2 % 256

/-- The CRC-8 of R401 over the `n` low bits of a number, the most significant first. -/
def crc8 (w n : Nat) : Nat := (List.range n).foldl (fun c i => crc8Bit c (w.testBit (n - 1 - i))) 0

/-- The 40 bits of a request (R401). -/
def LinkReq.frame (q : LinkReq) : Nat :=
  let body := q.k * 2 ^ 20 + q.cmd * 2 ^ 16 + q.arg
  0xB4 * 2 ^ 32 + body * 256 + crc8 body 24

/-- STATUS and DATA of a response that does not fail the exchange (R401, R402). -/
def respOk (k : Nat) (w : Nat) : Option (Nat × Nat) :=
  let body := w / 256 % 2 ^ 24
  if w / 2 ^ 32 = 0x4B ∧ body / 2 ^ 20 = k ∧ crc8 body 24 = w % 256 ∧ body / 2 ^ 16 % 16 ≠ 3 then
    some (body / 2 ^ 16 % 16, body % 2 ^ 16)
  else none

/-- The exchange in progress is over; the next one that waits begins. -/
def State.linkPop (s : State) : State := { s with rail := { s.rail with link := s.rail.link.drop 1 } }

/-- Append an exchange. -/
def State.linkPush (s : State) (k cmd : Nat) : State := { s with rail := { s.rail with link := s.rail.link ++ [⟨k, cmd, 0, 0, none⟩] } }

/-- In CHAIN the slaves are polled in ascending order, again and again (R402). -/
def State.chainPoll (s : State) (k : Nat) : State :=
  if s.railState = rChain ∧ s.rail.link = [] then s.linkPush (k % s.nSlaves + 1) 5 else s

/-- A THAW fails in its configuration pass (R396): OFF, with no rail enabled. -/
def State.passFail (s : State) (k : Nat) : State :=
  let s1 := (s.fsets [(RAIL_STATUS_STATE, rOff), (RAIL_STATUS_SLAVE, 0), (RAIL_STATUS_THAW_FAIL, 1), (RAIL_STATUS_LINK_ERR, 1)])
  (({ s1 with rail := { s1.rail with link := [], pass := [] } }).sendFault railSrc 0x05 k).railEvent 2

/-- A STATUS response (R402, R403): the slave's registers, and what its state means to the master. -/
def State.slaveStatus (s : State) (k d : Nat) : State :=
  let st := d / 2 ^ 13
  let s1 := (s.fsets [(RAIL_SLAVEk_VALID k, 1), (RAIL_SLAVEk_STATE k, st), (RAIL_SLAVEk_STEP k, d / 2 ^ 10), (RAIL_SLAVEk_GOOD k, d)]).linkPop
  if s1.railState = rFrostChain then
    if st = 1 ∨ st = 0 then s1.frostNext k else s1.linkPush k 5
  else if st = 6 ∧ s1.rail.asked.contains k = false then
    { s1 with rail := { s1.rail with asked := k :: s1.rail.asked, link := ⟨k, 8, 0, 0, none⟩ :: s1.rail.link } }
  else if s1.railState = rChain then
    let up := if st = 3 ∧ s1.bit RAIL_STATUS_SEQ_IN then k :: s1.rail.up.filter (· != k) else s1.rail.up.filter (· != k)
    let s2 := { s1 with rail := { s1.rail with up := up } }
    if s2.bit RAIL_STATUS_SEQ_IN ∧ (List.range s2.nSlaves).all (fun i => up.contains (i + 1)) = true then s2.railUp else s2.chainPoll k
  else s1

/-- A slave has reported FAILED in CHAIN (R395, R406). -/
def State.slaveFail (s : State) (k : Nat) : State :=
  (s.sendFault railSrc 0x06 (s.fget (RAIL_SLAVEk_FAULT k) * 256 + k)).frostCause 6

/-- A valid response (R396, R398, R402). -/
def State.linkOk (s : State) (q : LinkReq) (status d : Nat) : State :=
  match q.cmd with
  | 5 => s.slaveStatus q.k d
  | 8 =>
    let s1 := (s.fset (RAIL_SLAVEk_FAULT q.k) d).linkPop
    if s1.railState = rChain then s1.slaveFail q.k else s1
  | 6 => s.linkPop.linkPush q.k 5
  | 7 => if status = 0 then s.linkPop.passNext else s.passFail q.k
  | _ => s.linkPop.passNext

/-- The third failure of an exchange (R402). -/
def State.linkErr (s : State) (q : LinkReq) : State :=
  if s.railState = rConfig then s.passFail q.k
  else
    let s0 := s.linkPop
    let s1 := ((if q.cmd = 5 then s0.fset (RAIL_SLAVEk_VALID q.k) 0 else s0).flag RAIL_STATUS_LINK_ERR).sendFault railSrc 0x05 q.k
    if s1.railState = rFrostChain then s1.linkPush q.k q.cmd
    else if s1.railState = rUp ∧ s1.bit RAIL_CTRL_LOSS_FROST then s1.frostCause 7
    else if q.cmd = 8 ∧ s1.railState = rChain then s1.slaveFail q.k
    else s1.chainPoll q.k

/-- RAIL_LINK_EXCHANGE (R400 to R402): the exchange in progress ends with the 40 bits of a response, or with none. -/
def execRailLinkExchange (resp : Option (BitVec 40)) (s : State) : Host.Outcome State Fault Refusal :=
  .next (
    match s.rail.link with
    | [] => s
    | q :: rest =>
      if q.failedAt.isSome then s else
      match resp.bind (fun w => respOk q.k w.toNat) with
      | some (st, d) => s.linkOk q st d
      | none =>
        if q.fails + 1 < 3 then { s with rail := { s.rail with link := { q with fails := q.fails + 1, failedAt := some s.tick } :: rest } }
        else s.linkErr q)

/-- RAIL_LINK_RETRY (R402): 100 µs after a failure the exchange is sent again. -/
def execRailLinkRetry (s : State) : Host.Outcome State Fault Refusal :=
  .next (
    match s.rail.link with
    | q :: rest => match q.failedAt with
      | some t => if t + usTicks 100 ≤ s.tick then { s with rail := { s.rail with link := { q with failedAt := none } :: rest } } else s
      | none => s
    | [] => s)

/-- POLL ms have passed since the last poll of a slave (R402); POLL = 0 acts as 1 (R407). -/
def State.pollDue (s : State) (k : Nat) : Bool :=
  match kvGet s.rail.polls k with
  | some t => decide (t + msTicks (max 1 (s.fget RAIL_CFG_POLL)) ≤ s.tick)
  | none => true

/-- RAIL_POLL (R402): in UP, the poll of slave `k` that POLL ms call for. -/
def execRailPoll (k : Nat) (s : State) : Host.Outcome State Fault Refusal :=
  .next (
    if s.railState = rUp ∧ 1 ≤ k ∧ k ≤ s.nSlaves ∧ s.rail.link.all (fun q => q.k != k) = true ∧ s.pollDue k = true then
      { s with rail := { s.rail with polls := kvSet s.rail.polls k s.tick } }.linkPush k 5
    else s)

/-- FROST_STUCK is raised (R398, R406). -/
def State.stuck (s : State) (detail : Nat) : State :=
  ((s.flag RAIL_STATUS_FROST_STUCK).sendFault railSrc 0x03 detail).railEvent 4

/-- FROST_STUCK (R398): FROST_TO has passed before the step is off; the next one is forced. -/
def execFrostStuck (s : State) : Host.Outcome State Fault Refusal :=
  .next (
    let st := s.fget RAIL_STATUS_STEP
    if s.railState = rFrostMaster ∧ s.rail.stepAt + msTicks (max 1 (s.fget (RAIL_STEPs_FROST_TO st))) ≤ s.tick then
      (s.stuck (st * 256)).frostSteps st
    else s)

/-- SLAVE_FROST_TIMEOUT (R398): a slave that has not reported OFF is passed over. -/
def execSlaveFrostTimeout (s : State) : Host.Outcome State Fault Refusal :=
  .next (
    let k := s.fget RAIL_STATUS_SLAVE
    if s.railState = rFrostChain ∧ s.rail.slaveAt + msTicks (max 1 (s.fget RAIL_CHAIN_SLAVE_FROST_TO)) ≤ s.tick then
      (s.stuck (k * 4096 + s.fget (RAIL_SLAVEk_STEP k) * 256)).frostNext k
    else s)

end Sys2Proof.Machine
end

