-- ==== Sys2Proof/Machine/Place.lean ====
section
/-! DEFINITION. Placement, moves between units, and hard failures of units (R13 to R19, R97 to R100, R111 to R116). -/

namespace Sys2Proof.Machine

/-! ### Task headers (R97 to R99) -/

/-- A little-endian field of a list of bytes. -/
def le (b : List Byte) (off n : Nat) : Nat := bytesToNat ((b.drop off).take n)

/-- The release kind of a code. -/
def relOf : Nat → Option RelKind
  | 0 => some .once | 1 => some .period | 2 => some .event | 3 => some .message | 4 => some .sheet | 5 => some .call
  | _ => none

/-- A segment descriptor (R98), and whether its fields are in range. -/
def parseSeg (b : List Byte) : SegDesc × Bool :=
  let f := le b 0 1
  let d : SegDesc := ⟨f % 16, f.testBit 4, f.testBit 5, f.testBit 6, le b 1 3, le b 4 4⟩
  (d, !f.testBit 7 && d.size % 4 == 0 && decide (4 ≤ d.size) && (d.init || d.initOffset == 0))

/-- A header (R97 to R99), and the bytes it fills. -/
def parseHdr (img b : List Byte) : TaskHdr × Nat :=
  let kc := le b 3 1
  let nseg := le b 30 1
  let nch := le b 31 1
  let len := 36 + 8 * nseg + 2 * nch
  let segs := (List.range nseg).map (fun i => parseSeg (b.drop (36 + 8 * i)))
  let ces := (List.range nch).map (fun i => le b (36 + 8 * nseg + 2 * i) 2)
  let chans := ces.map (fun w => (w % 256, w.testBit 8))
  let rel := le b 6 1
  let arg := le b 7 1
  let par := le b 8 4
  let deadline := le b 16 4
  let cls := kc / 2 % 4
  let task := le b 4 2
  let load := le b 24 2
  let words := le b 28 2 + 1
  let argOk : Bool := match rel with
    | 3 => chans.contains (arg, false)
    | 4 => decide (2 ≤ arg ∧ arg ≤ 6)
    | _ => arg == 0
  let parOk : Bool := match rel with
    | 1 => decide (1000 ≤ par)
    | 2 => true
    | _ => par == 0
  let pad := (4 - len % 4) % 4
  let ok : Bool := decide (len ≤ b.length) && le b 0 2 == 0x0E58 && le b 2 1 == 1 && decide (kc < 64) && decide (cls < 3)
    && decide (task < 512) && (relOf rel).isSome && argOk && parOk && (cls != 0 || deadline != 0) && decide (1 ≤ load)
    && decide (load ≤ 7000) && decide (nseg ≤ 16) && segs.all (fun d => d.2) && ces.all (fun w => decide (w < 512)) && le b len pad == 0
  (⟨ok, kc.testBit 0, cls, kc / 8 % 4, kc.testBit 5, task, (relOf rel).getD .once, arg, par, le b 12 4, deadline, le b 20 4, load,
    le b 26 2, words, segs.map (fun d => d.1), chans,
    (List.range words).map (fun i => BitVec.ofNat 32 (le img (le b 32 4 + 4 * i) 4))⟩, len + pad)

/-- The headers of section 1, in image order. -/
def parseHdrs (img : List Byte) : Nat → List Byte → List TaskHdr
  | 0, _ => []
  | _ + 1, [] => []
  | k + 1, b :: t => (parseHdr img (b :: t)).1 :: parseHdrs img k ((b :: t).drop (parseHdr img (b :: t)).2)

/-! ### Validation (R100) -/

/-- Check 1 to 5 in the order of the table: the code, and the first task in image order at which the check fails. -/
def checkHdrs (hs : List TaskHdr) : Option (Nat × Nat) :=
  let idx := hs.zipIdx
  let earlier := fun (k : Nat) (p : TaskHdr → Bool) => (hs.take k).any p
  let first := fun (code : Nat) (p : TaskHdr → Nat → Bool) => (idx.find? (fun h => p h.1 h.2)).map (fun h => (code, h.1.task))
  let by_ := fun (c : Nat × Bool) (h : TaskHdr) => h.chans.contains c
  (first 1 (fun h _ => !h.hdrOk)) <|> (first 2 (fun h k => earlier k (fun g => g.task == h.task)))
  <|> (first 3 (fun h k => h.chans.any (fun c => earlier k (by_ c))))
  <|> (first 4 (fun h _ => h.chans.any (fun c => !hs.any (by_ (c.1, !c.2)))))
  <|> (first 5 (fun h _ => decide (h.cls = 0 ∧ h.deadline < h.budget * 2 + (if h.loop then 304 else 240))))

/-! ### Placement (R111 to R113) -/

/-- The load of a task in 0.01 % (R111). -/
def TaskHdr.weight (h : TaskHdr) : Nat :=
  max h.load (if h.minInterval = 0 then (if h.budget = 0 then 0 else Config.loadOpen h.budget)
    else (h.budget * 20000 + h.minInterval - 1) / h.minInterval)

/-- The order of R113. -/
def TaskHdr.before (g h : TaskHdr) : Bool :=
  if g.loop ≠ h.loop then h.loop
  else if g.cls ≠ h.cls then decide (g.cls < h.cls)
  else if g.weight ≠ h.weight then decide (h.weight < g.weight)
  else decide (g.task < h.task)

def insertHdr (h : TaskHdr) : List TaskHdr → List TaskHdr
  | [] => [h]
  | g :: t => if h.before g then h :: g :: t else g :: insertHdr h t

/-- Sorted by (engine kind, class, load descending, task number). -/
def sortHdrs (hs : List TaskHdr) : List TaskHdr := hs.foldl (fun l h => insertHdr h l) []

/-- A logical engine during placement: its kind and number, the physical engine that serves it, its load and its tasks. -/
structure Eng where
  loop : Bool
  logical : Nat
  phys : Nat
  load : Nat
  tasks : Nat
  deriving DecidableEq, Repr

/-- What placement has decided so far: the engines, the bytes in use of each own memory, of supervisor SRAM and of DRAM, each task's
engine, and each task's segment locations. -/
structure Plan where
  engs : List Eng
  own : List (Nat × Nat)
  sup : Nat
  dram : Nat
  asg : List (Nat × Nat)
  locs : List (Nat × List (Nat × Nat))
  deriving DecidableEq, Repr

/-- The own memory of a physical engine: its bay's SRAM, or a loop engine's 64 KiB (R11, R112). -/
def ownKey (p : Nat) : Nat := if p < 20 then p / 5 else p - 16
def ownSize (p : Nat) : Nat := if p < 20 then 262144 else 65536

/-- The physical engines of a bay, or the loop engines, that serve its logical engines (R117): each as built, the spare in place of the
first that is not available. -/
def groupEngs (avail : Nat → Bool) (loop : Bool) (base phys : Nat) : List Eng :=
  let missing := (List.range 4).find? (fun k => !avail (phys + k))
  (List.range 4).filterMap (fun k =>
    if avail (phys + k) then some ⟨loop, base + k, phys + k, 0, 0⟩
    else if missing = some k ∧ avail (phys + 4) = true then some ⟨loop, base + k, phys + 4, 0, 0⟩
    else none)

/-- The logical engines that are available. -/
def allEngs (avail : Nat → Bool) : List Eng :=
  (List.range 4).flatMap (fun b => groupEngs avail false (4 * b) (5 * b)) ++ groupEngs avail true 0 20

/-- An engine comes before another (R113): the lower load so far, then the lower number. -/
def Eng.before (a b : Eng) : Bool := decide (a.load < b.load ∨ (a.load = b.load ∧ a.logical < b.logical))

def insertEng (e : Eng) : List Eng → List Eng
  | [] => [e]
  | g :: t => if e.before g then e :: g :: t else g :: insertEng e t

/-- Code, checkpoint and context areas and NEAR segments (R112, R113). -/
def TaskHdr.nearSize (h : TaskHdr) : Nat :=
  4 * h.codeWords + 384 + ((h.segs.filter (fun d => d.near)).map (fun d => d.size)).foldl (· + ·) 0

/-- Assign a task to the first engine that takes it; error 6 where the load limit keeps every engine from it, 7 where memory does. -/
def assign (pl : Plan) (h : TaskHdr) : Except (Nat × Nat) Plan :=
  let cands := ((pl.engs.filter (fun e => e.loop == h.loop)).foldl (fun l e => insertEng e l) []).filter (fun e =>
    decide (e.load + h.weight ≤ 7000) && decide (e.tasks < 16))
  match cands.find? (fun e => decide ((kvGet pl.own (ownKey e.phys)).getD 0 + h.nearSize ≤ ownSize e.phys)) with
  | some e =>
    .ok { pl with engs := pl.engs.map (fun g => if g = e then { g with load := g.load + h.weight, tasks := g.tasks + 1 } else g)
                  own := kvSet pl.own (ownKey e.phys) ((kvGet pl.own (ownKey e.phys)).getD 0 + h.nearSize)
                  asg := kvSet pl.asg h.task e.phys }
  | none => .error (if cands.isEmpty then 6 else 7, h.task)

/-- Where a segment goes (R112): 0 own memory, 1 supervisor SRAM, 2 DRAM. -/
def placeSeg (pl : Plan) (h : TaskHdr) (d : SegDesc) : Except (Nat × Nat) Plan :=
  let p := (kvGet pl.asg h.task).getD 0
  let put := fun (pl : Plan) (loc : Nat) => { pl with locs := kvSet pl.locs h.task (((kvGet pl.locs h.task).getD []) ++ [(d.seg, loc)]) }
  let used := (kvGet pl.own (ownKey p)).getD 0
  if d.near then .ok (put pl 0)
  else if used + d.size ≤ ownSize p then .ok (put { pl with own := kvSet pl.own (ownKey p) (used + d.size) } 0)
  else if pl.sup + d.size ≤ 524288 then .ok (put { pl with sup := pl.sup + d.size } 1)
  else if pl.dram + d.size ≤ 67108864 then
    (if h.cls < 2 then .error (8, h.task) else .ok (put { pl with dram := pl.dram + d.size } 2))
  else .error (7, h.task)

def insertSeg (d : SegDesc) : List SegDesc → List SegDesc
  | [] => [d]
  | g :: t => if d.seg < g.seg then d :: g :: t else g :: insertSeg d t

/-- The segments of a task in segment-number order. -/
def TaskHdr.sortedSegs (h : TaskHdr) : List SegDesc := h.segs.foldl (fun l d => insertSeg d l) []

/-- Place the segments of a task. -/
def placeSegs (pl : Plan) (h : TaskHdr) : Except (Nat × Nat) Plan :=
  h.sortedSegs.foldlM (fun pl d => placeSeg pl h d) pl

/-- Placement (R113): a pure function of the headers, the available engines and the order of the image. -/
def plan (avail : Nat → Bool) (hs : List TaskHdr) : Except (Nat × Nat) Plan :=
  match checkHdrs hs with
  | some e => .error e
  | none => do
    let pl ← (sortHdrs hs).foldlM assign ⟨allEngs avail, [], 0, 0, [], []⟩
    (sortHdrs hs).foldlM placeSegs pl

/-! ### Addresses (R112) -/

/-- The device address of an own memory (R11): a bay's SRAM, or a loop engine's memory. -/
def ownBase (p : Nat) : Nat := if p < 20 then sramBase + p / 5 * 0x40000 else sramBase + 0x100000 + (p - 20) * 0x10000

/-- The part of supervisor SRAM that is lent to engine data (R112). -/
def supBase : Nat := sramBase + 0x280000

/-- Addresses given so far: the bytes in use of each own memory, of supervisor SRAM and of DRAM; each task's code, and its segments. -/
structure Layout where
  own : List (Nat × Nat)
  sup : Nat
  dram : Nat
  areas : List (Nat × Nat)
  bases : List (Nat × List (Nat × Nat))
  deriving DecidableEq, Repr

/-- A task's own area: code, the checkpoint and context areas, then its NEAR segments. -/
def layArea (asg : List (Nat × Nat)) (l : Layout) (h : TaskHdr) : Layout :=
  let p := (kvGet asg h.task).getD 0
  let used := (kvGet l.own (ownKey p)).getD 0
  let a := ownBase p + used
  let near := ((h.sortedSegs.filter (fun d => d.near)).foldl (fun (x : Nat × List (Nat × Nat)) d => (x.1 + d.size, kvSet x.2 d.seg x.1))
    (a + 4 * h.codeWords + 384, [])).2
  { l with own := kvSet l.own (ownKey p) (used + h.nearSize), areas := kvSet l.areas h.task a, bases := kvSet l.bases h.task near }

/-- A segment that is not NEAR, in the memory that placement chose. -/
def laySeg (asg : List (Nat × Nat)) (locs : List (Nat × List (Nat × Nat))) (top : Nat) (h : TaskHdr) (l : Layout) (d : SegDesc) : Layout :=
  let p := (kvGet asg h.task).getD 0
  let put := fun (l : Layout) (a : Nat) => { l with bases := kvSet l.bases h.task (kvSet ((kvGet l.bases h.task).getD []) d.seg a) }
  if d.near then l
  else match kvGet ((kvGet locs h.task).getD []) d.seg with
    | some 1 => put { l with sup := l.sup + d.size } (supBase + l.sup)
    | some 2 => put { l with dram := l.dram + d.size } (top + l.dram)
    | _ =>
      let used := (kvGet l.own (ownKey p)).getD 0
      put { l with own := kvSet l.own (ownKey p) (used + d.size) } (ownBase p + used)

/-- The addresses of a placement, from the bottom of each memory, in the order in which placement fills it (DESIGN CHOICE, log entry 45); `top` is
where the 64 MiB that DRAM lends begin. -/
def layout (asg : List (Nat × Nat)) (locs : List (Nat × List (Nat × Nat))) (top : Nat) (hs : List TaskHdr) : Layout :=
  let order := sortHdrs hs
  order.foldl (fun l h => h.sortedSegs.foldl (laySeg asg locs top h) l) (order.foldl (layArea asg) ⟨[], 0, 0, [], []⟩)

/-- An engine that placement may use. -/
def State.engineOk (s : State) (p : Nat) : Bool := s.unitOk (engineSrc p)

/-- A task placed on an engine. -/
def Task.placed (h : TaskHdr) (p : Nat) (locs : List (Nat × Nat)) (area : Nat) (bases : List (Nat × Nat)) : Task :=
  ⟨h, Arch.start (BitVec.ofNat 16 h.entry) 0, .idle, none, none, false, none, none, ⟨0, []⟩, false, none, 0, 0, 0xFFFFFFFF, 0, 0, 0, 0, 0, 0, 0,
   false, false, p, locs, area, bases, 0⟩

/-- The memory of a task at its start: its code, and each segment with its INIT contents, or zeros (R97, R98). -/
def State.fillTask (img : List Byte) (s : State) (t : Task) : State :=
  t.hdr.segs.foldl (fun s d => s.rawFill (t.segAddr (d.seg * 2 ^ 28)) d.size (if d.init then img.drop d.initOffset else []))
    (s.rawFill t.area (4 * t.hdr.codeWords + 384) (t.hdr.code.flatMap (fun w => natToBytes w.toNat 4)))

/-- The state of an engine that serves no logical engine (R117). -/
def State.idleState (s : State) (p : Nat) : Nat :=
  let u := s.unitOf (engineSrc p)
  if u.retired then 2 else if u.failed || u.unavail then 3 else 0

/-- No task is declared, every channel is empty (R107, R438). -/
def State.clearTasks (s : State) : State :=
  { s with ex := { s.ex with tasks := [], running := [], chans := [], moves := [], moving := [] } }

/-- The engine registers of a placement. -/
def State.showEngs (s : State) (engs : List Eng) : State :=
  (List.range nEngines).foldl (fun s p =>
    match engs.find? (fun e => e.phys == p) with
    | some e => s.fsets [(PLC_ENGp_LOAD p, e.load), (PLC_ENGp_TASKS p, e.tasks), (PLC_ENGp_STATE p, 1), (PLC_ENGp_LOGICAL p, e.logical)]
    | none => s.fsets [(PLC_ENGp_LOAD p, 0), (PLC_ENGp_TASKS p, 0), (PLC_ENGp_STATE p, s.idleState p), (PLC_ENGp_LOGICAL p, 0)]) s

/-- The engines start (R101): ONCE tasks are released, PERIOD tasks wait for the first whole multiple. -/
def State.startTasks (s : State) : State :=
  let now := s.now.toNat
  let s1 := { s with ex := { s.ex with tasks := s.ex.tasks.map (fun (e : Nat × Task) =>
    (e.1, { e.2 with nextPeriod := if e.2.hdr.relParam = 0 then 0 else (now + e.2.hdr.relParam - 1) / e.2.hdr.relParam * e.2.hdr.relParam })) } }
  s1.releaseAll (fun h => decide (h.rel = .once)) ⟨s.now, []⟩

/-- PLACE_INITIAL (R116). -/
def State.recordInitial (s : State) (crc : Nat) (pl : Plan) : State :=
  let mask := (List.range nEngines).foldl (fun m p => if s.engineOk p then m + 2 ^ p else m) 0
  s.recordPlace ([0, crc, mask] ++ pl.asg.flatMap (fun a => a.1 :: a.2 :: ((kvGet pl.locs a.1).getD []).flatMap (fun l => [l.1, l.2])))

/-- A placement takes effect (R113, R116): every task at its entry on its engine, its segments at their start. -/
def State.applyPlan (s : State) (img : List Byte) (hs : List TaskHdr) (pl : Plan) : State :=
  let l := layout pl.asg pl.locs (s.usable - 2 ^ 26) hs
  let tasks := hs.foldl (fun m h => kvSet m h.task (Task.placed h ((kvGet pl.asg h.task).getD 0) ((kvGet pl.locs h.task).getD [])
    ((kvGet l.areas h.task).getD 0) ((kvGet l.bases h.task).getD []))) []
  let s1 := tasks.foldl (fun s e => State.fillTask img s e.2) { s with ex := { s.ex with tasks := tasks, image := hs } }
  (s1.showEngs pl.engs).fsets [(PLC_PLACE_ERR_CODE, 0), (PLC_PLACE_ERR_TASK, 0), (PLC_STATUS_PLACED, 1)]

/-- The placement service places the tasks of an image, and the engines start; or it reports the check that failed, and they start
nothing (R100, R113). `crc` is the CRC of the headers. -/
def State.place (s : State) (img : List Byte) (hs : List TaskHdr) (crc : Nat) : State :=
  let s0 := s.clearTasks
  match plan s.engineOk hs with
  | .error (code, task) =>
    (s0.showEngs []).fsets [(PLC_PLACE_ERR_CODE, code), (PLC_PLACE_ERR_TASK, task), (PLC_STATUS_PLACED, 0)]
  | .ok pl => ((s0.applyPlan img hs pl).recordInitial crc pl).startTasks

/-! ### The image in flash (R431) -/

/-- Section entries of an image: type, offset, length, CRC. -/
def sections (img : List Byte) : List (Nat × Nat × Nat × Nat) :=
  (List.range (min 8 (le img 6 2))).map (fun i =>
    (le img (128 + 16 * i) 4, le img (132 + 16 * i) 4, le img (136 + 16 * i) 4, le img (140 + 16 * i) 4))

/-- The bytes of the first section of a type. -/
def sectionOf (img : List Byte) (t : Nat) : List Byte :=
  match (sections img).find? (fun e => e.1 == t) with
  | some e => (img.drop e.2.1).take e.2.2.1
  | none => []

/-- The headers of an image. -/
def imageHdrs (img : List Byte) : List TaskHdr := parseHdrs img (sectionOf img 1).length (sectionOf img 1)

/-- The slot that runs (R457), and another. -/
def State.slot (s : State) (b : Bool) : Slot := if b then s.upd.slotB else s.upd.slotA
def State.runSlot (s : State) : Bool := s.bit UPD_STATUS_RUN_SLOT
def State.setSlot (s : State) (b : Bool) (x : Slot) : State :=
  { s with upd := if b then { s.upd with slotB := x } else { s.upd with slotA := x } }

/-- Placement of the running image, and every task at its entry (R113, R438, R451). -/
def State.placeImage (s : State) : State :=
  let img := (s.slot s.runSlot).image
  s.place img (imageHdrs img) (crc32 (sectionOf img 1))

/-- A re-placement is owed (R17): an engine that failed without a spare still holds tasks; a loop engine counts too, of which the rule does not speak
(DESIGN CHOICE, log entry 41). -/
def State.replaceOwed (s : State) : Bool :=
  s.ex.tasks.any (fun e => s.fget (PLC_ENGp_STATE e.2.phys) == 3)

/-- After the safe state is cleared every task is placed again on the remaining engines (R17). -/
def State.replaceTasks (s : State) : State := if s.replaceOwed then s.placeImage else s

/-! ### Moves (R14, R114) -/

/-- The spare of an engine's group that stands idle (R13, R16). -/
def State.freeSpare (s : State) (p : Nat) : Option Nat :=
  (List.range nEngines).find? (fun q => (if p < 20 then decide (q < 20 ∧ q / 5 = p / 5) else decide (20 ≤ q))
    && s.fget (PLC_ENGp_STATE q) == 0 && s.engineOk q)

/-- The registers of an engine pass to its spare. -/
def State.passEngine (s : State) (p q st : Nat) : State :=
  s.fsets [(PLC_ENGp_LOAD q, s.fget (PLC_ENGp_LOAD p)), (PLC_ENGp_TASKS q, s.fget (PLC_ENGp_TASKS p)), (PLC_ENGp_STATE q, 1),
    (PLC_ENGp_LOGICAL q, s.fget (PLC_ENGp_LOGICAL p)), (PLC_ENGp_LOAD p, 0), (PLC_ENGp_TASKS p, 0), (PLC_ENGp_STATE p, st),
    (PLC_ENGp_LOGICAL p, 0)]

/-- The tasks of an engine pass to its spare as they stand. -/
def State.passTasks (s : State) (p q : Nat) : State :=
  { s with ex := { s.ex with
      tasks := s.ex.tasks.map (fun (e : Nat × Task) => if e.2.phys = p then (e.1, { e.2 with phys := q }) else e)
      running := match kvGet s.ex.running p with
        | some i => kvSet (kvDel s.ex.running p) q i
        | none => s.ex.running
      moves := s.ex.moves.filter (fun (m : Nat × (Bool × Bool)) => m.1 != p) } }

/-- Whether a move that waits may be made: for retirement or for slowness (R114, R115, R117). -/
def State.moveAllowed (s : State) (slow : Bool) : Bool := s.bit (if slow then PLC_CTRL_SLOW_EN else PLC_CTRL_RETIRE_EN)

/-- A boundary move waits for the next sheet boundary (R117): it is allowed and a spare is free. -/
def State.movePending (s : State) : Bool := s.ex.moves.any (fun m => s.moveAllowed m.2.1 && (s.freeSpare m.1).isSome)

/-- The engines and the tasks change over as a boundary move begins (R114): both engines read as moving for the pause, and the task that the old one
ran waits for its end (log entry 42). -/
def State.moveBegin (s : State) (p q st pause : Nat) : State :=
  let s1 := ((s.passEngine p q 4).fset (PLC_ENGp_STATE q) 4).passTasks p q
  ({ s1 with ex := { s1.ex with moving := s1.ex.moving ++ [(⟨p, q, st, kvGet s1.ex.running q, s1.tick + (pause + 1) / 2⟩ : Moving)], running := kvDel s1.ex.running q } }).fsat
    PLC_MOVES_BOUNDARY_MOVES 1

/-- The pause of a boundary move ends: the spare is active, and goes on with the task that ran. -/
def State.moveEnd (s : State) (m : Moving) : State :=
  let s1 := (s.fset (PLC_ENGp_STATE m.new) 1).fset (PLC_ENGp_STATE m.old) m.st
  { s1 with ex := { s1.ex with
      moving := s1.ex.moving.filter (fun x => x != m)
      running := match m.task with
        | some i => if (s1.task? i).any (fun t => decide (t.stat = TStat.running)) then kvSet s1.ex.running m.new i else s1.ex.running
        | none => s1.ex.running } }

/-- The pauses that have passed end. -/
def State.movesTick (s : State) : State := (s.ex.moving.filter (fun m => decide (m.until_ ≤ s.tick))).foldl State.moveEnd s

/-- The most cycles in which an engine reaches the boundary of its instruction in progress (R114). -/
def maxStop (p : Nat) : Nat := if p < 20 then 48 else 64

/-- BOUNDARY_MOVE (R114, R116): a move for retirement, or else for slowness, that has come due, or at once while no sheet is ADMITTED or
later. The pause is 16 + 4 engine cycles and the free time in which the old engine stops, within its bound; the record names the sheet of the
boundary, or 0 where none was waited for (log entry 42). -/
def execBoundaryMove (p : Nat) (s : State) : Host.Outcome State Fault Refusal :=
  onUnit (p < nEngines) (
    let mine := s.ex.moves.filter (fun (m : Nat × (Bool × Bool)) => m.1 == p && s.moveAllowed m.2.1)
    let due := mine.filter (fun m => m.2.2 || !s.anyActive)
    match due, s.freeSpare p with
    | _ :: _, some q =>
      if s.replaying then s else
      let retired := s.ex.moves.any (fun m => m.1 == p && !m.2.1)
      let pause := 20 + s.draw.1 % (maxStop p + 1)
      (s.draw.2.moveBegin p q (if retired then 2 else 0) pause).recordPlace
        [1, s.now.toNat, if due.any (fun m => m.2.2) then s.ex.boundarySeq else 0, (if retired then 0 else 1), p, q, pause]
    | _, _ => s)

/-- A task of a failed engine restarts on the spare from its last checkpoint, or at its entry (R109, R114). A trapped task without automatic restart
stays stopped (R109); one that has had no activation yet has nothing to restart (DEDUCED, log entry 43). -/
def State.failRestart (s : State) (i : Nat) : State :=
  match s.task? i with
  | some t =>
    if t.started = true ∧ (t.stat ≠ .trapped ∨ t.autoRestart = true) then
      (s.makeReady i (t.restart true false)).recordPlace [3, i, 0, (t.restart true false).arch.pc.toNat]
    else s
  | none => s

/-- A task of an engine that failed with no spare left does not continue (R17). -/
def State.failStop (s : State) (p : Nat) : State :=
  { s with ex := { s.ex with
      tasks := s.ex.tasks.map (fun (e : Nat × Task) =>
        if e.2.phys = p then (e.1, { e.2 with stat := .stopped, wait := none, dcall := none, stall := false, access := none, preempted := false }) else e)
      running := kvDel s.ex.running p
      moves := s.ex.moves.filter (fun (m : Nat × (Bool × Bool)) => m.1 != p) } }

/-- A hard failure of an engine (R14, R17, R114). Class C of R17 stands for every case in which the bay has no free spare, also where the spare has
itself failed or is unavailable (DESIGN CHOICE, log entry 41). A move of the engine in its pause ends first. -/
def State.engineFail (s : State) (p kind detail : Nat) : State :=
  let s := (s.ex.moving.filter (fun m => m.old == p || m.new == p)).foldl State.moveEnd s
  let was := s.fget (PLC_ENGp_STATE p)
  let s0 := (s.modUnit (engineSrc p) (fun u => { u with failed := true }))
  if was ≠ 1 then (s0.fset (PLC_ENGp_STATE p) (if was = 2 then 2 else 3)).sendFault (engineSrc p) kind detail
  else
    match s0.freeSpare p with
    | some q =>
      let ids := (s0.ex.tasks.filter (fun (e : Nat × Task) => e.2.phys == p)).map (·.1)
      let s1 := ((s0.sendFault (engineSrc p) kind detail).passEngine p q 3).passTasks p q
      let s2 := { s1 with ex := { s1.ex with running := kvDel s1.ex.running q } }.fsat PLC_MOVES_FAIL_MOVES 1
      ids.foldl (fun s i => s.failRestart i) (s2.recordPlace [2, s2.now.toNat, kind, detail, p, q])
    | none =>
      let s1 := if p < 20 then s0.sendFaultC (engineSrc p) kind detail 2 else s0.sendFault (engineSrc p) kind detail
      (s1.fset (PLC_ENGp_STATE p) 3).failStop p

/-- A hard failure of an imaging pipeline (R202, R203): STNX begins its loads at once where it stands idle, and takes over at once where it has
loaded already for a move that waits. -/
def State.pipelineFail (s : State) (p detail : Nat) : State :=
  let s0 := s.modUnit (0x060 + p) (fun u => { u with failed := true })
  if p = 6 then ({ s0 with stnx := { s0.stnx with moveReq := none, returnReq := false } }.fset STNX_STATUS_STATE 3).sendFault 0x066 0x06 detail
  else
    let s1 := (s0.modStn p (fun t => { t with failed := true })).sendFault (0x060 + p) 0x06 detail
    if s.bit (STNn_PL_STATUS_SERVED_X p) then s1
    else if s1.stnxFree then
      let s2 := s1.stnxMove p
      { s2 with stnx := { s2.stnx with atWindow := true } }
    else if s1.stnx.moveReq = some p then
      let s2 := { s1 with stnx := { s1.stnx with atWindow := true } }
      if s2.stnx.loaded then (s2.stnxServe p).takeOver p else s2
    else s1

/-- UNIT_HARD_FAIL (R13, R14): the unit's source sends its message; an engine, a pipeline or a lane hands its work over at once. -/
def execUnitHardFail (u : UnitId) (kind detail : Nat) (s : State) : Host.Outcome State Fault Refusal :=
  match u with
  | .engine p => onUnit (p < nEngines) (s.engineFail p kind detail)
  | .pipeline p => onUnit (p < 7 && decide (1 ≤ detail ∧ detail ≤ 5)) (s.pipelineFail p detail)
  | .lane n l => onUnit (n < 6 && l < 17) (if s.bit (STNn_BR_LANEl_FAILED n l) then s else s.laneFail n l detail)
  | .drv n => onUnit (n < 8) (s.sendFault (0x140 + 2 * n) kind detail)
  | .axs n => onUnit (n < 20) (s.sendFault (0x160 + 2 * n) kind detail)
  | .hvo k => onUnit (k < 32) (s.sendFault (0x1C0 + k) kind detail)
  | .fus f => onUnit (f < 2) (s.sendFault (0x1E0 + f) kind detail)

/-- FLIT_RESEND (R19): a flit that failed its CRC is resent; the link's correctable count feeds the bucket of its class; a flit that
fails 8 times in a row (`same`: the flit that failed last) is a class C fault. The spec does not state the kind (log entry 2). -/
def execFlitResend (dir : Nat) (same : Bool) (s : State) : Host.Outcome State Fault Refusal :=
  onUnit (dir < 2) (
    let k := (if same then (kvGet s.mem.flitFails dir).getD 0 else 0) + 1
    let s1 := ({ s with mem := { s.mem with flitFails := kvSet s.mem.flitFails dir k } }).bucketAdd 3
    if k = 8 then s1.draw.2.sendFaultC 0x014 (1 + s1.draw.1 % 63) dir 2 else s1)

end Sys2Proof.Machine
end

