-- ==== Sys2Proof/Machine/Flt.lean ====
section
/-! DEFINITION. The fault collector, safe states, and thermal management (R408 to R428). -/

namespace Sys2Proof.Machine

def State.fltEvent (s : State) (e : Nat) : State := s.event (selOf 0x010000 e)
def State.thmEvent (s : State) (e : Nat) : State := s.event (selOf 0x020000 e)

/-- The sources of R410; numbers not listed are reserved. -/
def srcExists (s : Nat) : Bool :=
  decide (s ≤ 0x014) || decide (0x018 ≤ s ∧ s ≤ 0x02F) || decide (0x040 ≤ s ∧ s ≤ 0x058) || decide (0x060 ≤ s ∧ s ≤ 0x066)
  || decide (0x068 ≤ s ∧ s ≤ 0x06D) || decide (0x080 ≤ s ∧ s < 0x140 ∧ (s - 0x080) % 0x20 ≤ 16) || decide (0x140 ≤ s ∧ s < 0x150)
  || decide (0x160 ≤ s ∧ s < 0x188) || decide (0x1A0 ≤ s ∧ s ≤ 0x1A4) || decide (s = 0x1B0 ∨ s = 0x1B1)
  || decide (0x1C0 ≤ s ∧ s ≤ 0x1DF) || decide (s = 0x1E0 ∨ s = 0x1E1)

/-- The sources whose class is fixed at C (R410). -/
def srcFixed (s : Nat) : Bool := s == 0x002 || s == 0x007 || s == 0x01C || s == 0x01D

/-- The class of a source: 3 acts as 2 (R427). -/
def State.srcClass (s : State) (src : Nat) : Nat := if srcFixed src then 2 else min 2 (s.fget (FLT_SRCs_CLASS src))

/-- The effective class of a message (R411). -/
def State.effClass (s : State) (m : FaultMsg) : Nat := max (s.srcClass m.src) m.named

/-! ### Persistence (R415) -/

/-- The station that pipeline `p` serves: the spare pipeline serves the station whose SERVED_X is set. -/
def State.pipeStn (s : State) (p : Nat) : Nat :=
  if p = 6 then ((List.range 6).find? (fun n => s.bit (STNn_PL_STATUS_SERVED_X n))).getD 0 else p

/-- Whether the cause of a message still persists (R415): the flag that its kind left in its block is set, or the lasting condition that
it names holds. -/
def State.persists (s : State) (src kind detail : Nat) : Bool :=
  let n := (src - 0x140) / 2
  let x := (src - 0x160) / 2
  let st := src - 0x068
  let p := s.pipeStn (src - 0x060)
  if kind = 0 then false
  else if src = 0x001 then s.bit THM_STATUS_SENSOR_BAD
  else if src = 0x002 then s.bit THM_STATUS_TRIP_ACT
  else if src = 0x003 then kind == 1 && !s.bit SYS_STATUS_BACKUP_OK
  else if src = 0x004 then
    (kind == 1 && (s.fget SYS_CLK_LOSS_SEEN).testBit detail) || (kind == 2 && s.bit SYS_CLK_REF_LOST_SEEN) || (kind == 3 && s.bit SYS_CLK_XT32_FAIL)
  else if src = 0x006 then kind == 1 && s.bit LEDG_STATUS_DECLARE_REFUSED
  else if src = 0x008 then kind == 1 && s.led.sheets.any (fun sh => sh.tooSmall && !sh.st.isFinal)
  else if src = 0x00A then (kind == 2 && s.bit (CAPk_STATUS_OVF detail)) || (kind == 4 && s.bit TIME_STATUS_STEP_REFUSED)
  else if src = 0x00D then
    match kind with
    | 1 => s.bit RAIL_STATUS_THAW_FAIL
    | 2 => s.bit RAIL_STATUS_RAIL_UNSTABLE
    | 3 => s.bit RAIL_STATUS_FROST_STUCK
    | 4 => s.bit RAIL_STATUS_RAIL_LOST
    | 5 => s.bit RAIL_STATUS_LINK_ERR
    | _ => s.bit RAIL_STATUS_THAW_FAIL
  else if src = 0x00E then
    match kind with
    | 1 => s.bit (LOOPn_STATUS_SAT_STATE detail)
    | 2 => s.bit (LOOPn_STATUS_SAT_OUT detail)
    | 3 => s.bit (LOOPn_STATUS_SAT_ACC detail)
    | 4 => s.bit (LOOPn_STATUS_OVF_IN detail)
    | 5 => s.bit (LOOPn_STATUS_REFUSED detail)
    | 6 => s.bit (LOOPn_STATUS_LATE detail)
    | _ => s.fget (LOOPn_STATUS_CFG detail) != 0
  else if src = 0x00F then kind == 3 && s.bit SYS_HO_RX_LEVEL_RX_OVF
  else if src = 0x010 then s.bit MEMI_STATUS_REMAP_FULL
  else if src = 0x011 ∨ src = 0x012 then decide (2 < kind) && s.bit DRAMC_STATUS_TEMP_HIGH
  else if 0x018 ≤ src ∧ src ≤ 0x01B then kind == 1 && s.bit (MEMI_LEAKc_OVF (src - 0x018))
  else if src = 0x01E then
    match kind with
    | 1 => s.bit PPOS_STATUS_ENC_LOST
    | 2 => s.bit PPOS_STATUS_OVERSPEED
    | _ => s.bit PPOS_STATUS_CFG_ERR
  else if 0x020 ≤ src ∧ src ≤ 0x02F then s.bit (DMAn_STATUS_HALTED (src - 0x020))
  else if 0x060 ≤ src ∧ src ≤ 0x066 then
    match kind with
    | 1 => s.bit (STNn_PL_STATUS_TILE_ERR p)
    | 2 => s.bit (STNn_PL_STATUS_LATE p)
    | 3 => s.bit (STNn_PL_STATUS_SLOW p)
    | 4 => s.bit (STNn_TBL_STATUS_REFUSED p)
    | 5 => s.bit (STNn_PL_STATUS_SHIM_CLAMP p)
    | 6 => (s.stnOf p).failed
    | _ => false
  else if 0x068 ≤ src ∧ src ≤ 0x06D then
    match kind with
    | 0x10 => s.bit (STNn_SC_STATUS_SOS_MISS st)
    | 0x11 => s.bit (STNn_SC_STATUS_LOST st)
    | 0x12 => s.bit (STNn_SC_STATUS_SLIP st)
    | 0x13 => if s.isBar st then s.bit (STNn_BR_STATUS_PIX_UNLOCK_SEEN st) else s.bit (STNn_SC_STATUS_PIX_UNLOCK_SEEN st)
    | 0x14 => s.bit (STNn_SC_STATUS_EOS_MISS st)
    | 0x15 => s.bit (STNn_SC_STATUS_BEAM_DEAD st)
    | 0x16 => s.fget (cfgField s st) != 0
    | 0x18 => s.bit (STNn_BR_STATUS_OVERRUN st)
    | 0x19 => s.bit (STNn_BR_STATUS_FAIL_NEW st)
    | 0x20 => s.bit (STNn_HD_STATUS_WARN st)
    | 0x21 => s.bit (STNn_HD_STATUS_HOT st)
    | 0x22 => s.fget (STNn_HD_STATUS_HREC_ERR st) != 0
    | 0x23 => if detail = 2 then s.bit (STNn_HD_STATUS_TH_STALE st) else s.bit (STNn_HD_STATUS_HEAD_FAULT st)
    | _ => false
  else if 0x080 ≤ src ∧ src < 0x140 then s.bit (STNn_BR_LANEl_FAILED ((src - 0x080) / 0x20) ((src - 0x080) % 0x20))
  else if 0x140 ≤ src ∧ src < 0x150 then
    match kind with
    | 0x01 => s.bit (DRVn_STATUS_START_FAIL n)
    | 0x03 => s.bit (DRVn_STATUS_OVERCURRENT n)
    | 0x04 => s.bit (DRVn_STATUS_ENC_LOST n)
    | 0x05 => s.fget (DRVn_STATUS_CFG n) != 0
    | 0x10 => s.bit (DRVn_STATUS_ENC_LOST n)
    | 0x11 => s.bit (DRVn_STATUS_OBS_LOST_SEEN n)
    | 0x12 => s.bit (DRVn_STATUS_KE_BAD n)
    | _ => false
  else if 0x160 ≤ src ∧ src < 0x188 then
    match kind with
    | 0x01 => s.bit (AXSn_STATUS_STALL x)
    | 0x02 => s.bit (AXSn_STATUS_HOME_FAIL x)
    | 0x03 => s.bit (AXSn_STATUS_HOME_FAIL x)
    | 0x04 => s.fget (AXSn_STATUS_CFG x) != 0
    | 0x10 => s.bit (AXSn_STATUS_LIMIT_HIT x)
    | 0x11 => s.bit (AXSn_STATUS_OVERSHOOT x)
    | 0x12 => s.bit (AXSn_STATUS_LAG x)
    | _ => false
  else if 0x1A0 ≤ src ∧ src ≤ 0x1A4 then kind == 2 && s.bit (ADCc_STATUS_REF_BAD (src - 0x1A0))
  else if src = 0x1B0 then (kind == 1 && s.bit REC_STATUS_GAP) || (kind == 3 && s.bit REC_STATUS_DIVERGED)
  else if src = 0x1B1 then kind == 3 && s.bit UPD_STATUS_TOKEN_FAIL
  else if src = 0x1E0 ∨ src = 0x1E1 then kind == 1 && s.bit (FUSf_STATUS_FLT_SEEN (src - 0x1E0))
  else false

/-- PERSIST of a source: a cause of a message since STATUS was last clear persists (R415). -/
def State.srcPersists (s : State) (src : Nat) : Bool :=
  ((kvGet s.flt.kinds src).getD []).any (fun k => s.persists src k.1 k.2)

/-! ### The queue (R422) -/

/-- An entry is queued, or lost where the queue is full (R422). -/
def State.enqueue (s : State) (src kind detail cls : Nat) (esc : Bool) : State :=
  if 128 ≤ s.flt.queue.length then
    { (s.flag FLT_STATUS_Q_OVF).fsat FLT_Q_LEVEL_LOST_TOTAL 1 with flt := { s.flt with lost := min 65535 (s.flt.lost + 1), owed := true } }
  else
    let t := s.now.toNat
    let e := [src * 2 ^ 22 + kind * 2 ^ 16 + detail,
              s.flt.lost * 2 ^ 16 + s.fget (FLT_SRCs_COUNT src) * 2 ^ 8 + (if esc then 8 else 0) + (if kind = 0 then 4 else 0) + cls,
              t % 2 ^ 32, t / 2 ^ 32]
    let s1 := { s with flt := { s.flt with queue := s.flt.queue ++ [e], lost := 0 } }
    if s.flt.queue.isEmpty then s1.fltEvent 3 else s1

/-- B_PENDING and the TIMER bit of a source follow its grace timer (R413). -/
def State.setGrace (s : State) (src : Nat) (g : Option Grace) : State :=
  let m := match g with | some g => kvSet s.flt.grace src g | none => kvDel s.flt.grace src
  { s.fsets [(FLT_STATUS_B_PENDING, if m.isEmpty then 0 else 1), (FLT_SRCs_TIMER src, if g.isSome then 1 else 0)] with
    flt := { s.flt with grace := m } }

/-- The grace time of a source in TB ticks (R413, R427). -/
def State.graceTicks (s : State) (src : Nat) : Nat := usTicks (max 1 (min 1000000 (s.fget (FLT_GRACEs_GRACE src))))

/-! ### The safe state (R417 to R420) -/

/-- The imaging region's outputs and request bits (R417 to R419). -/
def State.safeImaging (s : State) : State :=
  (List.range 6).foldl (fun s n =>
    let s1 := s.fset (if s.isBar n then STNn_BR_CTRL_EXP_EN_REQ n else STNn_SC_CTRL_LD_EN_REQ n) 0
    if (s1.stnOf n).bar.exposeAt.isSome then s1.modStn n (fun t => { t with bar := { t.bar with exposeAt := none } }) else s1) s

/-- The control region's outputs and request bits, and the descriptors that drive them (R333, R417 to R419). -/
def State.safeControl (s : State) : State :=
  let s1 := (List.range 8).foldl (fun s n => s.drvSafe n) s
  let s2 := (List.range 20).foldl (fun s n => s.axsSafe n) s1
  let s3 := (List.range 32).foldl (fun s k => (s.fset (HVOk_CTRL_EN k) 0).hvoLow k) s2
  let s4 := ((s3.fuserStop.fusSetEn 0 false).fusSetEn 1 false).fset FUS_CTRL_FUSER_EN_REQ 0
  let s5 := (List.range 64).foldl (fun s n => s.loopSafe n) s4
  if s5.bit RAIL_CTRL_SAFE_FROST then s5.frostCause 2 else s5

/-- The scope that a source's class C message starts (R419): 1 full, 2 imaging region, 3 control region. -/
def scopeOf (src : Nat) : Nat := if src = 0x01C then 2 else if src = 0x01D then 3 else 1

/-- The sheets that a safe state of a scope fails (R18, R418). -/
def failsUnder (scope : Nat) (sh : Sheet) : Bool := if scope = 2 then !sh.allExposed else true

/-- Outputs and sheets of a scope, for the outputs that `had`, the scope before, left untouched (R417 to R419). -/
def State.safeAct (s : State) (scope had : Nat) : State :=
  let s1 := if scope ≠ 3 ∧ had ≠ 2 then s.safeImaging else s
  let s2 := if scope ≠ 2 ∧ had ≠ 3 then s1.safeControl else s1
  ((s2.failAll (failsUnder scope) 5 s2.safeDetail).revertAll).fltEvent 1

/-- A class C message or an expiry enters the safe state, or widens a region's scope (R419, R420). -/
def State.safeEnter (s : State) (src kind detail : Nat) : State :=
  let had := s.fget FLT_STATUS_SCOPE
  if s.bit FLT_STATUS_SAFE = false then
    let t := s.now.toNat
    (s.fsets [(FLT_STATUS_SAFE, 1), (FLT_STATUS_SCOPE, scopeOf src), (FLT_SAFE_SAFE_SRC, src), (FLT_SAFE_SAFE_KIND, kind),
      (FLT_SAFE_DETAIL_SAFE_DETAIL, detail), (FLT_SAFE_TIME_LO_TIME, t), (FLT_SAFE_TIME_HI_TIME, t / 2 ^ 32)]).safeAct (scopeOf src) 0
  else if had = 1 ∨ scopeOf src = had then s
  else (s.fset FLT_STATUS_SCOPE 1).safeAct 1 had

/-! ### Arrival (R409, R412 to R414) -/

/-- The collector takes a message (R411 to R414). -/
def State.collect (s : State) (m : FaultMsg) : State :=
  let eff := s.effClass m
  let was := s.bit (FLT_SRCs_STATUS m.src)
  let old := s.fget (FLT_SRCs_EFF m.src)
  let ks := if was then (kvGet s.flt.kinds m.src).getD [] else []
  let s1 := s.fsets [(FLT_SRCs_STATUS m.src, 1), (FLT_SRCs_EFF m.src, if was then max old eff else eff), (FLT_SRCs_LAST_KIND m.src, m.kind),
    (FLT_SRCs_COUNT m.src, min 255 (s.fget (FLT_SRCs_COUNT m.src) + 1))]
  let s2 := { s1 with flt := { s1.flt with
    kinds := kvSet s1.flt.kinds m.src (if ks.contains (m.kind, m.detail) then ks else ks ++ [(m.kind, m.detail)]) } }
  let s3 := s2.enqueue m.src m.kind m.detail eff false
  let s4 := if s.fget REC_CFG_TRIG_CLASS ≠ 3 ∧ s.fget REC_CFG_TRIG_CLASS ≤ eff then s3.trigger 2 else s3
  if eff = 1 then
    let s5 := s4.fltEvent 0
    if was = false ∨ old = 0 then s5.setGrace m.src (some ⟨s.tick + s.graceTicks m.src, m.kind, m.detail⟩) else s5
  else if eff = 2 then (s4.setGrace m.src none).safeEnter m.src m.kind m.detail
  else s4

/-- FAULT_MESSAGE_ARRIVAL (R409, R412): the oldest message on its way arrives. -/
def execFaultMessageArrival (s : State) : Host.Outcome State Fault Refusal :=
  .next (match s.faultQ with
    | m :: rest => { s with faultQ := rest }.collect m
    | [] => s)

/-- GRACE_EXPIRY (R413, R414, R420): the source escalates. -/
def execGraceExpiry (src : Nat) (s : State) : Host.Outcome State Fault Refusal :=
  .next (match kvGet s.flt.grace src with
    | some g =>
      if g.until_ ≤ s.tick then
        let s1 := (s.setGrace src none).fsets [(FLT_SRCs_ESCALATED src, 1), (FLT_SRCs_EFF src, 2)]
        (s1.enqueue src g.kind g.detail 2 true).safeEnter src g.kind g.detail
      else s
    | none => s)

/-- A write of 1 to a source's STATUS (R413, R415). -/
def State.srcClear (s : State) (src : Nat) : State :=
  let s1 := s.setGrace src none
  if s1.bit (FLT_SRCs_STATUS src) = false then s1
  else if s1.srcPersists src then s1.flag FLT_STATUS_CLEAR_REFUSED
  else { s1.fsets [(FLT_SRCs_STATUS src, 0), (FLT_SRCs_ESCALATED src, 0)] with flt := { s1.flt with kinds := kvDel s1.flt.kinds src } }

/-- FLT_STATUS_CLEAR (R415). -/
def execFltStatusClear (src : Nat) (s : State) : Host.Outcome State Fault Refusal := onUnit (srcExists src) (s.srcClear src)

/-- A write of 1 to CLEAR (R420): a source with STATUS set at class C, a request wire, or TRIP_ACT refuses it. A scan station tracks
again as from LOST. -/
def State.safeClear (s : State) : State :=
  if s.bit FLT_STATUS_SAFE = false then s
  else if (List.range 1024).any (fun src => s.bit (FLT_SRCs_STATUS src) && s.fget (FLT_SRCs_EFF src) == 2)
      ∨ s.faultQ.any (fun m => s.effClass m == 2) ∨ s.bit THM_STATUS_TRIP_ACT then s.flag FLT_STATUS_CLEAR_REFUSED
  else
    let img := s.safeImg
    let s1 := ((s.fsets [(FLT_STATUS_SAFE, 0), (FLT_STATUS_SCOPE, 0)]).fltEvent 2).replaceTasks
    if img then
      (List.range 6).foldl (fun s n =>
        if s.isBar n = false ∧ s.bit (STNn_SC_CTRL_SC_EN n) then
          (s.fsets [(STNn_SC_STATUS_LOST n, 1), (STNn_SC_STATUS_TRACKING n, 0)]).modScan n (fun t => { t with good := 0 })
        else s) s1
    else s1

/-- CLEAR (R420). -/
def execClearEv (s : State) : Host.Outcome State Fault Refusal := .next s.safeClear

/-- A write of 1 to FORCE (R421): reserved sources send nothing (R410). -/
def State.force (s : State) (src : Nat) : State :=
  if srcExists src then s.sendFault src 0 (s.fget FLT_FORCE_DETAIL_DETAIL) else s

/-- FORCE (R421). -/
def execForceEv (src : Nat) (s : State) : Host.Outcome State Fault Refusal := onUnit (srcExists src) (s.force src)

/-- COUNT_CLR (R415). -/
def execCountClr (src : Nat) (s : State) : Host.Outcome State Fault Refusal := onUnit (srcExists src) (s.fset (FLT_SRCs_COUNT src) 0)

/-- A read of FLT_Q_W0 (R422): the oldest entry leaves the queue and its words are captured. -/
def State.fltPop (s : State) : State :=
  match s.flt.queue with
  | [] => s.capture [(FLT_Q_Ww_WORD 0, 0), (FLT_Q_Ww_WORD 1, 0), (FLT_Q_Ww_WORD 2, 0), (FLT_Q_Ww_WORD 3, 0)]
  | e :: rest =>
    { s with flt := { s.flt with queue := rest } }.capture
      ((List.range 4).map (fun w => (FLT_Q_Ww_WORD w, e.getD w 0)))

/-- FLT_QUEUE_READ (R422). -/
def execFltQueueRead (s : State) : Host.Outcome State Fault Refusal := .next s.fltPop

/-- QUEUE_OVF (R422): space is free again; the collector's message carries the number lost. -/
def execQueueOvf (s : State) : Host.Outcome State Fault Refusal :=
  .next (if s.flt.owed ∧ s.flt.queue.length < 128 then
      { s with flt := { s.flt with owed := false } }.collect ⟨0x000, 0x01, s.flt.lost, 0⟩
    else s)

/-! ### THM (R423 to R426) -/

/-- m of R424 and R426. -/
def State.mult (s : State) : Nat :=
  let o := s.fget THM_MULT_OVR_MULT_OVR
  if s.bit THM_STATUS_SENSOR_BAD then (if o = 0 then s.fget THM_M_MULT else max 10000 (min 20000 o))
  else
    let d := sext 32 (s.fget THM_TEMP_TEMP) - sext 16 (s.fget THM_T_THR_T_THR)
    if d ≤ 0 then 10000
    else min (max 10000 (min 20000 (s.fget THM_M_M_MAX))) (10000 + s.fget THM_K_K * d.toNat / 100)

/-- MULT and THROTTLING follow m; a change of THROTTLING is an event (R424, R428). -/
def State.thmUpdate (s : State) : State :=
  let m := s.mult
  let s1 := s.fset THM_M_MULT m
  if 10000 < m then (if s.bit THM_STATUS_THROTTLING then s1 else (s1.fset THM_STATUS_THROTTLING 1).thmEvent 0)
  else if s.bit THM_STATUS_THROTTLING then (s1.fset THM_STATUS_THROTTLING 0).thmEvent 1 else s1

/-- A reading that is not good (R426): the third in a row sets SENSOR_BAD. -/
def State.thmBad (s : State) (cause : Nat) : State :=
  let s1 := { s with flt := { s.flt with badRun := s.flt.badRun + 1, goodRun := 0 } }
  if s1.flt.badRun < 3 ∨ s.bit THM_STATUS_SENSOR_BAD then s1
  else (((s1.fsets [(THM_STATUS_SENSOR_BAD, 1), (THM_STATUS_BAD_CAUSE, cause), (THM_STATUS_TRIP_EN, 0)]).sendFault 0x001 0x01 cause).thmEvent 2).thmUpdate

/-- A good reading (R423): TEMP is the mean of the last 16; its rounding is not stated (log entry 2). -/
def State.thmGood (s : State) (t : Int) : State :=
  let s1 := { s with flt := { s.flt with badRun := 0, goodRun := s.flt.goodRun + 1 } }
  if s.bit THM_STATUS_SENSOR_BAD then s1
  else
    let l := (t :: s.flt.temps).take 16
    ({ s1 with flt := { s1.flt with temps := l } }.fset THM_TEMP_TEMP (uint 32 (quotOpen (l.foldl (· + ·) 0) l.length))).thmUpdate

/-- THERMAL_READING (R423, R426). -/
def execThermalReading (r : Diode) (s : State) : Host.Outcome State Fault Refusal :=
  .next (match r with
    | .good t =>
      let s1 := s.fset THM_LAST_LAST (uint 16 t)
      if t < -5000 ∨ 15000 < t then s1.thmBad 3 else s1.thmGood t
    | .bad cause v => (s.fset THM_LAST_LAST (uint 16 v)).thmBad cause)

/-- TRIP (R425): the comparator trips while it is enabled. -/
def execTripEv (s : State) : Host.Outcome State Fault Refusal :=
  .next (if s.bit THM_STATUS_TRIP_EN = false ∨ s.bit THM_STATUS_TRIP_ACT then s
    else ((s.fset THM_STATUS_TRIP_ACT 1).sendFaultC 0x002 0x01 (uint 16 ((sext 32 (s.fget THM_TEMP_TEMP)).tdiv 100)) 2).thmEvent 3)

/-- TRIP_RELEASE (R425). -/
def execTripRelease (s : State) : Host.Outcome State Fault Refusal := .next (s.fset THM_STATUS_TRIP_ACT 0)

/-- A write of 1 to SENSOR_BAD (R426). -/
def State.sensorClear (s : State) : State :=
  if s.bit THM_STATUS_SENSOR_BAD = false then s
  else if s.flt.goodRun < 3 then s.flag THM_STATUS_CLEAR_REFUSED
  else
    let s1 := s.fsets [(THM_STATUS_SENSOR_BAD, 0), (THM_STATUS_BAD_CAUSE, 0), (THM_STATUS_TRIP_EN, 1)]
    ({ s1 with flt := { s1.flt with temps := [] } }.thmEvent 4).thmUpdate

/-- SENSOR_BAD_CLEAR (R426). -/
def execSensorBadClear (s : State) : Host.Outcome State Fault Refusal := .next s.sensorClear

end Sys2Proof.Machine
end

