-- ==== Sys2Proof/Machine/Power.lean ====
section
/-! DEFINITION. Supplies, clocks, reset and the always-on domain (R371 to R391), and package faults (R21). -/

namespace Sys2Proof.Machine

/-- The sources of the supply and of the clocks (R410). -/
def supplySrc : Nat := 0x003
def clockSrc : Nat := 0x004

/-! ### Reset (R385 to R387, R390) -/

/-- The reset is released: nothing is left to flush and RESET_N is high (R386). -/
def State.released (s : State) : Bool := decide (s.power.phase = .reset) && s.jrn.staged.isEmpty && !s.power.pinLow

/-- A reset (R386): RAIL starts FROST and is excluded until it ends (R399); everything but the AON domain is reset; the flush of the staged
records goes on. -/
def State.enterReset (s : State) (cause : Nat) : State :=
  let s1 := if cause = 1 ∨ cause = 7 then s else s.frostCause 4
  let frost := decide (rFrostChain ≤ s1.railState)
  let s2 := s1.powerDown (fun a => frost && railAddr a)
  let s3 := if frost then { s2.fset RAIL_STATUS_THAW_PEND 0 with rail := { s2.rail with resetAtEnd := true } } else s2
  let pw : Power := { s3.power with phase := .reset, bkLowAt := s.tick, flushLost := false, bootAt := s.tick, hb := false }
  { s3.fset SYS_RESET_CAUSE_CAUSE cause with power := pw }

/-- A boot has failed (R390). -/
def State.bootFailed (s : State) : State := s.fsat SYS_RESET_CAUSE_BOOT_FAILS 1

/-- A cause of 2 to 6 arises (R385, R387, R390): it is ignored in backup operation (R376), and nothing but the AON domain is powered in
hibernate; during the flush the lowest code is recorded; a boot that it meets has failed. -/
def State.resetEv (s : State) (cause : Nat) : State :=
  match s.power.phase with
  | .backup _ _ => s
  | .hibernate _ => s
  | .reset =>
    if s.released then (s.enterReset cause).bootFailed
    else s.fset SYS_RESET_CAUSE_CAUSE (min cause (s.fget SYS_RESET_CAUSE_CAUSE))
  | .recovery => s.enterReset cause
  | .run => s.enterReset cause

/-- POR (R385): the AON domain starts without valid state; the step of the flush is skipped (R386). The flash keeps what it holds. -/
def execPorEv (s : State) : Host.Outcome State Fault Refusal :=
  let d := s.powerDown (fun _ => false)
  let r := State.reset
  let pw : Power := { r.power with pinLow := s.power.pinLow, bootAt := s.tick, bkLowAt := s.tick }
  .next { d with fields := [], aonQ := [], jrn := { d.jrn with staged := [] }, rail := r.rail, power := pw }

/-- RESET_PIN (R385, R386): RESET_N low for 1 µs resets with cause PIN and holds the controller until it rises. -/
def execResetPin (low : Bool) (s : State) : Host.Outcome State Fault Refusal :=
  .next (if low then
      if s.power.pinLow then s
      else let t := s.resetEv 5
           { t with power := { t.power with pinLow := true } }
    else
      { s with power := { s.power with pinLow := false, bootAt := if s.power.phase = .reset then s.tick else s.power.bootAt } })

/-- SOFT_RESET (R385): GO with another key is refused. -/
def State.softReset (s : State) (key : Nat) : State :=
  if s.power.phase ≠ .run then s else if key = 0xC1EA then s.resetEv 6 else s.flag SYS_STATUS_WRITE_REFUSED

/-- SOFT_RESET (R385). -/
def execSoftReset (key : BitVec 16) (s : State) : Host.Outcome State Fault Refusal := .next (s.softReset key.toNat)

/-- WATCHDOG (R388): a package fault. -/
def execWatchdogEv (s : State) : Host.Outcome State Fault Refusal := .next (s.resetEv 4)

/-- PACKAGE_FAULT (R21): the class C safe state, then a reset; the journal decides the sheets' outcomes (R51). -/
def execPackageFault (s : State) : Host.Outcome State Fault Refusal := .next (s.resetEv 3)

/-- RAIL_UNDERVOLTAGE (R374): of VCORE, VDD1, VDD2H, VDDQ, VIO18 or VANA while VMAIN is selected; VAON has no level. -/
def execRailUndervoltage (rail : Nat) (s : State) : Host.Outcome State Fault Refusal :=
  onUnit (rail < 6) (if s.onVback then s else s.resetEv 2)

/-- BOOT_FAIL (R390): 2 s after the release of reset BOOT_DONE is not set; the boot starts again. -/
def execBootFail (s : State) : Host.Outcome State Fault Refusal :=
  .next (if s.released ∧ s.power.bootAt + msTicks 2000 ≤ s.tick then
      let t := s.bootFailed
      { t with power := { t.power with bootAt := t.tick } }
    else s)

/-! ### Supplies (R371 to R374, R376) -/

/-- VMAIN has been above 2.75 V for 10 ms (R378). -/
def State.vmainSteady (s : State) : Bool :=
  match s.power.vmainSince with
  | some t => decide (t + msTicks 10 ≤ s.tick)
  | none => false

/-- The registers that backup operation keeps until the flush ends: RAIL and TIME (R356, R376). -/
def keepBackup (a : Nat) : Bool := railAddr a || timeAddr a

/-- Backup operation begins (R372, R373, R376): the state at the switch-over is latched, every output falls, engines, MACs and the host link
stop, and FROST starts. -/
def State.enterBackup (s : State) : State :=
  let bk := s.fget SYS_STATUS_BACKUP_OK
  let deg := s.fget LEDG_STATUS_GUARANTEE_DEGRADED
  let s1 := (s.fset RAIL_STATUS_THAW_PEND 0).frostCause 3
  let s2 := s1.powerDown keepBackup
  let s3 := s2.fsets [(SYS_RESET_CAUSE_BK_AT_LOSS, bk), (SYS_RESET_CAUSE_DEG_AT_LOSS, deg), (SYS_RESET_CAUSE_FLUSH_DONE, 0),
    (SYS_STATUS_BACKUP_OK, bk)]
  { s3 with power := { s3.power with phase := .backup false false, flushLost := false } }.flushEnd

/-- VMAIN_FAIL (R371, R372, R387): VMAIN below 2.62 V ± 30 mV. In backup operation, and in hibernate, only the supply switches. -/
def execVmainFail (mv : Nat) (s : State) : Host.Outcome State Fault Refusal :=
  .next (if 2650 ≤ mv then s else
    let s1 := match s.power.phase with
      | .hibernate _ => s
      | .backup true false => s.enterBackup
      | .backup true true => { s with power := { s.power with phase := .backup false true } }
      | .backup false _ => s
      | _ => s.enterBackup
    { s1.fsets [(SYS_STATUS_ON_VBACK, 1), (SYS_STATUS_VMAIN_OK, 0), (SYS_SUPPLY_VMAIN, mv)] with
      power := { s1.power with vmainSince := none } })

/-- A software hibernate ends at a latched wake event once VMAIN is above 2.75 V (R380). -/
def State.wakeUp (s : State) : State :=
  if s.power.phase = .hibernate true ∧ s.power.wakes ≠ 0 ∧ s.power.vmainSince.isSome then
    let w := s.power.wakes
    ({ s with power := { s.power with wakes := 0 } }.fsets [(SYS_WAKE_SRC_WAKE, w % 16), (SYS_WAKE_SRC_ALARM, w / 16)]).enterReset 7
  else s

/-- VMAIN_RETURN (R371, R372): VMAIN above 2.75 V ± 30 mV; the supply switches back, backup operation goes on. -/
def execVmainReturn (mv : Nat) (s : State) : Host.Outcome State Fault Refusal :=
  .next (if mv ≤ 2720 ∨ s.power.vmainSince.isSome then s else
    ({ s.fsets [(SYS_STATUS_ON_VBACK, 0), (SYS_STATUS_VMAIN_OK, 1), (SYS_SUPPLY_VMAIN, mv)] with
      power := { s.power with vmainSince := some s.tick } }).wakeUp)

/-- BACKUP_OK changes (R373): LEDG shows it too; while the controller runs a message tells of it, and GUARANTEE_DEGRADED follows (R55). -/
def State.setBackupOk (s : State) (ok : Bool) (vback : Nat) : State :=
  if s.bit SYS_STATUS_BACKUP_OK = ok then s else
  let v := if ok then 1 else 0
  let s1 := s.fsets [(SYS_STATUS_BACKUP_OK, v), (LEDG_STATUS_BACKUP_OK, v)]
  if s1.power.phase = .run then
    (if ok then (s1.sendFree supplySrc 0x02).1 else s1.sendFault supplySrc 0x01 (vback / 10)).degradedUpdate
  else s1

/-- BK_MIN is clamped into its range (R373). -/
def State.bkMin (s : State) : Nat := max 2900 (min 5500 (s.fget SYS_BK_MIN_BK_MIN))

/-- BACKUP_SAMPLE (R373, R376): the AON monitor samples VBACK; SYS_SUPPLY shows both inputs. -/
def execBackupSample (vmain vback : Nat) (s : State) : Host.Outcome State Fault Refusal :=
  .next (match s.power.phase with
    | .hibernate _ => s
    | .backup _ done =>
      if done = false ∧ vback < 2700 then { s with power := { s.power with flushLost := true } } else s
    | _ =>
      let s1 := s.fsets [(SYS_SUPPLY_VMAIN, vmain), (SYS_SUPPLY_VBACK, vback)]
      let up := !s1.onVback && (s1.power.vmainSince.isSome || decide (2750 < vmain))
      let s2 := { s1.fset SYS_STATUS_VMAIN_OK (if up then 1 else 0) with
        power := { s1.power with vmainSince := if up then some (s1.power.vmainSince.getD s1.tick) else s1.power.vmainSince
                                 bkLowAt := if vback < s1.bkMin + 50 then s1.tick else s1.power.bkLowAt } }
      if vback < s2.bkMin then s2.setBackupOk false vback
      else if s2.bit SYS_STATUS_BACKUP_OK = false ∧ s2.bkMin + 50 ≤ vback ∧ s2.power.bkLowAt + msTicks 100 ≤ s2.tick then
        s2.setBackupOk true vback
      else s2)

/-! ### Hibernate (R378 to R380) -/

/-- FROST_END_DECISION (R378, R380): the flush and FROST have ended. -/
def execFrostEndDecision (s : State) : Host.Outcome State Fault Refusal :=
  .next (match s.power.phase with
    | .backup soft true =>
      if s.railState ≠ rOff then s
      else if soft = false ∧ s.vmainSteady then s.enterReset 1
      else
        let d := s.powerDown (fun _ => false)
        { d with power := { d.power with phase := .hibernate soft } }
    | _ => s)

/-- HIBERNATE_REQUEST (R380): it is refused unless the controller is at rest; accepted, the journal is flushed and FROST runs. -/
def State.hibernate (s : State) (key : Nat) : State :=
  if s.power.phase ≠ .run then s
  else if s.anyActive = true ∨ (List.range 8).any (fun n => s.bit (DRVn_CTRL_ENABLE n)) = true
      ∨ (List.range 20).any (fun n => s.bit (AXSn_CTRL_ENABLE n)) = true ∨ s.bit FUS_CTRL_FUSER_EN_REQ = true ∨ key ≠ 0x1BE5 then
    s.flag SYS_STATUS_HIB_REFUSED
  else
    let s1 := (s.fset SYS_RESET_CAUSE_FLUSH_DONE 0).frostCause 5
    { s1 with power := { s1.power with phase := .backup true false, flushLost := false } }.flushEnd

/-- HIBERNATE_REQUEST (R380). -/
def execHibernateRequest (key : BitVec 16) (s : State) : Host.Outcome State Fault Refusal := .next (s.hibernate key.toNat)

/-- A wake event (R380) ends a software hibernate, or is latched while VMAIN is low. -/
def State.wakeEvent (s : State) (b : Nat) : State :=
  if s.power.phase = .hibernate true then
    { s with power := { s.power with wakes := if s.power.wakes.testBit b then s.power.wakes else s.power.wakes + 2 ^ b } }.wakeUp
  else s

/-- WAKE_INPUT (R380): an input has been held for 1 ms at the level that POL gives. -/
def execWakeInput (k : Nat) (s : State) : Host.Outcome State Fault Refusal :=
  onUnit (k < 4) (if (s.fget SYS_WAKE_CFG_EN).testBit k then s.wakeEvent k else s)

/-- The RTC and its alarm (R381). -/
def State.rtc (s : State) : Nat := s.fget SYS_RTC_LO_SEC + 2 ^ 32 * (s.fget SYS_RTC_HI_SEC % 2 ^ 16)
def State.rtcAlarm (s : State) : Nat := s.fget SYS_ALARM_LO_SEC + 2 ^ 32 * (s.fget SYS_ALARM_HI_SEC % 2 ^ 16)

/-- ALARM (R380, R381). -/
def execAlarmEv (s : State) : Host.Outcome State Fault Refusal :=
  .next (if s.bit SYS_WAKE_CFG_ALARM_EN = true ∧ s.rtc = s.rtcAlarm then s.wakeEvent 4 else s)

/-- HIBERNATE_EXIT_POWER (R378). -/
def execHibernateExitPower (s : State) : Host.Outcome State Fault Refusal :=
  .next (if s.power.phase = .hibernate false ∧ s.vmainSteady = true then s.enterReset 1 else s)

/-- The RTC's words. -/
def State.rtcPut (s : State) (sec : Nat) : State := s.fsets [(SYS_RTC_LO_SEC, sec), (SYS_RTC_HI_SEC, sec / 2 ^ 32 % 2 ^ 16)]

/-- A SET waits for the RTC's next whole second (R381). -/
def State.rtcLoad (s : State) : State :=
  { s with power := { s.power with rtcNext := some (s.fget SYS_RTC_SET_LO_SEC + 2 ^ 32 * (s.fget SYS_RTC_SET_HI_SEC % 2 ^ 16)) } }

/-- RTC_SET (R381). -/
def execRtcSet (s : State) : Host.Outcome State Fault Refusal := .next s.rtcLoad

/-- RTC_SYNC (R381): at a whole minute of TIME_NOW while SYNC is LOCKED or MASTER. -/
def execRtcSync (s : State) : Host.Outcome State Fault Refusal :=
  .next (if s.net.timeOn = true ∧ s.inBackup = false ∧ s.timeSec % 60 = 0
      ∧ (s.fget TIME_STATUS_SYNC = syncLocked ∨ s.fget TIME_STATUS_SYNC = syncMaster) then
    s.rtcPut (s.timeSec % 2 ^ 48) else s)

/-- A write to an AON register completes (R29): BK_MIN is clamped, SET loads the RTC. -/
def State.aonApply (s : State) (a w : Nat) : State :=
  if a = SYS_RTC_CMD_SET.addr then (if w % 2 = 1 then s.rtcLoad else s)
  else
    let s1 := ((regFieldsAt a).getD []).foldl (fun s f =>
      if f.acc = .rw ∨ f.acc = .rws then s.fset f (f.part w) else s) s
    if a = SYS_BK_MIN_BK_MIN.addr then s1.fset SYS_BK_MIN_BK_MIN s1.bkMin else s1

/-- A stalled write still stands: its task, where it is a task's, still waits for it (R91). -/
def State.stalledOn (s : State) (e : Nat × Nat × Option Nat) : Bool :=
  match e.2.2 with
  | none => true
  | some i => match s.task? i with
    | some t => decide (t.stat = .waiting) && t.stall && t.access.isNone
    | none => false

/-- An entry of the queue has become free (R29, R95): the oldest stalled write enters it, and its writer goes on. -/
def State.wakeStalled (s : State) : State :=
  match s.aonWait.filter s.stalledOn with
  | [] => { s with aonWait := [] }
  | (a, w, task) :: rest =>
    let s1 := { s with aonQ := s.aonQ ++ [(a, w)], aonWait := rest }
    match task.bind (fun i => (s1.task? i).map (fun t => (i, t))) with
    | some (i, t) => s1.makeReady i { t with stall := false }
    | none => s1

/-- AON_WRITE_COMPLETE (R29): the oldest write of the queue; a stalled writer goes on. -/
def execAonWriteComplete (s : State) : Host.Outcome State Fault Refusal :=
  .next (match s.aonQ with
    | (a, w) :: rest => ({ s with aonQ := rest }.aonApply a w).wakeStalled
    | [] => s)

/-! ### Clocks (R382 to R384) -/

/-- A PLL loses its lock (R384): the lock bit falls and the loss bit is set. -/
def State.pllLoss (s : State) (k : Nat) : State :=
  s.fsets [(SYS_CLK_LOCK, setBit (s.fget SYS_CLK_LOCK) k false), (SYS_CLK_LOSS_SEEN, setBit (s.fget SYS_CLK_LOSS_SEEN) k true)]

/-- LOCK_LOST (R384): 0 SYS, 1 DRAM, 2 TB, 3 PCIe. -/
def execLockLost (k : Nat) (s : State) : Host.Outcome State Fault Refusal :=
  onUnit (k < 4) (if (s.fget SYS_CLK_LOCK).testBit k then (s.pllLoss k).sendFault clockSrc 0x01 k else s)

/-- PLL_RELOCK (R384): its reference is back; for SYS, DRAM and TB that is REF. -/
def execPllRelock (k : Nat) (s : State) : Host.Outcome State Fault Refusal :=
  onUnit (k < 4) (if s.power.phase = .run ∨ s.power.phase = .recovery then
    let s1 := s.fset SYS_CLK_LOCK (setBit (s.fget SYS_CLK_LOCK) k true)
    if k < 3 then s1.fset SYS_CLK_REF_OK 1 else s1
  else s)

/-- REF_LOST (R382, R384): the PLLs that run from REF lose their reference and coast. -/
def execRefLost (s : State) : Host.Outcome State Fault Refusal :=
  .next (if s.bit SYS_CLK_REF_OK then
    let s1 := (s.fset SYS_CLK_REF_OK 0).flag SYS_CLK_REF_LOST_SEEN
    (([0, 1, 2].foldl (fun s k => if (s.fget SYS_CLK_LOCK).testBit k then s.pllLoss k else s) s1).sendFree clockSrc 0x02).1
  else s)

/-- XT32_FAIL (R382, R384): the RTC goes on from the internal oscillator. -/
def execXt32Fail (s : State) : Host.Outcome State Fault Refusal :=
  .next (if s.bit SYS_CLK_XT32_FAIL then s else ((s.fset SYS_CLK_XT32_FAIL 1).sendFree clockSrc 0x03).1)

/-- HB_TOGGLE (R388): an edge at each whole multiple of 500 µs of TIME_NOW; low where a condition fails. -/
def execHbToggle (fresh : Bool) (s : State) : Host.Outcome State Fault Refusal :=
  .next (if s.power.phase = .run ∧ s.bit SYS_HB_HB_EN = true ∧ s.bit SYS_STATUS_BOOT_DONE = true ∧ fresh = true then
      if s.timeFx % (500000 * 2 ^ 24) < s.fget TIME_INC_INC then { s with power := { s.power with hb := !s.power.hb } } else s
    else { s with power := { s.power with hb := false } })

end Sys2Proof.Machine
end

