-- ==== Sys2Proof/Machine/Upd.lean ====
section
/-! DEFINITION. Images, slots, settings, tokens, the recovery paths, and wear (R429 to R444, R452 to R455). -/

namespace Sys2Proof.Machine

/-- The source of UPD (R410). -/
def updSrc : Nat := 0x1B1

/-! ### The slot table (R433) -/

/-- A change of the slot table programs the other copy with GEN + 1; the block of the older copy is then erased. -/
def State.tableChange (s : State) (f : UpdSt → UpdSt) : State :=
  { s with upd := { f s.upd with gen := s.upd.gen + 1, erasing := true } }

/-- A change that a token asks for is made. -/
def State.tableApply (s : State) : TableReq → State
  | .lock b => s.tableChange (fun u => { u with lock := b })
  | .debugFail => s.tableChange (fun u => { u with debugFails := u.debugFails + 1 })

/-- A change is asked for: while the erase of the older copy runs it waits for the end (R433). -/
def State.tableAsk (s : State) (c : TableReq) : State :=
  if s.upd.erasing then { s with upd := { s.upd with asked := s.upd.asked ++ [c] } } else s.tableApply c

/-- The erase has ended: the change that waits longest is made. -/
def State.eraseDone (s : State) : State :=
  match s.upd.asked with
  | c :: rest => { s with upd := { s.upd with erasing := false, asked := rest } }.tableApply c
  | [] => { s with upd := { s.upd with erasing := false } }

/-- SLOT_TABLE_ERASE_DONE (R433). -/
def execSlotTableEraseDone (s : State) : Host.Outcome State Fault Refusal := .next s.eraseDone

/-- A slot that holds an image, by its STATE. -/
def Slot.valid (x : Slot) : Bool := x.st != 0

/-! ### The settings store (R434) -/

/-- The last entry of a key wins. -/
def lastEntry (es : List (Nat × Nat)) (k : Nat) : Option Nat := (es.reverse.find? (fun e => e.1 == k)).map (fun e => e.2)

/-- The copy bound to a slot. -/
def State.areaOf (s : State) (b : Bool) : Option (Nat × Area) :=
  match (s.slot b).area with
  | some i => (kvGet s.upd.areas i).map (fun a => (i, a))
  | none => none

/-- A setting of the running copy. -/
def State.setGet (s : State) (k : Nat) : Option Nat := (s.areaOf s.runSlot).bind (fun a => lastEntry a.2.entries k)

/-- An area that no slot is bound to. -/
def State.freeArea (s : State) : Nat :=
  ((List.range 3).find? (fun i => s.upd.slotA.area != some i && s.upd.slotB.area != some i)).getD 0

/-- The entries of section 3 (R431): as those of a settings copy. -/
def defaults (img : List Byte) : List (Nat × Nat) :=
  (List.range ((sectionOf img 3).length / 8)).map (fun i => (le (sectionOf img 3) (8 * i) 4, le (sectionOf img 3) (8 * i + 4) 4))

/-- Entries with one entry for each key, the last. -/
def compacted : List (Nat × Nat) → List (Nat × Nat)
  | [] => []
  | e :: t => if t.any (fun f => f.1 == e.1) then compacted t else e :: compacted t

/-- A migrated copy (R435): section 4 of the new image, then the running copy's keys unchanged, then the defaults. -/
def migrated (img : List Byte) (old : List (Nat × Nat)) : List (Nat × Nat) :=
  let mine := (compacted old).map (fun e => (e.1, (Config.migrate (sectionOf img 4) e.1 e.2).getD e.2))
  mine ++ (compacted (defaults img)).filter (fun e => !mine.any (fun f => f.1 == e.1))

/-- Write a copy into a free area and bind it to a slot; the area bound before is erased. -/
def State.bindCopy (s : State) (b : Bool) (schema : Nat) (es : List (Nat × Nat)) : State :=
  let i := s.freeArea
  let areas := match (s.slot b).area with | some j => kvDel s.upd.areas j | none => s.upd.areas
  ({ s with upd := { s.upd with areas := kvSet areas i ⟨schema, s.upd.gen, if b then 1 else 0, es, false⟩ } }).setSlot b
    { s.slot b with area := some i }

/-- An entry is appended (R434). -/
def State.areaPut (s : State) (b : Bool) (k v : Nat) : State :=
  match s.areaOf b with
  | some (i, a) => { s with upd := { s.upd with areas := kvSet s.upd.areas i { a with entries := a.entries ++ [(k, v)] } } }
  | none => s

/-- A setting is written (R434, R435): to the running copy, and, migrated, to the copy of a STAGED slot. -/
def State.setPut (s : State) (k v : Nat) : State :=
  let s1 := s.areaPut s.runSlot k v
  if (s1.slot (!s1.runSlot)).st = 1 then
    s1.areaPut (!s1.runSlot) k ((Config.migrate (sectionOf (s1.slot (!s1.runSlot)).image 4) k v).getD v)
  else s1

/-- SETTINGS_COMPACT (R434): the running copy is 7/8 full; a compacted copy takes a free area, and areas bound to no slot are freed. -/
def execSettingsCompact (s : State) : Host.Outcome State Fault Refusal :=
  .next (match s.areaOf s.runSlot with
    | some (_, a) =>
      if 7 * 2 ^ 20 ≤ 8 * (32 + 8 * a.entries.length) then
        let s1 := s.bindCopy s.runSlot a.schema (compacted a.entries)
        { s1 with upd := { s1.upd with areas := s1.upd.areas.filter (fun e =>
            s1.upd.slotA.area == some e.1 || s1.upd.slotB.area == some e.1) } }
      else s
    | none => s)

/-! ### The checks of an image (R432, R436) -/

/-- IMAGE_LEN, VERSION, SCHEMA and MIN_SCHEMA of a header (R431). -/
def imgLen (b : List Byte) : Nat := le b 16 4
def imgVersion (b : List Byte) : Nat := le b 8 4
def imgSchema (b : List Byte) : Nat := le b 12 2
def imgMin (b : List Byte) : Nat := le b 14 2

/-- The first check of details 1 to 5 that an image of `have_` bytes fails. -/
def imageErr (b : List Byte) (have_ : Nat) : Option Nat :=
  let n := le b 6 2
  let secs := sections b
  let zeros := fun (off len : Nat) => ((b.drop off).take len).all (fun x => x == 0)
  if le b 0 4 ≠ 0x574F4C53 ∨ le b 4 1 ≠ 1 ∨ zeros 20 44 = false ∨ (n ≤ 8 ∧ zeros (128 + 16 * n) (16 * (8 - n)) = false) then some 1
  else if le b 5 1 ≠ 0xB1 then some 2
  else if n = 0 ∨ 8 < n ∨ imgLen b % 4 ≠ 0 ∨ imgLen b < 320 ∨ 28 * 2 ^ 20 < imgLen b ∨ have_ < imgLen b
      ∨ secs.any (fun e => decide (e.2.1 < 256 ∨ imgLen b - 64 < e.2.1 + e.2.2.1)
          || crc32 ((b.drop e.2.1).take e.2.2.1) != e.2.2.2) = true
      ∨ 8 * 2 ^ 20 < ((secs.filter (fun e => e.1 == 1 || e.1 == 2 || e.1 == 5)).map (fun e => e.2.2.1)).foldl (· + ·) 0 then some 3
  else if Config.keyBlank = false ∧ Config.keyMatch ((b.drop 64).take 64) = false then some 4
  else if Config.signOk ((b.drop 64).take 64) (b.take (imgLen b - 64)) ((b.drop (imgLen b - 64)).take 64) = false then some 5
  else none

/-- The bytes of an image and no more. -/
def imgOnly (b : List Byte) : List Byte := b.take (imgLen b)

/-- The CRC that identifies an image (R432). -/
def imgCrc (b : List Byte) : Nat := crc32 (imgOnly b)

/-- The check of R100 that placement of an image on the engines available now fails (R435, R437). -/
def State.planErr (s : State) (img : List Byte) : Option Nat :=
  match plan s.engineOk (imageHdrs img) with
  | .error (c, _) => some c
  | .ok _ => none

/-- SCHEMA of the running image (R457). -/
def State.runSchema (s : State) : Nat := (s.slot s.runSlot).schema

/-! ### The refusals of R437 -/

/-- An axis or a drive has ENABLE = 1, or a sheet is ADMITTED or later. -/
def State.motion (s : State) : Bool :=
  s.anyActive || (List.range 8).any (fun n => s.bit (DRVn_CTRL_ENABLE n)) || (List.range 20).any (fun n => s.bit (AXSn_CTRL_ENABLE n))

def State.noBackup (s : State) : Bool := !s.bit SYS_STATUS_BACKUP_OK

/-- The lowest detail that applies. -/
def State.stageRefused (s : State) : Option Nat :=
  if s.noBackup then some 2 else if s.upd.lock then some 3 else if (s.slot s.runSlot).st = 2 then some 9 else none

def State.activateRefused (s : State) : Option Nat :=
  if s.motion then some 1 else if s.noBackup then some 2 else if s.upd.lock then some 3
  else if (s.slot (!s.runSlot)).st ≠ 1 then some 4
  else if (s.planErr (s.slot (!s.runSlot)).image).isSome then some 6 else none

def State.confirmRefused (s : State) : Option Nat := if (s.slot s.runSlot).st ≠ 2 then some 5 else none

def State.revertRefused (s : State) : Option Nat :=
  if s.motion then some 1 else if s.noBackup then some 2 else if s.upd.lock then some 3
  else if (s.slot s.runSlot).st ≠ 2 then some 5
  else if (s.planErr (s.slot (!s.runSlot)).image).isSome then some 6 else none

/-! ### Stage, activate, confirm, revert (R435, R438, R439) -/

/-- The status and the detail of R127, and the state. -/
abbrev CmdResult := State × Nat × Nat

/-- The inactive slot is marked INVALID and erased (R435). -/
def State.slotErase (s : State) (b : Bool) : State :=
  s.tableChange (fun u => if b then { u with slotB := ⟨0, 0, 0, 0, none, []⟩ } else { u with slotA := ⟨0, 0, 0, 0, none, []⟩ })

/-- UPDATE_STAGE past its refusals (R435, R436); the steps end at the first that fails, with the slot INVALID. -/
def State.stageImage (s : State) (len : Nat) (hostErr : Bool) (b : List Byte) : CmdResult :=
  let dst := !s.runSlot
  let s1 := s.slotErase dst
  if hostErr then (s1, 18, 0) else
  match imageErr b len with
  | some d => (s1, 16, d)
  | none =>
    if s.runSchema < imgMin b ∨ imgSchema b < s.runSchema then (s1, 16, 6)
    else match s1.planErr (imgOnly b) with
      | some c => (s1, 16, 0x100 + c)
      | none =>
        let old := match s.areaOf s.runSlot with | some (_, a) => a.entries | none => []
        let s2 := (s1.setSlot dst ⟨0, imgVersion b, imgCrc b, imgSchema b, none, imgOnly b⟩).bindCopy dst (imgSchema b) (migrated (imgOnly b) old)
        ((s2.tableChange id).setSlot dst { s2.slot dst with st := 1 }, 0, 0)

/-- The running image changes (R438): tasks stop, channels are emptied, DMA channels 8 to 15 are disabled; placement, and every task at its
entry; an IMAGE record (R445). -/
def State.switchTo (s : State) (b : Bool) : State :=
  let s1 := (List.range 8).foldl (fun s k => s.fset (DMAn_CTRL_ENABLE (8 + k)) 0) s
  let s2 := s1.fset UPD_STATUS_RUN_SLOT (if b then 1 else 0)
  (s2.record 0x16 0 [((s2.slot b).version : Int), ((s2.slot b).crc : Int)]).placeImage

/-- UPDATE_ACTIVATE past its refusals (R438): the staged slot becomes TRIAL and BOOT. -/
def State.activate (s : State) : State :=
  let dst := !s.runSlot
  let s1 := s.tableChange (fun u => { u with boot := if dst then 1 else 0 })
  (s1.setSlot dst { s1.slot dst with st := 2 }).switchTo dst

/-- A copy is released: no slot is bound to it. -/
def State.releaseCopy (s : State) (b : Bool) : State :=
  match (s.slot b).area with
  | some i => { s with upd := { s.upd with areas := kvDel s.upd.areas i } }.setSlot b { s.slot b with area := none }
  | none => s

/-- UPDATE_CONFIRM past its refusals (R439). -/
def State.confirm (s : State) : State :=
  let b := s.runSlot
  let s1 := (s.tableChange id).setSlot b { s.slot b with st := 3 }
  (s1.setSlot (!b) { s1.slot (!b) with st := if (s1.slot (!b)).st = 0 then 0 else 4 }).releaseCopy (!b)

/-- UPDATE_REVERT past its refusals (R439): R438 on the CONFIRMED slot, with its own copy. -/
def State.revert (s : State) : State :=
  let b := s.runSlot
  let s1 := (s.tableChange (fun u => { u with boot := if b then 0 else 1 })).releaseCopy b
  (s1.setSlot b { s1.slot b with st := 0 }).switchTo (!b)

/-! ### Tokens (R441) -/

/-- The token words. -/
def State.tokenWord (s : State) : Nat :=
  s.fget (UPD_TOKENw_TOKEN 0) + 2 ^ 32 * s.fget (UPD_TOKENw_TOKEN 1) + 2 ^ 64 * s.fget (UPD_TOKENw_TOKEN 2)
    + 2 ^ 96 * s.fget (UPD_TOKENw_TOKEN 3)

/-- An action (R441): refused after three mismatches, or where its fuse is blank; the token words are cleared after it. -/
def State.tokenAct (s : State) (action : Nat) : State :=
  let tok := s.tokenWord
  let blank := if action = 3 then Config.debugBlank else Config.ownerBlank
  let match_ := if action = 3 then Config.debugMatch tok else Config.ownerMatch tok
  let s1 := (List.range 4).foldl (fun s w => s.fset (UPD_TOKENw_TOKEN w) 0) s
  if action = 0 ∨ 3 < action then s
  else if 3 ≤ s.fget UPD_STATUS_TOKEN_FAILS ∨ blank = true then s1.flag UPD_STATUS_CMD_REFUSED
  else if match_ then
    if action = 3 then s1.fset UPD_STATUS_DEBUG_OPEN 1
    else s1.tableAsk (.lock (decide (action = 1)))
  else
    let s2 := (s1.fsets [(UPD_STATUS_TOKEN_FAIL, 1), (UPD_STATUS_TOKEN_FAILS, s.fget UPD_STATUS_TOKEN_FAILS + 1)]).sendFault updSrc 0x03 0
    if action = 3 then s2.tableAsk .debugFail else s2

/-- LOCK (R441). -/
def execLockEv (s : State) : Host.Outcome State Fault Refusal := .next (s.tokenAct 1)

/-- UNLOCK (R441). -/
def execUnlockEv (s : State) : Host.Outcome State Fault Refusal := .next (s.tokenAct 2)

/-- DEBUG (R441). -/
def execDebugEv (s : State) : Host.Outcome State Fault Refusal := .next (s.tokenAct 3)

/-! ### The recovery ROM (R442 to R444) -/

/-- The slot that a recovery image goes to (R444): one that is not CONFIRMED, A when neither is. -/
def State.recSlot (s : State) : Bool := decide (s.upd.slotA.st = 3)

/-- An image is checked under R432 and written to its slot; none where it fails. -/
def State.recWrite (s : State) (b : List Byte) (have_ : Nat) : Option State :=
  if (imageErr b have_).isSome then none else
  let dst := s.recSlot
  let s1 := s.slotErase dst
  let s2 := s1.setSlot dst ⟨1, imgVersion b, imgCrc b, imgSchema b, (s.slot dst).area, imgOnly b⟩
  some { s2 with upd := { s2.upd with written := some (if dst then 1 else 0) } }

/-- The copy that a recovery image may migrate: the one bound to its own slot, or to the other. -/
def State.recCopy (s : State) (b : Bool) : Option (Nat × Area) := (s.areaOf b) <|> (s.areaOf (!b))

/-- ACTIVATE (R444): the written slot becomes CONFIRMED and BOOT, BOOT_FAILS is cleared, and the controller resets with cause SOFT. The
settings are migrated where the schemas allow it. -/
def State.recActivate (s : State) (dst : Bool) : State :=
  let x := s.slot dst
  let s1 := (s.tableChange (fun u => { u with boot := if dst then 1 else 0 })).setSlot dst { x with st := 3 }
  let s2 := match s.recCopy dst with
    | some (_, a) =>
      if imgMin x.image ≤ a.schema ∧ a.schema ≤ x.schema then s1.bindCopy dst x.schema (migrated x.image a.entries)
      else s1.setSlot dst { s1.slot dst with area := none }
    | none => s1
  (s2.fset SYS_RESET_CAUSE_BOOT_FAILS 0).enterReset 6

/-- The header of a frame (R443): OP, STATUS, SEQ and OFFSET. -/
def frameHeader (f : RecFrame) (op status : Nat) : List Byte :=
  [BitVec.ofNat 8 op, BitVec.ofNat 8 status] ++ natToBytes f.seq 2 ++ natToBytes f.offset 4

/-- A frame as the UART carries it (R443): 0x7E, a 2-byte length, the frame and the CRC-16 of R241. -/
def uartFrame (b : List Byte) : List Byte :=
  [0x7E] ++ natToBytes b.length 2 ++ b ++ natToBytes (crc16 (b.flatMap (fun x => bitsOf x.toNat 8))) 2

/-- The answer to a frame (R443): its header, with STATUS 0 OK, 1 out of order, 2 refused; SEQ counts as acknowledged only where the frame was
taken. The CRC covers the frame's bytes, most significant bit first, and comes low byte first (DEDUCED, log entry 51). -/
def State.recAnswer (s : State) (op : Nat) (f : RecFrame) (status : Nat) : State :=
  let b := frameHeader f op status
  { s with upd := { s.upd with answer := some (if f.path = 2 then uartFrame b else b), lastSeq := if status = 0 then some f.seq else s.upd.lastSeq } }

/-- A frame of the UDP or UART path (R442, R443): served only while the recovery ROM runs, on the path served; a repeat is acknowledged again
and discarded, a gap is out of order. One that must change the slot table while the older copy is erased is not answered yet, and comes again (R433). -/
def State.recFrame (s : State) (op : Nat) (f : RecFrame) (k : State → State) : State :=
  if s.power.phase ≠ .recovery ∨ (s.upd.path.isSome ∧ s.upd.path ≠ some f.path) then s
  else match s.upd.lastSeq with
    | none => k s
    | some l =>
      if f.seq % 65536 = (l + 1) % 65536 then k s
      else if f.seq % 65536 = l % 65536 then s.recAnswer op f 0
      else s.recAnswer op f 1

/-- The owner token is still owed (R442). -/
def State.tokenOwed (s : State) : Bool := s.upd.lock && !s.upd.token

/-- RECOVERY_DATA (R442, R443). -/
def execRecoveryData (f : RecFrame) (s : State) : Host.Outcome State Fault Refusal :=
  onUnit ((f.path == 1 || f.path == 2) && decide (f.data.length ≤ 1024)) (s.recFrame 1 f (fun s =>
    if s.tokenOwed then s.recAnswer 1 f 2
    else ({ s with upd := { s.upd with path := some f.path, buf := memWrite s.upd.buf f.offset f.data } }).recAnswer 1 f 0))

/-- RECOVERY_DONE (R444): OFFSET holds IMAGE_LEN. -/
def execRecoveryDone (f : RecFrame) (s : State) : Host.Outcome State Fault Refusal :=
  onUnit (f.path == 1 || f.path == 2) (s.recFrame 2 f (fun s =>
    if s.tokenOwed then s.recAnswer 2 f 2
    else if s.upd.erasing then s
    else
      let b := memRead s.upd.buf 0 (min f.offset (28 * 2 ^ 20))
      if imgLen b ≠ f.offset then s.recAnswer 2 f 2
      else match s.recWrite b f.offset with
        | some t => t.recAnswer 2 f 0
        | none => s.recAnswer 2 f 2))

/-- RECOVERY_ACTIVATE (R444). -/
def execRecoveryActivate (f : RecFrame) (s : State) : Host.Outcome State Fault Refusal :=
  onUnit (f.path == 1 || f.path == 2) (s.recFrame 3 f (fun s =>
    match s.upd.written with
    | some b => if s.upd.erasing then s else (s.recAnswer 3 f 0).recActivate (decide (b = 1))
    | none => s.recAnswer 3 f 2))

/-- RECOVERY_TOKEN (R442). -/
def execRecoveryToken (f : RecFrame) (s : State) : Host.Outcome State Fault Refusal :=
  onUnit (f.path == 1 || f.path == 2) (s.recFrame 4 f (fun s =>
    if s.upd.lock = false then s.recAnswer 4 f 0
    else if Config.ownerMatch (bytesToNat (f.data.take 16)) then { s with upd := { s.upd with token := true } }.recAnswer 4 f 0
    else s.recAnswer 4 f 2))

/-! ### Wear and retirement (R452 to R455) -/

/-- A unit with a monitor (R452): an engine, a pipeline or a lane. -/
def isLane (src : Nat) : Bool := decide (0x080 ≤ src ∧ src < 0x140 ∧ (src - 0x080) % 0x20 ≤ 16)
def monitored (src : Nat) : Bool := decide (0x040 ≤ src ∧ src ≤ 0x058) || decide (0x060 ≤ src ∧ src ≤ 0x066) || isLane src
def laneStn (src : Nat) : Nat := (src - 0x080) / 0x20
def laneNum (src : Nat) : Nat := (src - 0x080) % 0x20

/-- A unit serves: an engine that is active, the pipeline of a station or STNX while it serves, a lane that carries data. -/
def State.serving (s : State) (src : Nat) : Bool :=
  if 0x040 ≤ src ∧ src ≤ 0x058 then s.fget (PLC_ENGp_STATE (src - 0x040)) == 1
  else if src = 0x066 then s.fget STNX_STATUS_STATE == 1 || s.fget STNX_STATUS_STATE == 2
  else if 0x060 ≤ src ∧ src < 0x066 then !s.bit (STNn_PL_STATUS_SERVED_X (src - 0x060))
  else
    let sub := s.laneSub (laneStn src)
    if laneNum src = 16 then decide (sub < 16) else sub != laneNum src

/-- An idle spare (R13, R452). -/
def State.idleSpare (s : State) (src : Nat) : Bool :=
  if 0x040 ≤ src ∧ src ≤ 0x058 then s.fget (PLC_ENGp_STATE (src - 0x040)) == 0
  else if src = 0x066 then s.fget STNX_STATUS_STATE == 0
  else isLane src && laneNum src == 16 && decide (16 ≤ s.laneSub (laneStn src))

/-- A spare of the unit's kind is free (R453). -/
def State.spareFor (s : State) (src : Nat) : Bool :=
  if 0x040 ≤ src ∧ src ≤ 0x058 then (s.freeSpare (src - 0x040)).isSome
  else if 0x060 ≤ src ∧ src < 0x066 then s.stnxFree
  else if isLane src then decide (laneNum src < 16) && decide (16 ≤ s.laneSubLatest (laneStn src)) && s.spareLane (laneStn src)
  else false

/-- The work of a retired unit moves at the next sheet boundary (R453). -/
def State.retireMove (s : State) (src : Nat) : State :=
  if 0x040 ≤ src ∧ src ≤ 0x058 then
    let p := src - 0x040
    { s with ex := { s.ex with moves := s.ex.moves.filter (fun (m : Nat × (Bool × Bool)) => m.1 != p || m.2.1) ++ [(p, (false, false))] } }
  else if 0x060 ≤ src ∧ src < 0x066 then (s.modStn (src - 0x060) (fun t => { t with retired := true })).stnxMove (src - 0x060)
  else
    let n := laneStn src
    if s.stnEnabled n then s.shadowSet (STNn_PL_LANE_LANE_SUB n) (laneNum src) else s.fset (STNn_PL_LANE_LANE_SUB n) (laneNum src)

/-- A unit is retired where a spare is free; else it keeps working (R453). -/
def State.retireUnit (s : State) (src : Nat) : State :=
  if s.spareFor src then
    ((s.modUnit src (fun u => { u with retired := true })).sendFault updSrc 0x10 src).retireMove src
  else
    let s1 := if (s.unitOf src).noSpare then s else s.sendFault updSrc 0x11 src
    s1.modUnit src (fun u => { u with worn := true, noSpare := true })

/-- A unit is worn (R453). -/
def State.wornNow (s : State) (u : UnitSt) : Bool :=
  (s.fget UPD_WEAR_CTRL_AGE_THR != 0 && decide (s.fget UPD_WEAR_CTRL_AGE_THR ≤ u.age))
  || (s.fget UPD_WEAR_CTRL_ERR_THR != 0 && decide (s.fget UPD_WEAR_CTRL_ERR_THR ≤ u.errs))

/-- WEAR_MEASURE (R452, R453): AGE and ERRORS of a unit as measured; a worn unit that serves is retired with AUTO_RETIRE. -/
def execWearMeasure (src age errs : Nat) (s : State) : Host.Outcome State Fault Refusal :=
  onUnit (monitored src) (
    let s1 := s.modUnit src (fun u => { u with age := min 1023 age, errs := min 65535 errs })
    let worn := s1.wornNow (s1.unitOf src)
    let s2 := s1.modUnit src (fun u => { u with worn := worn })
    if worn ∧ s2.bit UPD_WEAR_CTRL_AUTO_RETIRE = true ∧ s2.serving src = true ∧ s2.unitOk src = true then s2.retireUnit src else s2)

/-- SPARE_SELF_TEST (R452): an idle spare that fails becomes unavailable. -/
def execSpareSelfTest (src : Nat) (ok : Bool) (s : State) : Host.Outcome State Fault Refusal :=
  onUnit (monitored src) (if ok = false ∧ s.idleSpare src = true then s.modUnit src (fun u => { u with unavail := true }) else s)

/-- The unit named in UPD_WEAR_SEL. -/
def State.wearSel (s : State) : Nat := s.fget UPD_WEAR_SEL_SOURCE

/-- RETIRE (R454): an active unit as R453; an idle spare becomes unavailable. -/
def State.wearRetire (s : State) : State :=
  let src := s.wearSel
  if monitored src = false ∨ s.unitOk src = false then s.flag UPD_STATUS_CMD_REFUSED
  else if s.idleSpare src then s.modUnit src (fun u => { u with retired := true, unavail := true })
  else if s.serving src then s.retireUnit src
  else s.flag UPD_STATUS_CMD_REFUSED

/-- RETIRE (R454). -/
def execRetireEv (s : State) : Host.Outcome State Fault Refusal := .next s.wearRetire

/-- RESTORE (R454): only a retired unit that is not serving; it returns as a spare. -/
def State.wearRestore (s : State) : State :=
  let src := s.wearSel
  if monitored src = true ∧ (s.unitOf src).retired = true ∧ s.serving src = false then
    let s1 := s.modUnit src (fun u => { u with retired := false, unavail := false })
    if 0x040 ≤ src ∧ src ≤ 0x058 then s1.fset (PLC_ENGp_STATE (src - 0x040)) 0
    else if 0x060 ≤ src ∧ src < 0x066 then s1.modStn (src - 0x060) (fun t => { t with retired := false })
    else s1
  else s.flag UPD_STATUS_CMD_REFUSED

/-- RESTORE (R454). -/
def execRestoreEv (s : State) : Host.Outcome State Fault Refusal := .next s.wearRestore

end Sys2Proof.Machine
end

