-- ==== Sys2Proof/Machine/Boot.lean ====
section
/-! DEFINITION. Boot: the rebuilding of the ledger from the journal (R51, R52), the choice of a slot (R390, R440), and the boot steps
(R389). -/

namespace Sys2Proof.Machine

/-! ### The journal at boot (R51) -/

/-- Records by JSEQ, rising. -/
def insertRec (r : JRec) : List JRec → List JRec
  | [] => [r]
  | g :: t => if r.jseq < g.jseq then r :: g :: t else g :: insertRec r t

/-- The records with a good CRC in JSEQ order, up to the first number that no good record carries. -/
def contiguous : List JRec → List JRec
  | [] => []
  | [r] => [r]
  | r :: g :: t => if g.jseq ≤ r.jseq + 1 then r :: contiguous (g :: t) else [r]

/-- What the scan of the ring finds. -/
def Journal.good (j : Journal) : List JRec :=
  contiguous (((j.ring.map (·.2)).filter (fun r => r.good)).foldl (fun l r => insertRec r l) [])

/-- A checkpoint is complete: CKPT_BEGIN and every record up to its CKPT_END are there. -/
def ckptWhole (rs : List JRec) (e : JRec) : Bool :=
  rs.any (fun b => b.typ == 0x10 && b.jseq == e.aux
    && decide (b.aux ≤ (rs.filter (fun r => (r.typ == 0x11 || r.typ == 0x07) && decide (b.jseq < r.jseq ∧ r.jseq < e.jseq))).length))

/-- The JSEQ of the CKPT_BEGIN of the newest complete checkpoint. -/
def newestCkpt (rs : List JRec) : Option Nat :=
  ((rs.reverse).find? (fun e => e.typ == 0x12 && ckptWhole rs e)).map (fun e => e.aux)

/-- The sheet state of a code of R34. -/
def stateOf : Nat → SheetState
  | 1 => .submitted | 2 => .admitted | 3 => .committed | 4 => .exposed | 5 => .transferred | 6 => .fused
  | 8 => .delivered | 9 => .deliveredDefect | 10 => .failed | 11 => .withdrawn
  | _ => .submitted

/-- A sheet as a record gives it: the journal holds neither its planes nor PITCH nor HOST_TAG (R52). -/
def JRec.toSheet (r : JRec) : Sheet :=
  let st := stateOf r.st
  ⟨r.seq, st, r.reason, (if r.effPitch ≠ 0 ∨ (1 < r.st ∧ r.st < 7) then some r.limit else none), r.commitPos, r.effPitch, r.blank, r.detail,
   0, 0, [], st.inFlight, false, false, none, false, false, r.detail != 0, some r, some r, none⟩

/-- Put a sheet into the ledger, in sequence order. -/
def putSheet (sh : Sheet) : List Sheet → List Sheet
  | [] => [sh]
  | g :: t => if sh.seq < g.seq then sh :: g :: t else if g.seq = sh.seq then sh :: t else g :: putSheet sh t

/-- A record acts on the ledger and on the hand-off state (R51). -/
def applyRec (x : Ledger × Handoff) (r : JRec) : Ledger × Handoff :=
  let l := x.1
  let h := x.2
  match r.typ with
  | 0x01 =>
    let n := if r.st = 1 then max l.nextSeq (r.seq + 1) else l.nextSeq
    ({ l with sheets := putSheet r.toSheet l.sheets, nextSeq := n, accepted := max l.accepted (if r.st = 1 then r.seq + 1 else 0) }, h)
  | 0x02 => ({ l with nextSeq := r.seq }, h)
  | 0x04 => ({ l with ack := r.seq, sheets := l.sheets.filter (fun sh => !(sh.st.isFinal && decide (sh.seq ≤ r.seq))) }, h)
  | 0x07 =>
    let k := r.aux % 4
    (l, { h with kept := kvSet h.kept k (uint 64 r.commitPos, r.effPitch), newest := kvSet h.newest k r })
  | 0x10 => ({ l with ack := r.seq }, h)
  | 0x11 => ({ l with sheets := putSheet r.toSheet l.sheets }, h)
  | 0x12 => ({ l with nextSeq := r.seq, accepted := max l.accepted r.seq }, h)
  | _ => x

/-- The kind of the reset (R51, R385): 0 where the journal is empty. -/
def State.resetKind (s : State) : Nat :=
  if s.jrn.ring = [] then 0
  else match s.fget SYS_RESET_CAUSE_CAUSE with
    | 0 => 2
    | 1 => if s.bit SYS_RESET_CAUSE_BK_AT_LOSS = true ∧ s.bit SYS_RESET_CAUSE_DEG_AT_LOSS = false
              ∧ s.bit SYS_RESET_CAUSE_FLUSH_DONE = true then 1 else 2
    | _ => 3

/-- The outcome of a sheet at boot (R51), journaled before it is reported. -/
def State.bootSheet (s : State) (kind : Nat) (sh : Sheet) : State :=
  if sh.st.inFlight then s.failSheet sh.seq (if kind = 3 then 1 else 2) 0
  else if sh.st = .admitted then
    if kind = 2 then (s.modSheet sh.seq (fun x => { x with reason := 2, detail := 0 })).enter sh.seq .failed
    else (s.modSheet sh.seq Sheet.reverted).journalSheet sh.seq
  else s

/-- The ledger is rebuilt, the BOOT record journaled, and the table of R51 applied. -/
def State.rebuild (s : State) : State :=
  let rs := s.jrn.good
  let from_ := (newestCkpt rs).getD 0
  let x := (rs.filter (fun r => decide (from_ ≤ r.jseq))).foldl applyRec (s.led, s.ho)
  let top := match rs.getLast? with | some r => r.jseq | none => 0
  let block := ((s.jrn.ring.find? (fun e => e.2.good && e.2.jseq == from_ && e.2.typ == 0x10)).map (fun e => blockOf e.1))
  let kind := s.resetKind
  let jrn : Journal := { s.jrn with jseq := top + 1, fails := 0, compact := none, ckptBlock := block }
  let s1 := { s with led := { x.1 with idleSince := some s.tick }, ho := { x.2 with epoch := top + 1 }, jrn := jrn }
  let s2 := s1.fset LEDG_STATUS_RESET_KIND kind
  let s3 := s2.stage (s2.plainRec 0x05 0 kind)
  (s3.led.sheets.foldl (fun s sh => s.bootSheet kind sh) s3).idleUpdate

/-! ### The slot (R390, R440) -/

/-- A slot holds an image that is valid under R432. -/
def Slot.boots (x : Slot) : Bool := x.valid && (imageErr x.image x.image.length).isNone

/-- The slot to boot, whether the trial slot is given up, and whether a PREVIOUS slot boots on its defaults; none for the recovery ROM. -/
def State.bootSlot (s : State) : Option (Bool × Bool × Bool) :=
  let b := s.upd.boot == 1
  if (s.slot b).st = 2 ∧ 1 ≤ s.fget SYS_RESET_CAUSE_BOOT_FAILS ∧ (s.slot (!b)).st = 3 ∧ (s.slot (!b)).boots = true then some (!b, true, false)
  else if (s.slot b).boots then some (b, false, false)
  else if ((s.slot (!b)).st = 3 ∨ (s.slot (!b)).st = 4) ∧ (s.slot (!b)).boots = true then some (!b, false, decide ((s.slot (!b)).st = 4))
  else none

/-- What the choice does (R434, R440): a trial slot given up is INVALID; a slot without a copy, or with one whose header CRC fails, gets its
section-3 defaults, with SETTINGS_BAD for the latter. -/
def State.takeSlot (s : State) (c : Bool × Bool × Bool) : State :=
  let b := c.1
  let s1 := if c.2.1 then
      ((s.tableChange (fun u => { u with boot := if b then 1 else 0 })).setSlot (!b) { s.slot (!b) with st := 0 }).sendFault updSrc 0x01
        (if b then 0 else 1)
    else s
  let s2 := if c.2.2 then s1.sendFault updSrc 0x02 (if b then 1 else 0) else s1
  let bad : Bool := match s2.areaOf b with | some (_, a) => a.bad | none => (s2.slot b).area.isSome
  let s2 := if bad ∧ c.2.2 = false then s2.sendFault updSrc 0x04 (if b then 1 else 0) else s2
  let s3 := if c.2.2 = true ∨ bad = true ∨ (s2.areaOf b).isNone = true then s2.bindCopy b (s2.slot b).schema (compacted (defaults (s2.slot b).image)) else s2
  s3.fset UPD_STATUS_RUN_SLOT (if b then 1 else 0)

/-! ### The boot steps (R389) -/

/-- The fields that the boot ROM loads from the settings store (R146, R169, R434, R456). -/
def bootFields : List Fld := [PCIE_SUBSYS_SUBSYS_ID, PCIE_SUBSYS_SUBSYS_VID, DRAMC_CFG_RATE, REC_CFG_RING_LOG2]

/-- PLLs, TIME_NOW, PCIe (R349, R382, R383, R389). -/
def State.bootClocks (s : State) : State :=
  let s1 := s.fsets [(SYS_CLK_REF_OK, 1), (SYS_CLK_LOCK, 7), (UPD_STATUS_KEY_OPEN, if Config.keyBlank then 1 else 0)]
  { s1 with timeFx := s1.rtc * 1000000000 * 2 ^ 24, net := { s1.net with timeOn := true } }

/-- The link trains (R118, R389). -/
def State.linkUp (s : State) : State :=
  let m := s.fget PCIE_CTRL_MAX_SPEED
  s.fsets [(PCIE_STATUS_LINK_UP, 1), (PCIE_STATUS_SPEED, Config.linkSpeed (if m = 0 ∨ 4 < m then 4 else m)),
    (PCIE_STATUS_WIDTH, Config.linkWidth), (SYS_CLK_LOCK, setBit (s.fget SYS_CLK_LOCK) 3 true)]

/-- The recovery ROM (R390, R442). -/
def State.toRecovery (s : State) : State :=
  let s1 := ((s.fset PCIE_CTRL_LINK_EN 1).linkUp).fset HIF_STATUS_RECOVERY 1
  { s1 with power := { s1.power with phase := .recovery } }

/-- The fitted capacity in MiB usable, its code (R151, R169), and the pool (R152). -/
def State.bootDram (s : State) : State :=
  let g := Config.fittedGiB
  let code := if g = 4 then 1 else if g = 8 then 2 else 3
  let mib := if g = 4 then 3584 else if g = 8 then 7168 else 14336
  let ring := s.ringSize / 2 ^ 20
  let saved := s.mem.saved
  let s1 := s.fsets [(DRAMC_STATUS_READY, 1), (DRAMC_CFG_CAPACITY, code), (DRAMC_USABLE_USABLE_MIB, mib),
    (DRAMC_POOL_POOL_BLOCKS, (mib - 64 - ring) / 2), (DRAMC_STATUS_ZEROED, 1), (MEMI_REMAP_USED_USED, saved.1.length)]
  { s1 with mem := { s1.mem with remap := saved.1 } }

/-- Retired pipelines keep STNX in their place (R455). -/
def State.bootPipes (s : State) : State :=
  (List.range 6).foldl (fun s n =>
    if (s.unitOf (0x060 + n)).retired then
      let s1 := s.modStn n (fun t => { t with retired := true })
      if s1.stnxFree then s1.stnxMove n else s1
    else s) s

/-- The end of boot (R137, R389, R390, R456). -/
def State.bootDone (s : State) : State :=
  let s1 := s.fsets [(HIF_STATUS_READY, 1), (SYS_STATUS_BOOT_DONE, 1), (SYS_RESET_CAUSE_BOOT_FAILS, 0)]
  let s2 := { s1 with power := { s1.power with phase := .run } }
  (s2.wantSeries 1).degradedUpdate

/-- BOOT (R389, R390, R440): once reset is released, the boot steps up to BOOT_DONE, or up to the recovery ROM. `trainOk` is the result of
DRAM training, `flashOk` whether the flash has a capacity of R429. -/
def execBootEv (trainOk flashOk : Bool) (s : State) : Host.Outcome State Fault Refusal :=
  .next (if s.released = false then s else
    let s1 := s.bootClocks
    if flashOk = false then (s1.fset UPD_STATUS_FLASH_ERR 1).toRecovery
    else match (if s1.fget SYS_RESET_CAUSE_BOOT_FAILS = 3 ∨ s1.bit SYS_STRAPS_RECOVERY = true then none else s1.bootSlot) with
      | none => s1.toRecovery
      | some c =>
        let s2 := s1.takeSlot c
        let s3 := bootFields.foldl (fun s f => match s.setGet (Config.bootKey f.key) with
          | some v => s.fset f v
          | none => s) { s2 with mem := { s2.mem with spareRows := s2.mem.saved.2 } }
        let s4 := (s3.fset PCIE_CTRL_LINK_EN 1).linkUp
        if trainOk = false then (s4.fset DRAMC_STATUS_TRAIN_FAIL 1).toRecovery
        else
          let s5 := (s4.bootDram).rebuild
          let s6 := if s5.bit REC_CTRL_ENABLE then s5.fset REC_STATUS_STATE 1 else s5
          let x := s6.slot c.1
          let s7 := (s6.record 0x16 0 [(x.version : Int), (x.crc : Int)]).bootPipes
          s7.placeImage.bootDone)

end Sys2Proof.Machine
end

