-- ==== Sys2Proof/Machine/Admission.lean ====
section
/-! DEFINITION. Admission: the conditions of R37, the pitch of R39, the reversion of R42, and HOLD_UNIT of R43. -/

namespace Sys2Proof.Machine

/-- Every plane of a sheet is resident and verified (R37, R131); a sheet without planes waits for its RELOAD (R52). -/
def Sheet.planesOk (sh : Sheet) : Bool := !sh.planes.isEmpty && sh.planes.all (fun p => p.ok && !p.bad)

/-- The first unit that a sheet needs and that does not report ready, by its fault source (R37, R38): stations, then drives, then axes. -/
def State.notReady (s : State) (sh : Sheet) : Option Nat :=
  ((List.range 6).findSome? (fun n =>
    if sh.planes.any (fun p => p.entry.station == n) then
      if s.pipeReadyFor n sh = false then some (s.pipeSrc n)
      else if s.headLinkReady n = false then some (timingSrc n) else none
    else none))
  <|> ((List.range 8).findSome? (fun n => if s.needed.contains n ∧ s.bit (DRVn_STATUS_READY n) = false then some (0x140 + 2 * n) else none))
  <|> ((List.range 20).findSome? (fun n => if s.needed.contains (8 + n) ∧ s.axsReady n = false then some (0x160 + 2 * n) else none))

/-- A line-paced unit that is slow with no spare left (R43): an engine, a pipeline, a class E axis, a head-link lane, a drive channel. -/
def State.slowUnit (s : State) : Option Nat :=
  ((s.ex.moves.find? (fun (m : Nat × (Bool × Bool)) => m.2.1 && (!s.bit PLC_CTRL_SLOW_EN || (s.freeSpare m.1).isNone))).map
    (fun m => engineSrc m.1))
  <|> ((List.range 6).findSome? (fun n =>
    if (s.stnOf n).slow ∧ s.stnx.moveReq ≠ some n ∧ s.stnxFree = false then some (s.pipeSrc n) else none))
  <|> ((List.range 20).findSome? (fun n => if (s.axsOf n).lagged then some (0x160 + 2 * n) else none))
  <|> s.led.slowLine.find? (fun src => !s.spareFor src)

/-- The staging room of R483 for an ADMITTED record. -/
def State.journalRoom (s : State) : Bool :=
  decide (s.jrn.staged.length < 192)
  && decide (s.jrn.staged.length + 5 * ((s.led.sheets.filter (fun sh => sh.st.isActive)).length + 1) + 2 ≤ 256)

/-- The hold code of the first condition of R37 that fails for a sheet, with SOURCE. -/
def State.holdOf (s : State) (sh : Sheet) : Option (Nat × Nat) :=
  if s.bit LEDG_STATUS_RECOVERY_HOLD then some (16, 0)
  else if s.safe then some (22, 0)
  else if sh.planesOk = false then some (17, 0)
  else match s.notReady sh with
    | some src => some (18, src)
    | none =>
      if s.fget LEDG_PITCH_MIN_PITCH_MIN = 0 then some (18, 0)
      else if s.bit SYS_STATUS_BACKUP_OK = false ∧ s.bit LEDG_CTRL_DEGRADED_OK = false then some (19, 0)
      else match s.slowUnit with
        | some src => some (20, src)
        | none => if s.journalRoom then none else some (21, 0)

/-- A quotient to the nearest integer, halves up. -/
def near (a b : Nat) : Nat := (2 * a + b) / (2 * b)

/-- p_mech in µm (R39). -/
def State.pMech (s : State) (sh : Sheet) : Nat := max (s.fget LEDG_PITCH_MIN_PITCH_MIN) sh.reqPitch

/-- p_mech and p_therm in PPOS units (R39, R40): 786,432 / 127 units are 1 µm, and m is in 1/10,000. -/
def State.pMechU (s : State) (sh : Sheet) : Int := (near (s.pMech sh * 786432) 127 : Nat)
def State.pThermU (s : State) (sh : Sheet) : Int := (near (s.pMech sh * s.mult * 786432) 1270000 : Nat)

/-- max(ADMIT_LEAD, LOCK_DIST) in µm. -/
def State.leadUm (s : State) : Nat := max (s.fget LEDG_ADMIT_LEAD_ADMIT_LEAD) (s.fget LEDG_LOCK_DIST_LOCK_DIST)

/-- The belt position + max(ADMIT_LEAD, LOCK_DIST) in 1/(4096 × 127) PPOS unit (R39, R40, R208): 786,432 / 127 units are 1 µm. -/
def State.aheadFx (s : State) : Int := s.beltFx * 127 + (s.leadUm * 786432 * 4096 : Nat)

/-- That position at STN0 rounded up to a whole PPOS unit (R39), and rounded to the nearest (R40). -/
def State.aheadUp (s : State) : Int := -((-s.aheadFx) / 520192) - s.ofsOf 0
def State.aheadNear (s : State) : Int := (2 * s.aheadFx + 520192) / 1040384 - s.ofsOf 0

/-- p_unit in PPOS units (R39, R43): the slowest sheet-paced unit with s < 1.05 × r, and its source; none where no unit is slow. -/
def State.unitTerm (s : State) (sh : Sheet) : Option (Int × Nat) :=
  s.led.rates.foldl (fun m (e : Nat × Nat × Nat) =>
    if 0 < e.2.1 ∧ 100 * e.2.1 < 105 * e.2.2 then
      let u : Int := (near (s.pMech sh * 786432 * 105 * e.2.2) (12700 * e.2.1) : Nat)
      match m with
      | some b => if b.1 < u then some (u, e.1) else some b
      | none => some (u, e.1)
    else m) none

/-- C(n), the effective pitch in PPOS units, and the pitch code (R38, R39); the lower code where terms are equal. -/
def State.commitOf (s : State) (sh : Sheet) : Int × Int × Nat :=
  match s.led.fixed with
  | [] => (s.aheadUp, 0, 1)
  | (_, c) :: _ =>
    let mech := s.pMechU sh
    let data := s.aheadNear - c
    let therm := s.pThermU sh
    let unit := ((s.unitTerm sh).map (fun e => e.1)).getD 0
    let p := max mech (max data (max therm unit))
    (c + p, p, if p = mech then 0 else if p = data then 1 else if p = therm then 2 else 3)

/-- The effective pitch in µm, to the nearest (R57). -/
def pitchUm (p : Int) : Nat := near (p.toNat * 127) 786432

/-- Admit a sheet (R36, R39, R55): its commit position is fixed; in GUARANTEE_DEGRADED it waits for its record. -/
def State.admitSheet (s : State) (sh : Sheet) : State :=
  let c := s.commitOf sh
  let um := pitchUm c.2.1
  let s1 := s.modSheet sh.seq (fun x => { x with commitPos := c.1, effPitch := um, pitchCode := some c.2.2, awaiting := s.degraded })
  let s2 := { s1 with led := { s1.led with fixed := (sh.seq, c.1) :: s1.led.fixed, unitSrc := ((s.unitTerm sh).map (fun e : Int × Nat => e.2)).getD 0 } }.fsets
    [(LEDG_EFF_PITCH_EFF_PITCH, um), (LEDG_LIMITER_LAST_PITCH, c.2.2), (LEDG_COMMIT_POS_LO_COMMIT_POS, uint 64 c.1),
     (LEDG_COMMIT_POS_HI_COMMIT_POS, uint 64 c.1 / 2 ^ 32)]
  if s.degraded then
    match s2.sheet? sh.seq with
    | some x =>
      let r := { s2.sheetRec 0x01 { x with st := .admitted } with jseq := s2.jrn.jseq }
      (s2.modSheet sh.seq (fun y => y.recorded r false)).stage r
    | none => s2
  else (s2.enter sh.seq .admitted).idleUpdate

/-- CODE and SOURCE of LEDG_LIMITER (R38, R57): where CODE names no unit and LAST_PITCH is UNIT, the unit that set p_unit. -/
def State.limiter (s : State) (code src : Nat) : State :=
  s.fsets [(LEDG_LIMITER_CODE, code),
    (LEDG_LIMITER_SOURCE, if code = 18 ∨ code = 20 then src else if s.fget LEDG_LIMITER_LAST_PITCH = 3 then s.led.unitSrc else 0)]

/-- An admission decision (R37): sheet after sheet as long as each in turn meets every condition. -/
def State.decide_ (s : State) : Nat → State
  | 0 => s
  | k + 1 =>
    match s.led.sheets.find? (fun sh => decide (sh.st = .submitted) && !sh.awaiting) with
    | none => s.limiter 31 0
    | some sh =>
      match s.holdOf sh with
      | some h => s.limiter h.1 h.2
      | none => if s.degraded then s.admitSheet sh else (s.admitSheet sh).decide_ k

/-- A reverting condition of R42 has failed for a sheet. -/
def State.lost (s : State) (sh : Sheet) : Bool :=
  !sh.planesOk || (s.notReady sh).isSome || (!s.bit SYS_STATUS_BACKUP_OK && !s.bit LEDG_CTRL_DEGRADED_OK) || s.safe

/-- The reversion of R42, from the lowest ADMITTED sheet, not locked, that has lost a condition. -/
def State.revertLost (s : State) : State :=
  match s.led.sheets.find? (fun sh => sh.revertible && s.lost sh) with
  | some sh => s.revertFrom sh.seq
  | none => s

/-- SHEET_LOCK (R41): PPOS at STN0 reaches C(n) − LOCK_DIST. What has lost a condition of R42 before then has reverted. A sheet that still
awaits its record is not locked: it stays SUBMITTED and its position is released (R55). -/
def execSheetLock (seq : Nat) (s : State) : Host.Outcome State Fault Refusal :=
  .next (match s.sheet? seq with
    | some sh =>
      if s.beltRuns ∧ sh.commitPos - umUnits (s.fget LEDG_LOCK_DIST_LOCK_DIST) ≤ s.pos0 then
        if sh.awaiting then s.revertFrom seq
        else if sh.st = .admitted ∧ sh.locked = false then
          if (s.led.sheets.any (fun g => g.revertible && decide (g.seq ≤ seq) && s.lost g)) then s.revertLost
          else (s.modSheet seq (fun x => { x with locked := true })).drvDefect seq false
        else s
      else s
    | none => s)

/-- ADMISSION_DECISION (R37, R42): the B fields of LEDG take effect (R57); what has lost a condition reverts; then sheets are admitted. While a
sheet awaits its record the decision waits (R55). -/
def State.admission (s : State) : State :=
  if s.power.phase ≠ .run then s else
  let s1 := s.applyShadow [LEDG_CTRL_DEGRADED_OK, LEDG_PITCH_MIN_PITCH_MIN, LEDG_ADMIT_LEAD_ADMIT_LEAD, LEDG_LOCK_DIST_LOCK_DIST]
  let s2 := s1.degradedUpdate.revertLost
  if s2.led.sheets.any (fun sh => sh.awaiting) then s2 else s2.decide_ (s2.led.sheets.length + 1)

/-- The fault sources of the drive channels (R410). -/
def isDrvSrc (src : Nat) : Bool := decide (0x140 ≤ src ∧ src < 0x150) && src % 2 == 0

/-- The units report their rates (R43): what they report is free (Config.sheetRates, Config.slowLines). A slow lane whose station has its spare
hands over at the next sheet boundary (R14). -/
def State.rateReport (s : State) : State :=
  let lines := (Config.slowLines s.tick).filter (fun src => isLane src || isDrvSrc src)
  let s1 := { s with led := { s.led with rates := Config.sheetRates s.tick, slowLine := lines } }
  lines.foldl (fun s src => if isLane src && s.spareFor src then s.retireMove src else s) s1

/-- ADMISSION_DECISION (R37). -/
def execAdmissionDecision (s : State) : Host.Outcome State Fault Refusal := .next s.admission

end Sys2Proof.Machine
end

