-- ==== Sys2Proof/Machine/Waits.lean ====
section
/-! DEFINITION. Waits, messages and task control (R79 to R88, R101 to R110). -/

namespace Sys2Proof.Machine

/-- The limit of a wait (R81): t3 where L = 1. -/
def Arch.limit (a : Arch) (l : Bool) : Option Word64 := if l then some (a.getT 3) else none

/-- Whether time has reached a limit. -/
def limitHit (now : Word64) : Option Word64 → Bool
  | some t => reached now t
  | none => false

/-- A task begins to wait: it occupies no engine cycles and leaves its engine at once (R83, R95). PC is the instruction
after the wait. -/
def State.block (s : State) (i : Nat) (t : Task) (w : Wait) (cycles : Nat) : State :=
  (s.setTask i { t with arch := { t.arch with pc := t.arch.pc + 1 }, stat := .waiting, wait := some w, cyc := t.cyc + cycles,
                        maxCyc := max t.maxCyc (t.cyc + cycles) }).setRunning t.phys none

/-- A wait ends at its issue, with REF and the flags of R61, which are recorded (R445): REF, Z, C, and that it ended at issue. -/
def State.endIssue (s : State) (i : Nat) (t : Task) (ref : Word64) (byLimit : Bool) : State :=
  (s.record 0x11 i [(ref.toNat : Int), if byLimit then 1 else 0, if byLimit then 0 else 1, 1]).retire i t
    ({ t.arch with ref := ref }.setFlags false byLimit (!byLimit) false) 2

/-- AT, AFTER, ONPOS and EVWAIT at issue (R61, R80, R81): `held` says that the target holds at issue, `ref` is REF then. In replay the recording
says whether the wait ended at issue (R96). -/
def State.issueWait (s : State) (i : Nat) (t : Task) (held : Bool) (ref : Word64) (kind : WaitKind) (l : Bool) : State :=
  if s.replaying then
    match s.replayIssue i with
    | some (d, s1) => s1.endIssue i t (BitVec.ofInt 64 (d.getD 0 0)) (d.getD 1 0 != 0)
    | none => s.block i t ⟨kind, t.arch.limit l, none⟩ 2
  else if held then s.endIssue i t ref false
  else if limitHit s.now (t.arch.limit l) then s.endIssue i t (t.arch.getT 3) true
  else s.block i t ⟨kind, t.arch.limit l, none⟩ 2

/-- AT (R80). -/
def execAtTime (p : Nat) (ta : BitVec 2) (l : Bool) (s : State) : Host.Outcome State Fault Refusal :=
  onTask p s (fun i t =>
    s.issueWait i t (reached s.now (t.arch.getT ta)) (t.arch.getT ta) (.time (t.arch.getT ta)) l)

/-- AFTER (R78, R80): REF is taken at issue. -/
def execAfter (p : Nat) (scale : BitVec 2) (a : BitVec 5) (l : Bool) (s : State) : Host.Outcome State Fault Refusal :=
  onTask p s (fun i t =>
    let target := t.arch.ref + (t.arch.getW a).zeroExtend 64 * BitVec.ofNat 64 (scaleMul scale)
    s.issueWait i t (reached s.now target) target (.time target) l)

/-- ONPOS (R80, R106). A station field of 6 traps (R67). -/
def execOnpos (p : Nat) (ta : BitVec 2) (stn : BitVec 3) (l : Bool) (s : State) : Host.Outcome State Fault Refusal :=
  onTask p s (fun i t =>
    if stn = 6 then s.trap i t trapIllegal
    else s.issueWait i t (reached (s.posAt stn.toNat) (t.arch.getT ta)) s.now (.pos stn.toNat (t.arch.getT ta)) l)

/-- The events that the blocks' chapters define (R82), by selector. -/
def definedEvent (sel : Nat) : Bool :=
  let b := sel / 0x1000 * 0x1000
  let e := sel % 0x100
  if sel % 0x1000 ≠ e ∨ 2 ^ 26 ≤ sel then false
  else if b = 0x000000 then e ≤ 2
  else if b = 0x010000 then e ≤ 3
  else if b = 0x020000 then e ≤ 4
  else if b = 0x030000 then e ≤ 66
  else if b = 0x040000 ∨ b = 0x050000 then false
  else if b = 0x070000 then e ≤ 31
  else if b = 0x090000 then e = 0
  else if b = 0x0C0000 then e ≤ 3
  else if b = 0x0E0000 then e ≤ 4
  else if b = 0x0F0000 then e ≤ 79
  else if 0x100000 ≤ b ∧ b < 0x160000 ∧ b % 0x10000 = 0 then e ≤ 7 ∨ (0x10 ≤ e ∧ e ≤ 0x1B) ∨ (0x20 ≤ e ∧ e ≤ 0x24)
  else if b = 0x170000 then e ≤ 3
  else if 0x200000 ≤ b ∧ b < 0x208000 then e ≤ 9
  else if 0x300000 ≤ b ∧ b < 0x314000 then e ≤ 8
  else if b = 0x400000 then e ≤ 63
  else if b = 0x420000 then e ≤ 2
  else if b = 0x430000 then e ≤ 95
  else false

/-- EVWAIT (R80, R82): an event before issue never satisfies it; a selector that names no event traps. -/
def execEvwait (p : Nat) (a : BitVec 5) (l : Bool) (s : State) : Host.Outcome State Fault Refusal :=
  onTask p s (fun i t =>
    if definedEvent (t.arch.getW a).toNat then
      s.issueWait i t false s.now (.event (t.arch.getW a).toNat) l
    else s.trap i t trapIllegal)

/-- Whether the target of a wait on time, position or an event is reached, with REF then (R80, R106). -/
def State.waitRef (s : State) (w : Wait) : Option Word64 :=
  match w.kind with
  | .time target => if reached s.now target then some target else none
  | .pos stn target =>
    match w.hit with
    | some h => some h
    | none => if s.beltRuns && reached (s.posAt stn) target then some s.now else none
  | .event _ => w.hit
  | _ => none

/-- A wait ends: the task is ready again with REF and the flags of R61; C is 0, since it did not hold at issue. -/
def State.endWait (s : State) (i : Nat) (t : Task) (ref : Word64) (byLimit : Bool) : State :=
  (s.record 0x11 i [(ref.toNat : Int), if byLimit then 1 else 0, 0, 0]).makeReady i { t with wait := none, arch := { t.arch with ref := ref }.setFlags false byLimit false false }

/-- WAIT_END (R80, R83): the pending wait's target is reached at this TB tick. -/
def execWaitEnd (task : Nat) (s : State) : Host.Outcome State Fault Refusal :=
  onUnit (task < 512) (match s.task? task with
    | some t =>
      match t.stat, t.wait with
      | .waiting, some w => if s.replaying then s else match s.waitRef w with
        | some r => s.endWait task t r false
        | none => s
      | _, _ => s
    | none => s)

/-- WAIT_LIMIT (R81): time reaches t3 first; when both hold at the tick the target wins. -/
def execWaitLimit (task : Nat) (s : State) : Host.Outcome State Fault Refusal :=
  onUnit (task < 512) (match s.task? task with
    | some t =>
      match t.stat, t.wait with
      | .waiting, some w =>
        match w.kind, w.limit with
        | .send _ _, _ => s
        | .recv _ _, _ => s
        | _, some lim => if s.replaying = false ∧ s.waitRef w = none ∧ reached s.now lim then s.endWait task t lim true else s
        | _, none => s
      | _, _ => s
    | none => s)

/-! ### Messages (R84 to R86) -/

/-- The words a channel holds at most (R62). -/
def chanDepth : Nat := 16

/-- The channel of a message instruction (R84); X = 1 with ch ≠ 0 is illegal (R67, log entry 8). -/
def chanOf (a : Arch) (r : BitVec 5) (x : Bool) (ch : BitVec 8) : Nat :=
  if x then (a.getW r).toNat % 256 else ch.toNat

/-- The trap of a message instruction, the lowest code first (R67, R84, R93). -/
def chanTrap (t : Task) (x : Bool) (ch : BitVec 8) (c : Nat) (dirs : List Bool) : Option Nat :=
  if x ∧ ch ≠ 0 then some trapIllegal
  else if dirs.any (fun d => t.hdr.chans.contains (c, d)) then none
  else some trapChannel

/-- The limit of a SEND or RECV holds at issue (R81, R85); in replay the recording says so (R96), and its record is used up. -/
def State.limitNow (s : State) (i : Nat) (lim : Option Word64) : Option State :=
  if s.replaying then (s.replayIssue i).map (fun x => x.2)
  else if limitHit s.now lim then some (s.record 0x11 i [4, 1, 0, 1]) else none

/-- SEND (R85). Its arrival on the channel is recorded whether it waits or not (R86). -/
def execSend (p : Nat) (d a : BitVec 5) (l x nb : Bool) (ch : BitVec 8) (s : State) : Host.Outcome State Fault Refusal :=
  onTask p s (fun i t =>
    let c := chanOf t.arch a x ch
    match chanTrap t x ch c [true] with
    | some k => s.trap i t k
    | none =>
      if (s.chan c).length < chanDepth then
        (((s.record 0x13 c [(i : Int), 0]).retire i t (t.arch.setFlags false false true false) 4).setChan c (s.chan c ++ [t.arch.getW d])).messageRelease c
      else if nb then s.retire i t (t.arch.setFlags false false false false) 4
      else match s.limitNow i (t.arch.limit l) with
        | some s1 => s1.retire i t (t.arch.setFlags false true false false) 4
        | none => (s.record 0x13 c [(i : Int), 0]).block i t ⟨.send c (t.arch.getW d), t.arch.limit l, none⟩ 4)

/-- RECV (R85). -/
def execRecv (p : Nat) (d a : BitVec 5) (l x nb : Bool) (ch : BitVec 8) (s : State) : Host.Outcome State Fault Refusal :=
  onTask p s (fun i t =>
    let c := chanOf t.arch a x ch
    match chanTrap t x ch c [false] with
    | some k => s.trap i t k
    | none =>
      match s.chan c with
      | w :: rest => ((s.record 0x13 c [(i : Int), 1]).retire i t ((t.arch.setW d w).setFlags false false true false) 4).setChan c rest
      | [] =>
        if nb then s.retire i t (t.arch.setFlags false false false false) 4
        else match s.limitNow i (t.arch.limit l) with
          | some s1 => s1.retire i t (t.arch.setFlags false true false false) 4
          | none => (s.record 0x13 c [(i : Int), 1]).block i t ⟨.recv c d, t.arch.limit l, none⟩ 4)

/-- CHCNT (R84): allowed to the sender and the receiver. -/
def execChcnt (p : Nat) (d a : BitVec 5) (x : Bool) (ch : BitVec 8) (s : State) : Host.Outcome State Fault Refusal :=
  onTask p s (fun i t =>
    let c := chanOf t.arch a x ch
    match chanTrap t x ch c [false, true] with
    | some k => s.trap i t k
    | none => s.retire i t (t.arch.setW d (BitVec.ofNat 32 (s.chan c).length)) 4)

/-- A waiting SEND or RECV of a task ends (R85, R86): space or a word appears, or the limit is reached first. REF stays. -/
def State.messageWaitEnd (s : State) (task : Nat) : State :=
  (match s.task? task with
    | some t =>
      match t.stat, t.wait with
      | .waiting, some ⟨.send c w, lim, _⟩ =>
        if (s.chan c).length < chanDepth then
          (((s.record 0x11 task [2, 0, 0, 0]).makeReady task { t with wait := none, arch := t.arch.setFlags false false true false }).setChan c
            (s.chan c ++ [w])).messageRelease c
        else if limitHit s.now lim then
          (s.record 0x11 task [4, 1, 0, 0]).makeReady task { t with wait := none, arch := t.arch.setFlags false true false false }
        else s
      | .waiting, some ⟨.recv c d, lim, _⟩ =>
        match s.chan c with
        | w :: rest =>
          ((s.record 0x11 task [3, 0, 0, 0]).makeReady task { t with wait := none, arch := (t.arch.setW d w).setFlags false false true false }).setChan c rest
        | [] =>
          if limitHit s.now lim then
            (s.record 0x11 task [4, 1, 0, 0]).makeReady task { t with wait := none, arch := t.arch.setFlags false true false false }
          else s
      | _, _ => s
    | none => s)

/-- MESSAGE_WAIT_END (R85, R86); in replay the recording ends it (R450). -/
def execMessageWaitEnd (task : Nat) (s : State) : Host.Outcome State Fault Refusal :=
  onUnit (task < 512) (if s.replaying then s else s.messageWaitEnd task)

/-! ### Task control (R87, R88) -/

/-- The ready tasks of an engine. -/
def State.readyOn (s : State) (p : Nat) : List (Nat × Task) :=
  s.ex.tasks.filter (fun e => decide (e.2.phys = p) && decide (e.2.stat = TStat.ready))

/-- A task runs ahead of another of its engine (R104): the higher priority, then the one that was preempted, then the one that became ready first. -/
def Task.ahead (b e : Task) : Bool :=
  if b.hdr.prio ≠ e.hdr.prio then decide (e.hdr.prio < b.hdr.prio)
  else if b.preempted ≠ e.preempted then b.preempted
  else decide (b.readyAt < e.readyAt)

/-- The task that runs next (R104); of tasks that became ready together, the lower number: the list ascends. -/
def bestReady : List (Nat × Task) → Option (Nat × Task)
  | [] => none
  | e :: rest =>
    match bestReady rest with
    | none => some e
    | some b => if b.2.ahead e.2 then some b else some e

/-- Engine `p` starts a ready task (R104). -/
def State.start (s : State) (p : Nat) (i : Nat) (t : Task) : State :=
  (s.setTask i { t with stat := .running, preempted := false }).setRunning p (some i)

/-- TASK_DISPATCH (R95, R104): the engine starts its highest-priority ready task, preempting one of lower priority. The
preempted task keeps its place ahead of those of its priority that became ready after it. -/
def execTaskDispatch (p : Nat) (s : State) : Host.Outcome State Fault Refusal :=
  onUnit (p < nEngines) (if s.fget (PLC_ENGp_STATE p) ≠ 1 then s else
    match bestReady (s.readyOn p) with
    | none => s
    | some (i, t) =>
      match kvGet s.ex.running p with
      | none => s.start p i t
      | some j =>
        match s.task? j with
        | none => s.start p i t
        | some u =>
          if u.hdr.prio < t.hdr.prio then (s.setTask j { u with stat := .ready, preempted := true }).start p i t else s)

/-- YIELD (R87): the next ready task of equal priority runs, if there is one. -/
def execYieldI (p : Nat) (s : State) : Host.Outcome State Fault Refusal :=
  onTask p s (fun i t =>
    let s1 := s.retire i t t.arch 2
    match bestReady ((s.readyOn p).filter (fun e => decide (e.2.hdr.prio = t.hdr.prio))) with
    | none => s1
    | some (j, u) =>
      match s1.task? i with
      | some t1 => (s1.makeReady i t1).start p j u
      | none => s1)

/-- The response time of an activation against its DEADLINE (R115): the least slack, and a slow engine. -/
def State.judgeResponse (s : State) (t : Task) : State × Nat :=
  let resp := (s.now - t.inForce.ref).toNat
  let slack := if t.hdr.deadline = 0 then t.minSlack else min t.minSlack (t.hdr.deadline - resp)
  let slow := t.hdr.cls < 2 ∧ t.hdr.deadline ≠ 0 ∧ t.hdr.deadline * 100 < resp * 105
  (if slow then
     (s.flag PLC_STATUS_SLOW).sendOpen (engineSrc t.phys) |> fun s1 =>
       { s1 with ex := { s1.ex with moves := if s1.ex.moves.any (fun m => m.1 = t.phys ∧ m.2 = (true, false)) then s1.ex.moves
                                             else s1.ex.moves ++ [(t.phys, (true, false))] } }
   else s, slack)

/-- DONE (R60, R101, R102): the activation ends; a pending release then starts the next one. -/
def execDoneI (p : Nat) (s : State) : Host.Outcome State Fault Refusal :=
  onTask p s (fun i t =>
    let j := s.judgeResponse t
    let t1 := { t with arch := { t.arch with pc := t.arch.pc + 1 }, cyc := t.cyc + 2, maxCyc := max t.maxCyc (t.cyc + 2),
                       minSlack := j.2, streak := 0, tries := 0 }
    let s1 := j.1.setRunning p none
    match t.pending with
    | some r => s1.makeReady i (t1.activate r)
    | none =>
      let s2 := s1.setTask i { t1 with stat := .idle }
      if t.hdr.rel = .message then s2.messageRelease t.hdr.relArg else s2)

/-- CKPT (R87, R103, R109): the state with the PC of the next instruction; the budget counter restarts. -/
def execCkpt (p : Nat) (s : State) : Host.Outcome State Fault Refusal :=
  onTask p s (fun i t =>
    let a := { t.arch with pc := t.arch.pc + 1 }
    s.setTask i { t with arch := a, ckpt := some a, cyc := 0, maxCyc := max t.maxCyc (t.cyc + 48), streak := 0, tries := 0 })

/-- TID (R87). -/
def execTid (p : Nat) (d : BitVec 5) (s : State) : Host.Outcome State Fault Refusal :=
  onTask p s (fun i t => s.retire i t (t.arch.setW d (BitVec.ofNat 32 i)) 1)

/-- FAULT (R67, R88): one message of the engine's source; a kind below 0x20 is illegal. -/
def execFaultI (p : Nat) (a : BitVec 5) (kind : BitVec 6) (s : State) : Host.Outcome State Fault Refusal :=
  onTask p s (fun i t =>
    if kind.toNat < 0x20 then s.trap i t trapIllegal
    else (s.retire i t t.arch 4).output 0x42 i p t.arch.pc.toNat kind.toNat ((t.arch.getW a).toNat % 65536)
      (fun s => s.sendFault (engineSrc p) kind.toNat ((t.arch.getW a).toNat % 65536)))

/-- The PC that a BUDGET or DEADLINE trap reports (R93): of the wait in progress, else of the next instruction (log entry 9). -/
def Task.boundaryPc (t : Task) : Nat := if t.stat = .waiting then (t.arch.pc - 1).toNat else t.arch.pc.toNat

/-- BUDGET_EXCEEDED (R103): the counter exceeds BUDGET. -/
def execBudgetExceeded (task : Nat) (s : State) : Host.Outcome State Fault Refusal :=
  onUnit (task < 512) (match s.task? task with
    | some t => if (t.stat = .running ∨ t.stat = .ready ∨ t.stat = .waiting) ∧ t.hdr.budget < t.cyc then s.trapAt task t trapBudget t.boundaryPc else s
    | none => s)

/-- DEADLINE_MISSED (R103): a HARD or FIRM task has not reached DONE by REF of its release plus DEADLINE. Where its count exceeds BUDGET at the
same boundary, the lower code is reported (R93). -/
def execDeadlineMissed (task : Nat) (s : State) : Host.Outcome State Fault Refusal :=
  onUnit (task < 512) (match s.task? task with
    | some t =>
      if (t.stat = .running ∨ t.stat = .ready ∨ t.stat = .waiting) ∧ t.hdr.cls < 2 ∧ t.hdr.deadline ≠ 0
          ∧ reached s.now (t.inForce.ref + BitVec.ofNat 64 t.hdr.deadline) = true then
        s.trapAt task t (if t.hdr.budget < t.cyc then trapBudget else trapDeadline) t.boundaryPc
      else s
    | none => s)

/-- Releases of a task that are lost, one after another (R102, R105). -/
def State.loseReleases (s : State) (i : Nat) : Nat → State
  | 0 => s
  | k + 1 => (match s.task? i with
    | some t => s.loseRelease i t
    | none => s).loseReleases i k

/-- PERIOD_RELEASE (R101, R105): the next multiple of the period is reached. A forward step of TIME_NOW merges the multiples
skipped into one release at the latest; each other one is lost. -/
def execPeriodRelease (task : Nat) (s : State) : Host.Outcome State Fault Refusal :=
  onUnit (task < 512) (match s.task? task with
    | some t =>
      if s.replaying = false ∧ t.hdr.rel = .period ∧ t.hdr.relParam ≠ 0 ∧ reached s.now (BitVec.ofNat 64 t.nextPeriod) = true then
        let k := (s.now - BitVec.ofNat 64 t.nextPeriod).toNat / t.hdr.relParam
        let latest := t.nextPeriod + k * t.hdr.relParam
        ((s.setTask task { t with nextPeriod := latest + t.hdr.relParam }).loseReleases task k).release task ⟨BitVec.ofNat 64 latest, []⟩
      else s
    | none => s)

/-- TRAP_RESTART (R109): a trapped ONCE task with RESTART = 1 restarts 1 ms after the trap; in replay the recording restarts it (R116). -/
def execTrapRestart (task : Nat) (s : State) : Host.Outcome State Fault Refusal :=
  onUnit (task < 512) (match s.task? task with
    | some t =>
      if s.replaying = false ∧ t.hdr.rel = .once ∧ t.autoRestart = true ∧ t.trapTime + msTicks 1 ≤ s.tick then
        (s.makeReady task (t.restart true false)).recordPlace [3, task, 1, (t.restart true false).arch.pc.toNat]
      else s
    | none => s)

/-- Whether a task is stopped, by a trap or by command (R110). -/
def Task.isStopped (t : Task) : Bool := t.stat = .trapped ∨ t.stat = .stopped

/-- A PLC_TASK_CMD restart (R109, R110): refused unless the task is declared and stopped; automatic restarts count afresh. -/
def State.cmdRestart (s : State) (task : Nat) (fromCkpt clear : Bool) (cause : Nat) : State :=
  match s.task? task with
  | some t =>
    if t.isStopped then
      (s.makeReady task { t.restart fromCkpt clear with tries := 0 }).recordPlace
        [3, task, cause, (t.restart fromCkpt clear).arch.pc.toNat]
    else s.flag PLC_STATUS_CMD_REFUSED
  | none => s.flag PLC_STATUS_CMD_REFUSED

/-- TASK_RESTART_CHECKPOINT: action 1 of PLC_TASK_CMD (R109, R110). -/
def execTaskRestartCheckpoint (task : Nat) (s : State) : Host.Outcome State Fault Refusal :=
  onUnit (task < 512) (s.cmdRestart task true false 2)

/-- TASK_RESTART_ENTRY: action 2, with cleared registers (R109, R110). -/
def execTaskRestartEntry (task : Nat) (s : State) : Host.Outcome State Fault Refusal :=
  onUnit (task < 512) (s.cmdRestart task false true 3)

/-- Action 3 of PLC_TASK_CMD (R110): stop at the instruction boundary, a wait at once. -/
def State.cmdStop (s : State) (task : Nat) : State :=
  match s.task? task with
  | some t =>
    if t.isStopped then s.flag PLC_STATUS_CMD_REFUSED
    else
      let s1 := s.setTask task { t with stat := .stopped, wait := none, dcall := none, stall := false, access := none, preempted := false }
      if kvGet s1.ex.running t.phys = some task then s1.setRunning t.phys none else s1
  | none => s.flag PLC_STATUS_CMD_REFUSED

/-- TASK_STOP (R110). -/
def execTaskStop (task : Nat) (s : State) : Host.Outcome State Fault Refusal :=
  onUnit (task < 512) (s.cmdStop task)

end Sys2Proof.Machine
end

