-- ==== Sys2Proof/Machine/Rec.lean ====
section
/-! DEFINITION. The recorder: triggers, freezing, exports, snapshots, and replay (R445 to R451, R456). -/

namespace Sys2Proof.Machine

/-- The selector of a REC event (R456). -/
def recEvent (e : Nat) : Nat := selOf 0x0C0000 e

/-- FREEZE (R448). -/
def execFreezeEv (s : State) : Host.Outcome State Fault Refusal := .next (s.trigger 1)

/-- The length of an export stream in bytes (R449): its header of 64 bytes, and the records. -/
def Recording.len (r : Recording) : Nat := r.raw.getD ((r.recs.map Rec.bytes).foldl (· + ·) 64)

/-- The bytes of the recorder ring from an offset on, around its end (R152). -/
def State.ringBytes (s : State) (off n : Nat) : List Byte :=
  s.dramBytes (s.ringBase + off) (min n (s.ringSize - off)) ++ s.dramBytes s.ringBase (n - (s.ringSize - off))

/-- Whether a word of a range of the ring is uncorrectable. -/
def State.ringBad (s : State) (off n : Nat) : Bool :=
  !(s.badUnits (s.ringBase + off) (min n (s.ringSize - off))).isEmpty || !(s.badUnits s.ringBase (n - (s.ringSize - off))).isEmpty

/-- A record as it is exported (R446, R162): its bytes in the ring, with TYPE 0xFE where it is marked bad. -/
def State.recStream (s : State) (r : Rec) : List Byte :=
  let b := s.ringBytes r.off r.bytes
  if s.ringBad r.off r.bytes then b.take 3 ++ [0xFE] ++ b.drop 4 else b

/-- The header of an export stream (R449): MAGIC and FORMAT, the fields, of which the spec gives no places, and the CRC-32 over them, which
comes last (DESIGN CHOICE, log entry 2). -/
def Recording.header (r : Recording) : List Byte :=
  let f := ([0x52, 0x45, 0x43, 0x31, 0x01] : List Byte) ++ (Config.recHeader [Config.strapCtrlNum, r.version, r.crc, r.trigTime, r.trigCause,
    ((r.recs.head?).map (fun (x : Rec) => x.time)).getD 0, r.len, r.lost] ++ List.replicate 55 0).take 55
  f ++ natToBytes (crc32 f) 4

/-- The bytes of an export stream (R449). -/
def State.stream (s : State) (r : Recording) : List Byte :=
  match r.raw with
  | some n => s.ringBytes 0 n
  | none => r.header ++ r.recs.flatMap s.recStream

/-- A recording stands frozen: the registers show it. -/
def State.showFrozen (s : State) (r : Recording) : State :=
  { s.fsets [(REC_STATUS_STATE, 3), (REC_FROZEN_LEN_VALUE, r.len), (REC_LOST_VALUE, r.lost), (REC_STATUS_TRIG_CAUSE, r.trigCause),
      (REC_TRIG_TIME_LO_TIME, r.trigTime), (REC_TRIG_TIME_HI_TIME, r.trigTime / 2 ^ 32)] with
    recd := { s.recd with frozen := some r, recs := [], snaps := [], trigAt := none } }

/-- FROZEN (R448): POST ms after the trigger the ring freezes. -/
def execFrozenEv (s : State) : Host.Outcome State Fault Refusal :=
  .next (match s.recd.trigAt with
    | some t =>
      if s.fget REC_STATUS_STATE = 2 ∧ t + msTicks (s.fget REC_CFG_POST) ≤ s.tick then
        let x := s.slot s.runSlot
        (s.showFrozen ⟨s.fget REC_TRIG_TIME_LO_TIME + 2 ^ 32 * s.fget REC_TRIG_TIME_HI_TIME, s.fget REC_STATUS_TRIG_CAUSE, x.version, x.crc,
          s.recd.recs.reverse, s.recd.snaps, s.fget REC_LOST_VALUE, none⟩).event (recEvent 1)
      else s
    | none => s)

/-- An export or a replay runs. -/
def State.recBusy (s : State) : Bool := s.fget REC_STATUS_STATE == 4 || s.fget REC_STATUS_STATE == 5

/-- REARM (R448): a frozen recording is discarded and recording resumes. -/
def State.rearm (s : State) : State :=
  if s.recBusy then s.flag REC_STATUS_CMD_REFUSED
  else
    let keep := s.fget REC_STATUS_STATE == 1
    { s.fsets [(REC_STATUS_STATE, if s.bit REC_CTRL_ENABLE then 1 else 0), (REC_FROZEN_LEN_VALUE, 0), (REC_LOST_VALUE, 0)] with
      recd := { s.recd with frozen := none, trigAt := none, recs := if keep then s.recd.recs else [], snaps := if keep then s.recd.snaps else [] } }

/-- REARM (R448). -/
def execRearmEv (s : State) : Host.Outcome State Fault Refusal := .next s.rearm

/-- NOR_EXPORT (R449): the copy starts; the export area is written from here on. -/
def State.norExport (s : State) : State :=
  if s.fget REC_STATUS_STATE = 3 ∧ s.recd.frozen.isSome = true then
    { s.fset REC_STATUS_STATE 5 with recd := { s.recd with nor := none } }
  else s

/-- NOR_EXPORT (R449). -/
def execNorExport (s : State) : Host.Outcome State Fault Refusal := .next s.norExport

/-- The capacity of the export area in bytes (R429). -/
def norBytes : Nat := (Config.flashMiB - 96) * 2 ^ 20

/-- The records from the `k`-th snapshot on (R445: its begin record). -/
def fromSnap (at_ : Nat) : List Rec → List Rec
  | [] => []
  | r :: t => if r.typ = 0x02 ∧ r.time = at_ then r :: t else fromSnap at_ t

/-- The newest part of a recording that fits the export area and starts at a snapshot (R449): from the first snapshot that fits. -/
def Recording.part (r : Recording) : List Snap → Recording
  | [] => { r with recs := [], snaps := [] }
  | x :: t =>
    let q := { r with recs := fromSnap x.at_ r.recs, snaps := x :: t }
    if q.len ≤ norBytes then q else r.part t

/-- NOR_DONE (R449). -/
def execNorDone (s : State) : Host.Outcome State Fault Refusal :=
  .next (match s.recd.frozen with
    | some r =>
      if s.fget REC_STATUS_STATE = 5 then
        ({ s.fset REC_STATUS_STATE 3 with recd := { s.recd with nor := some (r.part r.snaps) } }).event (recEvent 2)
      else s
    | none => s)

/-- Records one behind the other in the ring, from an offset on, and their bytes written there. -/
def offsetRecs : Nat → List Rec → List Rec
  | _, [] => []
  | o, r :: t => { r with off := o } :: offsetRecs (o + r.bytes) t
def State.placeRecs (s : State) : Nat → List Rec → State
  | _, [] => s
  | o, r :: t => (s.recPut o r.image).placeRecs (o + r.bytes) t

/-- LOAD_NOR (R449, R456): refused while an export or a replay runs, or where no complete export is held. -/
def State.loadNor (s : State) : State :=
  match s.recd.nor with
  | some r =>
    if s.recBusy then s.flag REC_STATUS_CMD_REFUSED
    else (s.placeRecs 0 r.recs).showFrozen { r with recs := offsetRecs 0 r.recs }
  | none => s.flag REC_STATUS_CMD_REFUSED

/-- LOAD_NOR (R449). -/
def execLoadNor (s : State) : Host.Outcome State Fault Refusal := .next s.loadNor

/-- The header that stands at the ring base passes the check: MAGIC and FORMAT, and the CRC-32 over what comes before it. -/
def State.ringHeaderOk (s : State) : Bool :=
  let b := s.ringBytes 0 64
  b.take 5 == [0x52, 0x45, 0x43, 0x31, 0x01] && bytesToNat (b.drop 60) == crc32 (b.take 60)

/-- LOAD_RING (R449): with a good header the ring is frozen. The spec does not lay the payloads out, so what the recording holds beside its
length is free, and it holds no record that replay could read (log entry 2). -/
def State.loadRing (s : State) (ok : Bool) : State :=
  if s.recBusy ∨ ok = false ∨ s.ringHeaderOk = false then s.flag REC_STATUS_CMD_REFUSED
  else
    let s1 := s.draw.2
    let s2 := s1.draw.2
    let s3 := s2.draw.2
    let s4 := s3.draw.2
    let s5 := s4.draw.2
    (s5.draw.2.showFrozen ⟨s.draw.1 % 2 ^ 64, s1.draw.1 % 16, s2.draw.1 % 2 ^ 32, s3.draw.1 % 2 ^ 32, [], [], s4.draw.1 % 2 ^ 32,
      some (64 + s5.draw.1 % s.ringSize)⟩).event (recEvent 1)

/-- LOAD_RING (R449); `ok` is the outcome of the check of the header's other fields, whose places the spec does not give (log entry 2). -/
def execLoadRing (ok : Bool) (s : State) : Host.Outcome State Fault Refusal := .next (s.loadRing ok)

/-! ### Snapshots and TIME records (R445, R447) -/

/-- The registers of PLC and of the loop descriptors. -/
def snapAddr (a : Nat) : Bool :=
  (decide (0x20000B0000 ≤ a) && decide (a < 0x20000C0000)) || (decide (0x2000400000 ≤ a) && decide (a < 0x2000410000))

/-- The data segments that do not lie in DRAM, by address and size. -/
def State.sramSegs (s : State) : List (Nat × Nat) :=
  s.ex.tasks.flatMap (fun e => (e.2.hdr.segs.map (fun d => (e.2.segAddr (d.seg * 2 ^ 28), d.size))).filter (fun r => decide (sramBase ≤ r.1)))

/-- A byte of the SRAM window lies in a range of a list. -/
def inRanges (rs : List (Nat × Nat)) (o : Nat) : Bool := rs.any (fun r => decide (r.1 ≤ sramBase + o ∧ sramBase + o < r.1 + r.2))

/-- What a snapshot captures (R447). -/
def State.takeSnap (s : State) : Snap :=
  ⟨s.now.toNat, s.ex.tasks, s.mem.sram.filter (fun (e : Nat × Byte) => inRanges s.sramSegs e.1), s.loop,
    s.fields.filter (fun (e : Nat × Nat) => snapAddr (e.1 / 32))⟩

/-- The data of a snapshot in numbers (R447): its segments' bytes with their addresses, and its registers. -/
def Snap.words (x : Snap) : List Nat := x.seg.flatMap (fun e => [e.1, e.2.toNat]) ++ x.regs.flatMap (fun e => [e.1, e.2])

/-- Snapshots whose begin record is still in the ring. -/
def State.pruneSnaps (s : State) : State :=
  { s with recd := { s.recd with snaps := s.recd.snaps.filter (fun x => s.recd.recs.any (fun r => r.typ == 2 && r.time == x.at_)) } }

/-- SNAPSHOT (R447): its interval has passed since the newest one. -/
def execSnapshotEv (s : State) : Host.Outcome State Fault Refusal :=
  .next (
    let due : Bool := match s.recd.snaps.getLast? with
      | some x => decide (x.at_ + 100000000 * max 1 (s.fget REC_CFG_SNAP_INT) ≤ s.now.toNat ∨ s.now.toNat < x.at_)
      | none => true
    if s.recording ∧ due = true then
      let x := s.takeSnap
      let s1 := ((s.record 0x02 0 []).record 0x03 0 (x.words.map (fun (v : Nat) => (v : Int)))).record 0x04 0 []
      { s1 with recd := { s1.recd with snaps := s1.recd.snaps ++ [x] } }.pruneSnaps
    else s)

/-- TIME_RECORD (R445). -/
def execTimeRecord (s : State) : Host.Outcome State Fault Refusal := .next (s.record 0x01 0 [(s.now.toNat : Int)])

/-! ### Replay (R450, R451) -/

/-- The physical engines that a recording names from a snapshot on. -/
def recEngines (x : Snap) (rs : List Rec) : List Nat :=
  x.tasks.map (fun e => e.2.phys) ++ rs.flatMap (fun r =>
    if r.typ ≠ 0x15 then []
    else if r.subject = 1 ∨ r.subject = 2 then [(r.data.getD 4 0).toNat, (r.data.getD 5 0).toNat] else [])

/-- The cause of R450 for which a replay is refused. -/
def State.replayCause (s : State) : Option Nat :=
  match s.recd.frozen with
  | none => some 1
  | some r =>
    if s.fget REC_STATUS_STATE ≠ 3 then some 1
    else if r.crc ≠ (s.slot s.runSlot).crc then some 2
    else if s.bit LEDG_STATUS_RUN_OPEN ∨ s.led.sheets ≠ [] ∨ s.motion = true then some 3
    else match r.snaps with
      | [] => some 4
      | x :: _ =>
        if (recEngines x (fromSnap x.at_ r.recs)).any (fun p =>
            (s.unitOf (engineSrc p)).retired || (s.unitOf (engineSrc p)).failed) then some 5 else none

/-- Records that replay applies, records whose values instructions take, and output records (R445). -/
def isAct (t : Nat) : Bool := t == 0x01 || t == 0x10 || t == 0x11 || t == 0x15 || t == 0x16 || t == 0xF0 || t == 0xFE
def isVal (t : Nat) : Bool := t == 0x12 || t == 0x14
def isOut (t : Nat) : Bool := decide (0x40 ≤ t ∧ t ≤ 0x43)

/-- Bytes written over a memory, one after another. -/
def putAll (bs m : Memory) : Memory := bs.foldl (fun m (e : Nat × Byte) => memSet m e.1 e.2) m

/-- A snapshot is loaded (R450). -/
def State.loadSnap (s : State) (x : Snap) : State :=
  { s with fields := (s.fields.filter (fun (e : Nat × Nat) => !snapAddr (e.1 / 32))).foldl (fun m (e : Nat × Nat) => kvSet m e.1 e.2) x.regs
           ex := { s.ex with tasks := x.tasks
                             running := x.tasks.foldl (fun m (e : Nat × Task) => if e.2.stat = .running then kvSet m e.2.phys e.1 else m) []
                             chans := []
                             moves := []
                             moving := [] }
           mem := { s.mem with sram := putAll x.seg (s.mem.sram.filter (fun (e : Nat × Byte) => !inRanges s.sramSegs e.1)) }
           loop := x.loop }

/-- REPLAY (R450). -/
def State.replay (s : State) : State :=
  match s.replayCause, s.recd.frozen with
  | some c, _ => (s.flag REC_STATUS_REPLAY_REFUSED).fset REC_STATUS_REPLAY_CAUSE c
  | none, some ⟨_, _, _, _, recs, x :: _, _, _⟩ =>
    let rs := fromSnap x.at_ recs
    let s1 := (s.loadSnap x).fsets [(REC_STATUS_STATE, 4), (REC_STATUS_REPLAY_CAUSE, 0)]
    { s1 with recd := { s1.recd with replay := some ⟨s.tick, x.at_, rs.filter (fun r => isAct r.typ), rs.filter (fun r => isVal r.typ),
        rs.filter (fun r => isOut r.typ)⟩ } }
  | none, _ => s

/-- REPLAY (R450). -/
def execReplayEv (s : State) : Host.Outcome State Fault Refusal := .next s.replay

/-- A wait, SEND or RECV ends as the recording says (R450). -/
def State.replayWait (s : State) (i : Nat) (data : List Int) : State :=
  match s.task? i with
  | some t =>
    match t.stat, t.wait with
    | .waiting, some ⟨.send c w, _, _⟩ =>
      if data.head? = some 2 then
        ((s.makeReady i { t with wait := none, arch := t.arch.setFlags false false true false }).setChan c (s.chan c ++ [w])).messageRelease c
      else s.makeReady i { t with wait := none, arch := t.arch.setFlags false true false false }
    | .waiting, some ⟨.recv c d, _, _⟩ =>
      if data.head? = some 3 then
        match s.chan c with
        | w :: rest => (s.makeReady i { t with wait := none, arch := (t.arch.setW d w).setFlags false false true false }).setChan c rest
        | [] => s
      else s.makeReady i { t with wait := none, arch := t.arch.setFlags false true false false }
    | .waiting, some _ => s.endWait i t (BitVec.ofInt 64 (data.getD 0 0)) (data.getD 1 0 != 0)
    | _, _ => s
  | none => s

/-- The engines and segment places of a recorded placement (R116): each task, its engine, and its segments' places. -/
def recordedPlan (hs : List TaskHdr) : Nat → List Nat → Plan → Plan
  | k + 1, i :: p :: rest, pl =>
    let n := ((hs.find? (fun h => h.task == i)).map (fun h => h.segs.length)).getD 0
    let w := ((hs.find? (fun h => h.task == i)).map TaskHdr.weight).getD 0
    recordedPlan hs k (rest.drop (2 * n)) { pl with
      engs := pl.engs.map (fun e => if e.phys = p then { e with load := e.load + w, tasks := e.tasks + 1 } else e)
      asg := kvSet pl.asg i p
      locs := kvSet pl.locs i ((List.range n).map (fun j => (rest.getD (2 * j) 0, rest.getD (2 * j + 1) 0))) }
  | _, _, pl => pl

/-- A recorded PLACE_INITIAL is applied (R116): the service does not compute, the tasks stand where they stood. -/
def State.replayInitial (s : State) (mask : Nat) (l : List Nat) : State :=
  s.clearTasks.applyPlan (s.slot s.runSlot).image s.ex.image (recordedPlan s.ex.image l.length l ⟨allEngs mask.testBit, [], 0, 0, [], []⟩)

/-- A placement record is applied (R116, R450). -/
def State.replayPlace (s : State) (data : List Int) : State :=
  let d := fun (k : Nat) => (data.getD k 0).toNat
  match d 0 with
  | 0 => s.replayInitial (d 2) ((data.drop 3).map Int.toNat)
  | 1 => s.moveBegin (d 4) (d 5) (if d 3 = 0 then 2 else 0) (d 6)
  | 2 =>
    let s1 := ((s.passEngine (d 4) (d 5) 3).passTasks (d 4) (d 5)).fsat PLC_MOVES_FAIL_MOVES 1
    { s1 with ex := { s1.ex with running := kvDel s1.ex.running (d 5) } }
  | 3 =>
    match s.task? (d 1) with
    | some t => if d 2 = 0 ∨ t.isStopped = true then s.makeReady (d 1) (t.restart (d 2 != 3) (d 2 == 3)) else s
    | none => s
  | _ => s

/-- After a step of the recorded time the replay's clock follows (R352, R450). -/
def State.replayStep (s : State) (by_ : Int) : State :=
  match s.recd.replay with
  | some rp => { s with recd := { s.recd with replay := some { rp with startTime := ((rp.startTime : Int) + by_).toNat } } }
  | none => s

/-- One record is applied. -/
def State.applyAct (s : State) (r : Rec) : State :=
  match r.typ with
  | 0x01 => s.replayStep (r.data.getD 0 0 - (r.time : Int))
  | 0x10 => s.releaseNow r.subject ⟨BitVec.ofInt 64 (r.data.getD 0 0), r.data.tail.map (fun (x : Int) => BitVec.ofInt 32 x)⟩
  | 0x11 => s.replayWait r.subject r.data
  | 0x15 => s.replayPlace r.data
  | _ => s.diverge 6 0 0 0 0

/-- The records that have come due are applied in their order (R450). -/
def State.replayActs (s : State) : Nat → State
  | 0 => s
  | k + 1 =>
    match s.recd.replay with
    | some rp =>
      match rp.acts with
      | r :: rest =>
        if r.time ≤ s.replayNow then
          ({ s with recd := { s.recd with replay := some { rp with acts := rest } } }.applyAct r).replayActs k
        else s
      | [] => s
    | none => s

/-- What replay does at a TB tick: it applies what is due, and once it has ended, placement and every task are restarted (R451). -/
def State.replayTick (s : State) : State :=
  match s.recd.replay with
  | some rp => s.replayActs rp.acts.length
  | none =>
    if s.recd.restart then ({ s with recd := { s.recd with restart := false } }.placeImage).event (recEvent 3) else s

/-- REPLAY_STOP (R451). -/
def State.replayStop (s : State) : State := if s.replaying then s.replayOver else s

/-- REPLAY_STOP (R451). -/
def execReplayStop (s : State) : Host.Outcome State Fault Refusal := .next s.replayStop

/-- Replay has reached the end of the recording. -/
def State.replayEnded (s : State) : Bool :=
  match s.recd.replay, s.recd.frozen with
  | some rp, some r => rp.acts.isEmpty && (match r.recs.getLast? with
    | some x => decide (x.time ≤ s.replayNow)
    | none => true)
  | some rp, none => rp.acts.isEmpty
  | none, _ => false

/-- REPLAY_END (R451). -/
def execReplayEnd (s : State) : Host.Outcome State Fault Refusal :=
  .next (if s.replayEnded then (s.flag REC_STATUS_DONE).replayOver else s)

/-- RECORDED_OUTPUT_MISSING (R451): the next output record of an engine is more than 1 µs past its instant. -/
def execRecordedOutputMissing (p : Nat) (s : State) : Host.Outcome State Fault Refusal :=
  onUnit (p < nEngines) (match s.recd.replay with
    | some rp =>
      match takeRec (fun r => r.data.head? == some (p : Int)) rp.outs with
      | some (r, _) =>
        if r.time + 1000 < s.replayNow then s.diverge 4 r.subject p (r.data.getD 1 0).toNat (r.data.getD 2 0).toNat else s
      | none => s
    | none => s)

end Sys2Proof.Machine
end

