-- ==== Sys2Proof/Machine/HostCmd.lean ====
section
/-! DEFINITION. The host's commands, the event ring, RESYNC series, the status mirror, and the resets of the host interface (R118 to R138,
R30 to R33). -/

namespace Sys2Proof.Machine

/-! ### The command ring (R124 to R127) -/

/-- A word of LEDG_COUNT (R57), and of LEDG_STATUS and LEDG_LIMITER. -/
def State.ledgCount (s : State) : Nat :=
  s.led.sheets.length + 2 ^ 16 * (s.led.sheets.filter (fun sh => sh.st.inFlight)).length
def State.ledgStatus (s : State) : Nat := s.wordOf ((regFieldsAt 0x20000A0004).getD [])
def State.ledgLimiter (s : State) : Nat := s.wordOf ((regFieldsAt 0x20000A0008).getD [])

/-- The controller begins the command at CMD_HEAD (R124): ENABLE is set, boot or the recovery ROM serves the ring, an entry stands in it, 8
events are free, and no command is in progress. -/
def State.cmdReady (s : State) : Bool :=
  s.bit HIF_CTRL_ENABLE && (s.power.phase == .run || s.power.phase == .recovery)
  && (s.fget HIF_CMD_HEAD_CMD_HEAD != s.fget HIF_CMD_TAIL_CMD_TAIL) && decide (8 ≤ s.evtFree) && s.host.owed.isNone

/-- The entry at CMD_HEAD is a command that the controller begins now: its opcode, and what tells its rows apart. -/
def State.cmdAt (s : State) (op : Nat) (which : Nat → Bool) : Bool := s.cmdReady && s.cmdOp == op && which s.cmdFlags

/-- The entry at CMD_HEAD is the one that a command of the sender names, by its common part and by argument fields (offset, size, value). -/
def State.cmdIs (s : State) (h : CmdHead) (args : List (Nat × Nat × Nat)) : Bool :=
  h == s.cmdHead && args.all (fun a => s.cmdNum a.1 a.2.1 == a.2.2)

/-- Every entry of an opcode, and those with FLAGS bit `b` set or clear: RELOAD 0, ACK_VALID 1 (R125). -/
def anyFlags (_ : Nat) : Bool := true
def withFlag (b : Nat) (v : Bool) (flags : Nat) : Bool := flags.testBit b == v

/-- CMD_DONE (R135). -/
def State.cmdDone (s : State) (h : CmdHead) (op status detail : Nat) (results : List Nat) : State :=
  s.cmdFinish (.cmdDone h.tag op status detail results)

/-- A host command is recorded (R445): opcode, tag and the first 16 argument bytes. -/
def State.recCmd (s : State) : State :=
  s.record 0x23 0 [(s.cmdOp : Int), (s.cmdNum 4 4 : Int), (s.cmdNum 8 4 : Int), (s.cmdNum 12 4 : Int), (s.cmdNum 16 4 : Int), (s.cmdNum 20 4 : Int)]

/-- A record of a host command may be staged now (R483). -/
def State.mayStage (s : State) : Bool := decide (s.jrn.staged.length < 192)

/-- A command that the run serves; the recovery ROM answers it with BAD_ARG or UNKNOWN (R127, R442). Where it stages a record, it waits for room
(R483). -/
def runCmd (is_ : Bool) (stages : Bool) (k : State → State) (s : State) : State :=
  if is_ = false then s
  else if s.power.phase = .recovery then s.cmdDone s.cmdHead s.cmdOp (if cmdOk s.cmdHead then 17 else 12) 0 []
  else if stages ∧ s.mayStage = false then s
  else k s.recCmd

/-! ### Runs (R30, R33) -/

/-- The status of RUN_START (R127): the lowest that applies; while no tasks are placed it is refused with the check of R100. -/
def State.runStartStatus (s : State) (h : CmdHead) (seq : Nat) : Nat × Nat :=
  let low := match s.led.sheets with
    | sh :: _ => decide (sh.seq + 2 ^ 32 - 4096 ≤ seq)
    | [] => false
  if s.bit LEDG_STATUS_RUN_OPEN then (8, 0)
  else if seq < s.led.accepted ∨ low = true then (9, 0)
  else if cmdOk h = false then (12, 0)
  else if s.bit PLC_STATUS_PLACED = false then (15, s.fget PLC_PLACE_ERR_CODE)
  else (0, 0)

/-- RUN_START past its entry (R30, R33). -/
def State.runStart (s : State) (h : CmdHead) (seq : Nat) : State :=
  let st := s.runStartStatus h seq
  if st.1 ≠ 0 then s.cmdDone h 0x0001 st.1 st.2 []
  else
    let s1 := { s.fsets [(LEDG_STATUS_RUN_OPEN, 1), (LEDG_STATUS_RECOVERY_HOLD, 0)] with led := { s.led with nextSeq := seq } }
    (s1.stage (s1.plainRec 0x02 seq 0)).journalPump.cmdDone h 0x0001 0 0 []

/-- RUN_START (R30, R33). -/
def execRunStart (h : CmdHead) (seq : Nat) (s : State) : Host.Outcome State Fault Refusal :=
  .next (runCmd (s.cmdAt 0x0001 anyFlags && s.cmdIs h [(8, 8, seq)]) ((s.runStartStatus h seq).1 == 0) (fun t => t.runStart h seq) s)

/-- RUN_END past its entry (R33). -/
def State.runEnd (s : State) (h : CmdHead) : State :=
  if s.bit LEDG_STATUS_RUN_OPEN = false then s.cmdDone h 0x0002 3 0 []
  else if cmdOk h = false then s.cmdDone h 0x0002 12 0 []
  else
    let s1 := s.fset LEDG_STATUS_RUN_OPEN 0
    (s1.stage (s1.plainRec 0x03 s.led.nextSeq 0)).journalPump.cmdDone h 0x0002 0 0 []

/-- RUN_END (R33). -/
def execRunEnd (h : CmdHead) (s : State) : Host.Outcome State Fault Refusal :=
  .next (runCmd (s.cmdAt 0x0002 anyFlags && s.cmdIs h []) (s.bit LEDG_STATUS_RUN_OPEN && cmdOk h) (fun t => t.runEnd h) s)

/-! ### Sheets (R31, R128 to R130) -/

/-- An image format (R129). -/
def imgFormat (f : Nat) : Bool := f == 1 || f == 2 || f == 3 || f == 4

/-- Check 1 of R130: a field of a plane entry is in range. -/
def entryRange (e : PlaneEntry) : Bool :=
  decide (e.station ≤ 5) && decide (1 ≤ e.lines) && decide (1 ≤ e.width) && decide (e.width ≤ 49152) && decide (1 ≤ e.length) && e.zerosOk

/-- Check 3 of R130 and R181: the format and the resolution; a TAG entry is as its CT8 entry. A FORMAT or RES outside the list of R129 fails here and
not under check 1, which names the fields that R130 lists for it (DESIGN CHOICE, log entry 47). -/
def entryFormat (es : List PlaneEntry) (e : PlaneEntry) : Bool :=
  if e.format = 1 then e.res == 1 || e.res == 2
  else if e.format = 8 then (e.res == 1 || e.res == 2)
    && !es.any (fun g => g.station == e.station && g.format == 1 && !(g.res == e.res && g.width == e.width && g.lines == e.lines))
  else imgFormat e.format && e.res == 0

/-- Two entries of a list share a property. -/
def anyPair (p : PlaneEntry → PlaneEntry → Bool) : List PlaneEntry → Bool
  | [] => false
  | e :: t => t.any (p e) || anyPair p t

/-- The first check of R130 that a slot fails. -/
def State.slotErr (s : State) (seq : Nat) (x : SheetSlot) : Option Nat :=
  let es := x.planes
  if x.seq ≠ seq ∨ x.nplane = 0 ∨ 12 < x.nplane ∨ es.length ≠ x.nplane ∨ x.zerosOk = false ∨ es.all entryRange = false then some 1
  else if es.any (fun e => s.stnN e.station == 0) then some 2
  else if es.all (entryFormat es) = false then some 3
  else if anyPair (fun a b => a.station == b.station && ((imgFormat a.format && imgFormat b.format) || (a.format == 8 && b.format == 8))) es
    then some 4
  else if es.any (fun e => e.format == 8 && !es.any (fun g => g.station == e.station && g.format == 1)) then some 5
  else if es.any (fun e => decide (s.stnN e.station < e.width * s.planeK e)
      || decide (umUnits 1300000 < ((s.planeLines e * s.lineUnits e.station : Nat) : Int))) then some 6
  else none

/-- The planes of a slot before their transfer. -/
def slotPlanes (x : SheetSlot) : List Plane := x.planes.map (fun e => ⟨e, [], 0, 0xFFFFFFFF, false, false, false⟩)

/-- A newly accepted sheet. -/
def slotSheet (x : SheetSlot) (seq : Nat) : Sheet :=
  ⟨seq, .submitted, 0, none, 0, 0, [0, 0, 0, 0, 0, 0], 0, x.pitch, x.hostTag, slotPlanes x, false, false, false, none, false, false, false, none, none, none⟩

/-- The cases of R31, in their order. -/
def State.submitStatus (s : State) (seq : Nat) : Nat :=
  if s.led.nextSeq < seq then 1 else if seq < s.led.nextSeq then 2
  else if s.bit LEDG_STATUS_RUN_OPEN = false then 3
  else if 4096 ≤ s.led.sheets.length then 4 else 0

/-- The sheet is accepted (R36): its record is staged and reported; in GUARANTEE_DEGRADED the CMD_DONE follows the report (R45, R134). -/
def State.accept (s : State) (h : CmdHead) (seq : Nat) (x : SheetSlot) : State :=
  let s1 := { s with led := { s.led with sheets := s.led.sheets ++ [slotSheet x seq], nextSeq := seq + 1, accepted := seq + 1 } }
  let s2 := s1.degradedUpdate
  let j := s2.jrn.jseq
  let s3 := s2.journalSheet seq
  if s2.degraded then
    { s3 with host := { s3.host with owed := some (some j, seq, .cmdDone h.tag 0x0003 0 0 []) } }.journalPump
  else s3.journalPump.cmdDone h 0x0003 0 0 []

/-- SHEET_SUBMIT past its entry (R31, R127, R130). -/
def State.submit (s : State) (h : CmdHead) (seq : Nat) (slot : SheetSlot) : State :=
  if s.submitStatus seq ≠ 0 then s.cmdDone h 0x0003 (s.submitStatus seq) 0 []
  else if cmdOk h = false then s.cmdDone h 0x0003 12 0 []
  else match s.slotErr seq slot with
    | some d => s.cmdDone h 0x0003 13 d []
    | none => s.accept h seq slot

/-- SHEET_SUBMIT (R31, R127, R130): the slot of the sheet queue is copied. -/
def execSheetSubmit (h : CmdHead) (seq : Nat) (slot : SheetSlot) (s : State) : Host.Outcome State Fault Refusal :=
  .next (runCmd (s.cmdAt 0x0003 (withFlag 0 false) && s.cmdIs h [(8, 8, seq)] && slot == s.slotAt seq) (s.submitStatus seq == 0 && cmdOk h && (s.slotErr seq slot).isNone)
    (fun t => t.submit h seq slot) s)

/-- The transfers of a sheet are abandoned and its space freed (R130, R133). -/
def State.dropTransfer (s : State) (seq : Nat) : State :=
  let s1 := s.freePlanes seq
  s1.modSheet seq (fun sh => { sh with allocated := false })

/-- SHEET_SUBMIT with RELOAD past its entry (R130). -/
def State.reload (s : State) (h : CmdHead) (seq : Nat) (slot : SheetSlot) : State :=
  match s.sheet? seq with
  | none => s.cmdDone h 0x0003 2 0 []
  | some sh =>
    if cmdOk h = false then s.cmdDone h 0x0003 12 0 []
    else match s.slotErr seq slot with
      | some d => s.cmdDone h 0x0003 13 d []
      | none =>
        if sh.st ≠ .submitted then s.cmdDone h 0x0003 14 0 []
        else ((s.dropTransfer seq).modSheet seq (fun x => { x with
            planes := slotPlanes slot, reqPitch := slot.pitch, hostTag := slot.hostTag, planeError := none, readySent := false,
            tooSmall := false })).cmdDone h 0x0003 0 0 []

/-- SHEET_SUBMIT with RELOAD (R130). -/
def execSheetReload (h : CmdHead) (seq : Nat) (slot : SheetSlot) (s : State) : Host.Outcome State Fault Refusal :=
  .next (runCmd (s.cmdAt 0x0003 (withFlag 0 true) && s.cmdIs h [(8, 8, seq)] && slot == s.slotAt seq) false (fun t => t.reload h seq slot) s)

/-- The status of a withdrawal (R127). -/
def State.withdrawStatus (s : State) (h : CmdHead) (seq : Nat) : Nat :=
  match s.sheet? seq with
  | none => 6
  | some sh =>
    if sh.st.isFinal then 7
    else if sh.st.inFlight ∨ (sh.st = .admitted ∧ sh.locked = true) then 5
    else if cmdOk h = false then 12 else 0

/-- The withdrawal (R36): an ADMITTED sheet's slot stays on the belt (R42); one that awaits its record gives its position back (R55). -/
def State.withdraw (s : State) (seq : Nat) : State :=
  let s0 := match s.sheet? seq with
    | some sh => if sh.awaiting then (s.releasePos seq).modSheet seq Sheet.reverted else s
    | none => s
  (((s0.freePlanes seq).modSheet seq (fun sh => { sh with planeError := none })).enter seq .withdrawn).idleUpdate

/-- SHEET_WITHDRAW (R36, R41). -/
def execSheetWithdraw (h : CmdHead) (seq : Nat) (s : State) : Host.Outcome State Fault Refusal :=
  .next (runCmd (s.cmdAt 0x0004 anyFlags && s.cmdIs h [(8, 8, seq)]) (s.withdrawStatus h seq == 0) (fun t =>
    if t.withdrawStatus h seq ≠ 0 then t.cmdDone h 0x0004 (t.withdrawStatus h seq) 0 []
    else (t.withdraw seq).journalPump.cmdDone h 0x0004 0 0 []) s)

/-! ### Status and acknowledgement (R32, R126) -/

/-- The results of STATUS_QUERY (R126). -/
def State.statusResults (s : State) : List Nat := [s.led.nextSeq, s.led.ack, s.ledgCount, s.ledgLimiter]

/-- STATUS_QUERY (R126). Refused with BAD_ARG it carries its results too, which the spec does not say (DESIGN CHOICE, log entry 47). -/
def execStatusQuery (h : CmdHead) (s : State) : Host.Outcome State Fault Refusal :=
  .next (runCmd (s.cmdAt 0x0005 (withFlag 1 false) && s.cmdIs h []) false (fun t => t.cmdDone h 0x0005 (if cmdOk h then 0 else 12) 0 t.statusResults) s)

/-- An acknowledgement acts at once: nothing holds it (R49, R137, R483). -/
def State.ackNow (s : State) : Bool := s.jrn.compact.isNone && s.host.series.isNone && s.led.heldAcks.isEmpty

/-- An acknowledgement (R32): held while a compaction or a series runs (R49, R137). -/
def State.takeAck (s : State) (n : Nat) : State :=
  if s.ackNow = false then { s with led := { s.led with heldAcks := s.led.heldAcks ++ [n] } }
  else (s.applyAck n).degradedUpdate

/-- STATUS_QUERY with ACK_VALID (R32). -/
def execHostAcknowledge (h : CmdHead) (ack : Nat) (s : State) : Host.Outcome State Fault Refusal :=
  .next (runCmd (s.cmdAt 0x0005 (withFlag 1 true) && s.cmdIs h [(8, 8, ack)]) (cmdOk h && s.ackNow && s.ackNeeds ack) (fun t =>
    if cmdOk h = false then t.cmdDone h 0x0005 12 0 t.statusResults
    else
      let s1 := (t.takeAck ack).journalPump
      s1.cmdDone h 0x0005 0 0 s1.statusResults) s)

/-- ENGINE_CALL past its entry (R101, R126). -/
def State.engineCall (s : State) (h : CmdHead) (task : Nat) (w : List Word) : State :=
  match s.task? task with
  | some t =>
    if t.hdr.rel ≠ .call then s.cmdDone h 0x0006 10 0 []
    else if t.pending.isSome then s.cmdDone h 0x0006 11 1 []
    else if t.isStopped = true ∧ t.autoRestart = false then s.cmdDone h 0x0006 11 2 []
    else if cmdOk h = false then s.cmdDone h 0x0006 12 0 []
    else (s.release task ⟨s.now, w⟩).cmdDone h 0x0006 0 0 []
  | none => s.cmdDone h 0x0006 10 0 []

/-- ENGINE_CALL (R101, R126). -/
def execEngineCall (h : CmdHead) (task w1 w2 w3 w4 : Nat) (s : State) : Host.Outcome State Fault Refusal :=
  .next (runCmd (s.cmdAt 0x0006 anyFlags && s.cmdIs h [(8, 2, task), (12, 4, w1), (16, 4, w2), (20, 4, w3), (24, 4, w4)]) false
    (fun t => t.engineCall h task ([w1, w2, w3, w4].map (BitVec.ofNat 32))) s)

/-! ### Updates (R435 to R444) and exports (R449) -/

/-- An update command outside the recovery ROM: refused with a detail of R437, or run. A change of the slot table waits for the erase of the
older copy's block (R433). -/
def updCmd (op : Nat) (h : CmdHead) (refused : State → Option Nat) (k : State → CmdResult) (s : State) : State :=
  if cmdOk h = false then s.cmdDone h op 12 0 []
  else
    let s1 := s.recCmd
    match refused s1 with
    | some d => s1.cmdDone h op 15 d []
    | none =>
      if s.upd.erasing then s
      else
        let r := k s1
        r.1.cmdDone h op r.2.1 r.2.2 []

/-- UPDATE_STAGE in the recovery ROM (R442, R444): the first path to deliver a data frame is served; the owner token comes first. -/
def State.recStage (s : State) (h : CmdHead) (len token : Nat) (hostErr : Bool) (image : List Byte) : State :=
  if s.upd.path.isSome ∧ s.upd.path ≠ some 0 then s
  else if cmdOk h = false then s.cmdDone h 0x0010 12 0 []
  else if s.upd.lock ∧ Config.ownerMatch token = false then s.cmdDone h 0x0010 15 3 []
  else if s.upd.erasing then s
  else
    let s1 := { s with upd := { s.upd with path := some 0, token := true } }
    if hostErr then s1.cmdDone h 0x0010 18 0 []
    else match s1.recWrite image len with
      | some t => t.cmdDone h 0x0010 0 0 []
      | none => s1.cmdDone h 0x0010 16 ((imageErr image len).getD 0) []

/-- UPDATE_STAGE (R435): `image` holds the bytes of host memory that it reads, `hostErr` whether a read of them fails. -/
def execUpdateStage (h : CmdHead) (addr len token : Nat) (hostErr : Bool) (image : List Byte) (s : State) : Host.Outcome State Fault Refusal :=
  let bad := hostErr || !s.hostReach
  .next (if (s.cmdAt 0x0010 anyFlags && s.cmdIs h [(8, 8, addr), (16, 4, len), (20, 16, token)]) = false then s
    else if s.power.phase = .recovery then s.recStage h len token bad image
    else updCmd 0x0010 h State.stageRefused (fun s => s.stageImage len bad image) s)

/-- UPDATE_ACTIVATE (R438); in the recovery ROM the written slot is activated and the controller resets (R444). -/
def execUpdateActivate (h : CmdHead) (s : State) : Host.Outcome State Fault Refusal :=
  .next (if (s.cmdAt 0x0011 anyFlags && s.cmdIs h []) = false then s
    else if s.power.phase = .recovery then
      if cmdOk h = false then s.cmdDone h 0x0011 12 0 []
      else match s.upd.written with
        | some b => if s.upd.erasing then s else (s.cmdDone h 0x0011 0 0 []).recActivate (decide (b = 1))
        | none => s.cmdDone h 0x0011 15 4 []
    else updCmd 0x0011 h State.activateRefused (fun s => (s.activate, 0, 0)) s)

/-- An update command that the recovery ROM does not serve (R442). -/
def updRun (op : Nat) (h : CmdHead) (refused : State → Option Nat) (k : State → CmdResult) (s : State) : State :=
  if (s.cmdAt op anyFlags && s.cmdIs h []) = false then s
  else if s.power.phase = .recovery then s.cmdDone h op (if cmdOk h then 17 else 12) 0 []
  else updCmd op h refused k s

/-- UPDATE_CONFIRM (R439). -/
def execUpdateConfirm (h : CmdHead) (s : State) : Host.Outcome State Fault Refusal :=
  .next (updRun 0x0012 h State.confirmRefused (fun s => (s.confirm, 0, 0)) s)

/-- UPDATE_REVERT (R439). -/
def execUpdateRevert (h : CmdHead) (s : State) : Host.Outcome State Fault Refusal :=
  .next (updRun 0x0013 h State.revertRefused (fun s => (s.revert, 0, 0)) s)

/-- RECORD_EXPORT past its entry (R437, R449): bytes of the frozen recording's stream go to the host; where a write fails, how many were copied
before is free (log entry 2). -/
def State.exportRec (s : State) (h : CmdHead) (addr len off : Nat) (hostErr : Bool) : State :=
  if cmdOk h = false then s.cmdDone h 0x0020 12 0 [0]
  else match s.recd.frozen with
    | none => s.cmdDone h 0x0020 15 7 [0]
    | some r =>
      let n := min len (r.len - off)
      let part := (s.stream r).drop off
      if r.len ≤ off then s.cmdDone h 0x0020 15 8 [0]
      else if hostErr then (s.draw.2.post addr (part.take (s.draw.1 % (n + 1)))).cmdDone h 0x0020 18 0 [s.draw.1 % (n + 1)]
      else (s.post addr (part.take n)).cmdDone h 0x0020 0 0 [n]

/-- RECORD_EXPORT (R437, R449): `hostErr` is whether a write to host memory fails. -/
def execRecordExport (h : CmdHead) (addr len off : Nat) (hostErr : Bool) (s : State) : Host.Outcome State Fault Refusal :=
  .next (runCmd (s.cmdAt 0x0020 anyFlags && s.cmdIs h [(8, 8, addr), (16, 4, len), (20, 4, off)]) false (fun t => t.exportRec h addr len off (hostErr || !t.hostReach)) s)

/-- UNKNOWN (R127): an opcode that R126 does not list, of which every flag and every argument byte is reserved. -/
def execUnknownCmd (h : CmdHead) (opcode : Nat) (s : State) : Host.Outcome State Fault Refusal :=
  .next (runCmd (s.cmdAt opcode anyFlags && !knownOp opcode && s.cmdIs h []) false (fun t => t.cmdDone h opcode (if cmdOk h then 17 else 12) 0 []) s)

/-! ### The rings (R124, R134) -/

/-- A write of CMD_TAIL (R124): an advance beyond the free entries is ignored. -/
def State.cmdTail (s : State) (tail : Nat) : State :=
  let old := s.fget HIF_CMD_TAIL_CMD_TAIL
  let head := s.fget HIF_CMD_HEAD_CMD_HEAD
  if (tail % 1024 + 1024 - old) % 1024 ≤ (head + 2047 - old) % 1024 then s.fset HIF_CMD_TAIL_CMD_TAIL (tail % 1024) else s

/-- COMMAND_DOORBELL (R124). -/
def execCommandDoorbell (tail : Nat) (s : State) : Host.Outcome State Fault Refusal := .next (s.cmdTail tail)

/-- A write of EVT_HEAD (R134): the entries consumed are freed; events held back for space are then posted. An advance past the unread entries is
ignored, of which the spec says nothing (DESIGN CHOICE, log entry 47). -/
def State.evtHead (s : State) (head : Nat) : State :=
  let adv := (head % 4096 + 4096 - s.fget HIF_EVT_HEAD_EVT_HEAD) % 4096
  if adv ≤ s.host.events.length then
    let s1 := { s.fset HIF_EVT_HEAD_EVT_HEAD (head % 4096) with host := { s.host with events := s.host.events.drop adv } }.payDue
    s1.postHeld s1.host.held.length
  else s

/-- EVENT_HEAD_WRITE (R134). -/
def execEventHeadWrite (head : Nat) (s : State) : Host.Outcome State Fault Refusal := .next (s.evtHead head)

/-- A write of HIF_CTRL.ENABLE: a change from 0 to 1 starts a series (R122, R137). -/
def State.hifEnable (s : State) (en : Bool) : State :=
  if en ∧ s.bit HIF_CTRL_ENABLE = false then ((s.fset HIF_CTRL_ENABLE 1).wantSeries 3).payDue.postHeld s.host.held.length
  else s.fset HIF_CTRL_ENABLE (if en then 1 else 0)

/-- HIF_ENABLE (R137). -/
def execHifEnable (s : State) : Host.Outcome State Fault Refusal := .next (s.hifEnable true)

/-! ### RESYNC series (R137) -/

/-- What a host-interface reset leaves owed after the first series (R137), in sequence order. -/
def State.repeatPlanes (s : State) : State :=
  s.led.sheets.foldl (fun s sh =>
    match sh.planeError with
    | some e => s.postKept (.planeError sh.seq e.1 e.2.1 e.2.2 sh.hostTag)
    | none => if sh.planesOk ∧ sh.readySent = true then s.postKept (.planesReady sh.seq sh.planes.length sh.hostTag) else s) s

/-- The series ends (R137, steps 4 and 5). -/
def State.seriesEnd (s : State) : State :=
  let s1 := { s.fset HIF_STATUS_RESYNC_PENDING 0 with host := { s.host with series := none } }
  let s2 := s1.applyHeldAcks
  let s3 := if s2.host.repeatAfter then { s2 with host := { s2.host with repeatAfter := false } }.repeatPlanes else s2
  match s3.host.nextSeries with
  | some c => { s3 with host := { s3.host with nextSeries := none } }.wantSeries c
  | none => s3

/-- RESYNC (R137, step 1): once 16 entries are free the RESYNC event is posted over the sheets live at that instant; where there
is none, it is the last event of its series. -/
def execResync (s : State) : Host.Outcome State Fault Refusal :=
  .next (match s.host.series with
    | some ⟨cause, false, _⟩ =>
      if s.bit HIF_CTRL_ENABLE ∧ 16 ≤ s.evtFree ∧ s.power.phase = .run then
        let todo := s.led.sheets.map (fun sh => sh.seq)
        let s1 := { s with host := { s.host with series := some ⟨cause, true, todo⟩ } }.push (.resync todo.length cause)
        if todo = [] then s1.seriesEnd else s1
      else s
    | _ => s)

/-- RESYNC_SHEET_STATE (R137, step 2). -/
def execResyncSheetState (s : State) : Host.Outcome State Fault Refusal :=
  .next (match s.host.series with
    | some ⟨cause, true, seq :: rest⟩ =>
      if s.bit HIF_CTRL_ENABLE ∧ 8 < s.evtFree then
        let s1 := { s with host := { s.host with series := some ⟨cause, true, rest⟩ } }
        let s2 := match s.sheet? seq with
          | some sh => s1.push (((sh.toldRec <|> sh.lastRec).getD (s.sheetRec 0x01 sh)).event sh.hostTag true)
          | none => s1
        if rest = [] then s2.seriesEnd else s2
      else s
    | some ⟨_, true, []⟩ => s.seriesEnd
    | _ => s)

/-- MSIX_HOLDOFF_END (R138). -/
def execMsixHoldoffEnd (s : State) : Host.Outcome State Fault Refusal :=
  .next (match s.host.vec0At with
    | some t =>
      if s.host.vec0Due ∧ t + usTicks (s.fget HIF_IRQ_HOLDOFF_HOLDOFF) ≤ s.tick ∧ s.bit HIF_CTRL_IRQ_EN = true then
        { s.msix 0 with host := { (s.msix 0).host with vec0At := some s.tick, vec0Due := false } }
      else s
    | none => s)

/-! ### The status mirror (R123) -/

/-- VERSION and the slot of the running image, as the mirror holds them. -/
def State.mirrorImage (s : State) : Nat × Nat :=
  if s.power.phase = .run then ((s.slot s.runSlot).version, if s.runSlot then 1 else 0) else (0, 0xFFFFFFFF)

/-- STATUS_MIRROR_REWRITE (R123): GEN advances before and after; vector 2 is signalled when a word of 0x004 to 0x024 changes (R138); its words
are good again (R160). -/
def State.mirrorRewrite (s : State) : State :=
  let ws := s.mirrorWords s.ledgStatus s.ledgLimiter s.ledgCount s.mirrorImage.1 s.mirrorImage.2
  let good := fun (l : List Nat) => sramKeep l (hifBase + 0x1000) 0x48
  let s1 := { s with host := { s.host with mirror := ⟨(s.host.mirror.gen + 2) % 2 ^ 32, ws⟩ },
                     mem := { s.mem with sramOne := good s.mem.sramOne, sramBad := good s.mem.sramBad } }
  if (s.host.mirror.words.take 9) ≠ ws.take 9 then s1.msix 2 else s1

/-- STATUS_MIRROR_REWRITE (R123). -/
def execStatusMirrorRewrite (s : State) : Host.Outcome State Fault Refusal := .next s.mirrorRewrite

/-! ### Resets of the host interface (R119, R133, R386) -/

/-- A transfer of channels 0 to 7 that is interrupted restarts from the plane's first byte (R133). -/
def State.restartTransfers (s : State) : State :=
  let moving := s.dma.filterMap (fun (e : Nat × DmaCh) => if e.1 < 8 then e.2.plane else none)
  let fresh := fun (seq : Nat) (p : Plane × Nat) => if moving.contains (seq, p.2) then { p.1 with got := 0, crc := 0xFFFFFFFF } else p.1
  let sheets := s.led.sheets.map (fun sh => { sh with planes := sh.planes.zipIdx.map (fresh sh.seq) })
  let s1 := { s with led := { s.led with sheets := sheets } }
  { s1 with dma := s1.dma.map (fun (e : Nat × DmaCh) => if e.1 < 8 then (e.1, { e.2 with plane := none }) else e) }

/-- A link-down, a hot reset or a function-level reset (R119, R122): the HIF registers return to their reset values, READY and RECOVERY to
what they report; the rings and the sheet queue are emptied, with zeros in every byte (DESIGN CHOICE, log entry 46); any series ends (R137). -/
def State.hostReset (s : State) : State :=
  let ready := s.fget HIF_STATUS_READY
  let recov := s.fget HIF_STATUS_RECOVERY
  let s1 := { s with fields := s.fields.filter (fun (e : Nat × Nat) => decide (e.1 / 32 < hifBase ∨ barSpace ≤ e.1 / 32)) }
  let s2 := s1.fsets [(HIF_STATUS_READY, ready), (HIF_STATUS_RECOVERY, recov)]
  { s2 with host := { s2.host with events := [], eseq := 0, held := [], series := none, nextSeries := none, repeatAfter := true,
                                   vec0At := none, vec0Due := false, owed := none, bar := [], cfg := cfgNew, pend := [] } }.restartTransfers

/-- The link goes down (R118, R146). -/
def State.linkLost (s : State) : State :=
  s.fsets [(PCIE_STATUS_LINK_UP, 0), (PCIE_STATUS_WIDTH, 0), (PCIE_STATUS_SPEED, 0), (PCIE_STATUS_BME, 0), (PCIE_STATUS_D3HOT, 0)]

/-- LINK_DOWN (R119). -/
def execLinkDown (s : State) : Host.Outcome State Fault Refusal :=
  .next ((s.linkLost.flag PCIE_STATUS_LINK_DOWN_SEEN).hostReset)

/-- HOT_RESET (R119): bus mastering and D3hot end with the function's configuration. -/
def execHotReset (s : State) : Host.Outcome State Fault Refusal :=
  .next (((s.fsets [(PCIE_STATUS_BME, 0), (PCIE_STATUS_D3HOT, 0)]).flag PCIE_STATUS_HOT_RESET_SEEN).hostReset)

/-- FUNCTION_LEVEL_RESET (R119). -/
def execFunctionLevelReset (s : State) : Host.Outcome State Fault Refusal :=
  .next (((s.fsets [(PCIE_STATUS_BME, 0), (PCIE_STATUS_D3HOT, 0)]).flag PCIE_STATUS_FLR_SEEN).hostReset)

/-- D3HOT_ENTRY (R119, R133): the registers and the rings stay; a transfer in progress is interrupted. -/
def execD3hotEntry (s : State) : Host.Outcome State Fault Refusal := .next ((s.fset PCIE_STATUS_D3HOT 1).restartTransfers)

/-- PCIE_PERST_N (R386): resets only the host interface; the link trains anew. -/
def execPciePerst (s : State) : Host.Outcome State Fault Refusal :=
  .next ((s.linkLost.flag PCIE_STATUS_LINK_DOWN_SEEN).hostReset)

end Sys2Proof.Machine
end

