-- ==== Sys2Proof/Machine/Dma.lean ====
section
/-! DEFINITION. Plane-pool allocation, the transfers of planes, and the DMA channels as their registers show them (R131 to R133, R139,
R142, R144, R154, R155). -/

namespace Sys2Proof.Machine

/-! ### Memories in device space (R9 to R11) -/

/-- A range that lies wholly in the usable page store. -/
def State.inDram (s : State) (a len : Nat) : Bool := decide (a + len ≤ s.usable)

/-- A range of the SRAM window whose every byte is mapped. -/
def inSram (a len : Nat) : Bool :=
  decide (0x1000000000 ≤ a) && (List.range ((a + len - 1) / 0x10000 - a / 0x10000 + 1)).all (fun i => (sramKind ((a / 0x10000 + i) * 0x10000 - 0x1000000000)).isSome)

/-- Bytes of a memory in device space; what is not mapped reads 0. -/
def State.devGet (s : State) (a len : Nat) : List Byte :=
  if s.inDram a len ∨ inSram a len = true then s.rawGet a len else List.replicate len 0

/-- Write bytes to a memory in device space. -/
def State.devPut (s : State) (a : Nat) (b : List Byte) : State :=
  if s.inDram a b.length ∨ inSram a b.length = true then s.rawPut a b else s

/-! ### Plane space (R154, R155) -/

/-- The blocks that a plane takes. -/
def planeBlocks (p : Plane) : Nat := (p.entry.length + 2 ^ 21 - 1) / 2 ^ 21

/-- The free blocks of the plane pool, ascending. -/
def State.freeList (s : State) : List Nat :=
  (List.range (s.fget DRAMC_POOL_POOL_BLOCKS)).filter (fun b => !s.mem.used.contains b)

/-- Give each plane its blocks, in entry order. -/
def giveBlocks : List Plane → List Nat → List Plane
  | [], _ => []
  | p :: t, bs => { p with blocks := bs.take (planeBlocks p) } :: giveBlocks t (bs.drop (planeBlocks p))

/-- The sheet whose planes are to be allocated next (R131, R154): the lowest-numbered one that waits for space. -/
def State.toAllocate (s : State) : Option Sheet :=
  s.led.sheets.find? (fun sh => !sh.allocated && !sh.st.isFinal && sh.planeError.isNone && !sh.planes.isEmpty
    && (match s.host.owed with | some (_, q, _) => q != sh.seq | none => true))

/-- The channels of the host-link service that move nothing. -/
def State.idleChannels (s : State) : List Nat :=
  (List.range 8).filter (fun n => match kvGet s.dma n with | some c => c.plane.isNone | none => true)

/-- The planes that are still to be started, in order (R131). -/
def State.toMove (s : State) : List (Nat × Nat) :=
  s.led.sheets.flatMap (fun sh =>
    if sh.allocated ∧ sh.planeError = none then
      (sh.planes.zipIdx.filter (fun p => !p.1.ok && !p.1.bad && !p.1.freed
        && !s.dma.any (fun e => e.2.plane == some (sh.seq, p.2)))).map (fun p => (sh.seq, p.2))
    else [])

/-- Start planes on the idle channels, which are no longer halted (R133). -/
def State.startPlanes (s : State) : State :=
  (s.idleChannels.zip s.toMove).foldl (fun s e =>
    { s with dma := kvSet s.dma e.1 { ((kvGet s.dma e.1).getD ⟨0, none⟩) with plane := some e.2 } }.fset (DMAn_STATUS_HALTED e.1) 0) s

/-- BUS_MASTER_ENABLE (R133): the host configures the function, as it chooses (log entry 46), and enables bus mastering on a link that is trained,
in D0; interrupted transfers restart. -/
def execBusMasterEnable (s : State) : Host.Outcome State Fault Refusal :=
  .next (if s.bit PCIE_CTRL_LINK_EN then
      let s1 := s.draw.2.linkUp.fsets [(PCIE_STATUS_BME, 1), (PCIE_STATUS_D3HOT, 0)]
      { s1 with host := { s1.host with cfg := Config.hostCfg s.freeCtr } }.msixFlush.startPlanes
    else s)

/-- Allocation for the next sheet (R154, R155). -/
def State.allocate (s : State) : State :=
  match s.toAllocate with
  | none => s.startPlanes
  | some sh =>
    let need := (sh.planes.map planeBlocks).foldl (· + ·) 0
    if s.fget DRAMC_POOL_POOL_BLOCKS < need then
      (if sh.tooSmall then s else (s.modSheet sh.seq (fun x => { x with tooSmall := true })).sendFault 0x008 0x01 (sh.seq % 65536)).startPlanes
    else if s.freeList.length < need then s.startPlanes
    else
      let bs := s.freeList.take need
      let s1 := s.modSheet sh.seq (fun x => { x with allocated := true, planes := giveBlocks x.planes bs })
      ({ s1 with mem := { s1.mem with used := (List.range (s.fget DRAMC_POOL_POOL_BLOCKS)).filter (fun b => s.mem.used.contains b || bs.contains b) } }).startPlanes

/-- PLANE_ALLOCATE (R154). -/
def execPlaneAllocate (s : State) : Host.Outcome State Fault Refusal := .next s.allocate

/-- A plane's transfer fails (R133): the sheet's space is freed and PLANE_ERROR is posted; kind 1 CRC, 2 host read. -/
def State.planeFail (s : State) (seq i kind crc : Nat) : State :=
  match s.sheet? seq with
  | some sh =>
    let s1 := (s.freePlanes seq).modSheet seq (fun x => { x with planeError := some (i, kind, crc), planes := x.planes.map (fun p => { p with ok := false }) })
    s1.postKept (.planeError seq i kind crc sh.hostTag)
  | none => s

/-- Every plane of a sheet has arrived (R131): PLANES_READY. -/
def State.planesDone (s : State) (seq : Nat) : State :=
  match s.sheet? seq with
  | some sh =>
    if sh.planes.all (fun p => p.ok) ∧ sh.readySent = false then
      ((s.record 0x24 0 (sh.planes.map (fun p => (p.entry.crc : Int)))).modSheet seq (fun x => { x with readySent := true })).postKept
        (.planesReady seq sh.planes.length sh.hostTag)
    else s
  | none => s

/-- Write bytes of a plane, whose blocks hold 2 MiB each. -/
def State.planeWrite (s : State) (p : Plane) (o : Nat) (b : List Byte) : State :=
  (s.dramWrite (p.addr o) (b.take (2 ^ 21))).dramWrite (p.addr (o + 2 ^ 21)) (b.drop (2 ^ 21))

/-- A descriptor of a plane is done (R131): at most 4 MiB with chained CRC, from the bytes that the host's memory holds. -/
def State.planeChunk (s : State) (n seq i : Nat) (hostBytes : List Byte) : State :=
  match (s.sheet? seq).bind (fun sh => sh.planes[i]?) with
  | none => s
  | some p =>
    let len := min (2 ^ 22) (p.entry.length - p.got)
    let b := (hostBytes ++ List.replicate len 0).take len
    let crc := crc32Run p.crc b
    let done := decide (p.entry.length ≤ p.got + len)
    let good := done && crc ^^^ 0xFFFFFFFF == p.entry.crc
    let s1 := ((s.planeWrite p p.got b).fwrap (DMAn_COUNT_DONE n) 1).modSheet seq (fun x => { x with planes := x.planes.zipIdx.map (fun q =>
      if q.2 = i then { q.1 with got := p.got + len, crc := crc, ok := good } else q.1) })
    if done = false then s1
    else
      let s2 := { s1 with dma := kvMod s1.dma n (fun c => { c with plane := none }) }
      ((if good then s2.planesDone seq else s2.planeFail seq i 1 (crc ^^^ 0xFFFFFFFF)).startPlanes)

/-! ### Channels 8 to 15 -/

/-- The fault source of a channel (R410). -/
def dmaSrc (n : Nat) : Nat := 0x020 + n

/-- k of R142, clamped. -/
def State.dmaK (s : State) (n : Nat) : Nat := max 3 (min 16 (s.fget (DMAn_RING_SIZE_LOG2 n)))

/-- HEAD and TAIL. -/
def State.dmaHead (s : State) (n : Nat) : Nat := s.fget (DMAn_HEAD_HEAD n) % 2 ^ s.dmaK n
def State.dmaTail (s : State) (n : Nat) : Nat := s.fget (DMAn_HEAD_TAIL n) % 2 ^ s.dmaK n

/-- A channel has pending descriptors. -/
def State.dmaPending (s : State) (n : Nat) : Bool :=
  if n < 8 then (match kvGet s.dma n with | some c => c.plane.isSome | none => false) else s.dmaHead n != s.dmaTail n

/-- The address of the descriptor at an index, in its space: 0 device, 2 segment. -/
def State.descAddr (s : State) (n i : Nat) : Nat :=
  s.fget (DMAn_RING_LO_BASE_LO n) * 32 + (if s.fget (DMAn_RING_HI_SPACE n) = 0 then s.fget (DMAn_RING_HI_BASE_HI n) * 2 ^ 32 else 0) + 32 * i

/-- A segment range of a task (R141): [31:28] the segment and [27:0] the offset; the whole range lies in it; none where it does not. -/
def State.segRange (s : State) (task a len : Nat) : Option SegDesc :=
  match s.task? task with
  | some t => t.hdr.segs.find? (fun d => d.seg == a / 2 ^ 28 && decide (a % 2 ^ 28 + len ≤ d.size) && decide (a < 2 ^ 32))
  | none => none

/-- Bytes of the ring. -/
def State.ringGet (s : State) (n a len : Nat) : List Byte :=
  if s.fget (DMAn_RING_HI_SPACE n) = 0 then s.devGet a len else s.segGet (s.fget (DMAn_CTRL_OWNER n)) a len

/-- Write bytes of the ring. -/
def State.ringPut (s : State) (n a : Nat) (b : List Byte) : State :=
  if s.fget (DMAn_RING_HI_SPACE n) = 0 then s.devPut a b
  else match s.segRange (s.fget (DMAn_CTRL_OWNER n)) a b.length with
    | some _ => s.segPut (s.fget (DMAn_CTRL_OWNER n)) a b
    | none => s

/-- The channel runs and has a descriptor to work on (R142, R147). -/
def State.dmaRuns (s : State) (n : Nat) : Bool :=
  decide (8 ≤ n) && s.bit (DMAn_CTRL_ENABLE n) && !s.bit (DMAn_STATUS_HALTED n) && s.dmaPending n

/-- A channel that has a descriptor to work on starts it: its B field takes effect (R147). -/
def State.dmaStart (s : State) (n : Nat) : State := if s.dmaRuns n then s.applyShadow [DMAn_CTRL_WEIGHT n] else s

/-- OWN of the descriptor at HEAD is cleared, HEAD advances, and the next descriptor starts. -/
def State.dmaAdvance (s : State) (n : Nat) : State :=
  let a := s.descAddr n (s.dmaHead n)
  let w0 := bytesToNat (s.ringGet n a 4)
  let s1 := s.ringPut n a (natToBytes (w0 % 2 ^ 31) 4)
  (s1.fset (DMAn_HEAD_HEAD n) ((s.dmaHead n + 1) % 2 ^ s.dmaK n)).dmaStart n

/-- A doorbell (R142): a new TAIL, or refused. The caller has refused a channel of the host-link service. -/
def State.doorbell (s : State) (n tail : Nat) : State :=
  let m := 2 ^ s.dmaK n
  let t := tail % m
  if (t + m - s.dmaHead n) % m < (s.dmaTail n + m - s.dmaHead n) % m then s.flag (DMAn_STATUS_DOORBELL_REFUSED n)
  else if s.dmaPending n then s.fset (DMAn_HEAD_TAIL n) t
  else (s.fset (DMAn_HEAD_TAIL n) t).dmaStart n

/-- RESUME (R144). -/
def State.dmaResume (s : State) (n : Nat) : State :=
  if s.bit (DMAn_STATUS_HALTED n) then (s.fset (DMAn_STATUS_HALTED n) 0).dmaStart n else s

/-- SKIP (R144). -/
def State.dmaSkip (s : State) (n : Nat) : State :=
  if s.bit (DMAn_STATUS_HALTED n) then ((s.dmaAdvance n).fset (DMAn_STATUS_HALTED n) 0).dmaStart n else s

/-- A write of an engine program to a channel of the host-link service is refused (R139). -/
def State.dmaOwn (s : State) (n : Nat) (t : State) : State := if n < 8 then s.flag (DMAn_STATUS_WRITE_REFUSED n) else t

/-- DMA_DOORBELL (R142). -/
def execDmaDoorbell (n : Nat) (tail : Nat) (s : State) : Host.Outcome State Fault Refusal := onUnit (n < 16) (s.dmaOwn n (s.doorbell n tail))

/-- DMA_RESUME (R144). -/
def execDmaResume (n : Nat) (s : State) : Host.Outcome State Fault Refusal := onUnit (n < 16) (s.dmaOwn n (s.dmaResume n))

/-- DMA_SKIP (R144). -/
def execDmaSkip (n : Nat) (s : State) : Host.Outcome State Fault Refusal := onUnit (n < 16) (s.dmaOwn n (s.dmaSkip n))

end Sys2Proof.Machine
end

