-- ==== Sys2Proof/Machine/Handoff.lean ====
section
/-! DEFINITION. Hand-off of sheets between controllers: the send queue, frames, acknowledgements and the receive queue (R22 to
R25). -/

namespace Sys2Proof.Machine

/-- The payload of a received frame that is a hand-off frame: sent to the broadcast address, with the EtherType of SYS_HANDOFF and 46 bytes
at least, of which an Ethernet frame may pad more (R23, R24). -/
def State.hoFrameOf (s : State) (e : EthFrame) : Option HoFrame :=
  if e.dst = ethBroadcast ∧ e.etherType = s.fget SYS_HANDOFF_ETHERTYPE ∧ 46 ≤ e.payload.length then some (hoParse e.payload) else none

/-- The frame of a hand-off message (R24). -/
def State.hoFrame (s : State) (m : HoMsg) : HoFrame :=
  ⟨1, 1, s.ctrlNum, m.rcv, s.ho.epoch, m.hnum, m.seq, m.time, m.resync, 0⟩

/-- The oldest message for a receiver, which is the one that may be unacknowledged (R23). -/
def State.hoHead (s : State) (rcv : Nat) : Option HoMsg := s.ho.sendQ.find? (fun m => m.rcv == rcv)

/-- Change a message of the send queue. -/
def State.modMsg (s : State) (rcv hnum : Nat) (f : HoMsg → HoMsg) : State :=
  { s with ho := { s.ho with sendQ := s.ho.sendQ.map (fun m => if m.rcv = rcv ∧ m.hnum = hnum then f m else m) } }

/-- Send a message's frame now. -/
def State.hoTransmit (s : State) (m : HoMsg) : State :=
  (s.sendFrame (s.fget SYS_HANDOFF_PORT) (s.hoFrame m)).modMsg m.rcv m.hnum (fun x => { x with sent := true, lastSent := s.tick })

/-- The oldest message for a receiver is sent for the first time, where it has not been sent (R23, order). -/
def State.hoNext (s : State) (rcv : Nat) : State :=
  match s.hoHead rcv with
  | some m => if m.sent then s else s.hoTransmit m
  | none => s

/-- SEND of SYS_HO_TX_CMD (R23, R25): refused when the queue is full or the controller itself is named. -/
def State.hoSend (s : State) (rcv : Nat) : State :=
  if 16 ≤ s.ho.sendQ.length ∨ rcv = s.ctrlNum then s.flag SYS_STATUS_HO_REFUSED
  else
    let hnum := ((kvGet s.ho.lastHnum rcv).getD 0 + 1) % 2 ^ 32
    let m : HoMsg := ⟨rcv, hnum, s.fget SYS_HO_TX_SEQ_LO_VALUE + s.fget SYS_HO_TX_SEQ_HI_VALUE * 2 ^ 32,
      s.fget SYS_HO_TX_TIME_LO_VALUE + s.fget SYS_HO_TX_TIME_HI_VALUE * 2 ^ 32, s.ho.resyncNext.contains rcv, false, 0, 0⟩
    { s with ho := { s.ho with sendQ := s.ho.sendQ ++ [m], lastHnum := kvSet s.ho.lastHnum rcv hnum,
                               resyncNext := s.ho.resyncNext.filter (fun r => r != rcv) } }.hoNext rcv

/-- HANDOFF_SEND (R25). -/
def execHandoffSend (rcv : Nat) (s : State) : Host.Outcome State Fault Refusal := onUnit (rcv < 4) (s.hoSend rcv)

/-- A frame that a controller does not discard (R24). -/
def State.hoMine (s : State) (f : HoFrame) : Bool := f.version == 1 && f.to_ == s.ctrlNum && decide (f.from_ < 4)

/-- The HANDOFF record of an accepted message (R25, R46). -/
def State.hoRec (s : State) (f : HoFrame) : JRec :=
  { s.plainRec 0x07 f.seq (f.from_ + (if f.resync then 4 else 0)) with time := f.time, commitPos := (f.epoch : Int), effPitch := f.hnum }

/-- Accept a message (R25): journaled, kept, queued, acknowledged; a full receive queue neither accepts nor acknowledges, and a record
that must wait leaves the message to its sender's resends (R44). In GUARANTEE_DEGRADED a record is journaled once it is programmed (R45, R55):
the acknowledgement waits for that. -/
def State.hoAccept (s : State) (port : Nat) (f : HoFrame) : State :=
  if 16 ≤ s.ho.rxQ.length then ((s.flag SYS_HO_RX_LEVEL_RX_OVF).sendFree 0x00F 0x03).1
  else if 192 ≤ s.jrn.staged.length then s
  else
    let r := { s.hoRec f with jseq := s.jrn.jseq }
    let s1 := s.stage r
    let s2 := { s1 with ho := { s1.ho with kept := kvSet s1.ho.kept f.from_ (f.epoch, f.hnum), newest := kvSet s1.ho.newest f.from_ r,
                                           rxQ := s1.ho.rxQ ++ [f] } }
    (if s.degraded then { s2 with ho := { s2.ho with owedAcks := s2.ho.owedAcks ++ [(r.jseq, port, f)] } } else s2.hoAck port f 0).event
      (selOf 0x000000 0)

/-- The acknowledgement of this message waits for its record (R25). -/
def State.ackOwed (s : State) (f : HoFrame) : Bool := s.ho.owedAcks.any (fun e => e.2.2.from_ == f.from_ && e.2.2.epoch == f.epoch && e.2.2.hnum == f.hnum)

/-- A received HANDOFF frame (R23 to R25). -/
def State.hoReceive (s : State) (port : Nat) (f : HoFrame) : State :=
  match kvGet s.ho.kept f.from_ with
  | some (e, last) =>
    if e = f.epoch then
      if f.hnum = last + 1 then s.hoAccept port f
      else if f.hnum ≤ last then (if s.ackOwed f then s else s.hoAck port f 1)
      else (s.hoAck port f 2).sendFaultC 0x00F 0x01 f.from_ 1
    else if f.hnum = 1 ∨ f.resync = true then s.hoAccept port f
    else s.hoAck port f 3
  | none => if f.hnum = 1 ∨ f.resync = true then s.hoAccept port f else s.hoAck port f 3

/-- HANDOFF_FRAME_RX (R23). -/
def execHandoffFrameRx (port : Nat) (e : EthFrame) (s : State) : Host.Outcome State Fault Refusal :=
  onUnit (port < 2) (match s.hoFrameOf e with
    | some f => if s.hoMine f = true ∧ f.typ = 1 then s.hoReceive port f else s
    | none => s)

/-- An acknowledgement of an accepted message or of a repeat frees the message; the next one for that receiver is sent. -/
def State.hoDone (s : State) (m : HoMsg) : State :=
  let s1 := { s with ho := { s.ho with sendQ := s.ho.sendQ.filter (fun x => !(x.rcv == m.rcv && x.hnum == m.hnum)) } }
  ((s1.fsets [(SYS_HO_TX_ACK_LO_SEQ, m.seq), (SYS_HO_TX_ACK_HI_SEQ, m.seq / 2 ^ 32)]).event (selOf 0x000000 1)).hoNext m.rcv

/-- Resend a message; after 20 resends it is only abandoned (R23). -/
def State.hoAgain (s : State) (m : HoMsg) : State :=
  if m.resends < 20 then (s.modMsg m.rcv m.hnum (fun x => { x with resends := m.resends + 1 })).hoTransmit { m with resends := m.resends + 1 }
  else s

/-- An ACK frame (R23): of the unacknowledged message of its sender alone. A gap is no acknowledgement: the resends go on. -/
def State.hoAcked (s : State) (f : HoFrame) : State :=
  match s.hoHead f.from_ with
  | some m =>
    if s.hoMine f = true ∧ f.typ = 2 ∧ m.sent = true ∧ f.epoch = s.ho.epoch ∧ f.hnum = m.hnum ∧ f.seq = m.seq ∧ f.time = m.time then
      if f.status = 0 ∨ f.status = 1 then s.hoDone m
      else if f.status = 3 then (s.modMsg m.rcv m.hnum (fun x => { x with resync := true })).hoAgain { m with resync := true }
      else s
    else s
  | none => s

/-- HANDOFF_ACK_RX (R23). -/
def execHandoffAckRx (e : EthFrame) (s : State) : Host.Outcome State Fault Refusal :=
  .next (match s.hoFrameOf e with
    | some f => s.hoAcked f
    | none => s)

/-- HANDOFF_RESEND (R23): 1 ms after the last transmission. -/
def execHandoffResend (rcv : Nat) (s : State) : Host.Outcome State Fault Refusal :=
  onUnit (rcv < 4) (match s.hoHead rcv with
    | some m => if m.sent = true ∧ m.lastSent + msTicks 1 ≤ s.tick then s.hoAgain m else s
    | none => s)

/-- HANDOFF_LOST (R23, R25): 20 resends have not been acknowledged; the next message to that receiver carries RESYNC. -/
def execHandoffLost (rcv : Nat) (s : State) : Host.Outcome State Fault Refusal :=
  onUnit (rcv < 4) (match s.hoHead rcv with
    | some m =>
      if m.sent = true ∧ m.resends = 20 ∧ m.lastSent + msTicks 1 ≤ s.tick then
        let rest := s.ho.sendQ.filter (fun x => !(x.rcv == rcv && x.hnum == m.hnum))
        let nxt := (rest.find? (fun x => x.rcv == rcv)).map (fun x => x.hnum)
        let mark := fun (x : HoMsg) => if x.rcv = rcv ∧ some x.hnum = nxt then { x with resync := true } else x
        let s1 := { s with ho := { s.ho with sendQ := rest.map mark
                                             resyncNext := if nxt.isNone then s.ho.resyncNext ++ [rcv] else s.ho.resyncNext } }
        (((s1.fsat SYS_HO_TX_STATUS_LOST 1).sendFaultC 0x00F 0x02 rcv 1).event (selOf 0x000000 2)).hoNext rcv
      else s
    | none => s)

/-- The five words of a receive-queue entry (SYS_HO_RX_Ww). -/
def hoRxWords (f : HoFrame) : List Nat :=
  [2 ^ 31 + (if f.resync then 256 else 0) + f.from_ % 4, f.seq % 2 ^ 32, f.seq / 2 ^ 32 % 2 ^ 32, f.time % 2 ^ 32, f.time / 2 ^ 32 % 2 ^ 32]

/-- A read of SYS_HO_RX_W0 (R25): the oldest entry is removed and its five words are captured; an empty queue reads 0. -/
def State.hoRxPop (s : State) : State :=
  let ws := match s.ho.rxQ with
    | f :: _ => hoRxWords f
    | [] => [0, 0, 0, 0, 0]
  { s with ho := { s.ho with rxQ := s.ho.rxQ.tail },
           snap := ws.zipIdx.foldl (fun m e => kvSet m (0x20000000E0 + 4 * e.2) e.1) s.snap }

/-- HO_RX_READ (R25). -/
def execHoRxRead (s : State) : Host.Outcome State Fault Refusal := .next s.hoRxPop

end Sys2Proof.Machine
end

