-- ==== Sys2Proof/Machine/MemEvents.lean ====
section
/-! DEFINITION. Scrubbing, leaky buckets, repair, reservations and the merge buffer (R150, R157 to R167). -/

namespace Sys2Proof.Machine

/-! ### Remapped lines and spare rows (R166, R167) -/

/-- The line that MEMI_REMAP_ADDR names. -/
def State.remapLine (s : State) : Nat := (s.fget MEMI_REMAP_ADDR_LO_LINE + s.fget MEMI_REMAP_ADDR_HI_LINE * 2 ^ 32) / 64

/-- Action 1 of MEMI_REMAP_CMD (R166): a line of the usable page store. -/
def State.remapCmd (s : State) : State := if s.remapLine * 64 < s.usable then s.remapAdd s.remapLine false else s

/-- Action 2 of MEMI_REMAP_CMD: the entry is copied back and removed. -/
def State.remapRemove (s : State) : State :=
  match s.remapOf s.remapLine with
  | some e => { s with mem := { s.mem with remap := kvDel s.mem.remap e, unsaved := true } }.remapCount
  | none => s

/-- REMAP_LINE (R166). -/
def execRemapLine (s : State) : Host.Outcome State Fault Refusal := .next s.remapCmd

/-- REMAP_REMOVE (R166). -/
def execRemapRemove (s : State) : Host.Outcome State Fault Refusal := .next s.remapRemove

/-- A word of SRAM has shown a parity error (R167, R170): counted for its macro; the second time its row is replaced by a spare row; a fifth failing
row sends a class B message and retires the macro's owner. -/
def State.rowError (s : State) (a : Nat) : State :=
  let mac := Config.macroOf a
  let row := Config.rowOf a
  let s1 := { s with mem := { s.mem with macroErrs := kvSet s.mem.macroErrs mac (min 8191 ((kvGet s.mem.macroErrs mac).getD 0 + 1)) } }
  if s.mem.spareRows.contains (mac, row) then s1
  else if s.mem.onceRows.contains (mac, row) = false then { s1 with mem := { s1.mem with onceRows := s1.mem.onceRows ++ [(mac, row)] } }
  else if s.bit MEMI_CTRL_AUTO_SPARE = false then s1
  else if (s.mem.spareRows.filter (fun r => r.1 == mac)).length < 4 then
    { s1 with mem := { s1.mem with spareRows := s1.mem.spareRows ++ [(mac, row)], onceRows := s1.mem.onceRows.filter (fun r => r != (mac, row)),
                                   unsaved := true } }
  else
    let src := Config.macroSource mac
    let s2 := s1.draw.2.draw.2.sendFaultC src (1 + s1.draw.1 % 63) s1.draw.2.draw.1 1
    if monitored src ∧ s2.unitOk src = true ∧ s2.serving src = true then s2.retireUnit src else s2

/-- REPAIR_SAVE (R167): the repairs are saved in the settings store. -/
def execRepairSave (s : State) : Host.Outcome State Fault Refusal :=
  .next (if s.mem.unsaved then { s with mem := { s.mem with saved := (s.mem.remap, s.mem.spareRows), unsaved := false } } else s)

/-! ### What a check of a unit finds (R162 to R165) -/

/-- The planes that are resident at an address of the plane pool: their sheet and place. -/
def State.planesAt (s : State) (a : Nat) : List (Nat × Nat) :=
  s.led.sheets.flatMap (fun sh =>
    if sh.locked then [] else
    (sh.planes.zipIdx.filter (fun p => p.1.ok && !p.1.freed && p.1.blocks.zipIdx.any (fun b =>
      b.1 == a / 2 ^ 21 && decide (b.2 * 2 ^ 21 + a % 2 ^ 21 < p.1.entry.length)))).map (fun p => (sh.seq, p.2)))

/-- A check of a page-store unit finds an error of kind 1, which it corrects in the page store too, or 2 uncorrectable (R162, R165, R166): of a new one,
which word of the unit it is the walk's command says, and of another check it is free (log entry 2). -/
def State.unitFound (s : State) (a kind : Nat) (walk : Option Nat) : State :=
  if kind = 1 then
    let s1 := { s with mem := { s.mem with oneBits := s.mem.oneBits.filter (fun w => w / 8 != a / 64) } }
    ((s1.eccErr a 1).bucketAdd 0).lineSeen (a / 64) walk.isSome
  else
    let s1 := s.eccErr a 2
    let s2 := if s1.mem.badWords.any (fun w => w / 8 == a / 64) then s1
      else match walk with
        | some w => { s1 with mem := { s1.mem with badWords := s1.mem.badWords ++ [a / 8 + w % 8] } }
        | none => { s1.draw.2 with mem := { s1.mem with badWords := s1.mem.badWords ++ [a / 8 + s1.draw.1 % 8] } }
    (s2.planesAt a).foldl (fun s p => s.dataLost p.1 p.2 0) s2

/-- The error that a check of a page-store unit finds: one that stands there, or the one that the command names, which a line served from its remap
entry cannot show (R166). -/
def State.unitKind (s : State) (u err : Nat) : Nat :=
  if s.mem.badWords.any (fun w => w / 8 == u) then 2
  else if (s.remapOf u).isSome then 0
  else if err = 2 then 2
  else if err = 1 ∨ s.mem.oneBits.any (fun w => w / 8 == u) = true then 1 else 0

/-- Whether an address lies in a data segment of a task, and whether in its code. -/
def State.inSegment (s : State) (a : Nat) : Bool :=
  s.ex.tasks.any (fun e => e.2.hdr.segs.any (fun d => decide (e.2.segAddr (d.seg * 2 ^ 28) ≤ a ∧ a < e.2.segAddr (d.seg * 2 ^ 28) + d.size)))

/-- A word of which both copies fail parity has been found (R160): it stays failing until it is written or fetched again; where supervisor SRAM holds
no engine data it is a package fault. -/
def State.sramDouble (s : State) (a : Nat) : State :=
  let s1 := s.rowError a
  let s2 := { s1 with mem := { s1.mem with sramOne := s1.mem.sramOne.filter (fun w => w != a),
                                           sramBad := if s1.mem.sramBad.contains a then s1.mem.sramBad else s1.mem.sramBad ++ [a] } }
  if sramBase + 0x200000 ≤ a ∧ a < sramBase + 0x300000 ∧ s2.inSegment a = false then s2.resetEv 3 else s2

/-- A word of which one copy fails, or a backed word that fails, has been found: it is corrected from its twin, or from its source (R11, R159). -/
def State.sramFixed (s : State) (c a : Nat) : State :=
  let s1 := (s.rowError a).bucketAdd c
  { s1 with mem := { s1.mem with sramOne := s1.mem.sramOne.filter (fun w => w != a), sramLost := s1.mem.sramLost.filter (fun w => w != a) } }

/-- A read of a range of SRAM (R11, R159, R160): what its failing words cause, and whether both copies of one fail. -/
def State.sramRead (s : State) (a len : Nat) : State × Bool :=
  let bad := sramHit s.mem.sramBad a len
  let s1 := (sramHit s.mem.sramLost a len).foldl (fun s w => s.sramFixed 2 w) ((sramHit s.mem.sramOne a len).foldl (fun s w => s.sramFixed 1 w) s)
  (bad.foldl State.sramDouble s1, !bad.isEmpty)

/-- A read of a range of a memory, by its device address: what it reports, and whether a word of it cannot be read right. -/
def State.memCheck (s : State) (a len : Nat) : State × Bool := if a < sramBase then s.dramRead a len else s.sramRead a len

/-- No word of a range fails. -/
def Mem.clean (m : Mem) (a len : Nat) : Bool :=
  if a < sramBase then (wordsHit (m.badWords ++ m.oneBits) a len).isEmpty
  else (sramHit m.sramOne a len).isEmpty && (sramHit m.sramBad a len).isEmpty && (sramHit m.sramLost a len).isEmpty

/-- What a check of the SRAM unit at an address finds: the words that stand failing there, and the error that the command names, in the word of the
unit that it names. -/
def State.sramFound (s : State) (c a err word : Nat) : State :=
  let w := a + word % 16 * 4
  let s1 := (s.sramRead a 64).1
  if err = 2 ∧ c = 1 then s1.sramDouble w
  else if err = 1 ∨ err = 2 then s1.sramFixed c w
  else s1

/-- Whether a check of an SRAM unit finds an uncorrectable error (2), a corrected one (1) or none. -/
def State.sramKindAt (s : State) (c a err : Nat) : Nat :=
  if (err = 2 ∧ c = 1) ∨ sramHit s.mem.sramBad a 64 ≠ [] then 2
  else if err = 1 ∨ err = 2 ∨ sramHit (s.mem.sramOne ++ s.mem.sramLost) a 64 ≠ [] then 1 else 0

/-- The ranges of paired memory, each its base and its 64-byte units (R11, R120, R159): the SRAM window, BAR0, the remap entries. Of the last two the
spec gives no place in the ascending order: they come last (DESIGN CHOICE, log entry 44). -/
def pairedRanges : List (Nat × Nat) :=
  [(sramBase, 0x150000 / 64), (sramBase + 0x200000, 0x100000 / 64), (hifBase, 0x2000 / 64), (hifBase + 0x8000, 16), (hifBase + 0x9000, 1),
   (hifBase + 0x10000, 0x50000 / 64), (hifBase + 0x100000, 0x200000 / 64), (remapSpace, 32)]

/-- The address of the `k`-th unit of a list of ranges. -/
def rangeUnit : List (Nat × Nat) → Nat → Nat
  | [], _ => 0
  | (b, n) :: t, k => if k < n then b + 64 * k else rangeUnit t (k - n)

/-- The address of the unit `k` of a class: paired 1, backed 2. -/
def sramUnit (c k : Nat) : Nat := if c = 2 then sramBase + 0x400000 + 64 * k else rangeUnit pairedRanges k

/-- How many units a class's walk visits (R163). -/
def State.walkUnits (s : State) (c : Nat) : Nat :=
  if c = 0 then s.usable / 64 else if c = 1 then (pairedRanges.map (fun r => r.2)).foldl (· + ·) 0 else 0x700000 / 64

/-- SCRUB_WALK_STEP (R163): the walk of class 0, 1 or 2 reads the unit `k`, the next one; `err` is a new error that it finds there, in the unit's
word `word`. The walk of the page store waits for ZEROED. Class 3 has no walk. -/
def execScrubWalkStep (c k err word : Nat) (s : State) : Host.Outcome State Fault Refusal :=
  onUnit (c < 3) (
    let iv := s.fget (MEMI_SCRUBc_SCRUB_INT c)
    let due := match kvGet s.mem.walkTick c with
      | some t => decide (t + usTicks iv ≤ s.tick)
      | none => true
    let n := s.walkUnits c
    if iv = 0 ∨ due = false ∨ n = 0 ∨ k ≠ (kvGet s.mem.walkAt c).getD 0 then s else
    let next := if k + 1 < n then k + 1 else 0
    let s0 := { s with mem := { s.mem with walkAt := kvSet s.mem.walkAt c next, walkTick := kvSet s.mem.walkTick c s.tick } }
    let s1 := if next = 0 then s0.fwrap (MEMI_SCRUBc_PASSES c) 1 else s0
    if c = 0 then
      if s1.unitKind k err = 0 then s1 else s1.unitFound (k * 64) (s1.unitKind k err) (some word)
    else s1.sramFound c (sramUnit c k) err word)

/-! ### The range pass (R164) -/

/-- The bounds of a range pass, each 64-byte aligned: its first and its last unit. -/
def State.rangeStart (s : State) : Nat := (s.fget MEMI_RANGE_START_LO_ADDR + s.fget MEMI_RANGE_START_HI_ADDR * 2 ^ 32) / 64 * 64
def State.rangeEnd (s : State) : Nat := (s.fget MEMI_RANGE_END_LO_ADDR + s.fget MEMI_RANGE_END_HI_ADDR * 2 ^ 32) / 64 * 64

/-- GO of MEMI_RANGE_CMD (R164): refused while a pass runs, or where the range is not wholly in the usable page store or the window. -/
def State.rangeGo (s : State) : State :=
  let a := s.rangeStart
  let b := s.rangeEnd
  let ok := decide (a ≤ b) && (decide (b + 64 ≤ s.usable) || (decide (0x1000000000 ≤ a) && decide (b + 64 ≤ 0x1001000000)))
  if s.bit MEMI_STATUS_RANGE_BUSY ∨ ok = false then s.flag MEMI_STATUS_RANGE_REFUSED
  else { s with mem := { s.mem with rangeAt := some (a, b) } }.fset MEMI_STATUS_RANGE_BUSY 1

/-- RANGE_PASS_GO (R164). -/
def execRangePassGo (s : State) : Host.Outcome State Fault Refusal := .next s.rangeGo

/-- The new error that the command of a pass names in a unit, 0 for none. -/
def errNamed (errs : List (Nat × Nat)) (u : Nat) : Nat := ((errs.find? (fun e => e.1 == u)).map (fun e => e.2)).getD 0

/-- One unit that a range pass found failing, with the kind of the worst error there and the new one, `err`, in a word of it that is free (log
entry 2). -/
def State.rangeFound (s : State) (a kind err : Nat) : State :=
  if a < sramBase then s.unitFound a kind none
  else match sramKind (a - sramBase) with
    | some paired =>
      if err = 0 then s.sramFound (if paired then 1 else 2) a 0 0 else s.draw.2.sramFound (if paired then 1 else 2) a err s.draw.1
    | none => s

/-- What a pass finds in a unit, of which the command may name a new error: its kind, 0 for none. -/
def State.rangeKind (s : State) (a err : Nat) : Nat :=
  if a < sramBase then s.unitKind (a / 64) err
  else match sramKind (a - sramBase) with
    | some paired => s.sramKindAt (if paired then 1 else 2) a err
    | none => 0

/-- The failing units of a pass, in ascending order, each with its kind: those that the command names (unit, kind) and those that hold an error. -/
def State.rangeErrs (s : State) (a b : Nat) (errs : List (Nat × Nat)) : List (Nat × Nat) :=
  let known := if a < sramBase then (s.errUnits a (b + 64 - a)).map (fun u => u * 64)
    else (sramHit (s.mem.sramOne ++ s.mem.sramBad ++ s.mem.sramLost) a (b + 64 - a)).map (fun w => w / 64 * 64)
  let more := (errs.filter (fun e => e.1 % 64 == 0 && decide (a ≤ e.1 ∧ e.1 ≤ b) && (e.2 == 1 || e.2 == 2))).map (fun e => e.1)
  (known ++ more).foldl (fun m u => if s.rangeKind u (errNamed errs u) = 0 then m else kvSet m u (s.rangeKind u (errNamed errs u))) []

/-- RANGE_PASS_DONE (R164): the pass ends with the failing units it found. -/
def execRangePassDone (errs : List (Nat × Nat)) (s : State) : Host.Outcome State Fault Refusal :=
  .next (match s.mem.rangeAt with
    | none => s
    | some (a, b) =>
      let es := s.rangeErrs a b errs
      let first := (es.head?.map (fun e => e.1)).getD 0
      let last := (es.getLast?.map (fun e => e.1)).getD 0
      let s1 := es.foldl (fun s e => s.rangeFound e.1 e.2 (errNamed errs e.1)) s
      let s2 := { s1 with mem := { s1.mem with rangeAt := none } }.fsets
        [(MEMI_STATUS_RANGE_BUSY, 0), (MEMI_STATUS_RANGE_DONE, 1),
         (MEMI_RANGE_COUNT_CORR, min 65535 (es.countP (fun (e : Nat × Nat) => e.2 == 1))),
         (MEMI_RANGE_COUNT_UNCORR, min 65535 (es.countP (fun (e : Nat × Nat) => e.2 == 2))),
         (MEMI_RANGE_FIRST_LO_ADDR, first), (MEMI_RANGE_FIRST_HI_ADDR, first / 2 ^ 32),
         (MEMI_RANGE_LAST_LO_ADDR, last), (MEMI_RANGE_LAST_HI_ADDR, last / 2 ^ 32)]
      s2.event (selOf 0x090000 0))

/-! ### Buckets, merge buffer, temperature, reservations -/

/-- LEAK_TICK (R165): LEAK_INT ms have passed since the class's last leak. -/
def execLeakTick (c : Nat) (s : State) : Host.Outcome State Fault Refusal :=
  onUnit (c < 4) (
    let iv := s.fget (MEMI_LEAKc_LEAK_INT c)
    if iv = 0 ∨ s.tick < (kvGet s.mem.leakTick c).getD 0 + msTicks iv then s
    else
      let s1 := s.bucketLeak c
      { s1 with mem := { s1.mem with leakTick := kvSet s1.mem.leakTick c s.tick } })

/-- MERGE_WRITEBACK (R158): all 64 bytes have been written, or the line has had no write for 1 µs. -/
def execMergeWriteback (line : Nat) (s : State) : Host.Outcome State Fault Refusal :=
  .next (match s.mem.merge.find? (fun e => e.line == line) with
    | some e => if e.offs.length = 64 ∨ e.last + usTicks 1 ≤ s.tick then s.mergeDrop line else s
    | none => s)

/-- MR4_READ (R148, R150): MR4 of a channel as read; a temperature above the operating range sends a class B message whose detail is the
MR4 value and whose kind the spec does not state (log entry 2); kinds 1 and 2 are those of R162. -/
def execMr4Read (ch : Nat) (mr4 : Nat) (high : Bool) (s : State) : Host.Outcome State Fault Refusal :=
  onUnit (ch < 2) (
    let due := match kvGet s.mem.mr4Tick ch with
      | some t => decide (t + msTicks 32 ≤ s.tick)
      | none => true
    if s.bit DRAMC_STATUS_READY = false ∨ due = false then s else
    let hs := s.mem.mr4High.filter (fun c => c != ch) ++ (if high then [ch] else [])
    let s1 := { s with mem := { s.mem with mr4Tick := kvSet s.mem.mr4Tick ch s.tick, mr4High := hs } }.fset DRAMC_STATUS_TEMP_HIGH
      (if hs = [] then 0 else 1)
    if high then s1.draw.2.sendFaultC (0x011 + ch) (3 + s1.draw.1 % 61) mr4 1 else s1)

/-- The data rate in MT/s (R148): RATE 3 acts as 2. -/
def State.dramRate (s : State) : Nat :=
  match s.fget DRAMC_CFG_RATE with
  | 0 => 6400
  | 1 => 5500
  | _ => 4266

/-- A write of DRAMC_RSVp (R157, R169): the sum of the latest values must not exceed 70 % of the peak of R149. -/
def State.rsvWrite (s : State) (p v : Nat) : State :=
  let sum := (List.range 7).foldl (fun a i => a + (if i = p then v % 65536 else s.latest (DRAMC_RSVp_RSV i))) 0
  if 7 * (8 * s.dramRate) < 10 * sum then s.flag DRAMC_STATUS_RSV_REFUSED
  else if s.anyActive then s.shadowSet (DRAMC_RSVp_RSV p) v
  else { s.fset (DRAMC_RSVp_RSV p) v with shadow := kvDel s.shadow (DRAMC_RSVp_RSV p).key, shadowAt := kvDel s.shadowAt (DRAMC_RSVp_RSV p).key }

/-- RSV_WRITE (R157). -/
def execRsvWrite (pipe : Nat) (v : Nat) (s : State) : Host.Outcome State Fault Refusal := onUnit (pipe < 7) (s.rsvWrite pipe v)

/-! ### Re-fetches (R160, R161) -/

/-- A line buffer is re-fetched from the plane that it holds lines of (R159, R161): the next one that the station has to fetch. Where in the plane
an uncorrectable word lies is free (log entry 2). -/
def State.lineRefetch (s : State) (n : Nat) (uncorr : Bool) : State :=
  match s.toDecode n with
  | (seq, plane, p) :: _ =>
    if uncorr then
      let a := p.addr (s.draw.1 % max 1 p.entry.length)
      (s.draw.2.eccErr a 2).dataLost seq plane (msgDetail (ddrSrc a) 2 (a / 64 % 65536))
    else s.bucketAdd 2
  | [] => s

/-- BACKED_REFETCH_DONE (R161, R162): a word of a table, or from 32 on of a line buffer, is re-fetched from its source. An uncorrectable source
makes the table invalid and fails the locked sheets that use it. -/
def execBackedRefetchDone (n : Nat) (table : Nat) (uncorr : Bool) (s : State) : Host.Outcome State Fault Refusal :=
  onUnit (n < 6) (
    if 32 ≤ table then s.lineRefetch n uncorr
    else match kvGet (s.stnOf n).source table with
    | none => s
    | some src =>
      let r := s.sourceRead src.1 src.2.1 src.2.2 uncorr
      if r.2 then r.1.refetchLost n table else r.1.bucketAdd 2)

/-- Whether an address lies in the code of a task, or in a read-only segment of it with INIT (R98, R160). -/
def Task.fromImage (t : Task) (a : Nat) : Bool :=
  decide (t.area ≤ a ∧ a < t.area + 4 * t.hdr.codeWords)
  || t.hdr.segs.any (fun d => d.ro && d.init && decide (t.segAddr (d.seg * 2 ^ 28) ≤ a ∧ a < t.segAddr (d.seg * 2 ^ 28) + d.size))

/-- CODE_REFETCH_DONE (R160): a word of code, or of a read-only segment with INIT, of the task on an engine that failed in both copies is
fetched again from the image; the engine resumes, and the stall does not count toward BUDGET. -/
def execCodeRefetchDone (p : Nat) (s : State) : Host.Outcome State Fault Refusal :=
  onUnit (p < nEngines) (match kvGet s.ex.running p with
    | some i => match s.task? i with
      | some t =>
        let s1 := s.setTask i { t with stall := false }
        { s1 with mem := { s1.mem with sramBad := s1.mem.sramBad.filter (fun a => !t.fromImage a) } }
      | none => s
    | none => s)

end Sys2Proof.Machine
end

