-- ==== Sys2Proof/Machine/BusRead.lean ====
section
/-! DEFINITION. Reading a register: the values that registers show of the structured state, captured values (R27), and reads that
act (R3 to R5, R12, R27). -/

namespace Sys2Proof.Machine

/-- A Bool as a field value. -/
def b2n (b : Bool) : Nat := if b then 1 else 0

/-- A number whose bit `i` is `p i`, below `n`. -/
def bitsWhere (n : Nat) (p : Nat → Bool) : Nat := (List.range n).foldl (fun w i => if p i then w + 2 ^ i else w) 0

/-! ### What a register shows of the structured state -/

/-- SYS (R25, R29). -/
def State.liveSYS (s : State) (off : Nat) : List (Fld × Nat) :=
  if off = 0x050 then [(SYS_AON_QUEUE_PENDING, min 4 s.aonQ.length)]
  else if off = 0x0D4 then [(SYS_HO_TX_STATUS_RESENDS, ((s.ho.sendQ.head?).map (fun m => m.resends)).getD 0), (SYS_HO_TX_STATUS_QUEUED, s.ho.sendQ.length)]
  else if off = 0x0F4 then [(SYS_HO_RX_LEVEL_LEVEL, s.ho.rxQ.length)]
  else if 0x100 ≤ off ∧ off < 0x110 then [(SYS_HO_PEERs_HNUM ((off - 0x100) / 4), ((kvGet s.ho.kept ((off - 0x100) / 4)).map (fun e => e.2)).getD 0)]
  else []

/-- FLT (R410, R415, R422). -/
def State.liveFLT (s : State) (off : Nat) : List (Fld × Nat) :=
  if off = 0x010 then [(FLT_Q_LEVEL_LEVEL, s.flt.queue.length)]
  else if 0x100 ≤ off ∧ off < 0x180 then
    [(FLT_PENDw_PEND ((off - 0x100) / 4), bitsWhere 32 (fun b => s.bit (FLT_SRCs_STATUS (32 * ((off - 0x100) / 4) + b))))]
  else if 0x1000 ≤ off ∧ off < 0x2000 then
    let src := (off - 0x1000) / 4
    (FLT_SRCs_PERSIST src, b2n (s.srcPersists src)) :: (if srcFixed src then [(FLT_SRCs_CLASS src, 2)] else [])
  else []

/-- TIME (R349, R353, R354, R367). -/
def State.liveTIME (s : State) (off : Nat) : List (Fld × Nat) :=
  if off = 0x004 then [(TIME_STATUS_TB_LIVE, b2n s.tbLive)]
  else if off = 0x010 then [(TIME_NOW_FRAC_NOW, s.timeFx % 2 ^ 24 / 2 ^ 8)]
  else if off = 0x014 then [(TIME_NOW_NS_NOW, s.timeNs)]
  else if off = 0x018 then [(TIME_NOW_SEC_LO_NOW, s.timeSec)]
  else if off = 0x01C then [(TIME_NOW_SEC_HI_NOW, s.timeSec / 2 ^ 32 % 2 ^ 16)]
  else if off = 0x034 then [(TIME_ADJ_LEFT_VALUE, uint 32 (quotOpen s.net.slewLeft (2 ^ 24)))]
  else if 0x600 ≤ off ∧ off < 0x800 ∧ off % 16 = 12 then [(CAPk_STATUS_COUNT ((off - 0x600) / 16), (s.capOf ((off - 0x600) / 16)).length)]
  else []

/-- DMA (R147), DRAMC (R169) and MEMI (R170). -/
def State.liveMem (s : State) (a : Nat) : List (Fld × Nat) :=
  if a = 0x2000070000 then
    [(DMA_STATUS_HALTED, bitsWhere 16 (fun n => s.bit (DMAn_STATUS_HALTED n))),
     (DMA_STATUS_BUSY, bitsWhere 16 (fun n => s.dmaPending n && !s.bit (DMAn_STATUS_HALTED n)))]
  else if a = 0x2000080008 then [(DRAMC_POOL_FREE_BLOCKS, s.freeList.length)]
  else if a = 0x2000080060 then [(DRAMC_RSV_SUM_SUM, (List.range 7).foldl (fun t p => t + s.fget (DRAMC_RSVp_RSV p)) 0)]
  else if a = 0x2000080074 then [(DRAMC_MERGE_OCCUPIED, s.mem.merge.length)]
  else if a = 0x2000090084 then
    let m := s.fget MEMI_MACRO_SEL_MACRO
    [(MEMI_MACRO_STAT_SOURCE, Config.macroSource m), (MEMI_MACRO_STAT_KIND, Config.macroKind m % 2),
     (MEMI_MACRO_STAT_ERRORS, (kvGet s.mem.macroErrs m).getD 0), (MEMI_MACRO_STAT_SPARES_USED, s.mem.spareRows.countP (fun (r : Nat × Nat) => r.1 == m))]
  else if 0x2000090100 ≤ a ∧ a < 0x2000090200 then
    let e := (a - 0x2000090100) / 8
    match kvGet s.mem.remap e with
    | some r => if a % 8 = 0 then [(MEMI_REMAPe_LO_ENTRY e, r.line * 64 + 1)]
                else [(MEMI_REMAPe_HI_ENTRY e, r.line * 64 / 2 ^ 32 % 256 + (if r.auto then 256 else 0))]
    | none => []
  else []

/-- LEDG (R30, R32, R39, R49). -/
def State.liveLEDG (s : State) (off : Nat) : List (Fld × Nat) :=
  let pos := uint 64 (((s.led.fixed.head?).map (fun e => e.2)).getD 0)
  if off = 0x00C then
    [(LEDG_COUNT_INFLIGHT, s.led.sheets.countP (fun (sh : Sheet) => sh.st.inFlight)), (LEDG_COUNT_LIVE, s.led.sheets.length)]
  else if off = 0x028 then [(LEDG_NEXT_SEQ_LO_NEXT_SEQ, s.led.nextSeq)]
  else if off = 0x02C then [(LEDG_NEXT_SEQ_HI_NEXT_SEQ, s.led.nextSeq / 2 ^ 32)]
  else if off = 0x030 then [(LEDG_COMMIT_POS_LO_COMMIT_POS, pos)]
  else if off = 0x034 then [(LEDG_COMMIT_POS_HI_COMMIT_POS, pos / 2 ^ 32)]
  else if off = 0x038 then [(LEDG_JRN_FILL_STAGED, s.jrn.staged.length), (LEDG_JRN_FILL_BLOCKS_USED, s.jrn.blocksUsed)]
  else if off = 0x03C then [(LEDG_JRN_RETIRED_RETIRED, s.jrn.retired.length)]
  else if off = 0x048 then [(LEDG_ACK_SEQ_LO_ACK_SEQ, s.led.ack)]
  else if off = 0x04C then [(LEDG_ACK_SEQ_HI_ACK_SEQ, s.led.ack / 2 ^ 32)]
  else []

/-- The location fields of PLC_TASK_SEGLOC. -/
def segLocFields : List Fld :=
  [PLC_TASK_SEGLOC_LOC_0, PLC_TASK_SEGLOC_LOC_1, PLC_TASK_SEGLOC_LOC_2, PLC_TASK_SEGLOC_LOC_3, PLC_TASK_SEGLOC_LOC_4, PLC_TASK_SEGLOC_LOC_5,
   PLC_TASK_SEGLOC_LOC_6, PLC_TASK_SEGLOC_LOC_7, PLC_TASK_SEGLOC_LOC_8, PLC_TASK_SEGLOC_LOC_9, PLC_TASK_SEGLOC_LOC_10, PLC_TASK_SEGLOC_LOC_11,
   PLC_TASK_SEGLOC_LOC_12, PLC_TASK_SEGLOC_LOC_13, PLC_TASK_SEGLOC_LOC_14, PLC_TASK_SEGLOC_LOC_15]

/-- PLC (R117): the task that PLC_TASK_SEL selects. -/
def State.livePLC (s : State) (off : Nat) : List (Fld × Nat) :=
  if off = 0x004 then
    [(PLC_STATUS_TRAPPED, b2n (s.ex.tasks.any (fun e => decide (e.2.stat = TStat.trapped)))), (PLC_STATUS_MOVE_PENDING, b2n s.movePending)]
  else match s.task? (s.fget PLC_TASK_SEL_TASK) with
  | none => []
  | some t =>
    if off = 0x014 then
      [(PLC_TASK_STATE_PC, t.arch.pc.toNat), (PLC_TASK_STATE_KIND, b2n t.hdr.loop), (PLC_TASK_STATE_CLASS, t.hdr.cls), (PLC_TASK_STATE_PRIORITY, t.hdr.prio),
       (PLC_TASK_STATE_PENDING, b2n t.pending.isSome), (PLC_TASK_STATE_STATE, t.stat.code)]
    else if off = 0x018 then [(PLC_TASK_PLACE_LOGICAL, s.fget (PLC_ENGp_LOGICAL t.phys)), (PLC_TASK_PLACE_PHYS, t.phys)]
    else if off = 0x01C then [(PLC_TASK_TRAP_PC, t.trapPc), (PLC_TASK_TRAP_STREAK, t.streak), (PLC_TASK_TRAP_KIND, t.trapKind)]
    else if off = 0x020 then [(PLC_TASK_OVERRUN_OVERRUN, t.overrun)]
    else if off = 0x024 then [(PLC_TASK_CYCLES_MAX_CYCLES, min (2 ^ 32 - 1) t.maxCyc)]
    else if off = 0x028 then [(PLC_TASK_SLACK_MIN_SLACK, t.minSlack)]
    else if off = 0x02C then segLocFields.zipIdx.map (fun e => (e.1, (kvGet t.segLoc e.2).getD 3))
    else []

/-- UPD (R433, R434, R441, R452). -/
def State.liveUPD (s : State) (off : Nat) : List (Fld × Nat) :=
  let run := s.slot s.runSlot
  let staged := ([s.upd.slotA, s.upd.slotB].find? (fun x => x.st == 1))
  if off = 0x000 then [(UPD_STATUS_UPD_LOCK, b2n s.upd.lock), (UPD_STATUS_RUN_STATE, run.st)]
  else if off = 0x004 then [(UPD_VERSION_VERSION, run.version)]
  else if off = 0x008 then [(UPD_STAGED_VERSION_VERSION, (staged.map (fun x => x.version)).getD 0)]
  else if off = 0x00C then [(UPD_SCHEMA_STAGED, (staged.map (fun x => x.schema)).getD 0), (UPD_SCHEMA_RUNNING, run.schema)]
  else if off = 0x108 then
    let src := s.wearSel
    let u := s.unitOf src
    if monitored src then
      [(UPD_WEAR_UNIT_STATE, if u.retired then 3 else if u.unavail then 4 else if s.idleSpare src then 2 else 1), (UPD_WEAR_UNIT_WORN, b2n u.worn),
       (UPD_WEAR_UNIT_AGE, u.age), (UPD_WEAR_UNIT_ERRORS, u.errs)]
    else [(UPD_WEAR_UNIT_STATE, 0)]
  else []

/-- A station (R199, R242, R265, R266, R267, R271). -/
def State.liveSTN (s : State) (n off : Nat) : List (Fld × Nat) :=
  if off = 0x010 then
    [(STNn_PL_STATUS_TABLES_OK n, b2n (s.tablesOk n)), (STNn_PL_STATUS_READY n, b2n (s.pipeReady n)),
     (STNn_PL_STATUS_ACTIVE n, b2n (!(s.stnOf n).windows.isEmpty))]
  else if off = 0x620 then
    [(STNn_HD_TH_NOW_AGE n, match (s.stnOf n).head.convAt with | some t => min 65535 ((s.tick - t) / usTicks 10) | none => 65535)]
  else if s.isBar n then
    if off = 0x414 then
      [(STNn_BR_STATUS_SPLICE_OK n, b2n (s.spliceOkNow n)), (STNn_BR_STATUS_READY n, b2n (s.barReady n)), (STNn_BR_STATUS_EXPOSE_OPEN n, b2n (s.exposeOpen n))]
    else if off = 0x490 then [(STNn_BR_FAIL_KNOWN n, (s.known n).length)]
    else if off = 0x498 then
      match (s.known n)[s.fget (STNn_BR_FAIL_SEL_INDEX n)]? with
      | some e => [(STNn_BR_FAIL_ENTRY_ORIGIN n, e.2), (STNn_BR_FAIL_ENTRY_EMITTER n, e.1)]
      | none => [(STNn_BR_FAIL_ENTRY_ORIGIN n, 0), (STNn_BR_FAIL_ENTRY_EMITTER n, 0)]
    else []
  else if off = 0x42C then [(STNn_SC_STATUS_READY n, b2n (s.scanReady n))]
  else []

/-- PPOS (R207 to R212). -/
def State.livePPOS (s : State) (off : Nat) : List (Fld × Nat) :=
  if off = 0x004 then [(PPOS_STATUS_RUNNING, b2n (s.beltRuns && !s.bit PPOS_STATUS_CFG_ERR))]
  else if off = 0x014 then [(PPOS_COUNT_VALUE, uint 32 s.ppos.count)]
  else if off = 0x018 then [(PPOS_SPEED_VALUE, uint 32 s.pposSpeed)]
  else if off = 0x020 then [(PPOS_BELT_LO_VALUE, uint 64 s.belt)]
  else if off = 0x024 then [(PPOS_BELT_HI_VALUE, uint 64 s.belt / 2 ^ 32)]
  else if off = 0x028 then [(PPOS_ZCAP_LO_VALUE, uint 64 s.ppos.zcap)]
  else if off = 0x02C then [(PPOS_ZCAP_HI_VALUE, uint 64 s.ppos.zcap / 2 ^ 32)]
  else []

/-- Motion and outputs (R279, R295, R318, R345, R347). -/
def State.liveCtl (s : State) (a : Nat) : List (Fld × Nat) :=
  if 0x2000200000 ≤ a ∧ a < 0x2000208000 then
    (if a % 0x1000 = 0x054 then [(DRVn_SPEED_VALUE ((a - 0x2000200000) / 0x1000), uint 32 (s.drvSpeed ((a - 0x2000200000) / 0x1000)))] else [])
  else if 0x2000300000 ≤ a ∧ a < 0x2000314000 then
    let n := (a - 0x2000300000) / 0x1000
    if a % 0x1000 = 0x008 then [(AXSn_STATUS_READY n, b2n (s.axsReady n))]
    else if a % 0x1000 = 0x034 then [(AXSn_VEL_VALUE n, uint 32 (quotOpen (s.axsOf n).prof.v (2 ^ 16)))]
    else if a % 0x1000 = 0x038 then [(AXSn_ACC_VALUE n, uint 32 (quotOpen (s.axsOf n).prof.a (2 ^ 16)))]
    else []
  else if a = 0x20000F0000 then [(ADC_STATUS_BUSY, bitsWhere 5 (fun c => (s.adcOf c).cur.isSome))]
  else if 0x20000F0800 ≤ a ∧ a < 0x20000F0940 then
    let k := (a - 0x20000F0800) / 4
    [(ADC_AINk_AGE k, match kvGet s.adcAt k with | some t => min 65535 ((s.tick - t) / usTicks 1) | none => 65535)]
  else if 0x2000430020 ≤ a ∧ a < 0x200043002C then [(GPIO_OUT_SETw_SET ((a - 0x2000430020) / 4), s.fget (GPIO_OUTw_OUT ((a - 0x2000430020) / 4)))]
  else if 0x2000430030 ≤ a ∧ a < 0x200043003C then [(GPIO_OUT_CLRw_CLR ((a - 0x2000430030) / 4), s.fget (GPIO_OUTw_OUT ((a - 0x2000430030) / 4)))]
  else []

/-- The fields of a register that show the structured state, with their values. -/
def State.live (s : State) (a : Nat) : List (Fld × Nat) :=
  let w := a - 0x2000000000
  match stationOf a with
  | some (n, off) => s.liveSTN n off
  | none =>
    if w / 0x10000 = 0 then s.liveSYS w
    else if w / 0x10000 = 1 then s.liveFLT (w % 0x10000)
    else if w / 0x10000 = 3 then s.liveTIME (w % 0x10000)
    else if 7 ≤ w / 0x10000 ∧ w / 0x10000 ≤ 9 then s.liveMem a
    else if w / 0x10000 = 10 then s.liveLEDG (w % 0x10000)
    else if w / 0x10000 = 11 then s.livePLC (w % 0x10000)
    else if w / 0x10000 = 13 then s.liveUPD (w % 0x10000)
    else if w / 0x10000 = 0x17 then s.livePPOS (w % 0x10000)
    else s.liveCtl a

/-- Whether an address of the register window names a register (R10, R12). -/
def State.regMapped (s : State) (a : Nat) : Bool :=
  decide (0x2000000000 ≤ a) && decide (a < 0x2004000000) && (regFieldsAt (s.storeAddr a)).isSome

/-- The word of a register now. -/
def State.liveWord (s : State) (a : Nat) : Nat := (s.fsets (s.live a)).wordOf ((regFieldsAt (s.storeAddr a)).getD [])

/-! ### Captured values (R27) -/

/-- The values of more than 32 bits: the lowest address, how many there are and their distance, and their words. -/
def wideRows : List (Nat × Nat × Nat × Nat) :=
  [(0x2000000034, 1, 0, 2), (0x200000003C, 1, 0, 2), (0x2000000048, 1, 0, 2), (0x20000000C0, 1, 0, 2), (0x20000000C8, 1, 0, 2), (0x20000000D8, 1, 0, 2),
   (0x20000000E0, 1, 0, 5), (0x2000010008, 1, 0, 2), (0x2000010014, 1, 0, 4), (0x2000030010, 1, 0, 4), (0x2000030020, 1, 0, 3), (0x200003002C, 1, 0, 2),
   (0x2000030104, 32, 0x20, 2), (0x2000030604, 32, 0x10, 2), (0x2000040008, 2, 0x10000, 2), (0x2000040018, 2, 0x10000, 4),
   (0x2000070104, 16, 0x20, 2), (0x200008006C, 1, 0, 2), (0x2000090040, 1, 0, 2), (0x2000090048, 1, 0, 2), (0x2000090058, 1, 0, 2),
   (0x2000090060, 1, 0, 2), (0x2000090070, 1, 0, 2), (0x2000090100, 32, 8, 2), (0x20000A0028, 1, 0, 2), (0x20000A0030, 1, 0, 2), (0x20000A0048, 1, 0, 2),
   (0x20000C0014, 1, 0, 2), (0x20000C001C, 1, 0, 2), (0x2000170020, 1, 0, 2), (0x2000170028, 1, 0, 2), (0x2000170040, 6, 8, 2)]

/-- The value that an address belongs to: its lowest address and its words. -/
def wideOf (a : Nat) : Option (Nat × Nat) :=
  wideRows.findSome? (fun r => (List.range r.2.1).findSome? (fun i =>
    let b := r.1 + r.2.2.1 * i
    if b ≤ a ∧ a < b + 4 * r.2.2.2 then some (b, r.2.2.2) else none))

/-- Capture the words of a value. -/
def State.captureAt (s : State) (b k : Nat) : State :=
  { s with snap := (List.range k).foldl (fun m i => kvSet m (b + 4 * i) (s.liveWord (b + 4 * i))) s.snap }

/-- The effect of a read: the queues and FIFOs that a read of their lowest word empties, and the capture of the other values. -/
def State.readEffect (s : State) (a : Nat) : State :=
  if a = 0x20000000E0 then s.hoRxPop
  else if a = 0x2000010014 then s.fltPop
  else if a = 0x2000040018 then s.txtsPop 0
  else if a = 0x2000050018 then s.txtsPop 1
  else if 0x2000030600 ≤ a ∧ a < 0x2000030800 ∧ a % 16 = 4 then s.capPop ((a - 0x2000030600) / 16)
  else match wideOf a with
    | some (b, k) => if a = b then s.captureAt b k else s
    | none => s

/-- A read of a mapped register: its value and the state after it. A higher word that nothing has captured yet reads as it stands (log
entry 16). -/
def State.regRead (s : State) (a : Nat) : Nat × State :=
  let s1 := s.readEffect a
  (match wideOf a with
   | some _ => (kvGet s1.snap a).getD (s1.liveWord a)
   | none => s1.liveWord a, s1)

/-- A message of the address decoder (R10). -/
def State.unmapped (s : State) (a : Nat) : State := s.sendFault 0x013 0x01 (a % 65536)

/-- A 32-bit read of the register window, as IOR issues it (R10). -/
def State.busRead (s : State) (a : Nat) : Nat × State :=
  if s.regMapped a then s.regRead a else (0, s.unmapped a)

end Sys2Proof.Machine
end

