-- ==== Sys2Proof/Machine/Bus.lean ====
section
/-! DEFINITION. Writing registers and memories: access codes, Apply classes and refusals (R3 to R10, R29, R484), the actions of the
registers, and REGISTER_WRITE. -/

namespace Sys2Proof.Machine

/-! ### Apply classes (R6) -/

/-- The flag that records a refused write of an S field, where its block runs (R6 and the rule of each block). -/
def State.sRefused (s : State) (f : Fld) : Option Fld :=
  let a := fldAddr f
  let b := (a - 0x2000000000) / 0x10000
  let when_ := fun (runs : Bool) (fl : Fld) => if runs then some fl else none
  match stationOf a with
  | some (n, off) =>
    if off < 0x200 then when_ (s.bit (STNn_PL_CTRL_ENABLE n)) (STNn_PL_STATUS_WRITE_REFUSED n)
    else when_ (s.stnEnabled n) (if s.isBar n then STNn_BR_STATUS_WRITE_REFUSED n else STNn_SC_STATUS_WRITE_REFUSED n)
  | none =>
    if b = 0 then when_ (s.bit LEDG_STATUS_RUN_OPEN) SYS_STATUS_WRITE_REFUSED
    else if b = 3 then when_ (s.fget TIME_PTP_CFG_ROLE != 0) TIME_STATUS_WRITE_REFUSED
    else if b = 4 ∨ b = 5 then when_ (s.bit (ETHn_CTRL_EN (b - 4))) (ETHn_STATUS_WRITE_REFUSED (b - 4))
    else if b = 6 then when_ (s.bit PCIE_CTRL_LINK_EN) PCIE_STATUS_WRITE_REFUSED
    else if b = 7 then
      let n := (a - 0x2000070100) / 0x20
      when_ (s.bit (DMAn_CTRL_ENABLE n)) (DMAn_STATUS_WRITE_REFUSED n)
    else if b = 8 then some DRAMC_STATUS_WRITE_REFUSED
    else if b = 10 then when_ (s.bit LEDG_STATUS_RUN_OPEN || s.anyActive) LEDG_STATUS_WRITE_REFUSED
    else if b = 12 then when_ (s.bit REC_CTRL_ENABLE || s.replaying) REC_STATUS_WRITE_REFUSED
    else if b = 14 then when_ (s.railState != rOff) RAIL_STATUS_WRITE_REFUSED
    else if b = 0x17 then when_ (s.bit PPOS_CTRL_EN) PPOS_STATUS_WRITE_REFUSED
    else if 0x20 ≤ b ∧ b < 0x30 then
      let n := (a - 0x2000200000) / 0x1000
      when_ (s.bit (DRVn_CTRL_ENABLE n)) (DRVn_STATUS_WRITE_REFUSED n)
    else if 0x30 ≤ b ∧ b < 0x40 then
      let n := (a - 0x2000300000) / 0x1000
      when_ (s.bit (AXSn_CTRL_ENABLE n)) (AXSn_STATUS_WRITE_REFUSED n)
    else if b = 0x40 then
      let n := (a - 0x2000400000) / 0x400
      when_ (s.bit (LOOPn_CTRL_ENABLE n)) (LOOPn_STATUS_WRITE_REFUSED n)
    else if b = 0x41 then when_ s.hvoRuns HVO_STATUS_WRITE_REFUSED
    else if b = 0x42 then when_ s.fusRuns FUS_STATUS_WRITE_REFUSED
    else none

/-- Whether the block of a B field runs, so that a write waits for its boundary (R6 and the rule of each block). -/
def State.bRuns (s : State) (f : Fld) : Bool :=
  let a := fldAddr f
  let b := (a - 0x2000000000) / 0x10000
  match stationOf a with
  | some (n, off) => if off < 0x200 then s.bit (STNn_PL_CTRL_ENABLE n) else s.stnEnabled n
  | none =>
    if b = 3 then s.bit (ALMc_STATUS_ARMED ((a - 0x2000030100) / 0x20))
    else if b = 7 then s.bit (DMAn_CTRL_ENABLE ((a - 0x2000070100) / 0x20))
    else if b = 10 then s.bit LEDG_STATUS_RUN_OPEN || s.anyActive
    else if b = 11 then s.bit PLC_STATUS_PLACED
    else if b = 15 then true
    else if 0x20 ≤ b ∧ b < 0x30 then s.bit (DRVn_CTRL_ENABLE ((a - 0x2000200000) / 0x1000))
    else if 0x30 ≤ b ∧ b < 0x40 then s.bit (AXSn_CTRL_ENABLE ((a - 0x2000300000) / 0x1000))
    else if b = 0x40 then s.bit (LOOPn_CTRL_ENABLE ((a - 0x2000400000) / 0x400))
    else if b = 0x41 then s.hvoRuns
    else if b = 0x42 then s.fusRuns
    else false

/-- The WO fields that carry a value which the block keeps (R484). -/
def keptWo : List Fld := [LEDG_DECLARE_SEQ_DECLARE_SEQ, UPD_TOKENw_TOKEN 0, UPD_TOKENw_TOKEN 1, UPD_TOKENw_TOKEN 2, UPD_TOKENw_TOKEN 3]

/-- The S fields that only the boot ROM loads (R169, R456). -/
def bootOnly (f : Fld) : Bool := f.key == DRAMC_CFG_RATE.key || f.key == REC_CFG_RING_LOG2.key

/-- A value becomes that of a field at once; a shadow that an earlier write left is replaced. -/
def State.setNow (s : State) (f : Fld) (v : Nat) : State :=
  { s.fset f v with shadow := kvDel s.shadow f.key, shadowAt := kvDel s.shadowAt f.key }

/-- A written word acts on one field (R5 to R7). Whether the field's block runs is judged on the state `pre` that the write found, so that the
fields of one write do not act on each other's verdict (R7). -/
def State.fieldWrite (s pre : State) (f : Fld) (w : Nat) : State :=
  let v := f.part w
  match f.acc with
  | .ro => s
  | .w1c => s.fset f (s.fget f &&& (2 ^ f.width - 1 - v))
  | .w1s => s.fset f (s.fget f ||| v)
  | .wo => if keptWo.any (fun g => g.key == f.key) then s.fset f v else s
  | .rw | .rws =>
    match f.app with
    | .s => match pre.sRefused f with
      | some fl => s.flag fl
      | none => if bootOnly f then s else s.setNow f v
    | .b => if pre.bRuns f then s.shadowSet f v else s.setNow f v
    | .l | .x => s.setNow f v

/-- The fields of the register at an address. -/
def State.fieldsAt (s : State) (a : Nat) : List Fld := (regFieldsAt (s.storeAddr a)).getD []

/-- A B field of a block of the TB domain: its shadow crosses for itself (R28), the other fields of its register as R482 says. -/
def Fld.tbShadow (f : Fld) : Bool := decide (f.app = .b) && tbBlock (fldAddr f)

/-- A written word acts on the fields of a register but for those named, whose writes act otherwise, and but for the B fields that `tbB`
has written. -/
def State.plain (s : State) (a w : Nat) (except_ : List Fld) : State :=
  (s.fieldsAt a).foldl (fun t f => if except_.any (fun g => g.key == f.key) || f.tbShadow then t else t.fieldWrite s f w) s

/-- A written word acts on the B fields of a register of the TB domain (R28). -/
def State.tbB (s : State) (a w : Nat) : State :=
  (s.fieldsAt a).foldl (fun t f => if f.tbShadow then t.fieldWrite s f w else t) s

/-- A one-bit field of a written word. -/
def Fld.on (f : Fld) (w : Nat) : Bool := f.part w == 1

/-- Act where a condition holds. -/
def State.iff_ (s : State) (c : Bool) (k : State → State) : State := if c then k s else s

/-! ### Registers whose writes act -/

/-- SYS (R25, R380, R385). -/
def State.writeSYS (s : State) (a w : Nat) : State :=
  let off := a % 0x10000
  if off = 0x010 then s.iff_ (SYS_RESET_GO.on w) (fun s => s.softReset (SYS_RESET_KEY.part w))
  else if off = 0x028 then s.iff_ (SYS_HIBERNATE_REQ.on w) (fun s => s.hibernate (SYS_HIBERNATE_KEY.part w))
  else if off = 0x0D0 then s.iff_ (SYS_HO_TX_CMD_SEND.on w) (fun s => s.hoSend (SYS_HO_TX_CMD_TO.part w))
  else s.plain a w []

/-- FLT and THM (R415, R420, R421, R426); `off` is the offset from FLT's first address. -/
def State.writeFLT (s : State) (off a w : Nat) : State :=
  if off = 0x004 then s.iff_ (FLT_SAFE_CLEAR.on w) State.safeClear
  else if 0x1000 ≤ off ∧ off < 0x2000 then
    let src := (off - 0x1000) / 4
    let s1 := (s.plain a w [FLT_SRCs_STATUS src]).iff_ ((FLT_SRCs_COUNT_CLR src).on w) (fun s => s.fset (FLT_SRCs_COUNT src) 0)
    (s1.iff_ ((FLT_SRCs_STATUS src).on w) (fun s => s.srcClear src)).iff_ ((FLT_SRCs_FORCE src).on w) (fun s => s.force src)
  else if off = 0x10000 then (s.plain a w [THM_STATUS_SENSOR_BAD]).iff_ (THM_STATUS_SENSOR_BAD.on w) State.sensorClear
  else s.plain a w []

/-- TIME and the Almanac (R350, R352 to R355, R364, R369). -/
def State.writeTIME (s : State) (a w : Nat) : State :=
  let off := a % 0x10000
  if (off = 0x008 ∨ (0x020 ≤ off ∧ off ≤ 0x030) ∨ off = 0x038) ∧ s.bit TIME_CTRL_PTP_OWN = true then s.flag TIME_STATUS_WRITE_REFUSED
  else if off = 0x008 then s.timeInc w
  else if off = 0x038 then s.timeCmd (TIME_CMD_ACTION.part w)
  else if off = 0x044 then (s.plain a w [TIME_PTP_CFG_ROLE]).ptpRole (TIME_PTP_CFG_ROLE.part w)
  else if 0x100 ≤ off ∧ off < 0x500 ∧ off % 0x20 = 0 then
    let c := (off - 0x100) / 0x20
    (s.iff_ ((ALMc_CTRL_ARM c).on w) (fun s => s.almArm c)).iff_ ((ALMc_CTRL_DISARM c).on w) (fun s => s.almDisarm c)
  else s.plain a w []

/-- PCIE (R119, R146). -/
def State.writePCIE (s : State) (a w : Nat) : State :=
  if a % 0x10000 = 0 then
    let was := s.bit PCIE_CTRL_LINK_EN
    let now := PCIE_CTRL_LINK_EN.on w
    let s1 := s.plain a w []
    if was && !now then (s1.linkLost.flag PCIE_STATUS_LINK_DOWN_SEEN).hostReset
    else if !was && now then s1.linkUp
    else s1
  else s.plain a w []

/-- DMA (R139, R142, R144, R147). -/
def State.writeDMA (s : State) (a w : Nat) : State :=
  let n := (a - 0x2000070100) / 0x20
  if a < 0x2000070100 then s
  else if n < 8 then s.flag (DMAn_STATUS_WRITE_REFUSED n)
  else if a % 0x20 = 0 then
    let skip := (DMAn_CTRL_SKIP n).on w
    let res := (DMAn_CTRL_RESUME n).on w
    let s1 := if s.bit (DMAn_CTRL_ENABLE n) then s.plain a w [] else (s.plain a w []).dmaStart n
    (s1.iff_ (skip && !res) (fun s => s.dmaSkip n)).iff_ (res && !skip) (fun s => s.dmaResume n)
  else if a % 0x20 = 0x10 then s.doorbell n w
  else s.plain a w []

/-- DRAMC and MEMI (R157, R164, R166). -/
def State.writeMem (s : State) (a w : Nat) : State :=
  if 0x2000080040 ≤ a ∧ a < 0x200008005C then s.rsvWrite ((a - 0x2000080040) / 4) w
  else if a = 0x2000090050 then s.iff_ (MEMI_RANGE_CMD_GO.on w) State.rangeGo
  else if a = 0x2000090078 then
    let k := MEMI_REMAP_CMD_ACTION.part w
    if k = 1 then s.remapCmd else if k = 2 then s.remapRemove else s
  else s.plain a w []

/-- LEDG (R49, R55, R56). -/
def State.writeLEDG (s : State) (a w : Nat) : State :=
  let off := a % 0x10000
  if off = 0x000 then ((s.plain a w []).degradedUpdate).iff_ (LEDG_CTRL_COMPACT_NOW.on w) State.compactStart
  else if off = 0x044 then s.declare (LEDG_DECLARE_EVENT.part w)
  else s.plain a w []

/-- PLC (R109, R110). -/
def State.writePLC (s : State) (a w : Nat) : State :=
  if a % 0x10000 = 0x030 then
    let i := PLC_TASK_CMD_TASK.part w
    match PLC_TASK_CMD_ACTION.part w with
    | 1 => s.cmdRestart i true false 2
    | 2 => s.cmdRestart i false true 3
    | 3 => s.cmdStop i
    | _ => s
  else s.plain a w []

/-- REC (R448 to R451, R456). ENABLE starts and stops the recording; whether a loaded ring image is sound is a free value (log entry 2). -/
def State.writeREC (s : State) (a w : Nat) : State :=
  if a % 0x10000 = 0 then
    let s1 := s.plain a w []
    let st := s1.fget REC_STATUS_STATE
    let s2 := if s1.bit REC_CTRL_ENABLE ∧ st = 0 then s1.fset REC_STATUS_STATE 1
      else if s1.bit REC_CTRL_ENABLE = false ∧ (st = 1 ∨ st = 2) then s1.fset REC_STATUS_STATE 0 else s1
    let s3 := ((s2.iff_ (REC_CTRL_FREEZE.on w) (fun s => s.trigger 1)).iff_ (REC_CTRL_REARM.on w) State.rearm).iff_ (REC_CTRL_NOR_EXPORT.on w) State.norExport
    let s4 := (s3.iff_ (REC_CTRL_LOAD_NOR.on w) State.loadNor).iff_ (REC_CTRL_LOAD_RING.on w) (fun s => s.draw.2.loadRing (s.draw.1 % 2 == 1))
    (s4.iff_ (REC_CTRL_REPLAY.on w) State.replay).iff_ (REC_CTRL_STOP.on w) State.replayStop
  else s.plain a w []

/-- UPD (R441, R454). -/
def State.writeUPD (s : State) (a w : Nat) : State :=
  let off := a % 0x10000
  if off = 0x020 then s.tokenAct (UPD_CMD_ACTION.part w)
  else if off = 0x10C then
    match UPD_WEAR_CMD_ACTION.part w with
    | 1 => s.wearRetire
    | 2 => s.wearRestore
    | _ => s
  else s.plain a w []

/-- RAIL (R397, R407). -/
def State.writeRAIL (s : State) (a w : Nat) : State :=
  if a % 0x10000 = 0 then
    ((s.plain a w []).iff_ (RAIL_CTRL_THAW.on w) State.thaw).iff_ (RAIL_CTRL_FROST.on w) (fun s => s.frostCause 1)
  else s.plain a w []

/-- The link of a scan or bar station is enabled or disabled (R243, R253, R261, R272). -/
def State.stnSwitch (s : State) (n : Nat) (en : Bool) : State :=
  if en = s.stnEnabled n then s
  else if en then (if s.isBar n then s.barEnable n else s.scanEnable n)
  else if s.isBar n then s.fset (STNn_BR_CTRL_BAR_EN n) 0
  else s.fsets [(STNn_SC_CTRL_SC_EN n, 0), (STNn_SC_STATUS_TRACKING n, 0), (STNn_SC_STATUS_PH_SETTLED n, 0)]

/-- STNn (R196, R198, R204, R261, R265, R270). -/
def State.writeSTN (s : State) (n off a w : Nat) : State :=
  if off = 0x010 then (s.plain a w []).iff_ ((STNn_PL_STATUS_SLOW n).on w) (fun s => s.modStn n (fun t => { t with slow := false }))
  else if off = 0x050 then
    let k := (STNn_TBL_CMD_TABLE n).part w
    match (STNn_TBL_CMD_ACTION n).part w with
    | 1 => s.tableLoad n k
    | 2 => s.tablePatch n k
    | _ => s
  else if off = 0x400 ∧ s.isBar n = true then
    let s1 := (s.plain a w [STNn_BR_CTRL_BAR_EN n]).stnSwitch n ((STNn_BR_CTRL_BAR_EN n).on w)
    if s1.bit (STNn_BR_CTRL_BAR_EN n) && s1.bit (STNn_BR_CTRL_EXP_EN_REQ n) then s1
    else s1.modStn n (fun t => { t with bar := { t.bar with exposeAt := none } })
  else if off = 0x400 then (s.plain a w [STNn_SC_CTRL_SC_EN n]).stnSwitch n ((STNn_SC_CTRL_SC_EN n).on w)
  else if off = 0x49C ∧ s.isBar n = true then s.defAdd n ((STNn_BR_DEF_ADD_EMITTER n).part w)
  else if off = 0x600 then (s.plain a w []).iff_ ((STNn_HD_CTRL_HREC_READ n).on w) (fun s => s.hrecCmd n)
  else if off = 0x604 then (s.plain a w [STNn_HD_STATUS_HOT n]).iff_ ((STNn_HD_STATUS_HOT n).on w) (fun s => s.hotClear n)
  else s.plain a w []

/-- STNX (R206) and PPOS (R207, R210, R212). -/
def State.writePPOS (s : State) (a w : Nat) : State :=
  if a = 0x2000160004 then
    (s.iff_ (STNX_CMD_MOVE.on w && decide (STNX_CMD_STATION.part w < 6)) (fun s => s.stnxMoveCmd (STNX_CMD_STATION.part w))).iff_
      (STNX_CMD_RETURN.on w) State.stnxReturnCmd
  else if a = 0x2000170000 then (s.plain a w [PPOS_CTRL_EN]).pposSetEn (PPOS_CTRL_EN.on w)
  else if a = 0x2000170004 then (s.plain a w [PPOS_STATUS_ENC_LOST]).iff_ (PPOS_STATUS_ENC_LOST.on w) (fun s => s.lossPersists.pposClearLost)
  else if 0x2000170040 ≤ a ∧ a < 0x2000170070 ∧ a % 8 = 4 then s.pposOffset ((a - 0x2000170040) / 8) w
  else s.plain a w []

/-- DRVn (R282, R287). -/
def State.writeDRV (s : State) (n a w : Nat) : State :=
  if a % 0x1000 = 0 then
    ((((s.plain a w [DRVn_CTRL_ENABLE n]).drvSetEnable n ((DRVn_CTRL_ENABLE n).on w)).iff_ ((DRVn_CTRL_START n).on w) (fun s => s.drvStart n)).iff_
      ((DRVn_CTRL_STOP n).on w) (fun s => s.drvStop n))
  else if a % 0x1000 = 0x04C then
    (s.plain a w (DRVn_STATUS_ENC_LOST n :: (if s.drvState n = dOff ∨ s.drvState n = dFault then [] else [DRVn_STATUS_START_FAIL n]))).iff_
      ((DRVn_STATUS_ENC_LOST n).on w) (fun s => (s.drvPersists n).drvClearLost n)
  else s.plain a w []

/-- AXSn (R306, R313, R314). -/
def State.writeAXS (s : State) (n a w : Nat) : State :=
  if a % 0x1000 = 0 then (s.plain a w [AXSn_CTRL_ENABLE n]).axsSetEnable n ((AXSn_CTRL_ENABLE n).on w)
  else if a % 0x1000 = 4 then s.axsCmd n ((AXSn_CMD_ACTION n).part w)
  else if a % 0x1000 = 8 then
    ((s.plain a w [AXSn_STATUS_POS_UNC n]).iff_ ((AXSn_STATUS_LAG n).on w) (fun s => s.modAxs n (fun x => { x with lagged := false }))).iff_
      ((AXSn_STATUS_POS_UNC n).on w) (fun s => s.uncClear n)
  else s.plain a w []

/-- LOOPn (R331), HVO (R337), FUS (R339, R340), GPIO (R347) and ADC (R345). -/
def State.writeOut (s : State) (a w : Nat) : State :=
  if 0x2000400000 ≤ a ∧ a < 0x2000410000 then
    let n := (a - 0x2000400000) / 0x400
    if a % 0x400 = 0 then
      (((s.plain a w [LOOPn_CTRL_ENABLE n]).loopSetEnable n ((LOOPn_CTRL_ENABLE n).on w)).iff_ ((LOOPn_CTRL_APPLY n).on w) (fun s => s.loopApply n)).loopHeld n
    else (s.plain a w []).loopHeld n
  else if 0x2000410100 ≤ a ∧ a < 0x2000410300 ∧ a % 0x10 = 0 then
    let k := (a - 0x2000410100) / 0x10
    (s.plain a w []).iff_ (!(HVOk_CTRL_EN k).on w) (fun s => s.hvoLow k)
  else if a = 0x2000420000 then (s.plain a w []).iff_ (!FUS_CTRL_FUSER_EN_REQ.on w) State.fuserStop
  else if a = 0x2000420100 ∨ a = 0x2000420120 then
    let f := (a - 0x2000420100) / 0x20
    (s.plain a w [FUSf_CTRL_EN f]).fusSetEn f ((FUSf_CTRL_EN f).on w)
  else if 0x2000430020 ≤ a ∧ a < 0x200043002C then
    let k := (a - 0x2000430020) / 4
    s.fset (GPIO_OUTw_OUT k) (s.fget (GPIO_OUTw_OUT k) ||| w % 2 ^ 32)
  else if 0x2000430030 ≤ a ∧ a < 0x200043003C then
    let k := (a - 0x2000430030) / 4
    s.fset (GPIO_OUTw_OUT k) (s.fget (GPIO_OUTw_OUT k) &&& (2 ^ 32 - 1 - w % 2 ^ 32))
  else if 0x20000F0100 ≤ a ∧ a < 0x20000F0600 ∧ a % 0x100 = 0 then (s.plain a w []).adcNext ((a - 0x20000F0100) / 0x100)
  else s.plain a w []

/-- A 32-bit write of a mapped register acts, but for the B fields of the TB domain. -/
def State.regAct (s : State) (a w : Nat) : State :=
  let b := (a - 0x2000000000) / 0x10000
  match stationOf a with
  | some (n, off) => ((s.writeSTN n off a w).nomChanged n (s.pixNom n)).recheckCfg n
  | none =>
    if b = 0 then s.writeSYS a w
    else if b = 1 ∨ b = 2 then s.writeFLT (a - 0x2000010000) a w
    else if b = 3 then s.writeTIME a w
    else if b = 6 then s.writePCIE a w
    else if b = 7 then s.writeDMA a w
    else if b = 8 ∨ b = 9 then s.writeMem a w
    else if b = 10 then s.writeLEDG a w
    else if b = 11 then s.writePLC a w
    else if b = 12 then s.writeREC a w
    else if b = 13 then s.writeUPD a w
    else if b = 14 then s.writeRAIL a w
    else if b = 0x16 ∨ b = 0x17 then s.writePPOS a w
    else if 0x20 ≤ b ∧ b < 0x30 then s.writeDRV ((a - 0x2000200000) / 0x1000) a w
    else if 0x30 ≤ b ∧ b < 0x40 then s.writeAXS ((a - 0x2000300000) / 0x1000) a w
    else s.writeOut a w

/-- The tick at which a write that completes now takes effect in the TB domain (R482): the second, or the third where it completes in the last
SYS cycle before a tick, which is a free value (log entry 2); no later write takes effect earlier. -/
def State.tbDue (s : State) : Nat :=
  max (s.tick + 2 + s.draw.1 % 2) (((s.tbQ.getLast?).map (fun (e : Nat × Nat × Nat) => e.1)).getD 0)

/-- A write of a register of the TB domain (R28, R482): its B fields at once, as shadows where the block runs; the others cross. -/
def State.tbWrite (s : State) (a w : Nat) : State :=
  let s1 := s.tbB a w
  if (s.fieldsAt a).all Fld.tbShadow then s1 else { s1.draw.2 with tbQ := s1.tbQ ++ [(s1.tbDue, a, w)] }

/-- The writes that take effect at this TB tick (R482). -/
def State.tbCross (s : State) : State :=
  (s.tbQ.filter (fun e => decide (e.1 ≤ s.tick))).foldl (fun (s : State) (e : Nat × Nat × Nat) => s.regAct e.2.1 e.2.2)
    { s with tbQ := s.tbQ.filter (fun e => !decide (e.1 ≤ s.tick)) }

/-- A write of an AON register enters its queue; where the queue is full, the writer stalls until an entry frees (R29). A task that stalls
leaves its engine (R95); a stall of its own that ended otherwise leaves nothing behind. -/
def State.aonWrite (s : State) (a w : Nat) (task : Option Nat) : State :=
  if s.aonQ.length < 4 then { s with aonQ := s.aonQ ++ [(a, w)] }
  else match task with
    | none => { s with aonWait := s.aonWait ++ [(a, w, none)] }
    | some i =>
      let s1 := { s with aonWait := s.aonWait.filter (fun (e : Nat × Nat × Option Nat) => e.2.2 != some i) ++ [(a, w, some i)] }
      match s1.task? i with
      | some t => (s1.setTask i { t with stat := .waiting, stall := true }).setRunning t.phys none
      | none => s1

/-- A 32-bit write of a mapped register, by a task or another writer: it acts while the controller runs; a write of an AON register enters
the queue (R29), one of the TB domain crosses (R482). -/
def State.regWriteBy (s : State) (task : Option Nat) (a w : Nat) : State :=
  if s.power.phase ≠ .run then s
  else if aonAddr a then s.aonWrite a w task
  else if tbBlock a then s.tbWrite a w
  else s.regAct a w

/-- A 32-bit write of a mapped register by another writer than a task. -/
def State.regWrite (s : State) (a w : Nat) : State := s.regWriteBy none a w

/-- A 32-bit write of the register window, as the IOW of a task issues it (R10). -/
def State.busWrite (s : State) (i a w : Nat) : State := if s.regMapped a then s.regWriteBy (some i) a w else s.unmapped a

/-- A write of a HIF register (R121, R122, R124, R134, R137). -/
def State.writeHIF (s : State) (off w : Nat) : State :=
  if off = 0x004 then (s.plain (hifBase + off) w [HIF_CTRL_ENABLE]).hifEnable (HIF_CTRL_ENABLE.on w)
  else if off = 0x010 then s.cmdTail (HIF_CMD_TAIL_CMD_TAIL.part w)
  else if off = 0x018 then s.evtHead (HIF_EVT_HEAD_EVT_HEAD.part w)
  else if off = 0x024 then (if s.bit UPD_STATUS_DEBUG_OPEN then s.plain (hifBase + off) w [] else s)
  else s.plain (hifBase + off) w []

/-- An aligned word that the host writes at an offset of BAR0 (R120). -/
def State.hostWord (s : State) (off w : Nat) : State := if off < 0x1000 then s.writeHIF off w else s.barWord off w

/-- A write of device space (R3, R9 to R11): to a memory, or to a register, of which only an aligned 32-bit write has an effect. -/
def State.devWrite (s : State) (a size w : Nat) : State :=
  if s.inDram a size = true ∨ inSram a size = true then s.devPut a (natToBytes w size)
  else if s.regMapped (a / 4 * 4) then (if size = 4 ∧ a % 4 = 0 then s.regWrite a w else s)
  else s.unmapped a

/-- A write of BAR0 (R120): aligned words, or aligned pairs of them, the lower one first; any other is dropped whole. -/
def State.bar0Write (s : State) (off size w : Nat) : State :=
  if size = 4 ∧ off % 4 = 0 then s.hostWord off (w % 2 ^ 32)
  else if size = 8 ∧ off % 8 = 0 then (s.hostWord off (w % 2 ^ 32)).hostWord (off + 4) (w / 2 ^ 32)
  else s

/-- A write of BAR2 (R121): of the device space that HIF_BAR2_BASE selects, dropped while debug is locked. -/
def State.bar2Write (s : State) (off size w : Nat) : State :=
  if s.bit UPD_STATUS_DEBUG_OPEN ∧ off + size ≤ 2 ^ 28 then s.devWrite (s.fget HIF_BAR2_BASE_BASE * 2 ^ 28 + off) size w else s

/-- A write of 1, 2, 4 or 8 bytes. An address from `bar2Base` on is an offset of BAR2, one from `hifBase` on an offset of BAR0 (R120, R121). -/
def State.write (s : State) (a size w : Nat) : State :=
  if bar2Base ≤ a then s.bar2Write (a - bar2Base) size w
  else if hifBase ≤ a then s.bar0Write (a - hifBase) size w
  else s.devWrite a size w

/-- REGISTER_WRITE (R6). -/
def execRegisterWrite (addr size : Nat) (value : BitVec 64) (s : State) : Host.Outcome State Fault Refusal :=
  .next (s.write addr size (value.toNat % 256 ^ size))

/-! ### What a host's read returns (R120 to R123, R160) -/

/-- The word at an aligned offset of BAR0. -/
def State.hostRead (s : State) (off : Nat) : Nat :=
  if off < 0x1000 then
    (if off = 0x024 ∧ s.bit UPD_STATUS_DEBUG_OPEN = false then 0 else s.wordOf ((regFieldsAt (hifBase + off)).getD []))
  else if off < 0x1048 then (if off = 0x1000 then s.host.mirror.gen else (s.host.mirror.words[(off - 0x1004) / 4]?).getD 0)
  else if off = 0x9000 ∨ off = 0x9004 then bitsWhere 32 (fun b => s.host.pend.contains (8 * (off - 0x9000) + b))
  else if barRam off = false then 0
  else if off < cmdRing ∧ off % 16 = 12 then 1 - s.barNum off 4
  else s.barNum off 4

/-- A read of BAR0: none where it completes with Completer Abort, because both copies of a word fail (R160). -/
def State.bar0Read (s : State) (off size : Nat) : Option Nat :=
  if size = 4 ∧ off % 4 = 0 ∨ size = 8 ∧ off % 8 = 0 then
    if sramHit s.mem.sramBad (hifBase + off) size ≠ [] then none
    else some (s.hostRead off + (if size = 8 then 2 ^ 32 * s.hostRead (off + 4) else 0))
  else some 0

/-- A read of four bytes of BAR2, with the state after it: none where it completes with Unsupported Request (R121). -/
def State.bar2Read (s : State) (off : Nat) : Option (Nat × State) :=
  if s.bit UPD_STATUS_DEBUG_OPEN ∧ off + 4 ≤ 2 ^ 28 then
    let a := s.fget HIF_BAR2_BASE_BASE * 2 ^ 28 + off
    if s.inDram a 4 = true ∨ inSram a 4 = true then some (bytesToNat (s.devGet a 4), (s.memCheck a 4).1) else some (s.busRead a)
  else none

end Sys2Proof.Machine
end

