-- ==== Sys2Proof/Machine/Access.lean ====
section
/-! DEFINITION. Loads, stores, and register accesses of engine programs (R62 to R65, R73, R92 to R95). -/

namespace Sys2Proof.Machine

/-- The address of an access: w[a] + sext(imm16), modulo 2^32 (R63, R73). -/
def Arch.addr (a : Arch) (r : BitVec 5) (imm : BitVec 16) : Nat := (a.getW r + imm.signExtend 32).toNat

/-- The segment that holds an access of `n` bytes at an address, where the task declares it and it is long enough (R63). -/
def Task.segFor (t : Task) (a n : Nat) : Option SegDesc :=
  match t.hdr.segs.find? (fun d => d.seg == a / 2 ^ 28) with
  | some d => if a % 2 ^ 28 + n ≤ d.size then some d else none
  | none => none

/-- The trap of an access, the lowest code first (R63, R64, R92, R93). -/
def Task.accessTrap (t : Task) (a n : Nat) (store : Bool) : Option Nat :=
  if a % n ≠ 0 then some trapAlign
  else match t.segFor a n with
    | none => some trapSegment
    | some d => if store ∧ d.ro = true then some trapAccess else none

/-- The location of a segment (R112, R117): 0 own memory, 1 supervisor SRAM, 2 DRAM. -/
def Task.locOf (t : Task) (a : Nat) : Nat := (kvGet t.segLoc (a / 2 ^ 28)).getD 0

/-- The cycles of a load or a store (R94); in DRAM they are at least 60 and not fixed: free above that (log entry 2). -/
def State.accessCycles (s : State) (loc own : Nat) : Nat × State :=
  if loc = 2 then (60 + s.draw.1, s.draw.2) else (if loc = 1 then 32 else own, s)

/-- An access to a DRAM segment waits on the page store (R95): the task leaves its engine, and the access completes without it after its
cycles of 2 ns (R58, R94); the registers `a` are delivered when the task next runs after that. -/
def State.dramWait (s : State) (i : Nat) (t : Task) (a : Arch) (cycles : Nat) : State :=
  (s.setTask i { t with arch := { t.arch with pc := t.arch.pc + 1 }, stat := .waiting, stall := true,
                        access := some (s.tick + (cycles + 1) / 2, { a with pc := t.arch.pc + 1 }), cyc := t.cyc + cycles,
                        maxCyc := max t.maxCyc (t.cyc + cycles) }).setRunning t.phys none

/-- An access ends: in place, or for a DRAM segment without the engine (R94, R95). -/
def State.accessEnd (s : State) (i : Nat) (t : Task) (a : Arch) (loc cycles : Nat) : State :=
  if loc = 2 then s.dramWait i t a cycles else s.retire i t a cycles

/-- Accesses that have completed at this TB tick (R95): their tasks are ready again, with the registers delivered. -/
def State.accessTick (s : State) : State :=
  (s.ex.tasks.map (fun e => e.1)).foldl (fun s i => match s.task? i with
    | some t => match t.access with
      | some (due, a) => if t.stat = .waiting ∧ due ≤ s.tick then s.makeReady i { t with arch := a, stall := false, access := none } else s
      | none => s
    | none => s) s

/-- A load of `n` bytes (R63 to R65, R94, R160, R162, R445): the value that `ext` makes of them. A word of an image-backed read-only segment
that fails is fetched again while the engine stalls. -/
def State.load (s : State) (i : Nat) (t : Task) (d a : BitVec 5) (imm : BitVec 16) (n : Nat) (ext : Nat → Int) : State :=
  let ad := t.arch.addr a imm
  match t.accessTrap ad n false with
  | some k => s.trap i t k
  | none =>
    let loc := t.locOf ad
    let m := s.memCheck (t.segAddr ad) n
    if m.2 then
      if (t.segFor ad n).any (fun g => g.ro && g.init) = true ∧ loc ≠ 2 then m.1.setTask i { t with stall := true } else m.1.trap i t trapParity
    else
      let v := ext (bytesToNat (s.rawGet (t.segAddr ad) n))
      let r := if loc = 2 then m.1.taken i v else (v, m.1)
      let c := r.2.accessCycles loc 2
      c.2.accessEnd i t (t.arch.setW d (BitVec.ofInt 32 r.1)) loc c.1

/-- A store of the low `n` bytes of w[d] (R63, R64, R94). -/
def State.store (s : State) (i : Nat) (t : Task) (d a : BitVec 5) (imm : BitVec 16) (n : Nat) : State :=
  let ad := t.arch.addr a imm
  match t.accessTrap ad n true with
  | some k => s.trap i t k
  | none =>
    let s1 := s.rawPut (t.segAddr ad) (natToBytes (t.arch.getW d).toNat n)
    let c := s1.accessCycles (t.locOf ad) 1
    c.2.accessEnd i t t.arch (t.locOf ad) c.1

/-- LDW (R63). -/
def execLdw (p : Nat) (d a : BitVec 5) (imm : BitVec 16) (s : State) : Host.Outcome State Fault Refusal :=
  onTask p s (fun i t => s.load i t d a imm 4 (fun v => (v : Int)))

/-- LDH (R63, R68): sign-extended. -/
def execLdh (p : Nat) (d a : BitVec 5) (imm : BitVec 16) (s : State) : Host.Outcome State Fault Refusal :=
  onTask p s (fun i t => s.load i t d a imm 2 (sext 16))

/-- LDHU (R63, R68): zero-extended. -/
def execLdhu (p : Nat) (d a : BitVec 5) (imm : BitVec 16) (s : State) : Host.Outcome State Fault Refusal :=
  onTask p s (fun i t => s.load i t d a imm 2 (fun v => (v : Int)))

/-- LDB (R63, R68): sign-extended. -/
def execLdb (p : Nat) (d a : BitVec 5) (imm : BitVec 16) (s : State) : Host.Outcome State Fault Refusal :=
  onTask p s (fun i t => s.load i t d a imm 1 (sext 8))

/-- LDBU (R63, R68): zero-extended. -/
def execLdbu (p : Nat) (d a : BitVec 5) (imm : BitVec 16) (s : State) : Host.Outcome State Fault Refusal :=
  onTask p s (fun i t => s.load i t d a imm 1 (fun v => (v : Int)))

/-- STW (R63). -/
def execStw (p : Nat) (d a : BitVec 5) (imm : BitVec 16) (s : State) : Host.Outcome State Fault Refusal :=
  onTask p s (fun i t => s.store i t d a imm 4)

/-- STH (R63). -/
def execSth (p : Nat) (d a : BitVec 5) (imm : BitVec 16) (s : State) : Host.Outcome State Fault Refusal :=
  onTask p s (fun i t => s.store i t d a imm 2)

/-- STB (R63). -/
def execStb (p : Nat) (d a : BitVec 5) (imm : BitVec 16) (s : State) : Host.Outcome State Fault Refusal :=
  onTask p s (fun i t => s.store i t d a imm 1)

/-! ### Register accesses (R73) -/

/-- The device address that IOR and IOW reach: bits [25:0] are an offset in the register window. -/
def ioAddr (a : Arch) (r : BitVec 5) (imm : BitVec 16) : Nat := 0x2000000000 + a.addr r imm % 2 ^ 26

/-- The trap of a register access (R64, R92). -/
def Task.ioTrap (t : Task) (ad : Nat) : Option Nat :=
  if ad % 4 ≠ 0 then some trapAlign
  else if aonAddr ad ∧ t.hdr.cls = 0 then some trapTiming
  else none

/-- The value that IOR returns, recorded or from the recording (R445, R450). -/
def State.ioRead (s : State) (i ad : Nat) : Int × State :=
  if s.replaying then s.taken i 0
  else
    let r := s.busRead ad
    r.2.taken i r.1

/-- IOR (R10, R27, R73). -/
def execIor (p : Nat) (d a : BitVec 5) (imm : BitVec 16) (s : State) : Host.Outcome State Fault Refusal :=
  onTask p s (fun i t =>
    let ad := ioAddr t.arch a imm
    match t.ioTrap ad with
    | some k => s.trap i t k
    | none =>
      let r := s.ioRead i ad
      r.2.retire i t (t.arch.setW d (BitVec.ofInt 32 r.1)) 12)

/-- IOW (R6 to R10, R29, R73, R95): the write acts when the instruction ends. A write of an AON register that finds the queue full takes its
task off the engine until an entry has become free, and completes without the engine. -/
def execIow (p : Nat) (d a : BitVec 5) (imm : BitVec 16) (s : State) : Host.Outcome State Fault Refusal :=
  onTask p s (fun i t =>
    let ad := ioAddr t.arch a imm
    match t.ioTrap ad with
    | some k => s.trap i t k
    | none =>
      (s.retire i t t.arch 12).output 0x40 i p t.arch.pc.toNat (ad - 0x2000000000) (t.arch.getW d).toNat
        (fun s => s.busWrite i ad (t.arch.getW d).toNat))

end Sys2Proof.Machine
end

