-- ==== Sys2Proof/Machine/Flags.lean ====
section
/-! DEFINITION. What each function of the ALU, multiply and unary groups computes, with its C and V (R61, R69 to R72). -/

namespace Sys2Proof.Machine

/-- A result with its C and V flags. -/
structure AluOut where
  res : Word
  c : Bool
  v : Bool
  deriving DecidableEq, Repr

/-- x + y + carry: C is the carry out of bit 31, V the signed overflow (R61). -/
def addOut (x y : Word) (cin : Bool) : AluOut :=
  let k := if cin then 1 else 0
  let u := x.toNat + y.toNat + k
  let i := x.toInt + y.toInt + k
  ⟨BitVec.ofNat 32 u, decide (2 ^ 32 ≤ u), decide (i < -(2 ^ 31) ∨ 2 ^ 31 ≤ i)⟩

/-- x − y − (1 − cin): C is 1 when no borrow occurs, V the signed overflow (R61). -/
def subOut (x y : Word) (cin : Bool) : AluOut :=
  let k : Nat := if cin then 0 else 1
  let i := x.toInt - y.toInt - k
  ⟨x - y - BitVec.ofNat 32 k, decide (y.toNat + k ≤ x.toNat), decide (i < -(2 ^ 31) ∨ 2 ^ 31 ≤ i)⟩

/-- An integer saturated to 32 signed bits, with whether it saturated. -/
def sat32 (i : Int) : Word × Bool :=
  if i < -(2 ^ 31) then (0x80000000, true)
  else if 2 ^ 31 ≤ i then (0x7FFFFFFF, true)
  else (BitVec.ofInt 32 i, false)

/-- ADDS: saturated sum, C as ADD, V when saturated (R69). -/
def addsOut (x y : Word) : AluOut :=
  ⟨(sat32 (x.toInt + y.toInt)).1, (addOut x y false).c, (sat32 (x.toInt + y.toInt)).2⟩

/-- SUBS: saturated difference, C as SUB, V when saturated (R69). -/
def subsOut (x y : Word) : AluOut :=
  ⟨(sat32 (x.toInt - y.toInt)).1, (subOut x y true).c, (sat32 (x.toInt - y.toInt)).2⟩

/-- A result with C = V = 0 (R69). -/
def logicOut (r : Word) : AluOut := ⟨r, false, false⟩

/-- The shift amount of R69: the five low bits. -/
def shiftAmt (y : Word) : Nat := y.toNat % 32

/-- MULQ (R70): half toward plus infinity, then saturated. -/
def mulqInt (x y : Word) : Int := (x.toInt * y.toInt + 2 ^ 15) / 2 ^ 16

/-- MULQ with its V (R70). -/
def mulqOut (x y : Word) : AluOut := ⟨(sat32 (mulqInt x y)).1, false, (sat32 (mulqInt x y)).2⟩

/-- MACQ (R70): one saturation of the exact sum; V if the product or the sum lies outside the range (log entry 8). -/
def macqOut (d x y : Word) : AluOut :=
  let p := mulqInt x y
  let r := sat32 (d.toInt + p)
  ⟨r.1, false, (sat32 p).2 || r.2⟩

/-- DIV (R70, R71). -/
def divOut (x y : Word) : AluOut :=
  if y = 0 then ⟨if x.msb then 0x80000000 else 0x7FFFFFFF, false, true⟩
  else if x = 0x80000000 ∧ y = 0xFFFFFFFF then ⟨0x7FFFFFFF, false, true⟩
  else ⟨BitVec.ofInt 32 (x.toInt.tdiv y.toInt), false, false⟩

/-- DIVU (R70, R71). -/
def divuOut (x y : Word) : AluOut :=
  if y = 0 then ⟨0xFFFFFFFF, false, true⟩ else ⟨BitVec.ofNat 32 (x.toNat / y.toNat), false, false⟩

/-- REM (R70, R71): the sign of a; 0 for the overflow of DIV. -/
def remOut (x y : Word) : AluOut :=
  if y = 0 then ⟨x, false, true⟩ else ⟨BitVec.ofInt 32 (x.toInt.tmod y.toInt), false, false⟩

/-- REMU (R70, R71). -/
def remuOut (x y : Word) : AluOut :=
  if y = 0 then ⟨x, false, true⟩ else ⟨BitVec.ofNat 32 (x.toNat % y.toNat), false, false⟩

/-- NEG (R72): V is the overflow. The unary group takes no C from here: the spec gives it none (log entry 8). -/
def negOut (x : Word) : AluOut := ⟨-x, false, decide (x = 0x80000000)⟩

/-- NEGS (R72). -/
def negsOut (x : Word) : AluOut := ⟨(sat32 (-x.toInt)).1, false, (sat32 (-x.toInt)).2⟩

/-- ABS (R72). -/
def absOut (x : Word) : AluOut := ⟨(sat32 x.toInt.natAbs).1, false, (sat32 x.toInt.natAbs).2⟩

/-- Leading zeros of the low `k` bits of a number. -/
def clzNat (x : Nat) : Nat → Nat
  | 0 => 0
  | k + 1 => if x.testBit k then 0 else 1 + clzNat x k

/-- CLZ (R72): 0 to 32. -/
def clzWord (x : Word) : Word := BitVec.ofNat 32 (clzNat x.toNat 32)

/-- POPC (R72). -/
def popcWord (x : Word) : Word := BitVec.ofNat 32 ((List.range 32).filter (fun i => x.toNat.testBit i)).length

/-- BSWAP (R72). -/
def bswapWord (x : Word) : Word :=
  x.extractLsb' 0 8 ++ x.extractLsb' 8 8 ++ x.extractLsb' 16 8 ++ x.extractLsb' 24 8

end Sys2Proof.Machine
end

