-- ==== Sys2Proof/Machine/Alu.lean ====
section
/-! DEFINITION. The ALU group, the multiply and divide group, the unary group and the immediate instructions (R61, R68 to R72). -/

namespace Sys2Proof.Machine

/-- An instruction of formats R with result in w[d] and, with F = 1, the flags of R61. -/
def aluOp (p : Nat) (f : Bool) (d : BitVec 5) (cycles : Nat) (k : Arch → AluOut) (s : State) :
    Host.Outcome State Fault Refusal :=
  onTask p s (fun i t =>
    let o := k t.arch
    let a := t.arch.setW d o.res
    s.retire i t (if f then a.setFlags o.res.msb (o.res == 0) o.c o.v else a) cycles)

/-- An instruction of the unary group (R61, R72). R61 has F = 1 set C as the group's table has it, and the table has no C: it is a free
value (log entry 8). -/
def unaryOp (p : Nat) (f : Bool) (d a : BitVec 5) (k : Word → AluOut) (s : State) : Host.Outcome State Fault Refusal :=
  onTask p s (fun i t =>
    let o := k (t.arch.getW a)
    let r := t.arch.setW d o.res
    if f then s.draw.2.retire i t (r.setFlags o.res.msb (o.res == 0) (s.draw.1 % 2 == 1) o.v) 1 else s.retire i t r 1)

/-- An immediate instruction: w[d] gets the result and no flag changes (R68, R69). -/
def immOp (p : Nat) (d : BitVec 5) (k : Arch → Word) (s : State) : Host.Outcome State Fault Refusal :=
  onTask p s (fun i t => s.retire i t (t.arch.setW d (k t.arch)) 1)

/-- ADD (R69). -/
def execAdd (p : Nat) (f : Bool) (d a b : BitVec 5) (s : State) : Host.Outcome State Fault Refusal :=
  aluOp p f d 1 (fun r => let x := r.getW a; let y := r.getW b; addOut x y false) s

/-- SUB (R69). -/
def execSub (p : Nat) (f : Bool) (d a b : BitVec 5) (s : State) : Host.Outcome State Fault Refusal :=
  aluOp p f d 1 (fun r => let x := r.getW a; let y := r.getW b; subOut x y true) s

/-- ADDS (R69). -/
def execAdds (p : Nat) (f : Bool) (d a b : BitVec 5) (s : State) : Host.Outcome State Fault Refusal :=
  aluOp p f d 1 (fun r => let x := r.getW a; let y := r.getW b; addsOut x y) s

/-- SUBS (R69). -/
def execSubs (p : Nat) (f : Bool) (d a b : BitVec 5) (s : State) : Host.Outcome State Fault Refusal :=
  aluOp p f d 1 (fun r => let x := r.getW a; let y := r.getW b; subsOut x y) s

/-- ADC (R69). -/
def execAdc (p : Nat) (f : Bool) (d a b : BitVec 5) (s : State) : Host.Outcome State Fault Refusal :=
  aluOp p f d 1 (fun r => let x := r.getW a; let y := r.getW b; addOut x y r.c) s

/-- SBC (R69). -/
def execSbc (p : Nat) (f : Bool) (d a b : BitVec 5) (s : State) : Host.Outcome State Fault Refusal :=
  aluOp p f d 1 (fun r => let x := r.getW a; let y := r.getW b; subOut x y r.c) s

/-- AND (R69). -/
def execAndR (p : Nat) (f : Bool) (d a b : BitVec 5) (s : State) : Host.Outcome State Fault Refusal :=
  aluOp p f d 1 (fun r => let x := r.getW a; let y := r.getW b; logicOut (x &&& y)) s

/-- OR (R69). -/
def execOrR (p : Nat) (f : Bool) (d a b : BitVec 5) (s : State) : Host.Outcome State Fault Refusal :=
  aluOp p f d 1 (fun r => let x := r.getW a; let y := r.getW b; logicOut (x ||| y)) s

/-- XOR (R69). -/
def execXorR (p : Nat) (f : Bool) (d a b : BitVec 5) (s : State) : Host.Outcome State Fault Refusal :=
  aluOp p f d 1 (fun r => let x := r.getW a; let y := r.getW b; logicOut (x ^^^ y)) s

/-- ANDN (R69). -/
def execAndn (p : Nat) (f : Bool) (d a b : BitVec 5) (s : State) : Host.Outcome State Fault Refusal :=
  aluOp p f d 1 (fun r => let x := r.getW a; let y := r.getW b; logicOut (x &&& ~~~y)) s

/-- SHL (R69). -/
def execShl (p : Nat) (f : Bool) (d a b : BitVec 5) (s : State) : Host.Outcome State Fault Refusal :=
  aluOp p f d 1 (fun r => let x := r.getW a; let y := r.getW b; logicOut (x <<< shiftAmt y)) s

/-- SHR (R69). -/
def execShr (p : Nat) (f : Bool) (d a b : BitVec 5) (s : State) : Host.Outcome State Fault Refusal :=
  aluOp p f d 1 (fun r => let x := r.getW a; let y := r.getW b; logicOut (x >>> shiftAmt y)) s

/-- SAR (R69). -/
def execSar (p : Nat) (f : Bool) (d a b : BitVec 5) (s : State) : Host.Outcome State Fault Refusal :=
  aluOp p f d 1 (fun r => let x := r.getW a; let y := r.getW b; logicOut (x.sshiftRight (shiftAmt y))) s

/-- ROR (R69). -/
def execRor (p : Nat) (f : Bool) (d a b : BitVec 5) (s : State) : Host.Outcome State Fault Refusal :=
  aluOp p f d 1 (fun r => let x := r.getW a; let y := r.getW b; logicOut (x.rotateRight (shiftAmt y))) s

/-- MIN (R69). -/
def execMinS (p : Nat) (f : Bool) (d a b : BitVec 5) (s : State) : Host.Outcome State Fault Refusal :=
  aluOp p f d 1 (fun r => let x := r.getW a; let y := r.getW b; logicOut (if x.slt y then x else y)) s

/-- MAX (R69). -/
def execMaxS (p : Nat) (f : Bool) (d a b : BitVec 5) (s : State) : Host.Outcome State Fault Refusal :=
  aluOp p f d 1 (fun r => let x := r.getW a; let y := r.getW b; logicOut (if x.slt y then y else x)) s

/-- MINU (R69). -/
def execMinu (p : Nat) (f : Bool) (d a b : BitVec 5) (s : State) : Host.Outcome State Fault Refusal :=
  aluOp p f d 1 (fun r => let x := r.getW a; let y := r.getW b; logicOut (if x.ult y then x else y)) s

/-- MAXU (R69). -/
def execMaxu (p : Nat) (f : Bool) (d a b : BitVec 5) (s : State) : Host.Outcome State Fault Refusal :=
  aluOp p f d 1 (fun r => let x := r.getW a; let y := r.getW b; logicOut (if x.ult y then y else x)) s

/-- SLT (R69). -/
def execSlt (p : Nat) (f : Bool) (d a b : BitVec 5) (s : State) : Host.Outcome State Fault Refusal :=
  aluOp p f d 1 (fun r => let x := r.getW a; let y := r.getW b; logicOut (if x.slt y then 1 else 0)) s

/-- SLTU (R69). -/
def execSltu (p : Nat) (f : Bool) (d a b : BitVec 5) (s : State) : Host.Outcome State Fault Refusal :=
  aluOp p f d 1 (fun r => let x := r.getW a; let y := r.getW b; logicOut (if x.ult y then 1 else 0)) s

/-- MUL (R70, R71). -/
def execMul (p : Nat) (f : Bool) (d a b : BitVec 5) (s : State) : Host.Outcome State Fault Refusal :=
  aluOp p f d 2 (fun r => let x := r.getW a; let y := r.getW b; logicOut (x * y)) s

/-- MULH (R70, R71). -/
def execMulh (p : Nat) (f : Bool) (d a b : BitVec 5) (s : State) : Host.Outcome State Fault Refusal :=
  aluOp p f d 2 (fun r => let x := r.getW a; let y := r.getW b; logicOut (BitVec.ofInt 32 (x.toInt * y.toInt / 2 ^ 32))) s

/-- MULHU (R70, R71). -/
def execMulhu (p : Nat) (f : Bool) (d a b : BitVec 5) (s : State) : Host.Outcome State Fault Refusal :=
  aluOp p f d 2 (fun r => let x := r.getW a; let y := r.getW b; logicOut (BitVec.ofNat 32 (x.toNat * y.toNat / 2 ^ 32))) s

/-- MULQ (R70, R71). -/
def execMulq (p : Nat) (f : Bool) (d a b : BitVec 5) (s : State) : Host.Outcome State Fault Refusal :=
  aluOp p f d 2 (fun r => let x := r.getW a; let y := r.getW b; mulqOut x y) s

/-- MACQ (R70, R71). -/
def execMacq (p : Nat) (f : Bool) (d a b : BitVec 5) (s : State) : Host.Outcome State Fault Refusal :=
  aluOp p f d 2 (fun r => let x := r.getW a; let y := r.getW b; macqOut (r.getW d) x y) s

/-- DIV (R70, R71). -/
def execDiv (p : Nat) (f : Bool) (d a b : BitVec 5) (s : State) : Host.Outcome State Fault Refusal :=
  aluOp p f d 18 (fun r => let x := r.getW a; let y := r.getW b; divOut x y) s

/-- DIVU (R70, R71). -/
def execDivu (p : Nat) (f : Bool) (d a b : BitVec 5) (s : State) : Host.Outcome State Fault Refusal :=
  aluOp p f d 18 (fun r => let x := r.getW a; let y := r.getW b; divuOut x y) s

/-- REM (R70, R71). -/
def execRem (p : Nat) (f : Bool) (d a b : BitVec 5) (s : State) : Host.Outcome State Fault Refusal :=
  aluOp p f d 18 (fun r => let x := r.getW a; let y := r.getW b; remOut x y) s

/-- REMU (R70, R71). -/
def execRemu (p : Nat) (f : Bool) (d a b : BitVec 5) (s : State) : Host.Outcome State Fault Refusal :=
  aluOp p f d 18 (fun r => let x := r.getW a; let y := r.getW b; remuOut x y) s

/-- NEG (R72). -/
def execNeg (p : Nat) (f : Bool) (d a : BitVec 5) (s : State) : Host.Outcome State Fault Refusal :=
  unaryOp p f d a (fun x => negOut x) s

/-- NEGS (R72). -/
def execNegs (p : Nat) (f : Bool) (d a : BitVec 5) (s : State) : Host.Outcome State Fault Refusal :=
  unaryOp p f d a (fun x => negsOut x) s

/-- ABS (R72). -/
def execAbsS (p : Nat) (f : Bool) (d a : BitVec 5) (s : State) : Host.Outcome State Fault Refusal :=
  unaryOp p f d a (fun x => absOut x) s

/-- NOT (R72). -/
def execNotR (p : Nat) (f : Bool) (d a : BitVec 5) (s : State) : Host.Outcome State Fault Refusal :=
  unaryOp p f d a (fun x => logicOut (~~~x)) s

/-- CLZ (R72). -/
def execClz (p : Nat) (f : Bool) (d a : BitVec 5) (s : State) : Host.Outcome State Fault Refusal :=
  unaryOp p f d a (fun x => logicOut (clzWord x)) s

/-- POPC (R72). -/
def execPopc (p : Nat) (f : Bool) (d a : BitVec 5) (s : State) : Host.Outcome State Fault Refusal :=
  unaryOp p f d a (fun x => logicOut (popcWord x)) s

/-- SEXTB (R72). -/
def execSextb (p : Nat) (f : Bool) (d a : BitVec 5) (s : State) : Host.Outcome State Fault Refusal :=
  unaryOp p f d a (fun x => logicOut ((x.truncate 8).signExtend 32)) s

/-- SEXTH (R72). -/
def execSexth (p : Nat) (f : Bool) (d a : BitVec 5) (s : State) : Host.Outcome State Fault Refusal :=
  unaryOp p f d a (fun x => logicOut ((x.truncate 16).signExtend 32)) s

/-- ZEXTB (R72). -/
def execZextb (p : Nat) (f : Bool) (d a : BitVec 5) (s : State) : Host.Outcome State Fault Refusal :=
  unaryOp p f d a (fun x => logicOut ((x.truncate 8).zeroExtend 32)) s

/-- ZEXTH (R72). -/
def execZexth (p : Nat) (f : Bool) (d a : BitVec 5) (s : State) : Host.Outcome State Fault Refusal :=
  unaryOp p f d a (fun x => logicOut ((x.truncate 16).zeroExtend 32)) s

/-- BSWAP (R72). -/
def execBswap (p : Nat) (f : Bool) (d a : BitVec 5) (s : State) : Host.Outcome State Fault Refusal :=
  unaryOp p f d a (fun x => logicOut (bswapWord x)) s

/-- ADDI (R68): the flags stay. -/
def execAddi (p : Nat) (d a : BitVec 5) (imm : BitVec 16) (s : State) : Host.Outcome State Fault Refusal :=
  immOp p d (fun r => r.getW a + imm.signExtend 32) s

/-- ANDI (R68): the flags stay. -/
def execAndi (p : Nat) (d a : BitVec 5) (imm : BitVec 16) (s : State) : Host.Outcome State Fault Refusal :=
  immOp p d (fun r => r.getW a &&& imm.zeroExtend 32) s

/-- ORI (R68): the flags stay. -/
def execOri (p : Nat) (d a : BitVec 5) (imm : BitVec 16) (s : State) : Host.Outcome State Fault Refusal :=
  immOp p d (fun r => r.getW a ||| imm.zeroExtend 32) s

/-- XORI (R68): the flags stay. -/
def execXori (p : Nat) (d a : BitVec 5) (imm : BitVec 16) (s : State) : Host.Outcome State Fault Refusal :=
  immOp p d (fun r => r.getW a ^^^ imm.zeroExtend 32) s

/-- LUI (R68). -/
def execLui (p : Nat) (d : BitVec 5) (imm : BitVec 16) (s : State) : Host.Outcome State Fault Refusal :=
  immOp p d (fun _ => imm.zeroExtend 32 <<< 16) s

/-- SHI (R68): kind 0 SHL, 1 SHR, 2 SAR, 3 ROR. -/
def execShi (p : Nat) (d a : BitVec 5) (kind : BitVec 2) (n : BitVec 5) (s : State) : Host.Outcome State Fault Refusal :=
  immOp p d (fun r =>
    let x := r.getW a
    if kind = 0 then x <<< n.toNat
    else if kind = 1 then x >>> n.toNat
    else if kind = 2 then x.sshiftRight n.toNat
    else x.rotateRight n.toNat) s

/-- CMPI (R61, R68): the flags of w[a] − sext(imm16). -/
def execCmpi (p : Nat) (a : BitVec 5) (imm : BitVec 16) (s : State) : Host.Outcome State Fault Refusal :=
  aluOp p true 0 1 (fun r => subOut (r.getW a) (imm.signExtend 32) true) s

end Sys2Proof.Machine
end

