-- ==== Sys2Proof/Machine/Words.lean ====
section
/-! DEFINITION. The words of the Exine instruction set (R66 to R69, R70, R72, R77, R79, R84, R87 to R90): which words are legal, and the instruction
that a legal word spells. -/

namespace Sys2Proof.Machine

/-- The function codes of an R-format opcode, each with the fields that must be 0 (1 d, 2 a, 4 b; 16, 32, 64 the upper bits of a
t-register in d, a or b; 128 a station number in b) (R66, R69, R70, R72, R77, R87). A field that a function does not use and that is not shown
as 0 may hold anything (log entry 8). -/
def fnRows (op : Nat) : List (Nat × Nat) :=
  match op with
  | 0x01 => [0, 1, 2, 3, 4, 5, 8, 9, 10, 11, 16, 17, 18, 19, 24, 25, 26, 27, 28, 29].map (fun f => (f, 0))
  | 0x02 => [0, 1, 2, 3, 4, 8, 9, 10, 11].map (fun f => (f, 0))
  | 0x03 => [0, 1, 2, 3, 4, 5, 8, 9, 10, 11, 12].map (fun f => (f, 4))
  | 0x28 => [(0, 16), (1, 16 + 128), (2, 16 + 32), (3, 16 + 32 + 64), (4, 32 + 64), (5, 32), (6, 32), (7, 16), (8, 16 + 32),
      (9, 1 + 32 + 64), (10, 16), (11, 1 + 32)]
  | 0x38 => [(0, 7), (1, 7), (2, 7), (3, 7), (4, 6)]
  | _ => []

/-- A word of an R-format opcode names a listed function, and the fields shown as 0 hold 0. -/
def rLegal (op w : Nat) : Bool :=
  let d := w / 2 ^ 21 % 32
  let a := w / 2 ^ 16 % 32
  let b := w / 2 ^ 11 % 32
  match (fnRows op).find? (fun e => e.1 == w % 64) with
  | none => false
  | some (_, z) =>
    let bit := fun (k : Nat) (bad : Bool) => !(z.testBit k && bad)
    decide (w / 64 % 16 = 0) && bit 0 (d != 0) && bit 1 (a != 0) && bit 2 (b != 0)
      && bit 4 (decide (4 ≤ d)) && bit 5 (decide (4 ≤ a)) && bit 6 (decide (4 ≤ b)) && bit 7 (decide (8 ≤ b) || b == 6)

/-- A word that does not trap with ILLEGAL at issue on an engine of its kind (R66 to R68, R79, R84, R88 to R90). -/
def wordLegal (loop : Bool) (w : Nat) : Bool :=
  let op := w / 2 ^ 26
  let d := w / 2 ^ 21 % 32
  let a := w / 2 ^ 16 % 32
  match op with
  | 0x01 | 0x02 | 0x03 | 0x28 | 0x38 => rLegal op w
  | 0x04 | 0x05 | 0x06 | 0x07 | 0x10 | 0x11 | 0x12 | 0x13 | 0x14 | 0x18 | 0x19 | 0x1A | 0x1C | 0x1D | 0x21 | 0x22 => true
  | 0x08 => a == 0
  | 0x09 => decide (w % 2 ^ 16 < 128)
  | 0x0A => d == 0
  | 0x20 => decide (w / 2 ^ 22 % 16 ≠ 15)
  | 0x29 => true
  | 0x30 => decide (w / 2 % 2 ^ 23 = 0)
  | 0x31 => decide (w / 2 ^ 21 % 8 = 0) && decide (w / 2 % 2 ^ 15 = 0)
  | 0x32 => decide (w / 2 ^ 21 % 8 ≠ 6) && decide (w / 2 % 2 ^ 20 = 0)
  | 0x33 => decide (w / 2 ^ 21 % 32 = 0) && decide (w / 2 % 2 ^ 15 = 0)
  | 0x34 | 0x35 => decide (w / 2 ^ 11 % 32 = 0) && (!w.testBit 9 || w % 256 == 0)
  | 0x36 => decide (w / 2 ^ 11 % 32 = 0) && !w.testBit 10 && !w.testBit 8 && (!w.testBit 9 || w % 256 == 0)
  | 0x39 => decide (w / 64 % 16 = 0) && decide (0x20 ≤ w % 64)
  | 0x3C => d == 0 && a == 0
  | 0x3D => loop && d == 0 && a == 0 && decide (w / 64 % 2 ^ 10 = 0)
  | _ => false

/-! ### The instruction of a word -/

/-- The fields of an R-format word (R66): d, a, b and F. -/
def wD (w : BitVec 32) : BitVec 5 := w.extractLsb' 21 5
def wA (w : BitVec 32) : BitVec 5 := w.extractLsb' 16 5
def wB (w : BitVec 32) : BitVec 5 := w.extractLsb' 11 5
def wF (w : BitVec 32) : Bool := w.getLsbD 10

/-- imm16 of an I-format word (R66). -/
def wImm (w : BitVec 32) : BitVec 16 := w.extractLsb' 0 16

/-- The ALU group (R69). -/
def aluInstr (p : Nat) (f : Bool) (d a b : BitVec 5) (fn : Nat) : Option Instr :=
  match fn with
  | 0 => some (.add p f d a b)
  | 1 => some (.sub p f d a b)
  | 2 => some (.adds p f d a b)
  | 3 => some (.subs p f d a b)
  | 4 => some (.adc p f d a b)
  | 5 => some (.sbc p f d a b)
  | 8 => some (.andR p f d a b)
  | 9 => some (.orR p f d a b)
  | 10 => some (.xorR p f d a b)
  | 11 => some (.andn p f d a b)
  | 16 => some (.shl p f d a b)
  | 17 => some (.shr p f d a b)
  | 18 => some (.sar p f d a b)
  | 19 => some (.ror p f d a b)
  | 24 => some (.minS p f d a b)
  | 25 => some (.maxS p f d a b)
  | 26 => some (.minu p f d a b)
  | 27 => some (.maxu p f d a b)
  | 28 => some (.slt p f d a b)
  | 29 => some (.sltu p f d a b)
  | _ => none

/-- The multiply and divide group (R70). -/
def mulInstr (p : Nat) (f : Bool) (d a b : BitVec 5) (fn : Nat) : Option Instr :=
  match fn with
  | 0 => some (.mul p f d a b)
  | 1 => some (.mulh p f d a b)
  | 2 => some (.mulhu p f d a b)
  | 3 => some (.mulq p f d a b)
  | 4 => some (.macq p f d a b)
  | 8 => some (.div p f d a b)
  | 9 => some (.divu p f d a b)
  | 10 => some (.rem p f d a b)
  | 11 => some (.remu p f d a b)
  | _ => none

/-- The unary group (R72). -/
def unaryInstr (p : Nat) (f : Bool) (d a : BitVec 5) (fn : Nat) : Option Instr :=
  match fn with
  | 0 => some (.neg p f d a)
  | 1 => some (.negs p f d a)
  | 2 => some (.absS p f d a)
  | 3 => some (.notR p f d a)
  | 4 => some (.clz p f d a)
  | 5 => some (.popc p f d a)
  | 8 => some (.sextb p f d a)
  | 9 => some (.sexth p f d a)
  | 10 => some (.zextb p f d a)
  | 11 => some (.zexth p f d a)
  | 12 => some (.bswap p f d a)
  | _ => none

/-- The time group (R77): t registers are the two low bits of their fields, a station is b's three low bits. -/
def timeInstr (p : Nat) (w : BitVec 32) (fn : Nat) : Option Instr :=
  let td : BitVec 2 := w.extractLsb' 21 2
  let ta : BitVec 2 := w.extractLsb' 16 2
  let tb : BitVec 2 := w.extractLsb' 11 2
  match fn with
  | 0 => some (.tget p td)
  | 1 => some (.pget p td (w.extractLsb' 11 3))
  | 2 => some (.tadd p td ta (wB w))
  | 3 => some (.tsub p td ta tb)
  | 4 => some (.tdif p (wF w) (wD w) ta tb)
  | 5 => some (.tlo p (wD w) ta)
  | 6 => some (.thi p (wD w) ta)
  | 7 => some (.tset p td (wA w) (wB w))
  | 8 => some (.tmov p td ta)
  | 9 => some (.tcmp p ta tb)
  | 10 => some (.tref p td)
  | 11 => some (.tsref p ta)
  | _ => none

/-- The task group (R87). -/
def taskInstr (p : Nat) (w : BitVec 32) (fn : Nat) : Option Instr :=
  match fn with
  | 0 => some (.yieldI p)
  | 1 => some (.doneI p)
  | 2 => some (.ckpt p)
  | 3 => some (.bkpt p)
  | 4 => some (.tid p (wD w))
  | _ => none

/-- DCALL (R89). -/
def dcallInstr (p : Nat) (svc : BitVec 16) : Instr :=
  match svc.toNat with
  | 1 => .dcallLog p
  | 2 => .dcallSetGet p
  | 3 => .dcallSetPut p
  | 4 => .dcallHeadRead p
  | 5 => .dcallHostEvent p
  | 6 => .dcallSegInfo p
  | _ => .dcallUnknown p svc

/-- Immediates, loads, stores, register accesses and branches (R68). -/
def immInstr (p : Nat) (w : BitVec 32) (op : Nat) : Option Instr :=
  let d := wD w
  let a := wA w
  let imm := wImm w
  match op with
  | 0x04 => some (.addi p d a imm)
  | 0x05 => some (.andi p d a imm)
  | 0x06 => some (.ori p d a imm)
  | 0x07 => some (.xori p d a imm)
  | 0x08 => some (.lui p d imm)
  | 0x09 => some (.shi p d a (w.extractLsb' 5 2) (w.extractLsb' 0 5))
  | 0x0A => some (.cmpi p a imm)
  | 0x10 => some (.ldw p d a imm)
  | 0x11 => some (.ldh p d a imm)
  | 0x12 => some (.ldhu p d a imm)
  | 0x13 => some (.ldb p d a imm)
  | 0x14 => some (.ldbu p d a imm)
  | 0x18 => some (.stw p d a imm)
  | 0x19 => some (.sth p d a imm)
  | 0x1A => some (.stb p d a imm)
  | 0x1C => some (.ior p d a imm)
  | 0x1D => some (.iow p d a imm)
  | 0x20 => some (.bc p (w.extractLsb' 22 4) (w.extractLsb' 0 22))
  | 0x21 => some (.bl p (w.extractLsb' 0 26))
  | 0x22 => some (.jalr p d a imm)
  | _ => none

/-- The instruction that a legal word spells to the engine `p` (R66, R68, R79). -/
def wordFields (p : Nat) (w : BitVec 32) : Option Instr :=
  let fn := w.toNat % 64
  let op := w.toNat / 2 ^ 26
  match op with
  | 0x01 => aluInstr p (wF w) (wD w) (wA w) (wB w) fn
  | 0x02 => mulInstr p (wF w) (wD w) (wA w) (wB w) fn
  | 0x03 => unaryInstr p (wF w) (wD w) (wA w) fn
  | 0x28 => timeInstr p w fn
  | 0x29 => some (.taddi p (w.extractLsb' 24 2) (w.extractLsb' 22 2) (w.extractLsb' 20 2) (w.extractLsb' 0 20))
  | 0x30 => some (.atTime p (w.extractLsb' 24 2) (w.getLsbD 0))
  | 0x31 => some (.after p (w.extractLsb' 24 2) (wA w) (w.getLsbD 0))
  | 0x32 => some (.onpos p (w.extractLsb' 24 2) (w.extractLsb' 21 3) (w.getLsbD 0))
  | 0x33 => some (.evwait p (wA w) (w.getLsbD 0))
  | 0x34 => some (.send p (wD w) (wA w) (w.getLsbD 10) (w.getLsbD 9) (w.getLsbD 8) (w.extractLsb' 0 8))
  | 0x35 => some (.recv p (wD w) (wA w) (w.getLsbD 10) (w.getLsbD 9) (w.getLsbD 8) (w.extractLsb' 0 8))
  | 0x36 => some (.chcnt p (wD w) (wA w) (w.getLsbD 9) (w.extractLsb' 0 8))
  | 0x38 => taskInstr p w fn
  | 0x39 => some (.faultI p (wA w) (w.extractLsb' 0 6))
  | 0x3C => some (dcallInstr p (wImm w))
  | 0x3D => some (.lrun p (w.extractLsb' 0 6))
  | _ => immInstr p w op

/-- The instruction of a word on the engine `p`; a word that traps with ILLEGAL is itself the command ILLEGAL (R67). -/
def wordInstr (p : Nat) (w : BitVec 32) : Instr :=
  if wordLegal (isLoopEngine p) w.toNat then (wordFields p w).getD (.illegal p w) else .illegal p w

/-- The instruction that stands at the PC of the task on the engine `p` (R62, R66, R97): what a sender of the engine's commands sends next. -/
def State.nextInstr (s : State) (p : Nat) : Option Instr :=
  (s.curTask p).bind (fun x => (x.2.hdr.code[x.2.arch.pc.toNat]?).map (wordInstr p))

end Sys2Proof.Machine
end

