-- ==== Sys2Proof/Machine/Dcall.lean ====
section
/-! DEFINITION. Supervisor services, BKPT, illegal words, and the TAP (R67, R87, R89, R92, R95, R441, R478). -/

namespace Sys2Proof.Machine

/-- The four argument words as one number: what a DCALL request record holds as its value. -/
def Arch.argWords (a : Arch) : List Word := [a.getW 1, a.getW 2, a.getW 3, a.getW 4]
def wordsNat : List Word → Nat
  | [] => 0
  | w :: t => w.toNat + 2 ^ 32 * wordsNat t

/-- A DCALL at issue (R89, R92, R95, R103): a hard task traps; any other leaves its engine until the reply. The cycles it occupies are not
fixed: they are free (log entry 2). -/
def State.dcall (s : State) (i : Nat) (t : Task) (svc : Nat) : State :=
  if t.hdr.cls = 0 then s.trap i t trapTiming
  else
    let c := t.cyc + s.draw.1
    ((s.draw.2.setTask i { t with arch := { t.arch with pc := t.arch.pc + 1 }, stat := .waiting, wait := none, dcall := some svc, cyc := c,
                                  maxCyc := max t.maxCyc c }).setRunning t.phys none).output 0x43 i t.phys t.arch.pc.toNat svc
      (wordsNat t.arch.argWords) (fun s => s)

/-- DCALL LOG (R89). -/
def execDcallLog (p : Nat) (s : State) : Host.Outcome State Fault Refusal := onTask p s (fun i t => s.dcall i t 1)

/-- DCALL SET_GET (R89). -/
def execDcallSetGet (p : Nat) (s : State) : Host.Outcome State Fault Refusal := onTask p s (fun i t => s.dcall i t 2)

/-- DCALL SET_PUT (R89). -/
def execDcallSetPut (p : Nat) (s : State) : Host.Outcome State Fault Refusal := onTask p s (fun i t => s.dcall i t 3)

/-- DCALL HEAD_READ (R89). -/
def execDcallHeadRead (p : Nat) (s : State) : Host.Outcome State Fault Refusal := onTask p s (fun i t => s.dcall i t 4)

/-- DCALL HOST_EVENT (R89). -/
def execDcallHostEvent (p : Nat) (s : State) : Host.Outcome State Fault Refusal := onTask p s (fun i t => s.dcall i t 5)

/-- DCALL SEG_INFO (R89). -/
def execDcallSegInfo (p : Nat) (s : State) : Host.Outcome State Fault Refusal := onTask p s (fun i t => s.dcall i t 6)

/-- A DCALL of a service that the table of R89 does not list. -/
def execDcallUnknown (p : Nat) (svc : BitVec 16) (s : State) : Host.Outcome State Fault Refusal := onTask p s (fun i t => s.dcall i t svc.toNat)

/-- A reply of R89: the status, the results from w2 on, and the bytes that HEAD_READ puts in its buffer. -/
structure Reply where
  status : Nat
  results : List Nat
  bytes : List Byte
  deriving DecidableEq, Repr

/-- A reply with a status alone. -/
def Reply.only (k : Nat) : Reply := ⟨k, [], []⟩

/-- LOG: the tag and the values are appended to the engine log. -/
def State.svcLog (s : State) (i : Nat) (w : List Word) : Reply × State :=
  (.only 0, { s with ex := { s.ex with log := (i, w) :: s.ex.log } })

/-- SET_GET: a key that the running copy does not hold is out of range (log entry 17). -/
def State.svcSetGet (s : State) (key : Nat) : Reply × State :=
  (match s.setGet key with
   | some v => ⟨0, [v], []⟩
   | none => .only 2, s)

/-- SET_PUT: refused while the owner lock is set, and for a key of the controller (R434, R441). -/
def State.svcSetPut (s : State) (key v : Nat) : Reply × State :=
  if s.upd.lock ∨ 0xFFFF0000 ≤ key then (.only 4, s) else (.only 0, s.setPut key v)

/-- HEAD_READ (R262): station, offset, buffer and length; `err` a transfer error, `data` what the head sends. -/
def State.svcHeadRead (s : State) (t : Task) (stn off buf len : Nat) (err : Bool) (data : List Byte) : Reply × State :=
  let inBuf : Bool := match t.segFor buf len with
    | some d => !d.ro
    | none => false
  (if 6 ≤ stn ∨ 2 ^ 16 < off + len ∨ len = 0 ∨ 256 < len ∨ inBuf = false then .only 2
   else if s.bit (STNn_HD_STATUS_HREC_BUSY stn) then .only 3
   else if err then .only 5
   else ⟨0, [(data.take len).length], data.take len⟩, s)

/-- HOST_EVENT (R137). -/
def State.svcHostEvent (s : State) (i : Nat) (w : List Word) : Reply × State :=
  if s.bit HIF_CTRL_ENABLE = false ∨ s.evtFree < 8 then (.only 3, s) else (.only 0, s.push (.engine i w))

/-- SEG_INFO: a segment that the task does not declare is out of range (log entry 17). -/
def svcSegInfo (t : Task) (k : Nat) : Reply :=
  match t.hdr.segs.find? (fun d => d.seg == k) with
  | some d => ⟨0, [d.size, (kvGet t.segLoc k).getD 0], []⟩
  | none => .only 2

/-- The supervisor performs a service (R89). -/
def State.service (s : State) (i : Nat) (t : Task) (svc : Nat) (err : Bool) (data : List Byte) : Reply × State :=
  let w := t.arch.argWords
  let n := fun (k : Nat) => (w.getD (k - 1) 0).toNat
  match svc with
  | 1 => s.svcLog i w
  | 2 => s.svcSetGet (n 1)
  | 3 => s.svcSetPut (n 1) (n 2)
  | 4 => s.svcHeadRead t (n 1) (n 2) (n 3) (n 4) err data
  | 5 => s.svcHostEvent i w
  | 6 => (svcSegInfo t (n 1), s)
  | _ => (.only 1, s)

/-- The status goes to w1 and the results to w2 to w4; a register for which there is no result keeps its value. -/
def Arch.putReply (a : Arch) (r : Reply) : Arch :=
  (((r.results.take 3).zip [2, 3, 4]).foldl (fun (a : Arch) (e : Nat × Nat) => a.setW (BitVec.ofNat 5 e.2) (BitVec.ofNat 32 e.1))
    (a.setW 1 (BitVec.ofNat 32 r.status)))

/-- The reply reaches the task, which becomes ready (R89, R95). -/
def State.reply (s : State) (i : Nat) (t : Task) (r : Reply) : State :=
  let s1 := if r.bytes.isEmpty then s
    else s.rawPut (t.segAddr (t.arch.getW 3).toNat) r.bytes
  s1.makeReady i { t with dcall := none, arch := t.arch.putReply r }

/-- A reply as a record holds it (R445), and back. -/
def Reply.data (r : Reply) : List Int :=
  [(r.status : Int), (r.results.length : Int)] ++ r.results.map (fun (x : Nat) => (x : Int)) ++ r.bytes.map (fun (b : Byte) => (b.toNat : Int))
def replyOf (l : List Int) : Reply :=
  let k := (l.getD 1 0).toNat
  ⟨(l.getD 0 0).toNat, ((l.drop 2).take k).map Int.toNat, ((l.drop 2).drop k).map (fun x => BitVec.ofInt 8 x)⟩

/-- DCALL_REPLY (R89, R450): the service is performed and answered; in replay the recording answers. -/
def execDcallReply (task : Nat) (err : Bool) (data : List Byte) (s : State) : Host.Outcome State Fault Refusal :=
  onUnit (task < 512) (match s.task? task with
    | some t =>
      match t.stat, t.dcall with
      | .waiting, some svc =>
        if s.replaying then
          match s.replayVal 0x12 task with
          | some (l, s1) => s1.reply task t (replyOf l)
          | none => s
        else
          let r := s.service task t svc err data
          (r.2.record 0x12 task r.1.data).reply task t r.1
      | _, _ => s
    | none => s)

/-- BKPT (R87): with debug unlocked the task halts for the debugger, at the next instruction; otherwise it traps. -/
def execBkpt (p : Nat) (s : State) : Host.Outcome State Fault Refusal :=
  onTask p s (fun i t =>
    if s.bit UPD_STATUS_DEBUG_OPEN then
      (s.setTask i { t with arch := { t.arch with pc := t.arch.pc + 1 }, cyc := t.cyc + 2, maxCyc := max t.maxCyc (t.cyc + 2), stat := .stopped,
                            halted := true }).setRunning p none
    else s.trap i t trapBkpt)

/-- ILLEGAL (R67): a word that this chapter does not list traps; any other word is another command's. -/
def execIllegal (p : Nat) (w : BitVec 32) (s : State) : Host.Outcome State Fault Refusal :=
  onTask p s (fun i t => if wordLegal (isLoopEngine p) w.toNat then s else s.trap i t trapIllegal)

/-- Make an instruction that of the TAP. -/
def State.setTap (s : State) (op : TapOp) : State := { s with tap := op }

/-- TAP_INSTRUCTION (R478): EXTEST is accepted only while RESET_N is low; while debug is locked an instruction that is not accepted acts as
BYPASS; what the other instructions do once debug is open, the spec does not say. -/
def execTapInstruction (op : TapOp) (s : State) : Host.Outcome State Fault Refusal :=
  match op with
  | .idcode => .next (s.setTap .idcode)
  | .bypass => .next (s.setTap .bypass)
  | .samplePreload => .next (s.setTap .samplePreload)
  | .extest => .next (s.setTap (if s.power.pinLow then .extest else .bypass))
  | .other => if s.bit UPD_STATUS_DEBUG_OPEN then .refused .testInstruction else .next (s.setTap .bypass)

end Sys2Proof.Machine
end

