-- ==== Sys2Proof/Machine/DmaMove.lean ====
section
/-! DEFINITION. What the DMA channels move: the checks of a descriptor, its completion, and its halt (R139 to R144). -/

namespace Sys2Proof.Machine

/-- Some free bytes (log entry 2). -/
def State.drawBytes (s : State) (k : Nat) : List Byte × State :=
  ((List.range k).map (fun i => BitVec.ofNat 8 (Config.free (s.freeCtr + i))), { s with freeCtr := s.freeCtr + k })

/-! ### Descriptors (R140) -/

/-- A descriptor: OWN, IRQ, CRC, CHAIN, its length, its two sides as space and address, and the seed. -/
structure Desc where
  own : Bool
  irq : Bool
  crc : Bool
  chain : Bool
  len : Nat
  srcSpace : Nat
  src : Nat
  dstSpace : Nat
  dst : Nat
  seed : Nat
  deriving DecidableEq, Repr

/-- The descriptor that 32 bytes spell (R140). -/
def descOf (b : List Byte) : Desc :=
  let w := fun (i : Nat) => bytesToNat ((b.drop (4 * i)).take 4)
  ⟨(w 0).testBit 31, (w 0).testBit 30, (w 0).testBit 29, (w 0).testBit 28, w 0 % 2 ^ 24 + 1, w 1 % 4, w 2 + 2 ^ 32 * w 3, w 1 / 16 % 4,
   w 4 + 2 ^ 32 * w 5, w 6⟩

/-- The error of the ring itself, where its descriptor cannot be reached (R142, R144). -/
def State.ringErr (s : State) (n : Nat) : Option Nat :=
  let a := s.descAddr n (s.dmaHead n)
  match s.fget (DMAn_RING_HI_SPACE n) with
  | 0 => if s.inDram a 32 || inSram a 32 then none else some 1
  | 2 => match s.segRange (s.fget (DMAn_CTRL_OWNER n)) a 32 with
    | some d => if d.ro then some 2 else none
    | none => some 2
  | _ => some 7

/-- The descriptor at HEAD. -/
def State.headDesc (s : State) (n : Nat) : Desc := descOf (s.ringGet n (s.descAddr n (s.dmaHead n)) 32)

/-- A range of the block-register window (R141). -/
def inRegs (a len : Nat) : Bool := decide (0x2000000000 ≤ a) && decide (a + len ≤ 0x2004000000)

/-- The errors of one side of a descriptor (R141, R144). -/
def State.sideErrs (s : State) (task space a len : Nat) (dst : Bool) : List Nat :=
  match space with
  | 0 =>
    if s.inDram a len || inSram a len then []
    else if inRegs a len then
      (if a % 4 = 0 ∧ len % 4 = 0 then (if (List.range (len / 4)).all (fun i => s.regMapped (a + 4 * i)) then [] else [1]) else [3])
    else [1]
  | 1 => if s.hostReach then [] else [5]
  | 2 => match s.segRange task a len with
    | some d => if d.ro && dst then [2] else []
    | none => [2]
  | _ => [7]

/-- Reading the first `len` bytes of the source (R144, R159, R162): what it reports, and whether a word of them cannot be read right. -/
def State.srcCheck (s : State) (task : Nat) (d : Desc) (len : Nat) : State × Bool :=
  match d.srcSpace with
  | 0 => if s.inDram d.src len || inSram d.src len then s.memCheck d.src len else (s, false)
  | 2 => s.memCheck (s.segAt task d.src) len
  | _ => (s, false)
def State.srcBad (s : State) (task : Nat) (d : Desc) : Bool := (s.srcCheck task d d.len).2

/-- The errors with which the descriptor at HEAD can halt its channel (R144). -/
def State.descErrs (s : State) (n : Nat) : List Nat :=
  match s.ringErr n with
  | some e => [e]
  | none =>
    let d := s.headDesc n
    let task := s.fget (DMAn_CTRL_OWNER n)
    if d.own = false then [8]
    else s.sideErrs task d.srcSpace d.src d.len false ++ s.sideErrs task d.dstSpace d.dst d.len true
      ++ (if d.srcSpace = d.dstSpace ∧ d.src < d.dst + d.len ∧ d.dst < d.src + d.len then [4] else [])
      ++ (if s.srcBad task d then [6] else [])

/-! ### The move -/

/-- Words read from consecutive registers, each a 32-bit access. -/
def State.readWords (s : State) (a : Nat) : Nat → List Byte × State
  | 0 => ([], s)
  | k + 1 =>
    let r := s.regRead a
    let t := r.2.readWords (a + 4) k
    (natToBytes r.1 4 ++ t.1, t.2)

/-- Words written to consecutive registers. -/
def State.writeWords (s : State) (a : Nat) (b : List Byte) : Nat → State
  | 0 => s
  | k + 1 => (s.regWrite a (bytesToNat (b.take 4))).writeWords (a + 4) (b.drop 4) k

/-- The first `len` bytes of the source; those of host memory are the operand's. -/
def State.srcBytes (s : State) (task : Nat) (d : Desc) (len : Nat) (hostBytes : List Byte) : List Byte × State :=
  match d.srcSpace with
  | 0 => if s.inDram d.src len || inSram d.src len then (s.devGet d.src len, s) else s.readWords d.src (len / 4)
  | 1 => ((hostBytes ++ List.replicate len 0).take len, s)
  | _ => (s.segGet task d.src len, s)

/-- Write bytes to the destination; those for the host leave for its memory. -/
def State.dstPut (s : State) (task : Nat) (d : Desc) (b : List Byte) : State :=
  match d.dstSpace with
  | 0 => if s.inDram d.dst b.length || inSram d.dst b.length then s.devPut d.dst b else s.writeWords d.dst b (b.length / 4)
  | 1 => s.post d.dst b
  | _ => s.segPut task d.dst b

/-- The CRC register that a descriptor starts from; with CHAIN and no descriptor before it on the channel it is 0, of which the spec says nothing
(DESIGN CHOICE, log entry 47). -/
def State.crcSeed (s : State) (n : Nat) (d : Desc) : Nat :=
  if d.chain then ((kvGet s.dma n).map (fun c => c.lastCrc)).getD 0 else d.seed

/-- Words 6 and 7 of a completed descriptor: word 6 is free where no CRC is computed (log entry 2). -/
def State.putResult (s : State) (n : Nat) (d : Desc) (b : List Byte) : State :=
  let run := if d.crc then crc32Run (s.crcSeed n d) b else s.draw.1 % 2 ^ 32
  let s1 := if d.crc then s else s.draw.2
  ({ s1 with dma := kvSet s1.dma n { ((kvGet s1.dma n).getD ⟨0, none⟩) with lastCrc := run } }).ringPut n
    (s1.descAddr n (s1.dmaHead n) + 24) (natToBytes (run ^^^ 0xFFFFFFFF) 4 ++ natToBytes (d.len % 2 ^ 25) 4)

/-- The event of a channel. -/
def State.dmaEvent (s : State) (e : Nat) : State := s.event (selOf 0x070000 e)

/-- A channel of a task completes its descriptor (R143). -/
def State.descComplete (s : State) (n : Nat) (hostBytes : List Byte) : State :=
  if s.dmaRuns n ∧ s.descErrs n = [] then
    let d := s.headDesc n
    let task := s.fget (DMAn_CTRL_OWNER n)
    let r := (s.srcCheck task d d.len).1.srcBytes task d d.len hostBytes
    let s1 := ((((r.2.dstPut task d r.1).putResult n d r.1).dmaAdvance n).fwrap (DMAn_COUNT_DONE n) 1)
    if d.irq then s1.dmaEvent n else s1
  else s

/-- DMA_DESCRIPTOR_COMPLETE (R131, R143): of a task's channel, or of a plane that the host-link service moves. -/
def execDmaDescriptorComplete (n : Nat) (hostBytes : List Byte) (s : State) : Host.Outcome State Fault Refusal :=
  onUnit (n < 16) (
    if 8 ≤ n then s.descComplete n hostBytes
    else match (kvGet s.dma n).bind (fun c => c.plane) with
      | some (seq, i) => if s.hostReach then s.planeChunk n seq i hostBytes else s
      | none => s)

/-- HALTED with ERR and ERR_INDEX, event 16 + n and the message (R144). -/
def State.halted (s : State) (n err : Nat) : State :=
  ((s.fsets [(DMAn_STATUS_HALTED n, 1), (DMAn_STATUS_ERR n, err), (DMAn_STATUS_ERR_INDEX n, s.dmaHead n)]).sendFault (dmaSrc n) err
    (s.dmaHead n)).dmaEvent (16 + n)

/-- The bytes that a failing descriptor has written stay written (R144): only an error of the host or of the source's data comes after the
first byte. What the host sent before its error is free (log entry 2). -/
def State.haltMove (s : State) (task : Nat) (d : Desc) (err done : Nat) : State :=
  if err = 5 ∨ err = 6 then
    let k := min done (d.len - 1)
    let h := s.drawBytes (if d.srcSpace = 1 then k else 0)
    let r := h.2.srcBytes task d k h.1
    r.2.dstPut task d r.1
  else s

/-- The bytes that a halt reports in DONE_BYTES. -/
def haltDone (d : Desc) (err done : Nat) : Nat := if err = 5 ∨ err = 6 then min done (d.len - 1) else 0

/-- A channel of a task halts (R144); an uncorrectable source is reported as any read that finds it (R162). -/
def State.descHalt (s : State) (n err done : Nat) : State :=
  let d := s.headDesc n
  let task := s.fget (DMAn_CTRL_OWNER n)
  let host := s.ringErr n == none && d.own && (d.srcSpace == 1 || d.dstSpace == 1)
  if s.dmaRuns n ∧ ((s.descErrs n).contains err = true ∨ (err = 5 ∧ host = true)) then
    let s0 := if err = 6 then (s.srcCheck task d d.len).1 else s
    let s1 := match s.ringErr n with
      | some _ => s
      | none => (s0.haltMove task d err done).ringPut n (s.descAddr n (s.dmaHead n) + 28) (natToBytes (err * 2 ^ 25 + haltDone d err done) 4)
    s1.halted n err
  else s

/-- DMA_HALT (R133, R144): of a task's channel, or a plane whose host read completes with an error. -/
def execDmaHalt (n : Nat) (err : Nat) (done : Nat) (s : State) : Host.Outcome State Fault Refusal :=
  onUnit (n < 16) (
    if 8 ≤ n then s.descHalt n err done
    else match (kvGet s.dma n).bind (fun c => c.plane) with
      | some (seq, i) =>
        if err = 5 ∧ s.hostReach = true then
          let s1 := ({ s with dma := kvMod s.dma n (fun (c : DmaCh) => { c with plane := none }) }).halted n 5
          (s1.planeFail seq i 2 0).startPlanes
        else s
      | none => s)

end Sys2Proof.Machine
end

