-- ==== Sys2Proof/Machine/LoopRun.lean ====
section
/-! DEFINITION. LRUN (R58, R67, R90, R160, R327). -/

namespace Sys2Proof.Machine

/-- M of R90, the products of the sample that LRUN runs: under the shadows that it loads (R331). -/
def State.lrunM (s : State) (n task : Nat) : Nat := if s.loopRefused n task ∨ s.inBackup then s.loopM n else (s.loopLoad n).loopM n

/-- LRUN: exists only on loop engines. A descriptor whose store fails in both copies traps it (R160). -/
def execLrun (p : Nat) (n : BitVec 6) (s : State) : Host.Outcome State Fault Refusal :=
  onTask p s (fun i t =>
    let m := s.sramRead (Config.loopAddr n.toNat) 4
    if isLoopEngine p = false then s.trap i t trapIllegal
    else if m.2 then m.1.trap i t trapParity
    else
      let cyc := lrunCycles (m.1.lrunM n.toNat i)
      let s1 := m.1.loopRun n.toNat i
      match s1.task? i with
      | some t1 => s1.retire i t1 t1.arch cyc
      | none => s1)

end Sys2Proof.Machine
end

