-- ==== Sys2Proof/Machine/Dispatch.lean ====
section
/-! DEFINITION. One arm per command of the table: each is one call of that command's meaning. -/

namespace Sys2Proof.Machine

def exec (i : Instr) (s : State) : Host.Outcome State Fault Refusal :=
  match i with
  | .registerWrite addr size value => Sys2Proof.Machine.execRegisterWrite addr size value s
  | .add p f d a b => Sys2Proof.Machine.execAdd p f d a b s
  | .sub p f d a b => Sys2Proof.Machine.execSub p f d a b s
  | .adds p f d a b => Sys2Proof.Machine.execAdds p f d a b s
  | .subs p f d a b => Sys2Proof.Machine.execSubs p f d a b s
  | .adc p f d a b => Sys2Proof.Machine.execAdc p f d a b s
  | .sbc p f d a b => Sys2Proof.Machine.execSbc p f d a b s
  | .andR p f d a b => Sys2Proof.Machine.execAndR p f d a b s
  | .orR p f d a b => Sys2Proof.Machine.execOrR p f d a b s
  | .xorR p f d a b => Sys2Proof.Machine.execXorR p f d a b s
  | .andn p f d a b => Sys2Proof.Machine.execAndn p f d a b s
  | .shl p f d a b => Sys2Proof.Machine.execShl p f d a b s
  | .shr p f d a b => Sys2Proof.Machine.execShr p f d a b s
  | .sar p f d a b => Sys2Proof.Machine.execSar p f d a b s
  | .ror p f d a b => Sys2Proof.Machine.execRor p f d a b s
  | .minS p f d a b => Sys2Proof.Machine.execMinS p f d a b s
  | .maxS p f d a b => Sys2Proof.Machine.execMaxS p f d a b s
  | .minu p f d a b => Sys2Proof.Machine.execMinu p f d a b s
  | .maxu p f d a b => Sys2Proof.Machine.execMaxu p f d a b s
  | .slt p f d a b => Sys2Proof.Machine.execSlt p f d a b s
  | .sltu p f d a b => Sys2Proof.Machine.execSltu p f d a b s
  | .mul p f d a b => Sys2Proof.Machine.execMul p f d a b s
  | .mulh p f d a b => Sys2Proof.Machine.execMulh p f d a b s
  | .mulhu p f d a b => Sys2Proof.Machine.execMulhu p f d a b s
  | .mulq p f d a b => Sys2Proof.Machine.execMulq p f d a b s
  | .macq p f d a b => Sys2Proof.Machine.execMacq p f d a b s
  | .div p f d a b => Sys2Proof.Machine.execDiv p f d a b s
  | .divu p f d a b => Sys2Proof.Machine.execDivu p f d a b s
  | .rem p f d a b => Sys2Proof.Machine.execRem p f d a b s
  | .remu p f d a b => Sys2Proof.Machine.execRemu p f d a b s
  | .neg p f d a => Sys2Proof.Machine.execNeg p f d a s
  | .negs p f d a => Sys2Proof.Machine.execNegs p f d a s
  | .absS p f d a => Sys2Proof.Machine.execAbsS p f d a s
  | .notR p f d a => Sys2Proof.Machine.execNotR p f d a s
  | .clz p f d a => Sys2Proof.Machine.execClz p f d a s
  | .popc p f d a => Sys2Proof.Machine.execPopc p f d a s
  | .sextb p f d a => Sys2Proof.Machine.execSextb p f d a s
  | .sexth p f d a => Sys2Proof.Machine.execSexth p f d a s
  | .zextb p f d a => Sys2Proof.Machine.execZextb p f d a s
  | .zexth p f d a => Sys2Proof.Machine.execZexth p f d a s
  | .bswap p f d a => Sys2Proof.Machine.execBswap p f d a s
  | .addi p d a imm => Sys2Proof.Machine.execAddi p d a imm s
  | .andi p d a imm => Sys2Proof.Machine.execAndi p d a imm s
  | .ori p d a imm => Sys2Proof.Machine.execOri p d a imm s
  | .xori p d a imm => Sys2Proof.Machine.execXori p d a imm s
  | .lui p d imm => Sys2Proof.Machine.execLui p d imm s
  | .shi p d a kind n => Sys2Proof.Machine.execShi p d a kind n s
  | .cmpi p a imm => Sys2Proof.Machine.execCmpi p a imm s
  | .ldw p d a imm => Sys2Proof.Machine.execLdw p d a imm s
  | .ldh p d a imm => Sys2Proof.Machine.execLdh p d a imm s
  | .ldhu p d a imm => Sys2Proof.Machine.execLdhu p d a imm s
  | .ldb p d a imm => Sys2Proof.Machine.execLdb p d a imm s
  | .ldbu p d a imm => Sys2Proof.Machine.execLdbu p d a imm s
  | .stw p d a imm => Sys2Proof.Machine.execStw p d a imm s
  | .sth p d a imm => Sys2Proof.Machine.execSth p d a imm s
  | .stb p d a imm => Sys2Proof.Machine.execStb p d a imm s
  | .ior p d a imm => Sys2Proof.Machine.execIor p d a imm s
  | .iow p d a imm => Sys2Proof.Machine.execIow p d a imm s
  | .bc p cond off => Sys2Proof.Machine.execBc p cond off s
  | .bl p off => Sys2Proof.Machine.execBl p off s
  | .jalr p d a imm => Sys2Proof.Machine.execJalr p d a imm s
  | .tget p td => Sys2Proof.Machine.execTget p td s
  | .pget p td stn => Sys2Proof.Machine.execPget p td stn s
  | .tadd p td ta b => Sys2Proof.Machine.execTadd p td ta b s
  | .tsub p td ta tb => Sys2Proof.Machine.execTsub p td ta tb s
  | .tdif p f d ta tb => Sys2Proof.Machine.execTdif p f d ta tb s
  | .tlo p d ta => Sys2Proof.Machine.execTlo p d ta s
  | .thi p d ta => Sys2Proof.Machine.execThi p d ta s
  | .tset p td a b => Sys2Proof.Machine.execTset p td a b s
  | .tmov p td ta => Sys2Proof.Machine.execTmov p td ta s
  | .tcmp p ta tb => Sys2Proof.Machine.execTcmp p ta tb s
  | .tref p td => Sys2Proof.Machine.execTref p td s
  | .tsref p ta => Sys2Proof.Machine.execTsref p ta s
  | .taddi p td ta scale imm => Sys2Proof.Machine.execTaddi p td ta scale imm s
  | .atTime p ta l => Sys2Proof.Machine.execAtTime p ta l s
  | .after p scale a l => Sys2Proof.Machine.execAfter p scale a l s
  | .onpos p ta stn l => Sys2Proof.Machine.execOnpos p ta stn l s
  | .evwait p a l => Sys2Proof.Machine.execEvwait p a l s
  | .waitEnd task => Sys2Proof.Machine.execWaitEnd task s
  | .waitLimit task => Sys2Proof.Machine.execWaitLimit task s
  | .send p d a l x nb ch => Sys2Proof.Machine.execSend p d a l x nb ch s
  | .recv p d a l x nb ch => Sys2Proof.Machine.execRecv p d a l x nb ch s
  | .chcnt p d a x ch => Sys2Proof.Machine.execChcnt p d a x ch s
  | .messageWaitEnd task => Sys2Proof.Machine.execMessageWaitEnd task s
  | .yieldI p => Sys2Proof.Machine.execYieldI p s
  | .doneI p => Sys2Proof.Machine.execDoneI p s
  | .ckpt p => Sys2Proof.Machine.execCkpt p s
  | .bkpt p => Sys2Proof.Machine.execBkpt p s
  | .tid p d => Sys2Proof.Machine.execTid p d s
  | .faultI p a kind => Sys2Proof.Machine.execFaultI p a kind s
  | .dcallLog p => Sys2Proof.Machine.execDcallLog p s
  | .dcallSetGet p => Sys2Proof.Machine.execDcallSetGet p s
  | .dcallSetPut p => Sys2Proof.Machine.execDcallSetPut p s
  | .dcallHeadRead p => Sys2Proof.Machine.execDcallHeadRead p s
  | .dcallHostEvent p => Sys2Proof.Machine.execDcallHostEvent p s
  | .dcallSegInfo p => Sys2Proof.Machine.execDcallSegInfo p s
  | .dcallUnknown p svc => Sys2Proof.Machine.execDcallUnknown p svc s
  | .dcallReply task err data => Sys2Proof.Machine.execDcallReply task err data s
  | .lrun p n => Sys2Proof.Machine.execLrun p n s
  | .budgetExceeded task => Sys2Proof.Machine.execBudgetExceeded task s
  | .deadlineMissed task => Sys2Proof.Machine.execDeadlineMissed task s
  | .periodRelease task => Sys2Proof.Machine.execPeriodRelease task s
  | .taskDispatch p => Sys2Proof.Machine.execTaskDispatch p s
  | .trapRestart task => Sys2Proof.Machine.execTrapRestart task s
  | .taskRestartCheckpoint task => Sys2Proof.Machine.execTaskRestartCheckpoint task s
  | .taskRestartEntry task => Sys2Proof.Machine.execTaskRestartEntry task s
  | .taskStop task => Sys2Proof.Machine.execTaskStop task s
  | .boundaryMove p => Sys2Proof.Machine.execBoundaryMove p s
  | .unitHardFail u kind detail => Sys2Proof.Machine.execUnitHardFail u kind detail s
  | .flitResend dir same => Sys2Proof.Machine.execFlitResend dir same s
  | .packageFault => Sys2Proof.Machine.execPackageFault s
  | .handoffSend rcv => Sys2Proof.Machine.execHandoffSend rcv s
  | .handoffFrameRx port f => Sys2Proof.Machine.execHandoffFrameRx port f s
  | .handoffAckRx f => Sys2Proof.Machine.execHandoffAckRx f s
  | .handoffResend rcv => Sys2Proof.Machine.execHandoffResend rcv s
  | .handoffLost rcv => Sys2Proof.Machine.execHandoffLost rcv s
  | .hoRxRead => Sys2Proof.Machine.execHoRxRead s
  | .runStart h seq => Sys2Proof.Machine.execRunStart h seq s
  | .runEnd h => Sys2Proof.Machine.execRunEnd h s
  | .sheetSubmit h seq slot => Sys2Proof.Machine.execSheetSubmit h seq slot s
  | .sheetReload h seq slot => Sys2Proof.Machine.execSheetReload h seq slot s
  | .sheetWithdraw h seq => Sys2Proof.Machine.execSheetWithdraw h seq s
  | .statusQuery h => Sys2Proof.Machine.execStatusQuery h s
  | .hostAcknowledge h ack => Sys2Proof.Machine.execHostAcknowledge h ack s
  | .engineCall h task w1 w2 w3 w4 => Sys2Proof.Machine.execEngineCall h task w1 w2 w3 w4 s
  | .updateStage h addr len token hostErr image => Sys2Proof.Machine.execUpdateStage h addr len token hostErr image s
  | .updateActivate h => Sys2Proof.Machine.execUpdateActivate h s
  | .updateConfirm h => Sys2Proof.Machine.execUpdateConfirm h s
  | .updateRevert h => Sys2Proof.Machine.execUpdateRevert h s
  | .recordExport h addr len off hostErr => Sys2Proof.Machine.execRecordExport h addr len off hostErr s
  | .unknownCmd h opcode => Sys2Proof.Machine.execUnknownCmd h opcode s
  | .commandDoorbell tail => Sys2Proof.Machine.execCommandDoorbell tail s
  | .eventHeadWrite head => Sys2Proof.Machine.execEventHeadWrite head s
  | .hifEnable => Sys2Proof.Machine.execHifEnable s
  | .resync => Sys2Proof.Machine.execResync s
  | .resyncSheetState => Sys2Proof.Machine.execResyncSheetState s
  | .msixHoldoffEnd => Sys2Proof.Machine.execMsixHoldoffEnd s
  | .statusMirrorRewrite => Sys2Proof.Machine.execStatusMirrorRewrite s
  | .linkDown => Sys2Proof.Machine.execLinkDown s
  | .hotReset => Sys2Proof.Machine.execHotReset s
  | .functionLevelReset => Sys2Proof.Machine.execFunctionLevelReset s
  | .d3hotEntry => Sys2Proof.Machine.execD3hotEntry s
  | .pciePerst => Sys2Proof.Machine.execPciePerst s
  | .busMasterEnable => Sys2Proof.Machine.execBusMasterEnable s
  | .planeAllocate => Sys2Proof.Machine.execPlaneAllocate s
  | .dmaDoorbell n tail => Sys2Proof.Machine.execDmaDoorbell n tail s
  | .dmaResume n => Sys2Proof.Machine.execDmaResume n s
  | .dmaSkip n => Sys2Proof.Machine.execDmaSkip n s
  | .dmaDescriptorComplete n hostBytes => Sys2Proof.Machine.execDmaDescriptorComplete n hostBytes s
  | .dmaHalt n err done => Sys2Proof.Machine.execDmaHalt n err done s
  | .admissionDecision => Sys2Proof.Machine.execAdmissionDecision s
  | .sheetLock seq => Sys2Proof.Machine.execSheetLock seq s
  | .sheetCommit seq => Sys2Proof.Machine.execSheetCommit seq s
  | .sheetTransferred seq => Sys2Proof.Machine.execSheetTransferred seq s
  | .declareFused => Sys2Proof.Machine.execDeclareFused s
  | .declareDelivered => Sys2Proof.Machine.execDeclareDelivered s
  | .declareJam => Sys2Proof.Machine.execDeclareJam s
  | .journalPageProgrammed good => Sys2Proof.Machine.execJournalPageProgrammed good s
  | .journalBlockErased => Sys2Proof.Machine.execJournalBlockErased s
  | .compactNow => Sys2Proof.Machine.execCompactNow s
  | .idleCompact => Sys2Proof.Machine.execIdleCompact s
  | .degradedExit => Sys2Proof.Machine.execDegradedExit s
  | .scrubWalkStep c k err word => Sys2Proof.Machine.execScrubWalkStep c k err word s
  | .rangePassGo => Sys2Proof.Machine.execRangePassGo s
  | .rangePassDone errs => Sys2Proof.Machine.execRangePassDone errs s
  | .leakTick c => Sys2Proof.Machine.execLeakTick c s
  | .remapLine => Sys2Proof.Machine.execRemapLine s
  | .remapRemove => Sys2Proof.Machine.execRemapRemove s
  | .mergeWriteback line => Sys2Proof.Machine.execMergeWriteback line s
  | .mr4Read ch mr4 high => Sys2Proof.Machine.execMr4Read ch mr4 high s
  | .backedRefetchDone n table uncorr => Sys2Proof.Machine.execBackedRefetchDone n table uncorr s
  | .codeRefetchDone p => Sys2Proof.Machine.execCodeRefetchDone p s
  | .repairSave => Sys2Proof.Machine.execRepairSave s
  | .rsvWrite pipe v => Sys2Proof.Machine.execRsvWrite pipe v s
  | .tileDecode n => Sys2Proof.Machine.execTileDecode n s
  | .tableLoad n table => Sys2Proof.Machine.execTableLoad n table s
  | .tablePatch n table => Sys2Proof.Machine.execTablePatch n table s
  | .loadDone n uncorr => Sys2Proof.Machine.execLoadDone n uncorr s
  | .stnxMove n => Sys2Proof.Machine.execStnxMove n s
  | .stnxReturn => Sys2Proof.Machine.execStnxReturn s
  | .moved => Sys2Proof.Machine.execMoved s
  | .encoderCount up => Sys2Proof.Machine.execEncoderCount up s
  | .indexZ ab => Sys2Proof.Machine.execIndexZ ab s
  | .encLost cause => Sys2Proof.Machine.execEncLost cause s
  | .pposEnable en => Sys2Proof.Machine.execPposEnable en s
  | .pposEncLostClear persists => Sys2Proof.Machine.execPposEncLostClear persists s
  | .pposOffsetWrite n hi => Sys2Proof.Machine.execPposOffsetWrite n hi s
  | .facetBoundary n e margin => Sys2Proof.Machine.execFacetBoundary n e margin s
  | .sosMiss n back margin => Sys2Proof.Machine.execSosMiss n back margin s
  | .eosEdge n e => Sys2Proof.Machine.execEosEdge n e s
  | .eosMiss n => Sys2Proof.Machine.execEosMiss n s
  | .pixUnlock n ref => Sys2Proof.Machine.execPixUnlock n ref s
  | .pixLock n => Sys2Proof.Machine.execPixLock n s
  | .scanEnable n => Sys2Proof.Machine.execScanEnable n s
  | .lineBoundary n margin => Sys2Proof.Machine.execLineBoundary n margin s
  | .barEnable n => Sys2Proof.Machine.execBarEnable n s
  | .hrecRead n => Sys2Proof.Machine.execHrecRead n s
  | .hrecDone n rec => Sys2Proof.Machine.execHrecDone n rec s
  | .headStatusRead n st => Sys2Proof.Machine.execHeadStatusRead n st s
  | .defAdd n emitter => Sys2Proof.Machine.execDefAdd n emitter s
  | .thStale n => Sys2Proof.Machine.execThStale n s
  | .hotClear n => Sys2Proof.Machine.execHotClear n s
  | .drvValley n x => Sys2Proof.Machine.execDrvValley n x s
  | .drvEncoderCount n up => Sys2Proof.Machine.execDrvEncoderCount n up s
  | .drvIndex n => Sys2Proof.Machine.execDrvIndex n s
  | .drvEncLost n cause => Sys2Proof.Machine.execDrvEncLost n cause s
  | .drvStart n => Sys2Proof.Machine.execDrvStart n s
  | .drvStop n => Sys2Proof.Machine.execDrvStop n s
  | .drvDisable n => Sys2Proof.Machine.execDrvDisable n s
  | .catchTimeout n emf => Sys2Proof.Machine.execCatchTimeout n emf s
  | .alignTimeout n => Sys2Proof.Machine.execAlignTimeout n s
  | .rampTimeout n => Sys2Proof.Machine.execRampTimeout n s
  | .observeTimeout n => Sys2Proof.Machine.execObserveTimeout n s
  | .zwaitExpiry n => Sys2Proof.Machine.execZwaitExpiry n s
  | .stoppedEv n => Sys2Proof.Machine.execStoppedEv n s
  | .recatchReset n => Sys2Proof.Machine.execRecatchReset n s
  | .keEstimate n vll => Sys2Proof.Machine.execKeEstimate n vll s
  | .resolverSample n sin cos speed => Sys2Proof.Machine.execResolverSample n sin cos speed s
  | .drvEncLostClear n persists => Sys2Proof.Machine.execDrvEncLostClear n persists s
  | .readyEv n => Sys2Proof.Machine.execReadyEv n s
  | .axsTick n => Sys2Proof.Machine.execAxsTick n s
  | .moveEv n => Sys2Proof.Machine.execMoveEv n s
  | .velEv n => Sys2Proof.Machine.execVelEv n s
  | .axsStop n => Sys2Proof.Machine.execAxsStop n s
  | .haltEv n => Sys2Proof.Machine.execHaltEv n s
  | .resumeEv n => Sys2Proof.Machine.execResumeEv n s
  | .homeEv n => Sys2Proof.Machine.execHomeEv n s
  | .setposEv n => Sys2Proof.Machine.execSetposEv n s
  | .axsDisable n => Sys2Proof.Machine.execAxsDisable n s
  | .stepEdge n dir => Sys2Proof.Machine.execStepEdge n dir s
  | .chopPeriodStart n tripA tripB => Sys2Proof.Machine.execChopPeriodStart n tripA tripB s
  | .standstillEv n => Sys2Proof.Machine.execStandstillEv n s
  | .poweredDown n => Sys2Proof.Machine.execPoweredDown n s
  | .axsRepower n => Sys2Proof.Machine.execAxsRepower n s
  | .posUncClear n => Sys2Proof.Machine.execPosUncClear n s
  | .applyEv n => Sys2Proof.Machine.execApplyEv n s
  | .loopEnable n => Sys2Proof.Machine.execLoopEnable n s
  | .hvoPeriodStart n => Sys2Proof.Machine.execHvoPeriodStart n s
  | .fusPeriodStart n => Sys2Proof.Machine.execFusPeriodStart n s
  | .fusEnable f en => Sys2Proof.Machine.execFusEnable f en s
  | .fltEv f low => Sys2Proof.Machine.execFltEv f low s
  | .fuserEnEdge => Sys2Proof.Machine.execFuserEnEdge s
  | .adcConversionDone c code => Sys2Proof.Machine.execAdcConversionDone c code s
  | .backgroundScan c => Sys2Proof.Machine.execBackgroundScan c s
  | .refBad c bad => Sys2Proof.Machine.execRefBad c bad s
  | .gpioInputEdge p level => Sys2Proof.Machine.execGpioInputEdge p level s
  | .setEv => Sys2Proof.Machine.execSetEv s
  | .addOffset => Sys2Proof.Machine.execAddOffset s
  | .slewEv => Sys2Proof.Machine.execSlewEv s
  | .slewEnd => Sys2Proof.Machine.execSlewEnd s
  | .timeIncWrite v => Sys2Proof.Machine.execTimeIncWrite v s
  | .ptpFrameRx port f => Sys2Proof.Machine.execPtpFrameRx port f s
  | .announceTimeout self => Sys2Proof.Machine.execAnnounceTimeout self s
  | .ptpSyncTx stamp => Sys2Proof.Machine.execPtpSyncTx stamp s
  | .txTimestamp n id typ stamp => Sys2Proof.Machine.execTxTimestamp n id typ stamp s
  | .txtsRead n => Sys2Proof.Machine.execTxtsRead n s
  | .rtcSync => Sys2Proof.Machine.execRtcSync s
  | .armEv c => Sys2Proof.Machine.execArmEv c s
  | .disarmEv c => Sys2Proof.Machine.execDisarmEv c s
  | .almanacFire c => Sys2Proof.Machine.execAlmanacFire c s
  | .captureEdge k falling dt => Sys2Proof.Machine.execCaptureEdge k falling dt s
  | .captureRead k => Sys2Proof.Machine.execCaptureRead k s
  | .vmainFail mv => Sys2Proof.Machine.execVmainFail mv s
  | .vmainReturn mv => Sys2Proof.Machine.execVmainReturn mv s
  | .backupSample vmain vback => Sys2Proof.Machine.execBackupSample vmain vback s
  | .railUndervoltage rail => Sys2Proof.Machine.execRailUndervoltage rail s
  | .frostEndDecision => Sys2Proof.Machine.execFrostEndDecision s
  | .hibernateRequest key => Sys2Proof.Machine.execHibernateRequest key s
  | .wakeInput k => Sys2Proof.Machine.execWakeInput k s
  | .alarmEv => Sys2Proof.Machine.execAlarmEv s
  | .hibernateExitPower => Sys2Proof.Machine.execHibernateExitPower s
  | .rtcSet => Sys2Proof.Machine.execRtcSet s
  | .aonWriteComplete => Sys2Proof.Machine.execAonWriteComplete s
  | .lockLost k => Sys2Proof.Machine.execLockLost k s
  | .pllRelock k => Sys2Proof.Machine.execPllRelock k s
  | .refLost => Sys2Proof.Machine.execRefLost s
  | .xt32Fail => Sys2Proof.Machine.execXt32Fail s
  | .porEv => Sys2Proof.Machine.execPorEv s
  | .resetPin low => Sys2Proof.Machine.execResetPin low s
  | .softReset key => Sys2Proof.Machine.execSoftReset key s
  | .watchdogEv => Sys2Proof.Machine.execWatchdogEv s
  | .bootEv trainOk flashOk => Sys2Proof.Machine.execBootEv trainOk flashOk s
  | .bootFail => Sys2Proof.Machine.execBootFail s
  | .thawEv => Sys2Proof.Machine.execThawEv s
  | .frostEv => Sys2Proof.Machine.execFrostEv s
  | .rsConversion k code => Sys2Proof.Machine.execRsConversion k code s
  | .railSettleExpiry => Sys2Proof.Machine.execRailSettleExpiry s
  | .thawTimeout => Sys2Proof.Machine.execThawTimeout s
  | .chainTimeout => Sys2Proof.Machine.execChainTimeout s
  | .seqInRise => Sys2Proof.Machine.execSeqInRise s
  | .seqInFall => Sys2Proof.Machine.execSeqInFall s
  | .railLinkExchange resp => Sys2Proof.Machine.execRailLinkExchange resp s
  | .railLinkRetry => Sys2Proof.Machine.execRailLinkRetry s
  | .railPoll k => Sys2Proof.Machine.execRailPoll k s
  | .frostStuck => Sys2Proof.Machine.execFrostStuck s
  | .slaveFrostTimeout => Sys2Proof.Machine.execSlaveFrostTimeout s
  | .restartHoldExpiry => Sys2Proof.Machine.execRestartHoldExpiry s
  | .faultMessageArrival => Sys2Proof.Machine.execFaultMessageArrival s
  | .graceExpiry src => Sys2Proof.Machine.execGraceExpiry src s
  | .fltStatusClear src => Sys2Proof.Machine.execFltStatusClear src s
  | .clearEv => Sys2Proof.Machine.execClearEv s
  | .forceEv src => Sys2Proof.Machine.execForceEv src s
  | .countClr src => Sys2Proof.Machine.execCountClr src s
  | .fltQueueRead => Sys2Proof.Machine.execFltQueueRead s
  | .queueOvf => Sys2Proof.Machine.execQueueOvf s
  | .thermalReading r => Sys2Proof.Machine.execThermalReading r s
  | .tripEv => Sys2Proof.Machine.execTripEv s
  | .tripRelease => Sys2Proof.Machine.execTripRelease s
  | .sensorBadClear => Sys2Proof.Machine.execSensorBadClear s
  | .lockEv => Sys2Proof.Machine.execLockEv s
  | .unlockEv => Sys2Proof.Machine.execUnlockEv s
  | .debugEv => Sys2Proof.Machine.execDebugEv s
  | .slotTableEraseDone => Sys2Proof.Machine.execSlotTableEraseDone s
  | .settingsCompact => Sys2Proof.Machine.execSettingsCompact s
  | .recoveryData f => Sys2Proof.Machine.execRecoveryData f s
  | .recoveryDone f => Sys2Proof.Machine.execRecoveryDone f s
  | .recoveryActivate f => Sys2Proof.Machine.execRecoveryActivate f s
  | .recoveryToken f => Sys2Proof.Machine.execRecoveryToken f s
  | .freezeEv => Sys2Proof.Machine.execFreezeEv s
  | .frozenEv => Sys2Proof.Machine.execFrozenEv s
  | .rearmEv => Sys2Proof.Machine.execRearmEv s
  | .norExport => Sys2Proof.Machine.execNorExport s
  | .norDone => Sys2Proof.Machine.execNorDone s
  | .loadNor => Sys2Proof.Machine.execLoadNor s
  | .loadRing ok => Sys2Proof.Machine.execLoadRing ok s
  | .replayEv => Sys2Proof.Machine.execReplayEv s
  | .replayStop => Sys2Proof.Machine.execReplayStop s
  | .replayEnd => Sys2Proof.Machine.execReplayEnd s
  | .snapshotEv => Sys2Proof.Machine.execSnapshotEv s
  | .timeRecord => Sys2Proof.Machine.execTimeRecord s
  | .wearMeasure src age errs => Sys2Proof.Machine.execWearMeasure src age errs s
  | .spareSelfTest src ok => Sys2Proof.Machine.execSpareSelfTest src ok s
  | .retireEv => Sys2Proof.Machine.execRetireEv s
  | .restoreEv => Sys2Proof.Machine.execRestoreEv s
  | .illegal p w => Sys2Proof.Machine.execIllegal p w s
  | .hbToggle fresh => Sys2Proof.Machine.execHbToggle fresh s
  | .recordedOutputMissing p => Sys2Proof.Machine.execRecordedOutputMissing p s
  | .ptpDelayRequest => Sys2Proof.Machine.execPtpDelayRequest s
  | .tapInstruction op => Sys2Proof.Machine.execTapInstruction op s

end Sys2Proof.Machine
end

