-- ==== Sys2Proof/Machine/Idle.lean ====
section
/-! DEFINITION. What happens at a tick of the TB clock whatever is commanded (log entry 3): time, the writes that cross, accesses and moves that end,
what befalls the memories and the links, what is judged all the time, and replay. -/

namespace Sys2Proof.Machine

/-- A list of words with one more. -/
def addWord (l : List Nat) (w : Nat) : List Nat := if l.contains w then l else l ++ [w]

/-- A 4-byte word lies in paired memory, and in backed memory (R11, R120, R159). -/
def pairedWord (w : Nat) : Bool := pairedRanges.any (fun r => decide (r.1 ≤ w ∧ w < r.1 + 64 * r.2))
def backedWord (w : Nat) : Bool := decide (sramBase + 0x400000 ≤ w ∧ w < sramBase + 0xB00000)

/-- A word of the page store can hold an error: it is usable, and its line is not served from a remap entry (R166). -/
def State.dramWord (s : State) (w : Nat) : Bool := decide (8 * w + 8 ≤ s.usable) && (s.remapOf (w / 8)).isNone

/-- Both copies of a paired word fail; of a remap entry that is an uncorrectable error of its line (R160). -/
def State.bothFail (s : State) (w : Nat) : State :=
  if remapSpace ≤ w then
    match kvGet s.mem.remap ((w - remapSpace) / 64) with
    | some e => { s with mem := { s.mem with badWords := addWord s.mem.badWords (e.line * 8 + (w - remapSpace) % 64 / 8) } }
    | none => s
  else { s with mem := { s.mem with sramOne := s.mem.sramOne.filter (fun x => x != w), sramBad := addWord s.mem.sramBad w } }

/-- The sum of the reservations in effect lies above the limit of R157. -/
def State.overReserved (s : State) : Bool :=
  decide (7 * (8 * s.dramRate) < 10 * (List.range 7).foldl (fun a i => a + s.fget (DRAMC_RSVp_RSV i)) 0)

/-- What befalls a memory or a link (R146, R157, R159, R160, R162, R370, R434). -/
def State.upset (s : State) : Upset → State
  | .sramOne a =>
    let w := a / 4 * 4
    if pairedWord w && !s.mem.sramBad.contains w then { s with mem := { s.mem with sramOne := addWord s.mem.sramOne w } } else s
  | .sramBoth a => if pairedWord (a / 4 * 4) then s.bothFail (a / 4 * 4) else s
  | .backed a => if backedWord (a / 4 * 4) then { s with mem := { s.mem with sramLost := addWord s.mem.sramLost (a / 4 * 4) } } else s
  | .dramOne w => if s.dramWord w && !s.mem.badWords.contains w then { s with mem := { s.mem with oneBits := addWord s.mem.oneBits w } } else s
  | .dramBoth w =>
    if s.dramWord w then { s with mem := { s.mem with oneBits := s.mem.oneBits.filter (fun x => x != w), badWords := addWord s.mem.badWords w } } else s
  | .aer c u => if s.bit PCIE_STATUS_LINK_UP then (s.fsat PCIE_ERRCNT_CORR c).fsat PCIE_ERRCNT_UNCORR u else s
  | .settings i =>
    match kvGet s.upd.areas i with
    | some a => { s with upd := { s.upd with areas := kvSet s.upd.areas i { a with bad := true } } }
    | none => s
  | .ethLink n up => if n < 2 then s.fset (ETHn_STATUS_LINK n) (if up then 1 else 0) else s
  | .starve p => if p < 7 ∧ s.overReserved = true then s.fset DRAMC_STARVE_STARVE (s.fget DRAMC_STARVE_STARVE ||| 2 ^ p) else s

/-- The interpolators of the class E axes move on (R306). -/
def State.followTick (s : State) : State :=
  s.axs.foldl (fun s e => if s.axsState e.1 = aFollowing ∧ s.classE e.1 = true ∧ s.undriven e.1 = false then s.interpolate e.1 else s) s

/-- What a running controller does at a tick: writes reach the TB domain (R482), accesses and moves end (R95, R114), memories and links are upset,
rates are reported (R43), readiness and safety revert sheets (R42), speed and position are judged (R211, R244), sheets count the defects of a
coasting drive (R286), the gates of the drives follow their PWM (R277), class E axes follow their edges (R306), outputs reach the sampled pins
(R347), and a fuser drive ends its last half-period (R339). -/
def State.runTick (s : State) : State :=
  let s1 := (Config.upsets s.tick).foldl State.upset s.tbCross.accessTick.movesTick
  (s1.rateReport.revertLost.overJudge.barLow.coastDefects.gatesTick.followTick.gpioTick.fusTick 0).fusTick 1

/-- A tick of the TB clock: time moves on (R349), what runs does what it does, and a replay applies the records that are due (R450). -/
def State.idleTick (s : State) : State :=
  let s1 := s.tbTick
  (if s1.power.phase = .run then s1.runTick else s1).replayTick

end Sys2Proof.Machine
end

