-- ==== Sys2Proof/WellFormed.lean ====
section
/-! DEFINITION. Which commands are well formed: each names units that exist (R13, R97, R117) and fields that R67 admits. -/

namespace Sys2Proof

open Sys2Proof.Machine

/-- The sizes of an access (R3, R120). -/
def sizeOk (k : Nat) : Bool := k == 1 || k == 2 || k == 4 || k == 8

/-- A physical engine (R117). -/
def engineOk (p : Nat) : Bool := decide (p < nEngines)

/-- A condition code of R74. -/
def condOk (c : BitVec 4) : Bool := c != 15

/-- A station field of an instruction: 6 is illegal (R67). -/
def stnFieldOk (k : BitVec 3) : Bool := k != 6

/-- A kind of FAULT (R67, R88). -/
def kindOk (k : BitVec 6) : Bool := decide (0x20 ≤ k.toNat)

/-- A service that R89 does not list. -/
def svcUnknown (k : BitVec 16) : Bool := k == 0 || decide (6 < k.toNat)

/-- A task number (R97). -/
def taskOk (i : Nat) : Bool := decide (i < 512)

/-- Units of R13, by their numbers: stations, drive channels, axes, loop descriptors, and the units that stand in twos to forties. -/
def stnOk (n : Nat) : Bool := decide (n < 6)
def drvOk (n : Nat) : Bool := decide (n < 8)
def axsOk (n : Nat) : Bool := decide (n < 20)
def loopOk (n : Nat) : Bool := decide (n < 64)
def idx32Ok (n : Nat) : Bool := decide (n < 32)
def twoOk (n : Nat) : Bool := decide (n < 2)
def walkOk (n : Nat) : Bool := decide (n < 3)
def fourOk (n : Nat) : Bool := decide (n < 4)
def adcOk (n : Nat) : Bool := decide (n < 5)
def dmaOk (n : Nat) : Bool := decide (n < 16)
def pipeOk (n : Nat) : Bool := decide (n < 7)
def rsOk (k : Nat) : Bool := decide (k < 40)
def pinOk (p : Nat) : Bool := decide (p < 96)

/-- A unit that can fail hard (R13, R14). -/
def unitIdOk : UnitId → Bool
  | .engine p => engineOk p
  | .pipeline p => pipeOk p
  | .lane n l => stnOk n && decide (l < 17)
  | .drv n => drvOk n
  | .axs n => axsOk n
  | .hvo k => idx32Ok k
  | .fus f => twoOk f

/-- A path of the recovery ROM (R443). -/
def pathOk (f : RecFrame) : Bool := f.path == 1 || f.path == 2

/-- A well-formed command. -/
def Instr.wf : Instr → Bool
  | .registerWrite _ size _ => sizeOk size
  | .add p _ _ _ _ => engineOk p
  | .sub p _ _ _ _ => engineOk p
  | .adds p _ _ _ _ => engineOk p
  | .subs p _ _ _ _ => engineOk p
  | .adc p _ _ _ _ => engineOk p
  | .sbc p _ _ _ _ => engineOk p
  | .andR p _ _ _ _ => engineOk p
  | .orR p _ _ _ _ => engineOk p
  | .xorR p _ _ _ _ => engineOk p
  | .andn p _ _ _ _ => engineOk p
  | .shl p _ _ _ _ => engineOk p
  | .shr p _ _ _ _ => engineOk p
  | .sar p _ _ _ _ => engineOk p
  | .ror p _ _ _ _ => engineOk p
  | .minS p _ _ _ _ => engineOk p
  | .maxS p _ _ _ _ => engineOk p
  | .minu p _ _ _ _ => engineOk p
  | .maxu p _ _ _ _ => engineOk p
  | .slt p _ _ _ _ => engineOk p
  | .sltu p _ _ _ _ => engineOk p
  | .mul p _ _ _ _ => engineOk p
  | .mulh p _ _ _ _ => engineOk p
  | .mulhu p _ _ _ _ => engineOk p
  | .mulq p _ _ _ _ => engineOk p
  | .macq p _ _ _ _ => engineOk p
  | .div p _ _ _ _ => engineOk p
  | .divu p _ _ _ _ => engineOk p
  | .rem p _ _ _ _ => engineOk p
  | .remu p _ _ _ _ => engineOk p
  | .neg p _ _ _ => engineOk p
  | .negs p _ _ _ => engineOk p
  | .absS p _ _ _ => engineOk p
  | .notR p _ _ _ => engineOk p
  | .clz p _ _ _ => engineOk p
  | .popc p _ _ _ => engineOk p
  | .sextb p _ _ _ => engineOk p
  | .sexth p _ _ _ => engineOk p
  | .zextb p _ _ _ => engineOk p
  | .zexth p _ _ _ => engineOk p
  | .bswap p _ _ _ => engineOk p
  | .addi p _ _ _ => engineOk p
  | .andi p _ _ _ => engineOk p
  | .ori p _ _ _ => engineOk p
  | .xori p _ _ _ => engineOk p
  | .lui p _ _ => engineOk p
  | .shi p _ _ _ _ => engineOk p
  | .cmpi p _ _ => engineOk p
  | .ldw p _ _ _ => engineOk p
  | .ldh p _ _ _ => engineOk p
  | .ldhu p _ _ _ => engineOk p
  | .ldb p _ _ _ => engineOk p
  | .ldbu p _ _ _ => engineOk p
  | .stw p _ _ _ => engineOk p
  | .sth p _ _ _ => engineOk p
  | .stb p _ _ _ => engineOk p
  | .ior p _ _ _ => engineOk p
  | .iow p _ _ _ => engineOk p
  | .bc p cond _ => engineOk p && condOk cond
  | .bl p _ => engineOk p
  | .jalr p _ _ _ => engineOk p
  | .tget p _ => engineOk p
  | .pget p _ stn => engineOk p && stnFieldOk stn
  | .tadd p _ _ _ => engineOk p
  | .tsub p _ _ _ => engineOk p
  | .tdif p _ _ _ _ => engineOk p
  | .tlo p _ _ => engineOk p
  | .thi p _ _ => engineOk p
  | .tset p _ _ _ => engineOk p
  | .tmov p _ _ => engineOk p
  | .tcmp p _ _ => engineOk p
  | .tref p _ => engineOk p
  | .tsref p _ => engineOk p
  | .taddi p _ _ _ _ => engineOk p
  | .atTime p _ _ => engineOk p
  | .after p _ _ _ => engineOk p
  | .onpos p _ stn _ => engineOk p && stnFieldOk stn
  | .evwait p _ _ => engineOk p
  | .waitEnd task => taskOk task
  | .waitLimit task => taskOk task
  | .send p _ _ _ _ _ _ => engineOk p
  | .recv p _ _ _ _ _ _ => engineOk p
  | .chcnt p _ _ _ _ => engineOk p
  | .messageWaitEnd task => taskOk task
  | .yieldI p => engineOk p
  | .doneI p => engineOk p
  | .ckpt p => engineOk p
  | .bkpt p => engineOk p
  | .tid p _ => engineOk p
  | .faultI p _ kind => engineOk p && kindOk kind
  | .dcallLog p => engineOk p
  | .dcallSetGet p => engineOk p
  | .dcallSetPut p => engineOk p
  | .dcallHeadRead p => engineOk p
  | .dcallHostEvent p => engineOk p
  | .dcallSegInfo p => engineOk p
  | .dcallUnknown p svc => engineOk p && svcUnknown svc
  | .dcallReply task _ _ => taskOk task
  | .lrun p _ => engineOk p && isLoopEngine p
  | .budgetExceeded task => taskOk task
  | .deadlineMissed task => taskOk task
  | .periodRelease task => taskOk task
  | .taskDispatch p => engineOk p
  | .trapRestart task => taskOk task
  | .taskRestartCheckpoint task => taskOk task
  | .taskRestartEntry task => taskOk task
  | .taskStop task => taskOk task
  | .boundaryMove p => engineOk p
  | .unitHardFail u _ d => unitIdOk u && (match u with | .pipeline _ => decide (1 ≤ d ∧ d ≤ 5) | _ => true)
  | .flitResend dir _ => twoOk dir
  | .packageFault => true
  | .handoffSend rcv => fourOk rcv
  | .handoffFrameRx port _ => twoOk port
  | .handoffAckRx _ => true
  | .handoffResend rcv => fourOk rcv
  | .handoffLost rcv => fourOk rcv
  | .hoRxRead => true
  | .runStart _ _ => true
  | .runEnd _ => true
  | .sheetSubmit _ _ _ => true
  | .sheetReload _ _ _ => true
  | .sheetWithdraw _ _ => true
  | .statusQuery _ => true
  | .hostAcknowledge _ _ => true
  | .engineCall _ _ _ _ _ _ => true
  | .updateStage _ _ _ _ _ _ => true
  | .updateActivate _ => true
  | .updateConfirm _ => true
  | .updateRevert _ => true
  | .recordExport _ _ _ _ _ => true
  | .unknownCmd _ _ => true
  | .commandDoorbell _ => true
  | .eventHeadWrite _ => true
  | .hifEnable => true
  | .resync => true
  | .resyncSheetState => true
  | .msixHoldoffEnd => true
  | .statusMirrorRewrite => true
  | .linkDown => true
  | .hotReset => true
  | .functionLevelReset => true
  | .d3hotEntry => true
  | .pciePerst => true
  | .busMasterEnable => true
  | .planeAllocate => true
  | .dmaDoorbell n _ => dmaOk n
  | .dmaResume n => dmaOk n
  | .dmaSkip n => dmaOk n
  | .dmaDescriptorComplete n _ => dmaOk n
  | .dmaHalt n _ _ => dmaOk n
  | .admissionDecision => true
  | .sheetLock _ => true
  | .sheetCommit _ => true
  | .sheetTransferred _ => true
  | .declareFused => true
  | .declareDelivered => true
  | .declareJam => true
  | .journalPageProgrammed _ => true
  | .journalBlockErased => true
  | .compactNow => true
  | .idleCompact => true
  | .degradedExit => true
  | .scrubWalkStep c _ _ _ => walkOk c
  | .rangePassGo => true
  | .rangePassDone _ => true
  | .leakTick c => fourOk c
  | .remapLine => true
  | .remapRemove => true
  | .mergeWriteback _ => true
  | .mr4Read ch _ _ => twoOk ch
  | .backedRefetchDone n _ _ => stnOk n
  | .codeRefetchDone p => engineOk p
  | .repairSave => true
  | .rsvWrite pipe _ => pipeOk pipe
  | .tileDecode n => stnOk n
  | .tableLoad n _ => stnOk n
  | .tablePatch n _ => stnOk n
  | .loadDone n _ => stnOk n
  | .stnxMove n => stnOk n
  | .stnxReturn => true
  | .moved => true
  | .encoderCount _ => true
  | .indexZ _ => true
  | .encLost cause => cause == 1 || cause == 2
  | .pposEnable _ => true
  | .pposEncLostClear _ => true
  | .pposOffsetWrite n _ => stnOk n
  | .facetBoundary n e _ => stnOk n && decide (e.1.frac < 64)
  | .sosMiss n _ _ => stnOk n
  | .eosEdge n e => stnOk n && decide (e.frac < 64)
  | .eosMiss n => stnOk n
  | .pixUnlock n _ => stnOk n
  | .pixLock n => stnOk n
  | .scanEnable n => stnOk n
  | .lineBoundary n _ => stnOk n
  | .barEnable n => stnOk n
  | .hrecRead n => stnOk n
  | .hrecDone n _ => stnOk n
  | .headStatusRead n _ => stnOk n
  | .defAdd n _ => stnOk n
  | .thStale n => stnOk n
  | .hotClear n => stnOk n
  | .drvValley n _ => drvOk n
  | .drvEncoderCount n _ => drvOk n
  | .drvIndex n => drvOk n
  | .drvEncLost n cause => drvOk n && (cause == 1 || cause == 2 || cause == 4)
  | .drvStart n => drvOk n
  | .drvStop n => drvOk n
  | .drvDisable n => drvOk n
  | .catchTimeout n _ => drvOk n
  | .alignTimeout n => drvOk n
  | .rampTimeout n => drvOk n
  | .observeTimeout n => drvOk n
  | .zwaitExpiry n => drvOk n
  | .stoppedEv n => drvOk n
  | .recatchReset n => drvOk n
  | .keEstimate n _ => drvOk n
  | .resolverSample n _ _ _ => drvOk n
  | .drvEncLostClear n _ => drvOk n
  | .readyEv n => drvOk n
  | .axsTick n => axsOk n
  | .moveEv n => axsOk n
  | .velEv n => axsOk n
  | .axsStop n => axsOk n
  | .haltEv n => axsOk n
  | .resumeEv n => axsOk n
  | .homeEv n => axsOk n
  | .setposEv n => axsOk n
  | .axsDisable n => axsOk n
  | .stepEdge n _ => axsOk n
  | .chopPeriodStart n _ _ => axsOk n
  | .standstillEv n => axsOk n
  | .poweredDown n => axsOk n
  | .axsRepower n => axsOk n
  | .posUncClear n => axsOk n
  | .applyEv n => loopOk n
  | .loopEnable n => loopOk n
  | .hvoPeriodStart n => idx32Ok n
  | .fusPeriodStart n => twoOk n
  | .fusEnable f _ => twoOk f
  | .fltEv f _ => twoOk f
  | .fuserEnEdge => true
  | .adcConversionDone c _ => adcOk c
  | .backgroundScan c => adcOk c
  | .refBad c _ => adcOk c
  | .gpioInputEdge p _ => pinOk p
  | .setEv => true
  | .addOffset => true
  | .slewEv => true
  | .slewEnd => true
  | .timeIncWrite _ => true
  | .ptpFrameRx port _ => twoOk port
  | .announceTimeout _ => true
  | .ptpSyncTx _ => true
  | .txTimestamp n _ _ _ => twoOk n
  | .txtsRead n => twoOk n
  | .rtcSync => true
  | .armEv c => idx32Ok c
  | .disarmEv c => idx32Ok c
  | .almanacFire c => idx32Ok c
  | .captureEdge k _ _ => idx32Ok k
  | .captureRead k => idx32Ok k
  | .vmainFail _ => true
  | .vmainReturn _ => true
  | .backupSample _ _ => true
  | .railUndervoltage rail => stnOk rail
  | .frostEndDecision => true
  | .hibernateRequest _ => true
  | .wakeInput k => fourOk k
  | .alarmEv => true
  | .hibernateExitPower => true
  | .rtcSet => true
  | .aonWriteComplete => true
  | .lockLost k => fourOk k
  | .pllRelock k => fourOk k
  | .refLost => true
  | .xt32Fail => true
  | .porEv => true
  | .resetPin _ => true
  | .softReset _ => true
  | .watchdogEv => true
  | .bootEv _ _ => true
  | .bootFail => true
  | .thawEv => true
  | .frostEv => true
  | .rsConversion k _ => rsOk k
  | .railSettleExpiry => true
  | .thawTimeout => true
  | .chainTimeout => true
  | .seqInRise => true
  | .seqInFall => true
  | .railLinkExchange _ => true
  | .railLinkRetry => true
  | .railPoll _ => true
  | .frostStuck => true
  | .slaveFrostTimeout => true
  | .restartHoldExpiry => true
  | .faultMessageArrival => true
  | .graceExpiry _ => true
  | .fltStatusClear src => srcExists src
  | .clearEv => true
  | .forceEv src => srcExists src
  | .countClr src => srcExists src
  | .fltQueueRead => true
  | .queueOvf => true
  | .thermalReading _ => true
  | .tripEv => true
  | .tripRelease => true
  | .sensorBadClear => true
  | .lockEv => true
  | .unlockEv => true
  | .debugEv => true
  | .slotTableEraseDone => true
  | .settingsCompact => true
  | .recoveryData f => pathOk f && decide (f.data.length ≤ 1024)
  | .recoveryDone f => pathOk f
  | .recoveryActivate f => pathOk f
  | .recoveryToken f => pathOk f
  | .freezeEv => true
  | .frozenEv => true
  | .rearmEv => true
  | .norExport => true
  | .norDone => true
  | .loadNor => true
  | .loadRing _ => true
  | .replayEv => true
  | .replayStop => true
  | .replayEnd => true
  | .snapshotEv => true
  | .timeRecord => true
  | .wearMeasure src _ _ => monitored src
  | .spareSelfTest src _ => monitored src
  | .retireEv => true
  | .restoreEv => true
  | .illegal p w => engineOk p && !wordLegal (isLoopEngine p) w.toNat
  | .hbToggle _ => true
  | .recordedOutputMissing p => engineOk p
  | .ptpDelayRequest => true
  | .tapInstruction _ => true

end Sys2Proof
end

