-- ==== Sys2Proof/Safety.lean ====
section
/-! DEFINITION. The terms that the statements use: the invariant of the model, safe outcomes, and what a command leaves as it was. -/

namespace Sys2Proof

open Sys2Proof.Machine

/-- The memories of the block keep their canonical form. -/
def memWf (s : Machine.State) : Bool := s.mem.dram.wf && s.mem.sram.wf && Memory.wf s.host.bar && Memory.wf s.upd.buf

/-- Every waiting command is well formed. -/
def queueWf (s : Machine.State) : Bool := s.pending.all Instr.wf

/-- An outcome is safe: a next state, or the stop of a command that names no unit, or of a test instruction. -/
def safeOutcome : Host.Outcome Machine.State Fault Refusal → Bool
  | .next _ => true
  | .fault .noSuchUnit => true
  | .refused .testInstruction => true
  | .refused _ => false

/-- The outcome is a next state, of which `P` holds. -/
def Runs (o : Host.Outcome Machine.State Fault Refusal) (P : Machine.State → Prop) : Prop := ∃ t, o = .next t ∧ P t

/-- The state without its register fields: states that agree in it differ in register fields alone. -/
def sansFields (s : Machine.State) : Machine.State := { s with fields := [] }

/-- A byte of the page store lies in the recorder ring (R152). -/
def inRing (s : Machine.State) (a : Nat) : Bool :=
  decide (2 ^ 26 + s.ringSize ≤ s.usable) && decide (s.ringBase ≤ a) && decide (a < s.ringBase + s.ringSize)

/-- Of the memories only bytes of the recorder ring, and the errors of its words, may have changed (R445, R152). -/
def onlyRing (s u : Machine.State) : Prop :=
  u.mem = { s.mem with dram := u.mem.dram, badWords := u.mem.badWords, oneBits := u.mem.oneBits }
  ∧ (∀ a : Nat, inRing s a = false → memGet u.mem.dram a = memGet s.mem.dram a)
  ∧ (∀ w : Nat, inRing s (8 * w) = false → (w ∈ u.mem.badWords ↔ w ∈ s.mem.badWords) ∧ (w ∈ u.mem.oneBits ↔ w ∈ s.mem.oneBits))

/-- No pair of words outside BAR0 has become good or bad (R159). -/
def keepsPairs (s u : Machine.State) : Prop :=
  ∀ w : Nat, w < hifBase → (w ∈ u.mem.sramOne ↔ w ∈ s.mem.sramOne) ∧ (w ∈ u.mem.sramBad ↔ w ∈ s.mem.sramBad)

/-- Of the memories only words behind BAR0 that were written whole may have become good (R11, R160): an event's, or the mirror's. -/
def onlyBarWords (s u : Machine.State) : Prop :=
  u.mem = { s.mem with sramOne := u.mem.sramOne, sramBad := u.mem.sramBad } ∧ keepsPairs s u

/-- `onlyRing` and `onlyBarWords` together: what the recorder and the events of the host write. -/
def onlyRingBar (s u : Machine.State) : Prop :=
  onlyRing { s with mem := { s.mem with sramOne := u.mem.sramOne, sramBad := u.mem.sramBad } } u ∧ keepsPairs s u

/-- As above, with the space of planes that has been freed or taken (R132). -/
def onlyRingUsed (s u : Machine.State) : Prop := onlyRingBar { s with mem := { s.mem with used := u.mem.used } } u

/-- The state without what an event may touch (R82, R101): the tasks, the recorder with its ring in the page store, the fault messages on
their way, the free-value counter, and the register fields. -/
def sansEvent (s : Machine.State) : Machine.State :=
  { s with fields := [], ex := Machine.State.reset.ex, recd := Machine.State.reset.recd, faultQ := [], freeCtr := 0
           mem := { s.mem with dram := [], badWords := [], oneBits := [] } }

/-- Every register field but these holds what it held. -/
def keepsFields (s t : Machine.State) (ks : List Fld) : Prop := ∀ f : Fld, f.key ∉ ks.map Fld.key → t.fget f = s.fget f

/-- Only these register fields may have changed, and nothing else. -/
def onlyFields (s t : Machine.State) (ks : List Fld) : Prop := sansFields t = sansFields s ∧ keepsFields s t ks

/-! ### Exine instructions -/

/-- The task on engine `p`: task `i`, with the contents `t`. -/
def onEngine (s : Machine.State) (p i : Nat) (t : Task) : Prop := p < nEngines ∧ s.curTask p = some (i, t)

/-- The flags after an instruction whose F bit is `f` (R61): N and Z of the result, and the C and V given, or as they were. -/
def flagsOf (f : Bool) (a : Arch) (r : Word) (c v : Bool) : Bool × Bool × Bool × Bool :=
  if f then (r.msb, r == 0, c, v) else (a.n, a.z, a.c, a.v)

/-- The flags as they are. -/
def sameFlags (a : Arch) : Bool × Bool × Bool × Bool := (a.n, a.z, a.c, a.v)

/-- The task `i` has ended an instruction with the architectural state `a`: the PC has advanced, `cycles` are counted, and nothing else of
the machine has changed (R59, R103). -/
def Retired (s u : Machine.State) (i : Nat) (t : Task) (a : Arch) (cycles : Nat) : Prop :=
  a.pc = t.arch.pc + 1 ∧ u = s.setTask i { t with arch := a, cyc := t.cyc + cycles, maxCyc := max t.maxCyc (t.cyc + cycles) }

/-- An instruction has written `r` to `w[d]` (nothing where `d` is 0) and the flags `fl`; every other register is as it was (R59, R61). -/
def Wrote (s u : Machine.State) (i : Nat) (t : Task) (d : BitVec 5) (r : Word) (fl : Bool × Bool × Bool × Bool) (cycles : Nat) : Prop :=
  ∃ a, Retired s u i t a cycles ∧ a.t = t.arch.t ∧ a.ref = t.arch.ref ∧ (a.n, a.z, a.c, a.v) = fl
    ∧ ∀ e : BitVec 5, a.getW e = if e = d ∧ d ≠ 0 then r else t.arch.getW e

/-- An instruction has written `r` to `t[td]`; every other register and the flags are as they were (R59, R77). -/
def WroteT (s u : Machine.State) (i : Nat) (t : Task) (td : BitVec 2) (r : Word64) (cycles : Nat) : Prop :=
  ∃ a, Retired s u i t a cycles ∧ a.w = t.arch.w ∧ a.ref = t.arch.ref ∧ (a.n, a.z, a.c, a.v) = sameFlags t.arch
    ∧ ∀ e : BitVec 2, a.getT e = if e = td then r else t.arch.getT e

/-- The task `i` has trapped with `code` at `pc` (R91, R93): it has stopped with its registers unchanged, its engine is free, and the engine's
message with the code and the PC is on its way; beside that only the recorder has changed. -/
def Trapped (s u : Machine.State) (i : Nat) (t : Task) (code pc : Nat) : Prop :=
  (∃ x, u.task? i = some x ∧ x.stat = .trapped ∧ x.arch = t.arch ∧ x.trapKind = code ∧ x.trapPc = pc ∧ x.hdr = t.hdr)
  ∧ kvGet u.ex.running t.phys ≠ some i ∧ (∀ j, j ≠ i → u.task? j = s.task? j)
  ∧ u = { s with ex := { s.ex with tasks := u.ex.tasks, running := u.ex.running }, recd := u.recd, mem := u.mem
                 faultQ := s.faultQ ++ [⟨engineSrc t.phys, code, pc % 65536, 0⟩] }
  ∧ onlyRing s u

/-- The task `i` has begun to wait (R83): it occupies its engine no more, and resumes behind the instruction; nothing else has changed. -/
def Blocked (s u : Machine.State) (i : Nat) (t : Task) (w : Wait) (cycles : Nat) : Prop :=
  u.task? i = some { t with arch := { t.arch with pc := t.arch.pc + 1 }, stat := .waiting, wait := some w, cyc := t.cyc + cycles,
                            maxCyc := max t.maxCyc (t.cyc + cycles) }
  ∧ kvGet u.ex.running t.phys = none ∧ (∀ j, j ≠ i → u.task? j = s.task? j)
  ∧ u = { s with ex := { s.ex with tasks := u.ex.tasks, running := u.ex.running } }

/-- An access to a DRAM segment waits on the page store (R95): the task leaves its engine, and the access completes after its cycles of 2 ns with
the registers `r`; nothing else has changed. -/
def Fetching (s u : Machine.State) (i : Nat) (t : Task) (r : Arch) (cycles : Nat) : Prop :=
  u.task? i = some { t with arch := { t.arch with pc := t.arch.pc + 1 }, stat := .waiting, stall := true, access := some (s.tick + (cycles + 1) / 2, r),
                            cyc := t.cyc + cycles, maxCyc := max t.maxCyc (t.cyc + cycles) }
  ∧ kvGet u.ex.running t.phys = none ∧ (∀ j, j ≠ i → u.task? j = s.task? j)
  ∧ u = { s with ex := { s.ex with tasks := u.ex.tasks, running := u.ex.running } }

/-- Byte `k` of an access at a device address (R9, R11). -/
def devByte (s : Machine.State) (a k : Nat) : Byte := if a < sramBase then memGet s.mem.dram (a + k) else memGet s.mem.sram (a - sramBase + k)

/-- The task `i` has become ready with the contents `x`, behind those that are (R104); beside it only the channels given by `chans` and the
recorder may have changed. -/
def Readied (s u : Machine.State) (i : Nat) (x : Task) (chans : List (Nat × List Word)) : Prop :=
  u.task? i = some { x with stat := .ready, readyAt := s.tick } ∧ (∀ j, j ≠ i → u.task? j = s.task? j)
  ∧ u = { s with ex := { s.ex with tasks := u.ex.tasks, chans := chans }, recd := u.recd, mem := u.mem } ∧ onlyRing s u

/-- Only what the recorder keeps, its ring in the page store, and the model's own free-value counter, may have changed. -/
def onlyRecorder (s u : Machine.State) : Prop := u = { s with recd := u.recd, mem := u.mem, freeCtr := u.freeCtr } ∧ onlyRing s u

/-! ### The host and the ledger -/

/-- A command of the host has ended (R124, R134, R135): its CMD_DONE is the newest event and CMD_HEAD has advanced by one. -/
def Answered (s u : Machine.State) (tag op status detail : Nat) (res : List Nat) : Prop :=
  (∃ n, u.host.events.getLast? = some (n, .cmdDone tag op status detail res))
  ∧ u.fget HIF_CMD_HEAD_CMD_HEAD = (s.fget HIF_CMD_HEAD_CMD_HEAD + 1) % 1024

/-- The register fields that a host command on a sheet or a run may change. -/
def hostFields : List Fld :=
  [HIF_CMD_HEAD_CMD_HEAD, HIF_EVT_TAIL_EVT_TAIL, HIF_STATUS_EVT_OVERFLOW, HIF_STATUS_RESYNC_PENDING, LEDG_STATUS_RUN_OPEN,
   LEDG_STATUS_RECOVERY_HOLD, LEDG_STATUS_GUARANTEE_DEGRADED, LEDG_STATUS_COMPACTING, PLC_STATUS_OVERRUN]

/-- What a change of a sheet leaves as it was: everything but the ledger, the journal, the host interface, and what an event may touch. -/
def onlyLedger (s u : Machine.State) : Prop :=
  sansEvent u = { sansEvent s with led := u.led, jrn := u.jrn, host := u.host, mem := (sansEvent u).mem } ∧ onlyRingBar s u

/-- What a host command on a sheet or a run leaves as it was: everything but the ledger, the journal, the host interface, the fields named
above, and what an event may touch. -/
def onlyHost (s u : Machine.State) : Prop := onlyLedger s u ∧ keepsFields s u hostFields

/-- As above, with the planes' space, the transfers and the pipelines, which a withdrawal, a reload or an outcome frees. -/
def onlySheets (s u : Machine.State) : Prop :=
  sansEvent u = { sansEvent s with led := u.led, jrn := u.jrn, host := u.host, mem := (sansEvent u).mem, dma := u.dma, stn := u.stn } ∧ onlyRingUsed s u

/-- The host can be answered: the ring serves commands, no earlier command waits, and no series runs (R124, R137). -/
def hostReady (s : Machine.State) : Prop :=
  s.cmdReady = true ∧ s.power.phase = .run ∧ s.host.series = none ∧ s.host.held = [] ∧ s.led.heldAcks = []

/-- A record of type `typ` for `seq` is staged behind what was staged (R44). -/
def Staged (s u : Machine.State) (typ seq : Nat) : Prop :=
  ∃ r rest, u.jrn.staged = s.jrn.staged ++ r :: rest ∧ r.typ = typ ∧ r.seq = seq ∧ r.jseq = s.jrn.jseq

/-- The command at CMD_HEAD has this opcode and this head, and the host can be answered (R124, R125). -/
def hostCmd (s : Machine.State) (op : Nat) (h : CmdHead) : Prop := hostReady s ∧ h = s.cmdHead ∧ s.cmdOp = op

/-- MSI-X vector `v` has been signalled (R138): where MSI-X is enabled a message has left, or where the vector is masked or the host out of
reach its pending bit is set. -/
def Signalled (s u : Machine.State) (v : Nat) : Prop :=
  (kvGet u.host.msix v).getD 0 = (kvGet s.host.msix v).getD 0 + 1 ∧ (∀ w, w ≠ v → kvGet u.host.msix w = kvGet s.host.msix w)
  ∧ (s.host.cfg.msixEn = false → u.host.msgs = s.host.msgs ∧ u.host.pend = s.host.pend)
  ∧ (s.host.cfg.msixEn = true → s.masked v = true ∨ s.hostReach = false → u.host.msgs = s.host.msgs ∧ v ∈ u.host.pend ∧ ∀ w, w ≠ v → (w ∈ u.host.pend ↔ w ∈ s.host.pend))
  ∧ (s.host.cfg.msixEn = true → s.masked v = false → s.hostReach = true → u.host.pend = s.host.pend
      ∧ (kvGet u.host.msgs v).getD 0 = (kvGet s.host.msgs v).getD 0 + 1 ∧ ∀ w, w ≠ v → kvGet u.host.msgs w = kvGet s.host.msgs w)

/-- A reset of the host interface (R119, R133, R137): its SEEN flag is set, the HIF registers are at their reset values but READY and RECOVERY,
both rings and the sheet queue are empty, the transfers of channels 0 to 7 are to start anew, and what the ledger holds stays. -/
def HostReset (s u : Machine.State) (seen : Fld) : Prop :=
  u.bit seen = true ∧ u.host.events = [] ∧ u.host.series = none ∧ u.host.held = [] ∧ u.host.owed = none ∧ u.host.bar = [] ∧ u.host.cfg = cfgNew ∧ u.host.pend = []
  ∧ (∀ f : Fld, hifBase * 32 ≤ f.key → f.key < barSpace * 32 → f.key ∉ [HIF_STATUS_READY.key, HIF_STATUS_RECOVERY.key] → u.fget f = f.rst)
  ∧ u.bit PCIE_STATUS_BME = false ∧ u.bit PCIE_STATUS_D3HOT = false
  ∧ u.led.sheets.map (fun sh => (sh.seq, sh.st)) = s.led.sheets.map (fun sh => (sh.seq, sh.st))
  ∧ (∀ n, 8 ≤ n → kvGet u.dma n = kvGet s.dma n) ∧ (∀ n c, n < 8 → kvGet u.dma n = some c → c.plane = none)
  ∧ u = { s with fields := u.fields, host := u.host, dma := u.dma, led := { s.led with sheets := u.led.sheets } }

/-- No register has changed but these and those of DRAMC and MEMI, which what a memory access finds may change (R158, R162, R165). -/
def keepsOutsideMem (s u : Machine.State) (ks : List Fld) : Prop :=
  ∀ f : Fld, (f.key / 32 < 0x2000080000 ∨ 0x20000A0000 ≤ f.key / 32) → f.key ∉ (PLC_STATUS_OVERRUN :: ks).map Fld.key → u.fget f = s.fget f

/-! ### Units of the engine -/

/-- The message `m` has been sent: it stands behind those that were on their way (R408). -/
def Sent (s u : Machine.State) (src kind detail cls : Nat) : Prop := ∃ rest, u.faultQ = s.faultQ ++ ⟨src, kind % 64, detail % 65536, cls⟩ :: rest

/-- Only these fields, and what an event may touch, may have changed. -/
def onlyEvents (s u : Machine.State) (ks : List Fld) : Prop := sansEvent u = sansEvent s ∧ onlyRing s u ∧ keepsFields s u (PLC_STATUS_OVERRUN :: ks)

/-- Only these fields, what an event may touch, and what station `n` keeps beside its registers may have changed. -/
def onlyStation (s u : Machine.State) (n : Nat) (ks : List Fld) : Prop :=
  sansEvent u = { sansEvent s with stn := u.stn } ∧ onlyRing s u ∧ (∀ k, k ≠ n → kvGet u.stn k = kvGet s.stn k) ∧ keepsFields s u (PLC_STATUS_OVERRUN :: ks)

/-- The fields of the recorder that a trigger writes (R448). -/
def trigFields : List Fld := [REC_STATUS_STATE, REC_STATUS_TRIG_CAUSE, REC_TRIG_TIME_LO_TIME, REC_TRIG_TIME_HI_TIME]

/-- A register of station `n` (R12, R204). -/
def stnRegister (n a : Nat) : Bool := decide (0x2000100000 + 0x10000 * n ≤ a % barSpace) && decide (a % barSpace < 0x2000110000 + 0x10000 * n)

/-- What a line or a facet of station `n` leaves as it was: every register of another block but those named, every byte of memory, and
everything but the sheets, what reports them, the pipelines, and what an event may touch. -/
def onlyLines (s u : Machine.State) (n : Nat) : Prop :=
  sansEvent u = { sansEvent s with led := u.led, jrn := u.jrn, host := u.host, mem := (sansEvent u).mem, dma := u.dma, stn := u.stn, stnx := u.stnx, shadow := u.shadow, shadowAt := u.shadowAt }
  ∧ onlyRingUsed s u
  ∧ ∀ f : Fld, stnRegister n (f.key / 32) = false → f.key ∉ (hostFields ++ trigFields ++ [STNX_STATUS_STATE, STNX_STATUS_SERVES]).map Fld.key → u.fget f = s.fget f

/-- Only these fields, what an event may touch, and what drive channel `n` keeps beside its registers may have changed. -/
def onlyDrive (s u : Machine.State) (n : Nat) (ks : List Fld) : Prop :=
  sansEvent u = { sansEvent s with drv := u.drv } ∧ onlyRing s u ∧ (∀ k, k ≠ n → kvGet u.drv k = kvGet s.drv k) ∧ keepsFields s u (PLC_STATUS_OVERRUN :: ks)

/-- Only these fields, what an event may touch, and what axis `n` keeps beside its registers may have changed. -/
def onlyAxis (s u : Machine.State) (n : Nat) (ks : List Fld) : Prop :=
  sansEvent u = { sansEvent s with axs := u.axs } ∧ onlyRing s u ∧ (∀ k, k ≠ n → kvGet u.axs k = kvGet s.axs k) ∧ keepsFields s u (PLC_STATUS_OVERRUN :: ks)

/-- What a sample of drive channel `n` leaves as it was: every register outside the channel, the converters and the stations but those named,
every byte of memory, and everything but that channel, the sheets and what reports them, the heads, and what an event may touch. -/
def onlySamples (s u : Machine.State) (n : Nat) : Prop :=
  sansEvent u = { sansEvent s with drv := u.drv, adc := u.adc, adcAt := u.adcAt, shadow := u.shadow, shadowAt := u.shadowAt, stn := u.stn, led := u.led, jrn := u.jrn, host := u.host,
                                   mem := (sansEvent u).mem, dma := u.dma }
  ∧ onlyRingUsed s u ∧ (∀ k, k ≠ n → kvGet u.drv k = kvGet s.drv k)
  ∧ ∀ f : Fld, (f.key / 32 < 0x2000200000 + 0x1000 * n ∨ 0x2000201000 + 0x1000 * n ≤ f.key / 32) → (f.key / 32 < 0x20000F0000 ∨ 0x2000160000 ≤ f.key / 32) →
      f.key ∉ (hostFields ++ trigFields).map Fld.key → u.fget f = s.fget f

/-- Drive channel `n` has entered the state `st` with the gates `g`, now (R282). -/
def Drove (s u : Machine.State) (n st : Nat) (g : Gates) : Prop :=
  u.fget (DRVn_STATUS_STATE n) = st ∧ (u.drvOf n).gates = g ∧ (u.drvOf n).since = s.tick

/-- What a tick of axis `n` leaves as it was: every register outside the axis but PLC_STATUS, and everything but that axis, its shadows, and
what an event may touch. -/
def onlyAxisTick (s u : Machine.State) (n : Nat) : Prop :=
  sansEvent u = { sansEvent s with axs := u.axs, shadow := u.shadow, shadowAt := u.shadowAt } ∧ onlyRing s u ∧ (∀ k, k ≠ n → kvGet u.axs k = kvGet s.axs k)
  ∧ ∀ f : Fld, (f.key / 32 < 0x2000300000 + 0x1000 * n ∨ 0x2000301000 + 0x1000 * n ≤ f.key / 32) → f.key ≠ PLC_STATUS_OVERRUN.key → u.fget f = s.fget f

/-- Only the registers and the state of RAIL, and what an event may touch, may have changed. -/
def onlyRail (s u : Machine.State) : Prop :=
  sansEvent u = { sansEvent s with rail := u.rail } ∧ onlyRing s u
  ∧ ∀ f : Fld, railAddr (f.key / 32) = false → f.key ≠ PLC_STATUS_OVERRUN.key → u.fget f = s.fget f

/-- FROST_MASTER goes on below step `n` (R398): at the highest step with an enabled rail, where one of them has a sense input, it waits with
that step's rails disabled; where no step has an enabled rail, FROST of cause `c` has ended (R397, R399). -/
def FrostSteps (s u : Machine.State) (n c : Nat) : Prop :=
  (∀ k, k < n → k < 8 → (∀ j, k < j → j < n → ∀ r ∈ s.stepRails j, s.railOn r = false) → (∃ r ∈ s.stepRails k, s.railOn r = true ∧ (s.railSense r).isSome = true) →
    u.railState = 7 ∧ u.fget RAIL_STATUS_STEP = k ∧ u.rail.stepAt = s.tick ∧ u.fget RAIL_STATUS_FROST_CAUSE = c
    ∧ ∀ r, r < 8 → u.railOn r = (s.railOn r && !(s.stepRails k).contains r))
  ∧ ((∀ j, j < n → ∀ r ∈ s.stepRails j, s.railOn r = false) → u.rail.frostEnd = some s.tick ∧ u.fget RAIL_STATUS_STEP = 0
      ∧ (s.rail.resetAtEnd = true → ∀ f : Fld, railAddr (f.key / 32) = true → u.fget f = f.rst)
      ∧ (s.rail.resetAtEnd = false → u.fget RAIL_STATUS_FROST_CAUSE = c
          ∧ u.railState = if s.inBackup = false ∧ (s.bit RAIL_STATUS_THAW_PEND = true ∨ s.bit RAIL_CTRL_AUTO_RESTART = true ∧ 6 ≤ c ∧ c ≤ 8) then 1 else 0))

/-- A FROST of cause `c` has begun, outside OFF and FROST (R397, R398): SEQ_OUT falls, and the last slave, or where there is none the master, is
frosted. -/
def Frosts (s u : Machine.State) (c : Nat) : Prop :=
  u.bit RAIL_STATUS_SEQ_OUT = false
  ∧ (s.nSlaves ≠ 0 → u.railState = 6 ∧ u.fget RAIL_STATUS_SLAVE = s.nSlaves ∧ u.fget RAIL_STATUS_FROST_CAUSE = c ∧ u.rail.slaveAt = s.tick
      ∧ u.rail.link = [⟨s.nSlaves, 6, 0, 0, none⟩] ∧ (s.railState ≠ 5 → u.bit RAIL_STATUS_THAW_FAIL = true))
  ∧ (s.nSlaves = 0 → FrostSteps s u 8 c)

/-- THAW goes on at step `st` (R394, R395): the rails of the next used step are enabled, or CHAIN begins, or without slaves the rails are UP. -/
def Thaws (s u : Machine.State) (st : Nat) : Prop :=
  (∀ k, s.nextStep st = some k → u.railState = 3 ∧ u.fget RAIL_STATUS_STEP = k ∧ u.rail.stepAt = s.tick
    ∧ ∀ r, r < 8 → u.railOn r = (s.railOn r || (s.stepRails k).contains r))
  ∧ (s.nextStep st = none → u.bit RAIL_STATUS_SEQ_OUT = true
      ∧ (s.nSlaves = 0 → u.railState = 5) ∧ (s.nSlaves ≠ 0 → u.railState = 4 ∧ u.rail.chainAt = s.tick ∧ u.rail.link = [⟨1, 5, 0, 0, none⟩]))

/-- A reset of cause `c` (R376, R386): the AON registers, those that survive a reset, the flash, the journal and the retired units keep what they
hold; every other register outside RAIL is at its reset value, and everything else as after reset. -/
def ResetTo (s u : Machine.State) (c : Nat) : Prop :=
  u.power.phase = .reset ∧ u.fget SYS_RESET_CAUSE_CAUSE = c ∧ u.power.hb = false
  ∧ (∀ f : Fld, railAddr (f.key / 32) = false → f.key ≠ SYS_RESET_CAUSE_CAUSE.key → f.key ≠ PLC_STATUS_OVERRUN.key →
      u.fget f = if keptKey f.key then s.fget f else f.rst)
  ∧ u = { Machine.State.reset with pending := s.pending, fields := u.fields, shadow := u.shadow, shadowAt := u.shadowAt, aonQ := s.aonQ, freeCtr := u.freeCtr, tick := s.tick
                                   jrn := { s.jrn with compact := none }, mem := { Machine.State.reset.mem with saved := s.mem.saved }
                                   needed := s.needed, power := u.power, rail := u.rail, recd := { Machine.State.reset.recd with nor := s.recd.nor }
                                   upd := u.upd, units := u.units, tap := s.tap }
  ∧ u.upd.slotA = s.upd.slotA ∧ u.upd.slotB = s.upd.slotB ∧ u.upd.boot = s.upd.boot

/-! ### Faults and thermal management -/

/-- Only the registers of FLT, what the collector keeps, a trigger of the recorder, and what an event may touch, may have changed. -/
def onlyCollector (s u : Machine.State) : Prop :=
  sansEvent u = { sansEvent s with flt := u.flt } ∧ onlyRing s u
  ∧ ∀ f : Fld, (f.key / 32 < 0x2000010000 ∨ 0x2000013000 ≤ f.key / 32) → f.key ∉ (PLC_STATUS_OVERRUN :: trigFields).map Fld.key → u.fget f = s.fget f

/-- The collector has taken a message of effective class `eff` (R411, R412, R422): the source's STATUS, EFF, LAST_KIND and COUNT, and its entry
in the queue, or where that is full the count of lost ones. -/
def Collected (s u : Machine.State) (src kind detail eff : Nat) : Prop :=
  u.bit (FLT_SRCs_STATUS src) = true ∧ u.fget (FLT_SRCs_LAST_KIND src) = kind ∧ u.fget (FLT_SRCs_COUNT src) = min 255 (s.fget (FLT_SRCs_COUNT src) + 1)
  ∧ (s.flt.queue.length < 128 → ∃ e, u.flt.queue = s.flt.queue ++ [e] ∧ e.getD 0 0 = src * 2 ^ 22 + kind * 2 ^ 16 + detail ∧ e.getD 1 0 % 4 = eff ∧ u.flt.lost = 0)
  ∧ (128 ≤ s.flt.queue.length → u.flt.queue = s.flt.queue ∧ u.bit FLT_STATUS_Q_OVF = true ∧ u.flt.lost = min 65535 (s.flt.lost + 1) ∧ u.flt.owed = true)

/-- The safe state has begun for a message of class C, or has widened to the whole engine (R417 to R420): the outputs of its scope are off, the
axes are SAFE, and no sheet is in flight where the scope is not the imaging region alone. -/
def MadeSafe (s u : Machine.State) (src kind detail : Nat) : Prop :=
  u.bit FLT_STATUS_SAFE = true
  ∧ (s.bit FLT_STATUS_SAFE = false → u.fget FLT_STATUS_SCOPE = scopeOf src ∧ u.fget FLT_SAFE_SAFE_SRC = src ∧ u.fget FLT_SAFE_SAFE_KIND = kind
      ∧ u.fget FLT_SAFE_DETAIL_SAFE_DETAIL = detail
      ∧ (scopeOf src ≠ 3 → ∀ n, n < 6 → (s.isBar n = true → u.bit (STNn_BR_CTRL_EXP_EN_REQ n) = false) ∧ (s.isBar n = false → u.bit (STNn_SC_CTRL_LD_EN_REQ n) = false))
      ∧ (scopeOf src ≠ 2 → (∀ k, k < 32 → u.bit (HVOk_CTRL_EN k) = false) ∧ u.bit FUS_CTRL_FUSER_EN_REQ = false
          ∧ (∀ n, n < 20 → u.axsState n = if s.axsState n = aDisabled then aDisabled else aSafe)
          ∧ ((s.led.sheets.map (fun sh => sh.seq)).Nodup → ∀ sh ∈ u.led.sheets, sh.st.inFlight = false)))
  ∧ (s.bit FLT_STATUS_SAFE = true → s.fget FLT_STATUS_SCOPE ≠ 1 → scopeOf src ≠ s.fget FLT_STATUS_SCOPE → u.fget FLT_STATUS_SCOPE = 1)
  ∧ onlyRingUsed s u ∧ u.upd = s.upd ∧ u.net = s.net ∧ u.power = s.power ∧ u.pending = s.pending

/-- Only these fields, what the collector and thermal management keep, and what an event may touch, may have changed. -/
def onlyThermal (s u : Machine.State) (ks : List Fld) : Prop :=
  sansEvent u = { sansEvent s with flt := u.flt } ∧ onlyRing s u ∧ u.flt.queue = s.flt.queue ∧ u.flt.grace = s.flt.grace ∧ u.flt.kinds = s.flt.kinds
  ∧ keepsFields s u (PLC_STATUS_OVERRUN :: ks)

end Sys2Proof
end

