-- ==== Sys2Proof/Certificates/Slice0/Obligations.lean ====
section
/-! DEFINITION. The statements for the provers. -/

open Sys2Proof Sys2Proof.Machine

/-- A step runs the command at the front of the queue (R124). This is the model's choice: log entry 1. -/
def Obligations.StepRunsFrontCommand : Prop :=
  ∀ (c : Instr) (rest : List Instr) (s : State),
    Sys2Proof.Machine.step { s with pending := c :: rest } = exec c { s with pending := rest }

/-- With an empty queue a step is a TB tick (R26, R28, R95, R349). This is the model's choice: log entry 3. -/
def Obligations.EmptyQueueStepIsTick : Prop :=
  ∀ s : State, s.pending = [] → s.recd.replay = none → s.recd.restart = false →
    Runs (Sys2Proof.Machine.step s) (fun t => t.tick = s.tick + 1 ∧ t.pending = []
      ∧ ((s.power.phase = .run → s.tbQ = []) → s.net.timeOn = true → s.net.slewLeft = 0 → s.timeFx < timeWrap → t.timeFx = (s.timeFx + s.fget TIME_INC_INC) % timeWrap)
      ∧ ((s.power.phase = .run → s.tbQ = []) → s.net.timeOn = false → t.timeFx = s.timeFx)
      ∧ (s.power.phase ≠ .run → t.ex = s.ex ∧ t.mem = s.mem ∧ t.led = s.led)
      ∧ (s.power.phase = .run → s.tbQ = [] → s.ex.moving = [] → kvSorted s.ex.tasks = true →
          ∀ (i due : Nat) (x : Task) (a : Arch), s.task? i = some x → x.stat = .waiting → x.access = some (due, a) →
            (due ≤ s.tick + 1 → ∃ y, t.task? i = some y ∧ y.stat = .ready ∧ y.arch = a ∧ y.access = none ∧ y.readyAt = s.tick + 1)
            ∧ (s.tick + 1 < due → ∃ y, t.task? i = some y ∧ y.stat = .waiting ∧ y.arch = x.arch ∧ y.access = x.access)))

/-- After reset no command waits (R386). Where the spec leaves a reading open, the statement rests on the model's choice: log entries 6,
7. -/
def Obligations.ResetQueueWellFormed : Prop :=
  State.reset.pending = [] ∧ queueWf State.reset = true ∧ memWf State.reset = true

/-- The queue is first in, first out, and a queue of well-formed commands never faults (R13, R67, R478). Where the spec leaves a reading
open, the statement rests on the model's choice: log entries 1, 4, 5. -/
def Obligations.QueueFifoAndSafe : Prop :=
  (∀ s : State, queueWf s = true →
    Runs (Sys2Proof.Machine.step s) (fun t => t.pending = s.pending.tail ∧ queueWf t = true)
    ∨ (Sys2Proof.Machine.step s = .refused .testInstruction ∧ s.pending.head? = some (.tapInstruction .other)
        ∧ s.bit UPD_STATUS_DEBUG_OPEN = true))
  ∧ (∀ (c : Instr) (s : State), c.wf = true → (c = .tapInstruction .other → s.bit UPD_STATUS_DEBUG_OPEN = false) →
      Runs (exec c s) (fun t => t.pending = s.pending))

/-- A register field and a general register read what was put in them; w0 reads 0 (R3, R4, R59). -/
def Obligations.RegistersReadBack : Prop :=
  ((∀ (s : State) (f : Fld) (v : Nat), (s.fset f v).fget f = v % 2 ^ f.width)
    ∧ (∀ (s : State) (f g : Fld) (v : Nat), g.key ≠ f.key → (s.fset f v).fget g = s.fget g)
    ∧ (∀ f : Fld, State.reset.fget f = f.rst))
    ∧ (∀ (a : Arch) (d : BitVec 5) (v : Word),
    a.getW 0 = 0 ∧ a.setW 0 v = a ∧ (d ≠ 0 → (a.setW d v).getW d = v)
    ∧ (∀ e : BitVec 5, e ≠ d → (a.setW d v).getW e = a.getW e)
    ∧ (a.setW d v).t = a.t ∧ (a.setW d v).ref = a.ref ∧ (a.setW d v).pc = a.pc ∧ sameFlags (a.setW d v) = sameFlags a
    ∧ (∀ (k : BitVec 2) (x : Word64), (a.setT k x).getT k = x ∧ (∀ j : BitVec 2, j ≠ k → (a.setT k x).getT j = a.getT j) ∧ (a.setT k x).w = a.w))

/-- Sums, differences, logic, shifts and comparisons (R59, R61, R69). Where the spec leaves a reading open, the statement rests on the
model's choice: log entries 8, 9. -/
def Obligations.IntegerResults : Prop :=
  (∀ (p : Nat) (f : Bool) (d a b : BitVec 5) (s : State) (i : Nat) (t : Task), onEngine s p i t →
    Runs (exec (.add p f d a b) s) (fun u => Wrote s u i t d ((t.arch.getW a) + (t.arch.getW b)) (flagsOf f t.arch ((t.arch.getW a) + (t.arch.getW b)) (decide (2 ^ 32 ≤ (t.arch.getW a).toNat + (t.arch.getW b).toNat)) (decide (((t.arch.getW a).toInt + (t.arch.getW b).toInt) < -(2 ^ 31) ∨ 2 ^ 31 ≤ ((t.arch.getW a).toInt + (t.arch.getW b).toInt)))) 1)
    ∧ Runs (exec (.adc p f d a b) s) (fun u => Wrote s u i t d ((t.arch.getW a) + (t.arch.getW b) + (if t.arch.c then 1 else 0)) (flagsOf f t.arch ((t.arch.getW a) + (t.arch.getW b) + (if t.arch.c then 1 else 0)) (decide (2 ^ 32 ≤ (t.arch.getW a).toNat + (t.arch.getW b).toNat + (if t.arch.c then 1 else 0))) (decide (((t.arch.getW a).toInt + (t.arch.getW b).toInt + (if t.arch.c then 1 else 0)) < -(2 ^ 31) ∨ 2 ^ 31 ≤ ((t.arch.getW a).toInt + (t.arch.getW b).toInt + (if t.arch.c then 1 else 0))))) 1)
    ∧ Runs (exec (.sub p f d a b) s) (fun u => Wrote s u i t d ((t.arch.getW a) - (t.arch.getW b)) (flagsOf f t.arch ((t.arch.getW a) - (t.arch.getW b)) (decide ((t.arch.getW b).toNat ≤ (t.arch.getW a).toNat)) (decide (((t.arch.getW a).toInt - (t.arch.getW b).toInt) < -(2 ^ 31) ∨ 2 ^ 31 ≤ ((t.arch.getW a).toInt - (t.arch.getW b).toInt)))) 1)
    ∧ Runs (exec (.sbc p f d a b) s) (fun u => Wrote s u i t d ((t.arch.getW a) - (t.arch.getW b) - (if t.arch.c then 0 else 1)) (flagsOf f t.arch ((t.arch.getW a) - (t.arch.getW b) - (if t.arch.c then 0 else 1)) (decide ((t.arch.getW b).toNat + (if t.arch.c then 0 else 1) ≤ (t.arch.getW a).toNat)) (decide (((t.arch.getW a).toInt - (t.arch.getW b).toInt - (if t.arch.c then 0 else 1)) < -(2 ^ 31) ∨ 2 ^ 31 ≤ ((t.arch.getW a).toInt - (t.arch.getW b).toInt - (if t.arch.c then 0 else 1))))) 1)
    ∧ Runs (exec (.adds p f d a b) s) (fun u => Wrote s u i t d (BitVec.ofInt 32 (max (-(2 ^ 31)) (min (2 ^ 31 - 1) ((t.arch.getW a).toInt + (t.arch.getW b).toInt)))) (flagsOf f t.arch (BitVec.ofInt 32 (max (-(2 ^ 31)) (min (2 ^ 31 - 1) ((t.arch.getW a).toInt + (t.arch.getW b).toInt)))) (decide (2 ^ 32 ≤ (t.arch.getW a).toNat + (t.arch.getW b).toNat)) (decide (((t.arch.getW a).toInt + (t.arch.getW b).toInt) < -(2 ^ 31) ∨ 2 ^ 31 ≤ ((t.arch.getW a).toInt + (t.arch.getW b).toInt)))) 1)
    ∧ Runs (exec (.subs p f d a b) s) (fun u => Wrote s u i t d (BitVec.ofInt 32 (max (-(2 ^ 31)) (min (2 ^ 31 - 1) ((t.arch.getW a).toInt - (t.arch.getW b).toInt)))) (flagsOf f t.arch (BitVec.ofInt 32 (max (-(2 ^ 31)) (min (2 ^ 31 - 1) ((t.arch.getW a).toInt - (t.arch.getW b).toInt)))) (decide ((t.arch.getW b).toNat ≤ (t.arch.getW a).toNat)) (decide (((t.arch.getW a).toInt - (t.arch.getW b).toInt) < -(2 ^ 31) ∨ 2 ^ 31 ≤ ((t.arch.getW a).toInt - (t.arch.getW b).toInt)))) 1))
    ∧ (∀ (p : Nat) (f : Bool) (d a b : BitVec 5) (s : State) (i : Nat) (t : Task), onEngine s p i t →
    Runs (exec (.andR p f d a b) s) (fun u => Wrote s u i t d ((t.arch.getW a) &&& (t.arch.getW b)) (flagsOf f t.arch ((t.arch.getW a) &&& (t.arch.getW b)) (false) (false)) 1)
    ∧ Runs (exec (.orR p f d a b) s) (fun u => Wrote s u i t d ((t.arch.getW a) ||| (t.arch.getW b)) (flagsOf f t.arch ((t.arch.getW a) ||| (t.arch.getW b)) (false) (false)) 1)
    ∧ Runs (exec (.xorR p f d a b) s) (fun u => Wrote s u i t d ((t.arch.getW a) ^^^ (t.arch.getW b)) (flagsOf f t.arch ((t.arch.getW a) ^^^ (t.arch.getW b)) (false) (false)) 1)
    ∧ Runs (exec (.andn p f d a b) s) (fun u => Wrote s u i t d ((t.arch.getW a) &&& ~~~(t.arch.getW b)) (flagsOf f t.arch ((t.arch.getW a) &&& ~~~(t.arch.getW b)) (false) (false)) 1)
    ∧ Runs (exec (.shl p f d a b) s) (fun u => Wrote s u i t d (BitVec.ofNat 32 ((t.arch.getW a).toNat * 2 ^ ((t.arch.getW b).toNat % 32))) (flagsOf f t.arch (BitVec.ofNat 32 ((t.arch.getW a).toNat * 2 ^ ((t.arch.getW b).toNat % 32))) (false) (false)) 1)
    ∧ Runs (exec (.shr p f d a b) s) (fun u => Wrote s u i t d (BitVec.ofNat 32 ((t.arch.getW a).toNat / 2 ^ ((t.arch.getW b).toNat % 32))) (flagsOf f t.arch (BitVec.ofNat 32 ((t.arch.getW a).toNat / 2 ^ ((t.arch.getW b).toNat % 32))) (false) (false)) 1)
    ∧ Runs (exec (.sar p f d a b) s) (fun u => Wrote s u i t d (BitVec.ofInt 32 ((t.arch.getW a).toInt / 2 ^ ((t.arch.getW b).toNat % 32))) (flagsOf f t.arch (BitVec.ofInt 32 ((t.arch.getW a).toInt / 2 ^ ((t.arch.getW b).toNat % 32))) (false) (false)) 1)
    ∧ Runs (exec (.ror p f d a b) s) (fun u => Wrote s u i t d ((t.arch.getW a).rotateRight ((t.arch.getW b).toNat % 32)) (flagsOf f t.arch ((t.arch.getW a).rotateRight ((t.arch.getW b).toNat % 32)) (false) (false)) 1)
    ∧ Runs (exec (.minS p f d a b) s) (fun u => Wrote s u i t d (if (t.arch.getW a).toInt ≤ (t.arch.getW b).toInt then (t.arch.getW a) else (t.arch.getW b)) (flagsOf f t.arch (if (t.arch.getW a).toInt ≤ (t.arch.getW b).toInt then (t.arch.getW a) else (t.arch.getW b)) (false) (false)) 1)
    ∧ Runs (exec (.maxS p f d a b) s) (fun u => Wrote s u i t d (if (t.arch.getW a).toInt ≤ (t.arch.getW b).toInt then (t.arch.getW b) else (t.arch.getW a)) (flagsOf f t.arch (if (t.arch.getW a).toInt ≤ (t.arch.getW b).toInt then (t.arch.getW b) else (t.arch.getW a)) (false) (false)) 1)
    ∧ Runs (exec (.minu p f d a b) s) (fun u => Wrote s u i t d (if (t.arch.getW a).toNat ≤ (t.arch.getW b).toNat then (t.arch.getW a) else (t.arch.getW b)) (flagsOf f t.arch (if (t.arch.getW a).toNat ≤ (t.arch.getW b).toNat then (t.arch.getW a) else (t.arch.getW b)) (false) (false)) 1)
    ∧ Runs (exec (.maxu p f d a b) s) (fun u => Wrote s u i t d (if (t.arch.getW a).toNat ≤ (t.arch.getW b).toNat then (t.arch.getW b) else (t.arch.getW a)) (flagsOf f t.arch (if (t.arch.getW a).toNat ≤ (t.arch.getW b).toNat then (t.arch.getW b) else (t.arch.getW a)) (false) (false)) 1)
    ∧ Runs (exec (.slt p f d a b) s) (fun u => Wrote s u i t d (if (t.arch.getW a).toInt < (t.arch.getW b).toInt then 1 else 0) (flagsOf f t.arch (if (t.arch.getW a).toInt < (t.arch.getW b).toInt then 1 else 0) (false) (false)) 1)
    ∧ Runs (exec (.sltu p f d a b) s) (fun u => Wrote s u i t d (if (t.arch.getW a).toNat < (t.arch.getW b).toNat then 1 else 0) (flagsOf f t.arch (if (t.arch.getW a).toNat < (t.arch.getW b).toNat then 1 else 0) (false) (false)) 1))

/-- Products, quotients, their limits, and the unary instructions (R71). Where the spec leaves a reading open, the statement rests on the
model's choice: log entry 8. -/
def Obligations.MultiplyDivideUnary : Prop :=
  (∀ (p : Nat) (f : Bool) (d a b : BitVec 5) (s : State) (i : Nat) (t : Task), onEngine s p i t →
    Runs (exec (.mul p f d a b) s) (fun u => Wrote s u i t d (BitVec.ofNat 32 ((t.arch.getW a).toNat * (t.arch.getW b).toNat)) (flagsOf f t.arch (BitVec.ofNat 32 ((t.arch.getW a).toNat * (t.arch.getW b).toNat)) (false) (false)) 2)
    ∧ Runs (exec (.mulh p f d a b) s) (fun u => Wrote s u i t d (BitVec.ofInt 32 ((t.arch.getW a).toInt * (t.arch.getW b).toInt / 2 ^ 32)) (flagsOf f t.arch (BitVec.ofInt 32 ((t.arch.getW a).toInt * (t.arch.getW b).toInt / 2 ^ 32)) (false) (false)) 2)
    ∧ Runs (exec (.mulhu p f d a b) s) (fun u => Wrote s u i t d (BitVec.ofNat 32 ((t.arch.getW a).toNat * (t.arch.getW b).toNat / 2 ^ 32)) (flagsOf f t.arch (BitVec.ofNat 32 ((t.arch.getW a).toNat * (t.arch.getW b).toNat / 2 ^ 32)) (false) (false)) 2)
    ∧ Runs (exec (.mulq p f d a b) s) (fun u => Wrote s u i t d (BitVec.ofInt 32 (max (-(2 ^ 31)) (min (2 ^ 31 - 1) (((t.arch.getW a).toInt * (t.arch.getW b).toInt + 2 ^ 15) / 2 ^ 16)))) (flagsOf f t.arch (BitVec.ofInt 32 (max (-(2 ^ 31)) (min (2 ^ 31 - 1) (((t.arch.getW a).toInt * (t.arch.getW b).toInt + 2 ^ 15) / 2 ^ 16)))) (false) (decide ((max (-(2 ^ 31)) (min (2 ^ 31 - 1) (((t.arch.getW a).toInt * (t.arch.getW b).toInt + 2 ^ 15) / 2 ^ 16))) ≠ (((t.arch.getW a).toInt * (t.arch.getW b).toInt + 2 ^ 15) / 2 ^ 16)))) 2)
    ∧ Runs (exec (.macq p f d a b) s) (fun u => Wrote s u i t d (BitVec.ofInt 32 (max (-(2 ^ 31)) (min (2 ^ 31 - 1) ((t.arch.getW d).toInt + (((t.arch.getW a).toInt * (t.arch.getW b).toInt + 2 ^ 15) / 2 ^ 16))))) (flagsOf f t.arch (BitVec.ofInt 32 (max (-(2 ^ 31)) (min (2 ^ 31 - 1) ((t.arch.getW d).toInt + (((t.arch.getW a).toInt * (t.arch.getW b).toInt + 2 ^ 15) / 2 ^ 16))))) (false) (decide ((max (-(2 ^ 31)) (min (2 ^ 31 - 1) (((t.arch.getW a).toInt * (t.arch.getW b).toInt + 2 ^ 15) / 2 ^ 16))) ≠ (((t.arch.getW a).toInt * (t.arch.getW b).toInt + 2 ^ 15) / 2 ^ 16) ∨ max (-(2 ^ 31)) (min (2 ^ 31 - 1) ((t.arch.getW d).toInt + (((t.arch.getW a).toInt * (t.arch.getW b).toInt + 2 ^ 15) / 2 ^ 16))) ≠ (t.arch.getW d).toInt + (((t.arch.getW a).toInt * (t.arch.getW b).toInt + 2 ^ 15) / 2 ^ 16)))) 2)
    ∧ ((t.arch.getW b).toNat ≠ 0 → ¬((t.arch.getW a).toInt = -(2 ^ 31) ∧ (t.arch.getW b).toInt = -1) → Runs (exec (.div p f d a b) s) (fun u => Wrote s u i t d (BitVec.ofInt 32 ((t.arch.getW a).toInt.tdiv (t.arch.getW b).toInt)) (flagsOf f t.arch (BitVec.ofInt 32 ((t.arch.getW a).toInt.tdiv (t.arch.getW b).toInt)) (false) (false)) 18))
    ∧ ((t.arch.getW a).toInt = -(2 ^ 31) → (t.arch.getW b).toInt = -1 → Runs (exec (.div p f d a b) s) (fun u => Wrote s u i t d (0x7FFFFFFF) (flagsOf f t.arch (0x7FFFFFFF) (false) (true)) 18))
    ∧ ((t.arch.getW b).toNat = 0 → Runs (exec (.div p f d a b) s) (fun u => Wrote s u i t d (if (t.arch.getW a).toInt < 0 then 0x80000000 else 0x7FFFFFFF) (flagsOf f t.arch (if (t.arch.getW a).toInt < 0 then 0x80000000 else 0x7FFFFFFF) (false) (true)) 18))
    ∧ ((t.arch.getW b).toNat ≠ 0 → Runs (exec (.divu p f d a b) s) (fun u => Wrote s u i t d (BitVec.ofNat 32 ((t.arch.getW a).toNat / (t.arch.getW b).toNat)) (flagsOf f t.arch (BitVec.ofNat 32 ((t.arch.getW a).toNat / (t.arch.getW b).toNat)) (false) (false)) 18))
    ∧ ((t.arch.getW b).toNat = 0 → Runs (exec (.divu p f d a b) s) (fun u => Wrote s u i t d (0xFFFFFFFF) (flagsOf f t.arch (0xFFFFFFFF) (false) (true)) 18))
    ∧ ((t.arch.getW b).toNat ≠ 0 → Runs (exec (.rem p f d a b) s) (fun u => Wrote s u i t d (BitVec.ofInt 32 ((t.arch.getW a).toInt.tmod (t.arch.getW b).toInt)) (flagsOf f t.arch (BitVec.ofInt 32 ((t.arch.getW a).toInt.tmod (t.arch.getW b).toInt)) (false) (false)) 18))
    ∧ ((t.arch.getW b).toNat = 0 → Runs (exec (.rem p f d a b) s) (fun u => Wrote s u i t d ((t.arch.getW a)) (flagsOf f t.arch ((t.arch.getW a)) (false) (true)) 18))
    ∧ ((t.arch.getW b).toNat ≠ 0 → Runs (exec (.remu p f d a b) s) (fun u => Wrote s u i t d (BitVec.ofNat 32 ((t.arch.getW a).toNat % (t.arch.getW b).toNat)) (flagsOf f t.arch (BitVec.ofNat 32 ((t.arch.getW a).toNat % (t.arch.getW b).toNat)) (false) (false)) 18))
    ∧ ((t.arch.getW b).toNat = 0 → Runs (exec (.remu p f d a b) s) (fun u => Wrote s u i t d ((t.arch.getW a)) (flagsOf f t.arch ((t.arch.getW a)) (false) (true)) 18)))
    ∧ (∀ (p : Nat) (f : Bool) (d a : BitVec 5) (s : State) (i : Nat) (t : Task), onEngine s p i t →
    Runs (exec (.neg p f d a) s) (fun u => ∃ cf : Bool, ∃ s1 : State, (s1 = s ∨ s1 = s.draw.2) ∧ Wrote s1 u i t d (0 - (t.arch.getW a)) (if f then ((0 - (t.arch.getW a) : Word).msb, (0 - (t.arch.getW a) : Word) == 0, cf, decide ((t.arch.getW a).toInt = -(2 ^ 31))) else sameFlags t.arch) 1)
    ∧ Runs (exec (.negs p f d a) s) (fun u => ∃ cf : Bool, ∃ s1 : State, (s1 = s ∨ s1 = s.draw.2) ∧ Wrote s1 u i t d (BitVec.ofInt 32 (min (2 ^ 31 - 1) (-(t.arch.getW a).toInt))) (if f then ((BitVec.ofInt 32 (min (2 ^ 31 - 1) (-(t.arch.getW a).toInt)) : Word).msb, (BitVec.ofInt 32 (min (2 ^ 31 - 1) (-(t.arch.getW a).toInt)) : Word) == 0, cf, decide ((t.arch.getW a).toInt = -(2 ^ 31))) else sameFlags t.arch) 1)
    ∧ Runs (exec (.absS p f d a) s) (fun u => ∃ cf : Bool, ∃ s1 : State, (s1 = s ∨ s1 = s.draw.2) ∧ Wrote s1 u i t d (BitVec.ofInt 32 (min (2 ^ 31 - 1) ((t.arch.getW a).toInt.natAbs : Int))) (if f then ((BitVec.ofInt 32 (min (2 ^ 31 - 1) ((t.arch.getW a).toInt.natAbs : Int)) : Word).msb, (BitVec.ofInt 32 (min (2 ^ 31 - 1) ((t.arch.getW a).toInt.natAbs : Int)) : Word) == 0, cf, decide ((t.arch.getW a).toInt = -(2 ^ 31))) else sameFlags t.arch) 1)
    ∧ Runs (exec (.notR p f d a) s) (fun u => ∃ cf : Bool, ∃ s1 : State, (s1 = s ∨ s1 = s.draw.2) ∧ Wrote s1 u i t d ((t.arch.getW a) ^^^ 0xFFFFFFFF) (if f then (((t.arch.getW a) ^^^ 0xFFFFFFFF : Word).msb, ((t.arch.getW a) ^^^ 0xFFFFFFFF : Word) == 0, cf, false) else sameFlags t.arch) 1)
    ∧ Runs (exec (.clz p f d a) s) (fun u => ∃ (s1 : State) (r : Word) (fl : Bool × Bool × Bool × Bool), (s1 = s ∨ s1 = s.draw.2) ∧ Wrote s1 u i t d r fl 1 ∧ r.toNat ≤ 32 ∧ (t.arch.getW a).toNat < 2 ^ (32 - r.toNat) ∧ (r.toNat < 32 → 2 ^ (31 - r.toNat) ≤ (t.arch.getW a).toNat) ∧ (f = false → fl = sameFlags t.arch) ∧ (f = true → fl.1 = false ∧ fl.2.1 = (r == 0) ∧ fl.2.2.2 = false))
    ∧ Runs (exec (.popc p f d a) s) (fun u => ∃ cf : Bool, ∃ s1 : State, (s1 = s ∨ s1 = s.draw.2) ∧ Wrote s1 u i t d (BitVec.ofNat 32 ((List.range 32).countP (fun k => (t.arch.getW a).getLsbD k))) (if f then ((BitVec.ofNat 32 ((List.range 32).countP (fun k => (t.arch.getW a).getLsbD k)) : Word).msb, (BitVec.ofNat 32 ((List.range 32).countP (fun k => (t.arch.getW a).getLsbD k)) : Word) == 0, cf, false) else sameFlags t.arch) 1)
    ∧ Runs (exec (.sextb p f d a) s) (fun u => ∃ cf : Bool, ∃ s1 : State, (s1 = s ∨ s1 = s.draw.2) ∧ Wrote s1 u i t d (BitVec.ofInt 32 (((t.arch.getW a).toNat % 256 : Nat) - if 128 ≤ (t.arch.getW a).toNat % 256 then 256 else 0)) (if f then ((BitVec.ofInt 32 (((t.arch.getW a).toNat % 256 : Nat) - if 128 ≤ (t.arch.getW a).toNat % 256 then 256 else 0) : Word).msb, (BitVec.ofInt 32 (((t.arch.getW a).toNat % 256 : Nat) - if 128 ≤ (t.arch.getW a).toNat % 256 then 256 else 0) : Word) == 0, cf, false) else sameFlags t.arch) 1)
    ∧ Runs (exec (.sexth p f d a) s) (fun u => ∃ cf : Bool, ∃ s1 : State, (s1 = s ∨ s1 = s.draw.2) ∧ Wrote s1 u i t d (BitVec.ofInt 32 (((t.arch.getW a).toNat % 65536 : Nat) - if 32768 ≤ (t.arch.getW a).toNat % 65536 then 65536 else 0)) (if f then ((BitVec.ofInt 32 (((t.arch.getW a).toNat % 65536 : Nat) - if 32768 ≤ (t.arch.getW a).toNat % 65536 then 65536 else 0) : Word).msb, (BitVec.ofInt 32 (((t.arch.getW a).toNat % 65536 : Nat) - if 32768 ≤ (t.arch.getW a).toNat % 65536 then 65536 else 0) : Word) == 0, cf, false) else sameFlags t.arch) 1)
    ∧ Runs (exec (.zextb p f d a) s) (fun u => ∃ cf : Bool, ∃ s1 : State, (s1 = s ∨ s1 = s.draw.2) ∧ Wrote s1 u i t d (BitVec.ofNat 32 ((t.arch.getW a).toNat % 256)) (if f then ((BitVec.ofNat 32 ((t.arch.getW a).toNat % 256) : Word).msb, (BitVec.ofNat 32 ((t.arch.getW a).toNat % 256) : Word) == 0, cf, false) else sameFlags t.arch) 1)
    ∧ Runs (exec (.zexth p f d a) s) (fun u => ∃ cf : Bool, ∃ s1 : State, (s1 = s ∨ s1 = s.draw.2) ∧ Wrote s1 u i t d (BitVec.ofNat 32 ((t.arch.getW a).toNat % 65536)) (if f then ((BitVec.ofNat 32 ((t.arch.getW a).toNat % 65536) : Word).msb, (BitVec.ofNat 32 ((t.arch.getW a).toNat % 65536) : Word) == 0, cf, false) else sameFlags t.arch) 1)
    ∧ Runs (exec (.bswap p f d a) s) (fun u => ∃ cf : Bool, ∃ s1 : State, (s1 = s ∨ s1 = s.draw.2) ∧ Wrote s1 u i t d (BitVec.ofNat 32 ((t.arch.getW a).toNat % 256 * 2 ^ 24 + (t.arch.getW a).toNat / 2 ^ 8 % 256 * 2 ^ 16 + (t.arch.getW a).toNat / 2 ^ 16 % 256 * 2 ^ 8 + (t.arch.getW a).toNat / 2 ^ 24)) (if f then ((BitVec.ofNat 32 ((t.arch.getW a).toNat % 256 * 2 ^ 24 + (t.arch.getW a).toNat / 2 ^ 8 % 256 * 2 ^ 16 + (t.arch.getW a).toNat / 2 ^ 16 % 256 * 2 ^ 8 + (t.arch.getW a).toNat / 2 ^ 24) : Word).msb, (BitVec.ofNat 32 ((t.arch.getW a).toNat % 256 * 2 ^ 24 + (t.arch.getW a).toNat / 2 ^ 8 % 256 * 2 ^ 16 + (t.arch.getW a).toNat / 2 ^ 16 % 256 * 2 ^ 8 + (t.arch.getW a).toNat / 2 ^ 24) : Word) == 0, cf, false) else sameFlags t.arch) 1))

/-- ADDI, ANDI, ORI, XORI, LUI and SHI leave the flags; CMPI sets them alone (R59, R61, R68). Where the spec leaves a reading open, the
statement rests on the model's choice: log entries 8, 9. -/
def Obligations.ImmediateResults : Prop :=
  ∀ (p : Nat) (d a : BitVec 5) (imm : BitVec 16) (k : BitVec 2) (n : BitVec 5) (s : State) (i : Nat) (t : Task), onEngine s p i t →
    Runs (exec (.addi p d a imm) s) (fun u => Wrote s u i t d (BitVec.ofInt 32 ((t.arch.getW a).toInt + (imm.toInt))) (sameFlags t.arch) 1)
    ∧ Runs (exec (.andi p d a imm) s) (fun u => Wrote s u i t d ((t.arch.getW a) &&& BitVec.ofNat 32 (imm.toNat)) (sameFlags t.arch) 1)
    ∧ Runs (exec (.ori p d a imm) s) (fun u => Wrote s u i t d ((t.arch.getW a) ||| BitVec.ofNat 32 (imm.toNat)) (sameFlags t.arch) 1)
    ∧ Runs (exec (.xori p d a imm) s) (fun u => Wrote s u i t d ((t.arch.getW a) ^^^ BitVec.ofNat 32 (imm.toNat)) (sameFlags t.arch) 1)
    ∧ Runs (exec (.lui p d imm) s) (fun u => Wrote s u i t d (BitVec.ofNat 32 ((imm.toNat) * 2 ^ 16)) (sameFlags t.arch) 1)
    ∧ Runs (exec (.shi p d a 0 n) s) (fun u => Wrote s u i t d (BitVec.ofNat 32 ((t.arch.getW a).toNat * 2 ^ n.toNat)) (sameFlags t.arch) 1)
    ∧ Runs (exec (.shi p d a 1 n) s) (fun u => Wrote s u i t d (BitVec.ofNat 32 ((t.arch.getW a).toNat / 2 ^ n.toNat)) (sameFlags t.arch) 1)
    ∧ Runs (exec (.shi p d a 2 n) s) (fun u => Wrote s u i t d (BitVec.ofInt 32 ((t.arch.getW a).toInt / 2 ^ n.toNat)) (sameFlags t.arch) 1)
    ∧ Runs (exec (.shi p d a 3 n) s) (fun u => Wrote s u i t d ((t.arch.getW a).rotateRight n.toNat) (sameFlags t.arch) 1)
    ∧ Runs (exec (.cmpi p a imm) s) (fun u => Wrote s u i t 0 0 (flagsOf true t.arch ((t.arch.getW a) - BitVec.ofInt 32 (imm.toInt)) (decide ((BitVec.ofInt 32 (imm.toInt)).toNat ≤ (t.arch.getW a).toNat)) (decide (((t.arch.getW a).toInt - (imm.toInt)) < -(2 ^ 31) ∨ 2 ^ 31 ≤ ((t.arch.getW a).toInt - (imm.toInt))))) 1)

/-- What a load returns and what a store leaves in memory (R63, R64, R68, R94, R95, R152). Where the spec leaves a reading open, the
statement rests on the model's choice: log entries 8, 9, 18. -/
def Obligations.LoadsAndStores : Prop :=
  (∀ (p : Nat) (d a : BitVec 5) (imm : BitVec 16) (ad A : Nat) (s : State) (i : Nat) (t : Task), onEngine s p i t →
    ad = (t.arch.getW a + imm.signExtend 32).toNat → A = t.segAddr ad →
    ∀ x ∈ ([(Instr.ldw p d a imm, 4, fun b => BitVec.ofNat 32 (b 0 + b 1 * 2 ^ 8 + b 2 * 2 ^ 16 + b 3 * 2 ^ 24)), (.ldh p d a imm, 2, fun b => (BitVec.ofNat 16 (b 0 + b 1 * 2 ^ 8)).signExtend 32),
      (.ldhu p d a imm, 2, fun b => BitVec.ofNat 32 (b 0 + b 1 * 2 ^ 8)), (.ldb p d a imm, 1, fun b => (BitVec.ofNat 8 (b 0)).signExtend 32), (.ldbu p d a imm, 1, fun b => BitVec.ofNat 32 (b 0))] : List (Instr × Nat × ((Nat → Nat) → Word))),
    ad % x.2.1 = 0 → (∃ g, t.hdr.segs.find? (fun d => d.seg == ad / 2 ^ 28) = some g ∧ ad % 2 ^ 28 + x.2.1 ≤ g.size) →
    s.mem.clean A x.2.1 = true → s.replaying = false →
    (t.locOf ad ≠ 2 → Runs (exec x.1 s) (fun u => Wrote s u i t d (x.2.2 (fun k => (devByte s A k).toNat)) (sameFlags t.arch) (if t.locOf ad = 1 then 32 else 2)))
    ∧ (t.locOf ad = 2 → Runs (exec x.1 s) (fun u => ∃ s1 c r, onlyRecorder s s1 ∧ 60 ≤ c ∧ Fetching s1 u i t r c ∧ r.pc = t.arch.pc + 1 ∧ r.t = t.arch.t ∧ r.ref = t.arch.ref
        ∧ sameFlags r = sameFlags t.arch ∧ ∀ e : BitVec 5, r.getW e = if e = d ∧ d ≠ 0 then x.2.2 (fun k => (devByte s A k).toNat) else t.arch.getW e)))
    ∧ (∀ (p : Nat) (d a : BitVec 5) (imm : BitVec 16) (ad A : Nat) (s : State) (i : Nat) (t : Task), onEngine s p i t →
    ad = (t.arch.getW a + imm.signExtend 32).toNat → A = t.segAddr ad → ∀ x ∈ ([(Instr.stw p d a imm, 4), (.sth p d a imm, 2), (.stb p d a imm, 1)] : List (Instr × Nat)),
    ad % x.2 = 0 → (∃ g, t.hdr.segs.find? (fun d => d.seg == ad / 2 ^ 28) = some g ∧ ad % 2 ^ 28 + x.2 ≤ g.size ∧ g.ro = false) →
    Runs (exec x.1 s) (fun u => (∀ k, k < x.2 → devByte u A k = BitVec.ofNat 8 ((t.arch.getW d).toNat / 256 ^ k))
      ∧ (sramBase ≤ A → u.mem.dram = s.mem.dram ∧ u.fields = s.fields ∧ u.faultQ = s.faultQ ∧ ∀ k, k < A - sramBase ∨ A - sramBase + x.2 ≤ k → memGet u.mem.sram k = memGet s.mem.sram k)
      ∧ (A < sramBase → u.mem.sram = s.mem.sram ∧ ∀ k, k < A ∨ A + x.2 ≤ k → memGet u.mem.dram k = memGet s.mem.dram k)
      ∧ ∃ s1 c, s1 = { s with mem := u.mem, fields := u.fields, faultQ := u.faultQ, freeCtr := u.freeCtr }
          ∧ (t.locOf ad = 2 → 60 ≤ c ∧ Fetching s1 u i t { t.arch with pc := t.arch.pc + 1 } c)
          ∧ (t.locOf ad ≠ 2 → c = (if t.locOf ad = 1 then 32 else 1) ∧ Retired s1 u i t { t.arch with pc := t.arch.pc + 1 } c)))

/-- Where a load or a store traps, and that it then does nothing else (R63, R64, R65, R91, R92). Where the spec leaves a reading open, the
statement rests on the model's choice: log entries 8, 9, 18. -/
def Obligations.AccessTraps : Prop :=
  ∀ (p : Nat) (d a : BitVec 5) (imm : BitVec 16) (ad : Nat) (s : State) (i : Nat) (t : Task), onEngine s p i t →
    ad = (t.arch.getW a + imm.signExtend 32).toNat → s.replaying = false → ∀ x ∈ ([(Instr.ldw p d a imm, 4, false), (.ldh p d a imm, 2, false), (.ldhu p d a imm, 2, false), (.ldb p d a imm, 1, false), (.ldbu p d a imm, 1, false),
      (.stw p d a imm, 4, true), (.sth p d a imm, 2, true), (.stb p d a imm, 1, true)] : List (Instr × Nat × Bool)),
    (ad % x.2.1 ≠ 0 → Runs (exec x.1 s) (fun u => Trapped s u i t 0x02 t.arch.pc.toNat))
    ∧ (ad % x.2.1 = 0 → ¬ (∃ g, t.hdr.segs.find? (fun d => d.seg == ad / 2 ^ 28) = some g ∧ ad % 2 ^ 28 + x.2.1 ≤ g.size) → Runs (exec x.1 s) (fun u => Trapped s u i t 0x03 t.arch.pc.toNat))
    ∧ (ad % x.2.1 = 0 → (∃ g, t.hdr.segs.find? (fun d => d.seg == ad / 2 ^ 28) = some g ∧ ad % 2 ^ 28 + x.2.1 ≤ g.size ∧ g.ro = true) → x.2.2 = true → Runs (exec x.1 s) (fun u => Trapped s u i t 0x04 t.arch.pc.toNat))
    ∧ (x.2.2 = false → sramBase ≤ t.segAddr ad → t.segAddr ad + x.2.1 ≤ sramBase + 0x200000 → ad % x.2.1 = 0 → (∃ g, t.hdr.segs.find? (fun d => d.seg == ad / 2 ^ 28) = some g ∧ ad % 2 ^ 28 + x.2.1 ≤ g.size ∧ (g.ro = false ∨ g.init = false)) →
        (∃ w ∈ s.mem.sramBad, w = t.segAddr ad / 4 * 4) → Runs (exec x.1 s) (fun u => ∃ y, u.task? i = some y ∧ y.stat = .trapped ∧ y.arch = t.arch ∧ y.trapKind = 0x07 ∧ y.trapPc = t.arch.pc.toNat ∧ kvGet u.ex.running t.phys ≠ some i))

/-- BC, BL and JALR: targets, links, conditions and the SEGMENT trap (R74, R75). -/
def Obligations.Branches : Prop :=
  ∀ (p : Nat) (d a : BitVec 5) (imm : BitVec 16) (cond : BitVec 4) (off : BitVec 22) (far : BitVec 26) (s : State) (i : Nat) (t : Task), onEngine s p i t →
    (∀ tk : Bool, [true, t.arch.z, !t.arch.z, t.arch.n != t.arch.v, t.arch.n == t.arch.v, t.arch.z || t.arch.n != t.arch.v, !t.arch.z && t.arch.n == t.arch.v, !t.arch.c,
        t.arch.c, !t.arch.c || t.arch.z, t.arch.c && !t.arch.z, t.arch.n, !t.arch.n, t.arch.v, !t.arch.v][cond.toNat]? = some tk →
      (tk = false → Runs (exec (.bc p cond off) s) (fun u => Retired s u i t { t.arch with pc := t.arch.pc + 1 } 2))
      ∧ (tk = true → (∀ n : Int, n = (t.arch.pc.toNat : Int) + off.toInt →
      (0 ≤ n ∧ n < t.hdr.codeWords → Runs (exec (.bc p cond off) s) (fun u => u = s.setTask i { t with arch := { t.arch with pc := BitVec.ofInt 16 n }, cyc := t.cyc + 2, maxCyc := max t.maxCyc (t.cyc + 2) }))
      ∧ (¬ (0 ≤ n ∧ n < t.hdr.codeWords) → s.replaying = false → Runs (exec (.bc p cond off) s) (fun u => Trapped s u i t 0x03 t.arch.pc.toNat)))))
    ∧ (cond = 15 → s.replaying = false → Runs (exec (.bc p cond off) s) (fun u => Trapped s u i t 0x01 t.arch.pc.toNat))
    ∧ (∀ n : Int, n = (t.arch.pc.toNat : Int) + far.toInt →
      (0 ≤ n ∧ n < t.hdr.codeWords → Runs (exec (.bl p far) s) (fun u => u = s.setTask i { t with arch := { (t.arch.setW 31 (BitVec.ofNat 32 (t.arch.pc.toNat + 1))) with pc := BitVec.ofInt 16 n }, cyc := t.cyc + 2, maxCyc := max t.maxCyc (t.cyc + 2) }))
      ∧ (¬ (0 ≤ n ∧ n < t.hdr.codeWords) → s.replaying = false → Runs (exec (.bl p far) s) (fun u => Trapped s u i t 0x03 t.arch.pc.toNat)))
    ∧ (∀ n : Int, n = ((t.arch.getW a + imm.signExtend 32).toNat % 65536 : Nat) →
      (0 ≤ n ∧ n < t.hdr.codeWords → Runs (exec (.jalr p d a imm) s) (fun u => u = s.setTask i { t with arch := { (t.arch.setW d (BitVec.ofNat 32 (t.arch.pc.toNat + 1))) with pc := BitVec.ofInt 16 n }, cyc := t.cyc + 2, maxCyc := max t.maxCyc (t.cyc + 2) }))
      ∧ (¬ (0 ≤ n ∧ n < t.hdr.codeWords) → s.replaying = false → Runs (exec (.jalr p d a imm) s) (fun u => Trapped s u i t 0x03 t.arch.pc.toNat)))

/-- Time registers, and reads of time and position (R77, R78, R61, R76, R94, R67). Where the spec leaves a reading open, the statement
rests on the model's choice: log entries 8, 9, 18. -/
def Obligations.TimeAndPositionResults : Prop :=
  (∀ (p : Nat) (f : Bool) (td ta tb : BitVec 2) (d a b : BitVec 5) (sc : BitVec 2) (imm : BitVec 20) (s : State) (i : Nat) (t : Task), onEngine s p i t →
    Runs (exec (.tadd p td ta b) s) (fun u => WroteT s u i t td (BitVec.ofInt 64 ((t.arch.getT ta).toInt + (t.arch.getW b).toInt)) 1)
    ∧ Runs (exec (.tsub p td ta tb) s) (fun u => WroteT s u i t td (BitVec.ofInt 64 ((t.arch.getT ta).toInt - (t.arch.getT tb).toInt)) 1)
    ∧ Runs (exec (.tset p td a b) s) (fun u => WroteT s u i t td (BitVec.ofNat 64 ((t.arch.getW b).toNat * 2 ^ 32 + (t.arch.getW a).toNat)) 1)
    ∧ Runs (exec (.tmov p td ta) s) (fun u => WroteT s u i t td ((t.arch.getT ta)) 1)
    ∧ Runs (exec (.tref p td) s) (fun u => WroteT s u i t td (t.arch.ref) 1)
    ∧ Runs (exec (.taddi p td ta sc imm) s) (fun u => WroteT s u i t td (BitVec.ofInt 64 ((t.arch.getT ta).toInt + imm.toInt * ([1, 1000, 1000000, 65536].getD sc.toNat 0 : Nat))) 1)
    ∧ Runs (exec (.tlo p d ta) s) (fun u => Wrote s u i t d (BitVec.ofNat 32 ((t.arch.getT ta).toNat % 2 ^ 32)) (sameFlags t.arch) 1)
    ∧ Runs (exec (.thi p d ta) s) (fun u => Wrote s u i t d (BitVec.ofNat 32 ((t.arch.getT ta).toNat / 2 ^ 32)) (sameFlags t.arch) 1)
    ∧ Runs (exec (.tdif p f d ta tb) s) (fun u => ∀ r : Word, r = BitVec.ofInt 32 (max (-(2 ^ 31)) (min (2 ^ 31 - 1) ((t.arch.getT ta) - (t.arch.getT tb)).toInt)) → Wrote s u i t d r (flagsOf f t.arch r false (decide (r.toInt ≠ ((t.arch.getT ta) - (t.arch.getT tb)).toInt))) 1)
    ∧ Runs (exec (.tcmp p ta tb) s) (fun u => Retired s u i t { t.arch with n := ((t.arch.getT ta) - (t.arch.getT tb)).msb, z := decide ((t.arch.getT ta) = (t.arch.getT tb)), c := decide ((t.arch.getT tb).toNat ≤ (t.arch.getT ta).toNat), v := decide ((t.arch.getT ta).toInt - (t.arch.getT tb).toInt < -(2 ^ 63) ∨ 2 ^ 63 ≤ (t.arch.getT ta).toInt - (t.arch.getT tb).toInt), pc := t.arch.pc + 1 } 1)
    ∧ Runs (exec (.tsref p ta) s) (fun u => Retired s u i t { t.arch with ref := (t.arch.getT ta), pc := t.arch.pc + 1 } 1))
    ∧ (∀ (p : Nat) (td : BitVec 2) (stn : BitVec 3) (s : State) (i : Nat) (t : Task), onEngine s p i t →
    s.hist.length = 4 → s.replaying = false →
    Runs (exec (.tget p td) s) (fun u => ∃ k e s1, 1 ≤ k ∧ k ≤ 3 ∧ s.hist[k]? = some e ∧ onlyRecorder s s1 ∧ WroteT s1 u i t td e.1 2)
    ∧ (stn ≠ 6 → Runs (exec (.pget p td stn) s) (fun u => ∃ k e s1, 1 ≤ k ∧ k ≤ 3 ∧ s.hist[k]? = some e ∧ onlyRecorder s s1
        ∧ WroteT s1 u i t td (BitVec.ofInt 64 (e.2 - if stn = 7 then 0 else (kvGet s.ppos.ofs stn.toNat).getD 0)) 2))
    ∧ (stn = 6 → Runs (exec (.pget p td stn) s) (fun u => Trapped s u i t 0x01 t.arch.pc.toNat)))

/-- Waits at their issue and at their end (R76, R78, R80, R81, R83, R61, R67, R82). Where the spec leaves a reading open, the statement
rests on the model's choice: log entries 8, 9, 18. -/
def Obligations.Waits : Prop :=
  (∀ (p : Nat) (ta sc : BitVec 2) (a : BitVec 5) (stn : BitVec 3) (l : Bool) (s : State) (i : Nat) (t : Task), onEngine s p i t → s.replaying = false →
    (0 ≤ (s.now - t.arch.getT ta).toInt → Runs (exec (.atTime p ta l) s) (fun u => ∃ s1, onlyRecorder s s1 ∧ Retired s1 u i t { t.arch with ref := t.arch.getT ta, n := false, z := false, c := true, v := false, pc := t.arch.pc + 1 } 2))
    ∧ ((s.now - t.arch.getT ta).toInt < 0 → (l = true ∧ 0 ≤ (s.now - t.arch.getT 3).toInt) → Runs (exec (.atTime p ta l) s) (fun u => ∃ s1, onlyRecorder s s1 ∧ Retired s1 u i t { t.arch with ref := t.arch.getT 3, n := false, z := true, c := false, v := false, pc := t.arch.pc + 1 } 2))
    ∧ ((s.now - t.arch.getT ta).toInt < 0 → ¬ (l = true ∧ 0 ≤ (s.now - t.arch.getT 3).toInt) → Runs (exec (.atTime p ta l) s) (fun u => Blocked s u i t ⟨.time (t.arch.getT ta), if l then some (t.arch.getT 3) else none, none⟩ 2))
    ∧ (0 ≤ (s.now - (t.arch.ref + BitVec.ofNat 64 ((t.arch.getW a).toNat * ([1, 1000, 1000000, 65536].getD sc.toNat 0)))).toInt → Runs (exec (.after p sc a l) s) (fun u => ∃ s1, onlyRecorder s s1 ∧ Retired s1 u i t { t.arch with ref := (t.arch.ref + BitVec.ofNat 64 ((t.arch.getW a).toNat * ([1, 1000, 1000000, 65536].getD sc.toNat 0))), n := false, z := false, c := true, v := false, pc := t.arch.pc + 1 } 2))
    ∧ ((s.now - (t.arch.ref + BitVec.ofNat 64 ((t.arch.getW a).toNat * ([1, 1000, 1000000, 65536].getD sc.toNat 0)))).toInt < 0 → (l = true ∧ 0 ≤ (s.now - t.arch.getT 3).toInt) → Runs (exec (.after p sc a l) s) (fun u => ∃ s1, onlyRecorder s s1 ∧ Retired s1 u i t { t.arch with ref := t.arch.getT 3, n := false, z := true, c := false, v := false, pc := t.arch.pc + 1 } 2))
    ∧ ((s.now - (t.arch.ref + BitVec.ofNat 64 ((t.arch.getW a).toNat * ([1, 1000, 1000000, 65536].getD sc.toNat 0)))).toInt < 0 → ¬ (l = true ∧ 0 ≤ (s.now - t.arch.getT 3).toInt) → Runs (exec (.after p sc a l) s) (fun u => Blocked s u i t ⟨.time (t.arch.ref + BitVec.ofNat 64 ((t.arch.getW a).toNat * ([1, 1000, 1000000, 65536].getD sc.toNat 0))), if l then some (t.arch.getT 3) else none, none⟩ 2))
    ∧ (stn ≠ 6 → (0 ≤ (s.posAt stn.toNat - t.arch.getT ta).toInt → Runs (exec (.onpos p ta stn l) s) (fun u => ∃ s1, onlyRecorder s s1 ∧ Retired s1 u i t { t.arch with ref := s.now, n := false, z := false, c := true, v := false, pc := t.arch.pc + 1 } 2))
    ∧ ((s.posAt stn.toNat - t.arch.getT ta).toInt < 0 → (l = true ∧ 0 ≤ (s.now - t.arch.getT 3).toInt) → Runs (exec (.onpos p ta stn l) s) (fun u => ∃ s1, onlyRecorder s s1 ∧ Retired s1 u i t { t.arch with ref := t.arch.getT 3, n := false, z := true, c := false, v := false, pc := t.arch.pc + 1 } 2))
    ∧ ((s.posAt stn.toNat - t.arch.getT ta).toInt < 0 → ¬ (l = true ∧ 0 ≤ (s.now - t.arch.getT 3).toInt) → Runs (exec (.onpos p ta stn l) s) (fun u => Blocked s u i t ⟨.pos stn.toNat (t.arch.getT ta), if l then some (t.arch.getT 3) else none, none⟩ 2)))
    ∧ (definedEvent (t.arch.getW a).toNat = true → ((l = true ∧ 0 ≤ (s.now - t.arch.getT 3).toInt) → Runs (exec (.evwait p a l) s) (fun u => ∃ s1, onlyRecorder s s1 ∧ Retired s1 u i t { t.arch with ref := t.arch.getT 3, n := false, z := true, c := false, v := false, pc := t.arch.pc + 1 } 2))
    ∧ (¬ (l = true ∧ 0 ≤ (s.now - t.arch.getT 3).toInt) → Runs (exec (.evwait p a l) s) (fun u => Blocked s u i t ⟨.event (t.arch.getW a).toNat, if l then some (t.arch.getT 3) else none, none⟩ 2)))
    ∧ (stn = 6 → Runs (exec (.onpos p ta stn l) s) (fun u => Trapped s u i t 0x01 t.arch.pc.toNat))
    ∧ (definedEvent (t.arch.getW a).toNat = false → Runs (exec (.evwait p a l) s) (fun u => Trapped s u i t 0x01 t.arch.pc.toNat)))
    ∧ (∀ (s : State) (i : Nat) (t : Task) (w : Wait), i < 512 → s.task? i = some t → t.stat = .waiting → t.wait = some w → s.replaying = false →
    (∀ r : Word64, ((∃ tg, w.kind = .time tg ∧ 0 ≤ (s.now - tg).toInt ∧ r = tg)
          ∨ (∃ stn tg, w.kind = .pos stn tg ∧ w.hit = none ∧ s.beltRuns = true ∧ 0 ≤ (s.posAt stn - tg).toInt ∧ r = s.now)
          ∨ (∃ stn tg, w.kind = .pos stn tg ∧ w.hit = some r) ∨ (∃ sel, w.kind = .event sel ∧ w.hit = some r)) →
        Runs (exec (.waitEnd i) s) (fun u => Readied s u i { t with wait := none, arch := { t.arch with ref := r, n := false, z := false, c := false, v := false } } s.ex.chans))
    ∧ (∀ lim : Word64, w.limit = some lim → 0 ≤ (s.now - lim).toInt →
        (∃ tg, w.kind = .time tg ∧ (s.now - tg).toInt < 0) ∨ (∃ stn tg, w.kind = .pos stn tg ∧ w.hit = none ∧ (s.posAt stn - tg).toInt < 0)
          ∨ (∃ sel, w.kind = .event sel ∧ w.hit = none) →
        Runs (exec (.waitLimit i) s) (fun u => Readied s u i { t with wait := none, arch := { t.arch with ref := lim, n := false, z := true, c := false, v := false } } s.ex.chans)))

/-- SEND, RECV, CHCNT and the end of their waits (R62, R67, R84, R85, R86, R94, R107). Where the spec leaves a reading open, the statement
rests on the model's choice: log entries 8, 9, 18. -/
def Obligations.Messages : Prop :=
  (∀ (p : Nat) (d a : BitVec 5) (l x nb : Bool) (ch : BitVec 8) (s : State) (i : Nat) (t : Task), onEngine s p i t → s.replaying = false →
    ∀ k : Nat, k = (if x then (t.arch.getW a).toNat % 256 else ch.toNat) →
    (¬ (x = true ∧ ch ≠ 0) → (k, true) ∈ t.hdr.chans →
      ((s.chan k).length < 16 → Runs (exec (.send p d a l x nb ch) s) (fun u => u.task? i = some { t with arch := { t.arch with n := false, z := false, c := true, v := false, pc := t.arch.pc + 1 }, cyc := t.cyc + 4, maxCyc := max t.maxCyc (t.cyc + 4) } ∧ u.chan k = s.chan k ++ [t.arch.getW d] ∧ (∀ j, j ≠ k → u.chan j = s.chan j) ∧ sansEvent u = sansEvent s ∧ onlyRing s u))
    ∧ (16 ≤ (s.chan k).length → (nb = true → Runs (exec (.send p d a l x nb ch) s) (fun u => Retired s u i t { t.arch with n := false, z := false, c := false, v := false, pc := t.arch.pc + 1 } 4))
    ∧ (nb = false → (l = true ∧ 0 ≤ (s.now - t.arch.getT 3).toInt) → Runs (exec (.send p d a l x nb ch) s) (fun u => ∃ s1, onlyRecorder s s1 ∧ Retired s1 u i t { t.arch with n := false, z := true, c := false, v := false, pc := t.arch.pc + 1 } 4))
    ∧ (nb = false → ¬ (l = true ∧ 0 ≤ (s.now - t.arch.getT 3).toInt) → Runs (exec (.send p d a l x nb ch) s) (fun u => ∃ s1, onlyRecorder s s1 ∧ Blocked s1 u i t ⟨.send k (t.arch.getW d), if l then some (t.arch.getT 3) else none, none⟩ 4))))
    ∧ (¬ (x = true ∧ ch ≠ 0) → (k, false) ∈ t.hdr.chans →
      (∀ w rest, s.chan k = w :: rest → Runs (exec (.recv p d a l x nb ch) s) (fun u => (∃ s1 v, onlyRecorder s s1 ∧ Wrote s1 v i t d w (false, false, true, false) 4 ∧ u = v.setChan k rest) ∧ u.chan k = rest))
      ∧ (s.chan k = [] → (nb = true → Runs (exec (.recv p d a l x nb ch) s) (fun u => Retired s u i t { t.arch with n := false, z := false, c := false, v := false, pc := t.arch.pc + 1 } 4))
    ∧ (nb = false → (l = true ∧ 0 ≤ (s.now - t.arch.getT 3).toInt) → Runs (exec (.recv p d a l x nb ch) s) (fun u => ∃ s1, onlyRecorder s s1 ∧ Retired s1 u i t { t.arch with n := false, z := true, c := false, v := false, pc := t.arch.pc + 1 } 4))
    ∧ (nb = false → ¬ (l = true ∧ 0 ≤ (s.now - t.arch.getT 3).toInt) → Runs (exec (.recv p d a l x nb ch) s) (fun u => ∃ s1, onlyRecorder s s1 ∧ Blocked s1 u i t ⟨.recv k d, if l then some (t.arch.getT 3) else none, none⟩ 4))))
    ∧ (¬ (x = true ∧ ch ≠ 0) → (k, true) ∈ t.hdr.chans ∨ (k, false) ∈ t.hdr.chans → Runs (exec (.chcnt p d a x ch) s) (fun u => Wrote s u i t d (BitVec.ofNat 32 (s.chan k).length) (sameFlags t.arch) 4))
    ∧ (∀ e ∈ ([(Instr.send p d a l x nb ch, [true]), (.recv p d a l x nb ch, [false]), (.chcnt p d a x ch, [true, false])] : List (Instr × List Bool)),
        (x = true ∧ ch ≠ 0 → Runs (exec e.1 s) (fun u => Trapped s u i t 0x01 t.arch.pc.toNat))
        ∧ (¬ (x = true ∧ ch ≠ 0) → (∀ b ∈ e.2, (k, b) ∉ t.hdr.chans) → Runs (exec e.1 s) (fun u => Trapped s u i t 0x05 t.arch.pc.toNat))))
    ∧ (∀ (s : State) (i : Nat) (t : Task) (k : Nat) (w : Word) (d : BitVec 5) (lim hit : Option Word64), i < 512 → s.task? i = some t → t.stat = .waiting → s.replaying = false →
    (t.wait = some ⟨.send k w, lim, hit⟩ → (s.chan k).length < 16 →
      Runs (exec (.messageWaitEnd i) s) (fun u => u.task? i = some { t with wait := none, stat := .ready, readyAt := s.tick, arch := { t.arch with n := false, z := false, c := true, v := false } }
        ∧ u.chan k = s.chan k ++ [w] ∧ (∀ j, j ≠ k → u.chan j = s.chan j) ∧ sansEvent u = sansEvent s ∧ onlyRing s u))
    ∧ (∀ v rest, t.wait = some ⟨.recv k d, lim, hit⟩ → s.chan k = v :: rest →
      Runs (exec (.messageWaitEnd i) s) (fun u => Readied s u i { t with wait := none, arch := { t.arch.setW d v with n := false, z := false, c := true, v := false } } u.ex.chans
        ∧ u.chan k = rest ∧ ∀ j, j ≠ k → u.chan j = s.chan j))
    ∧ (∀ x, lim = some x → 0 ≤ (s.now - x).toInt →
        (t.wait = some ⟨.send k w, lim, hit⟩ ∧ 16 ≤ (s.chan k).length) ∨ (t.wait = some ⟨.recv k d, lim, hit⟩ ∧ s.chan k = []) →
      Runs (exec (.messageWaitEnd i) s) (fun u => Readied s u i { t with wait := none, arch := { t.arch with n := false, z := true, c := false, v := false } } s.ex.chans)))

/-- Task control, preemption, and the traps at an instruction boundary (R87, R88, R67, R103, R104, R109, R91, R92, R93). Where the spec
leaves a reading open, the statement rests on the model's choice: log entries 9, 17, 18, 39. -/
def Obligations.TaskControlAndTraps : Prop :=
  (∀ (p : Nat) (d a : BitVec 5) (kind : BitVec 6) (s : State) (i : Nat) (t : Task), onEngine s p i t →
    ((∀ e ∈ s.ex.tasks, e.2.phys = p → e.2.stat = .ready → e.2.hdr.prio ≠ t.hdr.prio) → Runs (exec (.yieldI p) s) (fun u => Retired s u i t { t.arch with pc := t.arch.pc + 1 } 2))
    ∧ (kvSorted s.ex.tasks = true → (∃ e ∈ s.ex.tasks, e.2.phys = p ∧ e.2.stat = .ready ∧ e.2.hdr.prio = t.hdr.prio) →
      Runs (exec (.yieldI p) s) (fun u => ∃ j x, s.task? j = some x ∧ x.phys = p ∧ x.stat = .ready ∧ x.hdr.prio = t.hdr.prio
        ∧ (∀ e ∈ s.ex.tasks, e.2.phys = p → e.2.stat = .ready → e.2.hdr.prio = t.hdr.prio → (e.2.preempted = true → x.preempted = true)
            ∧ (e.2.preempted = x.preempted → x.readyAt < e.2.readyAt ∨ (x.readyAt = e.2.readyAt ∧ j ≤ e.1)))
        ∧ kvGet u.ex.running p = some j ∧ (∀ q, q ≠ p → kvGet u.ex.running q = kvGet s.ex.running q)
        ∧ u.task? j = some { x with stat := .running, preempted := false } ∧ (∀ k, k ≠ i → k ≠ j → u.task? k = s.task? k)
        ∧ u.task? i = some { t with arch := { t.arch with pc := t.arch.pc + 1 }, cyc := t.cyc + 2, maxCyc := max t.maxCyc (t.cyc + 2), stat := .ready, readyAt := s.tick } ∧ u = { s with ex := { s.ex with tasks := u.ex.tasks, running := u.ex.running } }))
    ∧ Runs (exec (.ckpt p) s) (fun u => u = s.setTask i { t with arch := { t.arch with pc := t.arch.pc + 1 }, ckpt := some { t.arch with pc := t.arch.pc + 1 }, cyc := 0, maxCyc := max t.maxCyc (t.cyc + 48), streak := 0, tries := 0 })
    ∧ Runs (exec (.tid p d) s) (fun u => Wrote s u i t d (BitVec.ofNat 32 i) (sameFlags t.arch) 1)
    ∧ (s.replaying = false → 0x20 ≤ kind.toNat → Runs (exec (.faultI p a kind) s) (fun u => ∃ v, Retired s v i t { t.arch with pc := t.arch.pc + 1 } 4 ∧ u = { v with recd := u.recd, mem := u.mem, faultQ := s.faultQ ++ [⟨0x040 + p, kind.toNat, (t.arch.getW a).toNat % 65536, 0⟩] } ∧ onlyRing s u))
    ∧ (s.replaying = false → kind.toNat < 0x20 → Runs (exec (.faultI p a kind) s) (fun u => Trapped s u i t 0x01 t.arch.pc.toNat))
    ∧ (s.bit UPD_STATUS_DEBUG_OPEN = true → Runs (exec (.bkpt p) s) (fun u => u.task? i = some { t with arch := { t.arch with pc := t.arch.pc + 1 }, cyc := t.cyc + 2, maxCyc := max t.maxCyc (t.cyc + 2), stat := .stopped, halted := true } ∧ kvGet u.ex.running p = none ∧ (∀ j, j ≠ i → u.task? j = s.task? j) ∧ u = { s with ex := { s.ex with tasks := u.ex.tasks, running := u.ex.running } }))
    ∧ (s.replaying = false → s.bit UPD_STATUS_DEBUG_OPEN = false → Runs (exec (.bkpt p) s) (fun u => Trapped s u i t 0x08 t.arch.pc.toNat)))
    ∧ (∀ (s : State) (i p : Nat) (t : Task), s.replaying = false →
    (i < 512 → s.task? i = some t → t.stat = .running ∨ t.stat = .ready ∨ t.stat = .waiting →
        (t.hdr.budget < t.cyc → Runs (exec (.budgetExceeded i) s) (fun u => Trapped s u i t 0x09 (if t.stat = .waiting then (t.arch.pc - 1).toNat else t.arch.pc.toNat)))
        ∧ (t.hdr.cls < 2 → t.hdr.deadline ≠ 0 → 0 ≤ (s.now - (t.inForce.ref + BitVec.ofNat 64 t.hdr.deadline)).toInt →
          Runs (exec (.deadlineMissed i) s) (fun u => Trapped s u i t (if t.hdr.budget < t.cyc then 0x09 else 0x0A) (if t.stat = .waiting then (t.arch.pc - 1).toNat else t.arch.pc.toNat)))
        ∧ (2 ≤ t.hdr.cls ∨ t.hdr.deadline = 0 → Runs (exec (.deadlineMissed i) s) (fun u => u = s)))
    ∧ (onEngine s p i t → ∀ w : BitVec 32,
        w.toNat / 2 ^ 26 ∉ [0x01, 0x02, 0x03, 0x28, 0x38, 0x04, 0x05, 0x06, 0x07, 0x10, 0x11, 0x12, 0x13, 0x14, 0x18, 0x19, 0x1A, 0x1C, 0x1D, 0x21, 0x22, 0x08, 0x09, 0x0A, 0x20, 0x29,
            0x30, 0x31, 0x32, 0x33, 0x34, 0x35, 0x36, 0x39, 0x3C, 0x3D]
          ∨ (w.toNat / 2 ^ 26 = 0x01 ∧ w.toNat % 64 ∉ [0, 1, 2, 3, 4, 5, 8, 9, 10, 11, 16, 17, 18, 19, 24, 25, 26, 27, 28, 29])
          ∨ (w.toNat / 2 ^ 26 = 0x02 ∧ w.toNat % 64 ∉ [0, 1, 2, 3, 4, 8, 9, 10, 11]) ∨ (w.toNat / 2 ^ 26 = 0x3D ∧ p < 20) →
        Runs (exec (.illegal p w) s) (fun u => Trapped s u i t 0x01 t.arch.pc.toNat)))

/-- The end of an activation, restarts and stops (R60, R101, R102, R87, R115, R109, R110, R116). Where the spec leaves a reading open, the
statement rests on the model's choice: log entries 9, 17, 18, 39. -/
def Obligations.ActivationsAndRestarts : Prop :=
  (∀ (p : Nat)  (s : State) (i : Nat) (t : Task), onEngine s p i t →
    (t.hdr.deadline = 0 ∨ 2 ≤ t.hdr.cls ∨ (s.now - t.inForce.ref).toNat * 105 ≤ t.hdr.deadline * 100) →
    (t.pending = none → t.hdr.rel ≠ .message → Runs (exec (.doneI p) s) (fun u => (∃ m, u.task? i = some { t with arch := { t.arch with pc := t.arch.pc + 1 }, cyc := t.cyc + 2, maxCyc := max t.maxCyc (t.cyc + 2), minSlack := m, streak := 0, tries := 0, stat := .idle })
        ∧ kvGet u.ex.running p = none ∧ (∀ j, j ≠ i → u.task? j = s.task? j) ∧ u = { s with ex := { s.ex with tasks := u.ex.tasks, running := u.ex.running } }))
    ∧ (∀ r, t.pending = some r → t.started = true → Runs (exec (.doneI p) s) (fun u => (∃ x, u.task? i = some x ∧ x.stat = .ready ∧ x.readyAt = s.tick ∧ x.pending = none ∧ x.cyc = 0 ∧ x.hdr = t.hdr ∧ x.arch.ref = r.ref
        ∧ sameFlags x.arch = (false, false, false, false) ∧ (t.started = true → x.arch.t = t.arch.t ∧ x.arch.pc = t.arch.pc + 1
          ∧ ∀ e : BitVec 5, x.arch.getW e = if 1 ≤ e.toNat ∧ e.toNat ≤ 4 then (r.args[e.toNat - 1]?).getD (t.arch.getW e) else t.arch.getW e)
        ∧ (t.started = false → x.arch.t = (Arch.start 0 0).t ∧ x.arch.pc = BitVec.ofNat 16 t.hdr.entry ∧ ∀ e : BitVec 5, x.arch.getW e = if 1 ≤ e.toNat ∧ e.toNat ≤ 4 then (r.args[e.toNat - 1]?).getD (0) else 0)
        ∧ x.inForce = r) ∧ kvGet u.ex.running p = none ∧ (∀ j, j ≠ i → u.task? j = s.task? j) ∧ u = { s with ex := { s.ex with tasks := u.ex.tasks, running := u.ex.running } })))
    ∧ (∀ (s : State) (i : Nat), i < 512 →
    (∀ t : Task, s.task? i = some t → t.inForce.args = [] →
      (t.hdr.rel = .once → t.stat = .trapped → t.hdr.restart = true → t.tries < 3 → t.trapTime + 250000 ≤ s.tick →
        (∀ a, t.ckpt = some a → Runs (exec (.trapRestart i) s) (fun u => u.task? i = some { t with arch := a, started := true, wait := none, dcall := none, stall := false, access := none, cyc := 0, preempted := false, halted := false, stat := .ready, readyAt := s.tick }
        ∧ u.ex.placeRecs.length = s.ex.placeRecs.length + 1 ∧ (∀ j, j ≠ i → u.task? j = s.task? j) ∧ u = { s with ex := { s.ex with tasks := u.ex.tasks, placeRecs := u.ex.placeRecs }, recd := u.recd, mem := u.mem } ∧ onlyRing s u))
        ∧ (t.ckpt = none → Runs (exec (.trapRestart i) s) (fun u => u.task? i = some { t with arch := { t.arch with pc := BitVec.ofNat 16 t.hdr.entry }, started := true, wait := none, dcall := none, stall := false, access := none, cyc := 0, preempted := false, halted := false, stat := .ready, readyAt := s.tick }
        ∧ u.ex.placeRecs.length = s.ex.placeRecs.length + 1 ∧ (∀ j, j ≠ i → u.task? j = s.task? j) ∧ u = { s with ex := { s.ex with tasks := u.ex.tasks, placeRecs := u.ex.placeRecs }, recd := u.recd, mem := u.mem } ∧ onlyRing s u)))
      ∧ (t.stat = .trapped ∨ t.stat = .stopped →
        (∀ a, t.ckpt = some a → Runs (exec (.taskRestartCheckpoint i) s) (fun u => u.task? i = some { t with arch := a, started := true, wait := none, dcall := none, stall := false, access := none, cyc := 0, preempted := false, halted := false, stat := .ready, readyAt := s.tick, tries := 0 }
        ∧ u.ex.placeRecs.length = s.ex.placeRecs.length + 1 ∧ (∀ j, j ≠ i → u.task? j = s.task? j) ∧ u = { s with ex := { s.ex with tasks := u.ex.tasks, placeRecs := u.ex.placeRecs }, recd := u.recd, mem := u.mem } ∧ onlyRing s u))
        ∧ (t.ckpt = none → Runs (exec (.taskRestartCheckpoint i) s) (fun u => u.task? i = some { t with arch := { t.arch with pc := BitVec.ofNat 16 t.hdr.entry }, started := true, wait := none, dcall := none, stall := false, access := none, cyc := 0, preempted := false, halted := false, stat := .ready, readyAt := s.tick, tries := 0 }
        ∧ u.ex.placeRecs.length = s.ex.placeRecs.length + 1 ∧ (∀ j, j ≠ i → u.task? j = s.task? j) ∧ u = { s with ex := { s.ex with tasks := u.ex.tasks, placeRecs := u.ex.placeRecs }, recd := u.recd, mem := u.mem } ∧ onlyRing s u))
        ∧ Runs (exec (.taskRestartEntry i) s) (fun u => u.task? i = some { t with arch := Arch.start (BitVec.ofNat 16 t.hdr.entry) t.arch.ref, started := true, wait := none, dcall := none, stall := false, access := none, cyc := 0, preempted := false, halted := false, stat := .ready, readyAt := s.tick, tries := 0 }
        ∧ u.ex.placeRecs.length = s.ex.placeRecs.length + 1 ∧ (∀ j, j ≠ i → u.task? j = s.task? j) ∧ u = { s with ex := { s.ex with tasks := u.ex.tasks, placeRecs := u.ex.placeRecs }, recd := u.recd, mem := u.mem } ∧ onlyRing s u))
      ∧ (t.stat ≠ .trapped → t.stat ≠ .stopped → Runs (exec (.taskStop i) s) (fun u => u.task? i = some { t with stat := .stopped, wait := none, dcall := none, stall := false, access := none, preempted := false } ∧ kvGet u.ex.running t.phys ≠ some i ∧ (∀ j, j ≠ i → u.task? j = s.task? j) ∧ u = { s with ex := { s.ex with tasks := u.ex.tasks, running := u.ex.running } })))
    ∧ (∀ c ∈ ([Instr.taskRestartCheckpoint i, .taskRestartEntry i] : List Instr),
        (s.task? i = none ∨ ∃ t, s.task? i = some t ∧ t.stat ≠ .trapped ∧ t.stat ≠ .stopped) → Runs (exec c s) (fun u => u.bit PLC_STATUS_CMD_REFUSED = true ∧ onlyFields s u [PLC_STATUS_CMD_REFUSED]))
    ∧ ((s.task? i = none ∨ ∃ t, s.task? i = some t ∧ (t.stat = .trapped ∨ t.stat = .stopped)) →
        Runs (exec (.taskStop i) s) (fun u => u.bit PLC_STATUS_CMD_REFUSED = true ∧ onlyFields s u [PLC_STATUS_CMD_REFUSED])))

/-- DCALL at its issue and its reply (R89, R92, R95). Where the spec leaves a reading open, the statement rests on the model's choice: log
entries 9, 17, 18. -/
def Obligations.Dcalls : Prop :=
  (∀ (p : Nat) (svc : BitVec 16) (s : State) (i : Nat) (t : Task), onEngine s p i t →
    s.replaying = false → ∀ e ∈ ([(Instr.dcallLog p, 1), (.dcallSetGet p, 2), (.dcallSetPut p, 3), (.dcallHeadRead p, 4), (.dcallHostEvent p, 5), (.dcallSegInfo p, 6), (.dcallUnknown p svc, svc.toNat)] : List (Instr × Nat)),
    (t.hdr.cls ≠ 0 → Runs (exec e.1 s) (fun u => (∃ c, t.cyc ≤ c ∧ u.task? i = some { t with arch := { t.arch with pc := t.arch.pc + 1 }, stat := .waiting, wait := none, dcall := some e.2, cyc := c, maxCyc := max t.maxCyc c })
        ∧ kvGet u.ex.running p = none ∧ (∀ j, j ≠ i → u.task? j = s.task? j) ∧ u = { s with ex := { s.ex with tasks := u.ex.tasks, running := u.ex.running }, recd := u.recd, mem := u.mem, freeCtr := u.freeCtr } ∧ onlyRing s u))
    ∧ (t.hdr.cls = 0 → Runs (exec e.1 s) (fun u => Trapped s u i t 0x06 t.arch.pc.toNat)))
    ∧ (∀ (s : State) (i : Nat) (t : Task) (err : Bool) (data : List Byte), i < 512 → s.task? i = some t → t.stat = .waiting → s.replaying = false →
    (t.dcall = some 1 → Runs (exec (.dcallReply i err data) s) (fun u => ∃ x, u.task? i = some x ∧ x.stat = .ready ∧ x.readyAt = s.tick ∧ x.dcall = none
        ∧ (∀ e : BitVec 5, x.arch.getW e = if e = 1 then 0 else t.arch.getW e) ∧ x = { t with stat := .ready, readyAt := x.readyAt, dcall := none, arch := { t.arch with w := x.arch.w } }
        ∧ (∀ j, j ≠ i → u.task? j = s.task? j) ∧ u = { s with ex := { s.ex with tasks := u.ex.tasks, log := (i, [t.arch.getW 1, t.arch.getW 2, t.arch.getW 3, t.arch.getW 4]) :: s.ex.log }, recd := u.recd, mem := u.mem } ∧ onlyRing s u))
    ∧ (∀ g, t.hdr.segs.find? (fun d => d.seg == (t.arch.getW 1).toNat) = some g → (t.dcall = some 6 → Runs (exec (.dcallReply i err data) s) (fun u => ∃ x, u.task? i = some x ∧ x.stat = .ready ∧ x.readyAt = s.tick ∧ x.dcall = none
        ∧ (∀ e : BitVec 5, x.arch.getW e = if e = 1 then 0 else if e = 2 then BitVec.ofNat 32 g.size else if e = 3 then BitVec.ofNat 32 ((kvGet t.segLoc (t.arch.getW 1).toNat).getD 0) else t.arch.getW e) ∧ x = { t with stat := .ready, readyAt := x.readyAt, dcall := none, arch := { t.arch with w := x.arch.w } }
        ∧ (∀ j, j ≠ i → u.task? j = s.task? j) ∧ u = { s with ex := { s.ex with tasks := u.ex.tasks, log := s.ex.log }, recd := u.recd, mem := u.mem } ∧ onlyRing s u)))
    ∧ (t.dcall = some 3 → s.upd.lock = true → Runs (exec (.dcallReply i err data) s) (fun u => ∃ x, u.task? i = some x ∧ x.stat = .ready ∧ x.readyAt = s.tick ∧ x.dcall = none
        ∧ (∀ e : BitVec 5, x.arch.getW e = if e = 1 then 4 else t.arch.getW e) ∧ x = { t with stat := .ready, readyAt := x.readyAt, dcall := none, arch := { t.arch with w := x.arch.w } }
        ∧ (∀ j, j ≠ i → u.task? j = s.task? j) ∧ u = { s with ex := { s.ex with tasks := u.ex.tasks, log := s.ex.log }, recd := u.recd, mem := u.mem } ∧ onlyRing s u))
    ∧ (∀ n off buf len : Nat, n = (t.arch.getW 1).toNat → off = (t.arch.getW 2).toNat → buf = (t.arch.getW 3).toNat → len = (t.arch.getW 4).toNat → n < 6 → off + len ≤ 2 ^ 16 → 1 ≤ len → len ≤ 256 →
      (∃ g, t.hdr.segs.find? (fun d => d.seg == buf / 2 ^ 28) = some g ∧ buf % 2 ^ 28 + len ≤ g.size ∧ g.ro = false) → (t.dcall = some 4 → s.bit (STNn_HD_STATUS_HREC_BUSY n) = true → Runs (exec (.dcallReply i err data) s) (fun u => ∃ x, u.task? i = some x ∧ x.stat = .ready ∧ x.readyAt = s.tick ∧ x.dcall = none
        ∧ (∀ e : BitVec 5, x.arch.getW e = if e = 1 then 3 else t.arch.getW e) ∧ x = { t with stat := .ready, readyAt := x.readyAt, dcall := none, arch := { t.arch with w := x.arch.w } }
        ∧ (∀ j, j ≠ i → u.task? j = s.task? j) ∧ u = { s with ex := { s.ex with tasks := u.ex.tasks, log := s.ex.log }, recd := u.recd, mem := u.mem } ∧ onlyRing s u))
      ∧ (t.dcall = some 4 → s.bit (STNn_HD_STATUS_HREC_BUSY n) = false → err = true → Runs (exec (.dcallReply i err data) s) (fun u => ∃ x, u.task? i = some x ∧ x.stat = .ready ∧ x.readyAt = s.tick ∧ x.dcall = none
        ∧ (∀ e : BitVec 5, x.arch.getW e = if e = 1 then 5 else t.arch.getW e) ∧ x = { t with stat := .ready, readyAt := x.readyAt, dcall := none, arch := { t.arch with w := x.arch.w } }
        ∧ (∀ j, j ≠ i → u.task? j = s.task? j) ∧ u = { s with ex := { s.ex with tasks := u.ex.tasks, log := s.ex.log }, recd := u.recd, mem := u.mem } ∧ onlyRing s u)))
    ∧ (t.dcall = some 5 → (s.bit HIF_CTRL_ENABLE = false ∨ s.evtFree < 8) → Runs (exec (.dcallReply i err data) s) (fun u => ∃ x, u.task? i = some x ∧ x.stat = .ready ∧ x.readyAt = s.tick ∧ x.dcall = none
        ∧ (∀ e : BitVec 5, x.arch.getW e = if e = 1 then 3 else t.arch.getW e) ∧ x = { t with stat := .ready, readyAt := x.readyAt, dcall := none, arch := { t.arch with w := x.arch.w } }
        ∧ (∀ j, j ≠ i → u.task? j = s.task? j) ∧ u = { s with ex := { s.ex with tasks := u.ex.tasks, log := s.ex.log }, recd := u.recd, mem := u.mem } ∧ onlyRing s u))
    ∧ (∀ svc, (svc = 0 ∨ 6 < svc) → (t.dcall = some svc → Runs (exec (.dcallReply i err data) s) (fun u => ∃ x, u.task? i = some x ∧ x.stat = .ready ∧ x.readyAt = s.tick ∧ x.dcall = none
        ∧ (∀ e : BitVec 5, x.arch.getW e = if e = 1 then 1 else t.arch.getW e) ∧ x = { t with stat := .ready, readyAt := x.readyAt, dcall := none, arch := { t.arch with w := x.arch.w } }
        ∧ (∀ j, j ≠ i → u.task? j = s.task? j) ∧ u = { s with ex := { s.ex with tasks := u.ex.tasks, log := s.ex.log }, recd := u.recd, mem := u.mem } ∧ onlyRing s u))))

/-- Period releases and dispatch (R101, R102, R105, R60, R104, R95). Where the spec leaves a reading open, the statement rests on the
model's choice: log entries 9, 17, 18, 39, 40. -/
def Obligations.ReleasesAndDispatch : Prop :=
  (∀ (s : State) (i k : Nat) (t : Task), i < 512 → s.task? i = some t → s.replaying = false →
    t.hdr.rel = .period → t.hdr.relParam ≠ 0 → t.stat = .idle → 0 ≤ (s.now - BitVec.ofNat 64 t.nextPeriod).toInt →
      (s.now - BitVec.ofNat 64 t.nextPeriod).toNat / t.hdr.relParam = k →
      Runs (exec (.periodRelease i) s) (fun u => (∃ x, u.task? i = some x ∧ x.stat = .ready ∧ x.readyAt = s.tick ∧ x.pending = none ∧ x.cyc = 0 ∧ x.hdr = t.hdr ∧ x.arch.ref = BitVec.ofNat 64 (t.nextPeriod + k * t.hdr.relParam)
        ∧ sameFlags x.arch = (false, false, false, false) ∧ (t.started = true → x.arch.t = t.arch.t ∧ x.arch.pc = t.arch.pc
          ∧ ∀ e : BitVec 5, x.arch.getW e = t.arch.getW e)
        ∧ (t.started = false → x.arch.t = (Arch.start 0 0).t ∧ x.arch.pc = BitVec.ofNat 16 t.hdr.entry ∧ ∀ e : BitVec 5, x.arch.getW e = 0)
        ∧ x.nextPeriod = t.nextPeriod + (k + 1) * t.hdr.relParam ∧ x.overrun = min 65535 (t.overrun + k)) ∧ (∀ j, j ≠ i → u.task? j = s.task? j)
        ∧ (k = 0 → u = { s with ex := { s.ex with tasks := u.ex.tasks }, recd := u.recd, mem := u.mem } ∧ onlyRing s u)
        ∧ (k ≠ 0 → u.bit PLC_STATUS_OVERRUN = true ∧ keepsFields s u [PLC_STATUS_OVERRUN] ∧ u.faultQ.length = s.faultQ.length + k)))
    ∧ (∀ (s : State) (i : Nat) (t : Task), i < 512 → s.task? i = some t → (s.now - BitVec.ofNat 64 t.nextPeriod).toInt < 0 → Runs (exec (.periodRelease i) s) (fun u => u = s))
    ∧ (∀ (s : State) (p i : Nat) (t : Task), p < 25 → s.fget (PLC_ENGp_STATE p) = 1 → kvGet s.ex.running p = none → s.task? i = some t → t.phys = p → t.stat = .ready →
      (∀ e ∈ s.ex.tasks, e.1 ≠ i → e.2.phys = p → e.2.stat = .ready → e.2.hdr.prio < t.hdr.prio ∨ (e.2.hdr.prio = t.hdr.prio ∧ (t.preempted = true ∧ e.2.preempted = false
          ∨ t.preempted = e.2.preempted ∧ (t.readyAt < e.2.readyAt ∨ (t.readyAt = e.2.readyAt ∧ i < e.1))))) → kvSorted s.ex.tasks = true →
      Runs (exec (.taskDispatch p) s) (fun u => kvGet u.ex.running p = some i ∧ (∀ q, q ≠ p → kvGet u.ex.running q = kvGet s.ex.running q)
        ∧ u.task? i = some { t with stat := .running, preempted := false } ∧ (∀ j, j ≠ i → u.task? j = s.task? j) ∧ u = { s with ex := { s.ex with tasks := u.ex.tasks, running := u.ex.running } }))
    ∧ (∀ (s : State) (p i j : Nat) (t x : Task), p < 25 → s.fget (PLC_ENGp_STATE p) = 1 → kvGet s.ex.running p = some j → s.task? j = some x → x.stat = .running → s.task? i = some t → t.phys = p → t.stat = .ready →
      (∀ e ∈ s.ex.tasks, e.1 ≠ i → e.2.phys = p → e.2.stat = .ready → e.2.hdr.prio < t.hdr.prio ∨ (e.2.hdr.prio = t.hdr.prio ∧ (t.preempted = true ∧ e.2.preempted = false
          ∨ t.preempted = e.2.preempted ∧ (t.readyAt < e.2.readyAt ∨ (t.readyAt = e.2.readyAt ∧ i < e.1))))) → kvSorted s.ex.tasks = true →
      (x.hdr.prio < t.hdr.prio → Runs (exec (.taskDispatch p) s) (fun u => kvGet u.ex.running p = some i
        ∧ u.task? i = some { t with stat := .running, preempted := false } ∧ u.task? j = some { x with stat := .ready, preempted := true }
        ∧ (∀ k, k ≠ i → k ≠ j → u.task? k = s.task? k) ∧ u = { s with ex := { s.ex with tasks := u.ex.tasks, running := u.ex.running } }))
      ∧ (t.hdr.prio ≤ x.hdr.prio → Runs (exec (.taskDispatch p) s) (fun u => u = s)))
    ∧ (∀ (s : State) (p : Nat), p < 25 → (∀ e ∈ s.ex.tasks, e.2.phys = p → e.2.stat ≠ .ready) → Runs (exec (.taskDispatch p) s) (fun u => u = s))

/-- IOR and IOW: the register read or written, and their traps (R10, R29, R64, R73, R92, R94). Where the spec leaves a reading open, the
statement rests on the model's choice: log entries 9, 17, 18. -/
def Obligations.RegisterAccess : Prop :=
  ∀ (p : Nat) (d a : BitVec 5) (imm : BitVec 16) (s : State) (i : Nat) (t : Task), onEngine s p i t →
    ∀ ad : Nat, ad = 0x2000000000 + (t.arch.getW a + imm.signExtend 32).toNat % 2 ^ 26 → s.replaying = false →
    (ad % 4 = 0 → ¬ (aonAddr ad = true ∧ t.hdr.cls = 0) →
      (s.regMapped ad = true → wideOf ad = none → Runs (exec (.ior p d a imm) s) (fun u => ∃ s1, onlyRecorder s s1 ∧ Wrote s1 u i t d (BitVec.ofNat 32 (s.liveWord ad)) (sameFlags t.arch) 12))
      ∧ (s.regMapped ad = false → Runs (exec (.ior p d a imm) s) (fun u => ∃ s1, onlyRecorder { s with faultQ := s.faultQ ++ [⟨0x013, 1, ad % 65536, 0⟩] } s1 ∧ Wrote s1 u i t d 0 (sameFlags t.arch) 12))
      ∧ (s.regMapped ad = true → (aonAddr ad = true → s.aonQ.length < 4) → Runs (exec (.iow p d a imm) s) (fun u => ∃ s1 s2, Retired s s1 i t { t.arch with pc := t.arch.pc + 1 } 12 ∧ onlyRecorder s1 s2
          ∧ u = s2.regWriteBy (some i) ad (t.arch.getW d).toNat))
      ∧ (s.regMapped ad = true → aonAddr ad = true → 4 ≤ s.aonQ.length → s.power.phase = .run → Runs (exec (.iow p d a imm) s) (fun u => u.aonQ = s.aonQ
          ∧ u.aonWait.getLast? = some (ad, (t.arch.getW d).toNat, some i) ∧ kvGet u.ex.running t.phys = none ∧ (∀ j, j ≠ i → u.task? j = s.task? j)
          ∧ (∃ x, u.task? i = some x ∧ x.stat = .waiting ∧ x.stall = true ∧ x.arch.pc = t.arch.pc + 1 ∧ (∀ e : BitVec 5, x.arch.getW e = t.arch.getW e)) ∧ sansEvent u = { sansEvent s with aonWait := u.aonWait } ∧ onlyRing s u))
      ∧ (s.regMapped ad = false → Runs (exec (.iow p d a imm) s) (fun u => ∃ s1, Retired s s1 i t { t.arch with pc := t.arch.pc + 1 } 12
          ∧ onlyRecorder { s1 with faultQ := s.faultQ ++ [⟨0x013, 1, ad % 65536, 0⟩] } u)))
    ∧ (∀ c ∈ ([Instr.ior p d a imm, .iow p d a imm] : List Instr), (ad % 4 ≠ 0 → Runs (exec c s) (fun u => Trapped s u i t 0x02 t.arch.pc.toNat))
        ∧ (ad % 4 = 0 → aonAddr ad = true → t.hdr.cls = 0 → Runs (exec c s) (fun u => Trapped s u i t 0x06 t.arch.pc.toNat)))

/-- Hand-off messages: sent, received, acknowledged (R22, R23, R24, R25, R45, R46). Where the spec leaves a reading open, the statement
rests on the model's choice: log entry 15. -/
def Obligations.Handoffs : Prop :=
  (∀ f : HoFrame, f.version < 256 → f.typ < 256 → f.from_ < 256 → f.to_ < 256 → f.epoch < 2 ^ 64 → f.hnum < 2 ^ 32 → f.seq < 2 ^ 64 → f.time < 2 ^ 64 → f.status < 256 →
    (hoBytes f).length = 46 ∧ hoParse (hoBytes f) = f)
    ∧ (∀ (s : State) (rcv : Nat), rcv < 4 →
    (s.ho.sendQ.length < 16 → rcv ≠ s.fget SYS_STRAPS_CTRL_NUM → ∀ h m, h = ((kvGet s.ho.lastHnum rcv).getD 0 + 1) % 2 ^ 32 →
      m = HoMsg.mk rcv h (s.fget SYS_HO_TX_SEQ_LO_VALUE + s.fget SYS_HO_TX_SEQ_HI_VALUE * 2 ^ 32)
        (s.fget SYS_HO_TX_TIME_LO_VALUE + s.fget SYS_HO_TX_TIME_HI_VALUE * 2 ^ 32) (s.ho.resyncNext.contains rcv) false 0 0 →
      ((∀ x ∈ s.ho.sendQ, x.rcv ≠ rcv) → Runs (exec (.handoffSend rcv) s) (fun u => u.ho.sendQ = s.ho.sendQ ++ [{ m with sent := true, lastSent := s.tick }]
          ∧ u.ho.sentFrames = (s.fget SYS_HANDOFF_PORT, s.hoEth ⟨1, 1, s.fget SYS_STRAPS_CTRL_NUM, rcv, s.ho.epoch, h, m.seq, m.time, m.resync, 0⟩) :: s.ho.sentFrames
          ∧ kvGet u.ho.lastHnum rcv = some h ∧ u = { s with ho := u.ho }))
      ∧ (∀ x rest, s.ho.sendQ.filter (fun y => y.rcv == rcv) = x :: rest → x.sent = true → Runs (exec (.handoffSend rcv) s) (fun u => u.ho.sendQ = s.ho.sendQ ++ [m]
          ∧ u.ho.sentFrames = s.ho.sentFrames ∧ kvGet u.ho.lastHnum rcv = some h ∧ u = { s with ho := u.ho })))
    ∧ (16 ≤ s.ho.sendQ.length ∨ rcv = s.fget SYS_STRAPS_CTRL_NUM → Runs (exec (.handoffSend rcv) s) (fun u => u.bit SYS_STATUS_HO_REFUSED = true ∧ onlyFields s u [SYS_STATUS_HO_REFUSED])))
    ∧ (∀ (s : State) (port : Nat) (e : EthFrame), port < 2 →
    (e.dst ≠ 0xFFFFFFFFFFFF ∨ e.etherType ≠ s.fget SYS_HANDOFF_ETHERTYPE → Runs (exec (.handoffFrameRx port e) s) (fun u => u = s) ∧ Runs (exec (.handoffAckRx e) s) (fun u => u = s))
    ∧ (∀ f : HoFrame, e.dst = 0xFFFFFFFFFFFF → e.etherType = s.fget SYS_HANDOFF_ETHERTYPE → 46 ≤ e.payload.length → f = hoParse e.payload →
    ((f.version ≠ 1 ∨ f.to_ ≠ s.fget SYS_STRAPS_CTRL_NUM) → Runs (exec (.handoffFrameRx port e) s) (fun u => u = s))
    ∧ (f.version = 1 → f.to_ = s.fget SYS_STRAPS_CTRL_NUM → f.from_ < 4 → f.typ = 1 → ∀ k, k = kvGet s.ho.kept f.from_ →
      ((∃ last, k = some (f.epoch, last) ∧ f.hnum = last + 1) ∨ ((∀ last, k ≠ some (f.epoch, last)) ∧ (f.hnum = 1 ∨ f.resync = true)) →
        (s.ho.rxQ.length < 16 → s.jrn.staged.length < 192 → Runs (exec (.handoffFrameRx port e) s) (fun u => u.ho.rxQ = s.ho.rxQ ++ [f] ∧ kvGet u.ho.kept f.from_ = some (f.epoch, f.hnum)
          ∧ (s.degraded = false → u.ho.owedAcks = s.ho.owedAcks ∧ u.ho.sentFrames = (port, s.hoEth ⟨1, 2, s.fget SYS_STRAPS_CTRL_NUM, f.from_, f.epoch, f.hnum, f.seq, f.time, false, 0⟩) :: s.ho.sentFrames)
          ∧ (s.degraded = true → u.ho.owedAcks = s.ho.owedAcks ++ [(s.jrn.jseq, port, f)] ∧ u.ho.sentFrames = s.ho.sentFrames)
          ∧ Staged s u 0x07 f.seq ∧ u.ho.sendQ = s.ho.sendQ ∧ sansEvent u = { sansEvent s with ho := u.ho, jrn := u.jrn } ∧ onlyRing s u))
        ∧ (16 ≤ s.ho.rxQ.length → Runs (exec (.handoffFrameRx port e) s) (fun u => u.bit SYS_HO_RX_LEVEL_RX_OVF = true ∧ keepsFields s u [SYS_HO_RX_LEVEL_RX_OVF] ∧ (∃ d, u.faultQ = s.faultQ ++ [⟨0x00F, 3, d, 0⟩]) ∧ u.ho = s.ho ∧ u.jrn = s.jrn ∧ sansEvent u = sansEvent s ∧ u.mem = s.mem)))
      ∧ (∀ last, k = some (f.epoch, last) → f.hnum ≤ last →
          (s.ackOwed f = false → Runs (exec (.handoffFrameRx port e) s) (fun u => u = { s with ho := { s.ho with sentFrames := (port, s.hoEth ⟨1, 2, s.fget SYS_STRAPS_CTRL_NUM, f.from_, f.epoch, f.hnum, f.seq, f.time, false, 1⟩) :: s.ho.sentFrames } }))
          ∧ (s.ackOwed f = true → Runs (exec (.handoffFrameRx port e) s) (fun u => u = s)))
      ∧ (∀ last, k = some (f.epoch, last) → last + 1 < f.hnum → Runs (exec (.handoffFrameRx port e) s) (fun u => u = { s with ho := { s.ho with sentFrames := (port, s.hoEth ⟨1, 2, s.fget SYS_STRAPS_CTRL_NUM, f.from_, f.epoch, f.hnum, f.seq, f.time, false, 2⟩) :: s.ho.sentFrames }, faultQ := s.faultQ ++ [⟨0x00F, 1, f.from_, 1⟩] }))
      ∧ ((∀ last, k ≠ some (f.epoch, last)) → f.hnum ≠ 1 → f.resync = false → Runs (exec (.handoffFrameRx port e) s) (fun u => u = { s with ho := { s.ho with sentFrames := (port, s.hoEth ⟨1, 2, s.fget SYS_STRAPS_CTRL_NUM, f.from_, f.epoch, f.hnum, f.seq, f.time, false, 3⟩) :: s.ho.sentFrames } })))
    ∧ (∀ m : HoMsg, s.ho.sendQ.find? (fun x => x.rcv == m.rcv) = some m → m.sent = true → m.rcv < 4 → f.version = 1 → f.typ = 2 → f.to_ = s.fget SYS_STRAPS_CTRL_NUM → f.from_ = m.rcv → f.epoch = s.ho.epoch →
      f.hnum = m.hnum → f.seq = m.seq → f.time = m.time → f.status = 0 ∨ f.status = 1 → Runs (exec (.handoffAckRx e) s) (fun u =>
        u.ho.sendQ.map (fun m : HoMsg => (m.rcv, m.hnum, m.seq, m.time)) = (s.ho.sendQ.filter (fun x => !(x.rcv == m.rcv && x.hnum == m.hnum))).map (fun m : HoMsg => (m.rcv, m.hnum, m.seq, m.time))
        ∧ u.fget SYS_HO_TX_ACK_LO_SEQ = m.seq % 2 ^ 32 ∧ u.fget SYS_HO_TX_ACK_HI_SEQ = m.seq / 2 ^ 32 % 2 ^ 32
        ∧ keepsFields s u [SYS_HO_TX_ACK_LO_SEQ, SYS_HO_TX_ACK_HI_SEQ, PLC_STATUS_OVERRUN] ∧ sansEvent u = { sansEvent s with ho := u.ho } ∧ onlyRing s u))))
    ∧ (∀ (s : State) (x : HoFrame) (rest : List HoFrame), s.ho.rxQ = x :: rest → Runs (exec .hoRxRead s) (fun u => u.ho.rxQ = rest ∧ kvGet u.snap 0x20000000E0 = some (2 ^ 31 + (if x.resync then 256 else 0) + x.from_ % 4)
        ∧ kvGet u.snap 0x20000000E4 = some (x.seq % 2 ^ 32) ∧ kvGet u.snap 0x20000000E8 = some (x.seq / 2 ^ 32 % 2 ^ 32)
        ∧ kvGet u.snap 0x20000000EC = some (x.time % 2 ^ 32) ∧ kvGet u.snap 0x20000000F0 = some (x.time / 2 ^ 32 % 2 ^ 32)
        ∧ u = { s with ho := { s.ho with rxQ := rest }, snap := u.snap }))
    ∧ (∀ (s : State) (m : HoMsg), s.ho.sendQ.find? (fun x => x.rcv == m.rcv) = some m → m.sent = true → m.rcv < 4 →
    (m.lastSent + 250000 ≤ s.tick → m.resends < 20 → Runs (exec (.handoffResend m.rcv) s) (fun u =>
        u.ho.sentFrames = (s.fget SYS_HANDOFF_PORT, s.hoEth ⟨1, 1, s.fget SYS_STRAPS_CTRL_NUM, m.rcv, s.ho.epoch, m.hnum, m.seq, m.time, m.resync, 0⟩) :: s.ho.sentFrames
        ∧ u.ho.sendQ.find? (fun x => x.rcv == m.rcv) = some { m with resends := m.resends + 1, lastSent := s.tick } ∧ u.ho.sendQ.map (fun m : HoMsg => (m.rcv, m.hnum, m.seq, m.time)) = s.ho.sendQ.map (fun m : HoMsg => (m.rcv, m.hnum, m.seq, m.time)) ∧ u = { s with ho := u.ho }))
    ∧ (m.lastSent + 250000 ≤ s.tick → m.resends = 20 → Runs (exec (.handoffLost m.rcv) s) (fun u =>
        u.ho.sendQ.map (fun m : HoMsg => (m.rcv, m.hnum, m.seq, m.time)) = (s.ho.sendQ.filter (fun x => !(x.rcv == m.rcv && x.hnum == m.hnum))).map (fun m : HoMsg => (m.rcv, m.hnum, m.seq, m.time))
        ∧ u.fget SYS_HO_TX_STATUS_LOST = min (2 ^ SYS_HO_TX_STATUS_LOST.width - 1) (s.fget SYS_HO_TX_STATUS_LOST + 1)
        ∧ (∃ l, u.faultQ = s.faultQ ++ ⟨0x00F, 2, m.rcv, 1⟩ :: l) ∧ keepsFields s u [SYS_HO_TX_STATUS_LOST, PLC_STATUS_OVERRUN] ∧ sansEvent u = { sansEvent s with ho := u.ho } ∧ onlyRing s u)))

/-- RUN_START and RUN_END (R30, R33, R126, R127, R483). Where the spec leaves a reading open, the statement rests on the model's choice:
log entry 24. -/
def Obligations.RunsOpenAndClose : Prop :=
  ∀ (s : State) (h : CmdHead) (seq : Nat), seq = s.cmdNum 8 8 → ∀ lo : Bool, lo = (s.led.sheets.head?.any (fun sh => decide (sh.seq + 2 ^ 32 - 4096 ≤ seq))) →
    (hostCmd s 0x0001 h → s.bit LEDG_STATUS_RUN_OPEN = false → s.led.accepted ≤ seq → lo = false → h.flagsOk = true → h.argsOk = true → s.bit PLC_STATUS_PLACED = true → s.jrn.staged.length < 192 →
      Runs (exec (.runStart h seq) s) (fun u => u.bit LEDG_STATUS_RUN_OPEN = true ∧ u.bit LEDG_STATUS_RECOVERY_HOLD = false ∧ u.led.nextSeq = seq ∧ u.led.sheets = s.led.sheets
        ∧ Staged s u 0x02 seq ∧ Answered s u h.tag 0x0001 0 0 [] ∧ onlyHost s u))
    ∧ (∀ st d : Nat, hostCmd s 0x0001 h → (st, d) = (if s.bit LEDG_STATUS_RUN_OPEN then (8, 0) else if seq < s.led.accepted ∨ lo = true then (9, 0) else if h.flagsOk = false ∨ h.argsOk = false then (12, 0)
          else if s.bit PLC_STATUS_PLACED = false then (15, s.fget PLC_PLACE_ERR_CODE) else (0, 0)) → st ≠ 0 →
        Runs (exec (.runStart h seq) s) (fun u => Answered s u h.tag 0x0001 st d [] ∧ u.led = s.led ∧ u.jrn = s.jrn ∧ onlyHost s u))
    ∧ (hostCmd s 0x0002 h → s.bit LEDG_STATUS_RUN_OPEN = true → h.flagsOk = true → h.argsOk = true → s.jrn.staged.length < 192 →
      Runs (exec (.runEnd h) s) (fun u => u.bit LEDG_STATUS_RUN_OPEN = false ∧ u.led.nextSeq = s.led.nextSeq ∧ u.led.sheets = s.led.sheets ∧ Staged s u 0x03 s.led.nextSeq ∧ Answered s u h.tag 0x0002 0 0 [] ∧ onlyHost s u))
    ∧ (hostCmd s 0x0002 h → s.bit LEDG_STATUS_RUN_OPEN = false → Runs (exec (.runEnd h) s) (fun u => Answered s u h.tag 0x0002 3 0 [] ∧ u.led = s.led ∧ u.jrn = s.jrn ∧ onlyHost s u))

/-- SHEET_SUBMIT outside R31 changes no ledger state (R31). -/
def Obligations.SubmissionRejected : Prop :=
  ∀ (s : State) (h : CmdHead) (seq : Nat) (x : SheetSlot), hostCmd s 0x0003 h → s.cmdFlags.testBit 0 = false → seq = s.cmdNum 8 8 → x = s.slotAt seq →
    ∀ st : Nat, st = (if s.led.nextSeq < seq then 1 else if seq < s.led.nextSeq then 2 else if s.bit LEDG_STATUS_RUN_OPEN = false then 3 else if 4096 ≤ s.led.sheets.length then 4 else 0) → st ≠ 0 →
      Runs (exec (.sheetSubmit h seq x) s) (fun u => Answered s u h.tag 0x0003 st 0 [] ∧ u.led = s.led ∧ u.jrn = s.jrn ∧ onlyHost s u)

/-- SHEET_SUBMIT, RELOAD and SHEET_WITHDRAW (R31, R36, R41, R45, R126, R127, R128, R129, R130). Where the spec leaves a reading open, the
statement rests on the model's choice: log entries 23, 24. -/
def Obligations.SheetsSubmittedAndWithdrawn : Prop :=
  ∀ (s : State) (h : CmdHead) (seq : Nat) (x : SheetSlot), seq = s.cmdNum 8 8 → x = s.slotAt seq → h.flagsOk = true → h.argsOk = true → s.degraded = false → s.bit SYS_STATUS_BACKUP_OK = true → s.jrn.retired.length ≤ 32 →
    s.jrn.staged.length < 192 →
    (hostCmd s 0x0003 h → s.cmdFlags.testBit 0 = false → seq = s.led.nextSeq → s.bit LEDG_STATUS_RUN_OPEN = true → s.led.sheets.length < 4096 → s.sheet? seq = none → s.slotErr seq x = none →
      Runs (exec (.sheetSubmit h seq x) s) (fun u => (∃ sh, u.sheet? seq = some sh ∧ sh.st = .submitted ∧ sh.reqPitch = x.pitch ∧ sh.hostTag = x.hostTag ∧ sh.planes.map (fun p => p.entry) = x.planes ∧ sh.locked = false)
        ∧ u.led.nextSeq = seq + 1 ∧ u.led.accepted = seq + 1 ∧ (∀ q, q ≠ seq → u.sheet? q = s.sheet? q) ∧ Staged s u 0x01 seq ∧ Answered s u h.tag 0x0003 0 0 [] ∧ onlySheets s u ∧ keepsFields s u hostFields))
    ∧ (∀ sh, hostCmd s 0x0003 h → s.cmdFlags.testBit 0 = true → s.sheet? seq = some sh → sh.st = .submitted → s.slotErr seq x = none → Runs (exec (.sheetReload h seq x) s) (fun u =>
        (∃ y, u.sheet? seq = some y ∧ y.st = .submitted ∧ y.reqPitch = x.pitch ∧ y.hostTag = x.hostTag ∧ y.planes.map (fun p => p.entry) = x.planes) ∧ (∀ q, q ≠ seq → u.sheet? q = s.sheet? q) ∧ u.jrn = s.jrn ∧ Answered s u h.tag 0x0003 0 0 [] ∧ onlySheets s u ∧ keepsFields s u hostFields))
    ∧ (∀ sh, hostCmd s 0x0004 h → s.sheet? seq = some sh → sh.st = .submitted ∨ (sh.st = .admitted ∧ sh.locked = false) → Runs (exec (.sheetWithdraw h seq) s) (fun u =>
        (∃ y, u.sheet? seq = some y ∧ y.st = .withdrawn) ∧ (∀ q, q ≠ seq → u.sheet? q = s.sheet? q) ∧ Staged s u 0x01 seq ∧ Answered s u h.tag 0x0004 0 0 [] ∧ onlySheets s u ∧ keepsFields s u hostFields))
    ∧ (∀ st : Nat, hostCmd s 0x0004 h → (∃ sh, s.sheet? seq = some sh ∧ ((st = 5 ∧ (sh.st.inFlight = true ∨ (sh.st = .admitted ∧ sh.locked = true))) ∨ (st = 7 ∧ sh.st.isFinal = true))) ∨ (st = 6 ∧ s.sheet? seq = none) →
        Runs (exec (.sheetWithdraw h seq) s) (fun u => Answered s u h.tag 0x0004 st 0 [] ∧ u.led = s.led ∧ u.jrn = s.jrn ∧ onlyHost s u))

/-- Command and event rings, and the status mirror (R120, R123, R124, R134, R138, R160). Where the spec leaves a reading open, the
statement rests on the model's choice: log entries 21, 23, 27, 46, 47. -/
def Obligations.RingsAndMirror : Prop :=
  (∀ (s : State) (x old head : Nat), old = s.fget HIF_CMD_TAIL_CMD_TAIL → head = s.fget HIF_CMD_HEAD_CMD_HEAD →
    ((x % 1024 + 1024 - old) % 1024 ≤ (head + 2047 - old) % 1024 → Runs (exec (.commandDoorbell x) s) (fun u => u.fget HIF_CMD_TAIL_CMD_TAIL = x % 1024 ∧ onlyFields s u [HIF_CMD_TAIL_CMD_TAIL]))
    ∧ ((head + 2047 - old) % 1024 < (x % 1024 + 1024 - old) % 1024 → Runs (exec (.commandDoorbell x) s) (fun u => u = s))
    ∧ (∀ adv : Nat, adv = (x % 4096 + 4096 - s.fget HIF_EVT_HEAD_EVT_HEAD) % 4096 →
        (adv ≤ s.host.events.length → s.host.held = [] → s.host.owed = none → Runs (exec (.eventHeadWrite x) s) (fun u => u.fget HIF_EVT_HEAD_EVT_HEAD = x % 4096 ∧ keepsFields s u [HIF_EVT_HEAD_EVT_HEAD]
          ∧ sansFields u = { sansFields s with host := { s.host with events := s.host.events.drop adv } }))
        ∧ (s.host.events.length < adv → Runs (exec (.eventHeadWrite x) s) (fun u => u = s)))
    ∧ (∀ t, s.host.vec0At = some t → s.host.vec0Due = true → t + 250 * s.fget HIF_IRQ_HOLDOFF_HOLDOFF ≤ s.tick → s.bit HIF_CTRL_IRQ_EN = true →
        Runs (exec .msixHoldoffEnd s) (fun u => Signalled s u 0 ∧ u.host.vec0Due = false ∧ u.host.vec0At = some s.tick
          ∧ u = { s with host := { s.host with msix := u.host.msix, msgs := u.host.msgs, pend := u.host.pend, vec0At := some s.tick, vec0Due := false } })))
    ∧ (∀ s : State, Runs (exec .statusMirrorRewrite s) (fun u => u.host.mirror.gen = (s.host.mirror.gen + 2) % 2 ^ 32
    ∧ u.host.mirror.words.take 10 = [s.ledgStatus, s.ledgLimiter, s.ledgCount, s.led.nextSeq % 2 ^ 32, s.led.nextSeq / 2 ^ 32 % 2 ^ 32, s.led.ack % 2 ^ 32, s.led.ack / 2 ^ 32 % 2 ^ 32,
        s.fget LEDG_EFF_PITCH_EFF_PITCH, s.fget FLT_STATUS_SAFE + 2 * s.fget FLT_STATUS_B_PENDING, s.fget THM_TEMP_TEMP]
    ∧ (u.host.mirror.words.drop 11).take 3 = [s.timeFx / 2 ^ 24 / 1000000000 % 2 ^ 32, s.timeFx / 2 ^ 24 / 1000000000 / 2 ^ 32 % 2 ^ 16, s.timeFx / 2 ^ 24 % 1000000000]
    ∧ (s.power.phase = .run → u.host.mirror.words.drop 15 = [(s.slot s.runSlot).version, if s.runSlot then 1 else 0])
    ∧ (s.bit HIF_CTRL_IRQ_EN = true → s.host.mirror.words.take 9 ≠ u.host.mirror.words.take 9 → Signalled s u 2)
    ∧ (s.bit HIF_CTRL_IRQ_EN = false ∨ s.host.mirror.words.take 9 = u.host.mirror.words.take 9 → u.host.msix = s.host.msix ∧ u.host.msgs = s.host.msgs ∧ u.host.pend = s.host.pend)
    ∧ (∀ w, hifBase + 0x1000 ≤ w → w < hifBase + 0x1048 → w % 4 = 0 → w ∉ u.mem.sramBad)
    ∧ u = { s with host := { s.host with mirror := u.host.mirror, msix := u.host.msix, msgs := u.host.msgs, pend := u.host.pend }, mem := u.mem } ∧ onlyBarWords s u))

/-- ENGINE_CALL, STATUS_QUERY and acknowledgements (R101, R126, R127, R32, R125, R135). Where the spec leaves a reading open, the
statement rests on the model's choice: log entries 1, 23, 24, 47. -/
def Obligations.HostQueries : Prop :=
  (∀ (s : State) (h : CmdHead) (i w1 w2 w3 w4 : Nat), hostCmd s 0x0006 h → i = s.cmdNum 8 2 → w1 = s.cmdNum 12 4 → w2 = s.cmdNum 16 4 → w3 = s.cmdNum 20 4 → w4 = s.cmdNum 24 4 → h.flagsOk = true → h.argsOk = true → s.replaying = false →
    (∀ t, s.task? i = some t → t.hdr.rel = .call → t.pending = none → ∀ r, r = Release.mk s.now [BitVec.ofNat 32 w1, BitVec.ofNat 32 w2, BitVec.ofNat 32 w3, BitVec.ofNat 32 w4] →
      (t.stat = .idle → Runs (exec (.engineCall h i w1 w2 w3 w4) s) (fun u => (∃ x, u.task? i = some x ∧ x.stat = .ready ∧ x.arch.ref = s.now ∧ x.inForce = r
          ∧ x.arch.getW 1 = BitVec.ofNat 32 w1 ∧ x.arch.getW 2 = BitVec.ofNat 32 w2 ∧ x.arch.getW 3 = BitVec.ofNat 32 w3 ∧ x.arch.getW 4 = BitVec.ofNat 32 w4)
          ∧ (∀ j, j ≠ i → u.task? j = s.task? j) ∧ Answered s u h.tag 0x0006 0 0 [] ∧ u.led = s.led ∧ u.jrn = s.jrn ∧ onlyHost s u))
      ∧ (t.stat = .ready ∨ t.stat = .running ∨ t.stat = .waiting → Runs (exec (.engineCall h i w1 w2 w3 w4) s) (fun u => u.task? i = some { t with pending := some r }
          ∧ (∀ j, j ≠ i → u.task? j = s.task? j) ∧ Answered s u h.tag 0x0006 0 0 [] ∧ u.led = s.led ∧ u.jrn = s.jrn ∧ onlyHost s u)))
    ∧ (∀ st d : Nat, ((st, d) = (10, 0) ∧ (∀ t, s.task? i = some t → t.hdr.rel ≠ .call))
        ∨ (∃ t, s.task? i = some t ∧ t.hdr.rel = .call ∧ (((st, d) = (11, 1) ∧ t.pending ≠ none) ∨ ((st, d) = (11, 2) ∧ t.pending = none ∧ (t.stat = .stopped ∨ (t.stat = .trapped ∧ (t.hdr.restart = false ∨ 3 ≤ t.tries)))))) →
        Runs (exec (.engineCall h i w1 w2 w3 w4) s) (fun u => Answered s u h.tag 0x0006 st d [] ∧ u.ex = s.ex ∧ u.led = s.led ∧ u.jrn = s.jrn ∧ onlyHost s u)))
    ∧ (∀ (s : State) (h : CmdHead), hostCmd s 0x0005 h → h.flagsOk = true → h.argsOk = true →
    (s.cmdFlags.testBit 1 = false → Memory.wf s.host.bar = true → Runs (exec (.statusQuery h) s) (fun u => Answered s u h.tag 0x0005 0 0 [s.led.nextSeq, s.led.ack, s.ledgCount, s.ledgLimiter] ∧ u.led = s.led ∧ u.jrn = s.jrn ∧ onlyHost s u
        ∧ memRead u.host.bar (0x20000 + 64 * s.fget HIF_EVT_TAIL_EVT_TAIL) 64 = [1, 0, 0, 0] ++ natToBytes ((s.host.eseq + 1) % 2 ^ 32) 4 ++ natToBytes h.tag 4 ++ [5, 0, 0, 0, 0, 0, 0, 0]
            ++ natToBytes s.led.nextSeq 8 ++ natToBytes s.led.ack 8 ++ natToBytes s.ledgCount 4 ++ natToBytes s.ledgLimiter 4 ++ List.replicate 20 0))
    ∧ (s.cmdFlags.testBit 1 = true → ∀ m k n : Nat, n = s.cmdNum 8 8 → m = (((s.led.sheets.filter (fun sh => !sh.st.isFinal)).head?).map (fun sh => sh.seq)).getD s.led.nextSeq → 1 ≤ m → k = min n (m - 1) → s.jrn.compact = none → s.jrn.staged.length < 192 →
        Runs (exec (.hostAcknowledge h n) s) (fun u => u.led.sheets = s.led.sheets.filter (fun sh => !(sh.st.isFinal && decide (sh.seq ≤ k))) ∧ u.led.ack = max s.led.ack k
          ∧ u.led.nextSeq = s.led.nextSeq ∧ (s.led.ack < k → Staged s u 0x04 k) ∧ (∃ c l, Answered s u h.tag 0x0005 0 0 [s.led.nextSeq, max s.led.ack k, c, l]) ∧ onlyHost s u)))
    ∧ (∀ (s : State) (h : CmdHead), h ≠ s.cmdHead → ∀ (i w1 w2 w3 w4 addr len tok off : Nat) (x : SheetSlot) (err : Bool) (img : List Byte),
    ∀ c ∈ ([.runStart h i, .runEnd h, .sheetSubmit h i x, .sheetReload h i x, .sheetWithdraw h i, .statusQuery h, .hostAcknowledge h i, .engineCall h i w1 w2 w3 w4, .updateStage h addr len tok err img,
      .updateActivate h, .updateConfirm h, .updateRevert h, .recordExport h addr len off err, .unknownCmd h i] : List Instr), Runs (exec c s) (fun u => u = s))

/-- A RESYNC series: its start at ENABLE, its RESYNC event, and its SHEET_STATE events in sequence order (R122, R135, R136, R137). Where
the spec leaves a reading open, the statement rests on the model's choice: log entries 21, 23, 27. -/
def Obligations.ResyncSeries : Prop :=
  ∀ s : State,
    (s.bit HIF_CTRL_ENABLE = false → s.host.series = none → s.host.held = [] → s.host.owed = none → Runs (exec .hifEnable s) (fun u => u.bit HIF_CTRL_ENABLE = true ∧ u.bit HIF_STATUS_RESYNC_PENDING = true
        ∧ keepsFields s u [HIF_CTRL_ENABLE, HIF_STATUS_RESYNC_PENDING] ∧ sansFields u = { sansFields s with host := { s.host with series := some ⟨3, false, []⟩ } }))
    ∧ (∀ c l, s.host.series = some ⟨c, false, l⟩ → s.bit HIF_CTRL_ENABLE = true → 16 ≤ s.evtFree → s.power.phase = .run →
        (s.led.sheets ≠ [] → Runs (exec .resync s) (fun u =>
          u.host.events = s.host.events ++ [((s.host.eseq + 1) % 2 ^ 32, .resync s.led.sheets.length c)] ∧ u.host.series = some ⟨c, true, s.led.sheets.map (fun sh => sh.seq)⟩
          ∧ keepsFields s u [HIF_EVT_TAIL_EVT_TAIL] ∧ sansFields u = { sansFields s with host := u.host, mem := u.mem } ∧ onlyBarWords s u))
        ∧ (s.led.sheets = [] → s.host.repeatAfter = false → s.host.nextSeries = none → s.led.heldAcks = [] → Runs (exec .resync s) (fun u =>
          u.host.events = s.host.events ++ [((s.host.eseq + 1) % 2 ^ 32, .resync 0 c)] ∧ u.host.series = none ∧ u.bit HIF_STATUS_RESYNC_PENDING = false
          ∧ keepsFields s u [HIF_EVT_TAIL_EVT_TAIL, HIF_STATUS_RESYNC_PENDING] ∧ sansFields u = { sansFields s with host := u.host, mem := u.mem } ∧ onlyBarWords s u)))
    ∧ (∀ c q rest sh r, s.host.series = some ⟨c, true, q :: rest⟩ → s.sheet? q = some sh → (sh.toldRec = some r ∨ (sh.toldRec = none ∧ sh.lastRec = some r)) → s.bit HIF_CTRL_ENABLE = true → 8 < s.evtFree →
        ∀ e, e = HostEvent.sheetState r.seq r.st r.reason r.limit r.time r.commitPos r.effPitch r.blank r.detail sh.hostTag true →
        (rest ≠ [] → Runs (exec .resyncSheetState s) (fun u => u.host.events = s.host.events ++ [((s.host.eseq + 1) % 2 ^ 32, e)] ∧ u.host.series = some ⟨c, true, rest⟩
          ∧ keepsFields s u [HIF_EVT_TAIL_EVT_TAIL] ∧ sansFields u = { sansFields s with host := u.host, mem := u.mem } ∧ onlyBarWords s u))
        ∧ (rest = [] → s.host.repeatAfter = false → s.host.nextSeries = none → s.led.heldAcks = [] → Runs (exec .resyncSheetState s) (fun u =>
          u.host.events = s.host.events ++ [((s.host.eseq + 1) % 2 ^ 32, e)] ∧ u.host.series = none ∧ u.bit HIF_STATUS_RESYNC_PENDING = false
          ∧ keepsFields s u [HIF_EVT_TAIL_EVT_TAIL, HIF_STATUS_RESYNC_PENDING] ∧ sansFields u = { sansFields s with host := u.host, mem := u.mem } ∧ onlyBarWords s u)))

/-- LINK_DOWN, HOT_RESET, FUNCTION_LEVEL_RESET, PCIE_PERST, D3HOT_ENTRY and BUS_MASTER_ENABLE (R118, R119, R122, R133, R137, R386). Where
the spec leaves a reading open, the statement rests on the model's choice: log entries 21, 23, 27, 46. -/
def Obligations.HostInterfaceResets : Prop :=
  ∀ s : State,
    Runs (exec .linkDown s) (fun u => HostReset s u PCIE_STATUS_LINK_DOWN_SEEN ∧ u.bit PCIE_STATUS_LINK_UP = false)
    ∧ Runs (exec .pciePerst s) (fun u => HostReset s u PCIE_STATUS_LINK_DOWN_SEEN ∧ u.bit PCIE_STATUS_LINK_UP = false)
    ∧ Runs (exec .hotReset s) (fun u => HostReset s u PCIE_STATUS_HOT_RESET_SEEN ∧ u.bit PCIE_STATUS_LINK_UP = s.bit PCIE_STATUS_LINK_UP)
    ∧ Runs (exec .functionLevelReset s) (fun u => HostReset s u PCIE_STATUS_FLR_SEEN ∧ u.bit PCIE_STATUS_LINK_UP = s.bit PCIE_STATUS_LINK_UP)
    ∧ Runs (exec .d3hotEntry s) (fun u => u.bit PCIE_STATUS_D3HOT = true ∧ keepsFields s u [PCIE_STATUS_D3HOT] ∧ (∀ n, 8 ≤ n → kvGet u.dma n = kvGet s.dma n) ∧ (∀ n c, n < 8 → kvGet u.dma n = some c → c.plane = none)
        ∧ u.led.sheets.map (fun sh => (sh.seq, sh.st)) = s.led.sheets.map (fun sh => (sh.seq, sh.st)) ∧ u = { s with fields := u.fields, dma := u.dma, led := { s.led with sheets := u.led.sheets } })
    ∧ (s.bit PCIE_CTRL_LINK_EN = true → Runs (exec .busMasterEnable s) (fun u => u.bit PCIE_STATUS_BME = true ∧ u.bit PCIE_STATUS_LINK_UP = true ∧ u.bit PCIE_STATUS_D3HOT = false
        ∧ (∀ n, 8 ≤ n → kvGet u.dma n = kvGet s.dma n)
        ∧ keepsFields s u ([PCIE_STATUS_BME, PCIE_STATUS_LINK_UP, PCIE_STATUS_D3HOT, PCIE_STATUS_SPEED, PCIE_STATUS_WIDTH, SYS_CLK_LOCK] ++ (List.range 8).map DMAn_STATUS_HALTED)
        ∧ sansFields u = { sansFields s with freeCtr := u.freeCtr, host := { s.host with cfg := u.host.cfg, msgs := u.host.msgs, pend := u.host.pend }, dma := u.dma }))
    ∧ (s.bit PCIE_CTRL_LINK_EN = false → Runs (exec .busMasterEnable s) (fun u => u = s))

/-- Update commands, exports and unknown opcodes (R127, R433, R435, R437, R438, R439, R126, R449). Where the spec leaves a reading open,
the statement rests on the model's choice: log entries 21, 27. -/
def Obligations.UpdateAndExport : Prop :=
  (∀ (s : State) (h : CmdHead) (b : Bool) (run other : Slot), h.flagsOk = true → h.argsOk = true → s.upd.erasing = false → b = s.bit UPD_STATUS_RUN_SLOT → run = s.slot b → other = s.slot (!b) →
    (∀ (addr len token : Nat) (img : List Byte), hostCmd s 0x0010 h → addr = s.cmdNum 8 8 → len = s.cmdNum 16 4 → token = s.cmdNum 20 16 → s.hostReach = true → s.bit SYS_STATUS_BACKUP_OK = true → s.upd.lock = false → run.st ≠ 2 → imgMin img ≤ run.schema → run.schema ≤ imgSchema img → s.planErr (imgOnly img) = none →
      Runs (exec (.updateStage h addr len token false img) s) (fun u => u.slot b = run ∧ u.ex = s.ex ∧ u.led = s.led ∧ u.jrn = s.jrn ∧ match imageErr img len with
        | none => (u.slot (!b)).st = 1 ∧ (u.slot (!b)).version = imgVersion img ∧ (u.slot (!b)).image = imgOnly img ∧ Answered s u h.tag 0x0010 0 0 []
        | some d => (u.slot (!b)).st = 0 ∧ Answered s u h.tag 0x0010 16 d []))
    ∧ (hostCmd s 0x0011 h → s.motion = false → s.bit SYS_STATUS_BACKUP_OK = true → s.upd.lock = false → other.st = 1 → s.planErr other.image = none →
      Runs (exec (.updateActivate h) s) (fun u => (u.slot (!b)).st = 2 ∧ u.upd.boot = (if b then 0 else 1) ∧ u.bit UPD_STATUS_RUN_SLOT = !b ∧ u.slot b = run ∧ u.ex.chans = []
        ∧ (∀ k, k < 8 → u.bit (DMAn_CTRL_ENABLE (8 + k)) = false) ∧ Answered s u h.tag 0x0011 0 0 [] ∧ u.led = s.led ∧ u.jrn = s.jrn))
    ∧ (hostCmd s 0x0012 h → run.st = 2 → Runs (exec (.updateConfirm h) s) (fun u => (u.slot b).st = 3 ∧ (u.slot (!b)).st = (if other.st = 0 then 0 else 4) ∧ (u.slot (!b)).area = none ∧ u.bit UPD_STATUS_RUN_SLOT = b
        ∧ Answered s u h.tag 0x0012 0 0 [] ∧ u.ex = s.ex ∧ u.led = s.led ∧ u.jrn = s.jrn))
    ∧ (hostCmd s 0x0013 h → s.motion = false → s.bit SYS_STATUS_BACKUP_OK = true → s.upd.lock = false → run.st = 2 → s.planErr other.image = none →
      Runs (exec (.updateRevert h) s) (fun u => (u.slot b).st = 0 ∧ u.upd.boot = (if b then 0 else 1) ∧ u.bit UPD_STATUS_RUN_SLOT = !b ∧ u.slot (!b) = other ∧ u.ex.chans = [] ∧ Answered s u h.tag 0x0013 0 0 [] ∧ u.led = s.led ∧ u.jrn = s.jrn))
    ∧ (∀ (d : Nat) (err : Bool) (img : List Byte), ∀ c ∈ ([(Instr.updateStage h (s.cmdNum 8 8) (s.cmdNum 16 4) (s.cmdNum 20 16) err img, 0x0010, if s.bit SYS_STATUS_BACKUP_OK = false then 2 else if s.upd.lock then 3 else if run.st = 2 then 9 else 0),
          (.updateActivate h, 0x0011, if s.motion then 1 else if s.bit SYS_STATUS_BACKUP_OK = false then 2 else if s.upd.lock then 3 else if other.st ≠ 1 then 4 else if s.planErr other.image ≠ none then 6 else 0),
          (.updateConfirm h, 0x0012, if run.st ≠ 2 then 5 else 0),
          (.updateRevert h, 0x0013, if s.motion then 1 else if s.bit SYS_STATUS_BACKUP_OK = false then 2 else if s.upd.lock then 3 else if run.st ≠ 2 then 5 else if s.planErr other.image ≠ none then 6 else 0)] :
            List (Instr × Nat × Nat)), hostCmd s c.2.1 h → d = c.2.2 → d ≠ 0 → Runs (exec c.1 s) (fun u => Answered s u h.tag c.2.1 15 d [] ∧ u.upd = s.upd ∧ u.ex = s.ex ∧ u.led = s.led ∧ u.jrn = s.jrn)))
    ∧ (∀ (s : State) (h : CmdHead) (addr len off : Nat), addr = s.cmdNum 8 8 → len = s.cmdNum 16 4 → off = s.cmdNum 20 4 →
    (hostCmd s 0x0020 h → h.flagsOk = true → h.argsOk = true → (∀ r, s.recd.frozen = some r → off < r.len → s.hostReach = true → s.recording = false → Runs (exec (.recordExport h addr len off false) s) (fun u => Answered s u h.tag 0x0020 0 0 [min len (r.len - off)]
          ∧ (∃ bytes, u.host.posted = (addr, bytes) :: s.host.posted ∧ bytes = ((s.stream r).drop off).take (min len (r.len - off))) ∧ u.recd.frozen = s.recd.frozen ∧ u.led = s.led ∧ u.jrn = s.jrn ∧ onlyHost s u))
      ∧ (∀ r, s.recd.frozen = some r → r.len ≤ off → Runs (exec (.recordExport h addr len off false) s) (fun u => Answered s u h.tag 0x0020 15 8 [0] ∧ u.host.posted = s.host.posted ∧ u.recd.frozen = s.recd.frozen ∧ u.led = s.led ∧ u.jrn = s.jrn ∧ onlyHost s u))
      ∧ (s.recd.frozen = none → Runs (exec (.recordExport h addr len off false) s) (fun u => Answered s u h.tag 0x0020 15 7 [0] ∧ u.host.posted = s.host.posted ∧ u.recd.frozen = none ∧ u.led = s.led ∧ u.jrn = s.jrn ∧ onlyHost s u)))
    ∧ (∀ op, hostCmd s op h → knownOp op = false → Runs (exec (.unknownCmd h op) s) (fun u => Answered s u h.tag op (if h.flagsOk = true ∧ h.argsOk = true then 17 else 12) 0 [] ∧ u.led = s.led ∧ u.jrn = s.jrn ∧ u.ex = s.ex ∧ onlyHost s u)))

/-- What admission admits and what it holds (R36, R37, R38, R39, R40, R43, R57, R483). Where the spec leaves a reading open, the statement
rests on the model's choice: log entries 19, 24. -/
def Obligations.Admission : Prop :=
  (∀ (s : State) (sh : Sheet), s.power.phase = .run → s.shadow = [] → s.led.sheets = [sh] → sh.st = .submitted → sh.awaiting = false → s.degraded = false → s.bit SYS_STATUS_BACKUP_OK = true → s.jrn.retired.length ≤ 32 →
    s.bit LEDG_STATUS_RECOVERY_HOLD = false → s.safe = false → sh.planes ≠ [] → (∀ p ∈ sh.planes, p.ok = true ∧ p.bad = false) → s.notReady sh = none → s.fget LEDG_PITCH_MIN_PITCH_MIN ≠ 0 → s.slowUnit = none → s.jrn.staged.length < 192 →
    ∀ M : Nat, ∀ ahead pm pt pu : Int, M = max (s.fget LEDG_PITCH_MIN_PITCH_MIN) sh.reqPitch →
      ahead = s.beltFx * 127 + (max (s.fget LEDG_ADMIT_LEAD_ADMIT_LEAD) (s.fget LEDG_LOCK_DIST_LOCK_DIST) * 786432 * 4096 : Nat) →
      pm = ((2 * (M * 786432) + 127) / 254 : Nat) → pt = ((2 * (M * s.mult * 786432) + 1270000) / 2540000 : Nat) →
      ((pu = 0 ∧ ∀ e ∈ s.led.rates, e.2.1 = 0 ∨ 105 * e.2.2 ≤ 100 * e.2.1)
        ∨ ((∃ e ∈ s.led.rates, 0 < e.2.1 ∧ 100 * e.2.1 < 105 * e.2.2 ∧ pu = ((2 * (M * 786432 * 105 * e.2.2) + 12700 * e.2.1) / (25400 * e.2.1) : Nat))
          ∧ ∀ e ∈ s.led.rates, 0 < e.2.1 → 100 * e.2.1 < 105 * e.2.2 → (((2 * (M * 786432 * 105 * e.2.2) + 12700 * e.2.1) / (25400 * e.2.1) : Nat) : Int) ≤ pu)) →
    Runs (exec .admissionDecision s) (fun u => (∃ y, u.sheet? sh.seq = some y ∧ y.st = .admitted ∧ y.planes = sh.planes
        ∧ (s.led.fixed = [] → y.commitPos = -((-ahead) / 520192) - s.ofsOf 0)
        ∧ (∀ q c rest, s.led.fixed = (q, c) :: rest → y.commitPos = c + max pm (max ((2 * ahead + 520192) / 1040384 - s.ofsOf 0 - c) (max pt pu))))
      ∧ u.led.sheets.length = 1 ∧ Staged s u 0x01 sh.seq ∧ u.fget LEDG_LIMITER_CODE = 31 ∧ onlyLedger s u))
    ∧ (∀ s : State, s.power.phase = .run → s.shadow = [] → (∀ sh ∈ s.led.sheets, sh.st ≠ .admitted ∧ sh.awaiting = false) → s.degraded = false → s.bit SYS_STATUS_BACKUP_OK = true → s.jrn.retired.length ≤ 32 →
    ∀ other : Nat, other = (if s.fget LEDG_LIMITER_LAST_PITCH = 3 then s.led.unitSrc % 2 ^ LEDG_LIMITER_SOURCE.width else 0) →
    ((∀ sh ∈ s.led.sheets, sh.st ≠ .submitted) → Runs (exec .admissionDecision s) (fun u => u.fget LEDG_LIMITER_CODE = 31 ∧ u.fget LEDG_LIMITER_SOURCE = other ∧ onlyFields s u [LEDG_LIMITER_CODE, LEDG_LIMITER_SOURCE]))
    ∧ (∀ sh, s.led.sheets.find? (fun x => decide (x.st = .submitted)) = some sh → ∀ c : Nat, c = (if s.bit LEDG_STATUS_RECOVERY_HOLD then 16 else if s.safe then 22 else if sh.planes = [] ∨ sh.planes.any (fun p => !p.ok || p.bad) then 17
        else if s.notReady sh ≠ none ∨ s.fget LEDG_PITCH_MIN_PITCH_MIN = 0 then 18 else if s.slowUnit ≠ none then 20
        else if 192 ≤ s.jrn.staged.length ∨ 256 < s.jrn.staged.length + 5 * ((s.led.sheets.filter (fun g => g.st.inFlight)).length + 1) + 2 then 21 else 0) → c ≠ 0 →
      Runs (exec .admissionDecision s) (fun u => u.fget LEDG_LIMITER_CODE = c ∧ onlyFields s u [LEDG_LIMITER_CODE, LEDG_LIMITER_SOURCE] ∧ (c ≠ 18 → c ≠ 20 → u.fget LEDG_LIMITER_SOURCE = other)
        ∧ (∀ x, c = 20 → s.slowUnit = some x → u.fget LEDG_LIMITER_SOURCE = x % 2 ^ LEDG_LIMITER_SOURCE.width))))

/-- SHEET_LOCK, SHEET_COMMIT and SHEET_TRANSFERRED follow the belt position (R34, R35, R36, R41, R42, R44). Where the spec leaves a
reading open, the statement rests on the model's choice: log entries 19, 24. -/
def Obligations.LocksCommitsTransfers : Prop :=
  ∀ (s : State) (seq : Nat) (sh : Sheet), s.sheet? seq = some sh → s.bit PPOS_CTRL_EN = true → s.bit PPOS_STATUS_ENC_LOST = false → ∀ x : Int, x = s.belt - s.ofsOf 0 →
    (sh.st = .admitted → sh.awaiting = false → sh.commitPos - umUnits (s.fget LEDG_LOCK_DIST_LOCK_DIST) ≤ x → (∀ g ∈ s.led.sheets, g.seq ≤ seq → g.st = .admitted ∨ g.awaiting = true → g.locked = false → s.lost g = false) →
        Runs (exec (.sheetLock seq) s) (fun u => (∃ y, u.sheet? seq = some y ∧ y.locked = true ∧ y.st = .admitted ∧ y.commitPos = sh.commitPos)
        ∧ (∀ q, q ≠ seq → u.sheet? q = s.sheet? q) ∧ u = { s with led := { s.led with sheets := u.led.sheets } }))
    ∧ (sh.st = .admitted → sh.awaiting = false → sh.locked = false → sh.commitPos - umUnits (s.fget LEDG_LOCK_DIST_LOCK_DIST) ≤ x → (s.led.sheets.map (fun g => g.seq)).Pairwise (· < ·) → s.lost sh = true →
        Runs (exec (.sheetLock seq) s) (fun u => (∃ y, u.sheet? seq = some y ∧ y.locked = false ∧ y.st = .submitted) ∧ (∀ c, (seq, c) ∉ u.led.fixed)
        ∧ sansEvent u = { sansEvent s with led := u.led, jrn := u.jrn, host := u.host, stn := u.stn, mem := (sansEvent u).mem } ∧ onlyRingBar s u))
    ∧ (x < sh.commitPos - umUnits (s.fget LEDG_LOCK_DIST_LOCK_DIST) → Runs (exec (.sheetLock seq) s) (fun u => u = s))
    ∧ (sh.st = .admitted → sh.commitPos ≤ x → s.safe = false → s.commitCause sh = none → Runs (exec (.sheetCommit seq) s) (fun u => (∃ y, u.sheet? seq = some y ∧ y.locked = true ∧ y.st = .committed ∧ y.commitPos = sh.commitPos)
        ∧ (∀ q, q ≠ seq → u.sheet? q = s.sheet? q) ∧ Staged s u 0x01 seq ∧ onlyRingBar s u ∧ u.dma = s.dma))
    ∧ (∀ c d : Nat, sh.st = .admitted → sh.commitPos ≤ x → s.safe = false → s.commitCause sh = some (c, d) → Runs (exec (.sheetCommit seq) s) (fun u => (∃ y, u.sheet? seq = some y ∧ y.st = .failed ∧ y.reason = c ∧ y.detail = d)
        ∧ (∀ q, q ≠ seq → (u.sheet? q).map (fun z => z.st) = (s.sheet? q).map (fun z => z.st)) ∧ (∃ r r' rest, u.jrn.staged = s.jrn.staged ++ r :: r' :: rest ∧ r.seq = seq ∧ r.st = 3 ∧ r'.seq = seq ∧ r'.st = 10)))
    ∧ (sh.st = .admitted → sh.commitPos ≤ x → s.safe = true → Runs (exec (.sheetCommit seq) s) (fun u => (∃ y, u.sheet? seq = some y ∧ y.st = .failed ∧ y.reason = 5)
        ∧ (∀ q, q ≠ seq → (u.sheet? q).map (fun z => z.st) = (s.sheet? q).map (fun z => z.st)) ∧ (∃ r r' rest, u.jrn.staged = s.jrn.staged ++ r :: r' :: rest ∧ r.seq = seq ∧ r.st = 3 ∧ r'.seq = seq ∧ r'.st = 10)))
    ∧ (x < sh.commitPos → Runs (exec (.sheetCommit seq) s) (fun u => u = s))
    ∧ (sh.st = .exposed → sh.commitPos + umUnits (s.fget LEDG_XFER_DIST_XFER_DIST) + (s.imageLength sh : Int) ≤ x → Runs (exec (.sheetTransferred seq) s) (fun u => (∃ y, u.sheet? seq = some y ∧ y.st = .transferred) ∧ (∀ q, q ≠ seq → u.sheet? q = s.sheet? q)
        ∧ Staged s u 0x01 seq ∧ onlyLedger s u))

/-- Declarations by the engine program (R35, R36, R46, R56). Where the spec leaves a reading open, the statement rests on the model's
choice: log entries 19, 24. -/
def Obligations.DeclaredOutcomes : Prop :=
  (∀ (s : State) (sh : Sheet) (seq : Nat), seq = sh.seq → s.led.sheets.find? (fun x => x.seq % 2 ^ 32 == s.fget LEDG_DECLARE_SEQ_DECLARE_SEQ) = some sh → s.sheet? seq = some sh →
    (sh.st = .transferred → Runs (exec .declareFused s) (fun u => (∃ y, u.sheet? seq = some y ∧ y.st = .fused) ∧ (∀ q, q ≠ seq → u.sheet? q = s.sheet? q) ∧ Staged s u 0x01 seq ∧ onlyLedger s u))
    ∧ (sh.st = .fused → Runs (exec .declareDelivered s) (fun u => (∃ y, u.sheet? seq = some y ∧ y.st = (if sh.defect = true ∨ sh.blank.any (fun b => b != 0) = true then .deliveredDefect else .delivered)) ∧ (∀ q, q ≠ seq → u.sheet? q = s.sheet? q)
        ∧ Staged s u 0x01 seq ∧ onlySheets s u))
    ∧ (sh.st = .committed ∨ sh.st = .exposed ∨ sh.st = .transferred ∨ sh.st = .fused → Runs (exec .declareJam s) (fun u => (∃ y, u.sheet? seq = some y ∧ y.st = .failed ∧ y.reason = 7) ∧ (∀ q, q ≠ seq → u.sheet? q = s.sheet? q)
        ∧ Staged s u 0x01 seq ∧ u.faultQ.getLast? = some ⟨0x007, 1, seq % 65536, 2⟩ ∧ onlySheets s u))
    ∧ (∀ c ∈ ([(Instr.declareFused, 1, sh.st = .transferred), (.declareDelivered, 2, sh.st = .fused), (.declareJam, 3, sh.st.inFlight = true)] : List (Instr × Nat × Prop)), ¬ c.2.2 →
        Runs (exec c.1 s) (fun u => u.bit LEDG_STATUS_DECLARE_REFUSED = true ∧ keepsFields s u [LEDG_STATUS_DECLARE_REFUSED]
          ∧ sansFields u = { sansFields s with faultQ := s.faultQ ++ [⟨0x006, 1, c.2.1 + 16, 0⟩] })))
    ∧ (∀ s : State, s.led.sheets.find? (fun x => x.seq % 2 ^ 32 == s.fget LEDG_DECLARE_SEQ_DECLARE_SEQ) = none →
    ∀ c ∈ ([(Instr.declareFused, 1), (.declareDelivered, 2), (.declareJam, 3)] : List (Instr × Nat)),
      Runs (exec c.1 s) (fun u => u.bit LEDG_STATUS_DECLARE_REFUSED = true ∧ keepsFields s u [LEDG_STATUS_DECLARE_REFUSED] ∧ sansFields u = { sansFields s with faultQ := s.faultQ ++ [⟨0x006, 1, c.2, 0⟩] }))

/-- The journal flusher, compaction and the degraded guarantee (R44, R48, R46, R49, R55). Where the spec leaves a reading open, the
statement rests on the model's choice: log entries 19, 24. -/
def Obligations.JournalAndCompaction : Prop :=
  (∀ (s : State) (r : JRec) (rest : List JRec), s.power.phase = .run → s.jrn.staged = r :: rest → (s.jrn.writer / 1024) ∉ s.jrn.erasing →
    Runs (exec (.journalPageProgrammed [true]) s) (fun u => kvGet u.jrn.ring s.jrn.writer = some { r with good := true, tell := false } ∧ (∃ more, u.jrn.staged = rest ++ more)
      ∧ (∀ k, k ≠ s.jrn.writer → kvGet u.jrn.ring k = kvGet s.jrn.ring k) ∧ ((s.jrn.writer + 1) % 1024 ≠ 0 → u.jrn.writer = s.jrn.writer + 1) ∧ onlyRingBar s u ∧ u.dma = s.dma)
    ∧ (s.jrn.fails < 2 → Runs (exec (.journalPageProgrammed [false]) s) (fun u => kvGet u.jrn.ring s.jrn.writer = some { r with good := false } ∧ (∃ more, u.jrn.staged = r :: rest ++ more)
      ∧ (∀ k, k ≠ s.jrn.writer → kvGet u.jrn.ring k = kvGet s.jrn.ring k) ∧ u.jrn.fails = (if (s.jrn.writer + 1) % 1024 = 0 then 0 else s.jrn.fails + 1) ∧ u.mem = s.mem ∧ u.dma = s.dma ∧ u.ex = s.ex))
    ∧ (∀ b more, s.jrn.erasing = b :: more → Runs (exec .journalBlockErased s) (fun u => u.jrn.erasing = more ∧ (∀ k, k / 1024 ≠ b → kvGet u.jrn.ring k = kvGet s.jrn.ring k) ∧ (∀ k, k / 1024 = b → kvGet u.jrn.ring k = none)
      ∧ u = { s with jrn := { s.jrn with ring := u.jrn.ring, erasing := more } })))
    ∧ (∀ s : State, s.jrn.staged = [] →
    (s.jrn.compact = none → s.bit LEDG_STATUS_COMPACTING = false → Runs (exec .compactNow s) (fun u => u.bit LEDG_STATUS_COMPACTING = true ∧ Staged s u 0x10 s.led.ack ∧ keepsFields s u [LEDG_STATUS_COMPACTING]
        ∧ sansFields u = { sansFields s with jrn := u.jrn, led := u.led }))
    ∧ (s.bit LEDG_STATUS_COMPACTING = true → Runs (exec .compactNow s) (fun u => u = s))
    ∧ (∀ t, s.led.idleSince = some t → s.led.idleDone = false → s.fget LEDG_IDLE_COMPACT_IDLE_COMPACT ≠ 0 → t + 250000 * s.fget LEDG_IDLE_COMPACT_IDLE_COMPACT ≤ s.tick → s.jrn.compact = none → s.bit LEDG_STATUS_COMPACTING = false →
        Runs (exec .idleCompact s) (fun u => u.bit LEDG_STATUS_COMPACTING = true ∧ u.led.idleDone = true ∧ Staged s u 0x10 s.led.ack ∧ keepsFields s u [LEDG_STATUS_COMPACTING] ∧ sansFields u = { sansFields s with jrn := u.jrn, led := u.led }))
    ∧ (∀ t, s.led.clearSince = some t → s.degraded = true → s.degradedCause = false →
        (t + 250000000 ≤ s.tick → Runs (exec .degradedExit s) (fun u => u.degraded = false ∧ Staged s u 0x06 0 ∧ keepsFields s u [LEDG_STATUS_GUARANTEE_DEGRADED] ∧ sansFields u = { sansFields s with jrn := u.jrn, led := u.led }))
        ∧ (s.tick < t + 250000000 → Runs (exec .degradedExit s) (fun u => u = s))))

/-- PLANE_ALLOCATE gives a sheet its blocks, or none (R131, R154, R155). Where the spec leaves a reading open, the statement rests on the
model's choice: log entries 19, 24. -/
def Obligations.PlaneSpace : Prop :=
  ∀ (s : State) (sh : Sheet) (need : Nat), s.toAllocate = some sh → s.sheet? sh.seq = some sh → need = (sh.planes.map (fun p => (p.entry.length + 2 ^ 21 - 1) / 2 ^ 21)).sum →
    ∀ free : List Nat, free = (List.range (s.fget DRAMC_POOL_POOL_BLOCKS)).filter (fun b => !s.mem.used.contains b) →
    (need ≤ free.length → Runs (exec .planeAllocate s) (fun u => (∃ y, u.sheet? sh.seq = some y ∧ y.allocated = true ∧ y.planes.flatMap (fun p => p.blocks) = free.take need
          ∧ y.planes.map (fun p => p.blocks.length) = sh.planes.map (fun p => (p.entry.length + 2 ^ 21 - 1) / 2 ^ 21)) ∧ (∀ b, b ∈ u.mem.used → b ∈ s.mem.used ∨ b ∈ free.take need) ∧ (∀ b ∈ free.take need, b ∈ u.mem.used)
        ∧ (∀ q, q ≠ sh.seq → u.sheet? q = s.sheet? q) ∧ (∀ n, 8 ≤ n → kvGet u.dma n = kvGet s.dma n) ∧ u = { s with fields := u.fields, led := { s.led with sheets := u.led.sheets }, mem := { s.mem with used := u.mem.used }, dma := u.dma } ∧ keepsFields s u ((List.range 8).map DMAn_STATUS_HALTED)))
    ∧ (free.length < need → need ≤ s.fget DRAMC_POOL_POOL_BLOCKS → Runs (exec .planeAllocate s) (fun u => (∀ n, 8 ≤ n → kvGet u.dma n = kvGet s.dma n) ∧ u = { s with fields := u.fields, dma := u.dma } ∧ keepsFields s u ((List.range 8).map DMAn_STATUS_HALTED)))
    ∧ (s.fget DRAMC_POOL_POOL_BLOCKS < need → Runs (exec .planeAllocate s) (fun u => u.faultQ = s.faultQ ++ (if sh.tooSmall then [] else [⟨0x008, 1, sh.seq % 65536, 0⟩]) ∧ u.mem = s.mem
        ∧ (∃ y, u.sheet? sh.seq = some y ∧ y = { sh with tooSmall := true }) ∧ (∀ q, q ≠ sh.seq → u.sheet? q = s.sheet? q) ∧ (∀ n, 8 ≤ n → kvGet u.dma n = kvGet s.dma n)
        ∧ u = { s with fields := u.fields, led := { s.led with sheets := u.led.sheets }, dma := u.dma, faultQ := u.faultQ } ∧ keepsFields s u ((List.range 8).map DMAn_STATUS_HALTED)))

/-- DMA channels and the bytes they move (R139, R142, R144, R140, R143, R147). Where the spec leaves a reading open, the statement rests
on the model's choice: log entry 19. -/
def Obligations.DmaChannelsAndMoves : Prop :=
  (∀ (s : State) (n x : Nat),
    (n < 8 → ∀ c ∈ ([Instr.dmaDoorbell n x, .dmaResume n, .dmaSkip n] : List Instr), Runs (exec c s) (fun u => u.bit (DMAn_STATUS_WRITE_REFUSED n) = true ∧ onlyFields s u [DMAn_STATUS_WRITE_REFUSED n]))
    ∧ (8 ≤ n → n < 16 → ∀ m : Nat, m = 2 ^ (max 3 (min 16 (s.fget (DMAn_RING_SIZE_LOG2 n)))) → ∀ hd tl : Nat, hd = s.fget (DMAn_HEAD_HEAD n) % m → tl = s.fget (DMAn_HEAD_TAIL n) % m →
      ((tl + m - hd) % m ≤ (x % m + m - hd) % m → Runs (exec (.dmaDoorbell n x) s) (fun u => u.fget (DMAn_HEAD_TAIL n) = x % m % 2 ^ (DMAn_HEAD_TAIL n).width ∧ keepsFields s u [DMAn_HEAD_TAIL n, DMAn_CTRL_WEIGHT n] ∧ sansFields u = { sansFields s with shadow := u.shadow, shadowAt := u.shadowAt }))
      ∧ ((x % m + m - hd) % m < (tl + m - hd) % m → Runs (exec (.dmaDoorbell n x) s) (fun u => u.bit (DMAn_STATUS_DOORBELL_REFUSED n) = true ∧ onlyFields s u [DMAn_STATUS_DOORBELL_REFUSED n]))
      ∧ (s.bit (DMAn_STATUS_HALTED n) = true → Runs (exec (.dmaResume n) s) (fun u => u.bit (DMAn_STATUS_HALTED n) = false ∧ keepsFields s u [DMAn_STATUS_HALTED n, DMAn_CTRL_WEIGHT n]
          ∧ sansFields u = { sansFields s with shadow := u.shadow, shadowAt := u.shadowAt }))
      ∧ (s.bit (DMAn_STATUS_HALTED n) = false → Runs (exec (.dmaResume n) s) (fun u => u = s))
      ∧ (s.bit (DMAn_STATUS_HALTED n) = true → s.fget (DMAn_RING_HI_SPACE n) = 0 → Runs (exec (.dmaSkip n) s) (fun u => u.fget (DMAn_HEAD_HEAD n) = (hd + 1) % m % 2 ^ (DMAn_HEAD_HEAD n).width ∧ u.bit (DMAn_STATUS_HALTED n) = false
          ∧ keepsOutsideMem s u [DMAn_HEAD_HEAD n, DMAn_STATUS_HALTED n, DMAn_CTRL_WEIGHT n] ∧ sansEvent u = { sansEvent s with mem := (sansEvent u).mem, shadow := u.shadow, shadowAt := u.shadowAt }
          ∧ ∀ k, (k < s.descAddr n hd ∨ s.descAddr n hd + 4 ≤ k) → memGet u.mem.dram k = memGet s.mem.dram k))
      ∧ (s.bit (DMAn_STATUS_HALTED n) = false → Runs (exec (.dmaSkip n) s) (fun u => u = s))))
    ∧ (∀ (s : State) (n : Nat) (d : Desc) (a : Nat), 8 ≤ n → n < 16 → s.dmaRuns n = true → d = s.headDesc n → a = s.descAddr n (s.dmaHead n) → s.fget (DMAn_RING_HI_SPACE n) = 0 → s.inDram a 32 = true →
    (∀ host : List Byte, s.descErrs n = [] → d.srcSpace = 0 → d.dstSpace = 0 → s.inDram d.src d.len = true → s.inDram d.dst d.len = true → (d.dst + d.len ≤ a ∨ a + 32 ≤ d.dst) →
      (∀ k, inRing s k = true → (k < d.src ∨ d.src + d.len ≤ k) ∧ (k < d.dst ∨ d.dst + d.len ≤ k) ∧ (k < a ∨ a + 32 ≤ k)) →
      Runs (exec (.dmaDescriptorComplete n host) s) (fun u => (∀ k, k < d.len → memGet u.mem.dram (d.dst + k) = memGet s.mem.dram (d.src + k))
        ∧ (∀ k, (k < d.dst ∨ d.dst + d.len ≤ k) → (k < a ∨ a + 32 ≤ k) → inRing s k = false → memGet u.mem.dram k = memGet s.mem.dram k)
        ∧ u.fget (DMAn_HEAD_HEAD n) = (s.dmaHead n + 1) % 2 ^ s.dmaK n % 2 ^ (DMAn_HEAD_HEAD n).width ∧ u.fget (DMAn_COUNT_DONE n) = (s.fget (DMAn_COUNT_DONE n) + 1) % 2 ^ (DMAn_COUNT_DONE n).width
        ∧ u.mem.sram = s.mem.sram ∧ sansEvent u = { sansEvent s with mem := (sansEvent u).mem, dma := u.dma, shadow := u.shadow, shadowAt := u.shadowAt }))
    ∧ (∀ err done : Nat, err ∈ s.descErrs n → err < 64 → (err = 5 ∨ err = 6 → d.dstSpace = 0 → s.inDram d.dst d.len = true) → Runs (exec (.dmaHalt n err done) s) (fun u => u.bit (DMAn_STATUS_HALTED n) = true ∧ u.fget (DMAn_STATUS_ERR n) = err % 2 ^ (DMAn_STATUS_ERR n).width
        ∧ u.fget (DMAn_HEAD_HEAD n) = s.fget (DMAn_HEAD_HEAD n) ∧ (∃ l l', u.faultQ = l ++ ⟨0x020 + n, err, s.dmaHead n % 65536, 0⟩ :: l'))))

/-- Memory services and repair (R148, R150, R157, R158, R165, R167, R160, R161, R164, R166). Where the spec leaves a reading open, the
statement rests on the model's choice: log entries 20, 44. -/
def Obligations.MemoryServices : Prop :=
  (∀ s : State,
    (∀ c, c < 4 → s.fget (MEMI_LEAKc_LEAK_INT c) ≠ 0 → (kvGet s.mem.leakTick c).getD 0 + 250000 * s.fget (MEMI_LEAKc_LEAK_INT c) ≤ s.tick → Runs (exec (.leakTick c) s) (fun u =>
        u.fget (MEMI_LEAKc_LEVEL c) = (s.fget (MEMI_LEAKc_LEVEL c) - 1) % 2 ^ (MEMI_LEAKc_LEVEL c).width ∧ keepsFields s u [MEMI_LEAKc_LEVEL c] ∧ kvGet u.mem.leakTick c = some s.tick
        ∧ sansFields u = { sansFields s with mem := { s.mem with leakTick := u.mem.leakTick, armed := u.mem.armed } }))
    ∧ (∀ p v sum : Nat, p < 7 → sum = ((List.range 7).map (fun i => if i = p then v % 65536 else s.latest (DRAMC_RSVp_RSV i))).sum →
        (10 * sum ≤ 56 * s.dramRate → s.anyActive = false → Runs (exec (.rsvWrite p v) s) (fun u => u.fget (DRAMC_RSVp_RSV p) = v % 2 ^ (DRAMC_RSVp_RSV p).width ∧ keepsFields s u [DRAMC_RSVp_RSV p]
            ∧ sansFields u = { sansFields s with shadow := u.shadow, shadowAt := u.shadowAt } ∧ u.latest (DRAMC_RSVp_RSV p) = v % 2 ^ (DRAMC_RSVp_RSV p).width))
        ∧ (10 * sum ≤ 56 * s.dramRate → s.anyActive = true → Runs (exec (.rsvWrite p v) s) (fun u => u.latest (DRAMC_RSVp_RSV p) = v % 2 ^ (DRAMC_RSVp_RSV p).width ∧ u = { s with shadow := u.shadow, shadowAt := u.shadowAt }))
        ∧ (56 * s.dramRate < 10 * sum → Runs (exec (.rsvWrite p v) s) (fun u => u.bit DRAMC_STATUS_RSV_REFUSED = true ∧ onlyFields s u [DRAMC_STATUS_RSV_REFUSED])))
    ∧ (∀ l e, s.mem.merge.find? (fun x => x.line == l) = some e → (e.offs.length = 64 ∨ e.last + 250 ≤ s.tick → Runs (exec (.mergeWriteback l) s) (fun u => u = { s with mem := { s.mem with merge := s.mem.merge.filter (fun x => x.line != l) } }))
        ∧ (e.offs.length ≠ 64 → s.tick < e.last + 250 → Runs (exec (.mergeWriteback l) s) (fun u => u = s)))
    ∧ (∀ ch v, ch < 2 → s.bit DRAMC_STATUS_READY = true → (∀ t, kvGet s.mem.mr4Tick ch = some t → t + 8000000 ≤ s.tick) → Runs (exec (.mr4Read ch v true) s) (fun u => u.bit DRAMC_STATUS_TEMP_HIGH = true ∧ keepsFields s u [DRAMC_STATUS_TEMP_HIGH]
        ∧ (∃ k, u.faultQ = s.faultQ ++ [⟨0x011 + ch, k, v % 65536, 1⟩]) ∧ sansFields u = { sansFields s with mem := u.mem, faultQ := u.faultQ, freeCtr := u.freeCtr }))
    ∧ (s.mem.unsaved = true → Runs (exec .repairSave s) (fun u => u = { s with mem := { s.mem with saved := (s.mem.remap, s.mem.spareRows), unsaved := false } })))
    ∧ (∀ s : State,
    (∀ l e : Nat, l = (s.fget MEMI_REMAP_ADDR_LO_LINE + s.fget MEMI_REMAP_ADDR_HI_LINE * 2 ^ 32) / 64 → l * 64 < s.usable →
      (s.remapOf l = none → e < 32 → kvGet s.mem.remap e = none → (∀ k, k < e → kvGet s.mem.remap k ≠ none) → s.mem.badWords.all (fun w => w / 8 != l) = true → Runs (exec .remapLine s) (fun u => kvGet u.mem.remap e = some ⟨l, false⟩
          ∧ (∀ k, k ≠ e → kvGet u.mem.remap k = kvGet s.mem.remap k) ∧ u.mem.dram = s.mem.dram ∧ u.fget MEMI_REMAP_USED_USED = u.mem.remap.length % 2 ^ MEMI_REMAP_USED_USED.width ∧ keepsFields s u [MEMI_REMAP_USED_USED] ∧ sansFields u = { sansFields s with mem := u.mem }))
      ∧ (s.remapOf l ≠ none ∨ (∀ k, k < 32 → kvGet s.mem.remap k ≠ none) → Runs (exec .remapLine s) (fun u => u.bit MEMI_STATUS_REMAP_FULL = true ∧ keepsFields s u [MEMI_STATUS_REMAP_FULL] ∧ u.mem = s.mem
          ∧ (∃ k d, u.faultQ = s.faultQ ++ [⟨0x010, k, d, 1⟩]) ∧ sansFields u = { sansFields s with faultQ := u.faultQ, freeCtr := u.freeCtr }))
      ∧ (s.remapOf l = some e → Runs (exec .remapRemove s) (fun u => u.mem.remap = kvDel s.mem.remap e ∧ u.mem.dram = s.mem.dram ∧ u.fget MEMI_REMAP_USED_USED = u.mem.remap.length % 2 ^ MEMI_REMAP_USED_USED.width
          ∧ keepsFields s u [MEMI_REMAP_USED_USED] ∧ sansFields u = { sansFields s with mem := u.mem })))
    ∧ (∀ a b : Nat, a = s.rangeStart → b = s.rangeEnd → (s.bit MEMI_STATUS_RANGE_BUSY = false → a ≤ b → b + 64 ≤ s.usable ∨ (0x1000000000 ≤ a ∧ b + 64 ≤ 0x1001000000) →
          Runs (exec .rangePassGo s) (fun u => u.bit MEMI_STATUS_RANGE_BUSY = true ∧ keepsFields s u [MEMI_STATUS_RANGE_BUSY] ∧ sansFields u = { sansFields s with mem := { s.mem with rangeAt := some (a, b) } }))
        ∧ (s.bit MEMI_STATUS_RANGE_BUSY = true ∨ b < a ∨ (s.usable < b + 64 ∧ (a < 0x1000000000 ∨ 0x1001000000 < b + 64)) → Runs (exec .rangePassGo s) (fun u => u.bit MEMI_STATUS_RANGE_REFUSED = true ∧ onlyFields s u [MEMI_STATUS_RANGE_REFUSED])))
    ∧ (∀ a b, s.mem.rangeAt = some (a, b) → s.mem.badWords = [] → s.mem.oneBits = [] → s.mem.sramOne = [] → s.mem.sramBad = [] → s.mem.sramLost = [] →
        (Runs (exec (.rangePassDone []) s) (fun u => u.bit MEMI_STATUS_RANGE_BUSY = false ∧ u.bit MEMI_STATUS_RANGE_DONE = true ∧ u.fget MEMI_RANGE_COUNT_CORR = 0 ∧ u.fget MEMI_RANGE_COUNT_UNCORR = 0
        ∧ sansEvent u = { sansEvent s with mem := { (sansEvent s).mem with rangeAt := none } } ∧ onlyRing { s with mem := { s.mem with rangeAt := none } } u)
        ∧ (∀ x k : Nat, a < sramBase → x % 64 = 0 → a ≤ x → x ≤ b → k = 1 ∨ k = 2 → s.remapOf (x / 64) = none → Runs (exec (.rangePassDone [(x, k)]) s) (fun u => u.bit MEMI_STATUS_RANGE_BUSY = false ∧ u.bit MEMI_STATUS_RANGE_DONE = true
          ∧ u.fget MEMI_RANGE_COUNT_CORR = (if k = 1 then 1 else 0) ∧ u.fget MEMI_RANGE_COUNT_UNCORR = (if k = 2 then 1 else 0) ∧ u.fget MEMI_RANGE_FIRST_LO_ADDR = x % 2 ^ 32 ∧ u.fget MEMI_RANGE_LAST_LO_ADDR = x % 2 ^ 32
          ∧ (∃ l, u.faultQ = s.faultQ ++ ⟨0x011 + x / 256 % 2, k, x / 64 % 65536, 0⟩ :: l)))))
    ∧ (∀ n t x, n < 6 → t < 32 → kvGet (s.stnOf n).source t = some x → s.segAt x.1 x.2.1 < sramBase → s.mem.clean (s.segAt x.1 x.2.1) x.2.2 = true → s.fget (MEMI_LEAKc_LEVEL 2) < 15 → Runs (exec (.backedRefetchDone n t false) s) (fun u => u.fget (MEMI_LEAKc_LEVEL 2) = s.fget (MEMI_LEAKc_LEVEL 2) + 1 ∧ onlyFields s u [MEMI_LEAKc_LEVEL 2]))
    ∧ (∀ p i t, p < 25 → kvGet s.ex.running p = some i → s.task? i = some t → Runs (exec (.codeRefetchDone p) s) (fun u => u.task? i = some { t with stall := false } ∧ (∀ j, j ≠ i → u.task? j = s.task? j)
        ∧ (∀ w, w ∈ u.mem.sramBad ↔ w ∈ s.mem.sramBad ∧ t.fromImage w = false) ∧ u = { s with ex := { s.ex with tasks := u.ex.tasks }, mem := { s.mem with sramBad := u.mem.sramBad } })))

/-- SCRUB_WALK_STEP reads the next unit and counts what it finds (R159, R162, R163, R165). Where the spec leaves a reading open, the
statement rests on the model's choice: log entries 20, 44. -/
def Obligations.ScrubWalk : Prop :=
  ∀ (s : State) (c n k w : Nat), c < 3 → n = (if c = 0 then s.usable / 64 else if c = 1 then (0x150000 + 0x100000 + 0x2000 + 0x400 + 0x40 + 0x50000 + 0x200000 + 0x800) / 64 else 0x700000 / 64) → k = (kvGet s.mem.walkAt c).getD 0 →
    (s.fget (MEMI_SCRUBc_SCRUB_INT c) ≠ 0 → (∀ t, kvGet s.mem.walkTick c = some t → t + 250 * s.fget (MEMI_SCRUBc_SCRUB_INT c) ≤ s.tick) → n ≠ 0 → s.mem.badWords = [] → s.mem.oneBits = [] → s.mem.sramOne = [] → s.mem.sramBad = [] → s.mem.sramLost = [] → s.mem.remap = [] →
      Runs (exec (.scrubWalkStep c k 0 w) s) (fun u => kvGet u.mem.walkAt c = some (if k + 1 < n then k + 1 else 0) ∧ kvGet u.mem.walkTick c = some s.tick ∧ keepsFields s u [MEMI_SCRUBc_PASSES c]
          ∧ u.fget (MEMI_SCRUBc_PASSES c) = (if k + 1 < n then s.fget (MEMI_SCRUBc_PASSES c) else (s.fget (MEMI_SCRUBc_PASSES c) + 1) % 2 ^ (MEMI_SCRUBc_PASSES c).width)
          ∧ sansFields u = { sansFields s with mem := { s.mem with walkAt := u.mem.walkAt, walkTick := u.mem.walkTick } })
      ∧ (c = 0 → k + 1 < n → s.bit MEMI_CTRL_AUTO_REMAP = false → s.fget (MEMI_LEAKc_LEVEL 0) < 15 → s.fget DRAMC_ECC_CNT_CORR < 2 ^ DRAMC_ECC_CNT_CORR.width - 1 → Runs (exec (.scrubWalkStep 0 k 1 w) s) (fun u =>
          u.faultQ = s.faultQ ++ [⟨0x011 + k * 64 / 256 % 2, 1, k % 65536, 0⟩] ∧ u.fget (MEMI_LEAKc_LEVEL 0) = s.fget (MEMI_LEAKc_LEVEL 0) + 1 ∧ u.fget DRAMC_ECC_CNT_CORR = s.fget DRAMC_ECC_CNT_CORR + 1
          ∧ keepsFields s u [MEMI_LEAKc_LEVEL 0, DRAMC_ECC_CNT_CORR, DRAMC_ERR_ADDR_LO_ERR_ADDR, DRAMC_ERR_ADDR_HI_ERR_ADDR] ∧ u.mem.dram = s.mem.dram))
      ∧ (c = 0 → k + 1 < n → s.planesAt (k * 64) = [] → s.fget DRAMC_ECC_CNT_UNCORR < 2 ^ DRAMC_ECC_CNT_UNCORR.width - 1 → Runs (exec (.scrubWalkStep 0 k 2 w) s) (fun u =>
          u.faultQ = s.faultQ ++ [⟨0x011 + k * 64 / 256 % 2, 2, k % 65536, 0⟩] ∧ u.fget DRAMC_ECC_CNT_UNCORR = s.fget DRAMC_ECC_CNT_UNCORR + 1 ∧ u.mem.badWords = [k * 8 + w % 8]
          ∧ keepsFields s u [DRAMC_ECC_CNT_UNCORR, DRAMC_ERR_ADDR_LO_ERR_ADDR, DRAMC_ERR_ADDR_HI_ERR_ADDR] ∧ u.mem.dram = s.mem.dram))
      ∧ (c ≠ 0 → s.bit MEMI_CTRL_AUTO_SPARE = false → s.fget (MEMI_LEAKc_LEVEL c) < 15 → Runs (exec (.scrubWalkStep c k 1 w) s) (fun u => u.fget (MEMI_LEAKc_LEVEL c) = s.fget (MEMI_LEAKc_LEVEL c) + 1
          ∧ keepsFields s u [MEMI_LEAKc_LEVEL c, MEMI_SCRUBc_PASSES c] ∧ u.mem.sram = s.mem.sram ∧ u.mem.sramBad = [] ∧ u.faultQ = s.faultQ)))
    ∧ (s.fget (MEMI_SCRUBc_SCRUB_INT c) = 0 ∨ (∃ t, kvGet s.mem.walkTick c = some t ∧ s.tick < t + 250 * s.fget (MEMI_SCRUBc_SCRUB_INT c)) → ∀ e, Runs (exec (.scrubWalkStep c k e w) s) (fun u => u = s))
    ∧ (∀ e j, j ≠ k → Runs (exec (.scrubWalkStep c j e w) s) (fun u => u = s))

/-- TABLE_LOAD, LOAD_DONE and TABLE_PATCH (R195, R196, R198, R199, R201). Where the spec leaves a reading open, the statement rests on the
model's choice: log entry 29. -/
def Obligations.TableLoads : Prop :=
  ∀ (s : State) (n k : Nat), n < 6 → k < 32 →
    (s.loadErr n k = 0 → Runs (exec (.tableLoad n k) s) (fun u => u.bit (STNn_TBL_STATUS_BUSY n) = true ∧ u.bit (STNn_PL_STATUS_LOAD_BUSY n) = true ∧ u.fget (STNn_TBL_STATUS_TABLE n) = k ∧ u.fget (STNn_TBL_STATUS_ERR n) = 0 ∧ u.tblValid n k = false
        ∧ (∃ l, (u.stnOf n).load = some l ∧ l.table = k ∧ l.task = s.fget (STNn_TBL_TASK_TASK n) ∧ l.src = s.fget (STNn_TBL_SRC_SRC n) ∧ l.len = s.fget (STNn_TBL_LEN_LEN n))
        ∧ keepsFields s u [STNn_TBL_STATUS_TABLE n, STNn_TBL_STATUS_ERR n, STNn_TBL_STATUS_BUSY n, STNn_TBL_STATUS_DONE n, STNn_TBL_STATUS_REFUSED n, STNn_PL_STATUS_LOAD_BUSY n, STNn_PL_STATUS_PATCH_PENDING n, STNn_TBL_VALID_VALID n, PLC_STATUS_OVERRUN] ∧ sansFields u = { sansFields s with stn := u.stn }))
    ∧ (s.loadErr n k ≠ 0 → Runs (exec (.tableLoad n k) s) (fun u => u.bit (STNn_TBL_STATUS_REFUSED n) = true ∧ u.fget (STNn_TBL_STATUS_ERR n) = s.loadErr n k % 2 ^ (STNn_TBL_STATUS_ERR n).width ∧ u.fget (STNn_TBL_STATUS_TABLE n) = k
        ∧ onlyFields s u [STNn_TBL_STATUS_REFUSED n, STNn_TBL_STATUS_ERR n, STNn_TBL_STATUS_TABLE n]))
    ∧ (∀ l, (s.stnOf n).load = some l → l.table < 4 →
        (s.segAt l.task l.src < sramBase → s.mem.clean (s.segAt l.task l.src) l.len = true → Runs (exec (.loadDone n false) s) (fun u => (u.stnOf n).load = none
          ∧ (s.bit (STNn_PL_STATUS_SERVED_X n) = false ∨ s.toOwn n = true → kvGet (u.stnOf n).tables l.table = some (memRead s.mem.dram (s.segAt l.task l.src) l.len))
          ∧ (s.bit (STNn_PL_STATUS_SERVED_X n) = true ∨ s.toX n = true → kvGet u.stnx.tables l.table = some (memRead s.mem.dram (s.segAt l.task l.src) l.len))
          ∧ (s.bit (STNn_PL_STATUS_SERVED_X n) = true → s.toOwn n = false → (u.stnOf n).tables = (s.stnOf n).tables)
          ∧ (s.bit (STNn_PL_STATUS_SERVED_X n) = false → s.toX n = false → u.stnx = s.stnx) ∧ kvGet (u.stnOf n).source l.table = some (l.task, l.src, l.len)
          ∧ u.bit (STNn_TBL_STATUS_BUSY n) = false ∧ u.bit (STNn_TBL_STATUS_DONE n) = true ∧ u.fget (STNn_TBL_STATUS_ERR n) = 0 ∧ keepsFields s u [STNn_TBL_STATUS_TABLE n, STNn_TBL_STATUS_ERR n, STNn_TBL_STATUS_BUSY n, STNn_TBL_STATUS_DONE n, STNn_TBL_STATUS_REFUSED n, STNn_PL_STATUS_LOAD_BUSY n, STNn_PL_STATUS_PATCH_PENDING n, STNn_TBL_VALID_VALID n, PLC_STATUS_OVERRUN] ∧ sansEvent u = { sansEvent s with stn := u.stn, stnx := u.stnx } ∧ onlyRing s u))
        ∧ Runs (exec (.loadDone n true) s) (fun u => (u.stnOf n).load = none ∧ (u.stnOf n).tables = (s.stnOf n).tables ∧ u.bit (STNn_TBL_STATUS_BUSY n) = false ∧ u.fget (STNn_TBL_STATUS_ERR n) = 5
          ∧ sansEvent u = { sansEvent s with stn := u.stn, mem := (sansEvent u).mem }))
    ∧ (∀ x : Nat × Nat × Nat, kvGet (s.stnOf n).source 16 = some x → (s.stnOf n).patch = none → 1 ≤ s.fget (STNn_TBL_PATCH_COUNT n) → s.fget (STNn_TBL_PATCH_COUNT n) ≤ 1024 → s.fget (STNn_TBL_PATCH_FIRST n) + s.fget (STNn_TBL_PATCH_COUNT n) ≤ s.stnN n →
        ((s.stnOf n).windows ≠ [] → Runs (exec (.tablePatch n 16) s) (fun u => u.bit (STNn_PL_STATUS_PATCH_PENDING n) = true ∧ (u.stnOf n).patch.isSome = true ∧ (u.stnOf n).tables = (s.stnOf n).tables ∧ keepsFields s u [STNn_TBL_STATUS_TABLE n, STNn_TBL_STATUS_ERR n, STNn_TBL_STATUS_BUSY n, STNn_TBL_STATUS_DONE n, STNn_TBL_STATUS_REFUSED n, STNn_PL_STATUS_LOAD_BUSY n, STNn_PL_STATUS_PATCH_PENDING n, STNn_TBL_VALID_VALID n, PLC_STATUS_OVERRUN] ∧ sansFields u = { sansFields s with stn := u.stn }))
        ∧ ((s.stnOf n).windows = [] → Runs (exec (.tablePatch n 16) s) (fun u => u.bit (STNn_PL_STATUS_PATCH_PENDING n) = false ∧ u.bit (STNn_TBL_STATUS_DONE n) = true ∧ (u.stnOf n).patch = none
          ∧ (∀ j b, kvGet (s.stnOf n).tables 16 = some b → j < 12 * s.fget (STNn_TBL_PATCH_COUNT n) → 12 * (s.fget (STNn_TBL_PATCH_FIRST n) + s.fget (STNn_TBL_PATCH_COUNT n)) ≤ b.length →
              ((kvGet (u.stnOf n).tables 16).getD []).getD (12 * s.fget (STNn_TBL_PATCH_FIRST n) + j) 0 = memGet s.mem.dram (s.segAt x.1 (x.2.1 + 12 * s.fget (STNn_TBL_PATCH_FIRST n)) + j))
          ∧ (∀ j b, (s.bit (STNn_PL_STATUS_SERVED_X n) = true ∨ s.toX n = true) → kvGet s.stnx.tables 16 = some b → j < 12 * s.fget (STNn_TBL_PATCH_COUNT n) → 12 * (s.fget (STNn_TBL_PATCH_FIRST n) + s.fget (STNn_TBL_PATCH_COUNT n)) ≤ b.length →
              ((kvGet u.stnx.tables 16).getD []).getD (12 * s.fget (STNn_TBL_PATCH_FIRST n) + j) 0 = memGet s.mem.dram (s.segAt x.1 (x.2.1 + 12 * s.fget (STNn_TBL_PATCH_FIRST n)) + j))
          ∧ (s.bit (STNn_PL_STATUS_SERVED_X n) = false → s.toX n = false → u.stnx = s.stnx) ∧ keepsFields s u [STNn_TBL_STATUS_TABLE n, STNn_TBL_STATUS_ERR n, STNn_TBL_STATUS_BUSY n, STNn_TBL_STATUS_DONE n, STNn_TBL_STATUS_REFUSED n, STNn_PL_STATUS_LOAD_BUSY n, STNn_PL_STATUS_PATCH_PENDING n, STNn_TBL_VALID_VALID n, PLC_STATUS_OVERRUN] ∧ sansEvent u = { sansEvent s with stn := u.stn, stnx := u.stnx } ∧ onlyRing s u)))
    ∧ ((k ≠ 16 ∨ s.fget (STNn_TBL_PATCH_COUNT n) = 0 ∨ 1024 < s.fget (STNn_TBL_PATCH_COUNT n)) → Runs (exec (.tablePatch n k) s) (fun u => u.bit (STNn_TBL_STATUS_REFUSED n) = true ∧ u.fget (STNn_TBL_STATUS_ERR n) = 7
        ∧ onlyFields s u [STNn_TBL_STATUS_REFUSED n, STNn_TBL_STATUS_ERR n, STNn_TBL_STATUS_TABLE n]))

/-- STNX_MOVE, STNX_RETURN, MOVED and TILE_DECODE (R179, R180, R201, R205, R206). Where the spec leaves a reading open, the statement
rests on the model's choice: log entry 29. -/
def Obligations.SparePipeline : Prop :=
  ∀ (s : State) (n : Nat), n < 6 →
    (s.stnxFree = true → Runs (exec (.stnxMove n) s) (fun u => u.fget STNX_STATUS_STATE = 1 ∧ keepsFields s u [STNX_STATUS_STATE] ∧ sansFields u = { sansFields s with stnx := { s.stnx with moveReq := some n, loaded := false, atWindow := !s.anyActive, tables := [] } }))
    ∧ (s.stnxFree = false → Runs (exec (.stnxMove n) s) (fun u => u.bit STNX_STATUS_CMD_REFUSED = true ∧ onlyFields s u [STNX_STATUS_CMD_REFUSED]))
    ∧ (s.fget STNX_STATUS_SERVES = n → (s.stnOf n).failed = false → (s.stnOf n).retired = false → s.fget STNX_STATUS_STATE = 2 → Runs (exec .stnxReturn s) (fun u => u = { s with stnx := { s.stnx with returnReq := true, loaded := false, atWindow := !s.anyActive } }))
    ∧ (s.fget STNX_STATUS_STATE ≠ 2 → Runs (exec .stnxReturn s) (fun u => u.bit STNX_STATUS_CMD_REFUSED = true ∧ onlyFields s u [STNX_STATUS_CMD_REFUSED]))
    ∧ (s.anyActive = false → s.stnx.atWindow = true → kvSorted (s.stnOf n).source = true → (∀ e ∈ (s.stnOf n).source, s.segAt e.2.1 e.2.2.1 < sramBase ∧ s.mem.clean (s.segAt e.2.1 e.2.2.1) e.2.2.2 = true) → (s.stnx.moveReq = some n → Runs (exec .moved s) (fun u => u.bit (STNn_PL_STATUS_SERVED_X n) = true ∧ u.fget STNX_STATUS_SERVES = n ∧ u.fget STNX_STATUS_STATE = 2 ∧ u.stnx.moveReq = none
          ∧ (∀ k x, kvGet (s.stnOf n).source k = some x → s.tblValid n k = true → kvGet u.stnx.tables k = some (tableOf k (memRead s.mem.dram (s.segAt x.1 x.2.1) x.2.2)))
          ∧ keepsFields s u [STNn_PL_STATUS_SERVED_X n, STNX_STATUS_SERVES, STNX_STATUS_STATE, PLC_STATUS_OVERRUN] ∧ sansEvent u = { sansEvent s with stn := u.stn, stnx := u.stnx } ∧ onlyRing s u))
        ∧ (s.stnx.moveReq = none → s.stnx.returnReq = true → s.fget STNX_STATUS_SERVES = n → Runs (exec .moved s) (fun u => u.bit (STNn_PL_STATUS_SERVED_X n) = false ∧ u.fget STNX_STATUS_SERVES = 7 ∧ u.fget STNX_STATUS_STATE = 0 ∧ u.stnx.returnReq = false
          ∧ keepsFields s u [STNn_PL_STATUS_SERVED_X n, STNX_STATUS_SERVES, STNX_STATUS_STATE, PLC_STATUS_OVERRUN] ∧ sansEvent u = { sansEvent s with stn := u.stn, stnx := u.stnx } ∧ onlyRing s u)))
    ∧ (∀ q i p more f, s.toDecode n = (q, i, p) :: more → s.pipeUp n (s.servedX n q) = true → f = (s.stnOf n).fetchOf q i → s.mem.badWords = [] → s.mem.oneBits = [] →
        (∀ raw o rest d, f.hdrs = (raw, o) :: rest → decodeTile (tileHdr raw) (s.planeBytes p o (tileHdr raw).bodyLen) (tileLineBytes p.entry.format) (tileH p.entry (f.tile / tileCols p.entry)) = some d →
            Runs (exec (.tileDecode n) s) (fun u => (u.stnOf n).tiles = (s.stnOf n).tiles ++ [(q, i, f.tile, d)] ∧ (u.stnOf n).fetchOf q i = ⟨q, i, f.tile + 1, f.off, rest⟩ ∧ u = { s with stn := u.stn }))
        ∧ (∀ hd d stop, f.hdrs = [] → tileCols p.entry = 1 → f.off + 16 ≤ p.entry.length → hd = tileHdr (s.planeBytes p f.off 16) → stop = f.off + 16 + hd.bodyLen →
            hd.ok (tileLineBytes p.entry.format) (tileH p.entry f.tile) 0 f.tile = true → stop ≤ p.entry.length → (f.tile + 1 = tileRows p.entry → stop = p.entry.length) →
            decodeTile hd (s.planeBytes p (f.off + 16) hd.bodyLen) (tileLineBytes p.entry.format) (tileH p.entry f.tile) = some d →
            Runs (exec (.tileDecode n) s) (fun u => (u.stnOf n).tiles = (s.stnOf n).tiles ++ [(q, i, f.tile, d)] ∧ (u.stnOf n).fetchOf q i = ⟨q, i, f.tile + 1, stop, []⟩ ∧ u = { s with stn := u.stn }))
        ∧ (f.hdrs = [] → tileCols p.entry ≠ 0 → p.entry.length < f.off + 16 → Runs (exec (.tileDecode n) s) (fun u => u.bit (STNn_PL_STATUS_TILE_ERR n) = true ∧ u.fget (STNn_PL_TILE_ERR_ROW n) = (tileRows p.entry - 1) % 2 ^ (STNn_PL_TILE_ERR_ROW n).width
            ∧ u.fget (STNn_PL_TILE_ERR_COL n) = (tileCols p.entry - 1) % 2 ^ (STNn_PL_TILE_ERR_COL n).width)))

/-- ENCODER_COUNT, INDEX_Z, ENC_LOST and the commands of PPOS (R207, R208, R210, R211, R212, R213). Where the spec leaves a reading open,
the statement rests on the model's choice: log entry 32. -/
def Obligations.BeltPosition : Prop :=
  ∀ s : State,
    (∀ up d, d = (if up = s.bit PPOS_CTRL_INVERT then (-1 : Int) else 1) → s.beltRuns = true → Runs (exec (.encoderCount up) s) (fun u => u.ppos.count = sext 32 (uint 32 (s.ppos.count + d)) ∧ u.ppos.posFx = s.ppos.posFx + d * s.fget PPOS_SCALE_SCALE
        ∧ u.ppos.ofs = s.ppos.ofs ∧ keepsFields s u [PPOS_STATUS_FORWARD, PPOS_STATUS_OVERSPEED, PLC_STATUS_OVERRUN] ∧ sansEvent u = { sansEvent s with ppos := u.ppos } ∧ onlyRing s u))
    ∧ (∀ up, s.beltRuns = false → Runs (exec (.encoderCount up) s) (fun u => u = s))
    ∧ (s.bit PPOS_CTRL_EN = true → s.bit PPOS_CTRL_Z_EN = true → Runs (exec (.indexZ true) s) (fun u => u.ppos = { s.ppos with zcap := s.belt } ∧ u.bit PPOS_STATUS_Z_SEEN = true ∧ keepsFields s u [PPOS_STATUS_Z_SEEN, PLC_STATUS_OVERRUN] ∧ sansEvent u = { sansEvent s with ppos := u.ppos } ∧ onlyRing s u))
    ∧ Runs (exec (.indexZ false) s) (fun u => u = s)
    ∧ (∀ c, c = 1 ∨ c = 2 → s.bit PPOS_CTRL_EN = true → Runs (exec (.encLost c) s) (fun u => u.bit PPOS_STATUS_ENC_LOST = true ∧ u.fget PPOS_STATUS_LOSS_CAUSE = c ∧ (∃ l, u.faultQ = s.faultQ ++ ⟨0x01E, 1, c, 0⟩ :: l) ∧ u.ppos.count = s.ppos.count ∧ u.ppos.posFx = s.ppos.posFx
        ∧ keepsFields s u [PPOS_STATUS_ENC_LOST, PPOS_STATUS_LOSS_CAUSE, PLC_STATUS_OVERRUN] ∧ sansEvent u = { sansEvent s with ppos := u.ppos } ∧ onlyRing s u))
    ∧ (s.bit PPOS_CTRL_EN = false → Runs (exec (.pposEnable true) s) (fun u => u.ppos.count = 0 ∧ u.ppos.posFx = 0 ∧ u.led = { s.led with fixed := [] } ∧ u.bit PPOS_CTRL_EN = true
        ∧ keepsFields s u [PPOS_CTRL_EN, PPOS_STATUS_Z_SEEN, PPOS_STATUS_CFG_ERR] ∧ sansFields u = { sansFields s with ppos := u.ppos, led := u.led, faultQ := u.faultQ }))
    ∧ (s.bit PPOS_CTRL_EN = true → s.anyActive = true → Runs (exec (.pposEnable false) s) (fun u => u.bit PPOS_STATUS_WRITE_REFUSED = true ∧ onlyFields s u [PPOS_STATUS_WRITE_REFUSED]))
    ∧ (s.bit PPOS_CTRL_EN = true → s.anyActive = false → Runs (exec (.pposEnable false) s) (fun u => u.bit PPOS_CTRL_EN = false ∧ u.ppos.count = s.ppos.count ∧ u.belt = s.belt ∧ keepsFields s u [PPOS_CTRL_EN] ∧ sansFields u = { sansFields s with ppos := u.ppos }))
    ∧ (s.bit PPOS_STATUS_ENC_LOST = true → Runs (exec (.pposEncLostClear false) s) (fun u => u.bit PPOS_STATUS_ENC_LOST = false ∧ u.ppos.posFx = s.ppos.posFx ∧ u.ppos.count = s.ppos.count ∧ keepsFields s u [PPOS_STATUS_ENC_LOST] ∧ sansFields u = { sansFields s with ppos := u.ppos })
        ∧ Runs (exec (.pposEncLostClear true) s) (fun u => u.bit PPOS_STATUS_CLEAR_REFUSED = true ∧ keepsFields s u [PPOS_STATUS_CLEAR_REFUSED] ∧ sansFields u = { sansFields s with ppos := { s.ppos with causeOne := true } }))
    ∧ (∀ n hi, n < 6 → Runs (exec (.pposOffsetWrite n hi) s) (fun u => u.ppos.ofs = s.ppos.ofs ∧ u.ppos.ofsNext = s.ppos.ofsNext ++ [(n, sext 64 (s.fget (PPOS_OFSn_LO_OFS n) + hi.toNat * 2 ^ 32))] ∧ keepsFields s u [PPOS_OFSn_HI_OFS n]
        ∧ sansFields u = { sansFields s with ppos := u.ppos }))

/-- Facets, missed pulses, EOS, the pixel clock and SC_EN of a scan station (R214, R219, R229, R230, R231, R232, R233, R261). Where the
spec leaves a reading open, the statement rests on the model's choice: log entries 30, 31, 48. -/
def Obligations.ScanFacets : Prop :=
  ∀ (s : State) (n : Nat), n < 6 →
    (s.isBar n = false → s.bit (STNn_SC_CTRL_SC_EN n) = true → (s.fget (STNn_SC_CFG_FACETS n) ≤ 15 ∧ s.stnB n ≤ 32 ∧ s.fget (STNn_SC_SURVEY_BEAM n) < 32 ∧ s.fget (STNn_SC_FACET_FACET n) < 16) → ∀ (margin : Nat) (back : Int),
      (∀ e : LightEdge, e.falling = s.bit (STNn_SC_SOS_WIN_POL n) → s.fget (STNn_SC_SOS_WIN_MINW n) ≤ e.width → s.windowOpen n = true ∨ ((e.iv : Int) - s.predicted n).natAbs ≤ 64 * s.fget (STNn_SC_SOS_WIN_HALF n) →
        Runs (exec (.facetBoundary n (e, back) margin) s) (fun u => onlyLines s u n ∧ u.fget (STNn_SC_COUNT_MISSES n) = s.fget (STNn_SC_COUNT_MISSES n)
          ∧ (s.bit (STNn_SC_CTRL_SURVEY n) = false → u.fget (STNn_SC_COUNT_CONSEC n) = 0)
          ∧ (s.bit (STNn_SC_STATUS_LOST n) = false → s.bit (STNn_SC_STATUS_TRACKING n) = true → s.bit (STNn_SC_CTRL_SURVEY n) = false →
              (u.stnOf n).scan.ivs = (e.iv :: (s.stnOf n).scan.ivs).take (s.facets n) ∧ u.bit (STNn_SC_STATUS_TRACKING n) = true)))
      ∧ (∀ e : LightEdge, e.falling ≠ s.bit (STNn_SC_SOS_WIN_POL n) ∨ e.width < s.fget (STNn_SC_SOS_WIN_MINW n) ∨ (s.windowOpen n = false ∧ 64 * s.fget (STNn_SC_SOS_WIN_HALF n) < ((e.iv : Int) - s.predicted n).natAbs) →
        Runs (exec (.facetBoundary n (e, back) margin) s) (fun u => u = s))
      ∧ ((s.stnOf n).scan.ivs ≠ [] → Runs (exec (.sosMiss n back margin) s) (fun u => onlyLines s u n
          ∧ (s.safeImg = true ∨ s.ldEn n = false → u.fget (STNn_SC_COUNT_MISSES n) = s.fget (STNn_SC_COUNT_MISSES n) ∧ u.fget (STNn_SC_COUNT_CONSEC n) = s.fget (STNn_SC_COUNT_CONSEC n))
          ∧ (s.safeImg = false → s.ldEn n = true → s.bit (STNn_SC_CTRL_SURVEY n) = false →
              u.fget (STNn_SC_COUNT_CONSEC n) = min 3 (s.fget (STNn_SC_COUNT_CONSEC n) + 1) ∧ u.fget (STNn_SC_COUNT_MISSES n) = min 65535 (s.fget (STNn_SC_COUNT_MISSES n) + 1)
              ∧ u.bit (STNn_SC_STATUS_SOS_MISS n) = true
              ∧ Sent s u (timingSrc n) 0x10 ((min 3 (s.fget (STNn_SC_COUNT_CONSEC n) + 1) + 16 * ((s.fget (STNn_SC_FACET_FACET n) + 1) % s.facets n)) % 65536) 0
              ∧ (2 ≤ s.fget (STNn_SC_COUNT_CONSEC n) → s.bit (STNn_SC_STATUS_LOST n) = false → u.bit (STNn_SC_STATUS_LOST n) = true ∧ u.bit (STNn_SC_STATUS_TRACKING n) = false)
              ∧ (s.fget (STNn_SC_COUNT_CONSEC n) < 2 ∨ s.bit (STNn_SC_STATUS_LOST n) = true → u.bit (STNn_SC_STATUS_LOST n) = s.bit (STNn_SC_STATUS_LOST n))))))
    ∧ (s.isBar n = false → s.bit (STNn_SC_CTRL_SC_EN n) = true → s.bit (STNn_SC_CFG_EOS_EN n) = true →
        (∀ e : LightEdge, (s.stnOf n).scan.nf = none → e.falling = s.bit (STNn_SC_SOS_WIN_POL n) → s.fget (STNn_SC_SOS_WIN_MINW n) ≤ e.width → ((e.iv : Int) - s.fget (STNn_SC_EOS_REF_REF n)).natAbs ≤ 64 * s.fget (STNn_SC_SOS_WIN_HALF n) →
          Runs (exec (.eosEdge n e) s) (fun u => (u.stnOf n).scan.nf = some e.iv ∧ (∀ k, k ≠ n → kvGet u.stn k = kvGet s.stn k) ∧ u = { s with stn := u.stn }))
        ∧ (∀ e : LightEdge, (s.stnOf n).scan.nf ≠ none ∨ e.falling ≠ s.bit (STNn_SC_SOS_WIN_POL n) ∨ e.width < s.fget (STNn_SC_SOS_WIN_MINW n) ∨ 64 * s.fget (STNn_SC_SOS_WIN_HALF n) < ((e.iv : Int) - s.fget (STNn_SC_EOS_REF_REF n)).natAbs →
          Runs (exec (.eosEdge n e) s) (fun u => u = s))
        ∧ ((s.stnOf n).scan.nf = none → Runs (exec (.eosMiss n) s) (fun u => u.bit (STNn_SC_STATUS_EOS_MISS n) = true ∧ Sent s u (timingSrc n) 0x14 (s.fget (STNn_SC_FACET_FACET n) % 65536) 0 ∧ onlyStation s u n [STNn_SC_STATUS_EOS_MISS n]))
        ∧ ((s.stnOf n).scan.nf ≠ none → Runs (exec (.eosMiss n) s) (fun u => u = s)))
    ∧ (s.isBar n = true ∨ s.bit (STNn_SC_CTRL_SC_EN n) = false → ∀ (e : LightEdge) (back : Int) (b : Nat), Runs (exec (.facetBoundary n (e, back) b) s) (fun u => u = s) ∧ Runs (exec (.sosMiss n back b) s) (fun u => u = s)
        ∧ Runs (exec (.eosEdge n e) s) (fun u => u = s) ∧ Runs (exec (.eosMiss n) s) (fun u => u = s))
    ∧ (∀ lk seen : Fld, lk = (if s.isBar n then STNn_BR_STATUS_PIX_LOCK n else STNn_SC_STATUS_PIX_LOCK n) → seen = (if s.isBar n then STNn_BR_STATUS_PIX_UNLOCK_SEEN n else STNn_SC_STATUS_PIX_UNLOCK_SEEN n) →
        (s.bit lk = true → ∀ ref : Bool, Runs (exec (.pixUnlock n ref) s) (fun u => u.bit lk = false ∧ u.bit seen = true ∧ Sent s u (timingSrc n) 0x13 (if ref then 2 else 1) 0
            ∧ onlyStation s u n [lk, seen, STNn_SC_STATUS_PH_SETTLED n]))
        ∧ (s.bit lk = false → s.pixRuns n = true → Runs (exec (.pixLock n) s) (fun u => u.bit lk = true ∧ (u.stnOf n).lockTick.isSome = true ∧ onlyStation s u n [lk]))
        ∧ (s.bit lk = false → ∀ ref : Bool, Runs (exec (.pixUnlock n ref) s) (fun u => u = s)) ∧ (s.bit lk = true → Runs (exec (.pixLock n) s) (fun u => u = s)))
    ∧ (s.isBar n = false → s.bit (STNn_SC_CTRL_SC_EN n) = false → Runs (exec (.scanEnable n) s) (fun u => u.bit (STNn_SC_CTRL_SC_EN n) = true ∧ u.bit (STNn_SC_STATUS_TRACKING n) = false ∧ u.bit (STNn_SC_STATUS_LOST n) = false
        ∧ u.fget (STNn_SC_COUNT_CONSEC n) = 0 ∧ u.bit (STNn_HD_STATUS_HREC_BUSY n) = true ∧ (u.stnOf n).scan.ivs = []
        ∧ onlyStation s u n [STNn_SC_CTRL_SC_EN n, STNn_SC_STATUS_TRACKING n, STNn_SC_STATUS_LOST n, STNn_SC_STATUS_FACET_SYNC n, STNn_SC_STATUS_PH_SETTLED n, STNn_SC_COUNT_CONSEC n, STNn_SC_STATUS_CFG n, STNn_HD_STATUS_HREC_BUSY n]))

/-- Line boundaries, BAR_EN, the head record, the status target and the head temperature (R244, R246, R248, R257, R258, R261, R262, R264,
R265, R267, R270). Where the spec leaves a reading open, the statement rests on the model's choice: log entries 30, 31, 49. -/
def Obligations.BarLinesAndHeads : Prop :=
  ∀ (s : State) (n : Nat), n < 6 →
    (s.isBar n = true → s.bit (STNn_BR_CTRL_BAR_EN n) = true → s.beltRuns = true → ∀ (margin : Nat) (un g pos q : Int), un = s.lineUnits n → pos = s.belt - s.ofsOf n →
        g = (match (s.stnOf n).bar.hold with | some r => r.2 | none => match s.refPlane n with | some r => r.2 | none => 0) → q = g + ((((s.stnOf n).bar.maxPos <|> (s.stnOf n).bar.low).getD pos - g) / un + 1) * un →
        (pos < q → Runs (exec (.lineBoundary n margin) s) (fun u => u = s))
        ∧ (q ≤ pos → Runs (exec (.lineBoundary n margin) s) (fun u => onlyLines s u n ∧ ∃ x, (u.stnOf n).bar.maxPos = some x ∧ q ≤ x ∧ x ≤ pos
            ∧ (pos = q → (s.stnOf n).bar.hold = none → u.fget (STNn_BR_LINE_LINE n) = uint 32 ((q - g) / un))
            ∧ ((s.stnOf n).bar.hold = none → (s.stnOf n).windows = [] → s.windowSheets n = [] → x = pos / un * un ∧ u.fget (STNn_BR_LINE_LINE n) = uint 32 (pos / un)))))
    ∧ (s.isBar n = true → s.bit (STNn_BR_CTRL_BAR_EN n) = false → Runs (exec (.barEnable n) s) (fun u => u.bit (STNn_BR_CTRL_BAR_EN n) = true ∧ u.bit (STNn_BR_STATUS_LANE_DEAD n) = false ∧ u.bit (STNn_HD_STATUS_HREC_BUSY n) = true
        ∧ (u.stnOf n).bar.maxPos = none ∧ onlyStation s u n [STNn_BR_CTRL_BAR_EN n, STNn_BR_STATUS_LANE_DEAD n, STNn_BR_STATUS_CFG n, STNn_HD_STATUS_HREC_BUSY n]))
    ∧ (s.stnInUse n = false → Runs (exec (.hrecRead n) s) (fun u => u.bit (STNn_HD_STATUS_HREC_BUSY n) = true ∧ onlyFields s u [STNn_HD_STATUS_HREC_BUSY n]))
    ∧ (s.stnInUse n = true → Runs (exec (.hrecRead n) s) (fun u => u.bit (STNn_HD_STATUS_CLR_REFUSED n) = true ∧ onlyFields s u [STNn_HD_STATUS_CLR_REFUSED n]))
    ∧ (s.bit (STNn_HD_STATUS_HREC_BUSY n) = true → ∀ (rec : Option (List Byte)) (e : Nat), e = s.hrecCheck n rec → Runs (exec (.hrecDone n rec) s) (fun u => u.bit (STNn_HD_STATUS_HREC_BUSY n) = false ∧ u.fget (STNn_HD_STATUS_HREC_ERR n) = e
        ∧ u.bit (STNn_HD_STATUS_HREC_OK n) = decide (e = 0) ∧ (e ≠ 0 → Sent s u (timingSrc n) 0x22 e 0 ∧ u.fget (STNn_HD_UNITS_UNITS n) = s.fget (STNn_HD_UNITS_UNITS n))
        ∧ (∀ r, rec = some r → e = 0 → u.fget (STNn_HD_UNITS_UNITS n) = recField r 40 4 % 65536 ∧ u.fget (STNn_HD_UNITS_NDEF n) = recField r 46 2 ∧ u.fget (STNn_HD_INFO_KIND n) = recField r 5 1 % 2 ^ (STNn_HD_INFO_KIND n).width)
        ∧ onlyStation s u n [STNn_HD_STATUS_HREC_BUSY n, STNn_HD_STATUS_HREC_ERR n, STNn_HD_STATUS_HREC_OK n, STNn_HD_INFO_RANK n, STNn_HD_INFO_FEATURES n, STNn_HD_INFO_KIND n, STNn_HD_UNITS_NDEF n, STNn_HD_UNITS_UNITS n, STNn_HD_STATUS_STATUS_TGT n, STNn_HD_CRC_CRC n, cfgField s n]))
    ∧ (s.isBar n = true → s.bit (STNn_HD_STATUS_STATUS_TGT n) = true →
        Runs (exec (.headStatusRead n none) s) (fun u => u.bit (STNn_HD_STATUS_HEAD_FAULT n) = true ∧ Sent s u (timingSrc n) 0x23 3 0 ∧ onlyEvents s u [STNn_HD_STATUS_HEAD_FAULT n])
        ∧ (∀ h : HeadStat, h.cause = 4 → Runs (exec (.headStatusRead n (some h)) s) (fun u => u.bit (STNn_HD_STATUS_HEAD_FAULT n) = true ∧ Sent s u (timingSrc n) 0x23 ((0x100 + h.faultCode) % 65536) 0 ∧ onlyEvents s u [STNn_HD_STATUS_HEAD_FAULT n]))
        ∧ (∀ h : HeadStat, h.cause = 0 → Runs (exec (.headStatusRead n (some h)) s) (fun u => u.bit (STNn_HD_STATUS_HEAD_FAULT n) = false ∧ onlyFields s u [STNn_HD_STATUS_HEAD_FAULT n]))
        ∧ (∀ h e, h.cause = 2 → h.fails = [e] → (s.known n).length < 512 → (s.known n).any (fun x => x.1 == e) = false → Runs (exec (.headStatusRead n (some h)) s) (fun u => kvGet (u.known n) e = some 1 ∧ u.bit (STNn_BR_STATUS_FAIL_NEW n) = true
            ∧ Sent s u (timingSrc n) 0x19 (e % 65536) 0 ∧ onlyStation s u n [STNn_BR_STATUS_FAIL_NEW n, STNn_HD_STATUS_HEAD_FAULT n]))
        ∧ (∀ (h : HeadStat) (base : List Nat) (l : Nat), h.cause = 1 → (s.stnOf n).bar.base = some base → l < 17 → Runs (exec (.headStatusRead n (some h)) s) (fun u => u.fget (STNn_BR_LANEl_ERRS n l) = (h.lanes.getD l 0 - base.getD l 0) % 65536
            ∧ sansEvent u = { sansEvent s with stn := u.stn, led := u.led, shadow := u.shadow, shadowAt := u.shadowAt } ∧ onlyRing s u
            ∧ (∀ f : Fld, stnRegister n (f.key / 32) = false → f.key ≠ PLC_STATUS_OVERRUN.key → u.fget f = s.fget f))))
    ∧ (s.isBar n = false ∨ s.bit (STNn_HD_STATUS_STATUS_TGT n) = false → ∀ st, Runs (exec (.headStatusRead n st) s) (fun u => u = s))
    ∧ (∀ e : Nat, (e % 65536 < s.stnN n → (s.known n).length < 512 → (s.known n).any (fun x => x.1 == e % 65536) = false → Runs (exec (.defAdd n e) s) (fun u => kvGet (u.known n) (e % 65536) = some 2
            ∧ u.bit (STNn_BR_STATUS_FAIL_NEW n) = true ∧ Sent s u (timingSrc n) 0x19 (e % 65536) 0 ∧ onlyStation s u n [STNn_BR_STATUS_FAIL_NEW n]))
        ∧ (s.stnN n ≤ e % 65536 ∨ (s.known n).any (fun x => x.1 == e % 65536) = true → Runs (exec (.defAdd n e) s) (fun u => u = s)))
    ∧ (s.stnEnabled n = true → s.fget (STNn_HD_TH_CFG_TH_AIN n) < 80 → (∀ t, (s.stnOf n).head.convAt = some t → t + 250000 < s.tick) → 250000 < s.tick → s.bit (STNn_HD_STATUS_TH_STALE n) = false →
        Runs (exec (.thStale n) s) (fun u => u.bit (STNn_HD_STATUS_TH_STALE n) = true ∧ Sent s u (timingSrc n) 0x23 2 0 ∧ onlyEvents s u [STNn_HD_STATUS_TH_STALE n]))
    ∧ (s.bit (STNn_HD_STATUS_WARN n) = false → (s.stnOf n).head.hotRun = 0 → Runs (exec (.hotClear n) s) (fun u => u.bit (STNn_HD_STATUS_HOT n) = false ∧ onlyFields s u [STNn_HD_STATUS_HOT n]))
    ∧ (s.bit (STNn_HD_STATUS_WARN n) = true ∨ (s.stnOf n).head.hotRun ≠ 0 → Runs (exec (.hotClear n) s) (fun u => u.bit (STNn_HD_STATUS_CLR_REFUSED n) = true ∧ onlyFields s u [STNn_HD_STATUS_CLR_REFUSED n]))

/-- START, STOP, ENABLE = 0 and the time limits move a drive channel as the table of R282 gives (R282, R283, R285, R286, R287, R290,
R291). Where the spec leaves a reading open, the statement rests on the model's choice: log entry 13. -/
def Obligations.DriveCommandsAndTimes : Prop :=
  ∀ (s : State) (n : Nat), n < 8 →
    (s.safeCtl = false → (s.bit (DRVn_CTRL_ENABLE n) = true ∨ s.fget (DRVn_STATUS_STATE n) = 0) → ∀ st : Nat, st = s.fget (DRVn_STATUS_STATE n) →
      (st = 0 → s.bit (DRVn_CTRL_ENABLE n) = true → s.bit (DRVn_STATUS_START_FAIL n) = false → s.bit (DRVn_STATUS_ENC_LOST n) = false →
          Runs (exec (.drvStart n) s) (fun u => Drove s u n (if s.posSrc n = 1 then 7 else 1) (if s.posSrc n = 1 then .pwm else .off) ∧ u.fget (DRVn_STATUS_ATTEMPT n) = 0 ∧ onlyDrive s u n [DRVn_STATUS_STATE n, DRVn_STATUS_ATTEMPT n]))
      ∧ (st ≠ 0 ∨ s.bit (DRVn_CTRL_ENABLE n) = false ∨ s.bit (DRVn_STATUS_START_FAIL n) = true ∨ s.bit (DRVn_STATUS_ENC_LOST n) = true →
          Runs (exec (.drvStart n) s) (fun u => u.bit (DRVn_STATUS_CMD_REFUSED n) = true ∧ onlyFields s u [DRVn_STATUS_CMD_REFUSED n]))
      ∧ (st = 6 ∨ st = 7 → Runs (exec (.drvStop n) s) (fun u => Drove s u n 9 .pwm ∧ (u.drvOf n).onObs = decide (st = 6) ∧ onlyDrive s u n [DRVn_STATUS_STATE n]))
      ∧ ((1 ≤ st ∧ st ≤ 5) ∨ st = 8 → Runs (exec (.drvStop n) s) (fun u => Drove s u n 0 .off ∧ u.bit (DRVn_STATUS_READY n) = false ∧ onlyDrive s u n [DRVn_STATUS_STATE n, DRVn_STATUS_READY n, DRVn_STATUS_OBS_VALID n]))
      ∧ (st = 0 ∨ 9 ≤ st → Runs (exec (.drvStop n) s) (fun u => u = s))
      ∧ (∀ emf v : Int, v = satS 32 emf → (s.drvOf n).since + 250000 * max 1 (s.fget (DRVn_OBS_CATCH_T n)) ≤ s.tick →
          (st = 1 → s.bit (DRVn_CTRL_CATCH_EN n) = true → s.fget (DRVn_RATED_SPEED n) ≤ 20 * v.natAbs → 0 < s.drvDir n * v → Runs (exec (.catchTimeout n emf) s) (fun u => Drove s u n 6 .pwm ∧ (u.drvOf n).prof = Prof.free 0 (v * 65536) ∧ onlyDrive s u n [DRVn_STATUS_STATE n]))
          ∧ (st = 1 → s.bit (DRVn_CTRL_CATCH_EN n) = true → s.fget (DRVn_RATED_SPEED n) ≤ 20 * v.natAbs → s.drvDir n * v < 0 → Runs (exec (.catchTimeout n emf) s) (fun u => Drove s u n 2 .pwm ∧ onlyDrive s u n [DRVn_STATUS_STATE n]))
          ∧ (st = 1 → s.bit (DRVn_CTRL_CATCH_EN n) = false ∨ 20 * v.natAbs < s.fget (DRVn_RATED_SPEED n) ∨ s.drvDir n * v = 0 → Runs (exec (.catchTimeout n emf) s) (fun u => Drove s u n 3 .pwm ∧ onlyDrive s u n [DRVn_STATUS_STATE n]))
          ∧ (st = 8 → s.fget (DRVn_COUNT_RECATCH n) < 3 → s.fget (DRVn_RATED_SPEED n) ≤ 20 * v.natAbs → 0 < s.drvDir n * v → Runs (exec (.catchTimeout n emf) s) (fun u => Drove s u n 6 .pwm ∧ u.fget (DRVn_COUNT_RECATCH n) = s.fget (DRVn_COUNT_RECATCH n) + 1
              ∧ onlyDrive s u n [DRVn_STATUS_STATE n, DRVn_COUNT_RECATCH n]))
          ∧ (st = 8 → 3 ≤ s.fget (DRVn_COUNT_RECATCH n) ∨ 20 * v.natAbs < s.fget (DRVn_RATED_SPEED n) ∨ s.drvDir n * v ≤ 0 → Runs (exec (.catchTimeout n emf) s) (fun u => Drove s u n 10 .off ∧ u.bit (DRVn_STATUS_READY n) = false
              ∧ Sent s u (0x140 + 2 * n) 0x02 (s.fget (DRVn_COUNT_RECATCH n) % 65536) 0 ∧ onlyDrive s u n [DRVn_STATUS_STATE n, DRVn_STATUS_READY n])))
      ∧ (∀ emf : Int, s.tick < (s.drvOf n).since + 250000 * max 1 (s.fget (DRVn_OBS_CATCH_T n)) → Runs (exec (.catchTimeout n emf) s) (fun u => u = s))
      ∧ (st = 3 → (s.drvOf n).since + 250000 * s.fget (DRVn_ALIGN_T n) ≤ s.tick → Runs (exec (.alignTimeout n) s) (fun u => Drove s u n 4 .pwm ∧ (u.drvOf n).openTheta = 0 ∧ onlyDrive s u n [DRVn_STATUS_STATE n]))
      ∧ (st = 4 → (s.drvOf n).since + 250000 * s.fget (DRVn_RAMP_T n) ≤ s.tick → Runs (exec (.rampTimeout n) s) (fun u => Drove s u n 5 .pwm ∧ onlyDrive s u n [DRVn_STATUS_STATE n]))
      ∧ (st = 5 → (s.drvOf n).since + 250000 * s.fget (DRVn_OBS_OBS_T n) ≤ s.tick → (s.drvOf n).converged = false → (s.fget (DRVn_STATUS_ATTEMPT n) < 3 → Runs (exec (.observeTimeout n) s) (fun u => Drove s u n 1 .off ∧ u.fget (DRVn_STATUS_ATTEMPT n) = s.fget (DRVn_STATUS_ATTEMPT n) + 1 ∧ u.fget (DRVn_COUNT_RETRIES n) = min 4095 (s.fget (DRVn_COUNT_RETRIES n) + 1)
            ∧ Sent s u (0x141 + 2 * n) 0x13 (s.fget (DRVn_STATUS_ATTEMPT n) + 1 + 16 * 1) 0 ∧ onlyDrive s u n [DRVn_STATUS_STATE n, DRVn_STATUS_READY n, DRVn_STATUS_ATTEMPT n, DRVn_STATUS_START_FAIL n, DRVn_STATUS_START_CAUSE n, DRVn_COUNT_RETRIES n]))
          ∧ (3 ≤ s.fget (DRVn_STATUS_ATTEMPT n) → Runs (exec (.observeTimeout n) s) (fun u => Drove s u n 10 .off ∧ u.bit (DRVn_STATUS_START_FAIL n) = true ∧ u.fget (DRVn_STATUS_START_CAUSE n) = 1 ∧ u.bit (DRVn_STATUS_READY n) = false
            ∧ Sent s u (0x140 + 2 * n) 0x01 1 0 ∧ onlyDrive s u n [DRVn_STATUS_STATE n, DRVn_STATUS_READY n, DRVn_STATUS_ATTEMPT n, DRVn_STATUS_START_FAIL n, DRVn_STATUS_START_CAUSE n, DRVn_COUNT_RETRIES n])))
      ∧ (st = 6 → s.posSrc n = 0 → (s.drvOf n).indexed = false → s.fget (DRVn_OBS_ZWAIT n) * s.drvCpr n ≤ (sext 32 (s.fget (DRVn_POS_POS n)) - (s.drvOf n).posEntry).natAbs → (s.fget (DRVn_STATUS_ATTEMPT n) < 3 → Runs (exec (.zwaitExpiry n) s) (fun u => Drove s u n 1 .off ∧ u.fget (DRVn_STATUS_ATTEMPT n) = s.fget (DRVn_STATUS_ATTEMPT n) + 1 ∧ u.fget (DRVn_COUNT_RETRIES n) = min 4095 (s.fget (DRVn_COUNT_RETRIES n) + 1)
            ∧ Sent s u (0x141 + 2 * n) 0x13 (s.fget (DRVn_STATUS_ATTEMPT n) + 1 + 16 * 2) 0 ∧ onlyDrive s u n [DRVn_STATUS_STATE n, DRVn_STATUS_READY n, DRVn_STATUS_ATTEMPT n, DRVn_STATUS_START_FAIL n, DRVn_STATUS_START_CAUSE n, DRVn_COUNT_RETRIES n]))
          ∧ (3 ≤ s.fget (DRVn_STATUS_ATTEMPT n) → Runs (exec (.zwaitExpiry n) s) (fun u => Drove s u n 10 .off ∧ u.bit (DRVn_STATUS_START_FAIL n) = true ∧ u.fget (DRVn_STATUS_START_CAUSE n) = 2 ∧ u.bit (DRVn_STATUS_READY n) = false
            ∧ Sent s u (0x140 + 2 * n) 0x01 2 0 ∧ onlyDrive s u n [DRVn_STATUS_STATE n, DRVn_STATUS_READY n, DRVn_STATUS_ATTEMPT n, DRVn_STATUS_START_FAIL n, DRVn_STATUS_START_CAUSE n, DRVn_COUNT_RETRIES n])))
      ∧ (∀ t, st = 9 → (s.drvOf n).onObs = false → (s.drvOf n).zeroSince = some t → t + 25000000 ≤ s.tick → Runs (exec (.stoppedEv n) s) (fun u => Drove s u n 0 .off ∧ onlyDrive s u n [DRVn_STATUS_STATE n, DRVn_STATUS_READY n, DRVn_STATUS_OBS_VALID n]))
      ∧ (st = 9 → (s.drvOf n).onObs = true → 20 * (s.drvSpeed n).natAbs < s.fget (DRVn_RATED_SPEED n) → Runs (exec (.stoppedEv n) s) (fun u => Drove s u n 0 .off ∧ onlyDrive s u n [DRVn_STATUS_STATE n, DRVn_STATUS_READY n, DRVn_STATUS_OBS_VALID n])))
    ∧ (s.bit (DRVn_CTRL_ENABLE n) = true → Runs (exec (.drvDisable n) s) (fun u => u.bit (DRVn_CTRL_ENABLE n) = false ∧ Drove s u n 0 .off ∧ u.bit (DRVn_STATUS_READY n) = false ∧ onlyDrive s u n (DRVn_CTRL_ENABLE n :: [DRVn_STATUS_STATE n, DRVn_STATUS_READY n, DRVn_STATUS_OBS_VALID n])))
    ∧ (s.safeCtl = true → ∀ emf, ∀ c ∈ [Instr.drvStart n, .drvStop n, .catchTimeout n emf, .alignTimeout n, .rampTimeout n, .observeTimeout n, .zwaitExpiry n, .stoppedEv n],
        Runs (exec c s) (fun u => Drove s u n 0 (if s.bit (DRVn_CTRL_SAFE_MODE n) then .brake else .off) ∧ u.fget (DRVn_STATUS_ATTEMPT n) = 0 ∧ onlyDrive s u n (DRVn_STATUS_ATTEMPT n :: [DRVn_STATUS_STATE n, DRVn_STATUS_READY n, DRVn_STATUS_OBS_VALID n])))
    ∧ (s.fget (DRVn_STATUS_STATE n) = 6 ∨ s.fget (DRVn_STATUS_STATE n) = 7 → (s.drvOf n).calmSince + 250000000 ≤ s.tick → Runs (exec (.recatchReset n) s) (fun u => u.fget (DRVn_COUNT_RECATCH n) = 0 ∧ onlyFields s u [DRVn_COUNT_RECATCH n]))
    ∧ (s.bit (DRVn_STATUS_ENC_LOST n) = true →
        (s.fget (DRVn_STATUS_STATE n) = 0 → Runs (exec (.drvEncLostClear n false) s) (fun u => u.bit (DRVn_STATUS_ENC_LOST n) = false ∧ onlyDrive s u n [DRVn_STATUS_ENC_LOST n]))
        ∧ (∀ b, b = true ∨ s.fget (DRVn_STATUS_STATE n) ≠ 0 → Runs (exec (.drvEncLostClear n b) s) (fun u => u.bit (DRVn_STATUS_CMD_REFUSED n) = true ∧ onlyDrive s u n [DRVn_STATUS_CMD_REFUSED n])))
    ∧ (∀ t, s.drvReadyNow n = true → (s.drvOf n).tolSince = some t → t + 250000 * s.fget (DRVn_READY_READY_T n) ≤ s.tick → s.bit (DRVn_STATUS_READY n) = false →
        Runs (exec (.readyEv n) s) (fun u => u.bit (DRVn_STATUS_READY n) = true ∧ onlyEvents s u [DRVn_STATUS_READY n]))
    ∧ (s.drvReadyNow n = false → Runs (exec (.readyEv n) s) (fun u => u = s))

/-- Valleys, encoder counts, the index, the resolver, an encoder loss and the KE estimate (R274, R275, R276, R278, R280, R281, R282, R284,
R287, R288, R289). Where the spec leaves a reading open, the statement rests on the model's choice: log entries 13, 50. -/
def Obligations.DriveSamples : Prop :=
  ∀ (s : State) (n : Nat), n < 8 →
    (∀ x : DrvSample, s.safeCtl = false → s.bit (DRVn_CTRL_ENABLE n) = true → Runs (exec (.drvValley n x) s) (fun u => onlySamples s u n ∧ (u.drvOf n).duty = (s.drvOf n).nextDuty
        ∧ (u.drvOf n).obsAngle = x.obsAngle % 65536 ∧ (u.drvOf n).obsSpeed = satS 32 x.obsSpeed
        ∧ (3 ≤ s.fget (DRVn_STATUS_STATE n) → s.fget (DRVn_STATUS_STATE n) ≤ 9 → s.fget (DRVn_LIMIT_I_MAX n) * 1000 < (s.uA n x.ia).natAbs →
            u.fget (DRVn_STATUS_STATE n) = 10 ∧ u.bit (DRVn_STATUS_OVERCURRENT n) = true ∧ (u.drvOf n).gates = .off ∧ (⟨0x140 + 2 * n, 0x03, 1, 0⟩ : FaultMsg) ∈ u.faultQ)))
    ∧ (∀ x : DrvSample, s.safeCtl = true → Runs (exec (.drvValley n x) s) (fun u => Drove s u n 0 (if s.bit (DRVn_CTRL_SAFE_MODE n) then .brake else .off) ∧ onlySamples s u n))
    ∧ (s.bit (DRVn_CTRL_ENABLE n) = true → s.posSrc n = 0 →
        (∀ up : Bool, Runs (exec (.drvEncoderCount n up) s) (fun u => u.fget (DRVn_POS_POS n) = uint 32 (sext 32 (s.fget (DRVn_POS_POS n)) + if up then 1 else -1) ∧ onlyDrive s u n [DRVn_POS_POS n, DRVn_COUNT_JITTER n]))
        ∧ (s.safeCtl = false → s.fget (DRVn_STATUS_STATE n) = 6 → (s.drvOf n).indexed = false → Runs (exec (.drvIndex n) s) (fun u => Drove s u n 7 .pwm ∧ u.bit (DRVn_STATUS_COMM_VALID n) = true ∧ (u.drvOf n).indexed = true
            ∧ u.fget (DRVn_ANGLE_COMM_OFS n) = uint 16 (((s.drvOf n).obsAngle : Int) - (s.posTheta n (sext 32 (s.fget (DRVn_POS_POS n))) : Int))
            ∧ keepsFields s u [DRVn_STATUS_STATE n, DRVn_STATUS_COMM_VALID n, DRVn_ANGLE_COMM_OFS n, PLC_STATUS_OVERRUN] ∧ (∀ k, k ≠ n → kvGet u.drv k = kvGet s.drv k) ∧ sansEvent u = { sansEvent s with drv := u.drv, stn := u.stn } ∧ onlyRing s u))
        ∧ (s.safeCtl = false → s.fget (DRVn_STATUS_STATE n) ≠ 6 → (s.drvOf n).indexed = false → Runs (exec (.drvIndex n) s) (fun u => (∀ k, k < 6 → s.bit (STNn_SC_CFG_FACET_SRC k) = false → s.fget (STNn_SC_CFG_FACET_DRV k) = n → s.bit (STNn_SC_CTRL_SC_EN k) = true →
            (u.stnOf k).scan.zNext = true) ∧ keepsFields s u [PLC_STATUS_OVERRUN] ∧ sansEvent u = { sansEvent s with stn := u.stn } ∧ onlyRing s u)))
    ∧ (s.bit (DRVn_CTRL_ENABLE n) = false ∨ s.posSrc n ≠ 0 → (∀ up, Runs (exec (.drvEncoderCount n up) s) (fun u => u = s)) ∧ Runs (exec (.drvIndex n) s) (fun u => u = s))
    ∧ (∀ c : Nat, (c = 4 ∧ s.posSrc n = 1) ∨ ((c = 1 ∨ c = 2) ∧ s.posSrc n = 0) → s.bit (DRVn_CTRL_ENABLE n) = true → Runs (exec (.drvEncLost n c) s) (fun u => u.bit (DRVn_STATUS_ENC_LOST n) = true ∧ Sent s u (0x141 + 2 * n) 0x10 (c % 65536) 0
        ∧ (s.safeCtl = false → s.fget (DRVn_STATUS_STATE n) = 7 → s.fget (DRVn_RATED_SPEED n) ≤ 20 * (s.drvSpeed n).natAbs → Drove s u n 6 .pwm ∧ (u.drvOf n).fallback = true)
        ∧ (s.safeCtl = false → s.fget (DRVn_STATUS_STATE n) = 7 → 20 * (s.drvSpeed n).natAbs < s.fget (DRVn_RATED_SPEED n) → Drove s u n 10 .off ∧ (⟨0x140 + 2 * n, 0x04, c % 65536, 0⟩ : FaultMsg) ∈ u.faultQ)
        ∧ keepsFields s u [DRVn_STATUS_STATE n, DRVn_STATUS_ENC_LOST n, DRVn_STATUS_READY n, DRVn_STATUS_OBS_VALID n, DRVn_STATUS_ATTEMPT n, DRVn_STATUS_START_FAIL n, DRVn_STATUS_START_CAUSE n, DRVn_COUNT_RETRIES n, PLC_STATUS_OVERRUN]
        ∧ (∀ k, k ≠ n → kvGet u.drv k = kvGet s.drv k) ∧ sansEvent u = { sansEvent s with drv := u.drv, led := u.led } ∧ onlyRing s u))
    ∧ (∀ c : Nat, c = 1 ∨ c = 2 ∨ c = 4 → s.bit (DRVn_CTRL_ENABLE n) = false ∨ s.posSrc n ≠ (if c = 4 then 1 else 0) → Runs (exec (.drvEncLost n c) s) (fun u => u = s))
    ∧ (∀ (sin cos ang : Nat) (v : Int), ang = Config.resolverAngle ((sin : Int) - 32768) ((cos : Int) - 32768) % 65536 → s.bit (DRVn_CTRL_ENABLE n) = true → s.posSrc n = 1 → s.safeCtl = false → Runs (exec (.resolverSample n sin cos v) s) (fun u => onlySamples s u n
        ∧ (u.drvOf n).resAngle = ang ∧ (u.drvOf n).resSpeed = satS 32 v ∧ u.fget (DRVn_POS_POS n) = uint 32 (sext 32 (s.fget (DRVn_POS_POS n)) + sext 16 (uint 16 ((ang : Int) - (s.drvOf n).resAngle)))))
    ∧ (s.bit (DRVn_CTRL_ENABLE n) = false → ∀ vll, Runs (exec (.keEstimate n vll) s) (fun u => u = s))
    ∧ (∀ vll k : Nat, s.bit (DRVn_CTRL_ENABLE n) = true → (s.drvOf n).steadySince = none → s.fget (DRVn_STATUS_STATE n) = 1 ∨ s.fget (DRVn_STATUS_STATE n) = 8 → s.fget (DRVn_RATED_SPEED n) ≤ 20 * (s.drvOf n).obsSpeed.natAbs → (s.drvOf n).obsSpeed ≠ 0 →
        (vll : Int) * 65536 = k * ((s.drvOf n).obsSpeed.natAbs * 60 : Nat) → Runs (exec (.keEstimate n vll) s) (fun u => u.fget (DRVn_KE_KE n) = min (2 ^ 24 - 1) k ∧ onlyDrive s u n [DRVn_KE_KE n, DRVn_STATUS_KE_BAD n]
          ∧ (s.fget (DRVn_KE_CFG_KE_NOM n) ≠ 0 → s.fget (DRVn_KE_CFG_KE_NOM n) * (100 + s.fget (DRVn_KE_CFG_KE_TOL n)) < min (2 ^ 24 - 1) k * 100 → u.bit (DRVn_STATUS_KE_BAD n) = true ∧ Sent s u (0x141 + 2 * n) 0x12 (min 65535 (min (2 ^ 24 - 1) k / 16)) 0)))

/-- MOVE to SETPOS, STOP, HALT and ENABLE = 0 on a path axis (R294, R296, R299, R313, R315, R316, R317, R320). Where the spec leaves a
reading open, the statement rests on the model's choice: log entries 12, 14, 50. -/
def Obligations.AxisCommands : Prop :=
  ∀ (s : State) (n st : Nat), n < 20 → st = s.fget (AXSn_STATUS_STATE n) →
    (s.safeCtl = false → (s.axsOf n).repower = none → s.classE n = false → s.bit (AXSn_STATUS_POWERED_DOWN n) = false → st = 1 ∨ st = 2 →
      (s.axsNoLim n = false → ∀ tg : Int, tg = sext 32 (s.fget (AXSn_TARGET_VALUE n)) →
        (s.limitAt n (tg - s.axsPos n).sign = false → Runs (exec (.moveEv n) s) (fun u => u.fget (AXSn_STATUS_STATE n) = 2 ∧ u.bit (AXSn_STATUS_REMAIN_VALID n) = false ∧ (u.axsOf n).target = tg ∧ (u.axsOf n).posMode = true
          ∧ (u.axsOf n).resumed = false ∧ (u.axsOf n).prof = (s.axsOf n).prof ∧ ((s.axsOf n).prof.v = 0 → (u.axsOf n).motion = .move) ∧ onlyAxis s u n [AXSn_STATUS_STATE n, AXSn_STATUS_REMAIN_VALID n, AXSn_DRIVE_I_APPLIED n]))
        ∧ (s.limitAt n (tg - s.axsPos n).sign = true → Runs (exec (.moveEv n) s) (fun u => u.bit (AXSn_STATUS_CMD_REFUSED n) = true ∧ onlyFields s u [AXSn_STATUS_CMD_REFUSED n])))
      ∧ (s.axsNoLim n = false → ∀ v : Int, v = sext 32 (s.fget (AXSn_VTARGET_VALUE n)) →
        (s.limitAt n v.sign = false → Runs (exec (.velEv n) s) (fun u => u.fget (AXSn_STATUS_STATE n) = 2 ∧ u.bit (AXSn_STATUS_REMAIN_VALID n) = false ∧ (u.axsOf n).motion = .vel ∧ (u.axsOf n).vt = v ∧ (u.axsOf n).posMode = false
          ∧ (u.axsOf n).prof = (s.axsOf n).prof ∧ onlyAxis s u n [AXSn_STATUS_STATE n, AXSn_STATUS_REMAIN_VALID n, AXSn_DRIVE_I_APPLIED n]))
        ∧ (s.limitAt n v.sign = true → Runs (exec (.velEv n) s) (fun u => u.bit (AXSn_STATUS_CMD_REFUSED n) = true ∧ onlyFields s u [AXSn_STATUS_CMD_REFUSED n])))
      ∧ (∀ rem : Int, rem = sext 32 (s.fget (AXSn_REMAIN_VALUE n)) →
        (st = 1 → s.bit (AXSn_STATUS_REMAIN_VALID n) = true → s.bit (AXSn_STATUS_POS_UNC n) = false → s.limitAt n rem.sign = false → Runs (exec (.resumeEv n) s) (fun u => u.fget (AXSn_STATUS_STATE n) = 2 ∧ (u.axsOf n).target = s.axsPos n + rem
          ∧ (u.axsOf n).posMode = true ∧ (u.axsOf n).resumed = true ∧ onlyAxis s u n [AXSn_STATUS_STATE n, AXSn_DRIVE_I_APPLIED n]))
        ∧ (st = 2 ∨ s.bit (AXSn_STATUS_REMAIN_VALID n) = false ∨ s.bit (AXSn_STATUS_POS_UNC n) = true ∨ s.limitAt n rem.sign = true → Runs (exec (.resumeEv n) s) (fun u => u.bit (AXSn_STATUS_CMD_REFUSED n) = true ∧ onlyFields s u [AXSn_STATUS_CMD_REFUSED n])))
      ∧ (∀ r, r = s.homeRef n → st = 1 → s.axsNoLim n = false → s.standstill n = true → r.2.1 ≠ 0x7F → s.fget (AXSn_HOME_V_V_SLOW n) ≠ 0 → s.fget (AXSn_HOME_V_V_FAST n) ≠ 0 → (r.2.2 = 0 ∨ r.2.2 = s.homeDir n) → Runs (exec (.homeEv n) s) (fun u =>
          u.fget (AXSn_STATUS_STATE n) = 4 ∧ u.bit (AXSn_STATUS_REMAIN_VALID n) = false ∧ (u.axsOf n).motion = .vel ∧ onlyAxis s u n [AXSn_STATUS_STATE n, AXSn_STATUS_REMAIN_VALID n, AXSn_DRIVE_I_APPLIED n]
          ∧ (r.1.level = false → (u.axsOf n).hst = .fast ∧ (u.axsOf n).vt = s.homeDir n * s.fget (AXSn_HOME_V_V_FAST n) * 65536) ∧ (r.1.level = true → (u.axsOf n).hst = .clear ∧ (u.axsOf n).vt = -(s.homeDir n) * s.fget (AXSn_HOME_V_V_SLOW n) * 65536)))
      ∧ (st = 2 ∨ s.standstill n = false ∨ (s.homeRef n).2.1 = 0x7F → Runs (exec (.homeEv n) s) (fun u => u.bit (AXSn_STATUS_CMD_REFUSED n) = true ∧ onlyFields s u [AXSn_STATUS_CMD_REFUSED n])))
    ∧ (s.safeCtl = false → (s.axsOf n).repower = none → st = 1 ∨ st = 2 ∨ st = 5 → s.standstill n = false → Runs (exec (.setposEv n) s) (fun u => u.bit (AXSn_STATUS_CMD_REFUSED n) = true ∧ onlyFields s u [AXSn_STATUS_CMD_REFUSED n]))
    ∧ (s.safeCtl = false → (s.axsOf n).repower = none → st = 1 ∨ st = 5 → s.standstill n = true → Runs (exec (.setposEv n) s) (fun u => u.fget (AXSn_POS_VALUE n) = s.fget (AXSn_TARGET_VALUE n) % 2 ^ 32
        ∧ u.fget (AXSn_EXT_COUNT_VALUE n) = s.fget (AXSn_TARGET_VALUE n) % 2 ^ 32 ∧ u.bit (AXSn_STATUS_POS_UNC n) = false ∧ u.bit (AXSn_STATUS_REMAIN_VALID n) = false
        ∧ onlyAxis s u n [AXSn_POS_VALUE n, AXSn_EXT_COUNT_VALUE n, AXSn_STATUS_POS_UNC n, AXSn_STATUS_REMAIN_VALID n]))
    ∧ (st = 0 ∨ st = 6 ∨ s.safeCtl = true → ∀ c ∈ [Instr.moveEv n, .velEv n, .resumeEv n, .homeEv n, .setposEv n], Runs (exec c s) (fun u => u.bit (AXSn_STATUS_CMD_REFUSED n) = true ∧ onlyFields s u [AXSn_STATUS_CMD_REFUSED n]))
    ∧ (st ≠ 0 → st ≠ 6 → st ≠ 3 → s.safeCtl = false → (s.axsOf n).repower = none → s.classE n = true → ∀ c ∈ [Instr.moveEv n, .velEv n, .resumeEv n, .homeEv n], Runs (exec c s) (fun u => u.bit (AXSn_STATUS_CMD_REFUSED n) = true ∧ onlyFields s u [AXSn_STATUS_CMD_REFUSED n]))
    ∧ (st = 3 → s.safeCtl = false → ∀ c ∈ [(Instr.moveEv n, 1), (.velEv n, 2), (.resumeEv n, 5), (.homeEv n, 6), (.setposEv n, 7)], Runs (exec c.1 s) (fun u => u = s.modAxs n (fun x => { x with queued := some c.2 })))
    ∧ (s.classE n = false → (s.axsOf n).prof.v ≠ 0 →
        (st = 2 → (s.axsOf n).hst = .none → Runs (exec (.axsStop n) s) (fun u => u.fget (AXSn_STATUS_STATE n) = 3 ∧ (u.axsOf n).motion = .ramp ∧ (u.axsOf n).prof = (s.axsOf n).prof ∧ onlyAxis s u n [AXSn_STATUS_STATE n]))
        ∧ (st = 4 → (s.axsOf n).hst ≠ .none → Runs (exec (.axsStop n) s) (fun u => u.fget (AXSn_STATUS_STATE n) = 3 ∧ (u.axsOf n).motion = .ramp ∧ (u.axsOf n).hst = .none ∧ u.bit (AXSn_STATUS_HOME_FAIL n) = true ∧ u.fget (AXSn_STATUS_HOME_CAUSE n) = 4
            ∧ u.bit (AXSn_STATUS_HOMED n) = false ∧ Sent s u (0x160 + 2 * n) 0x03 4 0 ∧ onlyAxis s u n [AXSn_STATUS_STATE n, AXSn_STATUS_HOME_FAIL n, AXSn_STATUS_HOME_CAUSE n, AXSn_STATUS_HOMED n])))
    ∧ (st ≠ 2 → st ≠ 4 → st ≠ 5 → Runs (exec (.axsStop n) s) (fun u => u = s))
    ∧ (st = 2 → (s.axsOf n).hst = .none → (s.axsOf n).queued = none → Runs (exec (.haltEv n) s) (fun u => u.fget (AXSn_STATUS_STATE n) = 1 ∧ (u.axsOf n).motion = .rest ∧ (u.axsOf n).prof.v = 0 ∧ (u.axsOf n).prof.a = 0 ∧ u.fget (AXSn_POS_VALUE n) = s.fget (AXSn_POS_VALUE n)
        ∧ ((s.axsOf n).posMode = true → (s.axsOf n).target ≠ s.axsPos n → u.fget (AXSn_REMAIN_VALUE n) = uint 32 ((s.axsOf n).target - s.axsPos n) ∧ u.bit (AXSn_STATUS_REMAIN_VALID n) = true)
        ∧ (s.fget (AXSn_VLIM_V_HARD n) * 2 ^ 32 < (s.axsOf n).prof.v.natAbs → u.bit (AXSn_STATUS_POS_UNC n) = true)
        ∧ onlyAxis s u n [AXSn_STATUS_STATE n, AXSn_STATUS_POS_UNC n, AXSn_REMAIN_VALUE n, AXSn_STATUS_REMAIN_VALID n, AXSn_EXT_COUNT_VALUE n]))
    ∧ (st = 0 ∨ st = 6 → Runs (exec (.haltEv n) s) (fun u => u = s))
    ∧ (s.bit (AXSn_CTRL_ENABLE n) = true → Runs (exec (.axsDisable n) s) (fun u => u.bit (AXSn_CTRL_ENABLE n) = false ∧ u.fget (AXSn_STATUS_STATE n) = 0 ∧ (u.axsOf n).coilA = .off ∧ (u.axsOf n).coilB = .off
        ∧ (st ≠ 0 → st ≠ 6 → (u.axsOf n).prof.v = 0) ∧ onlyAxisTick s u n))

/-- The axis tick, step edges, chopper periods, standstill and power-down (R295, R301, R303, R306, R307, R308, R311, R312, R313, R314).
Where the spec leaves a reading open, the statement rests on the model's choice: log entries 12, 14. -/
def Obligations.AxisTicks : Prop :=
  ∀ (s : State) (n st : Nat), n < 20 → st = s.fget (AXSn_STATUS_STATE n) →
    Runs (exec (.axsTick n) s) (fun u => onlyAxisTick s u n
      ∧ (s.bit (AXSn_CTRL_ENABLE n) = false ∨ st = 0 → u = s.applyShadow (axsShadows n))
      ∧ (s.bit (AXSn_CTRL_ENABLE n) = true → st ≠ 0 → st ≠ 6 → s.safeCtl = true → u.fget (AXSn_STATUS_STATE n) = 6 ∧ (u.axsOf n).prof.v = 0 ∧ (u.axsOf n).coilA = .off ∧ (u.axsOf n).coilB = .off)
      ∧ (∀ (x : State) (side : Nat), s.bit (AXSn_CTRL_ENABLE n) = true → st ≠ 0 → st ≠ 6 → s.safeCtl = false → x = ((s.applyShadow (axsShadows n)).axsInputs n).1 → x.limitHit? n = some side →
          u.bit (AXSn_STATUS_LIMIT_HIT n) = true ∧ (⟨0x161 + 2 * n, 0x10, side, 0⟩ : FaultMsg) ∈ u.faultQ ∧ (s.bit (AXSn_CTRL_LIM_RAMP n) = false → (u.axsOf n).prof.v = 0)))
    ∧ (∀ (dir : Bool) (sg : Int), sg = (if dir = s.bit (AXSn_EXT_DIR_POL n) then -1 else 1) → s.classE n = true → s.undriven n = false → (s.axsOf n).edgeAt = none →
        (s.limitAt n sg = true → Runs (exec (.stepEdge n dir) s) (fun u => u.fget (AXSn_EXT_COUNT_VALUE n) = s.fget (AXSn_POS_VALUE n) % 2 ^ 32 ∧ onlyFields s u [AXSn_EXT_COUNT_VALUE n]))
        ∧ (s.limitAt n sg = false → s.bit (AXSn_STATUS_STALL n) = false → Runs (exec (.stepEdge n dir) s) (fun u => onlyAxisTick s u n ∧ (2 * (s.extStep n).natAbs < (s.extCount n + sg * s.extStep n - s.axsPos n).natAbs → u.bit (AXSn_STATUS_LAG n) = true)
            ∧ ((s.extCount n + sg * s.extStep n - s.axsPos n).natAbs ≤ 2 * (s.extStep n).natAbs → u.fget (AXSn_EXT_COUNT_VALUE n) = uint 32 (s.extCount n + sg * s.extStep n) ∧ (u.axsOf n).edgeAt = some s.tick ∧ u.fget (AXSn_STATUS_STATE n) = 5 ∧ u.fget (AXSn_POS_VALUE n) = s.fget (AXSn_POS_VALUE n) ∧ onlyAxis s u n [AXSn_EXT_COUNT_VALUE n, AXSn_STATUS_STATE n, AXSn_DRIVE_I_APPLIED n]))))
    ∧ (s.classE n = false → ∀ dir, Runs (exec (.stepEdge n dir) s) (fun u => u = s))
    ∧ (∀ a b : Option Nat, Runs (exec (.chopPeriodStart n a b) s) (fun u => onlyAxis s u n []
        ∧ (s.undriven n = true → (u.axsOf n).coilA = .off ∧ (u.axsOf n).coilB = .off)
        ∧ (s.undriven n = false → (u.axsOf n).coilA = s.coilDrive n (s.coilTab n).1 ∧ (u.axsOf n).coilB = s.coilDrive n (s.coilTab n).2)
        ∧ (s.undriven n = false → s.bit (AXSn_STATUS_STRONG n) = true → (s.axsOf n).motion ≠ .rest → (u.axsOf n).onNum = (s.axsOf n).onNum + 1
            ∧ (u.axsOf n).onSum = (s.axsOf n).onSum + (if (s.coilTab n).2.natAbs ≤ (s.coilTab n).1.natAbs then a else b).getD (s.fget (AXSn_CHOP_CHOP_PER n) * 4 - s.fget (AXSn_CHOP_BLANK n) * 16))))
    ∧ (s.undriven n = false → s.standstill n = true → Runs (exec (.standstillEv n) s) (fun u => u.fget (AXSn_DRIVE_I_APPLIED n) = s.fget (AXSn_HOLD_I_HOLD n) % 2 ^ (AXSn_DRIVE_I_APPLIED n).width ∧ onlyFields s u [AXSn_DRIVE_I_APPLIED n]))
    ∧ (s.undriven n = true ∨ s.standstill n = false → Runs (exec (.standstillEv n) s) (fun u => u = s) ∧ Runs (exec (.poweredDown n) s) (fun u => u = s))
    ∧ (s.undriven n = false → s.standstill n = true → s.bit (AXSn_CTRL_POWERDOWN n) = true → (s.axsOf n).repower = none → (s.axsOf n).zeroSince + 500000 * max 1 (s.fget (AXSn_HOLD_STANDSTILL_T n)) ≤ s.tick →
        Runs (exec (.poweredDown n) s) (fun u => u.bit (AXSn_STATUS_POWERED_DOWN n) = true ∧ (u.axsOf n).coilA = .off ∧ (u.axsOf n).coilB = .off ∧ onlyAxis s u n [AXSn_STATUS_POWERED_DOWN n]))
    ∧ (∀ t, (s.axsOf n).repower = some t → (t ≤ s.tick → (s.axsOf n).queued = none → Runs (exec (.axsRepower n) s) (fun u => (u.axsOf n).repower = none ∧ (u.axsOf n).prof = (s.axsOf n).prof ∧ onlyAxis s u n []))
        ∧ (s.tick < t → Runs (exec (.axsRepower n) s) (fun u => u = s)))
    ∧ (s.bit (AXSn_STATUS_POS_UNC n) = true → (s.standstill n = true → Runs (exec (.posUncClear n) s) (fun u => u.bit (AXSn_STATUS_POS_UNC n) = false ∧ onlyFields s u [AXSn_STATUS_POS_UNC n]))
        ∧ (s.standstill n = false → Runs (exec (.posUncClear n) s) (fun u => u.bit (AXSn_STATUS_CMD_REFUSED n) = true ∧ onlyFields s u [AXSn_STATUS_CMD_REFUSED n])))

/-- LRUN runs one sample of a loop descriptor, or is refused; APPLY and ENABLE check its configuration (R58, R90, R327, R330, R331, R332,
R334). Where the spec leaves a reading open, the statement rests on the model's choice: log entry 33. -/
def Obligations.LoopSamples : Prop :=
  ∀ (p : Nat) (n : BitVec 6) (s : State) (i : Nat) (t : Task), onEngine s p i t →
    (isLoopEngine p = false → s.replaying = false → Runs (exec (.lrun p n) s) (fun u => Trapped s u i t 0x01 t.arch.pc.toNat))
    ∧ (isLoopEngine p = true → (s.sramRead (Config.loopAddr n.toNat) 4).2 = false → s.loopRefused n.toNat i = true → Runs (exec (.lrun p n) s) (fun u => u.bit (LOOPn_STATUS_REFUSED n.toNat) = true ∧ (∃ w, u.task? i = some w ∧ w.arch = { t.arch with pc := t.arch.pc + 1 } ∧ w.cyc = t.cyc + 12 + (s.loopM n.toNat + 3) / 4) ∧ onlyEvents s u [LOOPn_STATUS_REFUSED n.toNat]))
    ∧ (isLoopEngine p = true → (s.sramRead (Config.loopAddr n.toNat) 4).2 = false → s.loopRefused n.toNat i = false → s.inBackup = false → s.safeCtl = false → s.replaying = false → s.bit (LOOPn_STATUS_APPLY_PENDING n.toNat) = false →
        s.nx n.toNat ≤ 8 → s.ny n.toNat ≤ 4 → s.nu n.toNat ≤ 4 → ∀ lo hi : Nat → Int, (∀ j, lo j = sext 32 (s.fget (LOOPn_U_MINj_VALUE n.toNat j))) → (∀ j, hi j = sext 32 (s.fget (LOOPn_U_MAXj_VALUE n.toNat j))) →
        ((∀ j, j < s.nu n.toNat → s.dstCode n.toNat j / 4096 = 0) → Runs (exec (.lrun p n) s) (fun u => (∃ w, u.task? i = some w ∧ w.arch = { t.arch with pc := t.arch.pc + 1 } ∧ w.cyc = t.cyc + 12 + (s.loopM n.toNat + 3) / 4) ∧ u.fget (LOOPn_COUNT_SAMPLES n.toNat) = (s.fget (LOOPn_COUNT_SAMPLES n.toNat) + 1) % 65536
            ∧ u.bit (LOOPn_STATUS_AUTO_ACT n.toNat) = s.bit (LOOPn_CTRL_MODE n.toNat) ∧ (u.loopOf n.toNat).lastAt = some s.tick
            ∧ (s.bit (LOOPn_CTRL_MODE n.toNat) = false → ∀ j, j < s.nu n.toNat → u.fget (LOOPn_Uj_VALUE n.toNat j) = uint 32 (max (lo j) (min (hi j) (sext 32 (s.fget (LOOPn_MAN_Uj_VALUE n.toNat j))))))
            ∧ (s.bit (LOOPn_CTRL_MODE n.toNat) = true → s.fget (LOOPn_CTRL_INT_EN n.toNat) = 0 → s.fget (LOOPn_CFG_FF_SRC n.toNat) = 0 → s.nu n.toNat = 1 → u.fget (LOOPn_Uj_VALUE n.toNat 0) = uint 32 (max (lo 0) (min (hi 0)
                (dot ((List.range (s.nx n.toNat)).map (fun j => -(sext 32 (s.fget (LOOPn_MAT_K_VALUE n.toNat j)) * sext 32 (s.fget (LOOPn_Xi_VALUE n.toNat j)))) ++ [sext 32 (s.fget (LOOPn_Gj_VALUE n.toNat 0)) * (s.loopInput n.toNat 4).1])).1)))
            ∧ sansEvent u = { sansEvent s with loop := u.loop }
            ∧ ∀ f : Fld, (f.key / 32 < 0x2000400000 + 0x400 * n.toNat ∨ 0x2000400400 + 0x400 * n.toNat ≤ f.key / 32) → f.key ≠ PLC_STATUS_OVERRUN.key → u.fget f = s.fget f))
        ∧ (∀ d, d < 8 → s.nu n.toNat = 1 → s.bit (LOOPn_CTRL_MODE n.toNat) = false → s.dstCode n.toNat 0 = 0x3000 + d → Runs (exec (.lrun p n) s) (fun u =>
            u.fget (DRVn_IQ_REF_REF d) = uint 32 (max (lo 0) (min (hi 0) (sext 32 (s.fget (LOOPn_MAN_Uj_VALUE n.toNat 0)))))))
        ∧ (∀ d, d < 32 → s.nu n.toNat = 1 → s.bit (LOOPn_CTRL_MODE n.toNat) = false → s.hvoRuns = false → s.dstCode n.toNat 0 = 0x1000 + d → Runs (exec (.lrun p n) s) (fun u =>
            u.fget (HVOk_DUTY_DUTY d) = (max 0 (min 4095 ((max (lo 0) (min (hi 0) (sext 32 (s.fget (LOOPn_MAN_Uj_VALUE n.toNat 0)))) + 8) / 16))).toNat)))
    ∧ (∀ k : Nat, k < 64 →
        (s.loopCheck k = 0 → Runs (exec (.applyEv k) s) (fun u => u.fget (LOOPn_STATUS_CFG k) = 0 ∧ (s.bit (LOOPn_CTRL_ENABLE k) = true → u.bit (LOOPn_STATUS_APPLY_PENDING k) = true) ∧ onlyFields s u [LOOPn_STATUS_CFG k, LOOPn_STATUS_APPLY_PENDING k]))
        ∧ (s.loopCheck k ≠ 0 → Runs (exec (.applyEv k) s) (fun u => u.fget (LOOPn_STATUS_CFG k) = s.loopCheck k ∧ u.bit (LOOPn_STATUS_APPLY_PENDING k) = false ∧ Sent s u 0x00E 0x07 k 0 ∧ onlyEvents s u [LOOPn_STATUS_CFG k, LOOPn_STATUS_APPLY_PENDING k]))
        ∧ (s.bit (LOOPn_CTRL_ENABLE k) = false → Runs (exec (.loopEnable k) s) (fun u => u.bit (LOOPn_CTRL_ENABLE k) = true ∧ (u.loopOf k).lastAt = none ∧ (u.loopOf k).lastAuto = none ∧ (s.loopCheck k = 0 → u.fget (LOOPn_STATUS_CFG k) = 0)
            ∧ (s.loopCheck k ≠ 0 → u.fget (LOOPn_STATUS_CFG k) = s.loopCheck k ∧ Sent s u 0x00E 0x07 k 0) ∧ keepsFields s u [LOOPn_CTRL_ENABLE k, LOOPn_STATUS_CFG k, LOOPn_STATUS_APPLY_PENDING k] ∧ sansEvent u = { sansEvent s with loop := u.loop }))
        ∧ (s.bit (LOOPn_CTRL_ENABLE k) = true → Runs (exec (.loopEnable k) s) (fun u => u = s)))

/-- High-voltage outputs, fuser drives, converters and pins (R336, R337, R338, R339, R340, R342, R344, R345, R347). Where the spec leaves
a reading open, the statement rests on the model's choice: log entries 33, 50. -/
def Obligations.OutputsAndConverters : Prop :=
  ∀ s : State,
    (∀ (k : Nat) (x : State), k < 32 → x = s.applyShadow [HVOk_DUTY_DUTY_MAX k, HVOk_DUTY_DUTY k] → Runs (exec (.hvoPeriodStart k) s) (fun u => sansFields u = { sansFields s with shadow := x.shadow, shadowAt := x.shadowAt, hvoHigh := u.hvoHigh }
        ∧ keepsFields s u [HVOk_DUTY_DUTY_MAX k, HVOk_DUTY_DUTY k, HVOk_STATUS_APPLIED k, HVO_CLAMP_CLAMP]
        ∧ (s.bit (HVOk_CTRL_EN k) = false ∨ s.safeCtl = true ∨ s.inBackup = true → u.fget (HVOk_STATUS_APPLIED k) = 0 ∧ kvGet u.hvoHigh k = none)
        ∧ (∀ d, s.bit (HVOk_CTRL_EN k) = true → s.safeCtl = false → s.inBackup = false → d = min (x.fget (HVOk_DUTY_DUTY k)) (x.fget (HVOk_DUTY_DUTY_MAX k)) → u.fget (HVOk_STATUS_APPLIED k) = d % 4096
            ∧ kvGet u.hvoHigh k = some ((d * 4 * max 1250 (min 12500 (s.fget (HVOk_CTRL_PER k))) + 2048) / 4096) ∧ (d < x.fget (HVOk_DUTY_DUTY k) → (u.fget HVO_CLAMP_CLAMP).testBit k = true))))
    ∧ (∀ (f : Nat) (x : State), f < 2 → x = s.applyShadow [FUSf_FREQ_FREQ f, FUSf_DEAD_SLEW f] → Runs (exec (.fusPeriodStart f) s) (fun u => sansFields u = { sansFields s with shadow := x.shadow, shadowAt := x.shadowAt, fus := u.fus }
        ∧ keepsFields s u [FUSf_FREQ_FREQ f, FUSf_DEAD_SLEW f, FUSf_STATUS_RUNNING f, FUSf_STATUS_F_APPLIED f, FUSf_STATUS_CLAMPED f]
        ∧ (s.bit (FUSf_CTRL_EN f) = false ∨ (s.fusOf f).live = false ∨ s.bit FUS_STATUS_TOGGLING = false → u.bit (FUSf_STATUS_RUNNING f) = false ∧ u.fget (FUSf_STATUS_F_APPLIED f) = 0)
        ∧ (s.bit (FUSf_CTRL_EN f) = true → (s.fusOf f).live = true → s.bit FUS_STATUS_TOGGLING = true → u.bit (FUSf_STATUS_RUNNING f) = true ∧ (x.fget (FUSf_DEAD_SLEW f) = 0 →
            (u.fusOf f).freq = max (s.fget (FUSf_LIMIT_FMIN f) * 655360) (min (s.fget (FUSf_LIMIT_FMAX f) * 655360) (x.fget (FUSf_FREQ_FREQ f) * 1000))))))
    ∧ (∀ f, f < 2 → (s.bit (FUSf_CTRL_EN f) = false → Runs (exec (.fusEnable f true) s) (fun u => u.bit (FUSf_CTRL_EN f) = true ∧ u.fusOf f = ⟨s.fget (FUSf_LIMIT_FMAX f) * 655360, !s.bit (FUSf_STATUS_FLT f), s.tick, none⟩ ∧ u.bit (FUSf_STATUS_RUNNING f) = false ∧ keepsFields s u [FUSf_CTRL_EN f, FUSf_STATUS_RUNNING f, FUSf_STATUS_F_APPLIED f] ∧ sansFields u = { sansFields s with fus := u.fus }))
        ∧ (s.bit (FUSf_CTRL_EN f) = true → Runs (exec (.fusEnable f false) s) (fun u => u.bit (FUSf_CTRL_EN f) = false ∧ keepsFields s u [FUSf_CTRL_EN f] ∧ sansFields u = { sansFields s with fus := u.fus }
            ∧ (s.bit (FUSf_STATUS_RUNNING f) = false → u.fusOf f = ⟨0, false, s.tick, none⟩)
            ∧ (s.bit (FUSf_STATUS_RUNNING f) = true → (u.fusOf f).live = false ∧ ∃ e, (u.fusOf f).stopAt = some e ∧ e = (s.fusOf f).startAt + (if s.tick < (s.fusOf f).startAt + s.fusHalf f then 1 else 2) * s.fusHalf f)))
        ∧ (∀ b, b = s.bit (FUSf_CTRL_EN f) → Runs (exec (.fusEnable f b) s) (fun u => u = s))
        ∧ (s.bit (FUSf_STATUS_FLT f) = false → Runs (exec (.fltEv f true) s) (fun u => u.bit (FUSf_STATUS_FLT f) = true ∧ u.bit (FUSf_STATUS_FLT_SEEN f) = true ∧ u.bit (FUSf_STATUS_RUNNING f) = false ∧ u.fusOf f = ⟨0, false, s.tick, none⟩ ∧ (∃ d, Sent s u (0x1E0 + f) 0x01 d 0)
            ∧ keepsFields s u [FUSf_STATUS_FLT f, FUSf_STATUS_FLT_SEEN f, FUSf_STATUS_RUNNING f, FUSf_STATUS_F_APPLIED f, PLC_STATUS_OVERRUN] ∧ sansEvent u = { sansEvent s with fus := u.fus } ∧ onlyRing s u))
        ∧ Runs (exec (.fltEv f false) s) (fun u => u.bit (FUSf_STATUS_FLT f) = false ∧ onlyFields s u [FUSf_STATUS_FLT f]))
    ∧ (s.fuserMay = true → Runs (exec .fuserEnEdge s) (fun u => u.bit FUS_STATUS_TOGGLING = true ∧ u.fuserEn = decide (s.timeFx / 2 ^ 24 / 50000 % 2 = 0) ∧ keepsFields s u [FUS_STATUS_TOGGLING] ∧ sansFields u = { sansFields s with fuserEn := u.fuserEn }))
    ∧ (s.fuserMay = false → s.bit FUS_STATUS_TOGGLING = true → Runs (exec .fuserEnEdge s) (fun u => u.bit FUS_STATUS_TOGGLING = false ∧ u.fuserEn = false ∧ (∀ f, f < 2 → u.bit (FUSf_STATUS_RUNNING f) = false ∧ u.fget (FUSf_STATUS_F_APPLIED f) = 0)
        ∧ keepsFields s u [FUS_STATUS_TOGGLING, FUS_STATUS_STOP_SEEN, FUSf_STATUS_RUNNING 0, FUSf_STATUS_RUNNING 1, FUSf_STATUS_F_APPLIED 0, FUSf_STATUS_F_APPLIED 1, PLC_STATUS_OVERRUN] ∧ sansEvent u = { sansEvent s with fuserEn := false } ∧ onlyRing s u))
    ∧ (s.fuserMay = false → s.bit FUS_STATUS_TOGGLING = false → Runs (exec .fuserEnEdge s) (fun u => u = s))
    ∧ (∀ c : Nat, c < 5 →
        (∀ (code v i : Nat) (q : AdcReq), v = (match q with | .drive w => w | _ => code) → i < 16 → (s.adcOf c).cur = some (i, q) → Runs (exec (.adcConversionDone c code) s) (fun u => u.fget (ADC_AINk_CODE (16 * c + i)) = v % 65536 ∧ kvGet u.adcAt (16 * c + i) = some s.tick
            ∧ ((s.adcOf c).drv = [] → (s.adcOf c).seq = none → (s.adcOf c).scanReq = false → (u.adcOf c).cur = none) ∧ (∀ j w r, (s.adcOf c).drv = (j, w) :: r → (u.adcOf c).cur = some (w.1, .drive w.2) ∧ (u.adcOf c).drv = r) ∧ (∀ q', q = .seq q' → (s.adcOf c).seq = some (q', []) → (u.adcOf c).seq = none)
            ∧ sansEvent u = { sansEvent s with adc := u.adc, adcAt := u.adcAt, stn := u.stn, led := u.led, jrn := u.jrn, host := u.host, mem := (sansEvent u).mem, dma := u.dma } ∧ onlyRingUsed s u
            ∧ ∀ f : Fld, (f.key / 32 < 0x20000F0000 ∨ 0x2000160000 ≤ f.key / 32) → f.key ∉ (hostFields ++ trigFields).map Fld.key → u.fget f = s.fget f))
        ∧ ((s.adcOf c).cur = none → ∀ code, Runs (exec (.adcConversionDone c code) s) (fun u => u = s))
        ∧ (∀ k, s.bit (ADCc_CTRL_EN c) = true → (s.adcOf c).cur = none → (s.adcOf c).drv = [] → (s.adcOf c).seq = none → s.scanInput c = some k → s.fget (ADCc_SCAN_MASK c) ≠ 0 → Runs (exec (.backgroundScan c) s) (fun u => (u.adcOf c).cur = some (k, .scan) ∧ (u.adcOf c).scanNext = (k + 1) % 16 ∧ u.bit (ADCc_STATUS_SCANNING c) = true
            ∧ keepsFields s u [ADCc_STATUS_CONVERTING c, ADCc_STATUS_SEQ_BUSY c, ADCc_STATUS_SEQ c, ADCc_STATUS_SCANNING c] ∧ sansFields u = { sansFields s with adc := u.adc }))
        ∧ (s.fget (ADCc_SCAN_MASK c) = 0 → Runs (exec (.backgroundScan c) s) (fun u => u = s))
        ∧ Runs (exec (.refBad c true) s) (fun u => u.bit (ADCc_STATUS_REF_BAD c) = true ∧ (∃ d, Sent s u (0x1A0 + c) 0x02 d 0) ∧ onlyEvents s u [ADCc_STATUS_REF_BAD c]) ∧ Runs (exec (.refBad c false) s) (fun u => u = s))
    ∧ (∀ (p : Nat) (l : Bool), p < 96 → (s.pinIn p ≠ l → s.pinDriven p = none ∨ s.pinDriven p = some l → Runs (exec (.gpioInputEdge p l) s) (fun u => u.pinIn p = l ∧ (∀ b, b < 32 → b ≠ p % 32 → (u.fget (GPIO_INw_IN (p / 32))).testBit b = (s.fget (GPIO_INw_IN (p / 32))).testBit b) ∧ onlyEvents s u [GPIO_INw_IN (p / 32)]))
        ∧ ((s.pinDriven p).getD l = s.pinIn p → Runs (exec (.gpioInputEdge p l) s) (fun u => u = s)))

/-- SET, ADD, SLEW, TIME_INC, the PTP instance, transmit stamps and RTC_SYNC (R349, R350, R352, R353, R354, R357, R359, R360, R361, R381).
Where the spec leaves a reading open, the statement rests on the model's choice: log entry 34. -/
def Obligations.TimeAndPtp : Prop :=
  ∀ s : State,
    (∀ fx : Int, (s.tbLive = false → s.bit TIME_STATUS_SLEWING = false → s.fget TIME_SET_NS_SET < 1000000000 → fx = (((s.fget TIME_SET_SEC_LO_SET + 2 ^ 32 * (s.fget TIME_SET_SEC_HI_SET % 2 ^ 16)) * 1000000000 + s.fget TIME_SET_NS_SET) * 2 ^ 24 : Nat) →
          Runs (exec .setEv s) (fun u => u.timeFx = (fx % (timeWrap : Int)).toNat ∧ u.fget TIME_STEPS_STEPS = (s.fget TIME_STEPS_STEPS + 1) % 2 ^ 32
            ∧ ((∀ c, c < 32 → s.bit (ALMc_STATUS_ARMED c) = false) → keepsFields s u [TIME_STEPS_STEPS, PLC_STATUS_OVERRUN] ∧ sansEvent u = { sansEvent s with timeFx := u.timeFx } ∧ onlyRing s u)))
        ∧ (s.tbLive = false → s.bit TIME_STATUS_SLEWING = false → fx = (s.timeFx : Int) + s.timeOfs * 2 ^ 24 → Runs (exec .addOffset s) (fun u => u.timeFx = (fx % (timeWrap : Int)).toNat ∧ u.fget TIME_STEPS_STEPS = (s.fget TIME_STEPS_STEPS + 1) % 2 ^ 32
            ∧ ((∀ c, c < 32 → s.bit (ALMc_STATUS_ARMED c) = false) → keepsFields s u [TIME_STEPS_STEPS, PLC_STATUS_OVERRUN] ∧ sansEvent u = { sansEvent s with timeFx := u.timeFx } ∧ onlyRing s u))))
    ∧ (s.tbLive = true ∨ s.bit TIME_STATUS_SLEWING = true ∨ 1000000000 ≤ s.fget TIME_SET_NS_SET → Runs (exec .setEv s) (fun u => u.bit TIME_STATUS_STEP_REFUSED = true ∧ Sent s u 0x00A 0x04 1 0 ∧ onlyEvents s u [TIME_STATUS_STEP_REFUSED]))
    ∧ (s.tbLive = true ∨ s.bit TIME_STATUS_SLEWING = true → Runs (exec .addOffset s) (fun u => u.bit TIME_STATUS_STEP_REFUSED = true ∧ Sent s u 0x00A 0x04 2 0 ∧ onlyEvents s u [TIME_STATUS_STEP_REFUSED]))
    ∧ (s.bit TIME_STATUS_SLEWING = false → s.timeOfs ≠ 0 → s.timeOfs.natAbs ≤ 1000000000 → Runs (exec .slewEv s) (fun u => u.bit TIME_STATUS_SLEWING = true ∧ keepsFields s u [TIME_STATUS_SLEWING] ∧ sansFields u = { sansFields s with net := { s.net with slewLeft := s.timeOfs * 2 ^ 24 } }))
    ∧ (s.bit TIME_STATUS_SLEWING = true ∨ 1000000000 < s.timeOfs.natAbs → Runs (exec .slewEv s) (fun u => u.bit TIME_STATUS_STEP_REFUSED = true ∧ Sent s u 0x00A 0x04 3 0 ∧ onlyEvents s u [TIME_STATUS_STEP_REFUSED]))
    ∧ (s.net.slewLeft = 0 → Runs (exec .slewEnd s) (fun u => u.bit TIME_STATUS_SLEWING = false ∧ onlyFields s u [TIME_STATUS_SLEWING])) ∧ (s.net.slewLeft ≠ 0 → Runs (exec .slewEnd s) (fun u => u = s))
    ∧ (∀ v : BitVec 32, Runs (exec (.timeIncWrite v) s) (fun u => u.fget TIME_INC_INC = max 0x03FEF9DB (min 0x04010625 v.toNat) ∧ onlyFields s u [TIME_INC_INC, TIME_STATUS_INC_CLAMP]
        ∧ u.bit TIME_STATUS_INC_CLAMP = (s.bit TIME_STATUS_INC_CLAMP || decide (v.toNat < 0x03FEF9DB ∨ 0x04010625 < v.toNat))))
    ∧ (∀ port : Nat, port < 2 →
        (s.ptpOn port = true →
          (∀ st og o : Int, o = st - (if s.fget (ETHn_CTRL_SPEED port) = 1 then s.fget (ETHn_PHYLAT_RX_LAT_100 port) else s.fget (ETHn_PHYLAT_RX_LAT_1000 port)) - (og + s.net.delay) → Runs (exec (.ptpFrameRx port (.sync st og)) s) (fun u => u.fget TIME_OFFSET_VALUE = uint 32 (satS 32 o)
              ∧ (s.fget TIME_STATUS_SYNC = 2 → 1000 < o.natAbs → u.fget TIME_STATUS_SYNC = 3 ∧ (⟨0x00A, 0x03, 3, 0⟩ : FaultMsg) ∈ u.faultQ)
              ∧ (s.fget TIME_STATUS_SYNC = 2 → o.natAbs ≤ 1000 → u.fget TIME_STATUS_SYNC = 2)
              ∧ (s.fget TIME_STATUS_SYNC = 1 → o.natAbs ≤ 100 → 15 ≤ s.net.good → s.bit TIME_STATUS_SLEWING = false → u.fget TIME_STATUS_SYNC = 2)
              ∧ (s.fget TIME_STATUS_SYNC = 0 ∨ s.fget TIME_STATUS_SYNC = 1 → o.natAbs ≤ 1000000 → (100 < o.natAbs ∨ s.net.good < 15) → u.fget TIME_STATUS_SYNC = 1)
              ∧ (s.bit TIME_CTRL_PTP_OWN = false → keepsFields s u [TIME_OFFSET_VALUE, TIME_STATUS_SYNC, PLC_STATUS_OVERRUN] ∧ sansEvent u = { sansEvent s with net := { s.net with good := u.net.good, first := false } } ∧ onlyRing s u)))
          ∧ (s.fget TIME_PTP_CFG_ROLE = 2 → Runs (exec (.ptpFrameRx port (.announce true)) s) (fun u => u.fget TIME_STATUS_SYNC = 4 ∧ onlyEvents s u [TIME_STATUS_SYNC]))
          ∧ (s.fget TIME_PTP_CFG_ROLE ≠ 2 → Runs (exec (.ptpFrameRx port (.announce true)) s) (fun u => u = s)) ∧ Runs (exec (.ptpFrameRx port (.announce false)) s) (fun u => u = s) ∧ Runs (exec (.ptpFrameRx port .ignored) s) (fun u => u = s)
          ∧ (∀ d, Runs (exec (.ptpFrameRx port (.delayResp d)) s) (fun u => u = { s with net := { s.net with delay := d } })))
        ∧ (s.ptpOn port = false → ∀ f, Runs (exec (.ptpFrameRx port f) s) (fun u => u = s)))
    ∧ (s.fget TIME_PTP_CFG_ROLE ≠ 0 → s.bit TIME_STATUS_PTP_CFG_ERR = false → s.fget TIME_STATUS_SYNC ≠ 4 →
        (s.fget TIME_PTP_CFG_ROLE = 2 → Runs (exec (.announceTimeout true) s) (fun u => u.fget TIME_STATUS_SYNC = 4 ∧ onlyEvents s u [TIME_STATUS_SYNC]))
        ∧ Runs (exec (.announceTimeout false) s) (fun u => u.fget TIME_STATUS_SYNC = (if s.fget TIME_STATUS_SYNC = 0 then 0 else 3) ∧ u.net.good = 0 ∧ u.net.port = (if s.fget TIME_PTP_CFG_PORT = 2 then 1 - s.net.port else s.net.port)
            ∧ keepsFields s u [TIME_STATUS_SYNC, PLC_STATUS_OVERRUN] ∧ sansEvent u = { sansEvent s with net := { s.net with good := 0, first := u.net.first, port := u.net.port } } ∧ onlyRing s u))
    ∧ (∀ st : Nat, s.ptpOn s.net.port = true → s.fget TIME_STATUS_SYNC = 4 → Runs (exec (.ptpSyncTx st) s) (fun u => u = { s with net := { s.net with syncSeq := (s.net.syncSeq + 1) % 65536, sent :=
        ⟨s.net.port, 0, s.net.syncSeq % 65536, if s.bit TIME_PTP_CFG_ONE_STEP then some (st + s.phyTx s.net.port) else none⟩ :: s.net.sent } }))
    ∧ (s.ptpOn s.net.port = true → s.fget TIME_STATUS_SYNC ≠ 4 → Runs (exec .ptpDelayRequest s) (fun u => u = { s with net := { s.net with delaySeq := (s.net.delaySeq + 1) % 65536, sent :=
        ⟨s.net.port, if s.ptpProfile = 0 then 1 else 2, s.net.delaySeq % 65536, none⟩ :: s.net.sent } }))
    ∧ (∀ n id typ st : Nat, n < 2 → s.bit (ETHn_CTRL_EN n) = true → s.inBackup = false →
        ((s.txtsOf n).length < 16 → Runs (exec (.txTimestamp n id typ st) s) (fun u => u.txtsOf n = s.txtsOf n ++ [(id % 65536, typ % 16, st)] ∧ (typ % 16 ≠ 0 → typ % 16 ≠ 3 → u.net.sent = s.net.sent) ∧ u = { s with net := { s.net with txts := u.net.txts, sent := u.net.sent } }))
        ∧ (16 ≤ (s.txtsOf n).length → Runs (exec (.txTimestamp n id typ st) s) (fun u => u.bit (ETHn_STATUS_TS_OVF n) = true ∧ onlyFields s u [ETHn_STATUS_TS_OVF n])))
    ∧ (∀ n : Nat, n < 2 →
        (∀ id typ st rest, s.txtsOf n = (id, typ, st) :: rest → Runs (exec (.txtsRead n) s) (fun u => u.txtsOf n = rest ∧ kvGet u.snap (ETHn_TXTS_ID_TXTS n).addr = some ((id * 65536 + typ * 256 + 1) % 2 ^ 32)
          ∧ kvGet u.snap (ETHn_TXTS_NS_TXTS n).addr = some (st % 1000000000) ∧ kvGet u.snap (ETHn_TXTS_SEC_LO_TXTS n).addr = some (st / 1000000000 % 2 ^ 32) ∧ u = { s with net := { s.net with txts := u.net.txts }, snap := u.snap }))
        ∧ (s.txtsOf n = [] → Runs (exec (.txtsRead n) s) (fun u => kvGet u.snap (ETHn_TXTS_ID_TXTS n).addr = some 0 ∧ u = { s with snap := u.snap })))
    ∧ (s.net.timeOn = true → s.inBackup = false → s.timeSec % 60 = 0 → (s.fget TIME_STATUS_SYNC = 2 ∨ s.fget TIME_STATUS_SYNC = 4) → s.timeSec < 2 ^ 48 → Runs (exec .rtcSync s) (fun u => u.rtc = s.timeSec ∧ onlyFields s u [SYS_RTC_LO_SEC, SYS_RTC_HI_SEC]))

/-- ARM, DISARM, the firing of an Almanac channel, and the capture inputs (R362, R363, R364, R365, R367). Where the spec leaves a reading
open, the statement rests on the model's choice: log entry 34. -/
def Obligations.AlmanacAndCaptures : Prop :=
  ∀ (s : State) (c : Nat), c < 32 →
    (∀ x : State, x = s.applyShadow (almShadows c) →
      (actionOk (x.fget (ALMc_ACTION_VALUE c)) = true → Runs (exec (.armEv c) s) (fun u => u.bit (ALMc_STATUS_ARMED c) = true ∧ u.bit (ALMc_STATUS_CFG c) = false ∧ (reached s.now (BitVec.ofNat 64 (almTarget x c)) = true → u.bit (ALMc_STATUS_LATE c) = true)
          ∧ keepsFields x u [ALMc_STATUS_ARMED c, ALMc_STATUS_CFG c, ALMc_STATUS_LATE c] ∧ sansFields u = sansFields x))
      ∧ (actionOk (x.fget (ALMc_ACTION_VALUE c)) = false → Runs (exec (.armEv c) s) (fun u => u.bit (ALMc_STATUS_ARMED c) = false ∧ u.bit (ALMc_STATUS_CFG c) = true ∧ onlyFields x u [ALMc_STATUS_ARMED c, ALMc_STATUS_CFG c]))
      ∧ ((∀ k, k < c → s.almDue k = false) → s.almDue c = true → Runs (exec (.almanacFire c) s) (fun u => u.bit (ALMc_STATUS_FIRED c) = true ∧ (x.fget (ALMc_PERIOD_VALUE c) = 0 → u.bit (ALMc_STATUS_ARMED c) = false)
          ∧ (x.fget (ALMc_PERIOD_VALUE c) ≠ 0 → u.bit (ALMc_STATUS_ARMED c) = true ∧ almTarget u c = (almTarget s c + x.fget (ALMc_PERIOD_VALUE c)) % 2 ^ 64)
          ∧ (s.fget (ALMc_ACTION_VALUE c) / 2 ^ 28 = 0 → keepsFields x u [ALMc_STATUS_FIRED c, ALMc_STATUS_ARMED c, ALMc_TARGET_LO_VALUE c, ALMc_TARGET_HI_VALUE c, PLC_STATUS_OVERRUN] ∧ sansEvent u = sansEvent x ∧ onlyRing x u)
          ∧ (∀ pin op, pin < 96 → op < 3 → s.fget (ALMc_ACTION_VALUE c) = 2 * 2 ^ 28 + op * 256 + pin → s.inBackup = false →
              (s.pinMode pin ≠ 0 → (u.fget (GPIO_OUTw_OUT (pin / 32))).testBit (pin % 32) = (if op = 0 then false else if op = 1 then true else !(s.fget (GPIO_OUTw_OUT (pin / 32))).testBit (pin % 32))
                ∧ keepsFields x u [ALMc_STATUS_FIRED c, ALMc_STATUS_ARMED c, ALMc_TARGET_LO_VALUE c, ALMc_TARGET_HI_VALUE c, GPIO_OUTw_OUT (pin / 32), PLC_STATUS_OVERRUN] ∧ sansEvent u = sansEvent x ∧ onlyRing x u)
              ∧ (s.pinMode pin = 0 → u.fget (ALMc_STATUS_DROPPED c) = min 255 (s.fget (ALMc_STATUS_DROPPED c) + 1) ∧ (⟨0x01F, 0x01, pin, 0⟩ : FaultMsg) ∈ u.faultQ ∧ (∀ w, w < 3 → u.fget (GPIO_OUTw_OUT w) = s.fget (GPIO_OUTw_OUT w)))))))
    ∧ ((∀ k, k ≤ c → s.almDue k = false) → Runs (exec (.almanacFire c) s) (fun u => u = s))
    ∧ (∀ y, y = (List.range c).foldl State.almDoes s → Runs (exec (.almanacFire c) s) (fun u => Runs (exec (.almanacFire c) y) (fun w => (∀ k, k < c → y.almDue k = false) → u = w) ∧ (y.almDue c = false → u = y)))
    ∧ Runs (exec (.disarmEv c) s) (fun u => u.bit (ALMc_STATUS_ARMED c) = false ∧ onlyFields s u [ALMc_STATUS_ARMED c])
    ∧ (∀ (falling sel : Bool) (dt : Nat), sel = (s.bit (CAPk_CFG_EN c) && decide (s.fget (CAPk_CFG_PIN c) < 96) && (decide (2 ≤ s.fget (CAPk_CFG_EDGE c)) || decide (s.fget (CAPk_CFG_EDGE c) = if falling then 1 else 0))) →
        (sel = true → (s.capOf c).length < 4 → Runs (exec (.captureEdge c falling dt) s) (fun u => u.capOf c = s.capOf c ++ [((s.now.toNat + dt % 4) % 2 ^ 64, falling)] ∧ (∀ k, k ≠ c → u.capOf k = s.capOf k)
          ∧ keepsFields s u [PLC_STATUS_OVERRUN] ∧ sansEvent u = { sansEvent s with net := { s.net with caps := u.net.caps } } ∧ onlyRing s u))
        ∧ (sel = true → 4 ≤ (s.capOf c).length → Runs (exec (.captureEdge c falling dt) s) (fun u => u.bit (CAPk_STATUS_OVF c) = true ∧ Sent s u 0x00A 0x02 c 0 ∧ onlyEvents s u [CAPk_STATUS_OVF c]))
        ∧ (sel = false → Runs (exec (.captureEdge c falling dt) s) (fun u => u = s)))
    ∧ (∀ ts falling rest, s.capOf c = (ts, falling) :: rest → Runs (exec (.captureRead c) s) (fun u => u.capOf c = rest ∧ u.bit (CAPk_STATUS_VALID c) = true ∧ u.bit (CAPk_STATUS_HEAD_EDGE c) = falling
        ∧ kvGet u.snap (CAPk_TS_LO_TS c).addr = some (ts % 2 ^ 32) ∧ kvGet u.snap (CAPk_TS_HI_TS c).addr = some (ts / 2 ^ 32 % 2 ^ 32)
        ∧ keepsFields s u [CAPk_STATUS_VALID c, CAPk_STATUS_HEAD_EDGE c] ∧ sansFields u = { sansFields s with net := { s.net with caps := u.net.caps }, snap := u.snap }))
    ∧ (s.capOf c = [] → Runs (exec (.captureRead c) s) (fun u => u.bit (CAPk_STATUS_VALID c) = false ∧ keepsFields s u [CAPk_STATUS_VALID c, CAPk_STATUS_HEAD_EDGE c] ∧ sansFields u = { sansFields s with snap := u.snap }))

/-- THAW: its start, its steps, CHAIN, the configuration pass, and what makes it fail (R394, R395, R396, R397, R398, R406). Where the spec
leaves a reading open, the statement rests on the model's choice: log entry 35. -/
def Obligations.RailThaw : Prop :=
  ∀ s : State,
    ((s.railState = 0 ∨ 6 ≤ s.railState → Runs (exec .frostEv s) (fun u => u = s)) ∧ (1 ≤ s.railState → s.railState < 6 → Runs (exec .frostEv s) (fun u => Frosts s u 1 ∧ onlyRail s u)))
    ∧ (6 ≤ s.railState → Runs (exec .thawEv s) (fun u => if s.inBackup then u.bit RAIL_STATUS_CMD_REFUSED = true ∧ onlyFields s u [RAIL_STATUS_CMD_REFUSED]
        else u.bit RAIL_STATUS_THAW_PEND = true ∧ onlyFields s u [RAIL_STATUS_THAW_PEND]))
    ∧ (1 ≤ s.railState → s.railState < 6 → Runs (exec .thawEv s) (fun u => u = s))
    ∧ (s.railState = 0 → s.bit FLT_STATUS_SAFE = true ∨ s.inBackup = true → Runs (exec .thawEv s) (fun u => u.bit RAIL_STATUS_CMD_REFUSED = true ∧ onlyFields s u [RAIL_STATUS_CMD_REFUSED]))
    ∧ (s.railState = 0 → s.bit FLT_STATUS_SAFE = false → s.inBackup = false → s.holdOver = false → Runs (exec .thawEv s) (fun u => u.railState = 1 ∧ onlyFields s u [RAIL_STATUS_STATE]))
    ∧ (s.railState = 1 → s.holdOver = true → Runs (exec .restartHoldExpiry s) (fun u => (s.nSlaves = 0 → Thaws s u 0) ∧ onlyRail s u))
    ∧ (s.railState = 1 → s.holdOver = false → Runs (exec .restartHoldExpiry s) (fun u => u = s)) ∧ (s.railState ≠ 1 → Runs (exec .restartHoldExpiry s) (fun u => u = s))
    ∧ (∀ c : Instr, c = .thawEv ∧ s.railState = 0 ∧ s.bit FLT_STATUS_SAFE = false ∧ s.inBackup = false ∨ c = .restartHoldExpiry ∧ s.railState = 1 → s.holdOver = true →
        Runs (exec c s) (fun u => (s.nSlaves = 0 → Thaws s u 0) ∧ onlyRail s u
          ∧ (s.nSlaves ≠ 0 → u.railState = 2 ∧ u.fget RAIL_STATUS_SLAVE = 1 ∧ u.rail.link = [⟨1, 1, 0, 0, none⟩] ∧ u.rail.pass.length + 1 = 15 * s.nSlaves)))
    ∧ (∀ ok : Bool, ok = (s.stepRails (s.fget RAIL_STATUS_STEP)).all (fun r => (s.judgeOf r).good && (s.judgeOf r).goodSince.any (fun t => decide (t + msTicks (s.fget (RAIL_STEPs_SETTLE (s.fget RAIL_STATUS_STEP))) ≤ s.tick))) →
        (s.railState = 3 → ok = true → Runs (exec .railSettleExpiry s) (fun u => Thaws s u (s.fget RAIL_STATUS_STEP + 1) ∧ onlyRail s u))
        ∧ (s.railState ≠ 3 ∨ ok = false → Runs (exec .railSettleExpiry s) (fun u => u = s)))
    ∧ (∀ late : Bool, late = decide (s.rail.stepAt + msTicks (max 1 (s.fget (RAIL_STEPs_THAW_TO (s.fget RAIL_STATUS_STEP)))) ≤ s.tick) →
        (s.railState = 3 → late = true → Runs (exec .thawTimeout s) (fun u => Sent s u 0x00D 0x01 (s.fget RAIL_STATUS_STEP * 256) 0 ∧ Frosts s u 6 ∧ onlyRail s u))
        ∧ (s.railState ≠ 3 ∨ late = false → Runs (exec .thawTimeout s) (fun u => u = s)))
    ∧ (∀ late : Bool, late = decide (s.rail.chainAt + msTicks (max 1 (s.fget RAIL_CHAIN_CHAIN_TO)) ≤ s.tick) →
        (s.railState = 4 → late = true → Runs (exec .chainTimeout s) (fun u => (∃ d, Sent s u 0x00D 0x07 d 0 ∧ ∀ k, k < s.nSlaves → d.testBit k = decide (s.fget (RAIL_SLAVEk_STATE (k + 1)) ≠ 3)) ∧ Frosts s u 6 ∧ onlyRail s u))
        ∧ (s.railState ≠ 4 ∨ late = false → Runs (exec .chainTimeout s) (fun u => u = s)))
    ∧ (s.bit RAIL_STATUS_SEQ_IN = false → Runs (exec .seqInRise s) (fun u => u.bit RAIL_STATUS_SEQ_IN = true ∧ keepsFields s u [RAIL_STATUS_SEQ_IN] ∧ sansFields u = { sansFields s with rail := { s.rail with up := [] } }))
    ∧ (s.bit RAIL_STATUS_SEQ_IN = true → Runs (exec .seqInRise s) (fun u => u = s))
    ∧ (s.railState ≠ 5 ∨ s.nSlaves = 0 → Runs (exec .seqInFall s) (fun u => u.bit RAIL_STATUS_SEQ_IN = false ∧ keepsFields s u [RAIL_STATUS_SEQ_IN] ∧ sansFields u = { sansFields s with rail := { s.rail with up := [] } }))
    ∧ (s.railState = 5 → s.nSlaves ≠ 0 → Runs (exec .seqInFall s) (fun u => u.bit RAIL_STATUS_SEQ_IN = false ∧ u.bit RAIL_STATUS_RAIL_LOST = true ∧ Sent s u 0x00D 0x04 (9 * 4096) 0 ∧ Frosts s u 8 ∧ onlyRail s u))

/-- RS_CONVERSION, FROST_STUCK, SLAVE_FROST_TIMEOUT, and the Rail Link (R392, R393, R394, R396, R398, R402, R403, R406). Where the spec
leaves a reading open, the statement rests on the model's choice: log entry 35. -/
def Obligations.RailSensesAndLink : Prop :=
  ∀ s : State,
    (∀ (k : Nat) (code : BitVec 12) (v : Fld) (mine : List Nat), k < 40 → (∀ x, s.power.phase ≠ .hibernate x) → v = (if k % 2 = 0 then RAIL_RSk_LO (k / 2) else RAIL_RSk_HI (k / 2)) →
        mine = (List.range 8).filter (fun r => s.bit (RAIL_RAILr_A_USED r) && s.railSense r == some k) →
        (mine = [] → s.railState ≠ 7 → Runs (exec (.rsConversion k code) s) (fun u => u.fget v = code.toNat ∧ onlyFields s u [v]))
        ∧ Runs (exec (.rsConversion k code) s) (fun u => onlyRail s u)
        ∧ (∀ (r nom tol : Nat) (j : RailJ), mine = [r] → nom = s.fget (RAIL_RAILr_A_NOM r) → tol = max 1 (min 50 (s.fget (RAIL_RAILr_B_TOL r))) → j = s.judgeOf r →
          (s.railOn r = true → j.good = false → 2 ≤ j.inRun → (nom * (100 - tol) + 99) / 100 ≤ code.toNat → code.toNat ≤ nom * (100 + tol) / 100 →
            ((s.railState = 5 ∨ s.railState = 4 ∨ s.railState = 3 ∧ (s.fget (RAIL_RAILr_A_STEP r) ≠ s.fget RAIL_STATUS_STEP ∨ s.fget (RAIL_RAILr_B_FLIPS r) < 8)) →
              Runs (exec (.rsConversion k code) s) (fun u => u.fget v = code.toNat ∧ (u.fget RAIL_GOOD_GOOD).testBit r = true ∧ (u.judgeOf r).good = true ∧ u.railState = s.railState
                ∧ keepsFields s u [v, RAIL_GOOD_GOOD, RAIL_RAILr_B_FLIPS r]))
            ∧ (s.railState = 3 → s.fget (RAIL_RAILr_A_STEP r) = s.fget RAIL_STATUS_STEP → s.fget (RAIL_RAILr_B_FLIPS r) = 8 → Runs (exec (.rsConversion k code) s) (fun u => Sent s u 0x00D 0x02 r 0 ∧ Frosts s u 6)))
          ∧ (s.railOn r = true → j.good = true → 2 ≤ j.outRun → code.toNat + nom * 2 / 100 < (nom * (100 - tol) + 99) / 100 ∨ nom * (100 + tol) / 100 + nom * 2 / 100 < code.toNat → s.railState = 5 →
            Runs (exec (.rsConversion k code) s) (fun u => Sent s u 0x00D 0x04 r 0 ∧ (s.bit RAIL_CTRL_LOSS_FROST = true → Frosts s u 7)
              ∧ (s.bit RAIL_CTRL_LOSS_FROST = false → u.railState = 5 ∧ u.bit RAIL_STATUS_RAIL_LOST = true ∧ (u.fget RAIL_GOOD_GOOD).testBit r = false)))
          ∧ (s.railOn r = false → 2 ≤ j.offRun → code.toNat < nom * s.fget (RAIL_RAILr_B_OFF r) / 100 → s.railState = 7 →
            ((∃ x, x ∈ s.stepRails (s.fget RAIL_STATUS_STEP) ∧ x ≠ r ∧ (s.judgeOf x).off = false) → Runs (exec (.rsConversion k code) s) (fun u => (u.judgeOf r).off = true ∧ u.railState = 7 ∧ u.fget RAIL_STATUS_STEP = s.fget RAIL_STATUS_STEP))
            ∧ ((∀ x, x ∈ s.stepRails (s.fget RAIL_STATUS_STEP) → x ≠ r → (s.judgeOf x).off = true) → Runs (exec (.rsConversion k code) s) (fun u => FrostSteps s u (s.fget RAIL_STATUS_STEP) (s.fget RAIL_STATUS_FROST_CAUSE))))))
    ∧ (∀ late : Bool, late = decide (s.rail.stepAt + msTicks (max 1 (s.fget (RAIL_STEPs_FROST_TO (s.fget RAIL_STATUS_STEP)))) ≤ s.tick) →
        (s.railState = 7 → late = true → Runs (exec .frostStuck s) (fun u => Sent s u 0x00D 0x03 (s.fget RAIL_STATUS_STEP * 256) 0 ∧ (s.rail.resetAtEnd = false → u.bit RAIL_STATUS_FROST_STUCK = true)
          ∧ FrostSteps s u (s.fget RAIL_STATUS_STEP) (s.fget RAIL_STATUS_FROST_CAUSE) ∧ onlyRail s u))
        ∧ (s.railState ≠ 7 ∨ late = false → Runs (exec .frostStuck s) (fun u => u = s)))
    ∧ (∀ (late : Bool) (k : Nat), k = s.fget RAIL_STATUS_SLAVE → k ≤ 8 → late = decide (s.rail.slaveAt + msTicks (max 1 (s.fget RAIL_CHAIN_SLAVE_FROST_TO)) ≤ s.tick) →
        (s.railState = 6 → late = true → Runs (exec .slaveFrostTimeout s) (fun u => Sent s u 0x00D 0x03 (k * 4096 + s.fget (RAIL_SLAVEk_STEP k) * 256) 0 ∧ (s.rail.resetAtEnd = false → u.bit RAIL_STATUS_FROST_STUCK = true) ∧ onlyRail s u
          ∧ (1 < k → u.railState = 6 ∧ u.fget RAIL_STATUS_SLAVE = k - 1 ∧ u.rail.link = [⟨k - 1, 6, 0, 0, none⟩] ∧ u.rail.slaveAt = s.tick) ∧ (k ≤ 1 → FrostSteps s u 8 (s.fget RAIL_STATUS_FROST_CAUSE))))
        ∧ (s.railState ≠ 6 ∨ late = false → Runs (exec .slaveFrostTimeout s) (fun u => u = s)))
    ∧ (∀ resp, s.rail.link = [] → Runs (exec (.railLinkExchange resp) s) (fun u => u = s)) ∧ (s.rail.link = [] → Runs (exec .railLinkRetry s) (fun u => u = s))
    ∧ (∀ (q : LinkReq) (rest : List LinkReq), s.rail.link = q :: rest → 1 ≤ q.k → q.k ≤ 8 →
        (∀ t, q.failedAt = some t → (t + usTicks 100 ≤ s.tick → Runs (exec .railLinkRetry s) (fun u => u = { s with rail := { s.rail with link := { q with failedAt := none } :: rest } }))
          ∧ (s.tick < t + usTicks 100 → Runs (exec .railLinkRetry s) (fun u => u = s)) ∧ ∀ resp, Runs (exec (.railLinkExchange resp) s) (fun u => u = s))
        ∧ (q.failedAt = none → Runs (exec .railLinkRetry s) (fun u => u = s)
          ∧ (∀ resp : Option (BitVec 40), (resp.bind (fun w => respOk q.k w.toNat)) = none →
              (q.fails + 1 < 3 → Runs (exec (.railLinkExchange resp) s) (fun u => u = { s with rail := { s.rail with link := { q with fails := q.fails + 1, failedAt := some s.tick } :: rest } }))
              ∧ (2 ≤ q.fails → s.railState = 2 → Runs (exec (.railLinkExchange resp) s) (fun u => u.railState = 0 ∧ u.bit RAIL_STATUS_THAW_FAIL = true ∧ u.bit RAIL_STATUS_LINK_ERR = true ∧ u.rail.link = [] ∧ u.rail.pass = [] ∧ Sent s u 0x00D 0x05 q.k 0 ∧ onlyRail s u))
              ∧ (2 ≤ q.fails → s.railState = 6 → Runs (exec (.railLinkExchange resp) s) (fun u => u.railState = 6 ∧ u.bit RAIL_STATUS_LINK_ERR = true ∧ u.rail.link = rest ++ [⟨q.k, q.cmd, 0, 0, none⟩] ∧ Sent s u 0x00D 0x05 q.k 0 ∧ onlyRail s u))
              ∧ (2 ≤ q.fails → s.railState = 5 → Runs (exec (.railLinkExchange resp) s) (fun u => Sent s u 0x00D 0x05 q.k 0 ∧ onlyRail s u ∧ (s.bit RAIL_CTRL_LOSS_FROST = true → Frosts s u 7)
                  ∧ (s.bit RAIL_CTRL_LOSS_FROST = false → u.railState = 5 ∧ u.bit RAIL_STATUS_LINK_ERR = true ∧ (q.cmd = 5 → u.bit (RAIL_SLAVEk_VALID q.k) = false)))))
          ∧ (∀ (w : BitVec 40) (st d : Nat), respOk q.k w.toNat = some (st, d) → Runs (exec (.railLinkExchange (some w)) s) (fun u => onlyRail s u
              ∧ (q.cmd = 6 → u.rail.link = rest ++ [⟨q.k, 5, 0, 0, none⟩])
              ∧ (q.cmd < 5 ∨ q.cmd = 7 ∧ st = 0 → (∀ n more, s.rail.pass = n :: more → n.k < 16 → u.rail.link = [n] ∧ u.rail.pass = more ∧ u.fget RAIL_STATUS_SLAVE = n.k ∧ u.railState = s.railState) ∧ (s.rail.pass = [] → Thaws s u 0))
              ∧ (q.cmd = 7 → st ≠ 0 → u.railState = 0 ∧ u.bit RAIL_STATUS_THAW_FAIL = true ∧ Sent s u 0x00D 0x05 q.k 0)
              ∧ (q.cmd = 8 → s.railState = 4 → Sent s u 0x00D 0x06 (d % 256 * 256 + q.k) 0 ∧ Frosts s u 6)
              ∧ (q.cmd = 5 → s.railState ≠ 6 → u.bit (RAIL_SLAVEk_VALID q.k) = true ∧ u.fget (RAIL_SLAVEk_STATE q.k) = d / 2 ^ 13 % 8 ∧ u.fget (RAIL_SLAVEk_STEP q.k) = d / 2 ^ 10 % 8)
              ∧ (q.cmd = 5 → s.railState = 4 → d / 2 ^ 13 = 3 → s.bit RAIL_STATUS_SEQ_IN = true → (∀ i, i < s.nSlaves → i + 1 ≠ q.k → i + 1 ∈ s.rail.up) → u.railState = 5)
              ∧ (q.cmd = 5 → s.railState = 6 → d / 2 ^ 13 = 1 → (1 < q.k → u.railState = 6 ∧ u.fget RAIL_STATUS_SLAVE = q.k - 1 ∧ u.rail.link = [⟨q.k - 1, 6, 0, 0, none⟩]) ∧ (q.k ≤ 1 → FrostSteps s u 8 (s.fget RAIL_STATUS_FROST_CAUSE))))))) 
    ∧ (∀ k : Nat, (s.railState = 5 → 1 ≤ k → k ≤ s.nSlaves → (∀ q ∈ s.rail.link, q.k ≠ k) → (∀ t, kvGet s.rail.polls k = some t → t + 250000 * max 1 (s.fget RAIL_CFG_POLL) ≤ s.tick) →
          Runs (exec (.railPoll k) s) (fun u => u = { s with rail := { s.rail with polls := kvSet s.rail.polls k s.tick, link := s.rail.link ++ [⟨k, 5, 0, 0, none⟩] } }))
        ∧ (s.railState ≠ 5 ∨ k = 0 ∨ s.nSlaves < k ∨ (∃ q ∈ s.rail.link, q.k = k) ∨ (∃ t, kvGet s.rail.polls k = some t ∧ s.tick < t + 250000 * max 1 (s.fget RAIL_CFG_POLL)) → Runs (exec (.railPoll k) s) (fun u => u = s)))

/-- Fault messages: their arrival, grace timers, clearing, FORCE, COUNT_CLR and the queue (R409, R410, R411, R412, R413, R414, R415, R419,
R420, R421, R422). Where the spec leaves a reading open, the statement rests on the model's choice: log entry 36. -/
def Obligations.FaultCollector : Prop :=
  ∀ s : State,
    (s.faultQ = [] → Runs (exec .faultMessageArrival s) (fun u => u = s))
    ∧ (∀ (m : FaultMsg) (rest : List FaultMsg) (eff old : Nat) (was : Bool), s.faultQ = m :: rest → srcExists m.src = true → m.kind < 64 → m.detail < 65536 → eff = s.effClass m → eff ≤ 2 →
        was = s.bit (FLT_SRCs_STATUS m.src) → old = s.fget (FLT_SRCs_EFF m.src) → old ≤ 2 →
        Runs (exec .faultMessageArrival s) (fun u => Collected s u m.src m.kind m.detail eff ∧ u.fget (FLT_SRCs_EFF m.src) = (if was then max old eff else eff)
          ∧ (eff ≠ 2 → onlyCollector s u ∧ ∃ more, u.faultQ = rest ++ more)
          ∧ (eff = 0 → u.flt.grace = s.flt.grace) ∧ (eff = 1 → was = true → old ≠ 0 → u.flt.grace = s.flt.grace)
          ∧ (eff = 1 → was = false ∨ old = 0 → kvGet u.flt.grace m.src = some ⟨s.tick + usTicks (max 1 (min 1000000 (s.fget (FLT_GRACEs_GRACE m.src)))), m.kind, m.detail⟩ ∧ u.bit (FLT_SRCs_TIMER m.src) = true ∧ u.bit FLT_STATUS_B_PENDING = true)
          ∧ (eff = 2 → kvGet u.flt.grace m.src = none ∧ u.bit (FLT_SRCs_TIMER m.src) = false ∧ MadeSafe s u m.src m.kind m.detail)))
    ∧ (∀ (src : Nat) (g : Grace), srcExists src = true → kvGet s.flt.grace src = some g → g.kind < 64 → g.detail < 65536 →
        (g.until_ ≤ s.tick → Runs (exec (.graceExpiry src) s) (fun u => u.bit (FLT_SRCs_ESCALATED src) = true ∧ u.fget (FLT_SRCs_EFF src) = 2 ∧ kvGet u.flt.grace src = none ∧ u.bit (FLT_SRCs_TIMER src) = false
          ∧ (s.flt.queue.length < 128 → ∃ e, u.flt.queue = s.flt.queue ++ [e] ∧ e.getD 0 0 = src * 2 ^ 22 + g.kind * 2 ^ 16 + g.detail) ∧ MadeSafe s u src g.kind g.detail))
        ∧ (s.tick < g.until_ → Runs (exec (.graceExpiry src) s) (fun u => u = s)))
    ∧ (∀ src, kvGet s.flt.grace src = none → Runs (exec (.graceExpiry src) s) (fun u => u = s))
    ∧ (∀ src : Nat, srcExists src = true →
        Runs (exec (.fltStatusClear src) s) (fun u => kvGet u.flt.grace src = none ∧ u.bit (FLT_SRCs_TIMER src) = false ∧ (∀ x, x ≠ src → kvGet u.flt.grace x = kvGet s.flt.grace x)
          ∧ (s.bit (FLT_SRCs_STATUS src) = true → s.srcPersists src = true → u.bit FLT_STATUS_CLEAR_REFUSED = true ∧ u.bit (FLT_SRCs_STATUS src) = true)
          ∧ (s.bit (FLT_SRCs_STATUS src) = true → s.srcPersists src = false → u.bit (FLT_SRCs_STATUS src) = false ∧ u.bit (FLT_SRCs_ESCALATED src) = false ∧ kvGet u.flt.kinds src = none)
          ∧ keepsFields s u [FLT_STATUS_B_PENDING, FLT_STATUS_CLEAR_REFUSED, FLT_SRCs_TIMER src, FLT_SRCs_STATUS src, FLT_SRCs_ESCALATED src]
          ∧ sansFields u = { sansFields s with flt := { s.flt with grace := u.flt.grace, kinds := u.flt.kinds } })
        ∧ Runs (exec (.forceEv src) s) (fun u => u = { s with faultQ := s.faultQ ++ [⟨src, 0, s.fget FLT_FORCE_DETAIL_DETAIL % 65536, 0⟩] })
        ∧ Runs (exec (.countClr src) s) (fun u => u.fget (FLT_SRCs_COUNT src) = 0 ∧ onlyFields s u [FLT_SRCs_COUNT src]))
    ∧ (∀ e rest, s.flt.queue = e :: rest → Runs (exec .fltQueueRead s) (fun u => u.flt.queue = rest ∧ (∀ w, w < 4 → kvGet u.snap (FLT_Q_Ww_WORD w).addr = some (e.getD w 0 % 2 ^ 32))
        ∧ u = { s with flt := { s.flt with queue := rest }, snap := u.snap }))
    ∧ (s.flt.queue = [] → Runs (exec .fltQueueRead s) (fun u => (∀ w, w < 4 → kvGet u.snap (FLT_Q_Ww_WORD w).addr = some 0) ∧ u = { s with snap := u.snap }))
    ∧ (s.flt.owed = false ∨ 128 ≤ s.flt.queue.length → Runs (exec .queueOvf s) (fun u => u = s))
    ∧ (s.flt.owed = true → s.flt.queue.length < 128 → Runs (exec .queueOvf s) (fun u => u.flt.owed = false ∧ Collected s u 0 1 s.flt.lost (s.srcClass 0) ∧ (s.srcClass 0 ≠ 2 → onlyCollector s u)))

/-- CLEAR of the safe state, and thermal management (R420, R423, R424, R425, R426). Where the spec leaves a reading open, the statement
rests on the model's choice: log entry 36. -/
def Obligations.ClearAndThermal : Prop :=
  ∀ s : State,
    (s.bit FLT_STATUS_SAFE = false → Runs (exec .clearEv s) (fun u => u = s))
    ∧ (∀ held : Bool, held = ((List.range 1024).any (fun src => s.bit (FLT_SRCs_STATUS src) && s.fget (FLT_SRCs_EFF src) == 2) || s.faultQ.any (fun m => s.effClass m == 2) || s.bit THM_STATUS_TRIP_ACT) →
        s.bit FLT_STATUS_SAFE = true →
        (held = true → Runs (exec .clearEv s) (fun u => u.bit FLT_STATUS_CLEAR_REFUSED = true ∧ onlyFields s u [FLT_STATUS_CLEAR_REFUSED]))
        ∧ (held = false → Runs (exec .clearEv s) (fun u => u.bit FLT_STATUS_SAFE = false ∧ u.fget FLT_STATUS_SCOPE = 0
          ∧ (s.fget FLT_STATUS_SCOPE ≠ 3 → ∀ n, n < 6 → s.isBar n = false → s.bit (STNn_SC_CTRL_SC_EN n) = true → u.bit (STNn_SC_STATUS_LOST n) = true ∧ u.bit (STNn_SC_STATUS_TRACKING n) = false)
          ∧ (s.fget FLT_STATUS_SCOPE = 3 → s.replaceOwed = false → onlyEvents s u [FLT_STATUS_SAFE, FLT_STATUS_SCOPE]))))
    ∧ (∀ t : Int, -5000 ≤ t → t ≤ 15000 →
        (s.bit THM_STATUS_SENSOR_BAD = true → Runs (exec (.thermalReading (.good t)) s) (fun u => u.fget THM_LAST_LAST = uint 16 t ∧ onlyFields { s with flt := { s.flt with badRun := 0, goodRun := s.flt.goodRun + 1 } } u [THM_LAST_LAST]))
        ∧ (s.bit THM_STATUS_SENSOR_BAD = false → Runs (exec (.thermalReading (.good t)) s) (fun u => u.fget THM_LAST_LAST = uint 16 t ∧ u.flt.temps = (t :: s.flt.temps).take 16 ∧ u.flt.goodRun = s.flt.goodRun + 1 ∧ u.flt.badRun = 0
          ∧ u.fget THM_TEMP_TEMP = uint 32 (quotOpen (((t :: s.flt.temps).take 16).foldl (· + ·) 0) ((t :: s.flt.temps).take 16).length)
          ∧ u.fget THM_M_MULT = u.mult ∧ u.bit THM_STATUS_THROTTLING = decide (10000 < u.fget THM_M_MULT)
          ∧ onlyThermal s u [THM_LAST_LAST, THM_TEMP_TEMP, THM_M_MULT, THM_STATUS_THROTTLING])))
    ∧ (∀ (r : Diode) (v : Int) (cause : Nat), (r = .good v ∧ (v < -5000 ∨ 15000 < v) ∧ cause = 3 ∨ r = .bad cause v) → cause < 4 →
        (s.flt.badRun < 2 ∨ s.bit THM_STATUS_SENSOR_BAD = true → Runs (exec (.thermalReading r) s) (fun u => u.fget THM_LAST_LAST = uint 16 v ∧ onlyFields { s with flt := { s.flt with badRun := s.flt.badRun + 1, goodRun := 0 } } u [THM_LAST_LAST]))
        ∧ (2 ≤ s.flt.badRun → s.bit THM_STATUS_SENSOR_BAD = false → Runs (exec (.thermalReading r) s) (fun u => u.fget THM_LAST_LAST = uint 16 v ∧ u.bit THM_STATUS_SENSOR_BAD = true ∧ u.fget THM_STATUS_BAD_CAUSE = cause ∧ u.bit THM_STATUS_TRIP_EN = false
          ∧ Sent s u 0x001 0x01 cause 0 ∧ u.fget THM_M_MULT = u.mult ∧ onlyThermal s u [THM_LAST_LAST, THM_STATUS_SENSOR_BAD, THM_STATUS_BAD_CAUSE, THM_STATUS_TRIP_EN, THM_M_MULT, THM_STATUS_THROTTLING])))
    ∧ (s.bit THM_STATUS_TRIP_EN = true → s.bit THM_STATUS_TRIP_ACT = false → Runs (exec .tripEv s) (fun u => u.bit THM_STATUS_TRIP_ACT = true ∧ Sent s u 0x002 0x01 (uint 16 ((sext 32 (s.fget THM_TEMP_TEMP)).tdiv 100)) 2 ∧ onlyEvents s u [THM_STATUS_TRIP_ACT]))
    ∧ (s.bit THM_STATUS_TRIP_EN = false ∨ s.bit THM_STATUS_TRIP_ACT = true → Runs (exec .tripEv s) (fun u => u = s))
    ∧ Runs (exec .tripRelease s) (fun u => u.bit THM_STATUS_TRIP_ACT = false ∧ onlyFields s u [THM_STATUS_TRIP_ACT])
    ∧ (s.bit THM_STATUS_SENSOR_BAD = false → Runs (exec .sensorBadClear s) (fun u => u = s))
    ∧ (s.bit THM_STATUS_SENSOR_BAD = true → s.flt.goodRun < 3 → Runs (exec .sensorBadClear s) (fun u => u.bit THM_STATUS_CLEAR_REFUSED = true ∧ onlyFields s u [THM_STATUS_CLEAR_REFUSED]))
    ∧ (s.bit THM_STATUS_SENSOR_BAD = true → 3 ≤ s.flt.goodRun → Runs (exec .sensorBadClear s) (fun u => u.bit THM_STATUS_SENSOR_BAD = false ∧ u.fget THM_STATUS_BAD_CAUSE = 0 ∧ u.bit THM_STATUS_TRIP_EN = true ∧ u.fget THM_M_MULT = u.mult ∧ u.flt.temps = []
        ∧ onlyThermal s u [THM_STATUS_SENSOR_BAD, THM_STATUS_BAD_CAUSE, THM_STATUS_TRIP_EN, THM_M_MULT, THM_STATUS_THROTTLING]))

/-- What resets the controller, what a reset leaves, BOOT_FAIL, BOOT and HB (R376, R385, R386, R387, R388, R389, R390). Where the spec
leaves a reading open, the statement rests on the model's choice: log entries 25, 26. -/
def Obligations.ResetsAndBoot : Prop :=
  ∀ s : State,
    Runs (exec .porEv s) (fun u => (∀ f, u.fget f = f.rst) ∧ u.power.phase = .reset ∧ u.power.pinLow = s.power.pinLow ∧ u.aonQ = [] ∧ u.jrn = { s.jrn with compact := none, staged := [] }
        ∧ u.led = State.reset.led ∧ u.ex = State.reset.ex ∧ u.upd.slotA = s.upd.slotA ∧ u.upd.slotB = s.upd.slotB ∧ u.pending = s.pending ∧ u.rail = State.reset.rail)
    ∧ (∀ (c : Instr) (cause : Nat), c = .watchdogEv ∧ cause = 4 ∨ c = .packageFault ∧ cause = 3 ∨ c = .resetPin true ∧ cause = 5 ∧ s.power.pinLow = false
          ∨ c = .softReset 0xC1EA ∧ cause = 6 ∧ s.power.phase = .run ∨ (∃ r, r < 6 ∧ c = .railUndervoltage r ∧ cause = 2 ∧ s.onVback = false) →
        (s.power.phase = .run ∨ s.power.phase = .recovery → Runs (exec c s) (fun u => ResetTo s u cause ∧ u.power.bootAt = s.tick ∧ (c = .resetPin true → u.power.pinLow = true) ∧ u.fget SYS_RESET_CAUSE_BOOT_FAILS = s.fget SYS_RESET_CAUSE_BOOT_FAILS
          ∧ (1 ≤ s.railState → s.railState < 6 → s.nSlaves ≠ 0 → u.railState = 6 ∧ u.fget RAIL_STATUS_FROST_CAUSE = 4 ∧ u.rail.resetAtEnd = true)))
        ∧ (s.power.phase = .reset → s.released = true → Runs (exec c s) (fun u => u.power.phase = .reset ∧ u.fget SYS_RESET_CAUSE_CAUSE = cause ∧ u.fget SYS_RESET_CAUSE_BOOT_FAILS = min 3 (s.fget SYS_RESET_CAUSE_BOOT_FAILS + 1)))
        ∧ (s.power.phase = .reset → s.released = false → Runs (exec c s) (fun u => u.fget SYS_RESET_CAUSE_CAUSE = min cause (s.fget SYS_RESET_CAUSE_CAUSE) ∧ keepsFields s u [SYS_RESET_CAUSE_CAUSE]
          ∧ sansFields u = { sansFields s with power := { s.power with pinLow := u.power.pinLow } }))
        ∧ ((∃ x y, s.power.phase = .backup x y) ∨ (∃ x, s.power.phase = .hibernate x) → Runs (exec c s) (fun u => u = { s with power := { s.power with pinLow := u.power.pinLow } })))
    ∧ (s.power.phase = .run ∨ s.power.phase = .recovery →
        Runs (exec .watchdogEv s) (fun u => ResetTo s u 4) ∧ Runs (exec .packageFault s) (fun u => ResetTo s u 3)
        ∧ (s.power.pinLow = false → Runs (exec (.resetPin true) s) (fun u => ResetTo s u 5)) ∧ (∀ r, r < 6 → s.onVback = false → Runs (exec (.railUndervoltage r) s) (fun u => ResetTo s u 2)))
    ∧ (s.power.phase = .run → Runs (exec (.softReset 0xC1EA) s) (fun u => ResetTo s u 6))
    ∧ (∀ r, r < 6 → s.onVback = true → Runs (exec (.railUndervoltage r) s) (fun u => u = s))
    ∧ (s.power.pinLow = true → Runs (exec (.resetPin true) s) (fun u => u = s))
    ∧ Runs (exec (.resetPin false) s) (fun u => u = { s with power := { s.power with pinLow := false, bootAt := if s.power.phase = .reset then s.tick else s.power.bootAt } })
    ∧ (∀ key : BitVec 16, (s.power.phase ≠ .run → Runs (exec (.softReset key) s) (fun u => u = s))
        ∧ (s.power.phase = .run → key ≠ 0xC1EA → Runs (exec (.softReset key) s) (fun u => u.bit SYS_STATUS_WRITE_REFUSED = true ∧ onlyFields s u [SYS_STATUS_WRITE_REFUSED])))
    ∧ (s.released = true → s.power.bootAt + msTicks 2000 ≤ s.tick → Runs (exec .bootFail s) (fun u => u.fget SYS_RESET_CAUSE_BOOT_FAILS = min 3 (s.fget SYS_RESET_CAUSE_BOOT_FAILS + 1)
        ∧ keepsFields s u [SYS_RESET_CAUSE_BOOT_FAILS] ∧ sansFields u = { sansFields s with power := { s.power with bootAt := s.tick } }))
    ∧ (s.released = false ∨ s.tick < s.power.bootAt + msTicks 2000 → Runs (exec .bootFail s) (fun u => u = s))
    ∧ (∀ train flash, s.released = false → Runs (exec (.bootEv train flash) s) (fun u => u = s))
    ∧ (∀ train flash, s.released = true → (flash = false ∨ train = false ∨ s.fget SYS_RESET_CAUSE_BOOT_FAILS = 3 ∨ s.bit SYS_STRAPS_RECOVERY = true) →
        Runs (exec (.bootEv train flash) s) (fun u => u.power.phase = .recovery ∧ u.bit HIF_STATUS_RECOVERY = true ∧ u.bit PCIE_STATUS_LINK_UP = true ∧ (flash = false → u.bit UPD_STATUS_FLASH_ERR = true)
          ∧ u.led = s.led ∧ u.ex = s.ex ∧ u.dma = s.dma ∧ u.stn = s.stn ∧ u.drv = s.drv ∧ u.axs = s.axs))
    ∧ (s.released = true → s.fget SYS_RESET_CAUSE_BOOT_FAILS ≠ 3 → s.bit SYS_STRAPS_RECOVERY = false →
        Runs (exec (.bootEv true true) s) (fun u => u.drv = s.drv ∧ u.axs = s.axs ∧ match s.bootSlot with
          | some c => u.power.phase = .run ∧ u.bit HIF_STATUS_READY = true ∧ u.bit SYS_STATUS_BOOT_DONE = true ∧ u.fget SYS_RESET_CAUSE_BOOT_FAILS = 0 ∧ u.runSlot = c.1
              ∧ u.fget LEDG_STATUS_RESET_KIND = s.resetKind ∧ u.bit DRAMC_STATUS_READY = true
          | none => u.power.phase = .recovery ∧ u.bit HIF_STATUS_RECOVERY = true ∧ u.bit PCIE_STATUS_LINK_UP = true ∧ u.led = s.led ∧ u.ex = s.ex ∧ u.dma = s.dma ∧ u.stn = s.stn))
    ∧ (∀ (fresh alive : Bool), alive = (decide (s.power.phase = .run) && s.bit SYS_HB_HB_EN && s.bit SYS_STATUS_BOOT_DONE && fresh) →
        (alive = false → Runs (exec (.hbToggle fresh) s) (fun u => u = { s with power := { s.power with hb := false } }))
        ∧ (alive = true → s.timeFx % (500000 * 2 ^ 24) < s.fget TIME_INC_INC → Runs (exec (.hbToggle fresh) s) (fun u => u = { s with power := { s.power with hb := !s.power.hb } }))
        ∧ (alive = true → s.fget TIME_INC_INC ≤ s.timeFx % (500000 * 2 ^ 24) → Runs (exec (.hbToggle fresh) s) (fun u => u = s)))

/-- VMAIN and VBACK, backup operation, hibernate, the RTC, AON writes, and the clocks (R29, R371, R372, R373, R376, R378, R380, R381,
R384). Where the spec leaves a reading open, the statement rests on the model's choice: log entries 25, 26. -/
def Obligations.SuppliesAndHibernate : Prop :=
  ∀ s : State,
    (∀ mv : Nat, (2650 ≤ mv → Runs (exec (.vmainFail mv) s) (fun u => u = s))
        ∧ (mv < 2650 → Runs (exec (.vmainFail mv) s) (fun u => u.bit SYS_STATUS_ON_VBACK = true ∧ u.bit SYS_STATUS_VMAIN_OK = false ∧ u.fget SYS_SUPPLY_VMAIN = mv ∧ u.power.vmainSince = none
          ∧ (s.power.phase = .run ∨ s.power.phase = .recovery ∨ s.power.phase = .reset ∨ s.power.phase = .backup true false →
              u.power.phase = .backup false (s.jrn.staged.isEmpty) ∧ u.fget SYS_RESET_CAUSE_BK_AT_LOSS = s.fget SYS_STATUS_BACKUP_OK % 2 ∧ u.fget SYS_RESET_CAUSE_DEG_AT_LOSS = s.fget LEDG_STATUS_GUARANTEE_DEGRADED % 2
              ∧ u.bit SYS_RESET_CAUSE_FLUSH_DONE = s.jrn.staged.isEmpty ∧ u.jrn = { s.jrn with compact := none } ∧ u.led = State.reset.led ∧ u.ex = State.reset.ex ∧ u.drv = [] ∧ u.axs = [] ∧ u.stn = [] ∧ u.dma = [] ∧ u.upd.slotA = s.upd.slotA ∧ u.upd.slotB = s.upd.slotB
              ∧ (s.jrn.staged ≠ [] → u.timeFx = s.timeFx) ∧ (1 ≤ s.railState → s.railState < 6 → s.nSlaves ≠ 0 → u.railState = 6 ∧ u.fget RAIL_STATUS_FROST_CAUSE = 3))
          ∧ ((∃ x, s.power.phase = .hibernate x) ∨ (∃ y, s.power.phase = .backup false y) ∨ s.power.phase = .backup true true → u.power.phase = (match s.power.phase with | .backup _ y => .backup false y | x => x)
              ∧ keepsFields s u [SYS_STATUS_ON_VBACK, SYS_STATUS_VMAIN_OK, SYS_SUPPLY_VMAIN] ∧ sansFields u = { sansFields s with power := u.power }))))
    ∧ (∀ mv : Nat, mv < 65536 → (mv ≤ 2720 ∨ s.power.vmainSince.isSome = true → Runs (exec (.vmainReturn mv) s) (fun u => u = s))
        ∧ (2720 < mv → s.power.vmainSince = none → Runs (exec (.vmainReturn mv) s) (fun u => u.bit SYS_STATUS_ON_VBACK = false
          ∧ (s.power.phase = .hibernate true → s.power.wakes ≠ 0 → u.power.phase = .reset ∧ u.fget SYS_RESET_CAUSE_CAUSE = 7 ∧ u.fget SYS_WAKE_SRC_WAKE = s.power.wakes % 16 ∧ u.power.wakes = 0)
          ∧ (s.power.phase ≠ .hibernate true ∨ s.power.wakes = 0 → u.bit SYS_STATUS_VMAIN_OK = true ∧ u.fget SYS_SUPPLY_VMAIN = mv ∧ keepsFields s u [SYS_STATUS_ON_VBACK, SYS_STATUS_VMAIN_OK, SYS_SUPPLY_VMAIN] ∧ sansFields u = { sansFields s with power := { s.power with vmainSince := some s.tick } }))))
    ∧ (∀ vm vb : Nat, vm < 65536 → vb < 65536 →
        ((∃ x, s.power.phase = .hibernate x) → Runs (exec (.backupSample vm vb) s) (fun u => u = s))
        ∧ (∀ x y, s.power.phase = .backup x y → Runs (exec (.backupSample vm vb) s) (fun u => u = { s with power := { s.power with flushLost := s.power.flushLost || (!y && decide (vb < 2700)) } }))
        ∧ (s.power.phase = .run ∨ s.power.phase = .recovery ∨ s.power.phase = .reset → Runs (exec (.backupSample vm vb) s) (fun u => u.fget SYS_SUPPLY_VMAIN = vm ∧ u.fget SYS_SUPPLY_VBACK = vb
          ∧ (vb < s.bkMin → u.bit SYS_STATUS_BACKUP_OK = false ∧ (s.power.phase = .run → s.bit SYS_STATUS_BACKUP_OK = true → u.bit LEDG_STATUS_BACKUP_OK = false ∧ Sent s u 0x003 0x01 (vb / 10) 0))
          ∧ (s.bit SYS_STATUS_BACKUP_OK = false → s.bkMin + 50 ≤ vb → s.power.bkLowAt + msTicks 100 ≤ s.tick → u.bit SYS_STATUS_BACKUP_OK = true)
          ∧ (s.bkMin ≤ vb → s.bit SYS_STATUS_BACKUP_OK = true ∨ vb < s.bkMin + 50 → u.bit SYS_STATUS_BACKUP_OK = s.bit SYS_STATUS_BACKUP_OK
              ∧ keepsFields s u [SYS_SUPPLY_VMAIN, SYS_SUPPLY_VBACK, SYS_STATUS_VMAIN_OK] ∧ sansFields u = { sansFields s with power := u.power }))))
    ∧ (∀ soft : Bool, s.power.phase = .backup soft true →
        (s.railState ≠ 0 → Runs (exec .frostEndDecision s) (fun u => u = s))
        ∧ (s.railState = 0 → soft = false → s.vmainSteady = true → Runs (exec .frostEndDecision s) (fun u => ResetTo s u 1))
        ∧ (s.railState = 0 → soft = true ∨ s.vmainSteady = false → Runs (exec .frostEndDecision s) (fun u => u.power.phase = .hibernate soft ∧ (∀ f : Fld, u.fget f = if keptKey f.key then s.fget f else f.rst) ∧ u.jrn = { s.jrn with compact := none } ∧ u.led = State.reset.led)))
    ∧ ((∀ x, s.power.phase ≠ .backup x true) → Runs (exec .frostEndDecision s) (fun u => u = s))
    ∧ (∀ (key : BitVec 16) (busy : Bool), busy = (s.anyActive || (List.range 8).any (fun n => s.bit (DRVn_CTRL_ENABLE n)) || (List.range 20).any (fun n => s.bit (AXSn_CTRL_ENABLE n)) || s.bit FUS_CTRL_FUSER_EN_REQ) →
        (s.power.phase ≠ .run → Runs (exec (.hibernateRequest key) s) (fun u => u = s))
        ∧ (s.power.phase = .run → busy = true ∨ key ≠ 0x1BE5 → Runs (exec (.hibernateRequest key) s) (fun u => u.bit SYS_STATUS_HIB_REFUSED = true ∧ onlyFields s u [SYS_STATUS_HIB_REFUSED]))
        ∧ (s.power.phase = .run → busy = false → key = 0x1BE5 → Runs (exec (.hibernateRequest key) s) (fun u => u.power.phase = .backup true (s.jrn.staged.isEmpty) ∧ u.bit SYS_RESET_CAUSE_FLUSH_DONE = s.jrn.staged.isEmpty
          ∧ (1 ≤ s.railState → s.railState < 6 → s.nSlaves ≠ 0 → u.railState = 6 ∧ u.fget RAIL_STATUS_FROST_CAUSE = 5))))
    ∧ (∀ (c : Instr) (b : Nat), (b < 4 ∧ c = .wakeInput b ∧ (s.fget SYS_WAKE_CFG_EN).testBit b = true ∨ b = 4 ∧ c = .alarmEv ∧ s.bit SYS_WAKE_CFG_ALARM_EN = true ∧ s.rtc = s.rtcAlarm) →
        (s.power.phase ≠ .hibernate true → Runs (exec c s) (fun u => u = s))
        ∧ (s.power.phase = .hibernate true → s.power.vmainSince = none → Runs (exec c s) (fun u => u.power.wakes.testBit b = true ∧ (∀ j, j ≠ b → u.power.wakes.testBit j = s.power.wakes.testBit j) ∧ u = { s with power := { s.power with wakes := u.power.wakes } }))
        ∧ (s.power.phase = .hibernate true → s.power.vmainSince.isSome = true → s.power.wakes = 0 → Runs (exec c s) (fun u => u.power.phase = .reset ∧ u.fget SYS_RESET_CAUSE_CAUSE = 7 ∧ u.fget SYS_WAKE_SRC_WAKE = 2 ^ b % 16 ∧ u.fget SYS_WAKE_SRC_ALARM = b / 4 ∧ u.power.wakes = 0)))
    ∧ (s.power.phase = .hibernate true → s.power.vmainSince.isSome = true → s.power.wakes = 0 →
        (∀ k, k < 4 → (s.fget SYS_WAKE_CFG_EN).testBit k = true → Runs (exec (.wakeInput k) s) (fun u => u.power.phase = .reset ∧ u.fget SYS_RESET_CAUSE_CAUSE = 7 ∧ u.fget SYS_WAKE_SRC_WAKE = 2 ^ k))
        ∧ (s.bit SYS_WAKE_CFG_ALARM_EN = true → s.rtc = s.rtcAlarm → Runs (exec .alarmEv s) (fun u => u.power.phase = .reset ∧ u.fget SYS_RESET_CAUSE_CAUSE = 7 ∧ u.fget SYS_WAKE_SRC_ALARM = 1)))
    ∧ (∀ k, k < 4 → (s.fget SYS_WAKE_CFG_EN).testBit k = false → Runs (exec (.wakeInput k) s) (fun u => u = s)) ∧ (s.bit SYS_WAKE_CFG_ALARM_EN = false ∨ s.rtc ≠ s.rtcAlarm → Runs (exec .alarmEv s) (fun u => u = s))
    ∧ (s.power.phase = .hibernate false → s.vmainSteady = true → Runs (exec .hibernateExitPower s) (fun u => ResetTo s u 1)) ∧ (s.power.phase ≠ .hibernate false ∨ s.vmainSteady = false → Runs (exec .hibernateExitPower s) (fun u => u = s))
    ∧ Runs (exec .rtcSet s) (fun u => u = { s with power := { s.power with rtcNext := some (s.fget SYS_RTC_SET_LO_SEC + 2 ^ 32 * (s.fget SYS_RTC_SET_HI_SEC % 2 ^ 16)) } })
    ∧ (s.aonQ = [] → Runs (exec .aonWriteComplete s) (fun u => u = s))
    ∧ (∀ a w rest, s.aonQ = (a, w) :: rest → Runs (exec .aonWriteComplete s) (fun u => (s.aonWait.filter s.stalledOn = [] → u.aonQ = rest ∧ u.aonWait = [])
        ∧ (∀ e more, s.aonWait.filter s.stalledOn = e :: more → u.aonQ = rest ++ [(e.1, e.2.1)] ∧ u.aonWait = more
            ∧ (∀ i t, e.2.2 = some i → s.task? i = some t → u.task? i = some { t with stall := false, stat := .ready, readyAt := s.tick } ∧ ∀ j, j ≠ i → u.task? j = s.task? j))))
    ∧ (∀ w rest, s.aonQ = (SYS_BK_MIN_BK_MIN.addr, w) :: rest → s.aonWait = [] → Runs (exec .aonWriteComplete s) (fun u => u.aonQ = rest ∧ u.fget SYS_BK_MIN_BK_MIN = max 2900 (min 5500 (SYS_BK_MIN_BK_MIN.part w))
        ∧ keepsFields s u [SYS_BK_MIN_BK_MIN] ∧ sansFields u = { sansFields s with aonQ := rest }))
    ∧ (∀ k, k < 4 → ((s.fget SYS_CLK_LOCK).testBit k = true → Runs (exec (.lockLost k) s) (fun u => (u.fget SYS_CLK_LOCK).testBit k = false ∧ (u.fget SYS_CLK_LOSS_SEEN).testBit k = true ∧ u.faultQ = s.faultQ ++ [⟨0x004, 0x01, k, 0⟩]
          ∧ keepsFields s u [SYS_CLK_LOCK, SYS_CLK_LOSS_SEEN] ∧ sansFields u = { sansFields s with faultQ := u.faultQ }))
        ∧ ((s.fget SYS_CLK_LOCK).testBit k = false → Runs (exec (.lockLost k) s) (fun u => u = s))
        ∧ (s.power.phase = .run ∨ s.power.phase = .recovery → Runs (exec (.pllRelock k) s) (fun u => (u.fget SYS_CLK_LOCK).testBit k = true ∧ (k < 3 → u.bit SYS_CLK_REF_OK = true) ∧ onlyFields s u (SYS_CLK_LOCK :: (if k < 3 then [SYS_CLK_REF_OK] else []))))
        ∧ (s.power.phase ≠ .run → s.power.phase ≠ .recovery → Runs (exec (.pllRelock k) s) (fun u => u = s)))
    ∧ (s.bit SYS_CLK_REF_OK = true → Runs (exec .refLost s) (fun u => u.bit SYS_CLK_REF_OK = false ∧ u.bit SYS_CLK_REF_LOST_SEEN = true ∧ (∀ k, k < 3 → (u.fget SYS_CLK_LOCK).testBit k = false) ∧ (∃ d, u.faultQ = s.faultQ ++ [⟨0x004, 0x02, d, 0⟩])
        ∧ keepsFields s u [SYS_CLK_REF_OK, SYS_CLK_REF_LOST_SEEN, SYS_CLK_LOCK, SYS_CLK_LOSS_SEEN] ∧ sansFields u = { sansFields s with faultQ := u.faultQ, freeCtr := u.freeCtr }))
    ∧ (s.bit SYS_CLK_REF_OK = false → Runs (exec .refLost s) (fun u => u = s))
    ∧ (s.bit SYS_CLK_XT32_FAIL = false → Runs (exec .xt32Fail s) (fun u => u.bit SYS_CLK_XT32_FAIL = true ∧ (∃ d, u.faultQ = s.faultQ ++ [⟨0x004, 0x03, d, 0⟩]) ∧ keepsFields s u [SYS_CLK_XT32_FAIL] ∧ sansFields u = { sansFields s with faultQ := u.faultQ, freeCtr := u.freeCtr }))
    ∧ (s.bit SYS_CLK_XT32_FAIL = true → Runs (exec .xt32Fail s) (fun u => u = s))

/-- LOCK, UNLOCK, DEBUG, the slot table's erase, compaction of settings, and the recovery frames (R433, R434, R440, R441, R442, R443,
R444). Where the spec leaves a reading open, the statement rests on the model's choice: log entries 27, 51. -/
def Obligations.TokensAndRecovery : Prop :=
  ∀ s : State,
    (∀ (c : Instr) (a : Nat) (blank hit : Bool), (c = .lockEv ∧ a = 1 ∨ c = .unlockEv ∧ a = 2 ∨ c = .debugEv ∧ a = 3) → blank = (if a = 3 then Config.debugBlank else Config.ownerBlank) →
        hit = (if a = 3 then Config.debugMatch s.tokenWord else Config.ownerMatch s.tokenWord) →
        Runs (exec c s) (fun u => (∀ w, w < 4 → u.fget (UPD_TOKENw_TOKEN w) = 0)
          ∧ (if 3 ≤ s.fget UPD_STATUS_TOKEN_FAILS ∨ blank = true then u.bit UPD_STATUS_CMD_REFUSED = true ∧ onlyFields s u (UPD_STATUS_CMD_REFUSED :: [UPD_TOKENw_TOKEN 0, UPD_TOKENw_TOKEN 1, UPD_TOKENw_TOKEN 2, UPD_TOKENw_TOKEN 3])
             else if hit then (if a = 3 then u.bit UPD_STATUS_DEBUG_OPEN = true ∧ onlyFields s u (UPD_STATUS_DEBUG_OPEN :: [UPD_TOKENw_TOKEN 0, UPD_TOKENw_TOKEN 1, UPD_TOKENw_TOKEN 2, UPD_TOKENw_TOKEN 3])
                  else keepsFields s u [UPD_TOKENw_TOKEN 0, UPD_TOKENw_TOKEN 1, UPD_TOKENw_TOKEN 2, UPD_TOKENw_TOKEN 3] ∧ sansFields u = { sansFields s with upd := if s.upd.erasing then { s.upd with asked := s.upd.asked ++ [.lock (decide (a = 1))] } else { s.upd with lock := decide (a = 1), gen := s.upd.gen + 1, erasing := true } })
             else u.bit UPD_STATUS_TOKEN_FAIL = true ∧ u.fget UPD_STATUS_TOKEN_FAILS = s.fget UPD_STATUS_TOKEN_FAILS + 1 ∧ u.faultQ = s.faultQ ++ [⟨0x1B1, 0x03, 0, 0⟩]
                  ∧ keepsFields s u (UPD_STATUS_TOKEN_FAIL :: UPD_STATUS_TOKEN_FAILS :: [UPD_TOKENw_TOKEN 0, UPD_TOKENw_TOKEN 1, UPD_TOKENw_TOKEN 2, UPD_TOKENw_TOKEN 3]) ∧ sansFields u = { sansFields s with faultQ := u.faultQ, upd := u.upd } ∧ (a ≠ 3 → u.upd = s.upd)
                  ∧ (a = 3 → u.upd = if s.upd.erasing then { s.upd with asked := s.upd.asked ++ [.debugFail] } else { s.upd with debugFails := s.upd.debugFails + 1, gen := s.upd.gen + 1, erasing := true }))))
    ∧ (s.fget UPD_STATUS_TOKEN_FAILS < 3 → s.upd.erasing = false →
        (Config.ownerBlank = false → Config.ownerMatch s.tokenWord = true → Runs (exec .lockEv s) (fun u => u.upd.lock = true ∧ u.upd.gen = s.upd.gen + 1 ∧ u.upd.erasing = true)
          ∧ Runs (exec .unlockEv s) (fun u => u.upd.lock = false ∧ u.upd.gen = s.upd.gen + 1 ∧ u.upd.erasing = true))
        ∧ (Config.debugBlank = false → Config.debugMatch s.tokenWord = true → Runs (exec .debugEv s) (fun u => u.bit UPD_STATUS_DEBUG_OPEN = true ∧ u.upd = s.upd)))
    ∧ (s.upd.asked = [] → Runs (exec .slotTableEraseDone s) (fun u => u = { s with upd := { s.upd with erasing := false } }))
    ∧ (∀ b rest, s.upd.asked = .lock b :: rest → Runs (exec .slotTableEraseDone s) (fun u => u = { s with upd := { s.upd with asked := rest, lock := b, gen := s.upd.gen + 1, erasing := true } }))
    ∧ (∀ rest, s.upd.asked = .debugFail :: rest → Runs (exec .slotTableEraseDone s) (fun u => u = { s with upd := { s.upd with asked := rest, debugFails := s.upd.debugFails + 1, gen := s.upd.gen + 1, erasing := true } }))
    ∧ (s.areaOf s.runSlot = none → Runs (exec .settingsCompact s) (fun u => u = s))
    ∧ (∀ i a, s.areaOf s.runSlot = some (i, a) → (8 * (32 + 8 * a.entries.length) < 7 * 2 ^ 20 → Runs (exec .settingsCompact s) (fun u => u = s))
        ∧ (7 * 2 ^ 20 ≤ 8 * (32 + 8 * a.entries.length) → Runs (exec .settingsCompact s) (fun u => (∀ k, u.setGet k = s.setGet k) ∧ (∃ j b, u.areaOf u.runSlot = some (j, b) ∧ j ≠ i ∧ b.schema = a.schema ∧ (b.entries.map (fun e => e.1)).Nodup)
          ∧ u = { s with upd := u.upd } ∧ u.upd.slotA.image = s.upd.slotA.image ∧ u.upd.slotB.image = s.upd.slotB.image)))
    ∧ (∀ (f : RecFrame) (c : Instr) (op : Nat) (hd ans : Nat → Nat → List Byte), f.path = 1 ∨ f.path = 2 → f.data.length ≤ 1024 → (c = .recoveryData f ∧ op = 1 ∨ c = .recoveryDone f ∧ op = 2 ∨ c = .recoveryActivate f ∧ op = 3 ∨ c = .recoveryToken f ∧ op = 4) →
        (∀ o st, hd o st = [o, st, f.seq, f.seq / 256, f.offset, f.offset / 256, f.offset / 65536, f.offset / 16777216].map (fun x => BitVec.ofNat 8 x)) →
        (∀ o st, ans o st = if f.path = 2 then [0x7E, 8, 0] ++ hd o st ++ natToBytes (crc16 ((hd o st).flatMap (fun x => bitsOf x.toNat 8))) 2 else hd o st) →
        (s.power.phase ≠ .recovery ∨ s.upd.path.isSome = true ∧ s.upd.path ≠ some f.path → Runs (exec c s) (fun u => u = s))
        ∧ (s.power.phase = .recovery → s.upd.path = none ∨ s.upd.path = some f.path →
          (∀ l, s.upd.lastSeq = some l → f.seq % 65536 = l % 65536 → Runs (exec c s) (fun u => u = { s with upd := { s.upd with answer := some (ans op 0), lastSeq := some f.seq } }))
          ∧ (∀ l, s.upd.lastSeq = some l → f.seq % 65536 ≠ (l + 1) % 65536 → f.seq % 65536 ≠ l % 65536 → Runs (exec c s) (fun u => u = { s with upd := { s.upd with answer := some (ans op 1) } }))
          ∧ (s.upd.lastSeq = none ∨ (∃ l, s.upd.lastSeq = some l ∧ f.seq % 65536 = (l + 1) % 65536) →
              ((c = .recoveryData f ∨ c = .recoveryDone f) → s.upd.lock = true → s.upd.token = false → Runs (exec c s) (fun u => u = { s with upd := { s.upd with answer := some (ans op 2) } }))
              ∧ (s.upd.lock = false ∨ s.upd.token = true → Runs (exec (.recoveryData f) s) (fun u => u = { s with upd := { s.upd with path := some f.path, buf := u.upd.buf, answer := some (ans 1 0), lastSeq := some f.seq } }
                  ∧ (∀ j, j < f.data.length → memGet u.upd.buf (f.offset + j) = f.data.getD j 0) ∧ ∀ x, (x < f.offset ∨ f.offset + f.data.length ≤ x) → memGet u.upd.buf x = memGet s.upd.buf x))
              ∧ ((s.upd.lock = false ∨ s.upd.token = true) → s.upd.erasing = true → Runs (exec (.recoveryDone f) s) (fun u => u = s))
              ∧ (∀ b, s.upd.lock = false ∨ s.upd.token = true → s.upd.erasing = false → b = memRead s.upd.buf 0 (min f.offset (28 * 2 ^ 20)) →
                  Runs (exec (.recoveryDone f) s) (fun u => if imgLen b ≠ f.offset ∨ (imageErr b f.offset).isSome = true then u = { s with upd := { s.upd with answer := some (ans 2 2) } }
                    else u.upd.answer = some (ans 2 0) ∧ u.upd.written = some (if s.upd.slotA.st = 3 then 1 else 0) ∧ (u.slot (decide (s.upd.slotA.st = 3))).image = imgOnly b ∧ (u.slot (decide (s.upd.slotA.st = 3))).st = 1
                      ∧ u.slot (!decide (s.upd.slotA.st = 3)) = s.slot (!decide (s.upd.slotA.st = 3)) ∧ u = { s with upd := u.upd }))
              ∧ (s.upd.written = none → Runs (exec (.recoveryActivate f) s) (fun u => u = { s with upd := { s.upd with answer := some (ans 3 2) } }))
              ∧ (s.upd.written.isSome = true → s.upd.erasing = true → Runs (exec (.recoveryActivate f) s) (fun u => u = s))
              ∧ (∀ w, s.upd.written = some w → s.upd.erasing = false → Runs (exec (.recoveryActivate f) s) (fun u => u.power.phase = .reset ∧ u.fget SYS_RESET_CAUSE_CAUSE = 6 ∧ u.fget SYS_RESET_CAUSE_BOOT_FAILS = 0 ∧ (u.slot (decide (w = 1))).st = 3
                  ∧ (u.slot (decide (w = 1))).image = (s.slot (decide (w = 1))).image ∧ u.upd.boot = (if w = 1 then 1 else 0) ∧ u.slot (!decide (w = 1)) = s.slot (!decide (w = 1)) ∧ u.led = State.reset.led))
              ∧ (s.upd.lock = false → Runs (exec (.recoveryToken f) s) (fun u => u = { s with upd := { s.upd with answer := some (ans 4 0), lastSeq := some f.seq } }))
              ∧ (s.upd.lock = true → Runs (exec (.recoveryToken f) s) (fun u => u = if Config.ownerMatch (bytesToNat (f.data.take 16)) then { s with upd := { s.upd with token := true, answer := some (ans 4 0), lastSeq := some f.seq } }
                  else { s with upd := { s.upd with answer := some (ans 4 2) } })))))

/-- Wear measurements, self-tests, RETIRE and RESTORE; hard failures, moves and resent flits (R13, R14, R17, R19, R114, R117, R203, R452,
R453, R454). Where the spec leaves a reading open, the statement rests on the model's choice: log entries 28, 41, 42, 43. -/
def Obligations.WearAndFailures : Prop :=
  ∀ s : State,
    (∀ src age errs : Nat, monitored src = true →
        Runs (exec (.wearMeasure src age errs) s) (fun u => (u.unitOf src).age = min 1023 age ∧ (u.unitOf src).errs = min 65535 errs ∧ (∀ x, x ≠ src → kvGet u.units x = kvGet s.units x))
        ∧ (∀ worn : Bool, worn = (s.fget UPD_WEAR_CTRL_AGE_THR != 0 && decide (s.fget UPD_WEAR_CTRL_AGE_THR ≤ min 1023 age) || s.fget UPD_WEAR_CTRL_ERR_THR != 0 && decide (s.fget UPD_WEAR_CTRL_ERR_THR ≤ min 65535 errs)) →
          (worn = false ∨ s.bit UPD_WEAR_CTRL_AUTO_RETIRE = false ∨ s.serving src = false ∨ s.unitOk src = false → Runs (exec (.wearMeasure src age errs) s) (fun u => (u.unitOf src).worn = worn ∧ (u.unitOf src).retired = (s.unitOf src).retired ∧ u = { s with units := u.units }))
          ∧ (worn = true → s.bit UPD_WEAR_CTRL_AUTO_RETIRE = true → s.serving src = true → s.unitOk src = true →
              (s.spareFor src = true → Runs (exec (.wearMeasure src age errs) s) (fun u => (u.unitOf src).retired = true ∧ u.faultQ = s.faultQ ++ [⟨0x1B1, 0x10, src, 0⟩] ∧ (src < 0x060 → (src - 0x040, (false, false)) ∈ u.ex.moves) ∧ u.mem = s.mem ∧ u.led = s.led ∧ u.drv = s.drv ∧ u.axs = s.axs))
              ∧ (s.spareFor src = false → Runs (exec (.wearMeasure src age errs) s) (fun u => (u.unitOf src).retired = (s.unitOf src).retired ∧ (u.unitOf src).worn = true ∧ (u.unitOf src).noSpare = true
                  ∧ u = { s with units := u.units, faultQ := if (s.unitOf src).noSpare then s.faultQ else s.faultQ ++ [⟨0x1B1, 0x11, src, 0⟩] }))))
        ∧ (∀ ok : Bool, (ok = false → s.idleSpare src = true → Runs (exec (.spareSelfTest src ok) s) (fun u => (u.unitOf src).unavail = true ∧ (∀ x, x ≠ src → kvGet u.units x = kvGet s.units x) ∧ u = { s with units := u.units }))
          ∧ (ok = true ∨ s.idleSpare src = false → Runs (exec (.spareSelfTest src ok) s) (fun u => u = s))))
    ∧ (∀ src : Nat, src = s.fget UPD_WEAR_SEL_SOURCE →
        (monitored src = false ∨ s.unitOk src = false ∨ s.idleSpare src = false ∧ s.serving src = false → Runs (exec .retireEv s) (fun u => u.bit UPD_STATUS_CMD_REFUSED = true ∧ onlyFields s u [UPD_STATUS_CMD_REFUSED]))
        ∧ (monitored src = true → s.unitOk src = true → s.idleSpare src = true → Runs (exec .retireEv s) (fun u => (u.unitOf src).retired = true ∧ (u.unitOf src).unavail = true ∧ u = { s with units := u.units }))
        ∧ (monitored src = true → s.unitOk src = true → s.idleSpare src = false → s.serving src = true → s.spareFor src = true → Runs (exec .retireEv s) (fun u => (u.unitOf src).retired = true ∧ u.faultQ = s.faultQ ++ [⟨0x1B1, 0x10, src, 0⟩]
            ∧ (src < 0x060 → (src - 0x040, (false, false)) ∈ u.ex.moves) ∧ u.mem = s.mem ∧ u.led = s.led ∧ u.drv = s.drv ∧ u.axs = s.axs))
        ∧ (monitored src = true → (s.unitOf src).retired = true → s.serving src = false → Runs (exec .restoreEv s) (fun u => (u.unitOf src).retired = false ∧ (u.unitOf src).unavail = false ∧ (∀ x, x ≠ src → kvGet u.units x = kvGet s.units x)
            ∧ (src < 0x060 → u.fget (PLC_ENGp_STATE (src - 0x040)) = 0) ∧ keepsFields s u [PLC_ENGp_STATE (src - 0x040)] ∧ sansFields u = { sansFields s with units := u.units, stn := u.stn }))
        ∧ (monitored src = false ∨ (s.unitOf src).retired = false ∨ s.serving src = true → Runs (exec .restoreEv s) (fun u => u.bit UPD_STATUS_CMD_REFUSED = true ∧ onlyFields s u [UPD_STATUS_CMD_REFUSED])))
    ∧ (∀ p kind detail : Nat, p < 25 → kind < 64 → detail < 65536 →
        (s.ex.moving.filter (fun m => m.old == p || m.new == p) = [] →
        (s.fget (PLC_ENGp_STATE p) ≠ 1 → Runs (exec (.unitHardFail (.engine p) kind detail) s) (fun u => (u.unitOf (0x040 + p)).failed = true ∧ u.fget (PLC_ENGp_STATE p) = (if s.fget (PLC_ENGp_STATE p) = 2 then 2 else 3) ∧ u.faultQ = s.faultQ ++ [⟨0x040 + p, kind, detail, 0⟩]
            ∧ keepsFields s u [PLC_ENGp_STATE p] ∧ sansFields u = { sansFields s with units := u.units, faultQ := u.faultQ }))
        ∧ (∀ q, s.fget (PLC_ENGp_STATE p) = 1 → s.freeSpare p = some q → Runs (exec (.unitHardFail (.engine p) kind detail) s) (fun u => (u.unitOf (0x040 + p)).failed = true ∧ u.fget (PLC_ENGp_STATE p) = 3 ∧ u.fget (PLC_ENGp_STATE q) = 1
            ∧ u.fget (PLC_ENGp_LOGICAL q) = s.fget (PLC_ENGp_LOGICAL p) % 2 ^ (PLC_ENGp_LOGICAL q).width ∧ Sent s u (0x040 + p) kind detail 0
            ∧ ((s.ex.tasks.map (fun e => e.1)).Nodup → ∀ i t, s.task? i = some t → ∃ x, u.task? i = some x ∧ x.hdr = t.hdr ∧ x.phys = (if t.phys = p then q else t.phys) ∧ (t.phys = p → t.started = true → (t.stat ≠ .trapped ∨ t.autoRestart = true) → x.stat = .ready) ∧ (t.phys ≠ p → x = t))))
        ∧ (s.fget (PLC_ENGp_STATE p) = 1 → s.freeSpare p = none → Runs (exec (.unitHardFail (.engine p) kind detail) s) (fun u => (u.unitOf (0x040 + p)).failed = true ∧ u.fget (PLC_ENGp_STATE p) = 3 ∧ u.faultQ = s.faultQ ++ [⟨0x040 + p, kind, detail, if p < 20 then 2 else 0⟩]
            ∧ kvGet u.ex.running p = none ∧ (∀ i t, s.task? i = some t → ∃ x, u.task? i = some x ∧ x.arch = t.arch ∧ (t.phys = p → x.stat = .stopped) ∧ (t.phys ≠ p → x = t)) ∧ keepsFields s u [PLC_ENGp_STATE p])))
        ∧ (1 ≤ detail → detail ≤ 5 → (p < 6 → Runs (exec (.unitHardFail (.pipeline p) kind detail) s) (fun u => (u.unitOf (0x060 + p)).failed = true
            ∧ (s.stnx.moveReq ≠ some p ∨ s.stnx.loaded = false ∨ s.bit (STNn_PL_STATUS_SERVED_X p) = true → u.faultQ = s.faultQ ++ [⟨0x060 + p, 0x06, detail, 0⟩] ∧ keepsFields s u [STNX_STATUS_STATE]
              ∧ sansFields u = { sansFields s with units := u.units, faultQ := u.faultQ, stn := u.stn, stnx := u.stnx }) ∧ Sent s u (0x060 + p) 0x06 detail 0
            ∧ (s.bit (STNn_PL_STATUS_SERVED_X p) = false → s.stnxFree = true → u.stnx.moveReq = some p ∧ u.stnx.atWindow = true ∧ u.fget STNX_STATUS_STATE = 1)))
          ∧ Runs (exec (.unitHardFail (.pipeline 6) kind detail) s) (fun u => (u.unitOf 0x066).failed = true ∧ u.faultQ = s.faultQ ++ [⟨0x066, 0x06, detail, 0⟩] ∧ u.fget STNX_STATUS_STATE = 3 ∧ u.stnx.moveReq = none ∧ keepsFields s u [STNX_STATUS_STATE]
            ∧ sansFields u = { sansFields s with units := u.units, faultQ := u.faultQ, stnx := u.stnx }))
        ∧ (∀ n c src, (n < 8 ∧ c = UnitId.drv n ∧ src = 0x140 + 2 * n ∨ n < 20 ∧ c = .axs n ∧ src = 0x160 + 2 * n ∨ n < 32 ∧ c = .hvo n ∧ src = 0x1C0 + n ∨ n < 2 ∧ c = .fus n ∧ src = 0x1E0 + n) → Runs (exec (.unitHardFail c kind detail) s) (fun u => u = { s with faultQ := s.faultQ ++ [⟨src, kind, detail, 0⟩] }))
        ∧ (∀ l, p < 6 → l < 17 → (s.bit (STNn_BR_LANEl_FAILED p l) = true → Runs (exec (.unitHardFail (.lane p l) kind detail) s) (fun u => u = s))
            ∧ (s.bit (STNn_BR_LANEl_FAILED p l) = false → Runs (exec (.unitHardFail (.lane p l) kind detail) s) (fun u => u.bit (STNn_BR_LANEl_FAILED p l) = true ∧ Sent s u (0x080 + 0x20 * p + l) 1 detail 0
                ∧ sansEvent u = { sansEvent s with shadow := u.shadow, shadowAt := u.shadowAt } ∧ onlyRing s u ∧ keepsFields s u [PLC_STATUS_OVERRUN, STNn_BR_LANEl_FAILED p l, STNn_PL_LANE_LANE_SUB p, STNn_BR_STATUS_LANE_DEAD p])))
        ∧ (∀ due : Bool, due = s.ex.moves.any (fun m => m.1 == p && s.moveAllowed m.2.1 && (m.2.2 || !s.anyActive)) →
            (due = false ∨ s.freeSpare p = none ∨ s.replaying = true → Runs (exec (.boundaryMove p) s) (fun u => u = s))
            ∧ (∀ q, due = true → s.freeSpare p = some q → s.replaying = false → s.fget (PLC_ENGp_STATE p) = 1 → Runs (exec (.boundaryMove p) s) (fun u => u.fget (PLC_ENGp_STATE q) = 4 ∧ u.fget (PLC_ENGp_STATE p) = 4 ∧ u.fget (PLC_MOVES_BOUNDARY_MOVES) = min (2 ^ PLC_MOVES_BOUNDARY_MOVES.width - 1) (s.fget PLC_MOVES_BOUNDARY_MOVES + 1)
                ∧ keepsFields s u [PLC_MOVES_BOUNDARY_MOVES, PLC_ENGp_LOAD p, PLC_ENGp_TASKS p, PLC_ENGp_STATE p, PLC_ENGp_LOGICAL p, PLC_ENGp_LOAD q, PLC_ENGp_TASKS q, PLC_ENGp_STATE q, PLC_ENGp_LOGICAL q]
                ∧ (∀ i t, s.task? i = some t → u.task? i = some (if t.phys = p then { t with phys := q } else t)) ∧ kvGet u.ex.running p = none ∧ kvGet u.ex.running q = none
                ∧ (∃ x : Moving, u.ex.moving = s.ex.moving ++ [x] ∧ x.old = p ∧ x.new = q ∧ x.st = (if s.ex.moves.any (fun m => m.1 == p && !m.2.1) then 2 else 0) ∧ s.tick + 10 ≤ x.until_ ∧ x.until_ ≤ s.tick + (if p < 20 then 34 else 42))
                ∧ u = { s with fields := u.fields, freeCtr := u.freeCtr, ex := { s.ex with tasks := u.ex.tasks, running := u.ex.running, moves := u.ex.moves, moving := u.ex.moving, placeRecs := u.ex.placeRecs }, recd := u.recd, mem := u.mem } ∧ onlyRing s u))))
    ∧ (∀ (m : Moving), s.ex.moving = [m] → m.until_ ≤ s.tick → m.old ≠ m.new → m.st < 8 → s.movesTick.fget (PLC_ENGp_STATE m.new) = 1 ∧ s.movesTick.fget (PLC_ENGp_STATE m.old) = m.st ∧ s.movesTick.ex.moving = []
        ∧ ∀ i t, m.task = some i → s.task? i = some t → t.stat = .running → kvGet s.movesTick.ex.running m.new = some i)
    ∧ (∀ (dir : Nat) (same : Bool) (k : Nat), dir < 2 → k = (if same then (kvGet s.mem.flitFails dir).getD 0 else 0) + 1 → Runs (exec (.flitResend dir same) s) (fun u => kvGet u.mem.flitFails dir = some k
        ∧ (s.fget (MEMI_LEAKc_LEVEL 3) < 15 → u.fget (MEMI_LEAKc_LEVEL 3) = s.fget (MEMI_LEAKc_LEVEL 3) + 1) ∧ (k = 8 → ∃ more kd, u.faultQ = s.faultQ ++ more ++ [⟨0x014, kd, dir, 2⟩])
        ∧ keepsFields s u [MEMI_LEAKc_LEVEL 3, MEMI_LEAKc_OVF 3] ∧ sansFields u = { sansFields s with mem := { s.mem with flitFails := u.mem.flitFails, armed := u.mem.armed }, faultQ := u.faultQ, freeCtr := u.freeCtr }))

/-- FREEZE, FROZEN, REARM, exports and loads, snapshots, TIME records, replay and its end (R445, R447, R448, R449, R450, R451). Where the
spec leaves a reading open, the statement rests on the model's choice: log entries 21, 22, 51. -/
def Obligations.RecorderCommands : Prop :=
  ∀ s : State,
    (s.fget REC_STATUS_STATE = 1 → Runs (exec .freezeEv s) (fun u => u.fget REC_STATUS_STATE = 2 ∧ u.fget REC_STATUS_TRIG_CAUSE = 1 ∧ u.recd.trigAt = some s.tick ∧ onlyEvents s u trigFields))
    ∧ (s.fget REC_STATUS_STATE ≠ 1 → Runs (exec .freezeEv s) (fun u => u = s))
    ∧ (∀ t, s.recd.trigAt = some t → s.fget REC_STATUS_STATE = 2 → t + msTicks (s.fget REC_CFG_POST) ≤ s.tick → Runs (exec .frozenEv s) (fun u => u.fget REC_STATUS_STATE = 3 ∧ u.recd.recs = [] ∧ u.recd.trigAt = none
        ∧ (∃ r, u.recd.frozen = some r ∧ r.recs = s.recd.recs.reverse ∧ r.snaps = s.recd.snaps ∧ r.crc = (s.slot s.runSlot).crc ∧ r.version = (s.slot s.runSlot).version ∧ u.fget REC_FROZEN_LEN_VALUE = r.len % 2 ^ 32)
        ∧ onlyEvents s u ([REC_FROZEN_LEN_VALUE, REC_LOST_VALUE] ++ trigFields)))
    ∧ (s.recd.trigAt = none ∨ s.fget REC_STATUS_STATE ≠ 2 ∨ (∃ t, s.recd.trigAt = some t ∧ s.tick < t + msTicks (s.fget REC_CFG_POST)) → Runs (exec .frozenEv s) (fun u => u = s))
    ∧ (∀ busy : Bool, busy = (s.fget REC_STATUS_STATE == 4 || s.fget REC_STATUS_STATE == 5) →
        (∀ c : Instr, (c = .rearmEv ∧ busy = true ∨ c = .loadNor ∧ (busy = true ∨ s.recd.nor = none) ∨ c = .loadRing true ∧ (busy = true ∨ s.ringHeaderOk = false) ∨ c = .loadRing false) →
          Runs (exec c s) (fun u => u.bit REC_STATUS_CMD_REFUSED = true ∧ onlyFields s u [REC_STATUS_CMD_REFUSED]))
        ∧ (busy = false → Runs (exec .rearmEv s) (fun u => u.fget REC_STATUS_STATE = (if s.bit REC_CTRL_ENABLE then 1 else 0) ∧ u.recd.frozen = none ∧ u.recd.trigAt = none ∧ u.fget REC_FROZEN_LEN_VALUE = 0 ∧ u.recd.nor = s.recd.nor
            ∧ (s.fget REC_STATUS_STATE ≠ 1 → u.recd.recs = [] ∧ u.recd.snaps = []) ∧ keepsFields s u [REC_STATUS_STATE, REC_FROZEN_LEN_VALUE, REC_LOST_VALUE] ∧ sansFields u = { sansFields s with recd := u.recd }))
        ∧ (∀ r, busy = false → s.recd.nor = some r → Runs (exec .loadNor s) (fun u => u.fget REC_STATUS_STATE = 3 ∧ u.recd.frozen = some { r with recs := offsetRecs 0 r.recs } ∧ u.recd.recs = [] ∧ u.recd.nor = s.recd.nor
            ∧ keepsFields s u ([REC_FROZEN_LEN_VALUE, REC_LOST_VALUE] ++ trigFields) ∧ sansFields u = { sansFields s with recd := u.recd, mem := u.mem } ∧ onlyRing s u))
        ∧ (busy = false → s.ringHeaderOk = true → Runs (exec (.loadRing true) s) (fun u => u.fget REC_STATUS_STATE = 3 ∧ u.recd.frozen.isSome = true ∧ u.recd.recs = [] ∧ onlyEvents s u ([REC_FROZEN_LEN_VALUE, REC_LOST_VALUE] ++ trigFields))))
    ∧ (s.fget REC_STATUS_STATE = 3 → s.recd.frozen.isSome = true → Runs (exec .norExport s) (fun u => u.fget REC_STATUS_STATE = 5 ∧ keepsFields s u [REC_STATUS_STATE] ∧ sansFields u = { sansFields s with recd := { s.recd with nor := none } }))
    ∧ (s.fget REC_STATUS_STATE ≠ 3 ∨ s.recd.frozen = none → Runs (exec .norExport s) (fun u => u = s))
    ∧ (∀ r, s.recd.frozen = some r → s.fget REC_STATUS_STATE = 5 → Runs (exec .norDone s) (fun u => u.fget REC_STATUS_STATE = 3 ∧ u.recd.frozen = some r ∧ (∃ q, u.recd.nor = some q ∧ (q.len ≤ norBytes ∨ q.recs = [] ∧ q.snaps = []) ∧ ∃ k, q.snaps = r.snaps.drop k)
        ∧ onlyEvents s u [REC_STATUS_STATE]))
    ∧ (s.recd.frozen = none ∨ s.fget REC_STATUS_STATE ≠ 5 → Runs (exec .norDone s) (fun u => u = s))
    ∧ (∀ cause : Nat, (cause = 1 ∧ (s.recd.frozen = none ∨ s.fget REC_STATUS_STATE ≠ 3) ∨ s.fget REC_STATUS_STATE = 3 ∧ ∃ r, s.recd.frozen = some r ∧ (cause = 2 ∧ r.crc ≠ (s.slot s.runSlot).crc
          ∨ r.crc = (s.slot s.runSlot).crc ∧ (cause = 3 ∧ (s.bit LEDG_STATUS_RUN_OPEN = true ∨ s.led.sheets ≠ [] ∨ s.motion = true)
            ∨ s.bit LEDG_STATUS_RUN_OPEN = false ∧ s.led.sheets = [] ∧ s.motion = false ∧ cause = 4 ∧ r.snaps = []))) →
        Runs (exec .replayEv s) (fun u => u.bit REC_STATUS_REPLAY_REFUSED = true ∧ u.fget REC_STATUS_REPLAY_CAUSE = cause ∧ onlyFields s u [REC_STATUS_REPLAY_REFUSED, REC_STATUS_REPLAY_CAUSE]))
    ∧ (∀ r x more, s.recd.frozen = some r → s.fget REC_STATUS_STATE = 3 → r.crc = (s.slot s.runSlot).crc → s.bit LEDG_STATUS_RUN_OPEN = false → s.led.sheets = [] → s.motion = false → r.snaps = x :: more → s.units = [] →
        Runs (exec .replayEv s) (fun u => u.fget REC_STATUS_STATE = 4 ∧ u.replaying = true ∧ u.ex.tasks = x.tasks ∧ u.loop = x.loop ∧ u.ex.chans = [] ∧ u.recd.frozen = some r
          ∧ (Memory.wf x.seg = true → ∀ o, memGet u.mem.sram o = if inRanges s.sramSegs o = true ∨ (∃ e ∈ x.seg, e.1 = o) then memGet x.seg o else memGet s.mem.sram o)
          ∧ u = { s with fields := u.fields, ex := u.ex, loop := u.loop, recd := u.recd, mem := { s.mem with sram := u.mem.sram } }))
    ∧ (s.replaying = false → Runs (exec .replayStop s) (fun u => u = s)) ∧ (s.recd.replay = none → Runs (exec .replayEnd s) (fun u => u = s))
    ∧ (∀ rp, s.recd.replay = some rp →
        (∀ c : Instr, c = .replayStop ∨ c = .replayEnd ∧ s.replayEnded = true → Runs (exec c s) (fun u => u.fget REC_STATUS_STATE = (if s.recd.frozen.isSome then 3 else 0) ∧ u.replaying = false ∧ u.recd.restart = true ∧ (c = .replayEnd → u.bit REC_STATUS_DONE = true)
          ∧ keepsFields s u [REC_STATUS_STATE, REC_STATUS_DONE] ∧ sansFields u = { sansFields s with recd := { s.recd with replay := none, restart := true }, ex := { s.ex with running := [] } }))
        ∧ Runs (exec .replayStop s) (fun u => u.replaying = false ∧ u.recd.restart = true ∧ u.fget REC_STATUS_STATE = (if s.recd.frozen.isSome then 3 else 0))
        ∧ (s.replayEnded = true → Runs (exec .replayEnd s) (fun u => u.replaying = false ∧ u.bit REC_STATUS_DONE = true ∧ u.recd.restart = true))
        ∧ (s.replayEnded = false → Runs (exec .replayEnd s) (fun u => u = s))
        ∧ (∀ p : Nat, p < 25 → (takeRec (fun r => r.data.head? == some (p : Int)) rp.outs = none → Runs (exec (.recordedOutputMissing p) s) (fun u => u = s))
          ∧ (∀ r rest, takeRec (fun r => r.data.head? == some (p : Int)) rp.outs = some (r, rest) → (s.replayNow ≤ r.time + 1000 → Runs (exec (.recordedOutputMissing p) s) (fun u => u = s))
            ∧ (r.time + 1000 < s.replayNow → Runs (exec (.recordedOutputMissing p) s) (fun u => u.bit REC_STATUS_DIVERGED = true ∧ u.fget REC_DIV_KIND = 4 ∧ u.fget REC_DIV_PHYS = p ∧ u.replaying = false ∧ u.recd.restart = true ∧ u.faultQ = s.faultQ ++ [⟨0x1B0, 0x03, p, 0⟩]
                ∧ u.mem = s.mem ∧ u.led = s.led ∧ u.ex.tasks = s.ex.tasks)))))
    ∧ (∀ p : Nat, p < 25 → s.recd.replay = none → Runs (exec (.recordedOutputMissing p) s) (fun u => u = s))
    ∧ (∀ due : Bool, due = s.recd.snaps.getLast?.all (fun x => decide (x.at_ + 100000000 * max 1 (s.fget REC_CFG_SNAP_INT) ≤ s.now.toNat) || decide (s.now.toNat < x.at_)) →
        (s.recording = true → due = true → Runs (exec .snapshotEv s) (fun u => u = { s with recd := u.recd, mem := u.mem } ∧ onlyRing s u
          ∧ (∃ old a b c, u.recd.recs = ⟨4, 0, s.now.toNat, [], a⟩ :: ⟨3, 0, s.now.toNat, s.takeSnap.words.map (fun (v : Nat) => (v : Int)), b⟩ :: ⟨2, 0, s.now.toNat, [], c⟩ :: old) ∧ (u.recd.snaps.getLast?.map (fun x => x.tasks)) = some s.ex.tasks))
        ∧ (s.recording = false ∨ due = false → Runs (exec .snapshotEv s) (fun u => u = s)))
    ∧ (s.recording = true → Runs (exec .timeRecord s) (fun u => u = { s with recd := u.recd, mem := u.mem } ∧ onlyRing s u ∧ (∃ old, u.recd.recs = ⟨1, 0, s.now.toNat, [(s.now.toNat : Int)], s.recd.next⟩ :: old)
        ∧ (s.recd.next < s.ringSize → 2 ^ 26 + s.ringSize ≤ s.usable → ∀ k, k < 8 → k ≠ 2 → memGet u.mem.dram (s.ringBase + (s.recd.next + k) % s.ringSize) = ([0, 0, 0, 1] ++ natToBytes (s.now.toNat % 2 ^ 32) 4).getD k 0)))
    ∧ (s.recording = false → Runs (exec .timeRecord s) (fun u => u = s))

/-- REGISTER_WRITE: memory, alignment, unmapped addresses, BAR0 and BAR2, access codes, Apply classes and the writes that cross (R5, R6,
R9, R10, R11, R28, R29, R120, R121, R347, R482). Where the spec leaves a reading open, the statement rests on the model's choice: log
entries 10, 46. -/
def Obligations.RegisterWrites : Prop :=
  ∀ (s : State) (v : BitVec 64) (w : Nat), w = v.toNat % 2 ^ 32 →
    (∀ a size : Nat, (size = 1 ∨ size = 2 ∨ size = 4 ∨ size = 8) → Runs (exec (.registerWrite a size v) s) (fun u => u.pending = s.pending ∧ u.tap = s.tap))
    ∧ (∀ a size : Nat, (size = 1 ∨ size = 2 ∨ size = 4 ∨ size = 8) → a < hifBase →
      (s.inDram a size = true → Runs (exec (.registerWrite a size v) s) (fun u => (∀ j, j < size → memGet u.mem.dram (a + j) = BitVec.ofNat 8 (v.toNat / 256 ^ j)) ∧ (∀ x, (x < a ∨ a + size ≤ x) → memGet u.mem.dram x = memGet s.mem.dram x)
          ∧ u.mem.sram = s.mem.sram ∧ keepsOutsideMem s u [] ∧ u = { s with fields := u.fields, mem := u.mem, faultQ := u.faultQ, freeCtr := u.freeCtr }))
      ∧ (s.inDram a size = false → inSram a size = true → Runs (exec (.registerWrite a size v) s) (fun u => (∀ j, j < size → memGet u.mem.sram (a - 0x1000000000 + j) = BitVec.ofNat 8 (v.toNat / 256 ^ j))
          ∧ (∀ x, (x < a - 0x1000000000 ∨ a - 0x1000000000 + size ≤ x) → memGet u.mem.sram x = memGet s.mem.sram x)
          ∧ (∀ k, k ∈ u.mem.sramBad ↔ k ∈ s.mem.sramBad ∧ ¬ (a ≤ k ∧ k + 4 ≤ a + size))
          ∧ u = { s with mem := { s.mem with sram := u.mem.sram, sramOne := u.mem.sramOne, sramBad := u.mem.sramBad, sramLost := u.mem.sramLost } }))
      ∧ (s.inDram a size = false → inSram a size = false →
          (s.regMapped (a / 4 * 4) = true → size ≠ 4 ∨ a % 4 ≠ 0 → Runs (exec (.registerWrite a size v) s) (fun u => u = s))
          ∧ (s.regMapped (a / 4 * 4) = false → Runs (exec (.registerWrite a size v) s) (fun u => u = { s with faultQ := s.faultQ ++ [⟨0x013, 0x01, a % 65536, 0⟩] }))
          ∧ (size = 4 → s.regMapped a = true → a % 4 = 0 → (s.power.phase ≠ .run → Runs (exec (.registerWrite a 4 v) s) (fun u => u = s))
              ∧ (s.power.phase = .run → aonAddr a = true → Runs (exec (.registerWrite a 4 v) s) (fun u => u = if s.aonQ.length < 4 then { s with aonQ := s.aonQ ++ [(a, w)] } else { s with aonWait := s.aonWait ++ [(a, w, none)] }))
              ∧ (s.power.phase = .run → aonAddr a = false → tbBlock a = true → (s.fieldsAt a).any Fld.tbShadow = false → s.fieldsAt a ≠ [] → Runs (exec (.registerWrite a 4 v) s) (fun u =>
                  (∃ d, u = { s with freeCtr := s.freeCtr + 1, tbQ := s.tbQ ++ [(d, a, w)] } ∧ s.tick + 2 ≤ d ∧ (s.tbQ = [] → d ≤ s.tick + 3)))))))
    ∧ (∀ off size : Nat, off < 2 ^ 26 → (size = 1 ∨ size = 2 ∨ size = 4 ∨ size = 8) →
        (size < 4 ∨ off % size ≠ 0 → Runs (exec (.registerWrite (0x10000000000 + off) size v) s) (fun u => u = s))
        ∧ (4 ≤ size → off % size = 0 → 0x100000 ≤ off → off < 0x300000 → Runs (exec (.registerWrite (0x10000000000 + off) size v) s) (fun u => (∀ j, j < size → memGet u.host.bar (off + j) = BitVec.ofNat 8 (v.toNat / 256 ^ j))
            ∧ (∀ x, (x < off ∨ off + size ≤ x) → memGet u.host.bar x = memGet s.host.bar x)
            ∧ u = { s with host := { s.host with bar := u.host.bar }, mem := { s.mem with sramOne := u.mem.sramOne, sramBad := u.mem.sramBad } } ∧ keepsPairs s u)))
    ∧ (∀ off size : Nat, (size = 1 ∨ size = 2 ∨ size = 4 ∨ size = 8) →
        (s.bit UPD_STATUS_DEBUG_OPEN = false → Runs (exec (.registerWrite (0x30000000000 + off) size v) s) (fun u => u = s))
        ∧ (s.bit UPD_STATUS_DEBUG_OPEN = true → off + size ≤ 2 ^ 28 → s.fget HIF_BAR2_BASE_BASE * 2 ^ 28 + off < 0x10000000000 →
            exec (.registerWrite (0x30000000000 + off) size v) s = exec (.registerWrite (s.fget HIF_BAR2_BASE_BASE * 2 ^ 28 + off) size v) s))
    ∧ (∀ d k : Nat, k < 3 → d ≤ s.tick → s.power.phase = .run →
        (s.tbQ = [(d, 0x2000430020 + 4 * k, w)] → s.tbCross.fget (GPIO_OUTw_OUT k) = (s.fget (GPIO_OUTw_OUT k) ||| w) % 2 ^ 32 ∧ onlyFields { s with tbQ := [] } s.tbCross [GPIO_OUTw_OUT k])
        ∧ (s.tbQ = [(d, 0x2000430030 + 4 * k, w)] → s.tbCross.fget (GPIO_OUTw_OUT k) = s.fget (GPIO_OUTw_OUT k) &&& (2 ^ 32 - 1 - w) ∧ onlyFields { s with tbQ := [] } s.tbCross [GPIO_OUTw_OUT k]))
    ∧ (s.usable ≤ 0x1000000000 → s.power.phase = .run →
      (∀ k, k < 1024 → Runs (exec (.registerWrite (0x2000012000 + 4 * k) 4 v) s) (fun u => u.fget (FLT_GRACEs_GRACE k) = w % 2 ^ 20 ∧ keepsFields s u [FLT_GRACEs_GRACE k] ∧ sansFields u = { sansFields s with shadow := u.shadow, shadowAt := u.shadowAt }))
      ∧ (∀ k, k < 4 → Runs (exec (.registerWrite (0x20000D0010 + 4 * k) 4 v) s) (fun u => u.fget (UPD_TOKENw_TOKEN k) = w ∧ onlyFields s u [UPD_TOKENw_TOKEN k]))
      ∧ Runs (exec (.registerWrite 0x20000B0004 4 v) s) (fun u => (∀ x : Nat × Fld, x ∈ [(6, PLC_STATUS_SLOW), (5, PLC_STATUS_OVERRUN), (3, PLC_STATUS_CMD_REFUSED), (2, PLC_STATUS_WRITE_REFUSED)] →
            u.fget x.2 = if (s.fget x.2).testBit 0 && !w.testBit x.1 then 1 else 0) ∧ onlyFields s u [PLC_STATUS_SLOW, PLC_STATUS_OVERRUN, PLC_STATUS_CMD_REFUSED, PLC_STATUS_WRITE_REFUSED])
      ∧ (s.bit PLC_STATUS_PLACED = true → Runs (exec (.registerWrite 0x20000B0000 4 v) s) (fun u => u.latest PLC_CTRL_RETIRE_EN = w / 2 % 2 ∧ u.latest PLC_CTRL_SLOW_EN = w % 2 ∧ u = { s with shadow := u.shadow, shadowAt := u.shadowAt }))
      ∧ (s.bit PLC_STATUS_PLACED = false → Runs (exec (.registerWrite 0x20000B0000 4 v) s) (fun u => u.fget PLC_CTRL_RETIRE_EN = w / 2 % 2 ∧ u.fget PLC_CTRL_SLOW_EN = w % 2 ∧ keepsFields s u [PLC_CTRL_RETIRE_EN, PLC_CTRL_SLOW_EN]
          ∧ sansFields u = { sansFields s with shadow := u.shadow, shadowAt := u.shadowAt }))
      ∧ (s.railState ≠ 0 → Runs (exec (.registerWrite 0x20000E0008 4 v) s) (fun u => u.bit RAIL_STATUS_WRITE_REFUSED = true ∧ onlyFields s u [RAIL_STATUS_WRITE_REFUSED]))
      ∧ (s.railState = 0 → Runs (exec (.registerWrite 0x20000E0008 4 v) s) (fun u => u.fget RAIL_CFG_NSLAVES = w % 16 ∧ u.fget RAIL_CFG_POLL = w / 256 % 256 ∧ keepsFields s u [RAIL_CFG_NSLAVES, RAIL_CFG_POLL]
          ∧ sansFields u = { sansFields s with shadow := u.shadow, shadowAt := u.shadowAt })))

/-- A command that names a station, channel, axis, loop, converter, engine or task beyond those the engine has stops (R12, R11). This is
the model's choice: log entry 5. -/
def Obligations.UnitsThatDoNotExist : Prop :=
  ∀ (s : State) (n m : Nat) (e : LightEdge) (back : Int) (c : Instr),
    (6 ≤ n → c ∈ [.lineBoundary n m, .barEnable n, .hrecRead n, .defAdd n m, .hotClear n, .thStale n, .facetBoundary n (e, back) m, .sosMiss n back m, .eosEdge n e, .eosMiss n, .pixLock n, .scanEnable n, .tileDecode n, .tableLoad n m, .tablePatch n m, .stnxMove n] → exec c s = .fault .noSuchUnit)
    ∧ (8 ≤ n → c ∈ [.drvIndex n, .drvEncLost n m, .drvDisable n, .drvStart n, .drvStop n, .alignTimeout n, .rampTimeout n, .zwaitExpiry n, .stoppedEv n, .keEstimate n m, .readyEv n] → exec c s = .fault .noSuchUnit)
    ∧ (20 ≤ n → c ∈ [.moveEv n, .velEv n, .axsStop n, .haltEv n, .resumeEv n, .homeEv n, .setposEv n, .axsDisable n, .axsTick n, .posUncClear n] → exec c s = .fault .noSuchUnit)
    ∧ (64 ≤ n → c ∈ [.applyEv n, .loopEnable n] → exec c s = .fault .noSuchUnit)
    ∧ (32 ≤ n → c ∈ [.hvoPeriodStart n, .armEv n, .disarmEv n, .almanacFire n, .captureRead n] → exec c s = .fault .noSuchUnit)
    ∧ (5 ≤ n → c ∈ [.backgroundScan n, .adcConversionDone n m] → exec c s = .fault .noSuchUnit)
    ∧ (2 ≤ n → c ∈ [.fusPeriodStart n, .txtsRead n] → exec c s = .fault .noSuchUnit)
    ∧ (16 ≤ n → c ∈ [.dmaDoorbell n m, .dmaResume n, .dmaSkip n] → exec c s = .fault .noSuchUnit)
    ∧ (25 ≤ n → c ∈ [.boundaryMove n, .taskDispatch n] → exec c s = .fault .noSuchUnit)
    ∧ (512 ≤ n → c ∈ [.taskStop n, .waitEnd n, .budgetExceeded n, .deadlineMissed n, .periodRelease n] → exec c s = .fault .noSuchUnit)
end

