-- ==== Sys2Proof/Laws/Queue.lean ====
section
/-! SUPPORT. No operation of the model touches the queue of waiting commands: one lemma per operation. -/

namespace Sys2Proof.Machine
theorem foldl_pending {α : Type} (f : State → α → State) (h : ∀ s a, (f s a).pending = s.pending) :
    ∀ (l : List α) (s : State), (l.foldl f s).pending = s.pending
  | [], _ => rfl
  | a :: t, s => (foldl_pending f h t (f s a)).trans (h s a)
theorem foldl_to {α : Type} {f : State → α → State} {l : List α} {s : State} {x : List Instr} (h : s.pending = x)
    (hf : ∀ s a, (f s a).pending = s.pending) : (l.foldl f s).pending = x := (foldl_pending f hf l s).trans h
@[simp] theorem ite_pending_eq (c : Prop) [Decidable c] (a b : State) : (if c then a else b).pending = if c then a.pending else b.pending := by
  split <;> rfl
theorem ite_pending {x : List Instr} {c : Prop} [Decidable c] {a b : State} (ha : a.pending = x) (hb : b.pending = x) :
    (if c then a else b).pending = x := by split <;> assumption

/-! ### Ops -/
@[simp] theorem State.fset_pending (s : State) (f : Fld) (v : Nat) : (State.fset s f v).pending = s.pending :=
  rfl
@[simp] theorem State.fsets_pending (s : State) (l : List (Fld × Nat)) : (State.fsets s l).pending = s.pending :=
  by unfold State.fsets; (try with_reducible apply foldl_pending) <;> (try intros) <;> simp
@[simp] theorem State.fsat_pending (s : State) (f : Fld) (k : Nat) : (State.fsat s f k).pending = s.pending :=
  rfl
@[simp] theorem State.fwrap_pending (s : State) (f : Fld) (k : Nat) : (State.fwrap s f k).pending = s.pending :=
  rfl
@[simp] theorem State.shadowSet_pending (s : State) (f : Fld) (v : Nat) : (State.shadowSet s f v).pending = s.pending := by
  unfold State.shadowSet
  simp
@[simp] theorem State.applyShadow_pending (s : State) (fs : List Fld) : (State.applyShadow s fs).pending = s.pending := by
  unfold State.applyShadow
  (try dsimp only); repeat' (first | with_reducible rfl | (simp; done) | split | refine foldl_to ?_ (fun _ _ => ?_) | simp)
@[simp] theorem State.draw_pending (s : State) : (State.draw s).2.pending = s.pending :=
  rfl
@[simp] theorem State.sendFault_pending (s : State) (src kind detail : Nat) : (State.sendFault s src kind detail).pending = s.pending :=
  rfl
@[simp] theorem State.sendFaultC_pending (s : State) (src kind detail cls : Nat) : (State.sendFaultC s src kind detail cls).pending = s.pending :=
  rfl
@[simp] theorem State.sendFree_pending (s : State) (src kind : Nat) : (State.sendFree s src kind).1.pending = s.pending :=
  rfl
@[simp] theorem State.sendOpen_pending (s : State) (src : Nat) : (State.sendOpen s src).pending = s.pending :=
  rfl
@[simp] theorem State.dramPut_pending (s : State) (a : Nat) (b : List Byte) : (State.dramPut s a b).pending = s.pending := by
  unfold State.dramPut
  simp
@[simp] theorem State.recPut_pending (s : State) (off : Nat) (b : List Byte) : (State.recPut s off b).pending = s.pending := by
  unfold State.recPut
  simp
@[simp] theorem State.record_pending (s : State) (typ subject : Nat) (data : List Int) : (State.record s typ subject data).pending = s.pending := by
  unfold State.record
  simp
@[simp] theorem State.trigLatch_pending (s : State) (cause : Nat) : (State.trigLatch s cause).pending = s.pending :=
  rfl
@[simp] theorem State.replayOver_pending (s : State) : (State.replayOver s).pending = s.pending :=
  rfl
@[simp] theorem State.diverge_pending (s : State) (kind task phys pc addr : Nat) : (State.diverge s kind task phys pc addr).pending = s.pending :=
  rfl
theorem State.replayVal_pending {s : State} {typ subject : Nat} {d : List Int} {s1 : State}
    (h : s.replayVal typ subject = some (d, s1)) : s1.pending = s.pending := by
  unfold State.replayVal at h
  split at h
  · simp only [Option.map_eq_some_iff] at h
    obtain ⟨x, -, hx⟩ := h
    cases hx; rfl
  · cases h
@[simp] theorem State.replayOut_pending (s : State) (typ task phys pc addr value : Nat) : (State.replayOut s typ task phys pc addr value).pending = s.pending :=
  by unfold State.replayOut; (repeat' split) <;> simp
@[simp] theorem State.output_pending (s : State) (typ task phys pc addr value : Nat) (perform : State → State)
    (h : ∀ x, (perform x).pending = x.pending) : (s.output typ task phys pc addr value perform).pending = s.pending := by
  unfold State.output; split <;> simp [h]
@[simp] theorem State.taken_pending (s : State) (task : Nat) (v : Int) : (s.taken task v).2.pending = s.pending := by
  unfold State.taken
  split
  · rename_i h; exact State.replayVal_pending h
  · rename_i h; exact State.replayVal_pending h
  · simp
@[simp] theorem State.flag_pending (s : State) (f : Fld) : (State.flag s f).pending = s.pending :=
  rfl
@[simp] theorem State.modUnit_pending (s : State) (src : Nat) (f : UnitSt → UnitSt) : (State.modUnit s src f).pending = s.pending :=
  rfl

/-! ### Down -/
@[simp] theorem State.powerDown_pending (s : State) (keep : Nat → Bool) : (State.powerDown s keep).pending = s.pending := by
  unfold State.powerDown
  simp

/-! ### Tasks -/
@[simp] theorem State.setTask_pending (s : State) (i : Nat) (t : Task) : (State.setTask s i t).pending = s.pending :=
  rfl
@[simp] theorem State.setRunning_pending (s : State) (p : Nat) (i : Option Nat) : (State.setRunning s p i).pending = s.pending :=
  rfl
@[simp] theorem State.retire_pending (s : State) (i : Nat) (t : Task) (a : Arch) (cycles : Nat) : (State.retire s i t a cycles).pending = s.pending :=
  rfl
@[simp] theorem State.makeReady_pending (s : State) (i : Nat) (t : Task) : (State.makeReady s i t).pending = s.pending := by
  unfold State.makeReady
  simp
@[simp] theorem State.trapAt_pending (s : State) (i : Nat) (t : Task) (code pc : Nat) : (s.trapAt i t code pc).pending = s.pending := by
  unfold State.trapAt
  extract_lets t' s1 s2
  have e2 : s2.pending = s.pending := by simp only [s2]; split <;> simp [s1]
  exact (State.output_pending _ _ _ _ _ _ _ _ (fun x => by simp)).trans e2
@[simp] theorem State.trap_pending (s : State) (i : Nat) (t : Task) (code : Nat) : (State.trap s i t code).pending = s.pending :=
  by simp [State.trap]
@[simp] theorem State.loseRelease_pending (s : State) (i : Nat) (t : Task) : (State.loseRelease s i t).pending = s.pending :=
  rfl
@[simp] theorem State.recordPlace_pending (s : State) (r : List Nat) : (State.recordPlace s r).pending = s.pending :=
  by simp [State.recordPlace]
@[simp] theorem State.pendRelease_pending (s : State) (i : Nat) (t : Task) (r : Release) : (State.pendRelease s i t r).pending = s.pending := by
  unfold State.pendRelease
  (try dsimp only); repeat' (first | with_reducible rfl | (simp; done) | split | refine foldl_to ?_ (fun _ _ => ?_) | simp)
@[simp] theorem State.releaseNow_pending (s : State) (i : Nat) (r : Release) : (State.releaseNow s i r).pending = s.pending := by
  unfold State.releaseNow
  (try dsimp only); repeat' (first | with_reducible rfl | (simp; done) | split | refine foldl_to ?_ (fun _ _ => ?_) | simp)
@[simp] theorem State.release_pending (s : State) (i : Nat) (r : Release) : (State.release s i r).pending = s.pending :=
  by unfold State.release; split <;> simp
@[simp] theorem State.releaseAll_pending (s : State) (p : TaskHdr → Bool) (r : Release) : (State.releaseAll s p r).pending = s.pending :=
  by unfold State.releaseAll; (try with_reducible apply foldl_pending) <;> (try intros) <;> (repeat' split) <;> simp
@[simp] theorem State.setChan_pending (s : State) (ch : Nat) (l : List Word) : (State.setChan s ch l).pending = s.pending :=
  rfl
@[simp] theorem State.messageRelease_pending (s : State) (ch : Nat) : (State.messageRelease s ch).pending = s.pending :=
  by unfold State.messageRelease; (try with_reducible apply foldl_pending) <;> (try intros) <;> (repeat' split) <;> simp
@[simp] theorem State.event_pending (s : State) (sel : Nat) : (State.event s sel).pending = s.pending :=
  by simp [State.event]
@[simp] theorem State.trigger_pending (s : State) (cause : Nat) : (State.trigger s cause).pending = s.pending :=
  by unfold State.trigger; split <;> simp
@[simp] theorem State.sheetRelease_pending (s : State) (st : Nat) (seq : Nat) (pos : Int) : (State.sheetRelease s st seq pos).pending = s.pending :=
  by simp [State.sheetRelease]

/-! ### Mem -/
@[simp] theorem State.eccErr_pending (s : State) (a kind : Nat) : (State.eccErr s a kind).pending = s.pending :=
  rfl
@[simp] theorem State.bucketAdd_pending (s : State) (c : Nat) : (State.bucketAdd s c).pending = s.pending :=
  by simp only [State.bucketAdd]; (repeat' split) <;> simp_all
@[simp] theorem State.bucketLeak_pending (s : State) (c : Nat) : (State.bucketLeak s c).pending = s.pending :=
  by simp only [State.bucketLeak]; (repeat' split) <;> simp_all
@[simp] theorem State.remapCount_pending (s : State) : (State.remapCount s).pending = s.pending :=
  rfl
@[simp] theorem State.remapAdd_pending (s : State) (line : Nat) (auto : Bool) : (State.remapAdd s line auto).pending = s.pending := by
  unfold State.remapAdd
  (try dsimp only); repeat' (first | with_reducible rfl | (simp; done) | split | refine foldl_to ?_ (fun _ _ => ?_) | simp)
@[simp] theorem State.lineSeen_pending (s : State) (line : Nat) (walk : Bool) : (State.lineSeen s line walk).pending = s.pending := by
  unfold State.lineSeen
  simp
@[simp] theorem State.unitRead_pending (s : State) (u : Nat) (walk : Bool) : (State.unitRead s u walk).pending = s.pending := by
  unfold State.unitRead
  simp
@[simp] theorem State.dramRead_pending (s : State) (a len : Nat) : (State.dramRead s a len).1.pending = s.pending := by
  unfold State.dramRead
  (try dsimp only); repeat' (first | with_reducible rfl | (simp; done) | split | refine foldl_to ?_ (fun _ _ => ?_) | simp)
@[simp] theorem State.mergeDrop_pending (s : State) (line : Nat) : (State.mergeDrop s line).pending = s.pending :=
  rfl
@[simp] theorem State.mergePut_pending (s : State) (line : Nat) (offs : List Nat) : (State.mergePut s line offs).pending = s.pending := by
  unfold State.mergePut
  (try dsimp only); repeat' (first | with_reducible rfl | (simp; done) | split | refine foldl_to ?_ (fun _ _ => ?_) | simp)
@[simp] theorem State.dramWrite_pending (s : State) (a : Nat) (b : List Byte) : (State.dramWrite s a b).pending = s.pending := by
  unfold State.dramWrite
  (try dsimp only); repeat' (first | with_reducible rfl | (simp; done) | split | refine foldl_to ?_ (fun _ _ => ?_) | simp)
@[simp] theorem State.sramWrite_pending (s : State) (a : Nat) (b : List Byte) : (State.sramWrite s a b).pending = s.pending := by
  unfold State.sramWrite
  simp
@[simp] theorem State.rawPut_pending (s : State) (a : Nat) (b : List Byte) : (State.rawPut s a b).pending = s.pending := by
  unfold State.rawPut
  simp
@[simp] theorem State.segPut_pending (s : State) (i a : Nat) (b : List Byte) : (State.segPut s i a b).pending = s.pending := by
  unfold State.segPut
  simp
@[simp] theorem State.rawFill_pending (s : State) (a len : Nat) (b : List Byte) : (State.rawFill s a len b).pending = s.pending := by
  unfold State.rawFill
  simp

/-! ### TimeGroup -/
@[simp] theorem State.rtcTick_pending (s : State) : (State.rtcTick s).pending = s.pending :=
  by unfold State.rtcTick; split <;> simp
@[simp] theorem State.slewOver_pending (s : State) (left : Int) : (State.slewOver s left).pending = s.pending := by
  unfold State.slewOver
  simp
@[simp] theorem State.tbTick_pending (s : State) : (State.tbTick s).pending = s.pending := by
  unfold State.tbTick
  simp
@[simp] theorem State.jump_pending (s : State) (i : Nat) (t : Task) (a : Arch) (target : Int) : (State.jump s i t a target).pending = s.pending :=
  by unfold State.jump; split <;> simp

/-! ### Waits -/
@[simp] theorem State.block_pending (s : State) (i : Nat) (t : Task) (w : Wait) (cycles : Nat) : (State.block s i t w cycles).pending = s.pending :=
  rfl
@[simp] theorem State.endIssue_pending (s : State) (i : Nat) (t : Task) (ref : Word64) (byLimit : Bool) : (State.endIssue s i t ref byLimit).pending = s.pending := by
  unfold State.endIssue
  simp
theorem State.replayIssue_pending {s : State} {task : Nat} {d : List Int} {s1 : State} (h : s.replayIssue task = some (d, s1)) :
    s1.pending = s.pending := by
  unfold State.replayIssue at h
  split at h
  · split at h
    · split at h
      · cases h; rfl
      · cases h
    · cases h
  · cases h
@[simp] theorem State.issueWait_pending (s : State) (i : Nat) (t : Task) (held : Bool) (ref : Word64) (kind : WaitKind) (l : Bool) :
    (s.issueWait i t held ref kind l).pending = s.pending := by
  unfold State.issueWait
  (repeat' split) <;> first | (simp; done) | (rename_i h; simp [State.replayIssue_pending h])
@[simp] theorem State.endWait_pending (s : State) (i : Nat) (t : Task) (ref : Word64) (byLimit : Bool) : (State.endWait s i t ref byLimit).pending = s.pending := by
  unfold State.endWait
  simp
@[simp] theorem State.messageWaitEnd_pending (s : State) (task : Nat) : (State.messageWaitEnd s task).pending = s.pending := by
  unfold State.messageWaitEnd
  (try dsimp only); repeat' (first | with_reducible rfl | (simp; done) | split | refine foldl_to ?_ (fun _ _ => ?_) | simp)
@[simp] theorem State.start_pending (s : State) (p : Nat) (i : Nat) (t : Task) : (State.start s p i t).pending = s.pending :=
  rfl
@[simp] theorem State.judgeResponse_pending (s : State) (t : Task) : (State.judgeResponse s t).1.pending = s.pending := by
  unfold State.judgeResponse
  simp
@[simp] theorem State.cmdRestart_pending (s : State) (task : Nat) (fromCkpt clear : Bool) (cause : Nat) : (State.cmdRestart s task fromCkpt clear cause).pending = s.pending := by
  unfold State.cmdRestart
  (try dsimp only); repeat' (first | with_reducible rfl | (simp; done) | split | refine foldl_to ?_ (fun _ _ => ?_) | simp)
@[simp] theorem State.cmdStop_pending (s : State) (task : Nat) : (State.cmdStop s task).pending = s.pending := by
  unfold State.cmdStop
  (try dsimp only); repeat' (first | with_reducible rfl | (simp; done) | split | refine foldl_to ?_ (fun _ _ => ?_) | simp)

/-! ### HostBar -/
@[simp] theorem State.barPut_pending (s : State) (off : Nat) (b : List Byte) : (State.barPut s off b).pending = s.pending := by
  unfold State.barPut
  simp
@[simp] theorem State.post_pending (s : State) (a : Nat) (b : List Byte) : (State.post s a b).pending = s.pending := by
  unfold State.post
  simp
@[simp] theorem State.msixSend_pending (s : State) (v : Nat) : (State.msixSend s v).pending = s.pending := by
  unfold State.msixSend
  simp
@[simp] theorem State.msixFlush_pending (s : State) : (State.msixFlush s).pending = s.pending := by
  unfold State.msixFlush
  (try dsimp only); repeat' (first | with_reducible rfl | (simp; done) | split | refine foldl_to ?_ (fun _ _ => ?_) | simp)
@[simp] theorem State.msix_pending (s : State) (v : Nat) : (State.msix s v).pending = s.pending := by
  unfold State.msix
  simp
@[simp] theorem State.barWord_pending (s : State) (off w : Nat) : (State.barWord s off w).pending = s.pending := by
  unfold State.barWord
  simp

/-! ### HostPost -/
@[simp] theorem State.msixTail_pending (s : State) : (State.msixTail s).pending = s.pending :=
  by simp only [State.msixTail]; (repeat' split) <;> simp_all
@[simp] theorem State.push_pending (s : State) (e : HostEvent) : (State.push s e).pending = s.pending := by
  unfold State.push
  simp
@[simp] theorem State.postKept_pending (s : State) (e : HostEvent) : (State.postKept s e).pending = s.pending :=
  by unfold State.postKept; split <;> simp
@[simp] theorem State.postHeld_pending (k : Nat) (s : State) : (s.postHeld k).pending = s.pending := by
  induction k generalizing s with
  | zero => rfl
  | succ k ih => unfold State.postHeld; (repeat' split) <;> simp [ih]
@[simp] theorem State.wantSeries_pending (s : State) (cause : Nat) : (State.wantSeries s cause).pending = s.pending :=
  by unfold State.wantSeries; (repeat' split) <;> simp
@[simp] theorem State.postSheet_pending (s : State) (r : JRec) (hostTag : Nat) : (State.postSheet s r hostTag).pending = s.pending := by
  unfold State.postSheet
  (try dsimp only); repeat' (first | with_reducible rfl | (simp; done) | split | refine foldl_to ?_ (fun _ _ => ?_) | simp)
@[simp] theorem State.cmdFinish_pending (s : State) (e : HostEvent) : (State.cmdFinish s e).pending = s.pending :=
  by simp [State.cmdFinish]
@[simp] theorem State.payDue_pending (s : State) : (State.payDue s).pending = s.pending := by
  unfold State.payDue
  (try dsimp only); repeat' (first | with_reducible rfl | (simp; done) | split | refine foldl_to ?_ (fun _ _ => ?_) | simp)
@[simp] theorem State.payOwed_pending (s : State) (jseq : Nat) : (State.payOwed s jseq).pending = s.pending := by
  unfold State.payOwed
  (try dsimp only); repeat' (first | with_reducible rfl | (simp; done) | split | refine foldl_to ?_ (fun _ _ => ?_) | simp)

/-! ### Journal -/
@[simp] theorem State.modSheet_pending (s : State) (seq : Nat) (f : Sheet → Sheet) : (State.modSheet s seq f).pending = s.pending :=
  rfl
@[simp] theorem State.stage_pending (s : State) (r : JRec) : (State.stage s r).pending = s.pending :=
  rfl
@[simp] theorem State.report_pending (s : State) (r : JRec) : (State.report s r).pending = s.pending := by
  unfold State.report
  (try dsimp only); repeat' (first | with_reducible rfl | (simp; done) | split | refine foldl_to ?_ (fun _ _ => ?_) | simp)
@[simp] theorem State.journalSheet_pending (s : State) (seq : Nat) : (State.journalSheet s seq).pending = s.pending := by
  unfold State.journalSheet
  (try dsimp only); repeat' (first | with_reducible rfl | (simp; done) | split | refine foldl_to ?_ (fun _ _ => ?_) | simp)
@[simp] theorem State.enter_pending (s : State) (seq : Nat) (st : SheetState) : (State.enter s seq st).pending = s.pending :=
  by simp only [State.enter]; (repeat' split) <;> simp_all
@[simp] theorem State.freeBlocks_pending (s : State) (bs : List Nat) : (State.freeBlocks s bs).pending = s.pending :=
  rfl
@[simp] theorem State.freePlanes_pending (s : State) (seq : Nat) : (State.freePlanes s seq).pending = s.pending :=
  by unfold State.freePlanes; split <;> simp
@[simp] theorem State.idleUpdate_pending (s : State) : (State.idleUpdate s).pending = s.pending :=
  by unfold State.idleUpdate; (repeat' split) <;> simp
@[simp] theorem State.failSheet_pending (s : State) (seq reason detail : Nat) : (State.failSheet s seq reason detail).pending = s.pending :=
  by unfold State.failSheet; (repeat' split) <;> simp
@[simp] theorem State.loseSheet_pending (s : State) (seq reason detail : Nat) : (State.loseSheet s seq reason detail).pending = s.pending := by
  unfold State.loseSheet
  (try dsimp only); repeat' (first | with_reducible rfl | (simp; done) | split | refine foldl_to ?_ (fun _ _ => ?_) | simp)
@[simp] theorem State.failAll_pending (s : State) (p : Sheet → Bool) (reason detail : Nat) : (State.failAll s p reason detail).pending = s.pending :=
  by unfold State.failAll; (try with_reducible apply foldl_pending) <;> (try intros) <;> simp
@[simp] theorem State.releasePos_pending (s : State) (seq : Nat) : (State.releasePos s seq).pending = s.pending :=
  rfl
@[simp] theorem State.revertOne_pending (s : State) (seq : Nat) : (State.revertOne s seq).pending = s.pending :=
  by simp [State.revertOne]
@[simp] theorem State.revertFrom_pending (s : State) (seq : Nat) : (s.revertFrom seq).pending = s.pending :=
  (State.idleUpdate_pending _).trans (foldl_pending _ (fun s a => State.revertOne_pending s a) _ _)
@[simp] theorem State.revertAll_pending (s : State) : (State.revertAll s).pending = s.pending :=
  by unfold State.revertAll; split <;> simp
@[simp] theorem State.sendFrame_pending (s : State) (port : Nat) (f : HoFrame) : (State.sendFrame s port f).pending = s.pending := by
  unfold State.sendFrame
  simp
@[simp] theorem State.hoAck_pending (s : State) (port : Nat) (f : HoFrame) (status : Nat) : (State.hoAck s port f status).pending = s.pending :=
  rfl
@[simp] theorem State.applyAck_pending (s : State) (n : Nat) : (State.applyAck s n).pending = s.pending :=
  by simp only [State.applyAck]; (repeat' split) <;> simp_all
@[simp] theorem State.ackRun_pending (l : List Nat) (s : State) : (s.ackRun l).pending = s.pending := by
  induction l generalizing s with
  | nil => rfl
  | cons n rest ih => unfold State.ackRun; split <;> simp [ih]
@[simp] theorem State.applyHeldAcks_pending (s : State) : s.applyHeldAcks.pending = s.pending := by
  unfold State.applyHeldAcks; split <;> simp
@[simp] theorem State.compactOne_pending (s : State) (j : Nat) (item : CkptItem) (rest : List CkptItem) : (State.compactOne s j item rest).pending = s.pending := by
  unfold State.compactOne
  (try dsimp only); repeat' (first | with_reducible rfl | (simp; done) | split | refine foldl_to ?_ (fun _ _ => ?_) | simp)
@[simp] theorem State.compactPump_pending (k : Nat) (s : State) : (s.compactPump k).pending = s.pending := by
  induction k generalizing s with
  | zero => rfl
  | succ k ih => unfold State.compactPump; (repeat' split) <;> simp [ih]
@[simp] theorem State.compactStart_pending (s : State) : (State.compactStart s).pending = s.pending :=
  by unfold State.compactStart; split <;> simp
@[simp] theorem State.ckptComplete_pending (s : State) (j : Nat) : (State.ckptComplete s j).pending = s.pending :=
  by unfold State.ckptComplete; split <;> simp
@[simp] theorem State.programFailed_pending (s : State) (r : JRec) : (State.programFailed s r).pending = s.pending := by
  unfold State.programFailed
  simp
@[simp] theorem State.admitProgrammed_pending (s : State) (r : JRec) : (State.admitProgrammed s r).pending = s.pending := by
  unfold State.admitProgrammed
  (try dsimp only); repeat' (first | with_reducible rfl | (simp; done) | split | refine foldl_to ?_ (fun _ _ => ?_) | simp)
@[simp] theorem State.payAck_pending (s : State) (jseq : Nat) : (State.payAck s jseq).pending = s.pending := by
  unfold State.payAck
  (try dsimp only); repeat' (first | with_reducible rfl | (simp; done) | split | refine foldl_to ?_ (fun _ _ => ?_) | simp)
@[simp] theorem State.programGood_pending (s : State) (r : JRec) : (State.programGood s r).pending = s.pending := by
  unfold State.programGood
  simp
@[simp] theorem State.programSlots_pending (l : List Bool) (s : State) : (s.programSlots l).pending = s.pending := by
  induction l generalizing s with
  | nil => rfl
  | cons b l ih => unfold State.programSlots; (repeat' split) <;> simp [ih]
@[simp] theorem State.degradedUpdate_pending (s : State) : (State.degradedUpdate s).pending = s.pending :=
  by unfold State.degradedUpdate; (repeat' split) <;> simp
@[simp] theorem State.sheetBoundary_pending (s : State) (seq : Nat) : (State.sheetBoundary s seq).pending = s.pending := by
  unfold State.sheetBoundary
  simp

/-! ### Ledger -/
@[simp] theorem State.drvDefect_pending (s : State) (seq : Nat) (commit : Bool) : (State.drvDefect s seq commit).pending = s.pending :=
  by unfold State.drvDefect; (try with_reducible apply foldl_pending) <;> (try intros) <;> (repeat' split) <;> simp
@[simp] theorem State.refuseDeclare_pending (s : State) (ev case : Nat) : (State.refuseDeclare s ev case).pending = s.pending :=
  rfl
@[simp] theorem State.deliver_pending (s : State) (seq : Nat) (sh : Sheet) : (State.deliver s seq sh).pending = s.pending :=
  by simp [State.deliver]
@[simp] theorem State.declare_pending (s : State) (ev : Nat) : (State.declare s ev).pending = s.pending := by
  unfold State.declare
  (try dsimp only); repeat' (first | with_reducible rfl | (simp; done) | split | refine foldl_to ?_ (fun _ _ => ?_) | simp)
@[simp] theorem State.flushEnd_pending (s : State) : (State.flushEnd s).pending = s.pending :=
  by unfold State.flushEnd; (repeat' split) <;> simp
@[simp] theorem State.journalPump_pending (s : State) : (State.journalPump s).pending = s.pending := by
  unfold State.journalPump
  simp

/-! ### Pixel -/
@[simp] theorem State.modStn_pending (s : State) (n : Nat) (f : Stn → Stn) : (State.modStn s n f).pending = s.pending :=
  rfl

/-! ### Station -/
@[simp] theorem State.stnEvent_pending (s : State) (n e : Nat) : (State.stnEvent s n e).pending = s.pending :=
  by simp [State.stnEvent]
@[simp] theorem State.sourceRead_pending (s : State) (task a len : Nat) (more : Bool) : (State.sourceRead s task a len more).1.pending = s.pending := by
  unfold State.sourceRead
  (try dsimp only); repeat' (first | with_reducible rfl | (simp; done) | split | refine foldl_to ?_ (fun _ _ => ?_) | simp)
@[simp] theorem State.putTable_pending (s : State) (n k : Nat) (b : List Byte) : (State.putTable s n k b).pending = s.pending := by
  unfold State.putTable
  simp
@[simp] theorem State.setCur_pending (s : State) (n : Nat) : (State.setCur s n).pending = s.pending :=
  rfl
@[simp] theorem State.addBlank_pending (s : State) (n seq k : Nat) : (State.addBlank s n seq k).pending = s.pending :=
  rfl
@[simp] theorem State.lateLine_pending (s : State) (n seq : Nat) (l : Int) : (State.lateLine s n seq l).pending = s.pending :=
  by simp only [State.lateLine]; (repeat' split) <;> (try with_reducible apply foldl_pending) <;> (try intros) <;> (repeat' split) <;> simp_all
@[simp] theorem State.applyPatch_pending (s : State) (n : Nat) : (State.applyPatch s n).pending = s.pending := by
  unfold State.applyPatch
  (try dsimp only); repeat' (first | with_reducible rfl | (simp; done) | split | refine foldl_to ?_ (fun _ _ => ?_) | simp)
@[simp] theorem State.stnxServe_pending (s : State) (n : Nat) : (State.stnxServe s n).pending = s.pending := by
  unfold State.stnxServe
  simp
@[simp] theorem State.openWindow_pending (s : State) (n : Nat) (sh : Sheet) : (State.openWindow s n sh).pending = s.pending := by
  unfold State.openWindow
  (try dsimp only); repeat' (first | with_reducible rfl | (simp; done) | split | refine foldl_to ?_ (fun _ _ => ?_) | simp)
@[simp] theorem State.exposePlanes_pending (s : State) (n seq : Nat) : (State.exposePlanes s n seq).pending = s.pending :=
  by unfold State.exposePlanes; split <;> simp
@[simp] theorem State.exposedUpdate_pending (s : State) (seq : Nat) : (State.exposedUpdate s seq).pending = s.pending :=
  by unfold State.exposedUpdate; (repeat' split) <;> simp
@[simp] theorem State.pipeSlow_pending (s : State) (n margin : Nat) : (State.pipeSlow s n margin).pending = s.pending :=
  by unfold State.pipeSlow; split <;> simp
@[simp] theorem State.closeWindow_pending (s : State) (n margin : Nat) (w : Win) : (State.closeWindow s n margin w).pending = s.pending :=
  by simp only [State.closeWindow]; (repeat' split) <;> simp_all
@[simp] theorem State.closeWindows_pending (s : State) (n margin : Nat) (p : Win → Bool) : (State.closeWindows s n margin p).pending = s.pending :=
  by unfold State.closeWindows; (try with_reducible apply foldl_pending) <;> (try intros) <;> (repeat' split) <;> simp
@[simp] theorem State.failOpen_pending (s : State) (n reason detail : Nat) : (State.failOpen s n reason detail).pending = s.pending :=
  by unfold State.failOpen; (try with_reducible apply foldl_pending) <;> (try intros) <;> simp
@[simp] theorem State.lineZero_pending (s : State) (n seq : Nat) : (State.lineZero s n seq).pending = s.pending :=
  by unfold State.lineZero; split <;> simp
@[simp] theorem State.lineWindows_pending (s : State) (n : Nat) (ws : List (Win × Int)) : (State.lineWindows s n ws).2.pending = s.pending := by
  unfold State.lineWindows
  (try dsimp only); repeat' (first | with_reducible rfl | (simp; done) | split | refine foldl_to ?_ (fun _ _ => ?_) | simp)
@[simp] theorem State.planeFixed_pending (s : State) (p : Plane) (o len : Nat) : (State.planeFixed s p o len).pending = s.pending := by
  unfold State.planeFixed
  (try dsimp only); repeat' (first | with_reducible rfl | (simp; done) | split | refine foldl_to ?_ (fun _ _ => ?_) | simp)
@[simp] theorem State.dataLost_pending (s : State) (seq plane detail : Nat) : (State.dataLost s seq plane detail).pending = s.pending := by
  unfold State.dataLost
  (try dsimp only); repeat' (first | with_reducible rfl | (simp; done) | split | refine foldl_to ?_ (fun _ _ => ?_) | simp)
@[simp] theorem State.unitsLost_pending (s : State) (seq plane : Nat) (us : List Nat) : (State.unitsLost s seq plane us).pending = s.pending := by
  unfold State.unitsLost
  (try dsimp only); repeat' (first | with_reducible rfl | (simp; done) | split | refine foldl_to ?_ (fun _ _ => ?_) | simp)
@[simp] theorem State.tileError_pending (s : State) (n seq plane row col : Nat) : (State.tileError s n seq plane row col).pending = s.pending :=
  by simp [State.tileError]
@[simp] theorem State.lengthError_pending (s : State) (n seq plane : Nat) (e : PlaneEntry) : (State.lengthError s n seq plane e).pending = s.pending := by
  unfold State.lengthError
  simp
@[simp] theorem State.readHdrs_pending (s : State) (n seq plane : Nat) (p : Plane) (row col off k : Nat) :
    (s.readHdrs n seq plane p row col off k).1.pending = s.pending := by
  induction k generalizing s col off with
  | zero => rfl
  | succ k ih => unfold State.readHdrs; dsimp only; (repeat' split) <;> simp [ih]
@[simp] theorem State.decodeBody_pending (s : State) (n seq plane : Nat) (p : Plane) (f : Fetch) (h : List Byte × Nat) : (State.decodeBody s n seq plane p f h).pending = s.pending := by
  unfold State.decodeBody
  (try dsimp only); repeat' (first | with_reducible rfl | (simp; done) | split | refine foldl_to ?_ (fun _ _ => ?_) | simp)
@[simp] theorem State.decodeNext_pending (s : State) (n seq plane : Nat) (p : Plane) : (s.decodeNext n seq plane p).pending = s.pending := by
  unfold State.decodeNext
  extract_lets f
  have hr := s.readHdrs_pending n seq plane p (f.tile / tileCols p.entry) 0 f.off (tileCols p.entry)
  split
  · simp
  · split <;> rename_i h <;> rw [h] at hr
    · exact (State.decodeBody_pending _ _ _ _ _ _ _).trans hr
    · exact hr
@[simp] theorem State.tblRefuse_pending (s : State) (n k err : Nat) : (State.tblRefuse s n k err).pending = s.pending :=
  rfl
@[simp] theorem State.setValid_pending (s : State) (n k : Nat) (v : Bool) : (State.setValid s n k v).pending = s.pending :=
  rfl
@[simp] theorem State.tableLoad_pending (s : State) (n table : Nat) : (State.tableLoad s n table).pending = s.pending :=
  by simp only [State.tableLoad]; (repeat' split) <;> (try with_reducible apply foldl_pending) <;> (try intros) <;> simp_all
@[simp] theorem State.tablePatch_pending (s : State) (n table : Nat) : (State.tablePatch s n table).pending = s.pending :=
  by simp only [State.tablePatch]; (repeat' split) <;> (try with_reducible apply foldl_pending) <;> (try intros) <;> simp_all
@[simp] theorem State.refetchLost_pending (s : State) (n table : Nat) : (State.refetchLost s n table).pending = s.pending := by
  unfold State.refetchLost
  (try dsimp only); repeat' (first | with_reducible rfl | (simp; done) | split | refine foldl_to ?_ (fun _ _ => ?_) | simp)
@[simp] theorem State.loadTables_pending (s : State) (n : Nat) (x : Bool) : (State.loadTables s n x).pending = s.pending := by
  unfold State.loadTables
  (try dsimp only); repeat' (first | with_reducible rfl | (simp; done) | split | refine foldl_to ?_ (fun _ _ => ?_) | simp)
@[simp] theorem State.stnxLoaded_pending (s : State) (n : Nat) : (State.stnxLoaded s n).pending = s.pending := by
  unfold State.stnxLoaded
  simp
@[simp] theorem State.stnxMove_pending (s : State) (n : Nat) : (State.stnxMove s n).pending = s.pending := by
  unfold State.stnxMove
  simp
@[simp] theorem State.stnxMoveCmd_pending (s : State) (n : Nat) : (State.stnxMoveCmd s n).pending = s.pending :=
  by unfold State.stnxMoveCmd; split <;> simp
@[simp] theorem State.stnxReturnCmd_pending (s : State) : (State.stnxReturnCmd s).pending = s.pending :=
  by simp only [State.stnxReturnCmd]; (repeat' split) <;> simp_all
@[simp] theorem State.takeOver_pending (s : State) (n : Nat) : (State.takeOver s n).pending = s.pending := by
  unfold State.takeOver
  (try dsimp only); repeat' (first | with_reducible rfl | (simp; done) | split | refine foldl_to ?_ (fun _ _ => ?_) | simp)

/-! ### Head -/
@[simp] theorem State.setCfg_pending (s : State) (n code : Nat) : (State.setCfg s n code).pending = s.pending :=
  by unfold State.setCfg; split <;> simp
@[simp] theorem State.addFailed_pending (s : State) (n e origin : Nat) : (State.addFailed s n e origin).pending = s.pending :=
  by unfold State.addFailed; (repeat' split) <;> simp
@[simp] theorem State.hrecStart_pending (s : State) (n : Nat) : (State.hrecStart s n).pending = s.pending :=
  rfl
@[simp] theorem State.hrecCmd_pending (s : State) (n : Nat) : (State.hrecCmd s n).pending = s.pending :=
  by unfold State.hrecCmd; split <;> simp
@[simp] theorem State.recheckCfg_pending (s : State) (n : Nat) : (State.recheckCfg s n).pending = s.pending :=
  by unfold State.recheckCfg; split <;> simp
@[simp] theorem State.laneFail_pending (s : State) (n l count : Nat) : (State.laneFail s n l count).pending = s.pending :=
  by simp only [State.laneFail]; (repeat' split) <;> (try with_reducible apply foldl_pending) <;> (try intros) <;> (repeat' split) <;> simp_all
@[simp] theorem State.laneCounts_pending (s : State) (n : Nat) (lanes : List Nat) : (State.laneCounts s n lanes).pending = s.pending :=
  by simp only [State.laneCounts]; (try apply foldl_pending) <;> (try intros) <;> (repeat' split) <;> simp_all
@[simp] theorem State.laneBlank_pending (s : State) (n : Nat) (lanes : List Nat) (badLine : Nat) : (State.laneBlank s n lanes badLine).pending = s.pending := by
  unfold State.laneBlank
  (try dsimp only); repeat' (first | with_reducible rfl | (simp; done) | split | refine foldl_to ?_ (fun _ _ => ?_) | simp)
@[simp] theorem State.defAdd_pending (s : State) (n emitter : Nat) : (State.defAdd s n emitter).pending = s.pending :=
  by unfold State.defAdd; split <;> simp
@[simp] theorem State.headConv_pending (s : State) (n code : Nat) : (State.headConv s n code).pending = s.pending :=
  by simp [State.headConv, apply_ite State.pending]
@[simp] theorem State.hotClear_pending (s : State) (n : Nat) : (State.hotClear s n).pending = s.pending :=
  by unfold State.hotClear; split <;> simp

/-! ### Bar -/
@[simp] theorem State.barCodes_pending (s : State) (n : Nat) (ws : List (Win × Int)) : (State.barCodes s n ws).2.pending = s.pending :=
  by simp only [State.barCodes]; (repeat' split) <;> (try with_reducible apply foldl_pending) <;> (try intros) <;> simp_all
@[simp] theorem State.barSend_pending (s : State) (n : Nat) (p l : Int) (t0 : Nat) : (State.barSend s n p l t0).pending = s.pending := by
  unfold State.barSend
  (try dsimp only); repeat' (first | with_reducible rfl | (simp; done) | split | refine foldl_to ?_ (fun _ _ => ?_) | simp)
@[simp] theorem State.barOverrun_pending (s : State) (n : Nat) (ws : List (Win × Int)) : (State.barOverrun s n ws).pending = s.pending := by
  unfold State.barOverrun
  (try dsimp only); repeat' (first | with_reducible rfl | (simp; done) | split | refine foldl_to ?_ (fun _ _ => ?_) | simp)
@[simp] theorem State.barOpen_pending (s : State) (n : Nat) (p : Int) : (State.barOpen s n p).pending = s.pending :=
  by simp only [State.barOpen]; (try with_reducible apply foldl_pending) <;> (try intros) <;> (repeat' split) <;> simp_all
@[simp] theorem State.barClose_pending (s : State) (n margin : Nat) (p : Int) : (State.barClose s n margin p).pending = s.pending := by
  unfold State.barClose
  (try dsimp only); repeat' (first | with_reducible rfl | (simp; done) | split | refine foldl_to ?_ (fun _ _ => ?_) | simp)
@[simp] theorem State.barBoundary_pending (s : State) (n margin at64 : Nat) (p : Int) : (State.barBoundary s n margin at64 p).pending = s.pending := by
  unfold State.barBoundary
  simp
@[simp] theorem State.barBoundaries_pending (s : State) (n margin k : Nat) : (s.barBoundaries n margin k).pending = s.pending := by
  induction k generalizing s with
  | zero => rfl
  | succ k ih => unfold State.barBoundaries; dsimp only; split <;> simp [ih]
@[simp] theorem State.barLow_pending (s : State) : (State.barLow s).pending = s.pending := by
  unfold State.barLow
  (try dsimp only); repeat' (first | with_reducible rfl | (simp; done) | split | refine foldl_to ?_ (fun _ _ => ?_) | simp)
@[simp] theorem State.barEnable_pending (s : State) (n : Nat) : (State.barEnable s n).pending = s.pending := by
  unfold State.barEnable
  simp

/-! ### Scan -/
@[simp] theorem State.modScan_pending (s : State) (n : Nat) (f : ScanSt → ScanSt) : (State.modScan s n f).pending = s.pending :=
  rfl
@[simp] theorem State.startTracking_pending (s : State) (n : Nat) : (State.startTracking s n).pending = s.pending := by
  unfold State.startTracking
  simp
@[simp] theorem State.nextFacet_pending (s : State) (n : Nat) : (State.nextFacet s n).pending = s.pending :=
  by simp only [State.nextFacet]; (repeat' split) <;> (try with_reducible apply foldl_pending) <;> (try intros) <;> (repeat' split) <;> simp_all
@[simp] theorem State.learnInterval_pending (s : State) (n : Nat) (iv : Option Nat) (measured : Bool) : (State.learnInterval s n iv measured).pending = s.pending := by
  unfold State.learnInterval
  (try dsimp only); repeat' (first | with_reducible rfl | (simp; done) | split | refine foldl_to ?_ (fun _ _ => ?_) | simp)
@[simp] theorem State.learnMag_pending (s : State) (n : Nat) : (State.learnMag s n).pending = s.pending := by
  unfold State.learnMag
  (try dsimp only); repeat' (first | with_reducible rfl | (simp; done) | split | refine foldl_to ?_ (fun _ _ => ?_) | simp)
@[simp] theorem State.keepOld_pending (s : State) (n : Nat) : (State.keepOld s n).pending = s.pending := by
  unfold State.keepOld
  simp
@[simp] theorem State.autoCopy_pending (s : State) (n : Nat) : (State.autoCopy s n).pending = s.pending := by
  unfold State.autoCopy
  (try dsimp only); repeat' (first | with_reducible rfl | (simp; done) | split | refine foldl_to ?_ (fun _ _ => ?_) | simp)
@[simp] theorem State.surveyNext_pending (s : State) (n : Nat) : (State.surveyNext s n).pending = s.pending :=
  by simp only [State.surveyNext]; (repeat' split) <;> simp_all
@[simp] theorem State.setDead_pending (s : State) (n b : Nat) (v : Bool) : (State.setDead s n b v).pending = s.pending :=
  rfl
@[simp] theorem State.surveyBeam_pending (s : State) (n : Nat) (sample : Option Int) : (State.surveyBeam s n sample).pending = s.pending :=
  by simp only [State.surveyBeam]; (repeat' split) <;> simp_all
@[simp] theorem State.slip_pending (s : State) (n : Nat) (p adv : Int) : (s.slip n p adv).pending = s.pending := by
  unfold State.slip
  simp only []
  split
  · simp
  · rw [foldl_pending _ (fun s i => foldl_pending _ (fun s w => by split <;> simp) _ _)]
    simp
@[simp] theorem State.beamWindows_pending (s : State) (n : Nat) (p : Int) (b : Nat) (repeated : Nat) : (State.beamWindows s n p b repeated).2.pending = s.pending :=
  by simp only [State.beamWindows]; (repeat' split) <;> (try with_reducible apply foldl_pending) <;> (try intros) <;> simp_all
@[simp] theorem State.facetCodes_pending (s : State) (n : Nat) (lines : List (Nat × List (Win × Int))) :
    (s.facetCodes n lines).2.pending = s.pending := by
  unfold State.facetCodes
  dsimp only
  (repeat' split) <;> exact foldl_pending _ (fun s _ => foldl_pending _ (fun s _ => by simp) _ s) _ s
@[simp] theorem State.scanOpen_pending (s : State) (n : Nat) (p : Int) : (State.scanOpen s n p).pending = s.pending := by
  unfold State.scanOpen
  (try dsimp only); repeat' (first | with_reducible rfl | (simp; done) | split | refine foldl_to ?_ (fun _ _ => ?_) | simp)
@[simp] theorem State.phaseWarn_pending (s : State) (n : Nat) (opened : Bool) (e : Int) : (State.phaseWarn s n opened e).pending = s.pending := by
  unfold State.phaseWarn
  simp
@[simp] theorem State.phase_pending (s : State) (n : Nat) (e : Int) : (State.phase s n e).pending = s.pending :=
  by simp only [State.phase]; (repeat' split) <;> simp_all
@[simp] theorem State.writeFacet_pending (s : State) (n : Nat) (p : Int) (l0 : Int) (repeated : Nat) :
    (s.writeFacet n p l0 repeated).pending = s.pending := by
  unfold State.writeFacet
  extract_lets b due apc s0 s1 x r offs h words fr
  have e0 : s0.pending = s.pending := by simp [s0]
  have e1 : s1.pending = s.pending := (foldl_pending _ (fun s r => by split <;> simp) _ _).trans e0
  have h2 : ∀ (l : List Nat) (a : List (Nat × List (Win × Int)) × State),
      (l.foldl (fun (a : List (Nat × List (Win × Int)) × State) bm =>
        let y := a.2.beamWindows n p bm repeated
        (if y.1 = [] then a.1 else a.1 ++ [(bm, y.1)], y.2)) a).2.pending = a.2.pending := by
    intro l
    induction l with
    | nil => intro a; rfl
    | cons b l ih => intro a; rw [List.foldl_cons, ih]; simp
  have er : r.2.pending = s.pending := by
    simp only [r]
    split
    · exact e1
    · split
      · exact e1
      · split
        · exact (h2 _ _).trans e1
        · exact (State.facetCodes_pending _ _ _).trans ((h2 _ _).trans e1)
  split
  · rw [State.modStn_pending]; exact er
  · exact er
@[simp] theorem State.pixUnlock_pending (s : State) (n detail : Nat) : (State.pixUnlock s n detail).pending = s.pending := by
  unfold State.pixUnlock
  simp
@[simp] theorem State.nomChanged_pending (s : State) (n old : Nat) : (State.nomChanged s n old).pending = s.pending := by
  unfold State.nomChanged
  simp
@[simp] theorem State.sosFrame_pending (s : State) (n beam : Nat) (mean at_ : Int) : (State.sosFrame s n beam mean at_).pending = s.pending := by
  unfold State.sosFrame
  simp
@[simp] theorem State.facet_pending (s : State) (n : Nat) (iv : Option Nat) (margin lag : Nat) (p : Int) (measured : Bool) : (State.facet s n iv margin lag p measured).pending = s.pending := by
  unfold State.facet
  (try dsimp only); repeat' (first | with_reducible rfl | (simp; done) | split | refine foldl_to ?_ (fun _ _ => ?_) | simp)
@[simp] theorem State.lostEdge_pending (s : State) (n : Nat) : (State.lostEdge s n).pending = s.pending := by
  unfold State.lostEdge
  simp
@[simp] theorem State.goLost_pending (s : State) (n : Nat) : (State.goLost s n).pending = s.pending :=
  by simp [State.goLost]
@[simp] theorem State.countMiss_pending (s : State) (n : Nat) : (State.countMiss s n).pending = s.pending := by
  unfold State.countMiss
  simp
@[simp] theorem State.eosFrame_pending (s : State) (n : Nat) (at_ : Int) : (State.eosFrame s n at_).pending = s.pending := by
  unfold State.eosFrame
  simp
@[simp] theorem State.scanEnable_pending (s : State) (n : Nat) : (State.scanEnable s n).pending = s.pending := by
  unfold State.scanEnable
  simp

/-! ### Motion -/
@[simp] theorem State.adcResult_pending (s : State) (k code : Nat) : (State.adcResult s k code).pending = s.pending :=
  by unfold State.adcResult; (repeat' split) <;> (try apply foldl_pending) <;> (try intros) <;> (repeat' split) <;> simp
@[simp] theorem State.setAdc_pending (s : State) (c : Nat) (x : AdcSt) : (State.setAdc s c x).pending = s.pending := by
  unfold State.setAdc
  simp
@[simp] theorem State.adcNext_pending (s : State) (c : Nat) : (State.adcNext s c).pending = s.pending := by
  unfold State.adcNext
  (try dsimp only); repeat' (first | with_reducible rfl | (simp; done) | split | refine foldl_to ?_ (fun _ _ => ?_) | simp)
@[simp] theorem State.adcDrive_pending (s : State) (n ord k code : Nat) : (State.adcDrive s n ord k code).pending = s.pending := by
  unfold State.adcDrive
  simp

/-! ### Ppos -/
@[simp] theorem pposEvent_pending (s : State) (e : Nat) : (pposEvent s e).pending = s.pending :=
  by simp [pposEvent]
@[simp] theorem State.overJudge_pending (s : State) : (State.overJudge s).pending = s.pending := by
  unfold State.overJudge
  simp
@[simp] theorem State.beltCount_pending (s : State) (up : Bool) : (State.beltCount s up).pending = s.pending := by
  unfold State.beltCount
  simp
@[simp] theorem State.pposStart_pending (s : State) : (State.pposStart s).pending = s.pending :=
  by simp only [State.pposStart]; (repeat' split) <;> (try with_reducible apply foldl_pending) <;> (try intros) <;> simp_all
@[simp] theorem State.pposSetEn_pending (s : State) (en : Bool) : (State.pposSetEn s en).pending = s.pending :=
  by unfold State.pposSetEn; (repeat' split) <;> simp
@[simp] theorem State.lossPersists_pending (s : State) : (State.lossPersists s).pending = s.pending := by
  unfold State.lossPersists
  simp
@[simp] theorem State.pposClearLost_pending (s : State) : (State.pposClearLost s).pending = s.pending :=
  by unfold State.pposClearLost; (repeat' split) <;> simp
@[simp] theorem State.pposOffset_pending (s : State) (n : Nat) (hi : Nat) : (State.pposOffset s n hi).pending = s.pending :=
  rfl

/-! ### Drv -/
@[simp] theorem State.modDrv_pending (s : State) (n : Nat) (f : DrvSt → DrvSt) : (State.modDrv s n f).pending = s.pending :=
  rfl
@[simp] theorem State.drvEvent_pending (s : State) (n e : Nat) : (State.drvEvent s n e).pending = s.pending :=
  by simp [State.drvEvent]
@[simp] theorem State.drvGoto_pending (s : State) (n st : Nat) (g : Gates) : (State.drvGoto s n st g).pending = s.pending :=
  rfl
@[simp] theorem State.drvOffNow_pending (s : State) (n : Nat) (g : Gates) : (State.drvOffNow s n g).pending = s.pending :=
  rfl
@[simp] theorem State.drvFaultNow_pending (s : State) (n : Nat) : (State.drvFaultNow s n).pending = s.pending :=
  rfl
@[simp] theorem State.drvSafe_pending (s : State) (n : Nat) : (State.drvSafe s n).pending = s.pending :=
  rfl
@[simp] theorem State.drvGuard_pending (s : State) (n : Nat) (k : State) (h : k.pending = s.pending) :
    (s.drvGuard n k).pending = s.pending := by
  unfold State.drvGuard; (repeat' split) <;> simp [h]
@[simp] theorem State.drvStartFail_pending (s : State) (n cause : Nat) : (State.drvStartFail s n cause).pending = s.pending :=
  by simp [State.drvStartFail]
@[simp] theorem State.drvAttemptFail_pending (s : State) (n cause : Nat) : (State.drvAttemptFail s n cause).pending = s.pending :=
  by simp only [State.drvAttemptFail]; (repeat' split) <;> (try with_reducible apply foldl_pending) <;> (try intros) <;> (repeat' split) <;> simp_all
@[simp] theorem State.countLocked_pending (s : State) (detail : Nat) : (State.countLocked s detail).pending = s.pending :=
  rfl
@[simp] theorem State.drvCoast_pending (s : State) (n : Nat) : (State.drvCoast s n).pending = s.pending :=
  by simp only [State.drvCoast]; (repeat' split) <;> (try with_reducible apply foldl_pending) <;> (try intros) <;> (repeat' split) <;> simp_all
@[simp] theorem State.drvLoss_pending (s : State) (n cause : Nat) : (State.drvLoss s n cause).pending = s.pending := by
  unfold State.drvLoss
  simp
@[simp] theorem State.drvEnterRun_pending (s : State) (n : Nat) : (State.drvEnterRun s n).pending = s.pending :=
  by simp [State.drvEnterRun]
@[simp] theorem State.currentRefs_pending (s : State) (n : Nat) : (State.currentRefs s n).2.pending = s.pending :=
  by simp only [State.currentRefs]; (repeat' split) <;> simp_all
@[simp] theorem State.currentLoop_pending (s : State) (n : Nat) (x : DrvSample) : (State.currentLoop s n x).pending = s.pending :=
  by simp [State.currentLoop]
@[simp] theorem State.drvProfile_pending (s : State) (n : Nat) : (State.drvProfile s n).pending = s.pending :=
  by simp only [State.drvProfile]; (repeat' split) <;> simp_all
@[simp] theorem State.observe_pending (s : State) (n : Nat) (x : DrvSample) : (State.observe s n x).pending = s.pending :=
  rfl
@[simp] theorem State.drvHeld_pending (s : State) (n : Nat) : (State.drvHeld s n).pending = s.pending :=
  by simp only [State.drvHeld]; (repeat' split) <;> simp_all
@[simp] theorem State.drvRows_pending (s : State) (n : Nat) (x : DrvSample) : (State.drvRows s n x).pending = s.pending := by
  unfold State.drvRows
  (try dsimp only); repeat' (first | with_reducible rfl | (simp; done) | split | refine foldl_to ?_ (fun _ _ => ?_) | simp)
@[simp] theorem State.openLoop_pending (s : State) (n : Nat) : (State.openLoop s n).pending = s.pending :=
  by simp only [State.openLoop]; (repeat' split) <;> simp_all
@[simp] theorem State.drvSetEnable_pending (s : State) (n : Nat) (en : Bool) : (State.drvSetEnable s n en).pending = s.pending :=
  by simp only [State.drvSetEnable]; (repeat' split) <;> (try with_reducible apply foldl_pending) <;> (try intros) <;> simp_all
@[simp] theorem State.drvStart_pending (s : State) (n : Nat) : (s.drvStart n).pending = s.pending := by
  unfold State.drvStart
  refine State.drvGuard_pending _ _ _ ?_
  split
  · extract_lets s1
    have e1 : s1.pending = s.pending := by simp [s1]
    split <;> simp [e1]
  · simp
@[simp] theorem State.drvStop_pending (s : State) (n : Nat) : (s.drvStop n).pending = s.pending := by
  unfold State.drvStop
  extract_lets st
  refine State.drvGuard_pending _ _ _ ?_
  (repeat' split) <;> simp
@[simp] theorem State.keWrite_pending (s : State) (n ke : Nat) : (State.keWrite s n ke).pending = s.pending :=
  by simp only [State.keWrite]; (repeat' split) <;> (try with_reducible apply foldl_pending) <;> (try intros) <;> (repeat' split) <;> simp_all
@[simp] theorem State.drvClearLost_pending (s : State) (n : Nat) : (State.drvClearLost s n).pending = s.pending :=
  by unfold State.drvClearLost; (repeat' split) <;> simp
@[simp] theorem State.drvPersists_pending (s : State) (n : Nat) : (State.drvPersists s n).pending = s.pending := by
  unfold State.drvPersists
  simp
@[simp] theorem State.legsTick_pending (s : State) (n : Nat) : (State.legsTick s n).pending = s.pending := by
  unfold State.legsTick
  simp
@[simp] theorem State.gatesTick_pending (s : State) : (State.gatesTick s).pending = s.pending := by
  unfold State.gatesTick
  (try dsimp only); repeat' (first | with_reducible rfl | (simp; done) | split | refine foldl_to ?_ (fun _ _ => ?_) | simp)
@[simp] theorem State.coastDefects_pending (s : State) : (State.coastDefects s).pending = s.pending := by
  unfold State.coastDefects
  (try dsimp only); repeat' (first | with_reducible rfl | (simp; done) | split | refine foldl_to ?_ (fun _ _ => ?_) | simp)

/-! ### Axs -/
@[simp] theorem State.modAxs_pending (s : State) (n : Nat) (f : AxsSt → AxsSt) : (State.modAxs s n f).pending = s.pending :=
  rfl
@[simp] theorem State.axsEvent_pending (s : State) (n e : Nat) : (State.axsEvent s n e).pending = s.pending :=
  by simp [State.axsEvent]
@[simp] theorem State.setUnc_pending (s : State) (n : Nat) : (State.setUnc s n).pending = s.pending :=
  by unfold State.setUnc; split <;> simp
@[simp] theorem State.uncertain_pending (s : State) (n : Nat) : (State.uncertain s n).pending = s.pending :=
  by unfold State.uncertain; split <;> simp
@[simp] theorem State.axsRest_pending (s : State) (n : Nat) : (State.axsRest s n).pending = s.pending :=
  by simp only [State.axsRest]; (repeat' split) <;> (try with_reducible apply foldl_pending) <;> (try intros) <;> (repeat' split) <;> simp_all
@[simp] theorem State.axsHard_pending (s : State) (n : Nat) : (s.axsHard n).pending = s.pending := by
  have h : ∀ (s1 : State) (c : Bool) (v : Nat), s1.pending = s.pending →
      (if c = true then s1.fset (AXSn_EXT_COUNT_VALUE n) v else s1).pending = s.pending := by
    intro s1 c v h1; split
    · exact h1
    · exact h1
  exact h _ _ _ ((State.axsRest_pending _ _).trans ((State.modAxs_pending _ _ _).trans (State.uncertain_pending _ _)))
@[simp] theorem State.axsRamp_pending (s : State) (n : Nat) : (State.axsRamp s n).pending = s.pending :=
  by simp only [State.axsRamp]; (repeat' split) <;> simp_all
@[simp] theorem State.homeFail_pending (s : State) (n cause : Nat) : (State.homeFail s n cause).pending = s.pending :=
  by unfold State.homeFail; split <;> simp
@[simp] theorem State.homeAbort_pending (s : State) (n : Nat) : (State.homeAbort s n).pending = s.pending :=
  by unfold State.homeAbort; split <;> simp
@[simp] theorem State.coilsOff_pending (s : State) (n : Nat) : (State.coilsOff s n).pending = s.pending :=
  rfl
@[simp] theorem State.axsSafe_pending (s : State) (n : Nat) : (State.axsSafe s n).pending = s.pending :=
  by unfold State.axsSafe; split <;> simp
@[simp] theorem State.modeStep_pending (s : State) (n : Nat) : (State.modeStep s n).pending = s.pending := by
  unfold State.modeStep
  simp
@[simp] theorem State.loadStep_pending (s : State) (n : Nat) : (State.loadStep s n).pending = s.pending :=
  by simp only [State.loadStep]; (repeat' split) <;> simp_all
@[simp] theorem State.currentStep_pending (s : State) (n : Nat) : (State.currentStep s n).pending = s.pending :=
  rfl
@[simp] theorem State.axsStall_pending (s : State) (n : Nat) : (State.axsStall s n).pending = s.pending :=
  by simp [State.axsStall]
@[simp] theorem State.fullStep_pending (s : State) (n : Nat) : (s.fullStep n).pending = s.pending := by
  unfold State.fullStep
  extract_lets s1 bad k s2 s3
  have e1 : s1.pending = s.pending := by simp [s1]
  have e2 : s2.pending = s.pending := by simp [s2, e1]
  have e3 : s3.pending = s.pending := by simp only [s3]; split <;> simp [e2]
  split <;> simp [e3]
@[simp] theorem State.microsteps_pending (s : State) (n : Nat) (pos : Int) : (State.microsteps s n pos).pending = s.pending :=
  by simp only [State.microsteps]; (repeat' split) <;> (try apply foldl_pending) <;> (try intros) <;> simp_all
@[simp] theorem State.driveOn_pending (s : State) (n : Nat) : (State.driveOn s n).pending = s.pending :=
  rfl
@[simp] theorem State.planMove_pending (s : State) (n : Nat) (target : Int) : (State.planMove s n target).pending = s.pending :=
  rfl
@[simp] theorem State.planVel_pending (s : State) (n : Nat) (vt : Int) : (State.planVel s n vt).pending = s.pending :=
  rfl
@[simp] theorem State.homeVel_pending (s : State) (n : Nat) (h : HomeSt) (vt : Int) : (State.homeVel s n h vt).pending = s.pending :=
  rfl
@[simp] theorem State.axsBegin_pending (s : State) (n a : Nat) : (State.axsBegin s n a).pending = s.pending := by
  unfold State.axsBegin
  simp
@[simp] theorem State.axsQueued_pending (s : State) (n : Nat) : (State.axsQueued s n).pending = s.pending :=
  by unfold State.axsQueued; (repeat' split) <;> simp
@[simp] theorem State.axsHalt_pending (s : State) (n : Nat) : (State.axsHalt s n).pending = s.pending :=
  by unfold State.axsHalt; split <;> simp
@[simp] theorem State.axsStopCmd_pending (s : State) (n : Nat) : (State.axsStopCmd s n).pending = s.pending :=
  by simp only [State.axsStopCmd]; (repeat' split) <;> simp_all
@[simp] theorem State.axsCmd_pending (s : State) (n a : Nat) : (State.axsCmd s n a).pending = s.pending :=
  by unfold State.axsCmd; (repeat' split) <;> simp
@[simp] theorem State.axsSetEnable_pending (s : State) (n : Nat) (en : Bool) : (State.axsSetEnable s n en).pending = s.pending := by
  unfold State.axsSetEnable
  simp
@[simp] theorem State.interpolate_pending (s : State) (n : Nat) : (State.interpolate s n).pending = s.pending := by
  unfold State.interpolate
  (try dsimp only); repeat' (first | with_reducible rfl | (simp; done) | split | refine foldl_to ?_ (fun _ _ => ?_) | simp)
@[simp] theorem State.axsInputs_pending (s : State) (n : Nat) : (State.axsInputs s n).1.pending = s.pending :=
  rfl
@[simp] theorem State.limitStop_pending (s : State) (n side : Nat) : (State.limitStop s n side).pending = s.pending :=
  by unfold State.limitStop; (repeat' split) <;> simp
@[simp] theorem State.homingTick_pending (s : State) (n : Nat) (tr : Bool) : (State.homingTick s n tr).pending = s.pending :=
  by simp only [State.homingTick]; (repeat' split) <;> simp_all
@[simp] theorem State.axsArrive_pending (s : State) (n : Nat) : (State.axsArrive s n).pending = s.pending := by
  unfold State.axsArrive
  (try dsimp only); repeat' (first | with_reducible rfl | (simp; done) | split | refine foldl_to ?_ (fun _ _ => ?_) | simp)
@[simp] theorem State.followCur_pending (s : State) (n : Nat) : (State.followCur s n).pending = s.pending := by
  unfold State.followCur
  simp
@[simp] theorem State.generate_pending (s : State) (n : Nat) : (State.generate s n).pending = s.pending :=
  by simp [State.generate]
@[simp] theorem State.uncClear_pending (s : State) (n : Nat) : (State.uncClear s n).pending = s.pending :=
  by unfold State.uncClear; (repeat' split) <;> simp

/-! ### Outputs -/
@[simp] theorem State.bWrite_pending (s : State) (running : Bool) (f : Fld) (v : Nat) : (State.bWrite s running f v).pending = s.pending :=
  by unfold State.bWrite; split <;> simp
@[simp] theorem State.hvoLow_pending (s : State) (k : Nat) : (State.hvoLow s k).pending = s.pending :=
  rfl
@[simp] theorem State.fusLow_pending (s : State) (f : Nat) : (State.fusLow s f).pending = s.pending :=
  rfl
@[simp] theorem State.fusSetEn_pending (s : State) (f : Nat) (en : Bool) : (State.fusSetEn s f en).pending = s.pending := by
  unfold State.fusSetEn
  simp
@[simp] theorem State.fusTick_pending (s : State) (f : Nat) : (State.fusTick s f).pending = s.pending := by
  unfold State.fusTick
  (try dsimp only); repeat' (first | with_reducible rfl | (simp; done) | split | refine foldl_to ?_ (fun _ _ => ?_) | simp)
@[simp] theorem State.fuserStop_pending (s : State) : (State.fuserStop s).pending = s.pending :=
  by simp only [State.fuserStop]; (repeat' split) <;> (try with_reducible apply foldl_pending) <;> (try intros) <;> (repeat' split) <;> simp_all
@[simp] theorem State.adcStart_pending (s : State) (c q : Nat) : (State.adcStart s c q).1.pending = s.pending :=
  by unfold State.adcStart; split <;> simp
@[simp] theorem State.setPinOut_pending (s : State) (p : Nat) (v : Bool) : (State.setPinOut s p v).pending = s.pending :=
  rfl
@[simp] theorem State.pinSample_pending (s : State) (p : Nat) (level : Bool) : (State.pinSample s p level).pending = s.pending := by
  unfold State.pinSample
  simp
@[simp] theorem State.gpioTick_pending (s : State) : (State.gpioTick s).pending = s.pending := by
  unfold State.gpioTick
  (try dsimp only); repeat' (first | with_reducible rfl | (simp; done) | split | refine foldl_to ?_ (fun _ _ => ?_) | simp)

/-! ### Loops -/
@[simp] theorem State.loopMsg_pending (s : State) (n k : Nat) : (State.loopMsg s n k).pending = s.pending :=
  by unfold State.loopMsg; split <;> simp
@[simp] theorem State.loopFlags_pending (s : State) (n : Nat) (fl : List (Fld × Nat × Bool)) : (s.loopFlags n fl).pending = s.pending := by
  unfold State.loopFlags
  extract_lets rising s1
  have e1 : s1.pending = s.pending := foldl_pending _ (fun s r => by simp) _ _
  split <;> simp [e1]
@[simp] theorem State.loopSafe_pending (s : State) (n : Nat) : (State.loopSafe s n).pending = s.pending :=
  by unfold State.loopSafe; (repeat' split) <;> (try apply foldl_pending) <;> (try intros) <;> simp
@[simp] theorem State.loopHeld_pending (s : State) (n : Nat) : (State.loopHeld s n).pending = s.pending := by
  unfold State.loopHeld
  simp
@[simp] theorem State.loopJudge_pending (s : State) (n : Nat) : (State.loopJudge s n).1.pending = s.pending :=
  by simp only [State.loopJudge]; (repeat' split) <;> (try with_reducible apply foldl_pending) <;> (try intros) <;> simp_all
@[simp] theorem State.loopApply_pending (s : State) (n : Nat) : (State.loopApply s n).pending = s.pending :=
  by simp only [State.loopApply]; (repeat' split) <;> simp_all
@[simp] theorem State.loopSetEnable_pending (s : State) (n : Nat) (en : Bool) : (State.loopSetEnable s n en).pending = s.pending :=
  by unfold State.loopSetEnable; (repeat' split) <;> simp
@[simp] theorem State.deliverOut_pending (s : State) (n j : Nat) (u : Int) : (State.deliverOut s n j u).pending = s.pending :=
  by simp only [State.deliverOut]; (repeat' split) <;> simp_all
@[simp] theorem State.adcUsed_pending (s : State) (n : Nat) (slots : List Nat) : (State.adcUsed s n slots).pending = s.pending := by
  unfold State.adcUsed
  (try dsimp only); repeat' (first | with_reducible rfl | (simp; done) | split | refine foldl_to ?_ (fun _ _ => ?_) | simp)
@[simp] theorem State.loopInputs_pending (s : State) (n : Nat) : (s.loopInputs n).2.pending = s.pending := by
  unfold State.loopInputs
  extract_lets slots live
  split
  · rename_i h; exact State.replayVal_pending h
  · simp
@[simp] theorem State.sendOut_pending (s : State) (n task j : Nat) (u : Int) : (State.sendOut s n task j u).pending = s.pending :=
  by unfold State.sendOut; split <;> simp
@[simp] theorem State.loopSample_pending (s : State) (n task : Nat) : (s.loopSample n task).pending = s.pending := by
  unfold State.loopSample
  extract_lets f nx ny nu ff auto first ins yin rin win ys xs eps rows xn s1 s2 late __src s3
  have e1 : s1.pending = s.pending := (foldl_pending _ (fun s r => by simp) _ _).trans (State.loopInputs_pending s n)
  have e2 : s2.pending = s.pending := (foldl_pending _ (fun s r => by simp) _ _).trans e1
  have e3 : s3.pending = s.pending := by
    show __src.pending = _
    simp [__src, e2]
  rw [State.loopFlags_pending]
  split <;> simp [e3]
@[simp] theorem State.loopLoad_pending (s : State) (n : Nat) : (State.loopLoad s n).pending = s.pending := by
  unfold State.loopLoad
  simp
@[simp] theorem State.loopRun_pending (s : State) (n task : Nat) : (State.loopRun s n task).pending = s.pending := by
  unfold State.loopRun
  simp

/-! ### TimeMod -/
@[simp] theorem State.setTarget_pending (s : State) (c v : Nat) : (State.setTarget s c v).pending = s.pending :=
  rfl
@[simp] theorem State.almDrop_pending (s : State) (c : Nat) : (State.almDrop s c).pending = s.pending :=
  rfl
@[simp] theorem State.almAct_pending (s : State) (c a : Nat) : (State.almAct s c a).pending = s.pending :=
  by simp only [State.almAct]; (repeat' split) <;> (try with_reducible apply foldl_pending) <;> (try intros) <;> (repeat' split) <;> simp_all
@[simp] theorem State.almFire_pending (s : State) (c : Nat) : (State.almFire s c).pending = s.pending :=
  by simp only [State.almFire]; (repeat' split) <;> simp_all
@[simp] theorem State.almDoes_pending (s : State) (c : Nat) : (State.almDoes s c).pending = s.pending := by
  unfold State.almDoes
  simp
@[simp] theorem State.almSkip_pending (s : State) (c : Nat) : (s.almSkip c).pending = s.pending := by
  have h : ∀ (s1 : State) (p q : Prop) [Decidable p] (a : Nat) (k : Nat), s1.pending = s.pending →
      (if p then s1 else ((s1.setTarget c a).fsat (ALMc_STATUS_MISSED c) k).sendFault timeSrc 0x01 c).pending = s.pending := by
    intro s1 p _ _ a k h1; split
    · exact h1
    · rw [State.sendFault_pending, State.fsat_pending, State.setTarget_pending]; exact h1
  unfold State.almSkip
  split
  · rfl
  · exact h _ _ True _ _ (State.almFire_pending _ _)
@[simp] theorem State.almArm_pending (s : State) (c : Nat) : (State.almArm s c).pending = s.pending :=
  by simp only [State.almArm]; (repeat' split) <;> simp_all
@[simp] theorem State.almDisarm_pending (s : State) (c : Nat) : (State.almDisarm s c).pending = s.pending :=
  rfl
@[simp] theorem State.stepTime_pending (s : State) (fx : Int) : (s.stepTime fx).pending = s.pending := by
  unfold State.stepTime
  extract_lets v r s1
  have er : r.pending = s.pending := State.record_pending _ _ _ _
  have e1 : s1.pending = s.pending := by
    simp only [s1]; rw [State.event_pending, State.fwrap_pending]; exact er
  split
  · exact (foldl_pending _ (fun s r => State.almSkip_pending _ _) _ _).trans e1
  · exact e1
@[simp] theorem State.stepRefuse_pending (s : State) (action : Nat) : (State.stepRefuse s action).pending = s.pending :=
  rfl
@[simp] theorem State.timeCmd_pending (s : State) (action : Nat) : (State.timeCmd s action).pending = s.pending :=
  by unfold State.timeCmd; (repeat' split) <;> simp
@[simp] theorem State.timeInc_pending (s : State) (v : Nat) : (State.timeInc s v).pending = s.pending :=
  by unfold State.timeInc; (repeat' split) <;> simp
@[simp] theorem State.setSync_pending (s : State) (v : Nat) : (State.setSync s v).pending = s.pending :=
  by unfold State.setSync; (repeat' split) <;> simp
@[simp] theorem State.ptpRole_pending (s : State) (role : Nat) : (State.ptpRole s role).pending = s.pending :=
  by simp only [State.ptpRole]; (repeat' split) <;> simp_all
@[simp] theorem State.servoStep_pending (s : State) (offset : Int) : (State.servoStep s offset).pending = s.pending :=
  by simp [State.servoStep]
@[simp] theorem State.servoInc_pending (s : State) : (State.servoInc s).pending = s.pending :=
  rfl
@[simp] theorem State.ptpOffset_pending (s : State) (offset : Int) : (State.ptpOffset s offset).pending = s.pending :=
  by simp only [State.ptpOffset]; (repeat' split) <;> simp_all
@[simp] theorem State.ptpBest_pending (s : State) (self : Bool) : (State.ptpBest s self).pending = s.pending :=
  by unfold State.ptpBest; split <;> simp
@[simp] theorem State.ptpSend_pending (s : State) (typ seq : Nat) (time : Option Nat) : (State.ptpSend s typ seq time).pending = s.pending :=
  rfl
@[simp] theorem State.capture_pending (s : State) (l : List (Fld × Nat)) : (State.capture s l).pending = s.pending :=
  rfl
@[simp] theorem State.txtsPop_pending (s : State) (n : Nat) : (State.txtsPop s n).pending = s.pending :=
  by unfold State.txtsPop; split <;> simp
@[simp] theorem State.capPop_pending (s : State) (k : Nat) : (State.capPop s k).pending = s.pending :=
  by unfold State.capPop; split <;> simp

/-! ### Rail -/
@[simp] theorem State.railEvent_pending (s : State) (e : Nat) : (State.railEvent s e).pending = s.pending :=
  by simp [State.railEvent]
@[simp] theorem State.setJudge_pending (s : State) (r : Nat) (j : RailJ) : (State.setJudge s r j).pending = s.pending :=
  rfl
@[simp] theorem State.railEnable_pending (s : State) (r : Nat) : (State.railEnable s r).pending = s.pending :=
  rfl
@[simp] theorem State.railDisable_pending (s : State) (r : Nat) : (State.railDisable s r).pending = s.pending :=
  rfl
@[simp] theorem State.thawStep_pending (s : State) (st : Nat) : (State.thawStep s st).pending = s.pending :=
  by unfold State.thawStep; (try apply foldl_pending) <;> (try intros) <;> simp
@[simp] theorem State.frostSlave_pending (s : State) (k : Nat) : (State.frostSlave s k).pending = s.pending :=
  rfl
@[simp] theorem State.railReset_pending (s : State) : (State.railReset s).pending = s.pending := by
  unfold State.railReset
  simp
@[simp] theorem State.frostDone_pending (s : State) : (State.frostDone s).pending = s.pending :=
  by simp only [State.frostDone]; (repeat' split) <;> (try with_reducible apply foldl_pending) <;> (try intros) <;> (repeat' split) <;> simp_all
@[simp] theorem State.frostSteps_pending (k : Nat) (s : State) : (s.frostSteps k).pending = s.pending := by
  induction k generalizing s with
  | zero => simp [State.frostSteps]
  | succ k ih =>
    unfold State.frostSteps
    extract_lets rs s1 _rail s2
    have e1 : s1.pending = s.pending := (foldl_pending _ (fun s r => by simp) _ _).trans (by simp)
    split
    · exact ih s
    · split
      · exact (ih s2).trans e1
      · exact e1
@[simp] theorem State.frostMaster_pending (s : State) : (State.frostMaster s).pending = s.pending :=
  by simp [State.frostMaster]
@[simp] theorem State.frostNext_pending (s : State) (k : Nat) : (State.frostNext s k).pending = s.pending :=
  by unfold State.frostNext; split <;> simp
@[simp] theorem State.frostCause_pending (s : State) (cause : Nat) : (State.frostCause s cause).pending = s.pending :=
  by simp only [State.frostCause]; (repeat' split) <;> (try with_reducible apply foldl_pending) <;> (try intros) <;> simp_all
@[simp] theorem State.railUp_pending (s : State) : (State.railUp s).pending = s.pending := by
  unfold State.railUp
  simp
@[simp] theorem State.chainStart_pending (s : State) : (State.chainStart s).pending = s.pending :=
  by simp only [State.chainStart]; (repeat' split) <;> (try with_reducible apply foldl_pending) <;> (try intros) <;> (repeat' split) <;> simp_all
@[simp] theorem State.thawFrom_pending (s : State) (st : Nat) : (State.thawFrom s st).pending = s.pending :=
  by unfold State.thawFrom; split <;> simp
@[simp] theorem State.passNext_pending (s : State) : (State.passNext s).pending = s.pending :=
  by unfold State.passNext; split <;> simp
@[simp] theorem State.configStart_pending (s : State) : (State.configStart s).pending = s.pending :=
  by simp [State.configStart]
@[simp] theorem State.thaw_pending (s : State) : (State.thaw s).pending = s.pending :=
  by simp only [State.thaw]; (repeat' split) <;> simp_all
@[simp] theorem State.railLost_pending (s : State) (detail : Nat) : (State.railLost s detail).pending = s.pending :=
  by simp [State.railLost]
@[simp] theorem State.railFlip_pending (s : State) (r : Nat) (bad : Bool) : (State.railFlip s r bad).pending = s.pending :=
  by simp only [State.railFlip]; (repeat' split) <;> (try with_reducible apply foldl_pending) <;> (try intros) <;> (repeat' split) <;> simp_all
@[simp] theorem State.railRead_pending (s : State) (r c : Nat) : (State.railRead s r c).pending = s.pending :=
  by simp [State.railRead, apply_ite State.pending]
@[simp] theorem State.linkPop_pending (s : State) : (State.linkPop s).pending = s.pending :=
  rfl
@[simp] theorem State.linkPush_pending (s : State) (k cmd : Nat) : (State.linkPush s k cmd).pending = s.pending :=
  rfl
@[simp] theorem State.chainPoll_pending (s : State) (k : Nat) : (State.chainPoll s k).pending = s.pending :=
  by unfold State.chainPoll; split <;> simp
@[simp] theorem State.passFail_pending (s : State) (k : Nat) : (State.passFail s k).pending = s.pending :=
  by simp [State.passFail]
@[simp] theorem State.slaveStatus_pending (s : State) (k d : Nat) : (State.slaveStatus s k d).pending = s.pending :=
  by simp only [State.slaveStatus]; (repeat' split) <;> (try with_reducible apply foldl_pending) <;> (try intros) <;> (repeat' split) <;> simp_all
@[simp] theorem State.slaveFail_pending (s : State) (k : Nat) : (State.slaveFail s k).pending = s.pending :=
  by simp [State.slaveFail]
@[simp] theorem State.linkOk_pending (s : State) (q : LinkReq) (status d : Nat) : (State.linkOk s q status d).pending = s.pending :=
  by simp only [State.linkOk]; (repeat' split) <;> (try with_reducible apply foldl_pending) <;> (try intros) <;> (repeat' split) <;> simp_all
@[simp] theorem State.linkErr_pending (s : State) (q : LinkReq) : (State.linkErr s q).pending = s.pending :=
  by simp only [State.linkErr]; (repeat' split) <;> (try with_reducible apply foldl_pending) <;> (try intros) <;> (repeat' split) <;> simp_all
@[simp] theorem State.stuck_pending (s : State) (detail : Nat) : (State.stuck s detail).pending = s.pending :=
  by simp [State.stuck]

/-! ### Place -/
theorem fill_pending (t : Task) (img : List Byte) (l : List SegDesc) (x : State) :
    (l.foldl (fun s d => s.rawFill (t.segAddr (d.seg * 2 ^ 28)) d.size (if d.init then img.drop d.initOffset else [])) x).pending = x.pending := by
  induction l generalizing x with
  | nil => rfl
  | cons d l ih => rw [List.foldl_cons, ih, State.rawFill_pending]
@[simp] theorem State.fillTask_pending (img : List Byte) (s : State) (t : Task) : (State.fillTask img s t).pending = s.pending := by
  unfold State.fillTask
  rw [fill_pending, State.rawFill_pending]
@[simp] theorem State.clearTasks_pending (s : State) : (State.clearTasks s).pending = s.pending := by
  unfold State.clearTasks
  simp
@[simp] theorem State.showEngs_pending (s : State) (engs : List Eng) : (State.showEngs s engs).pending = s.pending :=
  by unfold State.showEngs; (try with_reducible apply foldl_pending) <;> (try intros) <;> (repeat' split) <;> simp
@[simp] theorem State.startTasks_pending (s : State) : (State.startTasks s).pending = s.pending :=
  by simp [State.startTasks]
@[simp] theorem State.recordInitial_pending (s : State) (crc : Nat) (pl : Plan) : (State.recordInitial s crc pl).pending = s.pending :=
  by simp [State.recordInitial]
@[simp] theorem State.applyPlan_pending (s : State) (img : List Byte) (hs : List TaskHdr) (pl : Plan) : (State.applyPlan s img hs pl).pending = s.pending := by
  unfold State.applyPlan
  (try dsimp only); repeat' (first | with_reducible rfl | (simp; done) | split | refine foldl_to ?_ (fun _ _ => ?_) | simp)
@[simp] theorem State.place_pending (s : State) (img : List Byte) (hs : List TaskHdr) (crc : Nat) : (State.place s img hs crc).pending = s.pending := by
  unfold State.place
  (try dsimp only); repeat' (first | with_reducible rfl | (simp; done) | split | refine foldl_to ?_ (fun _ _ => ?_) | simp)
@[simp] theorem State.setSlot_pending (s : State) (b : Bool) (x : Slot) : (State.setSlot s b x).pending = s.pending :=
  rfl
@[simp] theorem State.placeImage_pending (s : State) : (State.placeImage s).pending = s.pending :=
  by simp [State.placeImage]
@[simp] theorem State.replaceTasks_pending (s : State) : (State.replaceTasks s).pending = s.pending :=
  by unfold State.replaceTasks; split <;> simp
@[simp] theorem State.passEngine_pending (s : State) (p q st : Nat) : (State.passEngine s p q st).pending = s.pending :=
  rfl
@[simp] theorem State.passTasks_pending (s : State) (p q : Nat) : (State.passTasks s p q).pending = s.pending :=
  rfl
@[simp] theorem State.moveBegin_pending (s : State) (p q st pause : Nat) : (State.moveBegin s p q st pause).pending = s.pending := by
  unfold State.moveBegin
  simp
@[simp] theorem State.moveEnd_pending (s : State) (m : Moving) : (State.moveEnd s m).pending = s.pending := by
  unfold State.moveEnd
  simp
@[simp] theorem State.movesTick_pending (s : State) : (State.movesTick s).pending = s.pending := by
  unfold State.movesTick
  (try dsimp only); repeat' (first | with_reducible rfl | (simp; done) | split | refine foldl_to ?_ (fun _ _ => ?_) | simp)
@[simp] theorem State.failRestart_pending (s : State) (i : Nat) : (State.failRestart s i).pending = s.pending := by
  unfold State.failRestart
  (try dsimp only); repeat' (first | with_reducible rfl | (simp; done) | split | refine foldl_to ?_ (fun _ _ => ?_) | simp)
@[simp] theorem State.failStop_pending (s : State) (p : Nat) : (State.failStop s p).pending = s.pending := by
  unfold State.failStop
  simp
@[simp] theorem State.engineFail_pending (s : State) (p kind detail : Nat) : (s.engineFail p kind detail).pending = s.pending := by
  unfold State.engineFail
  extract_lets s' was s0 ids s1'
  have e' : s'.pending = s.pending := foldl_pending _ (fun s r => by simp) _ _
  have e0 : s0.pending = s.pending := (State.modUnit_pending _ _ _).trans e'
  have e1 : s1'.pending = s.pending := by simp only [s1']; split <;> simp [e0]
  split
  · simp [e0]
  · split
    · extract_lets s1 _ex s2
      rw [foldl_pending _ (fun s r => by simp), State.recordPlace_pending]
      simp only [s2, State.fsat_pending]
      show s1.pending = _
      simp [s1, e0]
    · simp [e1]
@[simp] theorem State.pipelineFail_pending (s : State) (p detail : Nat) : (State.pipelineFail s p detail).pending = s.pending := by
  unfold State.pipelineFail
  simp

/-! ### Flt -/
@[simp] theorem State.fltEvent_pending (s : State) (e : Nat) : (State.fltEvent s e).pending = s.pending :=
  by simp [State.fltEvent]
@[simp] theorem State.thmEvent_pending (s : State) (e : Nat) : (State.thmEvent s e).pending = s.pending :=
  by simp [State.thmEvent]
@[simp] theorem State.enqueue_pending (s : State) (src kind detail cls : Nat) (esc : Bool) : (State.enqueue s src kind detail cls esc).pending = s.pending :=
  by unfold State.enqueue; (repeat' split) <;> simp
@[simp] theorem State.setGrace_pending (s : State) (src : Nat) (g : Option Grace) : (State.setGrace s src g).pending = s.pending :=
  rfl
@[simp] theorem State.safeImaging_pending (s : State) : (State.safeImaging s).pending = s.pending := by
  unfold State.safeImaging
  (try dsimp only); repeat' (first | with_reducible rfl | (simp; done) | split | refine foldl_to ?_ (fun _ _ => ?_) | simp)
@[simp] theorem State.safeControl_pending (s : State) : (s.safeControl).pending = s.pending := by
  unfold State.safeControl
  extract_lets s1 s2 s3 s4 s5
  have e1 : s1.pending = s.pending := foldl_pending _ (fun s r => by simp) _ _
  have e2 : s2.pending = s.pending := (foldl_pending _ (fun s r => by simp) _ _).trans e1
  have e3 : s3.pending = s.pending := (foldl_pending _ (fun s r => by simp) _ _).trans e2
  have e4 : s4.pending = s.pending := by simp [s4, e3]
  have e5 : s5.pending = s.pending := (foldl_pending _ (fun s r => by simp) _ _).trans e4
  split <;> simp [e5]
@[simp] theorem State.safeAct_pending (s : State) (scope had : Nat) : (State.safeAct s scope had).pending = s.pending :=
  by unfold State.safeAct; (repeat' split) <;> simp
@[simp] theorem State.safeEnter_pending (s : State) (src kind detail : Nat) : (State.safeEnter s src kind detail).pending = s.pending :=
  by simp only [State.safeEnter]; (repeat' split) <;> simp_all
@[simp] theorem State.collect_pending (s : State) (m : FaultMsg) : (s.collect m).pending = s.pending := by
  unfold State.collect
  extract_lets eff was old ks s1 _flt s2 s3 s4 s5
  have e2 : s2.pending = s.pending := by simp [s2, s1]
  have e3 : s3.pending = s.pending := by simp [s3, e2]
  have e4 : s4.pending = s.pending := by simp only [s4]; split <;> simp [e3]
  have e5 : s5.pending = s.pending := by simp [s5, e4]
  split
  · split <;> simp [e5]
  · split <;> simp [e4]
@[simp] theorem State.srcClear_pending (s : State) (src : Nat) : (State.srcClear s src).pending = s.pending :=
  by simp only [State.srcClear]; (repeat' split) <;> (try with_reducible apply foldl_pending) <;> (try intros) <;> simp_all
@[simp] theorem State.safeClear_pending (s : State) : (s.safeClear).pending = s.pending := by
  unfold State.safeClear
  extract_lets img s1
  have e1 : s1.pending = s.pending := by simp [s1]
  split
  · rfl
  · split
    · simp
    · split
      · exact (foldl_pending _ (fun s r => by split <;> simp) _ _).trans e1
      · exact e1
@[simp] theorem State.force_pending (s : State) (src : Nat) : (State.force s src).pending = s.pending :=
  by unfold State.force; split <;> simp
@[simp] theorem State.fltPop_pending (s : State) : (State.fltPop s).pending = s.pending :=
  by unfold State.fltPop; split <;> simp
@[simp] theorem State.thmUpdate_pending (s : State) : (State.thmUpdate s).pending = s.pending :=
  by simp only [State.thmUpdate]; (repeat' split) <;> (try with_reducible apply foldl_pending) <;> (try intros) <;> (repeat' split) <;> simp_all
@[simp] theorem State.thmBad_pending (s : State) (cause : Nat) : (State.thmBad s cause).pending = s.pending :=
  by simp only [State.thmBad]; (repeat' split) <;> simp_all
@[simp] theorem State.thmGood_pending (s : State) (t : Int) : (State.thmGood s t).pending = s.pending :=
  by unfold State.thmGood; split <;> simp
@[simp] theorem State.sensorClear_pending (s : State) : (State.sensorClear s).pending = s.pending :=
  by unfold State.sensorClear; (repeat' split) <;> simp

/-! ### Power -/
@[simp] theorem State.enterReset_pending (s : State) (cause : Nat) : (State.enterReset s cause).pending = s.pending :=
  by simp only [State.enterReset]; (repeat' split) <;> simp_all
@[simp] theorem State.bootFailed_pending (s : State) : (State.bootFailed s).pending = s.pending :=
  rfl
@[simp] theorem State.resetEv_pending (s : State) (cause : Nat) : (State.resetEv s cause).pending = s.pending :=
  by unfold State.resetEv; (repeat' split) <;> simp
@[simp] theorem State.softReset_pending (s : State) (key : Nat) : (s.softReset key).pending = s.pending := by
  have h : ∀ (p q : Prop) [Decidable p] [Decidable q] (a b : State), a.pending = s.pending → b.pending = s.pending →
      (if p then s else if q then a else b).pending = s.pending := by
    intro p q _ _ a b ha hb; split
    · rfl
    · split <;> assumption
  exact h _ _ _ _ (State.resetEv_pending _ _) (State.flag_pending _ _)
@[simp] theorem State.enterBackup_pending (s : State) : (State.enterBackup s).pending = s.pending :=
  by simp [State.enterBackup]
@[simp] theorem State.wakeUp_pending (s : State) : (State.wakeUp s).pending = s.pending :=
  by unfold State.wakeUp; split <;> simp
@[simp] theorem State.setBackupOk_pending (s : State) (ok : Bool) (vback : Nat) : (State.setBackupOk s ok vback).pending = s.pending :=
  by simp only [State.setBackupOk]; (repeat' split) <;> (try with_reducible apply foldl_pending) <;> (try intros) <;> simp_all
@[simp] theorem State.hibernate_pending (s : State) (key : Nat) : (State.hibernate s key).pending = s.pending :=
  by unfold State.hibernate; (repeat' split) <;> simp
@[simp] theorem State.wakeEvent_pending (s : State) (b : Nat) : (State.wakeEvent s b).pending = s.pending :=
  by unfold State.wakeEvent; split <;> simp
@[simp] theorem State.rtcPut_pending (s : State) (sec : Nat) : (State.rtcPut s sec).pending = s.pending :=
  rfl
@[simp] theorem State.rtcLoad_pending (s : State) : (State.rtcLoad s).pending = s.pending :=
  rfl
@[simp] theorem State.aonApply_pending (s : State) (a w : Nat) : (State.aonApply s a w).pending = s.pending :=
  by unfold State.aonApply; (repeat' split) <;> (try apply foldl_pending) <;> (try intros) <;> (repeat' split) <;> simp
@[simp] theorem State.wakeStalled_pending (s : State) : (State.wakeStalled s).pending = s.pending := by
  unfold State.wakeStalled
  (try dsimp only); repeat' (first | with_reducible rfl | (simp; done) | split | refine foldl_to ?_ (fun _ _ => ?_) | simp)
@[simp] theorem State.pllLoss_pending (s : State) (k : Nat) : (State.pllLoss s k).pending = s.pending :=
  rfl

/-! ### Upd -/
@[simp] theorem State.tableChange_pending (s : State) (f : UpdSt → UpdSt) : (State.tableChange s f).pending = s.pending :=
  rfl
@[simp] theorem State.tableApply_pending (s : State) (c : TableReq) : (s.tableApply c).pending = s.pending := by cases c <;> rfl
@[simp] theorem State.tableAsk_pending (s : State) (c : TableReq) : (s.tableAsk c).pending = s.pending := by
  unfold State.tableAsk; split <;> simp
@[simp] theorem State.eraseDone_pending (s : State) : s.eraseDone.pending = s.pending := by
  unfold State.eraseDone; split <;> simp
@[simp] theorem State.bindCopy_pending (s : State) (b : Bool) (schema : Nat) (es : List (Nat × Nat)) : (State.bindCopy s b schema es).pending = s.pending := by
  unfold State.bindCopy
  simp
@[simp] theorem State.areaPut_pending (s : State) (b : Bool) (k v : Nat) : (State.areaPut s b k v).pending = s.pending :=
  by unfold State.areaPut; split <;> simp
@[simp] theorem State.setPut_pending (s : State) (k v : Nat) : (State.setPut s k v).pending = s.pending :=
  by simp only [State.setPut]; (repeat' split) <;> simp_all
@[simp] theorem State.slotErase_pending (s : State) (b : Bool) : (State.slotErase s b).pending = s.pending :=
  rfl
@[simp] theorem State.stageImage_pending (s : State) (len : Nat) (hostErr : Bool) (b : List Byte) : (State.stageImage s len hostErr b).1.pending = s.pending :=
  by simp only [State.stageImage]; (repeat' split) <;> simp_all
@[simp] theorem State.switchTo_pending (s : State) (b : Bool) : (s.switchTo b).pending = s.pending := by
  unfold State.switchTo
  extract_lets s1 s2
  have e1 : s1.pending = s.pending := foldl_pending _ (fun s r => by simp) _ _
  simp [s2, e1]
@[simp] theorem State.activate_pending (s : State) : (State.activate s).pending = s.pending :=
  by simp [State.activate]
@[simp] theorem State.releaseCopy_pending (s : State) (b : Bool) : (State.releaseCopy s b).pending = s.pending :=
  by unfold State.releaseCopy; split <;> simp
@[simp] theorem State.confirm_pending (s : State) : (State.confirm s).pending = s.pending :=
  by simp [State.confirm]
@[simp] theorem State.revert_pending (s : State) : (State.revert s).pending = s.pending :=
  by simp [State.revert]
@[simp] theorem State.tokenAct_pending (s : State) (action : Nat) : (State.tokenAct s action).pending = s.pending := by
  unfold State.tokenAct
  (try dsimp only); repeat' (first | with_reducible rfl | (simp; done) | split | refine foldl_to ?_ (fun _ _ => ?_) | simp)
theorem State.recWrite_pending {s t : State} {image : List Byte} {len : Nat} (h : s.recWrite image len = some t) : t.pending = s.pending := by
  unfold State.recWrite at h
  (repeat' split at h) <;> first | cases h; done | (cases h; simp)
@[simp] theorem State.recActivate_pending (s : State) (dst : Bool) : (State.recActivate s dst).pending = s.pending :=
  by simp only [State.recActivate]; (repeat' split) <;> simp_all
@[simp] theorem State.recAnswer_pending (s : State) (op : Nat) (f : RecFrame) (status : Nat) : (State.recAnswer s op f status).pending = s.pending := by
  unfold State.recAnswer
  simp
@[simp] theorem State.recFrame_pending (s : State) (op : Nat) (f : RecFrame) (k : State → State) (hk : ∀ x, (k x).pending = x.pending) : (State.recFrame s op f k).pending = s.pending := by
  unfold State.recFrame
  (try dsimp only); repeat' (first | with_reducible rfl | (simp[hk]; done) | split | refine foldl_to ?_ (fun _ _ => ?_) | simp[hk])
@[simp] theorem State.retireMove_pending (s : State) (src : Nat) : (State.retireMove s src).pending = s.pending :=
  by simp only [State.retireMove]; (repeat' split) <;> simp_all
@[simp] theorem State.retireUnit_pending (s : State) (src : Nat) : (State.retireUnit s src).pending = s.pending :=
  by unfold State.retireUnit; (repeat' split) <;> simp
@[simp] theorem State.wearRetire_pending (s : State) : (State.wearRetire s).pending = s.pending :=
  by simp only [State.wearRetire]; (repeat' split) <;> simp_all
@[simp] theorem State.wearRestore_pending (s : State) : (State.wearRestore s).pending = s.pending :=
  by simp only [State.wearRestore]; (repeat' split) <;> simp_all

/-! ### Boot -/
@[simp] theorem State.bootSheet_pending (s : State) (kind : Nat) (sh : Sheet) : (State.bootSheet s kind sh).pending = s.pending :=
  by unfold State.bootSheet; (repeat' split) <;> simp
@[simp] theorem State.rebuild_pending (s : State) : (s.rebuild).pending = s.pending := by
  unfold State.rebuild
  extract_lets rs from_ x top block kind jrn s1 s2 s3
  rw [State.idleUpdate_pending]
  exact (foldl_pending _ (fun s r => by simp) _ _).trans (State.stage_pending _ _)
@[simp] theorem State.takeSlot_pending (s : State) (c : Bool × Bool × Bool) : (State.takeSlot s c).pending = s.pending := by
  unfold State.takeSlot
  simp
@[simp] theorem State.bootClocks_pending (s : State) : (State.bootClocks s).pending = s.pending :=
  rfl
@[simp] theorem State.linkUp_pending (s : State) : (State.linkUp s).pending = s.pending :=
  rfl
@[simp] theorem State.toRecovery_pending (s : State) : (State.toRecovery s).pending = s.pending :=
  rfl
@[simp] theorem State.bootDram_pending (s : State) : (State.bootDram s).pending = s.pending := by
  unfold State.bootDram
  simp
@[simp] theorem State.bootPipes_pending (s : State) : (State.bootPipes s).pending = s.pending :=
  by simp only [State.bootPipes]; (try with_reducible apply foldl_pending) <;> (try intros) <;> (repeat' split) <;> simp_all
@[simp] theorem State.bootDone_pending (s : State) : (State.bootDone s).pending = s.pending := by
  simp [State.bootDone]

/-! ### Admission -/
theorem State.ledSets_pending (x : State) (led : Ledger) (l : List (Fld × Nat)) : ({ x with led := led }.fsets l).pending = x.pending :=
  State.fsets_pending _ _
@[simp] theorem State.admitSheet_pending (s : State) (sh : Sheet) : (State.admitSheet s sh).pending = s.pending := by
  unfold State.admitSheet
  extract_lets c um s1 led s2
  have h : s2.pending = s.pending := (State.ledSets_pending s1 _ _).trans (State.modSheet_pending _ _ _)
  clear_value s2
  split
  · split
    · extract_lets r
      clear_value r
      rw [State.stage_pending, State.modSheet_pending, h]
    · exact h
  · rw [State.idleUpdate_pending, State.enter_pending, h]
@[simp] theorem State.limiter_pending (s : State) (code src : Nat) : (State.limiter s code src).pending = s.pending := by
  unfold State.limiter
  simp
@[simp] theorem State.decide__pending (k : Nat) (s : State) : (s.decide_ k).pending = s.pending := by
  induction k generalizing s with
  | zero => rfl
  | succ k ih => unfold State.decide_; (repeat' split) <;> simp [ih]
@[simp] theorem State.revertLost_pending (s : State) : (State.revertLost s).pending = s.pending :=
  by unfold State.revertLost; split <;> simp
@[simp] theorem State.admission_pending (s : State) : (State.admission s).pending = s.pending :=
  by simp only [State.admission]; (repeat' split) <;> simp_all
@[simp] theorem State.rateReport_pending (s : State) : (State.rateReport s).pending = s.pending := by
  unfold State.rateReport
  (try dsimp only); repeat' (first | with_reducible rfl | (simp; done) | split | refine foldl_to ?_ (fun _ _ => ?_) | simp)

/-! ### Rec -/
@[simp] theorem State.showFrozen_pending (s : State) (r : Recording) : (State.showFrozen s r).pending = s.pending :=
  rfl
@[simp] theorem State.rearm_pending (s : State) : (State.rearm s).pending = s.pending :=
  by unfold State.rearm; split <;> simp
@[simp] theorem State.norExport_pending (s : State) : (State.norExport s).pending = s.pending :=
  by unfold State.norExport; split <;> simp
@[simp] theorem State.placeRecs_pending (s : State) (o : Nat) (l : List Rec) : (s.placeRecs o l).pending = s.pending := by
  induction l generalizing s o with
  | nil => rfl
  | cons r t ih => unfold State.placeRecs; simp [ih]
@[simp] theorem State.loadNor_pending (s : State) : (State.loadNor s).pending = s.pending := by
  unfold State.loadNor
  (try dsimp only); repeat' (first | with_reducible rfl | (simp; done) | split | refine foldl_to ?_ (fun _ _ => ?_) | simp)
@[simp] theorem State.loadRing_pending (s : State) (ok : Bool) : (State.loadRing s ok).pending = s.pending := by
  unfold State.loadRing
  simp
@[simp] theorem State.pruneSnaps_pending (s : State) : (State.pruneSnaps s).pending = s.pending :=
  rfl
@[simp] theorem State.loadSnap_pending (s : State) (x : Snap) : (State.loadSnap s x).pending = s.pending := by
  unfold State.loadSnap
  simp
@[simp] theorem State.replay_pending (s : State) : (State.replay s).pending = s.pending := by
  unfold State.replay
  (try dsimp only); repeat' (first | with_reducible rfl | (simp; done) | split | refine foldl_to ?_ (fun _ _ => ?_) | simp)
@[simp] theorem State.replayWait_pending (s : State) (i : Nat) (data : List Int) : (State.replayWait s i data).pending = s.pending :=
  by unfold State.replayWait; (repeat' split) <;> simp
@[simp] theorem State.replayInitial_pending (s : State) (mask : Nat) (l : List Nat) : (State.replayInitial s mask l).pending = s.pending := by
  unfold State.replayInitial
  simp
@[simp] theorem State.replayPlace_pending (s : State) (data : List Int) : (State.replayPlace s data).pending = s.pending := by
  unfold State.replayPlace
  (try dsimp only); repeat' (first | with_reducible rfl | (simp; done) | split | refine foldl_to ?_ (fun _ _ => ?_) | simp)
@[simp] theorem State.replayStep_pending (s : State) (by_ : Int) : (State.replayStep s by_).pending = s.pending :=
  by unfold State.replayStep; split <;> simp
@[simp] theorem State.applyAct_pending (s : State) (r : Rec) : (State.applyAct s r).pending = s.pending :=
  by unfold State.applyAct; split <;> simp
@[simp] theorem State.replayActs_pending (k : Nat) (s : State) : (s.replayActs k).pending = s.pending := by
  induction k generalizing s with
  | zero => rfl
  | succ k ih => unfold State.replayActs; (repeat' split) <;> simp [ih]
@[simp] theorem State.replayTick_pending (s : State) : (State.replayTick s).pending = s.pending :=
  by unfold State.replayTick; (repeat' split) <;> simp
@[simp] theorem State.replayStop_pending (s : State) : (State.replayStop s).pending = s.pending :=
  by unfold State.replayStop; split <;> simp

/-! ### HostCmd -/
@[simp] theorem State.cmdDone_pending (s : State) (h : CmdHead) (op status detail : Nat) (results : List Nat) : (State.cmdDone s h op status detail results).pending = s.pending :=
  by simp [State.cmdDone]
@[simp] theorem State.recCmd_pending (s : State) : (State.recCmd s).pending = s.pending := by
  unfold State.recCmd
  simp
@[simp] theorem runCmd_pending (is_ : Bool) (stages : Bool) (k : State → State) (s : State) (hk : ∀ x, (k x).pending = x.pending) : (runCmd is_ stages k s).pending = s.pending := by
  unfold runCmd
  simp[hk]
@[simp] theorem State.runStart_pending (s : State) (h : CmdHead) (seq : Nat) : (State.runStart s h seq).pending = s.pending := by
  unfold State.runStart
  simp
@[simp] theorem State.runEnd_pending (s : State) (h : CmdHead) : (State.runEnd s h).pending = s.pending := by
  unfold State.runEnd
  simp
@[simp] theorem State.accept_pending (s : State) (h : CmdHead) (seq : Nat) (x : SheetSlot) : (State.accept s h seq x).pending = s.pending := by
  unfold State.accept
  simp
@[simp] theorem State.submit_pending (s : State) (h : CmdHead) (seq : Nat) (slot : SheetSlot) : (State.submit s h seq slot).pending = s.pending := by
  unfold State.submit
  (try dsimp only); repeat' (first | with_reducible rfl | (simp; done) | split | refine foldl_to ?_ (fun _ _ => ?_) | simp)
@[simp] theorem State.dropTransfer_pending (s : State) (seq : Nat) : (State.dropTransfer s seq).pending = s.pending :=
  by simp [State.dropTransfer]
@[simp] theorem State.reload_pending (s : State) (h : CmdHead) (seq : Nat) (slot : SheetSlot) : (State.reload s h seq slot).pending = s.pending := by
  unfold State.reload
  (try dsimp only); repeat' (first | with_reducible rfl | (simp; done) | split | refine foldl_to ?_ (fun _ _ => ?_) | simp)
@[simp] theorem State.withdraw_pending (s : State) (seq : Nat) : (State.withdraw s seq).pending = s.pending :=
  by unfold State.withdraw; (repeat' split) <;> simp
@[simp] theorem State.takeAck_pending (s : State) (n : Nat) : (State.takeAck s n).pending = s.pending := by
  unfold State.takeAck
  simp
@[simp] theorem State.engineCall_pending (s : State) (h : CmdHead) (task : Nat) (w : List Word) : (State.engineCall s h task w).pending = s.pending := by
  unfold State.engineCall
  (try dsimp only); repeat' (first | with_reducible rfl | (simp; done) | split | refine foldl_to ?_ (fun _ _ => ?_) | simp)
@[simp] theorem updCmd_pending (op : Nat) (h : CmdHead) (refused : State → Option Nat) (k : State → CmdResult) (s : State)
    (hk : ∀ x, (k x).1.pending = x.pending) : (updCmd op h refused k s).pending = s.pending := by
  unfold updCmd
  dsimp only
  (repeat' split) <;> simp [hk]
@[simp] theorem State.recStage_pending (s : State) (h : CmdHead) (len token : Nat) (hostErr : Bool) (image : List Byte) :
    (s.recStage h len token hostErr image).pending = s.pending := by
  unfold State.recStage
  extract_lets _upd s1
  have e1 : s1.pending = s.pending := rfl
  (repeat' split) <;> first
    | (simp [e1]; done)
    | (rename_i ht; rw [State.cmdDone_pending, State.recWrite_pending ht])
@[simp] theorem updRun_pending (op : Nat) (h : CmdHead) (refused : State → Option Nat) (k : State → CmdResult) (s : State)
    (hk : ∀ x, (k x).1.pending = x.pending) : (updRun op h refused k s).pending = s.pending := by
  unfold updRun; (repeat' split) <;> simp [hk]
@[simp] theorem State.exportRec_pending (s : State) (h : CmdHead) (addr len off : Nat) (hostErr : Bool) : (State.exportRec s h addr len off hostErr).pending = s.pending := by
  unfold State.exportRec
  (try dsimp only); repeat' (first | with_reducible rfl | (simp; done) | split | refine foldl_to ?_ (fun _ _ => ?_) | simp)
@[simp] theorem State.cmdTail_pending (s : State) (tail : Nat) : (State.cmdTail s tail).pending = s.pending :=
  by simp only [State.cmdTail]; (repeat' split) <;> simp_all
@[simp] theorem State.evtHead_pending (s : State) (head : Nat) : (State.evtHead s head).pending = s.pending := by
  unfold State.evtHead
  simp
@[simp] theorem State.hifEnable_pending (s : State) (en : Bool) : (State.hifEnable s en).pending = s.pending := by
  unfold State.hifEnable
  simp
@[simp] theorem State.repeatPlanes_pending (s : State) : (State.repeatPlanes s).pending = s.pending :=
  by unfold State.repeatPlanes; (try with_reducible apply foldl_pending) <;> (try intros) <;> (repeat' split) <;> simp
@[simp] theorem State.seriesEnd_pending (s : State) : (State.seriesEnd s).pending = s.pending :=
  by simp only [State.seriesEnd]; (repeat' split) <;> simp_all
@[simp] theorem State.mirrorRewrite_pending (s : State) : (State.mirrorRewrite s).pending = s.pending := by
  unfold State.mirrorRewrite
  simp
@[simp] theorem State.restartTransfers_pending (s : State) : (State.restartTransfers s).pending = s.pending :=
  rfl
@[simp] theorem State.hostReset_pending (s : State) : (State.hostReset s).pending = s.pending := by
  unfold State.hostReset
  simp
@[simp] theorem State.linkLost_pending (s : State) : (State.linkLost s).pending = s.pending :=
  rfl

/-! ### Handoff -/
@[simp] theorem State.modMsg_pending (s : State) (rcv hnum : Nat) (f : HoMsg → HoMsg) : (State.modMsg s rcv hnum f).pending = s.pending :=
  rfl
@[simp] theorem State.hoTransmit_pending (s : State) (m : HoMsg) : (State.hoTransmit s m).pending = s.pending :=
  rfl
@[simp] theorem State.hoNext_pending (s : State) (rcv : Nat) : (State.hoNext s rcv).pending = s.pending :=
  by unfold State.hoNext; (repeat' split) <;> simp
@[simp] theorem State.hoSend_pending (s : State) (rcv : Nat) : (State.hoSend s rcv).pending = s.pending :=
  by unfold State.hoSend; split <;> simp
@[simp] theorem State.hoAccept_pending (s : State) (port : Nat) (f : HoFrame) : (State.hoAccept s port f).pending = s.pending := by
  unfold State.hoAccept
  simp
@[simp] theorem State.hoReceive_pending (s : State) (port : Nat) (f : HoFrame) : (State.hoReceive s port f).pending = s.pending := by
  unfold State.hoReceive
  (try dsimp only); repeat' (first | with_reducible rfl | (simp; done) | split | refine foldl_to ?_ (fun _ _ => ?_) | simp)
@[simp] theorem State.hoDone_pending (s : State) (m : HoMsg) : (State.hoDone s m).pending = s.pending :=
  by simp [State.hoDone]
@[simp] theorem State.hoAgain_pending (s : State) (m : HoMsg) : (State.hoAgain s m).pending = s.pending :=
  by unfold State.hoAgain; split <;> simp
@[simp] theorem State.hoAcked_pending (s : State) (f : HoFrame) : (State.hoAcked s f).pending = s.pending := by
  unfold State.hoAcked
  (try dsimp only); repeat' (first | with_reducible rfl | (simp; done) | split | refine foldl_to ?_ (fun _ _ => ?_) | simp)
@[simp] theorem State.hoRxPop_pending (s : State) : (State.hoRxPop s).pending = s.pending :=
  rfl

/-! ### MemEvents -/
@[simp] theorem State.remapCmd_pending (s : State) : (State.remapCmd s).pending = s.pending :=
  by unfold State.remapCmd; split <;> simp
@[simp] theorem State.remapRemove_pending (s : State) : (State.remapRemove s).pending = s.pending :=
  by unfold State.remapRemove; split <;> simp
@[simp] theorem State.rowError_pending (s : State) (a : Nat) : (State.rowError s a).pending = s.pending := by
  unfold State.rowError
  simp
@[simp] theorem State.unitFound_pending (s : State) (a kind : Nat) (walk : Option Nat) : (State.unitFound s a kind walk).pending = s.pending := by
  unfold State.unitFound
  (try dsimp only); repeat' (first | with_reducible rfl | (simp; done) | split | refine foldl_to ?_ (fun _ _ => ?_) | simp)
@[simp] theorem State.sramDouble_pending (s : State) (a : Nat) : (State.sramDouble s a).pending = s.pending := by
  unfold State.sramDouble
  simp
@[simp] theorem State.sramFixed_pending (s : State) (c a : Nat) : (State.sramFixed s c a).pending = s.pending := by
  unfold State.sramFixed
  simp
@[simp] theorem State.sramRead_pending (s : State) (a len : Nat) : (State.sramRead s a len).1.pending = s.pending := by
  unfold State.sramRead
  (try dsimp only); repeat' (first | with_reducible rfl | (simp; done) | split | refine foldl_to ?_ (fun _ _ => ?_) | simp)
@[simp] theorem State.memCheck_pending (s : State) (a len : Nat) : (State.memCheck s a len).1.pending = s.pending := by
  unfold State.memCheck
  (try dsimp only); repeat' (first | with_reducible rfl | (simp; done) | split | refine foldl_to ?_ (fun _ _ => ?_) | simp)
@[simp] theorem State.sramFound_pending (s : State) (c a err word : Nat) : (State.sramFound s c a err word).pending = s.pending := by
  unfold State.sramFound
  simp
@[simp] theorem State.rangeGo_pending (s : State) : (State.rangeGo s).pending = s.pending :=
  by simp only [State.rangeGo]; (repeat' split) <;> simp_all
@[simp] theorem State.rangeFound_pending (s : State) (a kind err : Nat) : (State.rangeFound s a kind err).pending = s.pending := by
  unfold State.rangeFound
  (try dsimp only); repeat' (first | with_reducible rfl | (simp; done) | split | refine foldl_to ?_ (fun _ _ => ?_) | simp)
@[simp] theorem State.rsvWrite_pending (s : State) (p v : Nat) : (State.rsvWrite s p v).pending = s.pending := by
  unfold State.rsvWrite
  simp
@[simp] theorem State.lineRefetch_pending (s : State) (n : Nat) (uncorr : Bool) : (s.lineRefetch n uncorr).pending = s.pending := by
  unfold State.lineRefetch
  split
  · split
    · extract_lets a
      rw [State.dataLost_pending, State.eccErr_pending, State.draw_pending]
    · exact State.bucketAdd_pending _ _
  · rfl

/-! ### Dma -/
@[simp] theorem State.devPut_pending (s : State) (a : Nat) (b : List Byte) : (State.devPut s a b).pending = s.pending := by
  unfold State.devPut
  simp
@[simp] theorem State.startPlanes_pending (s : State) : (State.startPlanes s).pending = s.pending := by
  unfold State.startPlanes
  (try dsimp only); repeat' (first | with_reducible rfl | (simp; done) | split | refine foldl_to ?_ (fun _ _ => ?_) | simp)
@[simp] theorem State.allocate_pending (s : State) : (State.allocate s).pending = s.pending :=
  by simp only [State.allocate]; (repeat' split) <;> (try with_reducible apply foldl_pending) <;> (try intros) <;> simp_all
@[simp] theorem State.planeFail_pending (s : State) (seq i kind crc : Nat) : (State.planeFail s seq i kind crc).pending = s.pending :=
  by unfold State.planeFail; split <;> simp
@[simp] theorem State.planesDone_pending (s : State) (seq : Nat) : (State.planesDone s seq).pending = s.pending :=
  by unfold State.planesDone; (repeat' split) <;> simp
@[simp] theorem State.planeWrite_pending (s : State) (p : Plane) (o : Nat) (b : List Byte) : (State.planeWrite s p o b).pending = s.pending :=
  by simp [State.planeWrite]
@[simp] theorem State.planeChunk_pending (s : State) (n seq i : Nat) (hostBytes : List Byte) : (State.planeChunk s n seq i hostBytes).pending = s.pending :=
  by simp only [State.planeChunk]; (repeat' split) <;> simp_all
@[simp] theorem State.ringPut_pending (s : State) (n a : Nat) (b : List Byte) : (State.ringPut s n a b).pending = s.pending := by
  unfold State.ringPut
  (try dsimp only); repeat' (first | with_reducible rfl | (simp; done) | split | refine foldl_to ?_ (fun _ _ => ?_) | simp)
@[simp] theorem State.dmaStart_pending (s : State) (n : Nat) : (State.dmaStart s n).pending = s.pending := by
  unfold State.dmaStart
  simp
@[simp] theorem State.dmaAdvance_pending (s : State) (n : Nat) : (State.dmaAdvance s n).pending = s.pending := by
  unfold State.dmaAdvance
  simp
@[simp] theorem State.doorbell_pending (s : State) (n tail : Nat) : (State.doorbell s n tail).pending = s.pending := by
  unfold State.doorbell
  simp
@[simp] theorem State.dmaResume_pending (s : State) (n : Nat) : (State.dmaResume s n).pending = s.pending := by
  unfold State.dmaResume
  simp
@[simp] theorem State.dmaSkip_pending (s : State) (n : Nat) : (State.dmaSkip s n).pending = s.pending := by
  unfold State.dmaSkip
  simp
@[simp] theorem State.dmaOwn_pending (s : State) (n : Nat) (t : State) (h : t.pending = s.pending) : (s.dmaOwn n t).pending = s.pending := by
  unfold State.dmaOwn; split <;> simp [h]

/-! ### BusRead -/
@[simp] theorem State.captureAt_pending (s : State) (b k : Nat) : (State.captureAt s b k).pending = s.pending :=
  rfl
@[simp] theorem State.readEffect_pending (s : State) (a : Nat) : (State.readEffect s a).pending = s.pending :=
  by unfold State.readEffect; (repeat' split) <;> simp
@[simp] theorem State.regRead_pending (s : State) (a : Nat) : (State.regRead s a).2.pending = s.pending :=
  by simp [State.regRead]
@[simp] theorem State.unmapped_pending (s : State) (a : Nat) : (State.unmapped s a).pending = s.pending :=
  rfl
@[simp] theorem State.busRead_pending (s : State) (a : Nat) : (State.busRead s a).2.pending = s.pending :=
  by unfold State.busRead; split <;> simp

/-! ### Bus -/
@[simp] theorem State.setNow_pending (s : State) (f : Fld) (v : Nat) : (State.setNow s f v).pending = s.pending := by
  unfold State.setNow
  simp
@[simp] theorem State.fieldWrite_pending (s pre : State) (f : Fld) (w : Nat) : (State.fieldWrite s pre f w).pending = s.pending := by
  unfold State.fieldWrite
  (try dsimp only); repeat' (first | with_reducible rfl | (simp; done) | split | refine foldl_to ?_ (fun _ _ => ?_) | simp)
@[simp] theorem State.plain_pending (s : State) (a w : Nat) (except_ : List Fld) : (State.plain s a w except_).pending = s.pending := by
  unfold State.plain
  (try dsimp only); repeat' (first | with_reducible rfl | (simp; done) | split | refine foldl_to ?_ (fun _ _ => ?_) | simp)
@[simp] theorem State.tbB_pending (s : State) (a w : Nat) : (State.tbB s a w).pending = s.pending := by
  unfold State.tbB
  (try dsimp only); repeat' (first | with_reducible rfl | (simp; done) | split | refine foldl_to ?_ (fun _ _ => ?_) | simp)
@[simp] theorem State.iff__pending (s : State) (c : Bool) (k : State → State) (h : ∀ x, (k x).pending = x.pending) :
    (s.iff_ c k).pending = s.pending := by
  unfold State.iff_; split <;> simp [h]
theorem iff_to {x : List Instr} {s : State} {c : Bool} {k : State → State} (h : s.pending = x)
    (hk : ∀ t : State, (k t).pending = t.pending) : (s.iff_ c k).pending = x := (State.iff__pending s c k hk).trans h
@[simp] theorem State.writeSYS_pending (s : State) (a w : Nat) : (State.writeSYS s a w).pending = s.pending :=
  by simp only [State.writeSYS]; (repeat' split) <;> (try with_reducible apply foldl_pending) <;> (try intros) <;> (repeat' split) <;> simp_all
theorem writeSrc_pending (s : State) (a w src : Nat) :
    ((((s.plain a w [FLT_SRCs_STATUS src]).iff_ ((FLT_SRCs_COUNT_CLR src).on w) (fun s => s.fset (FLT_SRCs_COUNT src) 0)).iff_
      ((FLT_SRCs_STATUS src).on w) (fun s => s.srcClear src)).iff_ ((FLT_SRCs_FORCE src).on w) (fun s => s.force src)).pending = s.pending := by
  refine iff_to (iff_to (iff_to ?_ ?_) ?_) ?_ <;> simp
@[simp] theorem State.writeFLT_pending (s : State) (off a w : Nat) : (State.writeFLT s off a w).pending = s.pending :=
  ite_pending (by simp) (ite_pending (writeSrc_pending s a w _) (ite_pending (iff_to (by simp) (by simp)) (by simp)))
@[simp] theorem State.writeTIME_pending (s : State) (a w : Nat) : (State.writeTIME s a w).pending = s.pending := by
  unfold State.writeTIME
  try extract_lets
  repeat' first | with_reducible apply ite_pending | with_reducible apply iff_to
  all_goals first | (intro t; simp; done) | (simp; done) | (split <;> simp)
@[simp] theorem State.writePCIE_pending (s : State) (a w : Nat) : (State.writePCIE s a w).pending = s.pending :=
  by simp only [State.writePCIE]; (repeat' split) <;> (try with_reducible apply foldl_pending) <;> (try intros) <;> (repeat' split) <;> simp_all
@[simp] theorem State.writeDMA_pending (s : State) (a w : Nat) : (State.writeDMA s a w).pending = s.pending := by
  unfold State.writeDMA
  simp
@[simp] theorem State.writeMem_pending (s : State) (a w : Nat) : (State.writeMem s a w).pending = s.pending :=
  by simp only [State.writeMem]; (repeat' split) <;> (try with_reducible apply foldl_pending) <;> (try intros) <;> (repeat' split) <;> simp_all
@[simp] theorem State.writeLEDG_pending (s : State) (a w : Nat) : (State.writeLEDG s a w).pending = s.pending :=
  by simp only [State.writeLEDG]; (repeat' split) <;> (try with_reducible apply foldl_pending) <;> (try intros) <;> (repeat' split) <;> simp_all
@[simp] theorem State.writePLC_pending (s : State) (a w : Nat) : (State.writePLC s a w).pending = s.pending :=
  by unfold State.writePLC; (repeat' split) <;> simp
@[simp] theorem State.writeREC_pending (s : State) (a w : Nat) : (State.writeREC s a w).pending = s.pending :=
  by simp only [State.writeREC]; (repeat' split) <;> (try with_reducible apply foldl_pending) <;> (try intros) <;> (repeat' split) <;> simp_all
@[simp] theorem State.writeUPD_pending (s : State) (a w : Nat) : (State.writeUPD s a w).pending = s.pending :=
  by simp only [State.writeUPD]; (repeat' split) <;> (try with_reducible apply foldl_pending) <;> (try intros) <;> (repeat' split) <;> simp_all
@[simp] theorem State.writeRAIL_pending (s : State) (a w : Nat) : (State.writeRAIL s a w).pending = s.pending :=
  by unfold State.writeRAIL; split <;> simp
@[simp] theorem State.stnSwitch_pending (s : State) (n : Nat) (en : Bool) : (State.stnSwitch s n en).pending = s.pending :=
  by unfold State.stnSwitch; (repeat' split) <;> simp
@[simp] theorem State.writeSTN_pending (s : State) (n off a w : Nat) : (State.writeSTN s n off a w).pending = s.pending := by
  unfold State.writeSTN
  extract_lets k s1
  have e1 : s1.pending = s.pending := by simp [s1]
  repeat' first | with_reducible apply ite_pending | with_reducible apply iff_to
  all_goals first | exact e1 | (intro t; simp; done) | (simp [e1]; done) | (split <;> simp)
@[simp] theorem State.writePPOS_pending (s : State) (a w : Nat) : (State.writePPOS s a w).pending = s.pending := by
  unfold State.writePPOS
  simp
@[simp] theorem State.writeDRV_pending (s : State) (n a w : Nat) : (State.writeDRV s n a w).pending = s.pending := by
  unfold State.writeDRV
  simp
@[simp] theorem State.writeAXS_pending (s : State) (n a w : Nat) : (State.writeAXS s n a w).pending = s.pending := by
  unfold State.writeAXS
  try extract_lets
  repeat' first | with_reducible apply ite_pending | with_reducible apply iff_to
  all_goals first | (intro t; simp; done) | (simp; done) | (split <;> simp)
@[simp] theorem State.writeOut_pending (s : State) (a w : Nat) : (State.writeOut s a w).pending = s.pending := by
  unfold State.writeOut
  try extract_lets
  repeat' first | with_reducible apply ite_pending | with_reducible apply iff_to | (rw [State.loopHeld_pending])
  all_goals first | (intro t; simp; done) | (simp; done) | (split <;> simp)
@[simp] theorem State.regAct_pending (s : State) (a w : Nat) : (State.regAct s a w).pending = s.pending := by
  unfold State.regAct
  (try dsimp only); repeat' (first | with_reducible rfl | (simp; done) | split | refine foldl_to ?_ (fun _ _ => ?_) | simp)
@[simp] theorem State.tbWrite_pending (s : State) (a w : Nat) : (State.tbWrite s a w).pending = s.pending := by
  unfold State.tbWrite
  simp
@[simp] theorem State.tbCross_pending (s : State) : (State.tbCross s).pending = s.pending := by
  unfold State.tbCross
  (try dsimp only); repeat' (first | with_reducible rfl | (simp; done) | split | refine foldl_to ?_ (fun _ _ => ?_) | simp)
@[simp] theorem State.aonWrite_pending (s : State) (a w : Nat) (task : Option Nat) : (State.aonWrite s a w task).pending = s.pending := by
  unfold State.aonWrite
  (try dsimp only); repeat' (first | with_reducible rfl | (simp; done) | split | refine foldl_to ?_ (fun _ _ => ?_) | simp)
@[simp] theorem State.regWriteBy_pending (s : State) (task : Option Nat) (a w : Nat) : (State.regWriteBy s task a w).pending = s.pending := by
  unfold State.regWriteBy
  simp
@[simp] theorem State.regWrite_pending (s : State) (a w : Nat) : (State.regWrite s a w).pending = s.pending := by
  unfold State.regWrite
  simp
@[simp] theorem State.busWrite_pending (s : State) (i a w : Nat) : (State.busWrite s i a w).pending = s.pending := by
  unfold State.busWrite
  simp
@[simp] theorem State.writeHIF_pending (s : State) (off w : Nat) : (State.writeHIF s off w).pending = s.pending :=
  by unfold State.writeHIF; (repeat' split) <;> simp
@[simp] theorem State.hostWord_pending (s : State) (off w : Nat) : (State.hostWord s off w).pending = s.pending := by
  unfold State.hostWord
  simp
@[simp] theorem State.devWrite_pending (s : State) (a size w : Nat) : (State.devWrite s a size w).pending = s.pending := by
  unfold State.devWrite
  simp
@[simp] theorem State.bar0Write_pending (s : State) (off size w : Nat) : (State.bar0Write s off size w).pending = s.pending := by
  unfold State.bar0Write
  simp
@[simp] theorem State.bar2Write_pending (s : State) (off size w : Nat) : (State.bar2Write s off size w).pending = s.pending := by
  unfold State.bar2Write
  simp
@[simp] theorem State.write_pending (s : State) (a size w : Nat) : (State.write s a size w).pending = s.pending := by
  unfold State.write
  simp

/-! ### DmaMove -/
@[simp] theorem State.drawBytes_pending (s : State) (k : Nat) : (State.drawBytes s k).2.pending = s.pending :=
  rfl
@[simp] theorem State.srcCheck_pending (s : State) (task : Nat) (d : Desc) (len : Nat) : (State.srcCheck s task d len).1.pending = s.pending := by
  unfold State.srcCheck
  (try dsimp only); repeat' (first | with_reducible rfl | (simp; done) | split | refine foldl_to ?_ (fun _ _ => ?_) | simp)
@[simp] theorem State.readWords_pending (k : Nat) (s : State) (a : Nat) : (s.readWords a k).2.pending = s.pending := by
  induction k generalizing s a with
  | zero => rfl
  | succ k ih => unfold State.readWords; simp [ih]
@[simp] theorem State.writeWords_pending (k : Nat) (s : State) (a : Nat) (b : List Byte) : (s.writeWords a b k).pending = s.pending := by
  induction k generalizing s a b with
  | zero => rfl
  | succ k ih => unfold State.writeWords; simp [ih]
@[simp] theorem State.srcBytes_pending (s : State) (task : Nat) (d : Desc) (len : Nat) (hostBytes : List Byte) : (State.srcBytes s task d len hostBytes).2.pending = s.pending := by
  unfold State.srcBytes
  (try dsimp only); repeat' (first | with_reducible rfl | (simp; done) | split | refine foldl_to ?_ (fun _ _ => ?_) | simp)
@[simp] theorem State.dstPut_pending (s : State) (task : Nat) (d : Desc) (b : List Byte) : (State.dstPut s task d b).pending = s.pending := by
  unfold State.dstPut
  (try dsimp only); repeat' (first | with_reducible rfl | (simp; done) | split | refine foldl_to ?_ (fun _ _ => ?_) | simp)
@[simp] theorem State.putResult_pending (s : State) (n : Nat) (d : Desc) (b : List Byte) : (State.putResult s n d b).pending = s.pending :=
  by unfold State.putResult; split <;> simp
@[simp] theorem State.dmaEvent_pending (s : State) (e : Nat) : (State.dmaEvent s e).pending = s.pending :=
  by simp [State.dmaEvent]
@[simp] theorem State.descComplete_pending (s : State) (n : Nat) (hostBytes : List Byte) : (State.descComplete s n hostBytes).pending = s.pending := by
  unfold State.descComplete
  simp
@[simp] theorem State.halted_pending (s : State) (n err : Nat) : (State.halted s n err).pending = s.pending := by
  unfold State.halted
  simp
@[simp] theorem State.haltMove_pending (s : State) (task : Nat) (d : Desc) (err done : Nat) : (State.haltMove s task d err done).pending = s.pending :=
  by unfold State.haltMove; split <;> simp
@[simp] theorem State.descHalt_pending (s : State) (n err done : Nat) : (State.descHalt s n err done).pending = s.pending := by
  unfold State.descHalt
  (try dsimp only); repeat' (first | with_reducible rfl | (simp; done) | split | refine foldl_to ?_ (fun _ _ => ?_) | simp)

/-! ### Access -/
@[simp] theorem State.accessCycles_pending (s : State) (loc own : Nat) : (State.accessCycles s loc own).2.pending = s.pending :=
  by unfold State.accessCycles; split <;> simp
@[simp] theorem State.dramWait_pending (s : State) (i : Nat) (t : Task) (a : Arch) (cycles : Nat) : (State.dramWait s i t a cycles).pending = s.pending := by
  unfold State.dramWait
  simp
@[simp] theorem State.accessEnd_pending (s : State) (i : Nat) (t : Task) (a : Arch) (loc cycles : Nat) : (State.accessEnd s i t a loc cycles).pending = s.pending := by
  unfold State.accessEnd
  simp
@[simp] theorem State.accessTick_pending (s : State) : (State.accessTick s).pending = s.pending := by
  unfold State.accessTick
  (try dsimp only); repeat' (first | with_reducible rfl | (simp; done) | split | refine foldl_to ?_ (fun _ _ => ?_) | simp)
@[simp] theorem State.load_pending (s : State) (i : Nat) (t : Task) (d a : BitVec 5) (imm : BitVec 16) (n : Nat) (ext : Nat → Int) : (State.load s i t d a imm n ext).pending = s.pending := by
  unfold State.load
  (try dsimp only); repeat' (first | with_reducible rfl | (simp; done) | split | refine foldl_to ?_ (fun _ _ => ?_) | simp)
@[simp] theorem State.store_pending (s : State) (i : Nat) (t : Task) (d a : BitVec 5) (imm : BitVec 16) (n : Nat) : (State.store s i t d a imm n).pending = s.pending := by
  unfold State.store
  (try dsimp only); repeat' (first | with_reducible rfl | (simp; done) | split | refine foldl_to ?_ (fun _ _ => ?_) | simp)
@[simp] theorem State.ioRead_pending (s : State) (i ad : Nat) : (State.ioRead s i ad).2.pending = s.pending :=
  by unfold State.ioRead; split <;> simp

/-! ### Idle -/
@[simp] theorem State.bothFail_pending (s : State) (w : Nat) : (State.bothFail s w).pending = s.pending := by
  unfold State.bothFail
  (try dsimp only); repeat' (first | with_reducible rfl | (simp; done) | split | refine foldl_to ?_ (fun _ _ => ?_) | simp)
@[simp] theorem State.upset_pending (s : State) (u : Upset) : (s.upset u).pending = s.pending := by
  cases u <;> simp only [State.upset] <;> (repeat' split) <;> simp
@[simp] theorem State.followTick_pending (s : State) : (State.followTick s).pending = s.pending := by
  unfold State.followTick
  (try dsimp only); repeat' (first | with_reducible rfl | (simp; done) | split | refine foldl_to ?_ (fun _ _ => ?_) | simp)
@[simp] theorem State.upsets_pending (l : List Upset) (s : State) : (l.foldl State.upset s).pending = s.pending :=
  foldl_pending _ (fun s u => State.upset_pending s u) l s
@[simp] theorem State.runTick_pending (s : State) : s.runTick.pending = s.pending := by
  unfold State.runTick
  extract_lets s1
  have e1 : s1.pending = s.pending := by
    simp only [s1]; rw [State.upsets_pending, State.movesTick_pending, State.accessTick_pending, State.tbCross_pending]
  simp only [State.fusTick_pending, State.gpioTick_pending, State.followTick_pending, State.gatesTick_pending, State.coastDefects_pending,
    State.barLow_pending, State.overJudge_pending, State.revertLost_pending, State.rateReport_pending, e1]
@[simp] theorem State.idleTick_pending (s : State) : (State.idleTick s).pending = s.pending := by
  unfold State.idleTick
  simp

/-! ### Dcall -/
@[simp] theorem State.dcall_pending (s : State) (i : Nat) (t : Task) (svc : Nat) : (State.dcall s i t svc).pending = s.pending :=
  by unfold State.dcall; split <;> simp
@[simp] theorem State.svcLog_pending (s : State) (i : Nat) (w : List Word) : (State.svcLog s i w).2.pending = s.pending :=
  rfl
@[simp] theorem State.svcSetGet_pending (s : State) (key : Nat) : (State.svcSetGet s key).2.pending = s.pending :=
  rfl
@[simp] theorem State.svcSetPut_pending (s : State) (key v : Nat) : (State.svcSetPut s key v).2.pending = s.pending :=
  by unfold State.svcSetPut; split <;> simp
@[simp] theorem State.svcHeadRead_pending (s : State) (t : Task) (stn off buf len : Nat) (err : Bool) (data : List Byte) : (State.svcHeadRead s t stn off buf len err data).2.pending = s.pending :=
  rfl
@[simp] theorem State.svcHostEvent_pending (s : State) (i : Nat) (w : List Word) : (State.svcHostEvent s i w).2.pending = s.pending :=
  by unfold State.svcHostEvent; split <;> simp
@[simp] theorem State.service_pending (s : State) (i : Nat) (t : Task) (svc : Nat) (err : Bool) (data : List Byte) : (State.service s i t svc err data).2.pending = s.pending :=
  by unfold State.service; split <;> simp
@[simp] theorem State.reply_pending (s : State) (i : Nat) (t : Task) (r : Reply) : (State.reply s i t r).pending = s.pending := by
  unfold State.reply
  simp
@[simp] theorem State.setTap_pending (s : State) (op : TapOp) : (State.setTap s op).pending = s.pending :=
  rfl

/-! ### Step -/
@[simp] theorem State.idle_pending (s : State) : (State.idle s).pending = s.pending := by
  unfold State.idle
  simp

end Sys2Proof.Machine
end

