-- ==== Sys2Proof/Laws/Answers.lean ====
section
/-! SUPPORT. What each meaning answers: a next state with the same queue, a fault only where the command is ill formed, and the one
refusal of log entry 4. One lemma per meaning. -/

namespace Sys2Proof.Machine

/-- An outcome leaves the queue as it was, is a fault only of an ill-formed command, and is a refusal only of a test instruction. -/
def Answers (ok : Bool) (s : State) : Host.Outcome State Fault Refusal → Prop
  | .next t => t.pending = s.pending
  | .fault _ => ok = false
  | .refused r => r = .testInstruction

theorem answers_onUnit {ok c : Bool} {s t : State} (ht : t.pending = s.pending) (hc : ok = true → c = true) : Answers ok s (onUnit c t) := by
  unfold onUnit
  split
  · exact ht
  · cases ok
    · rfl
    · exact absurd (hc rfl) ‹_›

theorem answers_onTask {ok : Bool} {s : State} {p : Nat} {k : Nat → Task → State} (hk : ∀ i t, (k i t).pending = s.pending)
    (hc : ok = true → engineOk p = true) : Answers ok s (onTask p s k) := by
  unfold onTask
  split
  · split
    · exact hk _ _
    · rfl
  · cases ok
    · rfl
    · exact absurd (of_decide_eq_true (hc rfl)) ‹_›

theorem answers_runCmd {ok c : Bool} {s : State} {stages : Bool} {k : State → State}
    (hk : ∀ x, (k x).pending = x.pending) : Answers ok s (.next (runCmd c stages k s)) := by
  show State.pending _ = s.pending
  unfold runCmd
  repeat' split
  all_goals first | rfl | simp [hk]

theorem limitNow_pending {s x : State} {i : Nat} {lim : Option Word64} (h : s.limitNow i lim = some x) : x.pending = s.pending := by
  unfold State.limitNow at h
  split at h
  · cases hr : s.replayIssue i with
    | none => rw [hr] at h; cases h
    | some y => rw [hr] at h; cases h; exact State.replayIssue_pending hr
  · split at h
    · cases h; simp
    · cases h

@[simp] theorem State.loseReleases_pending (s : State) (i k : Nat) : (s.loseReleases i k).pending = s.pending := by
  induction k generalizing s with
  | zero => rfl
  | succ k ih => unfold State.loseReleases; rw [ih]; split <;> simp

/-! ### Alu -/

theorem execAdd_answers (p : Nat) (f : Bool) (d a b : BitVec 5) (s : State) :
    Answers (engineOk p) s (execAdd p f d a b s) := answers_onTask (by intros; simp) (fun h => h)
theorem execSub_answers (p : Nat) (f : Bool) (d a b : BitVec 5) (s : State) :
    Answers (engineOk p) s (execSub p f d a b s) := answers_onTask (by intros; simp) (fun h => h)
theorem execAdds_answers (p : Nat) (f : Bool) (d a b : BitVec 5) (s : State) :
    Answers (engineOk p) s (execAdds p f d a b s) := answers_onTask (by intros; simp) (fun h => h)
theorem execSubs_answers (p : Nat) (f : Bool) (d a b : BitVec 5) (s : State) :
    Answers (engineOk p) s (execSubs p f d a b s) := answers_onTask (by intros; simp) (fun h => h)
theorem execAdc_answers (p : Nat) (f : Bool) (d a b : BitVec 5) (s : State) :
    Answers (engineOk p) s (execAdc p f d a b s) := answers_onTask (by intros; simp) (fun h => h)
theorem execSbc_answers (p : Nat) (f : Bool) (d a b : BitVec 5) (s : State) :
    Answers (engineOk p) s (execSbc p f d a b s) := answers_onTask (by intros; simp) (fun h => h)
theorem execAndR_answers (p : Nat) (f : Bool) (d a b : BitVec 5) (s : State) :
    Answers (engineOk p) s (execAndR p f d a b s) := answers_onTask (by intros; simp) (fun h => h)
theorem execOrR_answers (p : Nat) (f : Bool) (d a b : BitVec 5) (s : State) :
    Answers (engineOk p) s (execOrR p f d a b s) := answers_onTask (by intros; simp) (fun h => h)
theorem execXorR_answers (p : Nat) (f : Bool) (d a b : BitVec 5) (s : State) :
    Answers (engineOk p) s (execXorR p f d a b s) := answers_onTask (by intros; simp) (fun h => h)
theorem execAndn_answers (p : Nat) (f : Bool) (d a b : BitVec 5) (s : State) :
    Answers (engineOk p) s (execAndn p f d a b s) := answers_onTask (by intros; simp) (fun h => h)
theorem execShl_answers (p : Nat) (f : Bool) (d a b : BitVec 5) (s : State) :
    Answers (engineOk p) s (execShl p f d a b s) := answers_onTask (by intros; simp) (fun h => h)
theorem execShr_answers (p : Nat) (f : Bool) (d a b : BitVec 5) (s : State) :
    Answers (engineOk p) s (execShr p f d a b s) := answers_onTask (by intros; simp) (fun h => h)
theorem execSar_answers (p : Nat) (f : Bool) (d a b : BitVec 5) (s : State) :
    Answers (engineOk p) s (execSar p f d a b s) := answers_onTask (by intros; simp) (fun h => h)
theorem execRor_answers (p : Nat) (f : Bool) (d a b : BitVec 5) (s : State) :
    Answers (engineOk p) s (execRor p f d a b s) := answers_onTask (by intros; simp) (fun h => h)
theorem execMinS_answers (p : Nat) (f : Bool) (d a b : BitVec 5) (s : State) :
    Answers (engineOk p) s (execMinS p f d a b s) := answers_onTask (by intros; simp) (fun h => h)
theorem execMaxS_answers (p : Nat) (f : Bool) (d a b : BitVec 5) (s : State) :
    Answers (engineOk p) s (execMaxS p f d a b s) := answers_onTask (by intros; simp) (fun h => h)
theorem execMinu_answers (p : Nat) (f : Bool) (d a b : BitVec 5) (s : State) :
    Answers (engineOk p) s (execMinu p f d a b s) := answers_onTask (by intros; simp) (fun h => h)
theorem execMaxu_answers (p : Nat) (f : Bool) (d a b : BitVec 5) (s : State) :
    Answers (engineOk p) s (execMaxu p f d a b s) := answers_onTask (by intros; simp) (fun h => h)
theorem execSlt_answers (p : Nat) (f : Bool) (d a b : BitVec 5) (s : State) :
    Answers (engineOk p) s (execSlt p f d a b s) := answers_onTask (by intros; simp) (fun h => h)
theorem execSltu_answers (p : Nat) (f : Bool) (d a b : BitVec 5) (s : State) :
    Answers (engineOk p) s (execSltu p f d a b s) := answers_onTask (by intros; simp) (fun h => h)
theorem execMul_answers (p : Nat) (f : Bool) (d a b : BitVec 5) (s : State) :
    Answers (engineOk p) s (execMul p f d a b s) := answers_onTask (by intros; simp) (fun h => h)
theorem execMulh_answers (p : Nat) (f : Bool) (d a b : BitVec 5) (s : State) :
    Answers (engineOk p) s (execMulh p f d a b s) := answers_onTask (by intros; simp) (fun h => h)
theorem execMulhu_answers (p : Nat) (f : Bool) (d a b : BitVec 5) (s : State) :
    Answers (engineOk p) s (execMulhu p f d a b s) := answers_onTask (by intros; simp) (fun h => h)
theorem execMulq_answers (p : Nat) (f : Bool) (d a b : BitVec 5) (s : State) :
    Answers (engineOk p) s (execMulq p f d a b s) := answers_onTask (by intros; simp) (fun h => h)
theorem execMacq_answers (p : Nat) (f : Bool) (d a b : BitVec 5) (s : State) :
    Answers (engineOk p) s (execMacq p f d a b s) := answers_onTask (by intros; simp) (fun h => h)
theorem execDiv_answers (p : Nat) (f : Bool) (d a b : BitVec 5) (s : State) :
    Answers (engineOk p) s (execDiv p f d a b s) := answers_onTask (by intros; simp) (fun h => h)
theorem execDivu_answers (p : Nat) (f : Bool) (d a b : BitVec 5) (s : State) :
    Answers (engineOk p) s (execDivu p f d a b s) := answers_onTask (by intros; simp) (fun h => h)
theorem execRem_answers (p : Nat) (f : Bool) (d a b : BitVec 5) (s : State) :
    Answers (engineOk p) s (execRem p f d a b s) := answers_onTask (by intros; simp) (fun h => h)
theorem execRemu_answers (p : Nat) (f : Bool) (d a b : BitVec 5) (s : State) :
    Answers (engineOk p) s (execRemu p f d a b s) := answers_onTask (by intros; simp) (fun h => h)
theorem execNeg_answers (p : Nat) (f : Bool) (d a : BitVec 5) (s : State) :
    Answers (engineOk p) s (execNeg p f d a s) := answers_onTask (by intros; split <;> simp) (fun h => h)
theorem execNegs_answers (p : Nat) (f : Bool) (d a : BitVec 5) (s : State) :
    Answers (engineOk p) s (execNegs p f d a s) := answers_onTask (by intros; split <;> simp) (fun h => h)
theorem execAbsS_answers (p : Nat) (f : Bool) (d a : BitVec 5) (s : State) :
    Answers (engineOk p) s (execAbsS p f d a s) := answers_onTask (by intros; split <;> simp) (fun h => h)
theorem execNotR_answers (p : Nat) (f : Bool) (d a : BitVec 5) (s : State) :
    Answers (engineOk p) s (execNotR p f d a s) := answers_onTask (by intros; split <;> simp) (fun h => h)
theorem execClz_answers (p : Nat) (f : Bool) (d a : BitVec 5) (s : State) :
    Answers (engineOk p) s (execClz p f d a s) := answers_onTask (by intros; split <;> simp) (fun h => h)
theorem execPopc_answers (p : Nat) (f : Bool) (d a : BitVec 5) (s : State) :
    Answers (engineOk p) s (execPopc p f d a s) := answers_onTask (by intros; split <;> simp) (fun h => h)
theorem execSextb_answers (p : Nat) (f : Bool) (d a : BitVec 5) (s : State) :
    Answers (engineOk p) s (execSextb p f d a s) := answers_onTask (by intros; split <;> simp) (fun h => h)
theorem execSexth_answers (p : Nat) (f : Bool) (d a : BitVec 5) (s : State) :
    Answers (engineOk p) s (execSexth p f d a s) := answers_onTask (by intros; split <;> simp) (fun h => h)
theorem execZextb_answers (p : Nat) (f : Bool) (d a : BitVec 5) (s : State) :
    Answers (engineOk p) s (execZextb p f d a s) := answers_onTask (by intros; split <;> simp) (fun h => h)
theorem execZexth_answers (p : Nat) (f : Bool) (d a : BitVec 5) (s : State) :
    Answers (engineOk p) s (execZexth p f d a s) := answers_onTask (by intros; split <;> simp) (fun h => h)
theorem execBswap_answers (p : Nat) (f : Bool) (d a : BitVec 5) (s : State) :
    Answers (engineOk p) s (execBswap p f d a s) := answers_onTask (by intros; split <;> simp) (fun h => h)
theorem execAddi_answers (p : Nat) (d a : BitVec 5) (imm : BitVec 16) (s : State) :
    Answers (engineOk p) s (execAddi p d a imm s) := answers_onTask (by intros; simp) (fun h => h)
theorem execAndi_answers (p : Nat) (d a : BitVec 5) (imm : BitVec 16) (s : State) :
    Answers (engineOk p) s (execAndi p d a imm s) := answers_onTask (by intros; simp) (fun h => h)
theorem execOri_answers (p : Nat) (d a : BitVec 5) (imm : BitVec 16) (s : State) :
    Answers (engineOk p) s (execOri p d a imm s) := answers_onTask (by intros; simp) (fun h => h)
theorem execXori_answers (p : Nat) (d a : BitVec 5) (imm : BitVec 16) (s : State) :
    Answers (engineOk p) s (execXori p d a imm s) := answers_onTask (by intros; simp) (fun h => h)
theorem execLui_answers (p : Nat) (d : BitVec 5) (imm : BitVec 16) (s : State) :
    Answers (engineOk p) s (execLui p d imm s) := answers_onTask (by intros; simp) (fun h => h)
theorem execShi_answers (p : Nat) (d a : BitVec 5) (kind : BitVec 2) (n : BitVec 5) (s : State) :
    Answers (engineOk p) s (execShi p d a kind n s) := answers_onTask (by intros; simp) (fun h => h)
theorem execCmpi_answers (p : Nat) (a : BitVec 5) (imm : BitVec 16) (s : State) :
    Answers (engineOk p) s (execCmpi p a imm s) := answers_onTask (by intros; simp) (fun h => h)

/-! ### TimeGroup -/

theorem execTget_answers (p : Nat) (td : BitVec 2) (s : State) :
    Answers (engineOk p) s (execTget p td s) := by
  unfold execTget
  exact answers_onTask (by intros; simp) (by intro h; simp_all [engineOk])
theorem execPget_answers (p : Nat) (td : BitVec 2) (stn : BitVec 3) (s : State) :
    Answers (engineOk p && stnFieldOk stn) s (execPget p td stn s) := by
  unfold execPget
  exact answers_onTask (by intros; (repeat' split) <;> simp) (by intro h; simp_all [engineOk])
theorem execTadd_answers (p : Nat) (td ta : BitVec 2) (b : BitVec 5) (s : State) :
    Answers (engineOk p) s (execTadd p td ta b s) := answers_onTask (by intros; simp) (fun h => h)
theorem execTsub_answers (p : Nat) (td ta tb : BitVec 2) (s : State) :
    Answers (engineOk p) s (execTsub p td ta tb s) := answers_onTask (by intros; simp) (fun h => h)
theorem execTdif_answers (p : Nat) (f : Bool) (d : BitVec 5) (ta tb : BitVec 2) (s : State) :
    Answers (engineOk p) s (execTdif p f d ta tb s) := by
  unfold execTdif
  exact answers_onTask (by intros; simp) (by intro h; simp_all [engineOk])
theorem execTlo_answers (p : Nat) (d : BitVec 5) (ta : BitVec 2) (s : State) :
    Answers (engineOk p) s (execTlo p d ta s) := by
  unfold execTlo
  exact answers_onTask (by intros; simp) (by intro h; simp_all [engineOk])
theorem execThi_answers (p : Nat) (d : BitVec 5) (ta : BitVec 2) (s : State) :
    Answers (engineOk p) s (execThi p d ta s) := by
  unfold execThi
  exact answers_onTask (by intros; simp) (by intro h; simp_all [engineOk])
theorem execTset_answers (p : Nat) (td : BitVec 2) (a b : BitVec 5) (s : State) :
    Answers (engineOk p) s (execTset p td a b s) := answers_onTask (by intros; simp) (fun h => h)
theorem execTmov_answers (p : Nat) (td ta : BitVec 2) (s : State) :
    Answers (engineOk p) s (execTmov p td ta s) := answers_onTask (by intros; simp) (fun h => h)
theorem execTcmp_answers (p : Nat) (ta tb : BitVec 2) (s : State) :
    Answers (engineOk p) s (execTcmp p ta tb s) := by
  unfold execTcmp
  exact answers_onTask (by intros; simp) (by intro h; simp_all [engineOk])
theorem execTref_answers (p : Nat) (td : BitVec 2) (s : State) :
    Answers (engineOk p) s (execTref p td s) := answers_onTask (by intros; simp) (fun h => h)
theorem execTsref_answers (p : Nat) (ta : BitVec 2) (s : State) :
    Answers (engineOk p) s (execTsref p ta s) := by
  unfold execTsref
  exact answers_onTask (by intros; simp) (by intro h; simp_all [engineOk])
theorem execTaddi_answers (p : Nat) (td ta : BitVec 2) (scale : BitVec 2) (imm : BitVec 20) (s : State) :
    Answers (engineOk p) s (execTaddi p td ta scale imm s) := answers_onTask (by intros; simp) (fun h => h)
theorem execBc_answers (p : Nat) (cond : BitVec 4) (off : BitVec 22) (s : State) :
    Answers (engineOk p && condOk cond) s (execBc p cond off s) := by
  unfold execBc
  exact answers_onTask (by intros; (repeat' split) <;> simp) (by intro h; simp_all [engineOk])
theorem execBl_answers (p : Nat) (off : BitVec 26) (s : State) :
    Answers (engineOk p) s (execBl p off s) := by
  unfold execBl
  exact answers_onTask (by intros; simp) (by intro h; simp_all [engineOk])
theorem execJalr_answers (p : Nat) (d a : BitVec 5) (imm : BitVec 16) (s : State) :
    Answers (engineOk p) s (execJalr p d a imm s) := by
  unfold execJalr
  exact answers_onTask (by intros; simp) (by intro h; simp_all [engineOk])

/-! ### Waits -/

theorem execAtTime_answers (p : Nat) (ta : BitVec 2) (l : Bool) (s : State) :
    Answers (engineOk p) s (execAtTime p ta l s) := by
  unfold execAtTime
  exact answers_onTask (by intros; simp) (by intro h; simp_all [engineOk])
theorem execAfter_answers (p : Nat) (scale : BitVec 2) (a : BitVec 5) (l : Bool) (s : State) :
    Answers (engineOk p) s (execAfter p scale a l s) := by
  unfold execAfter
  exact answers_onTask (by intros; simp) (by intro h; simp_all [engineOk])
theorem execOnpos_answers (p : Nat) (ta : BitVec 2) (stn : BitVec 3) (l : Bool) (s : State) :
    Answers (engineOk p && stnFieldOk stn) s (execOnpos p ta stn l s) := by
  unfold execOnpos
  exact answers_onTask (by intros; (repeat' split) <;> simp) (by intro h; simp_all [engineOk])
theorem execEvwait_answers (p : Nat) (a : BitVec 5) (l : Bool) (s : State) :
    Answers (engineOk p) s (execEvwait p a l s) := by
  unfold execEvwait
  exact answers_onTask (by intros; (repeat' split) <;> simp) (by intro h; simp_all [engineOk])
theorem execWaitEnd_answers (task : Nat) (s : State) :
    Answers (taskOk task) s (execWaitEnd task s) := by
  unfold execWaitEnd
  exact answers_onUnit (by (repeat' split) <;> simp) (by intro h; simp_all [taskOk])
theorem execWaitLimit_answers (task : Nat) (s : State) :
    Answers (taskOk task) s (execWaitLimit task s) := by
  unfold execWaitLimit
  exact answers_onUnit (by (repeat' split) <;> simp) (by intro h; simp_all [taskOk])
theorem execSend_answers (p : Nat) (d a : BitVec 5) (l x nb : Bool) (ch : BitVec 8) (s : State) :
    Answers (engineOk p) s (execSend p d a l x nb ch s) := by
  unfold execSend
  refine answers_onTask ?_ (by intro h; simp_all [engineOk])
  intro i t
  extract_lets c
  split
  · simp
  · split
    · simp
    · split
      · simp
      · split
        · rename_i h; simp [limitNow_pending h]
        · simp
theorem execRecv_answers (p : Nat) (d a : BitVec 5) (l x nb : Bool) (ch : BitVec 8) (s : State) :
    Answers (engineOk p) s (execRecv p d a l x nb ch s) := by
  unfold execRecv
  refine answers_onTask ?_ (by intro h; simp_all [engineOk])
  intro i t
  extract_lets c
  split
  · simp
  · split
    · simp
    · split
      · simp
      · split
        · rename_i h; simp [limitNow_pending h]
        · simp
theorem execChcnt_answers (p : Nat) (d a : BitVec 5) (x : Bool) (ch : BitVec 8) (s : State) :
    Answers (engineOk p) s (execChcnt p d a x ch s) := by
  unfold execChcnt
  exact answers_onTask (by intro i t; simp only []; (repeat' split) <;> simp_all) (by intro h; simp_all [engineOk])
theorem execMessageWaitEnd_answers (task : Nat) (s : State) :
    Answers (taskOk task) s (execMessageWaitEnd task s) := by
  unfold execMessageWaitEnd
  exact answers_onUnit (by (repeat' split) <;> simp) (by intro h; simp_all [taskOk])
theorem execTaskDispatch_answers (p : Nat) (s : State) :
    Answers (engineOk p) s (execTaskDispatch p s) := by
  unfold execTaskDispatch
  exact answers_onUnit (by (repeat' split) <;> simp) (by intro h; simp_all [engineOk])
theorem execYieldI_answers (p : Nat) (s : State) :
    Answers (engineOk p) s (execYieldI p s) := by
  unfold execYieldI
  exact answers_onTask (by intro i t; simp only []; (repeat' split) <;> simp_all) (by intro h; simp_all [engineOk])
theorem execDoneI_answers (p : Nat) (s : State) :
    Answers (engineOk p) s (execDoneI p s) := by
  unfold execDoneI
  exact answers_onTask (by intros; (repeat' split) <;> simp) (by intro h; simp_all [engineOk])
theorem execCkpt_answers (p : Nat) (s : State) :
    Answers (engineOk p) s (execCkpt p s) := by
  unfold execCkpt
  exact answers_onTask (by intros; simp) (by intro h; simp_all [engineOk])
theorem execTid_answers (p : Nat) (d : BitVec 5) (s : State) :
    Answers (engineOk p) s (execTid p d s) := by
  unfold execTid
  exact answers_onTask (by intros; simp) (by intro h; simp_all [engineOk])
theorem execFaultI_answers (p : Nat) (a : BitVec 5) (kind : BitVec 6) (s : State) :
    Answers (engineOk p && kindOk kind) s (execFaultI p a kind s) := by
  unfold execFaultI
  refine answers_onTask ?_ (by intro h; simp_all [engineOk, kindOk])
  intro i t
  split
  · simp
  · exact (State.output_pending _ _ _ _ _ _ _ _ (fun x => State.sendFault_pending _ _ _ _)).trans (State.retire_pending _ _ _ _ _)
theorem execBudgetExceeded_answers (task : Nat) (s : State) :
    Answers (taskOk task) s (execBudgetExceeded task s) := by
  unfold execBudgetExceeded
  exact answers_onUnit (by (repeat' split) <;> simp) (by intro h; simp_all [taskOk])
theorem execDeadlineMissed_answers (task : Nat) (s : State) :
    Answers (taskOk task) s (execDeadlineMissed task s) := by
  unfold execDeadlineMissed
  exact answers_onUnit (by (repeat' split) <;> simp) (by intro h; simp_all [taskOk])
theorem execPeriodRelease_answers (task : Nat) (s : State) :
    Answers (taskOk task) s (execPeriodRelease task s) := by
  unfold execPeriodRelease
  refine answers_onUnit ?_ (by intro h; simp_all [taskOk])
  split
  · split
    · simp only []; rw [State.release_pending, State.loseReleases_pending, State.setTask_pending]
    · rfl
  · rfl
theorem execTrapRestart_answers (task : Nat) (s : State) :
    Answers (taskOk task) s (execTrapRestart task s) := by
  unfold execTrapRestart
  exact answers_onUnit (by (repeat' split) <;> simp) (by intro h; simp_all [taskOk])
theorem execTaskRestartCheckpoint_answers (task : Nat) (s : State) :
    Answers (taskOk task) s (execTaskRestartCheckpoint task s) := by
  unfold execTaskRestartCheckpoint
  exact answers_onUnit (by simp) (by intro h; simp_all [taskOk])
theorem execTaskRestartEntry_answers (task : Nat) (s : State) :
    Answers (taskOk task) s (execTaskRestartEntry task s) := by
  unfold execTaskRestartEntry
  exact answers_onUnit (by simp) (by intro h; simp_all [taskOk])
theorem execTaskStop_answers (task : Nat) (s : State) :
    Answers (taskOk task) s (execTaskStop task s) := by
  unfold execTaskStop
  exact answers_onUnit (by simp) (by intro h; simp_all [taskOk])

/-! ### Ledger -/

theorem execSheetLock_answers (seq : Nat) (s : State) :
    Answers (true) s (execSheetLock seq s) := by
  unfold execSheetLock
  show State.pending _ = s.pending
  (repeat' split) <;> simp
theorem execSheetCommit_answers (seq : Nat) (s : State) :
    Answers (true) s (execSheetCommit seq s) := by
  unfold execSheetCommit
  show State.pending _ = s.pending
  simp only []; (repeat' split) <;> simp [apply_ite State.pending, foldl_pending]
theorem execSheetTransferred_answers (seq : Nat) (s : State) :
    Answers (true) s (execSheetTransferred seq s) := by
  unfold execSheetTransferred
  show State.pending _ = s.pending
  (repeat' split) <;> simp
theorem execDeclareFused_answers (s : State) :
    Answers (true) s (execDeclareFused s) := by
  unfold execDeclareFused
  show State.pending _ = s.pending
  simp
theorem execDeclareDelivered_answers (s : State) :
    Answers (true) s (execDeclareDelivered s) := by
  unfold execDeclareDelivered
  show State.pending _ = s.pending
  simp
theorem execDeclareJam_answers (s : State) :
    Answers (true) s (execDeclareJam s) := by
  unfold execDeclareJam
  show State.pending _ = s.pending
  simp
theorem execJournalPageProgrammed_answers (good : List Bool) (s : State) :
    Answers (true) s (execJournalPageProgrammed good s) := by
  unfold execJournalPageProgrammed
  show State.pending _ = s.pending
  simp
theorem execJournalBlockErased_answers (s : State) :
    Answers (true) s (execJournalBlockErased s) := by
  unfold execJournalBlockErased
  show State.pending _ = s.pending
  (repeat' split) <;> simp
theorem execCompactNow_answers (s : State) :
    Answers (true) s (execCompactNow s) := by
  unfold execCompactNow
  show State.pending _ = s.pending
  simp
theorem execIdleCompact_answers (s : State) :
    Answers (true) s (execIdleCompact s) := by
  unfold execIdleCompact
  show State.pending _ = s.pending
  (repeat' split) <;> simp
theorem execDegradedExit_answers (s : State) :
    Answers (true) s (execDegradedExit s) := by
  unfold execDegradedExit
  show State.pending _ = s.pending
  (repeat' split) <;> simp

/-! ### Station -/

theorem execTileDecode_answers (n : Nat) (s : State) :
    Answers (stnOk n) s (execTileDecode n s) := by
  unfold execTileDecode
  exact answers_onUnit (by (repeat' split) <;> simp) (by intro h; simp_all [stnOk])
theorem execTableLoad_answers (n : Nat) (table : Nat) (s : State) :
    Answers (stnOk n) s (execTableLoad n table s) := by
  unfold execTableLoad
  exact answers_onUnit (by simp) (by intro h; simp_all [stnOk])
theorem execLoadDone_answers (n : Nat) (uncorr : Bool) (s : State) :
    Answers (stnOk n) s (execLoadDone n uncorr s) := by
  unfold execLoadDone
  refine answers_onUnit ?_ (by intro h; simp_all [stnOk])
  split
  · rfl
  · rename_i l hl
    extract_lets b ws shim bad r err s1 s3 s2
    have h0 : r.1.pending = s.pending := State.sourceRead_pending _ _ _ _ _
    have h1 : s1.pending = s.pending := by simp [s1, h0]
    have h3 : s3.pending = s.pending := by simp [s3, h1]
    have h2 : s2.pending = s.pending := by
      simp only [s2]
      split
      · simp [h1]
      · split
        · simp [h3]
        · exact h3
    simp [h2]
theorem execTablePatch_answers (n : Nat) (table : Nat) (s : State) :
    Answers (stnOk n) s (execTablePatch n table s) := by
  unfold execTablePatch
  exact answers_onUnit (by simp) (by intro h; simp_all [stnOk])
theorem execStnxMove_answers (n : Nat) (s : State) :
    Answers (stnOk n) s (execStnxMove n s) := by
  unfold execStnxMove
  exact answers_onUnit (by simp) (by intro h; simp_all [stnOk])
theorem execStnxReturn_answers (s : State) :
    Answers (true) s (execStnxReturn s) := by
  unfold execStnxReturn
  show State.pending _ = s.pending
  simp
theorem execMoved_answers (s : State) :
    Answers (true) s (execMoved s) := by
  unfold execMoved
  show State.pending _ = s.pending
  simp only []; (repeat' split) <;> simp_all

/-! ### Head -/

theorem execHrecRead_answers (n : Nat) (s : State) :
    Answers (stnOk n) s (execHrecRead n s) := by
  unfold execHrecRead
  exact answers_onUnit (by simp) (by intro h; simp_all [stnOk])
theorem execHrecDone_answers (n : Nat) (rec : Option (List Byte)) (s : State) :
    Answers (stnOk n) s (execHrecDone n rec s) := by
  unfold execHrecDone
  exact answers_onUnit (by simp only []; (repeat' split) <;> simp_all) (by intro h; simp_all [stnOk])
theorem execHeadStatusRead_answers (n : Nat) (st : Option HeadStat) (s : State) :
    Answers (stnOk n) s (execHeadStatusRead n st s) := by
  unfold execHeadStatusRead
  exact answers_onUnit (by simp only []; (repeat' split) <;> simp [apply_ite State.pending, foldl_pending]) (by intro h; simp_all [stnOk])
theorem execDefAdd_answers (n : Nat) (emitter : Nat) (s : State) :
    Answers (stnOk n) s (execDefAdd n emitter s) := by
  unfold execDefAdd
  exact answers_onUnit (by simp) (by intro h; simp_all [stnOk])
theorem execThStale_answers (n : Nat) (s : State) :
    Answers (stnOk n) s (execThStale n s) := by
  unfold execThStale
  exact answers_onUnit (by simp only []; (repeat' split) <;> (try apply foldl_pending) <;> (try intros) <;> (repeat' split) <;> simp_all) (by intro h; simp_all [stnOk])
theorem execHotClear_answers (n : Nat) (s : State) :
    Answers (stnOk n) s (execHotClear n s) := by
  unfold execHotClear
  exact answers_onUnit (by simp) (by intro h; simp_all [stnOk])

/-! ### Bar -/

theorem execLineBoundary_answers (n margin : Nat) (s : State) :
    Answers (stnOk n) s (execLineBoundary n margin s) := by
  unfold execLineBoundary
  exact answers_onUnit (by (repeat' split) <;> simp) (by intro h; simp_all [stnOk])
theorem execBarEnable_answers (n : Nat) (s : State) :
    Answers (stnOk n) s (execBarEnable n s) := by
  unfold execBarEnable
  exact answers_onUnit (by (repeat' split) <;> simp) (by intro h; simp_all [stnOk])

/-! ### Scan -/

theorem execFacetBoundary_answers (n : Nat) (e : LightEdge × Int) (margin : Nat) (s : State) :
    Answers (stnOk n) s (execFacetBoundary n e margin s) := by
  unfold execFacetBoundary
  exact answers_onUnit (by simp [apply_ite State.pending, foldl_pending]) (by intro h; simp_all [stnOk])
theorem execSosMiss_answers (n : Nat) (back : Int) (margin : Nat) (s : State) :
    Answers (stnOk n) s (execSosMiss n back margin s) := by
  unfold execSosMiss
  exact answers_onUnit (by simp [apply_ite State.pending, foldl_pending]) (by intro h; simp_all [stnOk])
theorem execEosEdge_answers (n : Nat) (e : LightEdge) (s : State) :
    Answers (stnOk n) s (execEosEdge n e s) := by
  unfold execEosEdge
  exact answers_onUnit (by (repeat' split) <;> simp) (by intro h; simp_all [stnOk])
theorem execEosMiss_answers (n : Nat) (s : State) :
    Answers (stnOk n) s (execEosMiss n s) := by
  unfold execEosMiss
  exact answers_onUnit (by (repeat' split) <;> simp) (by intro h; simp_all [stnOk])
theorem execPixUnlock_answers (n : Nat) (ref : Bool) (s : State) :
    Answers (stnOk n) s (execPixUnlock n ref s) := by
  unfold execPixUnlock
  exact answers_onUnit (by (repeat' split) <;> simp) (by intro h; simp_all [stnOk])
theorem execPixLock_answers (n : Nat) (s : State) :
    Answers (stnOk n) s (execPixLock n s) := by
  unfold execPixLock
  exact answers_onUnit (by (repeat' split) <;> simp) (by intro h; simp_all [stnOk])
theorem execScanEnable_answers (n : Nat) (s : State) :
    Answers (stnOk n) s (execScanEnable n s) := by
  unfold execScanEnable
  exact answers_onUnit (by (repeat' split) <;> simp) (by intro h; simp_all [stnOk])

/-! ### Ppos -/

theorem execEncoderCount_answers (up : Bool) (s : State) :
    Answers (true) s (execEncoderCount up s) := by
  unfold execEncoderCount
  show State.pending _ = s.pending
  (repeat' split) <;> simp
theorem execIndexZ_answers (ab : Bool) (s : State) :
    Answers (true) s (execIndexZ ab s) := by
  unfold execIndexZ
  show State.pending _ = s.pending
  (repeat' split) <;> simp
theorem execEncLost_answers (cause : Nat) (s : State) :
    Answers (cause == 1 || cause == 2) s (execEncLost cause s) := by
  unfold execEncLost
  exact answers_onUnit (by split <;> simp) (fun h => h)
theorem execPposEnable_answers (en : Bool) (s : State) :
    Answers (true) s (execPposEnable en s) := by
  unfold execPposEnable
  show State.pending _ = s.pending
  simp
theorem execPposEncLostClear_answers (persists : Bool) (s : State) :
    Answers (true) s (execPposEncLostClear persists s) := by
  unfold execPposEncLostClear
  show State.pending _ = s.pending
  simp
theorem execPposOffsetWrite_answers (n : Nat) (hi : BitVec 32) (s : State) :
    Answers (stnOk n) s (execPposOffsetWrite n hi s) := by
  unfold execPposOffsetWrite
  exact answers_onUnit (by simp) (by intro h; simp_all [stnOk])

/-! ### Drv -/

theorem execDrvEncoderCount_answers (n : Nat) (up : Bool) (s : State) :
    Answers (drvOk n) s (execDrvEncoderCount n up s) := by
  unfold execDrvEncoderCount
  exact answers_onUnit (by simp only []; (repeat' split) <;> simp_all) (by intro h; simp_all [drvOk])
theorem execDrvIndex_answers (n : Nat) (s : State) :
    Answers (drvOk n) s (execDrvIndex n s) := by
  unfold execDrvIndex
  refine answers_onUnit ?_ (by intro h; simp_all [drvOk])
  split
  · extract_lets pos s1 d ofs cpr e
    have h1 : s1.pending = s.pending := by simp [s1, foldl_pending, apply_ite State.pending]
    refine (State.drvGuard_pending _ _ _ ?_).trans h1
    split
    · simp [h1]
    · simp [h1, apply_ite State.pending]
  · rfl
theorem execDrvEncLost_answers (n cause : Nat) (s : State) :
    Answers (drvOk n && (cause == 1 || cause == 2 || cause == 4)) s (execDrvEncLost n cause s) := by
  unfold execDrvEncLost
  exact answers_onUnit (by split <;> simp) (by intro h; simp_all [drvOk, or_assoc])
theorem execResolverSample_answers (n sin cos : Nat) (speed : Int) (s : State) :
    Answers (drvOk n) s (execResolverSample n sin cos speed s) := by
  unfold execResolverSample
  exact answers_onUnit (by simp only []; (repeat' split) <;> simp_all) (by intro h; simp_all [drvOk])
theorem execDrvValley_answers (n : Nat) (x : DrvSample) (s : State) :
    Answers (drvOk n) s (execDrvValley n x s) := by
  unfold execDrvValley
  exact answers_onUnit (by simp only []; (repeat' split) <;> simp [apply_ite State.pending, foldl_pending]) (by intro h; simp_all [drvOk])
theorem execDrvDisable_answers (n : Nat) (s : State) :
    Answers (drvOk n) s (execDrvDisable n s) := by
  unfold execDrvDisable
  exact answers_onUnit (by simp) (by intro h; simp_all [drvOk])
theorem execDrvStart_answers (n : Nat) (s : State) :
    Answers (drvOk n) s (execDrvStart n s) := by
  unfold execDrvStart
  exact answers_onUnit (by simp) (by intro h; simp_all [drvOk])
theorem execDrvStop_answers (n : Nat) (s : State) :
    Answers (drvOk n) s (execDrvStop n s) := by
  unfold execDrvStop
  exact answers_onUnit (by simp) (by intro h; simp_all [drvOk])
theorem execCatchTimeout_answers (n : Nat) (emf : Int) (s : State) :
    Answers (drvOk n) s (execCatchTimeout n emf s) := by
  unfold execCatchTimeout
  exact answers_onUnit (by simp [apply_ite State.pending, foldl_pending]) (by intro h; simp_all [drvOk])
theorem execAlignTimeout_answers (n : Nat) (s : State) :
    Answers (drvOk n) s (execAlignTimeout n s) := by
  unfold execAlignTimeout
  exact answers_onUnit (by simp [apply_ite State.pending, foldl_pending]) (by intro h; simp_all [drvOk])
theorem execRampTimeout_answers (n : Nat) (s : State) :
    Answers (drvOk n) s (execRampTimeout n s) := by
  unfold execRampTimeout
  exact answers_onUnit (by simp [apply_ite State.pending, foldl_pending]) (by intro h; simp_all [drvOk])
theorem execObserveTimeout_answers (n : Nat) (s : State) :
    Answers (drvOk n) s (execObserveTimeout n s) := by
  unfold execObserveTimeout
  exact answers_onUnit (by (repeat' split) <;> simp) (by intro h; simp_all [drvOk])
theorem execZwaitExpiry_answers (n : Nat) (s : State) :
    Answers (drvOk n) s (execZwaitExpiry n s) := by
  unfold execZwaitExpiry
  exact answers_onUnit (by simp only []; (repeat' split) <;> simp_all) (by intro h; simp_all [drvOk])
theorem execStoppedEv_answers (n : Nat) (s : State) :
    Answers (drvOk n) s (execStoppedEv n s) := by
  unfold execStoppedEv
  exact answers_onUnit (by simp only []; (repeat' split) <;> simp_all) (by intro h; simp_all [drvOk])
theorem execRecatchReset_answers (n : Nat) (s : State) :
    Answers (drvOk n) s (execRecatchReset n s) := by
  unfold execRecatchReset
  exact answers_onUnit (by (repeat' split) <;> simp) (by intro h; simp_all [drvOk])
theorem execKeEstimate_answers (n vll : Nat) (s : State) :
    Answers (drvOk n) s (execKeEstimate n vll s) := by
  unfold execKeEstimate
  exact answers_onUnit (by simp only []; (repeat' split) <;> simp_all) (by intro h; simp_all [drvOk])
theorem execDrvEncLostClear_answers (n : Nat) (persists : Bool) (s : State) :
    Answers (drvOk n) s (execDrvEncLostClear n persists s) := by
  unfold execDrvEncLostClear
  exact answers_onUnit (by simp) (by intro h; simp_all [drvOk])
theorem execReadyEv_answers (n : Nat) (s : State) :
    Answers (drvOk n) s (execReadyEv n s) := by
  unfold execReadyEv
  exact answers_onUnit (by simp only []; (repeat' split) <;> (try apply foldl_pending) <;> (try intros) <;> (repeat' split) <;> simp_all) (by intro h; simp_all [drvOk])

/-! ### Axs -/

theorem execChopPeriodStart_answers (n : Nat) (tripA tripB : Option Nat) (s : State) :
    Answers (axsOk n) s (execChopPeriodStart n tripA tripB s) := by
  unfold execChopPeriodStart
  exact answers_onUnit (by (repeat' split) <;> simp) (by intro h; simp_all [axsOk])
theorem execMoveEv_answers (n : Nat) (s : State) :
    Answers (axsOk n) s (execMoveEv n s) := by
  unfold execMoveEv
  exact answers_onUnit (by simp) (by intro h; simp_all [axsOk])
theorem execVelEv_answers (n : Nat) (s : State) :
    Answers (axsOk n) s (execVelEv n s) := by
  unfold execVelEv
  exact answers_onUnit (by simp) (by intro h; simp_all [axsOk])
theorem execAxsStop_answers (n : Nat) (s : State) :
    Answers (axsOk n) s (execAxsStop n s) := by
  unfold execAxsStop
  exact answers_onUnit (by simp) (by intro h; simp_all [axsOk])
theorem execHaltEv_answers (n : Nat) (s : State) :
    Answers (axsOk n) s (execHaltEv n s) := by
  unfold execHaltEv
  exact answers_onUnit (by simp) (by intro h; simp_all [axsOk])
theorem execResumeEv_answers (n : Nat) (s : State) :
    Answers (axsOk n) s (execResumeEv n s) := by
  unfold execResumeEv
  exact answers_onUnit (by simp) (by intro h; simp_all [axsOk])
theorem execHomeEv_answers (n : Nat) (s : State) :
    Answers (axsOk n) s (execHomeEv n s) := by
  unfold execHomeEv
  exact answers_onUnit (by simp) (by intro h; simp_all [axsOk])
theorem execSetposEv_answers (n : Nat) (s : State) :
    Answers (axsOk n) s (execSetposEv n s) := by
  unfold execSetposEv
  exact answers_onUnit (by simp) (by intro h; simp_all [axsOk])
theorem execAxsDisable_answers (n : Nat) (s : State) :
    Answers (axsOk n) s (execAxsDisable n s) := by
  unfold execAxsDisable
  exact answers_onUnit (by simp) (by intro h; simp_all [axsOk])
theorem execStepEdge_answers (n : Nat) (dir : Bool) (s : State) :
    Answers (axsOk n) s (execStepEdge n dir s) := by
  unfold execStepEdge
  exact answers_onUnit (by simp [apply_ite State.pending, foldl_pending]) (by intro h; simp_all [axsOk])
theorem execAxsTick_answers (n : Nat) (s : State) :
    Answers (axsOk n) s (execAxsTick n s) := by
  unfold execAxsTick
  exact answers_onUnit (by simp only []; (repeat' split) <;> simp [apply_ite State.pending, foldl_pending]) (by intro h; simp_all [axsOk])
theorem execStandstillEv_answers (n : Nat) (s : State) :
    Answers (axsOk n) s (execStandstillEv n s) := by
  unfold execStandstillEv
  exact answers_onUnit (by (repeat' split) <;> simp) (by intro h; simp_all [axsOk])
theorem execPoweredDown_answers (n : Nat) (s : State) :
    Answers (axsOk n) s (execPoweredDown n s) := by
  unfold execPoweredDown
  exact answers_onUnit (by (repeat' split) <;> simp) (by intro h; simp_all [axsOk])
theorem execAxsRepower_answers (n : Nat) (s : State) :
    Answers (axsOk n) s (execAxsRepower n s) := by
  unfold execAxsRepower
  exact answers_onUnit (by (repeat' split) <;> simp) (by intro h; simp_all [axsOk])
theorem execPosUncClear_answers (n : Nat) (s : State) :
    Answers (axsOk n) s (execPosUncClear n s) := by
  unfold execPosUncClear
  exact answers_onUnit (by simp) (by intro h; simp_all [axsOk])

/-! ### Outputs -/

theorem execHvoPeriodStart_answers (k : Nat) (s : State) :
    Answers (idx32Ok k) s (execHvoPeriodStart k s) := by
  unfold execHvoPeriodStart
  exact answers_onUnit (by simp only []; (repeat' split) <;> (try apply foldl_pending) <;> (try intros) <;> (repeat' split) <;> simp_all) (by intro h; simp_all [idx32Ok])
theorem execFusPeriodStart_answers (f : Nat) (s : State) :
    Answers (twoOk f) s (execFusPeriodStart f s) := by
  unfold execFusPeriodStart
  exact answers_onUnit (by simp only []; (repeat' split) <;> simp_all) (by intro h; simp_all [twoOk])
theorem execFusEnable_answers (f : Nat) (en : Bool) (s : State) :
    Answers (twoOk f) s (execFusEnable f en s) := by
  unfold execFusEnable
  exact answers_onUnit (by simp) (by intro h; simp_all [twoOk])
theorem execFltEv_answers (f : Nat) (low : Bool) (s : State) :
    Answers (twoOk f) s (execFltEv f low s) := by
  unfold execFltEv
  exact answers_onUnit (by (repeat' split) <;> simp) (by intro h; simp_all [twoOk])
theorem execFuserEnEdge_answers (s : State) :
    Answers (true) s (execFuserEnEdge s) := by
  unfold execFuserEnEdge
  show State.pending _ = s.pending
  (repeat' split) <;> simp
theorem execAdcConversionDone_answers (c code : Nat) (s : State) :
    Answers (adcOk c) s (execAdcConversionDone c code s) := by
  unfold execAdcConversionDone
  exact answers_onUnit (by simp only []; (repeat' split) <;> simp_all) (by intro h; simp_all [adcOk])
theorem execBackgroundScan_answers (c : Nat) (s : State) :
    Answers (adcOk c) s (execBackgroundScan c s) := by
  unfold execBackgroundScan
  exact answers_onUnit (by (repeat' split) <;> simp) (by intro h; simp_all [adcOk])
theorem execRefBad_answers (c : Nat) (bad : Bool) (s : State) :
    Answers (adcOk c) s (execRefBad c bad s) := by
  unfold execRefBad
  exact answers_onUnit (by (repeat' split) <;> simp) (by intro h; simp_all [adcOk])
theorem execGpioInputEdge_answers (p : Nat) (level : Bool) (s : State) :
    Answers (pinOk p) s (execGpioInputEdge p level s) :=
  answers_onUnit (State.pinSample_pending _ _ _) (by intro h; simp_all [pinOk])

/-! ### Loops -/

theorem execApplyEv_answers (n : Nat) (s : State) :
    Answers (loopOk n) s (execApplyEv n s) := by
  unfold execApplyEv
  exact answers_onUnit (by simp) (by intro h; simp_all [loopOk])
theorem execLoopEnable_answers (n : Nat) (s : State) :
    Answers (loopOk n) s (execLoopEnable n s) := by
  unfold execLoopEnable
  exact answers_onUnit (by simp) (by intro h; simp_all [loopOk])
theorem execLrun_answers (p : Nat) (n : BitVec 6) (s : State) :
    Answers (engineOk p && isLoopEngine p) s (execLrun p n s) := by
  unfold execLrun
  exact answers_onTask (by intro i t; simp only []; (repeat' split) <;> simp_all) (by intro h; simp_all [engineOk])

/-! ### TimeMod -/

theorem execAlmanacFire_answers (c : Nat) (s : State) :
    Answers (idx32Ok c) s (execAlmanacFire c s) :=
  answers_onUnit ((State.almDoes_pending _ _).trans (foldl_pending _ (fun s a => State.almDoes_pending s a) _ _))
    (by intro h; simp_all [idx32Ok])
theorem execArmEv_answers (c : Nat) (s : State) :
    Answers (idx32Ok c) s (execArmEv c s) := by
  unfold execArmEv
  exact answers_onUnit (by simp) (by intro h; simp_all [idx32Ok])
theorem execDisarmEv_answers (c : Nat) (s : State) :
    Answers (idx32Ok c) s (execDisarmEv c s) := by
  unfold execDisarmEv
  exact answers_onUnit (by simp) (by intro h; simp_all [idx32Ok])
theorem execSetEv_answers (s : State) :
    Answers (true) s (execSetEv s) := by
  unfold execSetEv
  show State.pending _ = s.pending
  simp
theorem execAddOffset_answers (s : State) :
    Answers (true) s (execAddOffset s) := by
  unfold execAddOffset
  show State.pending _ = s.pending
  simp
theorem execSlewEv_answers (s : State) :
    Answers (true) s (execSlewEv s) := by
  unfold execSlewEv
  show State.pending _ = s.pending
  simp
theorem execSlewEnd_answers (s : State) :
    Answers (true) s (execSlewEnd s) := by
  unfold execSlewEnd
  show State.pending _ = s.pending
  (repeat' split) <;> simp
theorem execTimeIncWrite_answers (v : BitVec 32) (s : State) :
    Answers (true) s (execTimeIncWrite v s) := by
  unfold execTimeIncWrite
  show State.pending _ = s.pending
  simp
theorem execPtpFrameRx_answers (port : Nat) (f : PtpRx) (s : State) :
    Answers (twoOk port) s (execPtpFrameRx port f s) := by
  unfold execPtpFrameRx
  exact answers_onUnit (by (repeat' split) <;> simp) (by intro h; simp_all [twoOk])
theorem execAnnounceTimeout_answers (self : Bool) (s : State) :
    Answers (true) s (execAnnounceTimeout self s) := by
  unfold execAnnounceTimeout
  show State.pending _ = s.pending
  (repeat' split) <;> simp
theorem execPtpSyncTx_answers (stamp : Nat) (s : State) :
    Answers (true) s (execPtpSyncTx stamp s) := by
  unfold execPtpSyncTx
  show State.pending _ = s.pending
  (repeat' split) <;> simp
theorem execPtpDelayRequest_answers (s : State) :
    Answers (true) s (execPtpDelayRequest s) := by
  unfold execPtpDelayRequest
  show State.pending _ = s.pending
  (repeat' split) <;> simp
theorem execTxTimestamp_answers (n id typ stamp : Nat) (s : State) :
    Answers (twoOk n) s (execTxTimestamp n id typ stamp s) := by
  unfold execTxTimestamp
  exact answers_onUnit (by (repeat' split) <;> simp) (by intro h; simp_all [twoOk])
theorem execTxtsRead_answers (n : Nat) (s : State) :
    Answers (twoOk n) s (execTxtsRead n s) := by
  unfold execTxtsRead
  exact answers_onUnit (by simp) (by intro h; simp_all [twoOk])
theorem execCaptureEdge_answers (k : Nat) (falling : Bool) (dt : Nat) (s : State) :
    Answers (idx32Ok k) s (execCaptureEdge k falling dt s) := by
  unfold execCaptureEdge
  exact answers_onUnit (by simp only []; (repeat' split) <;> simp_all) (by intro h; simp_all [idx32Ok])
theorem execCaptureRead_answers (k : Nat) (s : State) :
    Answers (idx32Ok k) s (execCaptureRead k s) := by
  unfold execCaptureRead
  exact answers_onUnit (by simp) (by intro h; simp_all [idx32Ok])

/-! ### Rail -/

theorem execFrostEv_answers (s : State) :
    Answers (true) s (execFrostEv s) := by
  unfold execFrostEv
  show State.pending _ = s.pending
  simp
theorem execThawEv_answers (s : State) :
    Answers (true) s (execThawEv s) := by
  unfold execThawEv
  show State.pending _ = s.pending
  simp
theorem execRestartHoldExpiry_answers (s : State) :
    Answers (true) s (execRestartHoldExpiry s) := by
  unfold execRestartHoldExpiry
  show State.pending _ = s.pending
  (repeat' split) <;> simp
theorem execRailSettleExpiry_answers (s : State) :
    Answers (true) s (execRailSettleExpiry s) := by
  unfold execRailSettleExpiry
  show State.pending _ = s.pending
  simp only []; (repeat' split) <;> simp_all
theorem execThawTimeout_answers (s : State) :
    Answers (true) s (execThawTimeout s) := by
  unfold execThawTimeout
  show State.pending _ = s.pending
  simp only []; (repeat' split) <;> simp_all
theorem execChainTimeout_answers (s : State) :
    Answers (true) s (execChainTimeout s) := by
  unfold execChainTimeout
  show State.pending _ = s.pending
  (repeat' split) <;> simp
theorem execSeqInRise_answers (s : State) :
    Answers (true) s (execSeqInRise s) := by
  unfold execSeqInRise
  show State.pending _ = s.pending
  (repeat' split) <;> simp
theorem execSeqInFall_answers (s : State) :
    Answers (true) s (execSeqInFall s) := by
  unfold execSeqInFall
  show State.pending _ = s.pending
  (repeat' split) <;> simp
theorem execRsConversion_answers (k : Nat) (code : BitVec 12) (s : State) :
    Answers (rsOk k) s (execRsConversion k code s) := by
  unfold execRsConversion
  exact answers_onUnit (by simp [apply_ite State.pending, foldl_pending]) (by intro h; simp_all [rsOk])
theorem execRailLinkExchange_answers (resp : Option (BitVec 40)) (s : State) :
    Answers (true) s (execRailLinkExchange resp s) := by
  unfold execRailLinkExchange
  show State.pending _ = s.pending
  (repeat' split) <;> simp
theorem execRailLinkRetry_answers (s : State) :
    Answers (true) s (execRailLinkRetry s) := by
  unfold execRailLinkRetry
  show State.pending _ = s.pending
  (repeat' split) <;> simp
theorem execRailPoll_answers (k : Nat) (s : State) :
    Answers (true) s (execRailPoll k s) := by
  unfold execRailPoll
  show State.pending _ = s.pending
  (repeat' split) <;> simp
theorem execFrostStuck_answers (s : State) :
    Answers (true) s (execFrostStuck s) := by
  unfold execFrostStuck
  show State.pending _ = s.pending
  simp only []; (repeat' split) <;> simp_all
theorem execSlaveFrostTimeout_answers (s : State) :
    Answers (true) s (execSlaveFrostTimeout s) := by
  unfold execSlaveFrostTimeout
  show State.pending _ = s.pending
  (repeat' split) <;> simp

/-! ### Place -/

theorem execBoundaryMove_answers (p : Nat) (s : State) :
    Answers (engineOk p) s (execBoundaryMove p s) := by
  unfold execBoundaryMove
  exact answers_onUnit (by simp only []; (repeat' split) <;> simp_all) (by intro h; simp_all [engineOk])
theorem execUnitHardFail_answers (u : UnitId) (kind detail : Nat) (s : State) :
    Answers (unitIdOk u && (match u with | .pipeline _ => decide (1 ≤ detail ∧ detail ≤ 5) | _ => true)) s (execUnitHardFail u kind detail s) := by
  cases u <;> refine answers_onUnit (by first | (simp; done) | (split <;> simp)) (by
    intro h; simp_all [unitIdOk, engineOk, stnOk, drvOk, axsOk, twoOk, idx32Ok, pipeOk])
theorem execFlitResend_answers (dir : Nat) (same : Bool) (s : State) :
    Answers (twoOk dir) s (execFlitResend dir same s) := by
  unfold execFlitResend
  exact answers_onUnit (by simp only []; (repeat' split) <;> simp_all) (by intro h; simp_all [twoOk])

/-! ### Flt -/

theorem execFaultMessageArrival_answers (s : State) :
    Answers (true) s (execFaultMessageArrival s) := by
  unfold execFaultMessageArrival
  show State.pending _ = s.pending
  (repeat' split) <;> simp
theorem execGraceExpiry_answers (src : Nat) (s : State) :
    Answers (true) s (execGraceExpiry src s) := by
  unfold execGraceExpiry
  show State.pending _ = s.pending
  (repeat' split) <;> simp
theorem execFltStatusClear_answers (src : Nat) (s : State) :
    Answers (srcExists src) s (execFltStatusClear src s) := by
  unfold execFltStatusClear
  exact answers_onUnit (by simp) (by intro h; simp_all)
theorem execClearEv_answers (s : State) :
    Answers (true) s (execClearEv s) := by
  unfold execClearEv
  show State.pending _ = s.pending
  simp
theorem execForceEv_answers (src : Nat) (s : State) :
    Answers (srcExists src) s (execForceEv src s) := by
  unfold execForceEv
  exact answers_onUnit (by simp) (by intro h; simp_all)
theorem execCountClr_answers (src : Nat) (s : State) :
    Answers (srcExists src) s (execCountClr src s) := by
  unfold execCountClr
  exact answers_onUnit (by simp) (by intro h; simp_all)
theorem execFltQueueRead_answers (s : State) :
    Answers (true) s (execFltQueueRead s) := by
  unfold execFltQueueRead
  show State.pending _ = s.pending
  simp
theorem execQueueOvf_answers (s : State) :
    Answers (true) s (execQueueOvf s) := by
  unfold execQueueOvf
  show State.pending _ = s.pending
  (repeat' split) <;> simp
theorem execThermalReading_answers (r : Diode) (s : State) :
    Answers (true) s (execThermalReading r s) := by
  unfold execThermalReading
  show State.pending _ = s.pending
  (repeat' split) <;> simp
theorem execTripEv_answers (s : State) :
    Answers (true) s (execTripEv s) := by
  unfold execTripEv
  show State.pending _ = s.pending
  (repeat' split) <;> simp
theorem execTripRelease_answers (s : State) :
    Answers (true) s (execTripRelease s) := by
  unfold execTripRelease
  show State.pending _ = s.pending
  simp
theorem execSensorBadClear_answers (s : State) :
    Answers (true) s (execSensorBadClear s) := by
  unfold execSensorBadClear
  show State.pending _ = s.pending
  simp

/-! ### Power -/

theorem execPorEv_answers (s : State) :
    Answers (true) s (execPorEv s) := State.powerDown_pending s (fun _ => false)
theorem execResetPin_answers (low : Bool) (s : State) :
    Answers (true) s (execResetPin low s) := by
  unfold execResetPin
  show State.pending _ = s.pending
  (repeat' split) <;> simp
theorem execSoftReset_answers (key : BitVec 16) (s : State) :
    Answers (true) s (execSoftReset key s) := by
  unfold execSoftReset
  show State.pending _ = s.pending
  simp
theorem execWatchdogEv_answers (s : State) :
    Answers (true) s (execWatchdogEv s) := by
  unfold execWatchdogEv
  show State.pending _ = s.pending
  simp
theorem execPackageFault_answers (s : State) :
    Answers (true) s (execPackageFault s) := by
  unfold execPackageFault
  show State.pending _ = s.pending
  simp
theorem execRailUndervoltage_answers (rail : Nat) (s : State) :
    Answers (stnOk rail) s (execRailUndervoltage rail s) := by
  unfold execRailUndervoltage
  exact answers_onUnit (by (repeat' split) <;> simp) (by intro h; simp_all [stnOk])
theorem execBootFail_answers (s : State) :
    Answers (true) s (execBootFail s) := by
  unfold execBootFail
  show State.pending _ = s.pending
  (repeat' split) <;> simp
theorem execVmainFail_answers (mv : Nat) (s : State) :
    Answers (true) s (execVmainFail mv s) := by
  unfold execVmainFail
  show State.pending _ = s.pending
  (repeat' split) <;> simp
theorem execVmainReturn_answers (mv : Nat) (s : State) :
    Answers (true) s (execVmainReturn mv s) := by
  unfold execVmainReturn
  show State.pending _ = s.pending
  (repeat' split) <;> simp
theorem execBackupSample_answers (vmain vback : Nat) (s : State) :
    Answers (true) s (execBackupSample vmain vback s) := by
  unfold execBackupSample
  show State.pending _ = s.pending
  simp only []; (repeat' split) <;> (try apply foldl_pending) <;> (try intros) <;> simp_all
theorem execFrostEndDecision_answers (s : State) :
    Answers (true) s (execFrostEndDecision s) := by
  unfold execFrostEndDecision
  show State.pending _ = s.pending
  (repeat' split) <;> simp
theorem execHibernateRequest_answers (key : BitVec 16) (s : State) :
    Answers (true) s (execHibernateRequest key s) := by
  unfold execHibernateRequest
  show State.pending _ = s.pending
  simp
theorem execWakeInput_answers (k : Nat) (s : State) :
    Answers (fourOk k) s (execWakeInput k s) := by
  unfold execWakeInput
  exact answers_onUnit (by (repeat' split) <;> simp) (by intro h; simp_all [fourOk])
theorem execAlarmEv_answers (s : State) :
    Answers (true) s (execAlarmEv s) := by
  unfold execAlarmEv
  show State.pending _ = s.pending
  (repeat' split) <;> simp
theorem execHibernateExitPower_answers (s : State) :
    Answers (true) s (execHibernateExitPower s) := by
  unfold execHibernateExitPower
  show State.pending _ = s.pending
  (repeat' split) <;> simp
theorem execRtcSet_answers (s : State) :
    Answers (true) s (execRtcSet s) := by
  unfold execRtcSet
  show State.pending _ = s.pending
  simp
theorem execRtcSync_answers (s : State) :
    Answers (true) s (execRtcSync s) := by
  unfold execRtcSync
  show State.pending _ = s.pending
  (repeat' split) <;> simp
theorem execAonWriteComplete_answers (s : State) :
    Answers (true) s (execAonWriteComplete s) := by
  unfold execAonWriteComplete
  show State.pending _ = s.pending
  (repeat' split) <;> simp
theorem execLockLost_answers (k : Nat) (s : State) :
    Answers (fourOk k) s (execLockLost k s) := by
  unfold execLockLost
  exact answers_onUnit (by (repeat' split) <;> simp) (by intro h; simp_all [fourOk])
theorem execPllRelock_answers (k : Nat) (s : State) :
    Answers (fourOk k) s (execPllRelock k s) := by
  unfold execPllRelock
  exact answers_onUnit (by (repeat' split) <;> simp) (by intro h; simp_all [fourOk])
theorem execRefLost_answers (s : State) :
    Answers (true) s (execRefLost s) := by
  unfold execRefLost
  show State.pending _ = s.pending
  (repeat' split) <;> (try apply foldl_pending) <;> (try intros) <;> (repeat' split) <;> simp_all
theorem execXt32Fail_answers (s : State) :
    Answers (true) s (execXt32Fail s) := by
  unfold execXt32Fail
  show State.pending _ = s.pending
  (repeat' split) <;> simp
theorem execHbToggle_answers (fresh : Bool) (s : State) :
    Answers (true) s (execHbToggle fresh s) := by
  unfold execHbToggle
  show State.pending _ = s.pending
  (repeat' split) <;> simp

/-! ### Upd -/

theorem execSlotTableEraseDone_answers (s : State) :
    Answers (true) s (execSlotTableEraseDone s) := by
  unfold execSlotTableEraseDone
  show State.pending _ = s.pending
  simp
theorem execSettingsCompact_answers (s : State) :
    Answers (true) s (execSettingsCompact s) := by
  unfold execSettingsCompact
  show State.pending _ = s.pending
  (repeat' split) <;> simp
theorem execLockEv_answers (s : State) :
    Answers (true) s (execLockEv s) := by
  unfold execLockEv
  show State.pending _ = s.pending
  simp
theorem execUnlockEv_answers (s : State) :
    Answers (true) s (execUnlockEv s) := by
  unfold execUnlockEv
  show State.pending _ = s.pending
  simp
theorem execDebugEv_answers (s : State) :
    Answers (true) s (execDebugEv s) := by
  unfold execDebugEv
  show State.pending _ = s.pending
  simp
theorem execRecoveryData_answers (f : RecFrame) (s : State) :
    Answers (pathOk f && decide (f.data.length ≤ 1024)) s (execRecoveryData f s) := by
  unfold execRecoveryData
  refine answers_onUnit (State.recFrame_pending _ _ _ _ (fun x => ?_)) (by intro h; simp_all [pathOk])
  split <;> simp
theorem execRecoveryDone_answers (f : RecFrame) (s : State) :
    Answers (pathOk f) s (execRecoveryDone f s) := by
  unfold execRecoveryDone
  refine answers_onUnit (State.recFrame_pending _ _ _ _ (fun x => ?_)) (by intro h; simp_all [pathOk])
  split
  · simp
  · split
    · rfl
    · extract_lets b
      split
      · simp
      · split
        · rename_i h; simp [State.recWrite_pending h]
        · simp
theorem execRecoveryActivate_answers (f : RecFrame) (s : State) :
    Answers (pathOk f) s (execRecoveryActivate f s) := by
  unfold execRecoveryActivate
  refine answers_onUnit (State.recFrame_pending _ _ _ _ (fun x => ?_)) (by intro h; simp_all [pathOk])
  split <;> simp
theorem execRecoveryToken_answers (f : RecFrame) (s : State) :
    Answers (pathOk f) s (execRecoveryToken f s) := by
  unfold execRecoveryToken
  refine answers_onUnit (State.recFrame_pending _ _ _ _ (fun x => ?_)) (by intro h; simp_all [pathOk])
  (repeat' split) <;> simp
theorem execWearMeasure_answers (src age errs : Nat) (s : State) :
    Answers (monitored src) s (execWearMeasure src age errs s) := by
  unfold execWearMeasure
  exact answers_onUnit (by simp only []; (repeat' split) <;> simp_all) (by intro h; simp_all)
theorem execSpareSelfTest_answers (src : Nat) (ok : Bool) (s : State) :
    Answers (monitored src) s (execSpareSelfTest src ok s) := by
  unfold execSpareSelfTest
  exact answers_onUnit (by (repeat' split) <;> simp) (by intro h; simp_all)
theorem execRetireEv_answers (s : State) :
    Answers (true) s (execRetireEv s) := by
  unfold execRetireEv
  show State.pending _ = s.pending
  simp
theorem execRestoreEv_answers (s : State) :
    Answers (true) s (execRestoreEv s) := by
  unfold execRestoreEv
  show State.pending _ = s.pending
  simp

/-! ### Boot -/

theorem execBootEv_answers (trainOk flashOk : Bool) (s : State) :
    Answers (true) s (execBootEv trainOk flashOk s) := by
  unfold execBootEv
  show State.pending _ = s.pending
  split
  · rfl
  · extract_lets s1
    have h1 : s1.pending = s.pending := by simp [s1]
    split
    · simp [h1]
    · split
      · simp [h1]
      · rename_i c hc
        extract_lets s2 mem s3 s4 s5 s6 x s7
        have h2 : s2.pending = s.pending := by simp [s2, h1]
        have h3 : s3.pending = s.pending :=
          (foldl_pending _ (fun s f => by split <;> simp) _ _).trans h2
        have h4 : s4.pending = s.pending := by simp [s4, h3]
        have h5 : s5.pending = s.pending := by simp [s5, h4]
        have h6 : s6.pending = s.pending := by simp [s6, h5, apply_ite State.pending]
        have h7 : s7.pending = s.pending := by simp [s7, h6]
        split
        · simp [h4]
        · simp [h7]

/-! ### Admission -/

theorem execAdmissionDecision_answers (s : State) :
    Answers (true) s (execAdmissionDecision s) := by
  unfold execAdmissionDecision
  show State.pending _ = s.pending
  simp

/-! ### Rec -/

theorem execFreezeEv_answers (s : State) :
    Answers (true) s (execFreezeEv s) := by
  unfold execFreezeEv
  show State.pending _ = s.pending
  simp
theorem execFrozenEv_answers (s : State) :
    Answers (true) s (execFrozenEv s) := by
  unfold execFrozenEv
  show State.pending _ = s.pending
  (repeat' split) <;> simp
theorem execRearmEv_answers (s : State) :
    Answers (true) s (execRearmEv s) := by
  unfold execRearmEv
  show State.pending _ = s.pending
  simp
theorem execNorExport_answers (s : State) :
    Answers (true) s (execNorExport s) := by
  unfold execNorExport
  show State.pending _ = s.pending
  simp
theorem execNorDone_answers (s : State) :
    Answers (true) s (execNorDone s) := by
  unfold execNorDone
  show State.pending _ = s.pending
  (repeat' split) <;> simp
theorem execLoadNor_answers (s : State) :
    Answers (true) s (execLoadNor s) := by
  unfold execLoadNor
  show State.pending _ = s.pending
  simp
theorem execLoadRing_answers (ok : Bool) (s : State) :
    Answers (true) s (execLoadRing ok s) := by
  unfold execLoadRing
  show State.pending _ = s.pending
  simp
theorem execSnapshotEv_answers (s : State) :
    Answers (true) s (execSnapshotEv s) := by
  unfold execSnapshotEv
  show State.pending _ = s.pending
  simp only []; (repeat' split) <;> simp_all
theorem execTimeRecord_answers (s : State) :
    Answers (true) s (execTimeRecord s) := by
  unfold execTimeRecord
  show State.pending _ = s.pending
  simp
theorem execReplayEv_answers (s : State) :
    Answers (true) s (execReplayEv s) := by
  unfold execReplayEv
  show State.pending _ = s.pending
  simp
theorem execReplayStop_answers (s : State) :
    Answers (true) s (execReplayStop s) := by
  unfold execReplayStop
  show State.pending _ = s.pending
  simp
theorem execReplayEnd_answers (s : State) :
    Answers (true) s (execReplayEnd s) := by
  unfold execReplayEnd
  show State.pending _ = s.pending
  (repeat' split) <;> simp
theorem execRecordedOutputMissing_answers (p : Nat) (s : State) :
    Answers (engineOk p) s (execRecordedOutputMissing p s) := by
  unfold execRecordedOutputMissing
  exact answers_onUnit (by (repeat' split) <;> simp) (by intro h; simp_all [engineOk])

/-! ### HostCmd -/

/-- The entry at CMD_HEAD is the one named where the common part and each argument field agree. -/
theorem State.cmdIs_iff (s : State) (h : CmdHead) (args : List (Nat × Nat × Nat)) :
    s.cmdIs h args = true ↔ h = s.cmdHead ∧ ∀ a ∈ args, s.cmdNum a.1 a.2.1 = a.2.2 := by
  simp [State.cmdIs]
theorem execRunStart_answers (h : CmdHead) (seq : Nat) (s : State) :
    Answers (true) s (execRunStart h seq s) := by
  unfold execRunStart
  exact answers_runCmd (by intro x; (repeat' split) <;> simp)
theorem execRunEnd_answers (h : CmdHead) (s : State) :
    Answers (true) s (execRunEnd h s) := by
  unfold execRunEnd
  exact answers_runCmd (by intro x; (repeat' split) <;> simp)
theorem execSheetSubmit_answers (h : CmdHead) (seq : Nat) (slot : SheetSlot) (s : State) :
    Answers (true) s (execSheetSubmit h seq slot s) := by
  unfold execSheetSubmit
  exact answers_runCmd (by intro x; (repeat' split) <;> simp)
theorem execSheetReload_answers (h : CmdHead) (seq : Nat) (slot : SheetSlot) (s : State) :
    Answers (true) s (execSheetReload h seq slot s) := by
  unfold execSheetReload
  exact answers_runCmd (by intro x; (repeat' split) <;> simp)
theorem execSheetWithdraw_answers (h : CmdHead) (seq : Nat) (s : State) :
    Answers (true) s (execSheetWithdraw h seq s) := by
  unfold execSheetWithdraw
  exact answers_runCmd (by intro x; (repeat' split) <;> simp)
theorem execStatusQuery_answers (h : CmdHead) (s : State) :
    Answers (true) s (execStatusQuery h s) := by
  unfold execStatusQuery
  exact answers_runCmd (by intro x; (repeat' split) <;> simp)
theorem execHostAcknowledge_answers (h : CmdHead) (ack : Nat) (s : State) :
    Answers (true) s (execHostAcknowledge h ack s) := by
  unfold execHostAcknowledge
  exact answers_runCmd (by intro x; (repeat' split) <;> simp)
theorem execEngineCall_answers (h : CmdHead) (task w1 w2 w3 w4 : Nat) (s : State) :
    Answers (true) s (execEngineCall h task w1 w2 w3 w4 s) := by
  unfold execEngineCall
  exact answers_runCmd (by intro x; (repeat' split) <;> simp)
theorem execUpdateStage_answers (h : CmdHead) (addr len token : Nat) (hostErr : Bool) (image : List Byte) (s : State) :
    Answers (true) s (execUpdateStage h addr len token hostErr image s) := by
  unfold execUpdateStage
  show State.pending _ = s.pending
  (repeat' split) <;> simp
theorem execUpdateActivate_answers (h : CmdHead) (s : State) :
    Answers (true) s (execUpdateActivate h s) := by
  unfold execUpdateActivate
  show State.pending _ = s.pending
  (repeat' split) <;> simp
theorem execUpdateConfirm_answers (h : CmdHead) (s : State) :
    Answers (true) s (execUpdateConfirm h s) := by
  unfold execUpdateConfirm
  show State.pending _ = s.pending
  (repeat' split) <;> simp
theorem execUpdateRevert_answers (h : CmdHead) (s : State) :
    Answers (true) s (execUpdateRevert h s) := by
  unfold execUpdateRevert
  show State.pending _ = s.pending
  (repeat' split) <;> simp
theorem execRecordExport_answers (h : CmdHead) (addr len off : Nat) (hostErr : Bool) (s : State) :
    Answers (true) s (execRecordExport h addr len off hostErr s) := by
  unfold execRecordExport
  exact answers_runCmd (by intro x; (repeat' split) <;> simp)
theorem execUnknownCmd_answers (h : CmdHead) (opcode : Nat) (s : State) :
    Answers (true) s (execUnknownCmd h opcode s) := by
  unfold execUnknownCmd
  exact answers_runCmd (by intro x; (repeat' split) <;> simp)
theorem execCommandDoorbell_answers (tail : Nat) (s : State) :
    Answers (true) s (execCommandDoorbell tail s) := by
  unfold execCommandDoorbell
  show State.pending _ = s.pending
  simp
theorem execEventHeadWrite_answers (head : Nat) (s : State) :
    Answers (true) s (execEventHeadWrite head s) := by
  unfold execEventHeadWrite
  show State.pending _ = s.pending
  simp
theorem execHifEnable_answers (s : State) :
    Answers (true) s (execHifEnable s) := by
  unfold execHifEnable
  show State.pending _ = s.pending
  simp
theorem execResync_answers (s : State) :
    Answers (true) s (execResync s) := by
  unfold execResync
  show State.pending _ = s.pending
  (repeat' split) <;> simp
theorem execResyncSheetState_answers (s : State) :
    Answers (true) s (execResyncSheetState s) := by
  unfold execResyncSheetState
  show State.pending _ = s.pending
  (repeat' split) <;> simp
theorem execMsixHoldoffEnd_answers (s : State) :
    Answers (true) s (execMsixHoldoffEnd s) := by
  unfold execMsixHoldoffEnd
  show State.pending _ = s.pending
  (repeat' split) <;> simp
theorem execStatusMirrorRewrite_answers (s : State) :
    Answers (true) s (execStatusMirrorRewrite s) := by
  unfold execStatusMirrorRewrite
  show State.pending _ = s.pending
  simp
theorem execLinkDown_answers (s : State) :
    Answers (true) s (execLinkDown s) := by
  unfold execLinkDown
  show State.pending _ = s.pending
  simp
theorem execHotReset_answers (s : State) :
    Answers (true) s (execHotReset s) := by
  unfold execHotReset
  show State.pending _ = s.pending
  simp
theorem execFunctionLevelReset_answers (s : State) :
    Answers (true) s (execFunctionLevelReset s) := by
  unfold execFunctionLevelReset
  show State.pending _ = s.pending
  simp
theorem execD3hotEntry_answers (s : State) :
    Answers (true) s (execD3hotEntry s) := by
  unfold execD3hotEntry
  show State.pending _ = s.pending
  simp
theorem execPciePerst_answers (s : State) :
    Answers (true) s (execPciePerst s) := by
  unfold execPciePerst
  show State.pending _ = s.pending
  simp
theorem execBusMasterEnable_answers (s : State) :
    Answers (true) s (execBusMasterEnable s) := by
  unfold execBusMasterEnable
  show State.pending _ = s.pending
  (repeat' split) <;> simp

/-! ### Handoff -/

theorem execHandoffSend_answers (rcv : Nat) (s : State) :
    Answers (fourOk rcv) s (execHandoffSend rcv s) := by
  unfold execHandoffSend
  exact answers_onUnit (by simp) (by intro h; simp_all [fourOk])
theorem execHandoffFrameRx_answers (port : Nat) (e : EthFrame) (s : State) :
    Answers (twoOk port) s (execHandoffFrameRx port e s) := by
  unfold execHandoffFrameRx
  exact answers_onUnit (by (repeat' split) <;> simp) (by intro h; simp_all [twoOk])
theorem execHandoffAckRx_answers (e : EthFrame) (s : State) :
    Answers (true) s (execHandoffAckRx e s) := by
  unfold execHandoffAckRx
  show State.pending _ = s.pending
  (repeat' split) <;> simp
theorem execHandoffResend_answers (rcv : Nat) (s : State) :
    Answers (fourOk rcv) s (execHandoffResend rcv s) := by
  unfold execHandoffResend
  exact answers_onUnit (by (repeat' split) <;> simp) (by intro h; simp_all [fourOk])
theorem execHandoffLost_answers (rcv : Nat) (s : State) :
    Answers (fourOk rcv) s (execHandoffLost rcv s) := by
  unfold execHandoffLost
  exact answers_onUnit (by (repeat' split) <;> simp) (by intro h; simp_all [fourOk])
theorem execHoRxRead_answers (s : State) :
    Answers (true) s (execHoRxRead s) := by
  unfold execHoRxRead
  show State.pending _ = s.pending
  simp

/-! ### MemEvents -/

theorem execRemapLine_answers (s : State) :
    Answers (true) s (execRemapLine s) := by
  unfold execRemapLine
  show State.pending _ = s.pending
  simp
theorem execRemapRemove_answers (s : State) :
    Answers (true) s (execRemapRemove s) := by
  unfold execRemapRemove
  show State.pending _ = s.pending
  simp
theorem execRepairSave_answers (s : State) :
    Answers (true) s (execRepairSave s) := by
  unfold execRepairSave
  show State.pending _ = s.pending
  (repeat' split) <;> simp
theorem execScrubWalkStep_answers (c k err word : Nat) (s : State) :
    Answers (walkOk c) s (execScrubWalkStep c k err word s) := by
  unfold execScrubWalkStep
  exact answers_onUnit (by simp only []; (repeat' split) <;> simp_all) (by intro h; simp_all [walkOk])
theorem execRangePassGo_answers (s : State) :
    Answers (true) s (execRangePassGo s) := by
  unfold execRangePassGo
  show State.pending _ = s.pending
  simp
theorem execRangePassDone_answers (errs : List (Nat × Nat)) (s : State) :
    Answers (true) s (execRangePassDone errs s) := by
  unfold execRangePassDone
  show State.pending _ = s.pending
  simp only []; (repeat' split) <;> simp [apply_ite State.pending, foldl_pending]
theorem execLeakTick_answers (c : Nat) (s : State) :
    Answers (fourOk c) s (execLeakTick c s) := by
  unfold execLeakTick
  exact answers_onUnit (by simp only []; (repeat' split) <;> simp_all) (by intro h; simp_all [fourOk])
theorem execMergeWriteback_answers (line : Nat) (s : State) :
    Answers (true) s (execMergeWriteback line s) := by
  unfold execMergeWriteback
  show State.pending _ = s.pending
  (repeat' split) <;> simp
theorem execMr4Read_answers (ch : Nat) (mr4 : Nat) (high : Bool) (s : State) :
    Answers (twoOk ch) s (execMr4Read ch mr4 high s) := by
  unfold execMr4Read
  exact answers_onUnit (by simp only []; (repeat' split) <;> simp_all) (by intro h; simp_all [twoOk])
theorem execRsvWrite_answers (pipe : Nat) (v : Nat) (s : State) :
    Answers (pipeOk pipe) s (execRsvWrite pipe v s) := by
  unfold execRsvWrite
  exact answers_onUnit (by simp) (by intro h; simp_all [pipeOk])
theorem execBackedRefetchDone_answers (n : Nat) (table : Nat) (uncorr : Bool) (s : State) :
    Answers (stnOk n) s (execBackedRefetchDone n table uncorr s) := by
  unfold execBackedRefetchDone
  refine answers_onUnit ?_ (by intro h; simp_all [stnOk])
  split
  · exact State.lineRefetch_pending _ _ _
  · split
    · rfl
    · extract_lets r
      have h0 : r.1.pending = s.pending := State.sourceRead_pending _ _ _ _ _
      split <;> simp [h0]
theorem execCodeRefetchDone_answers (p : Nat) (s : State) :
    Answers (engineOk p) s (execCodeRefetchDone p s) := by
  unfold execCodeRefetchDone
  exact answers_onUnit (by (repeat' split) <;> simp) (by intro h; simp_all [engineOk])

/-! ### Dma -/

theorem execPlaneAllocate_answers (s : State) :
    Answers (true) s (execPlaneAllocate s) := by
  unfold execPlaneAllocate
  show State.pending _ = s.pending
  simp
theorem execDmaDoorbell_answers (n : Nat) (tail : Nat) (s : State) :
    Answers (dmaOk n) s (execDmaDoorbell n tail s) := by
  unfold execDmaDoorbell
  exact answers_onUnit (by simp) (by intro h; simp_all [dmaOk])
theorem execDmaResume_answers (n : Nat) (s : State) :
    Answers (dmaOk n) s (execDmaResume n s) := by
  unfold execDmaResume
  exact answers_onUnit (State.dmaOwn_pending _ _ _ (State.dmaResume_pending _ _)) (by intro h; simp_all [dmaOk])
theorem execDmaSkip_answers (n : Nat) (s : State) :
    Answers (dmaOk n) s (execDmaSkip n s) := by
  unfold execDmaSkip
  exact answers_onUnit (by simp) (by intro h; simp_all [dmaOk])

/-! ### Bus -/

theorem execRegisterWrite_answers (addr : Nat) (size : Nat) (value : BitVec 64) (s : State) :
    Answers (sizeOk size) s (execRegisterWrite addr size value s) := by
  unfold execRegisterWrite
  show State.pending _ = s.pending
  simp

/-! ### DmaMove -/

theorem execDmaDescriptorComplete_answers (n : Nat) (hostBytes : List Byte) (s : State) :
    Answers (dmaOk n) s (execDmaDescriptorComplete n hostBytes s) := by
  unfold execDmaDescriptorComplete
  exact answers_onUnit (by (repeat' split) <;> simp) (by intro h; simp_all [dmaOk])
theorem execDmaHalt_answers (n : Nat) (err : Nat) (done : Nat) (s : State) :
    Answers (dmaOk n) s (execDmaHalt n err done s) := by
  unfold execDmaHalt
  exact answers_onUnit (by (repeat' split) <;> simp) (by intro h; simp_all [dmaOk])

/-! ### Access -/

theorem execLdw_answers (p : Nat) (d a : BitVec 5) (imm : BitVec 16) (s : State) :
    Answers (engineOk p) s (execLdw p d a imm s) := by
  unfold execLdw
  exact answers_onTask (by intros; simp) (by intro h; simp_all [engineOk])
theorem execLdh_answers (p : Nat) (d a : BitVec 5) (imm : BitVec 16) (s : State) :
    Answers (engineOk p) s (execLdh p d a imm s) := by
  unfold execLdh
  exact answers_onTask (by intros; simp) (by intro h; simp_all [engineOk])
theorem execLdhu_answers (p : Nat) (d a : BitVec 5) (imm : BitVec 16) (s : State) :
    Answers (engineOk p) s (execLdhu p d a imm s) := by
  unfold execLdhu
  exact answers_onTask (by intros; simp) (by intro h; simp_all [engineOk])
theorem execLdb_answers (p : Nat) (d a : BitVec 5) (imm : BitVec 16) (s : State) :
    Answers (engineOk p) s (execLdb p d a imm s) := by
  unfold execLdb
  exact answers_onTask (by intros; simp) (by intro h; simp_all [engineOk])
theorem execLdbu_answers (p : Nat) (d a : BitVec 5) (imm : BitVec 16) (s : State) :
    Answers (engineOk p) s (execLdbu p d a imm s) := by
  unfold execLdbu
  exact answers_onTask (by intros; simp) (by intro h; simp_all [engineOk])
theorem execStw_answers (p : Nat) (d a : BitVec 5) (imm : BitVec 16) (s : State) :
    Answers (engineOk p) s (execStw p d a imm s) := by
  unfold execStw
  exact answers_onTask (by intros; simp) (by intro h; simp_all [engineOk])
theorem execSth_answers (p : Nat) (d a : BitVec 5) (imm : BitVec 16) (s : State) :
    Answers (engineOk p) s (execSth p d a imm s) := by
  unfold execSth
  exact answers_onTask (by intros; simp) (by intro h; simp_all [engineOk])
theorem execStb_answers (p : Nat) (d a : BitVec 5) (imm : BitVec 16) (s : State) :
    Answers (engineOk p) s (execStb p d a imm s) := by
  unfold execStb
  exact answers_onTask (by intros; simp) (by intro h; simp_all [engineOk])
theorem execIor_answers (p : Nat) (d a : BitVec 5) (imm : BitVec 16) (s : State) :
    Answers (engineOk p) s (execIor p d a imm s) := by
  unfold execIor
  exact answers_onTask (by intro i t; simp only []; (repeat' split) <;> simp_all) (by intro h; simp_all [engineOk])
theorem execIow_answers (p : Nat) (d a : BitVec 5) (imm : BitVec 16) (s : State) :
    Answers (engineOk p) s (execIow p d a imm s) := by
  unfold execIow
  exact answers_onTask (by intro i t; simp only []; (repeat' split) <;> simp_all) (by intro h; simp_all [engineOk])

/-! ### Dcall -/

theorem execDcallLog_answers (p : Nat) (s : State) :
    Answers (engineOk p) s (execDcallLog p s) := by
  unfold execDcallLog
  exact answers_onTask (by intros; simp) (by intro h; simp_all [engineOk])
theorem execDcallSetGet_answers (p : Nat) (s : State) :
    Answers (engineOk p) s (execDcallSetGet p s) := by
  unfold execDcallSetGet
  exact answers_onTask (by intros; simp) (by intro h; simp_all [engineOk])
theorem execDcallSetPut_answers (p : Nat) (s : State) :
    Answers (engineOk p) s (execDcallSetPut p s) := by
  unfold execDcallSetPut
  exact answers_onTask (by intros; simp) (by intro h; simp_all [engineOk])
theorem execDcallHeadRead_answers (p : Nat) (s : State) :
    Answers (engineOk p) s (execDcallHeadRead p s) := by
  unfold execDcallHeadRead
  exact answers_onTask (by intros; simp) (by intro h; simp_all [engineOk])
theorem execDcallHostEvent_answers (p : Nat) (s : State) :
    Answers (engineOk p) s (execDcallHostEvent p s) := by
  unfold execDcallHostEvent
  exact answers_onTask (by intros; simp) (by intro h; simp_all [engineOk])
theorem execDcallSegInfo_answers (p : Nat) (s : State) :
    Answers (engineOk p) s (execDcallSegInfo p s) := by
  unfold execDcallSegInfo
  exact answers_onTask (by intros; simp) (by intro h; simp_all [engineOk])
theorem execDcallUnknown_answers (p : Nat) (svc : BitVec 16) (s : State) :
    Answers (engineOk p && svcUnknown svc) s (execDcallUnknown p svc s) := by
  unfold execDcallUnknown
  exact answers_onTask (by intros; simp) (by intro h; simp_all [engineOk])
theorem execDcallReply_answers (task : Nat) (err : Bool) (data : List Byte) (s : State) :
    Answers (taskOk task) s (execDcallReply task err data s) := by
  unfold execDcallReply
  refine answers_onUnit ?_ (by intro h; simp_all [taskOk])
  cases s.task? task with
  | none => rfl
  | some t =>
    simp only []
    split
    · split
      · split
        · rename_i h; simp [State.replayVal_pending h]
        · rfl
      · simp
    · rfl
theorem execBkpt_answers (p : Nat) (s : State) :
    Answers (engineOk p) s (execBkpt p s) := by
  unfold execBkpt
  exact answers_onTask (by intros; (repeat' split) <;> simp) (by intro h; simp_all [engineOk])
theorem execIllegal_answers (p : Nat) (w : BitVec 32) (s : State) :
    Answers (engineOk p && !wordLegal (isLoopEngine p) w.toNat) s (execIllegal p w s) := by
  unfold execIllegal
  exact answers_onTask (by intros; (repeat' split) <;> simp) (by intro h; simp_all [engineOk])
theorem execTapInstruction_answers (op : TapOp) (s : State) :
    Answers (true) s (execTapInstruction op s) := by
  cases op
  case extest => exact State.setTap_pending s _
  case other =>
    unfold execTapInstruction
    simp only []
    split
    · rfl
    · exact State.setTap_pending s _
  all_goals exact State.setTap_pending s _

end Sys2Proof.Machine
end

