-- ==== Sys2Proof/Laws/Memory.lean ====
section
/-! SUPPORT. The laws of sparse maps and of byte memories: read after write, and the canonical form that every memory operation keeps. -/

namespace Sys2Proof.Machine

/-! ### Sparse maps -/

@[simp] theorem kvGet_nil {α : Type} (k : Nat) : kvGet ([] : List (Nat × α)) k = none := rfl

@[simp] theorem kvGet_kvSet_same {α : Type} (m : List (Nat × α)) (k : Nat) (v : α) : kvGet (kvSet m k v) k = some v := by
  induction m with
  | nil => simp [kvSet, kvGet]
  | cons e t ih =>
    obtain ⟨k', v'⟩ := e
    unfold kvSet
    split
    · simp [kvGet]
    · split
      · simp [kvGet]
      · rename_i h; simp [kvGet, h, ih]

theorem kvGet_kvSet_ne {α : Type} (m : List (Nat × α)) (k j : Nat) (v : α) (h : j ≠ k) : kvGet (kvSet m k v) j = kvGet m j := by
  induction m with
  | nil => simp [kvSet, kvGet, Ne.symm h]
  | cons e t ih =>
    obtain ⟨k', v'⟩ := e
    unfold kvSet
    split
    · simp [kvGet, Ne.symm h]
    · split
      · rename_i h'; subst h'; simp [kvGet, Ne.symm h]
      · simp [kvGet, ih]

@[simp] theorem kvGet_kvDel_same {α : Type} (m : List (Nat × α)) (k : Nat) : kvGet (kvDel m k) k = none := by
  induction m with
  | nil => rfl
  | cons e t ih =>
    obtain ⟨k', v'⟩ := e
    unfold kvDel
    split
    · exact ih
    · rename_i h; simp [kvGet, h, ih]

theorem kvGet_kvDel_ne {α : Type} (m : List (Nat × α)) (k j : Nat) (h : j ≠ k) : kvGet (kvDel m k) j = kvGet m j := by
  induction m with
  | nil => rfl
  | cons e t ih =>
    obtain ⟨k', v'⟩ := e
    unfold kvDel
    split
    · rename_i h'; subst h'; simp [kvGet, Ne.symm h, ih]
    · simp [kvGet, ih]

/-- Every key of a map lies above a bound. -/
def kvAbove {α : Type} (b : Nat) (m : List (Nat × α)) : Prop := ∀ e ∈ m, b < e.1

/-- A sorted map is a head whose key lies below all the others, and a sorted tail. -/
theorem kvSorted_cons {α : Type} (k : Nat) (v : α) (m : List (Nat × α)) :
    kvSorted ((k, v) :: m) = true ↔ kvAbove k m ∧ kvSorted m = true := by
  induction m generalizing k v with
  | nil => simp [kvSorted, kvAbove]
  | cons e t ih =>
    obtain ⟨k', v'⟩ := e
    show (decide (k < k') && kvSorted ((k', v') :: t)) = true ↔ _
    rw [Bool.and_eq_true, decide_eq_true_eq, ih k' v']
    constructor
    · rintro ⟨h, ha, hs⟩
      refine ⟨?_, ha, hs⟩
      intro e he
      rcases List.mem_cons.mp he with rfl | he
      · exact h
      · exact Nat.lt_trans h (ha e he)
    · rintro ⟨ha, hb, hs⟩
      exact ⟨ha (k', v') (List.mem_cons_self ..), hb, hs⟩

theorem kvAbove_kvSet {α : Type} (b k : Nat) (v : α) (m : List (Nat × α)) (h : kvAbove b m) (hk : b < k) : kvAbove b (kvSet m k v) := by
  induction m with
  | nil => intro e he; simp [kvSet] at he; subst he; exact hk
  | cons e t ih =>
    obtain ⟨k', v'⟩ := e
    have ht : kvAbove b t := fun x hx => h x (List.mem_cons_of_mem _ hx)
    have h0 : b < k' := h (k', v') (List.mem_cons_self ..)
    unfold kvSet
    split
    · intro x hx
      rcases List.mem_cons.mp hx with rfl | hx
      · exact hk
      · exact h x hx
    · split
      · intro x hx
        rcases List.mem_cons.mp hx with rfl | hx
        · exact hk
        · exact ht x hx
      · intro x hx
        rcases List.mem_cons.mp hx with rfl | hx
        · exact h0
        · exact ih ht x hx

theorem kvAbove_kvDel {α : Type} (b k : Nat) (m : List (Nat × α)) (h : kvAbove b m) : kvAbove b (kvDel m k) := by
  induction m with
  | nil => exact h
  | cons e t ih =>
    obtain ⟨k', v'⟩ := e
    have ht : kvAbove b t := fun x hx => h x (List.mem_cons_of_mem _ hx)
    unfold kvDel
    split
    · exact ih ht
    · intro x hx
      rcases List.mem_cons.mp hx with rfl | hx
      · exact h _ (List.mem_cons_self ..)
      · exact ih ht x hx

/-- Putting a value keeps the keys rising. -/
theorem kvSorted_kvSet {α : Type} (m : List (Nat × α)) (k : Nat) (v : α) (h : kvSorted m = true) : kvSorted (kvSet m k v) = true := by
  induction m with
  | nil => rfl
  | cons e t ih =>
    obtain ⟨k', v'⟩ := e
    have hc := (kvSorted_cons k' v' t).mp h
    unfold kvSet
    split
    · rename_i hk
      refine (kvSorted_cons k v _).mpr ⟨?_, h⟩
      intro x hx
      rcases List.mem_cons.mp hx with rfl | hx
      · exact hk
      · exact Nat.lt_trans hk (hc.1 x hx)
    · split
      · rename_i hk; subst hk; exact (kvSorted_cons _ v t).mpr hc
      · rename_i h1 h2
        exact (kvSorted_cons k' v' _).mpr ⟨kvAbove_kvSet k' k v t hc.1 (by omega), ih hc.2⟩

/-- Removing a key keeps the keys rising. -/
theorem kvSorted_kvDel {α : Type} (m : List (Nat × α)) (k : Nat) (h : kvSorted m = true) : kvSorted (kvDel m k) = true := by
  induction m with
  | nil => rfl
  | cons e t ih =>
    obtain ⟨k', v'⟩ := e
    have hc := (kvSorted_cons k' v' t).mp h
    unfold kvDel
    split
    · exact ih hc.2
    · exact (kvSorted_cons k' v' _).mpr ⟨kvAbove_kvDel k' k t hc.1, ih hc.2⟩

/-! ### Byte memories -/

@[simp] theorem memGet_nil (a : Nat) : memGet [] a = 0 := rfl

/-- A byte that has just been written reads back. -/
@[simp] theorem memGet_memSet_same (m : Memory) (a : Nat) (b : Byte) : memGet (memSet m a b) a = b := by
  unfold memGet memSet
  split
  · rename_i h; simp [h]
  · simp

/-- A write leaves every other byte alone. -/
theorem memGet_memSet_ne (m : Memory) (a c : Nat) (b : Byte) (h : c ≠ a) : memGet (memSet m a b) c = memGet m c := by
  unfold memGet memSet
  split
  · rw [kvGet_kvDel_ne m a c h]
  · rw [kvGet_kvSet_ne m a c b h]

/-- A write of several bytes leaves every byte outside its range alone. -/
theorem memGet_memWrite_out (l : List Byte) (m : Memory) (a c : Nat) (h : c < a ∨ a + l.length ≤ c) : memGet (memWrite m a l) c = memGet m c := by
  induction l generalizing m a with
  | nil => rfl
  | cons b t ih =>
    have hl : (b :: t).length = t.length + 1 := rfl
    unfold memWrite
    rw [ih (memSet m a b) (a + 1) (by omega), memGet_memSet_ne m a c b (by omega)]

/-- A write of several bytes reads back byte by byte. -/
theorem memGet_memWrite_in (l : List Byte) (m : Memory) (a i : Nat) (h : i < l.length) : memGet (memWrite m a l) (a + i) = l[i] := by
  induction l generalizing m a i with
  | nil => exact absurd h (Nat.not_lt_zero i)
  | cons b t ih =>
    unfold memWrite
    cases i with
    | zero => rw [memGet_memWrite_out t _ (a + 1) (a + 0) (by omega)]; simp
    | succ i =>
      have := ih (memSet m a b) (a + 1) i (by simpa using h)
      simpa [Nat.add_assoc, Nat.add_comm 1 i] using this

theorem all_kvSet {α : Type} (p : Nat × α → Bool) (m : List (Nat × α)) (k : Nat) (v : α) (h : m.all p = true) (hv : p (k, v) = true) :
    (kvSet m k v).all p = true := by
  induction m with
  | nil => simp [kvSet, hv]
  | cons e t ih =>
    obtain ⟨k', v'⟩ := e
    rw [List.all_cons, Bool.and_eq_true] at h
    unfold kvSet
    split
    · simp [List.all_cons, hv, h.1, h.2]
    · split
      · simp [List.all_cons, hv, h.2]
      · simp [List.all_cons, h.1, ih h.2]

theorem all_kvDel {α : Type} (p : Nat × α → Bool) (m : List (Nat × α)) (k : Nat) (h : m.all p = true) : (kvDel m k).all p = true := by
  induction m with
  | nil => rfl
  | cons e t ih =>
    obtain ⟨k', v'⟩ := e
    rw [List.all_cons, Bool.and_eq_true] at h
    unfold kvDel
    split
    · exact ih h.2
    · simp [List.all_cons, h.1, ih h.2]

/-- Writing a byte keeps the canonical form. -/
theorem Memory.wf_memSet (m : Memory) (a : Nat) (b : Byte) (h : m.wf = true) : Memory.wf (memSet m a b) = true := by
  unfold Memory.wf at h ⊢
  rw [Bool.and_eq_true] at h ⊢
  unfold memSet
  split
  · exact ⟨kvSorted_kvDel m a h.1, all_kvDel _ m a h.2⟩
  · rename_i hb; exact ⟨kvSorted_kvSet m a b h.1, all_kvSet _ m a b h.2 (by simpa using hb)⟩

/-- Writing bytes keeps the canonical form. -/
theorem Memory.wf_memWrite (l : List Byte) (m : Memory) (a : Nat) (h : m.wf = true) : Memory.wf (memWrite m a l) = true := by
  induction l generalizing m a with
  | nil => exact h
  | cons b t ih => exact ih _ _ (Memory.wf_memSet m a b h)

/-- A memory in canonical form that a filter of addresses leaves is in canonical form. -/
theorem kvSorted_filter {α : Type} (p : Nat × α → Bool) (m : List (Nat × α)) (h : kvSorted m = true) : kvSorted (m.filter p) = true := by
  induction m with
  | nil => rfl
  | cons e t ih =>
    obtain ⟨k', v'⟩ := e
    have hc := (kvSorted_cons k' v' t).mp h
    rw [List.filter_cons]
    split
    · exact (kvSorted_cons k' v' _).mpr ⟨fun x hx => hc.1 x (List.mem_filter.mp hx).1, ih hc.2⟩
    · exact ih hc.2

theorem Memory.wf_filter (p : Nat × Byte → Bool) (m : Memory) (h : m.wf = true) : Memory.wf (m.filter p) = true := by
  unfold Memory.wf at h ⊢
  rw [Bool.and_eq_true] at h ⊢
  refine ⟨kvSorted_filter p m h.1, ?_⟩
  rw [List.all_eq_true] at h ⊢
  exact fun x hx => h.2 x (List.mem_filter.mp hx).1

end Sys2Proof.Machine
end

