-- ==== Sys2Proof/Laws/State.lean ====
section
/-! SUPPORT. What each basic update of the state leaves alone: one lemma for each update and field (the queue has its own file). -/

namespace Sys2Proof.Machine

/-! ### fset -/

@[simp] theorem State.fset_shadow (s : State) (f : Fld) (v : Nat) : (s.fset f v).shadow = s.shadow := rfl
@[simp] theorem State.fset_shadowAt (s : State) (f : Fld) (v : Nat) : (s.fset f v).shadowAt = s.shadowAt := rfl
@[simp] theorem State.fset_snap (s : State) (f : Fld) (v : Nat) : (s.fset f v).snap = s.snap := rfl
@[simp] theorem State.fset_aonQ (s : State) (f : Fld) (v : Nat) : (s.fset f v).aonQ = s.aonQ := rfl
@[simp] theorem State.fset_aonWait (s : State) (f : Fld) (v : Nat) : (s.fset f v).aonWait = s.aonWait := rfl
@[simp] theorem State.fset_tbQ (s : State) (f : Fld) (v : Nat) : (s.fset f v).tbQ = s.tbQ := rfl
@[simp] theorem State.fset_freeCtr (s : State) (f : Fld) (v : Nat) : (s.fset f v).freeCtr = s.freeCtr := rfl
@[simp] theorem State.fset_tick (s : State) (f : Fld) (v : Nat) : (s.fset f v).tick = s.tick := rfl
@[simp] theorem State.fset_timeFx (s : State) (f : Fld) (v : Nat) : (s.fset f v).timeFx = s.timeFx := rfl
@[simp] theorem State.fset_hist (s : State) (f : Fld) (v : Nat) : (s.fset f v).hist = s.hist := rfl
@[simp] theorem State.fset_faultQ (s : State) (f : Fld) (v : Nat) : (s.fset f v).faultQ = s.faultQ := rfl
@[simp] theorem State.fset_ex (s : State) (f : Fld) (v : Nat) : (s.fset f v).ex = s.ex := rfl
@[simp] theorem State.fset_led (s : State) (f : Fld) (v : Nat) : (s.fset f v).led = s.led := rfl
@[simp] theorem State.fset_jrn (s : State) (f : Fld) (v : Nat) : (s.fset f v).jrn = s.jrn := rfl
@[simp] theorem State.fset_ho (s : State) (f : Fld) (v : Nat) : (s.fset f v).ho = s.ho := rfl
@[simp] theorem State.fset_host (s : State) (f : Fld) (v : Nat) : (s.fset f v).host = s.host := rfl
@[simp] theorem State.fset_dma (s : State) (f : Fld) (v : Nat) : (s.fset f v).dma = s.dma := rfl
@[simp] theorem State.fset_mem (s : State) (f : Fld) (v : Nat) : (s.fset f v).mem = s.mem := rfl
@[simp] theorem State.fset_stn (s : State) (f : Fld) (v : Nat) : (s.fset f v).stn = s.stn := rfl
@[simp] theorem State.fset_stnx (s : State) (f : Fld) (v : Nat) : (s.fset f v).stnx = s.stnx := rfl
@[simp] theorem State.fset_ppos (s : State) (f : Fld) (v : Nat) : (s.fset f v).ppos = s.ppos := rfl
@[simp] theorem State.fset_needed (s : State) (f : Fld) (v : Nat) : (s.fset f v).needed = s.needed := rfl
@[simp] theorem State.fset_drv (s : State) (f : Fld) (v : Nat) : (s.fset f v).drv = s.drv := rfl
@[simp] theorem State.fset_axs (s : State) (f : Fld) (v : Nat) : (s.fset f v).axs = s.axs := rfl
@[simp] theorem State.fset_adcAt (s : State) (f : Fld) (v : Nat) : (s.fset f v).adcAt = s.adcAt := rfl
@[simp] theorem State.fset_loop (s : State) (f : Fld) (v : Nat) : (s.fset f v).loop = s.loop := rfl
@[simp] theorem State.fset_hvoHigh (s : State) (f : Fld) (v : Nat) : (s.fset f v).hvoHigh = s.hvoHigh := rfl
@[simp] theorem State.fset_fus (s : State) (f : Fld) (v : Nat) : (s.fset f v).fus = s.fus := rfl
@[simp] theorem State.fset_fuserEn (s : State) (f : Fld) (v : Nat) : (s.fset f v).fuserEn = s.fuserEn := rfl
@[simp] theorem State.fset_adc (s : State) (f : Fld) (v : Nat) : (s.fset f v).adc = s.adc := rfl
@[simp] theorem State.fset_net (s : State) (f : Fld) (v : Nat) : (s.fset f v).net = s.net := rfl
@[simp] theorem State.fset_power (s : State) (f : Fld) (v : Nat) : (s.fset f v).power = s.power := rfl
@[simp] theorem State.fset_rail (s : State) (f : Fld) (v : Nat) : (s.fset f v).rail = s.rail := rfl
@[simp] theorem State.fset_flt (s : State) (f : Fld) (v : Nat) : (s.fset f v).flt = s.flt := rfl
@[simp] theorem State.fset_recd (s : State) (f : Fld) (v : Nat) : (s.fset f v).recd = s.recd := rfl
@[simp] theorem State.fset_upd (s : State) (f : Fld) (v : Nat) : (s.fset f v).upd = s.upd := rfl
@[simp] theorem State.fset_units (s : State) (f : Fld) (v : Nat) : (s.fset f v).units = s.units := rfl
@[simp] theorem State.fset_tap (s : State) (f : Fld) (v : Nat) : (s.fset f v).tap = s.tap := rfl

/-! ### setTask -/

@[simp] theorem State.setTask_fields (s : State) (i : Nat) (t : Task) : (s.setTask i t).fields = s.fields := rfl
@[simp] theorem State.setTask_shadow (s : State) (i : Nat) (t : Task) : (s.setTask i t).shadow = s.shadow := rfl
@[simp] theorem State.setTask_shadowAt (s : State) (i : Nat) (t : Task) : (s.setTask i t).shadowAt = s.shadowAt := rfl
@[simp] theorem State.setTask_snap (s : State) (i : Nat) (t : Task) : (s.setTask i t).snap = s.snap := rfl
@[simp] theorem State.setTask_aonQ (s : State) (i : Nat) (t : Task) : (s.setTask i t).aonQ = s.aonQ := rfl
@[simp] theorem State.setTask_aonWait (s : State) (i : Nat) (t : Task) : (s.setTask i t).aonWait = s.aonWait := rfl
@[simp] theorem State.setTask_tbQ (s : State) (i : Nat) (t : Task) : (s.setTask i t).tbQ = s.tbQ := rfl
@[simp] theorem State.setTask_freeCtr (s : State) (i : Nat) (t : Task) : (s.setTask i t).freeCtr = s.freeCtr := rfl
@[simp] theorem State.setTask_tick (s : State) (i : Nat) (t : Task) : (s.setTask i t).tick = s.tick := rfl
@[simp] theorem State.setTask_timeFx (s : State) (i : Nat) (t : Task) : (s.setTask i t).timeFx = s.timeFx := rfl
@[simp] theorem State.setTask_hist (s : State) (i : Nat) (t : Task) : (s.setTask i t).hist = s.hist := rfl
@[simp] theorem State.setTask_faultQ (s : State) (i : Nat) (t : Task) : (s.setTask i t).faultQ = s.faultQ := rfl
@[simp] theorem State.setTask_led (s : State) (i : Nat) (t : Task) : (s.setTask i t).led = s.led := rfl
@[simp] theorem State.setTask_jrn (s : State) (i : Nat) (t : Task) : (s.setTask i t).jrn = s.jrn := rfl
@[simp] theorem State.setTask_ho (s : State) (i : Nat) (t : Task) : (s.setTask i t).ho = s.ho := rfl
@[simp] theorem State.setTask_host (s : State) (i : Nat) (t : Task) : (s.setTask i t).host = s.host := rfl
@[simp] theorem State.setTask_dma (s : State) (i : Nat) (t : Task) : (s.setTask i t).dma = s.dma := rfl
@[simp] theorem State.setTask_mem (s : State) (i : Nat) (t : Task) : (s.setTask i t).mem = s.mem := rfl
@[simp] theorem State.setTask_stn (s : State) (i : Nat) (t : Task) : (s.setTask i t).stn = s.stn := rfl
@[simp] theorem State.setTask_stnx (s : State) (i : Nat) (t : Task) : (s.setTask i t).stnx = s.stnx := rfl
@[simp] theorem State.setTask_ppos (s : State) (i : Nat) (t : Task) : (s.setTask i t).ppos = s.ppos := rfl
@[simp] theorem State.setTask_needed (s : State) (i : Nat) (t : Task) : (s.setTask i t).needed = s.needed := rfl
@[simp] theorem State.setTask_drv (s : State) (i : Nat) (t : Task) : (s.setTask i t).drv = s.drv := rfl
@[simp] theorem State.setTask_axs (s : State) (i : Nat) (t : Task) : (s.setTask i t).axs = s.axs := rfl
@[simp] theorem State.setTask_adcAt (s : State) (i : Nat) (t : Task) : (s.setTask i t).adcAt = s.adcAt := rfl
@[simp] theorem State.setTask_loop (s : State) (i : Nat) (t : Task) : (s.setTask i t).loop = s.loop := rfl
@[simp] theorem State.setTask_hvoHigh (s : State) (i : Nat) (t : Task) : (s.setTask i t).hvoHigh = s.hvoHigh := rfl
@[simp] theorem State.setTask_fus (s : State) (i : Nat) (t : Task) : (s.setTask i t).fus = s.fus := rfl
@[simp] theorem State.setTask_fuserEn (s : State) (i : Nat) (t : Task) : (s.setTask i t).fuserEn = s.fuserEn := rfl
@[simp] theorem State.setTask_adc (s : State) (i : Nat) (t : Task) : (s.setTask i t).adc = s.adc := rfl
@[simp] theorem State.setTask_net (s : State) (i : Nat) (t : Task) : (s.setTask i t).net = s.net := rfl
@[simp] theorem State.setTask_power (s : State) (i : Nat) (t : Task) : (s.setTask i t).power = s.power := rfl
@[simp] theorem State.setTask_rail (s : State) (i : Nat) (t : Task) : (s.setTask i t).rail = s.rail := rfl
@[simp] theorem State.setTask_flt (s : State) (i : Nat) (t : Task) : (s.setTask i t).flt = s.flt := rfl
@[simp] theorem State.setTask_recd (s : State) (i : Nat) (t : Task) : (s.setTask i t).recd = s.recd := rfl
@[simp] theorem State.setTask_upd (s : State) (i : Nat) (t : Task) : (s.setTask i t).upd = s.upd := rfl
@[simp] theorem State.setTask_units (s : State) (i : Nat) (t : Task) : (s.setTask i t).units = s.units := rfl
@[simp] theorem State.setTask_tap (s : State) (i : Nat) (t : Task) : (s.setTask i t).tap = s.tap := rfl
@[simp] theorem State.setTask_fget (s : State) (i : Nat) (t : Task) (g : Fld) : (s.setTask i t).fget g = s.fget g := rfl
@[simp] theorem State.setTask_bit (s : State) (i : Nat) (t : Task) (g : Fld) : (s.setTask i t).bit g = s.bit g := rfl

/-! ### setRunning -/

@[simp] theorem State.setRunning_fields (s : State) (p : Nat) (i : Option Nat) : (s.setRunning p i).fields = s.fields := rfl
@[simp] theorem State.setRunning_shadow (s : State) (p : Nat) (i : Option Nat) : (s.setRunning p i).shadow = s.shadow := rfl
@[simp] theorem State.setRunning_shadowAt (s : State) (p : Nat) (i : Option Nat) : (s.setRunning p i).shadowAt = s.shadowAt := rfl
@[simp] theorem State.setRunning_snap (s : State) (p : Nat) (i : Option Nat) : (s.setRunning p i).snap = s.snap := rfl
@[simp] theorem State.setRunning_aonQ (s : State) (p : Nat) (i : Option Nat) : (s.setRunning p i).aonQ = s.aonQ := rfl
@[simp] theorem State.setRunning_aonWait (s : State) (p : Nat) (i : Option Nat) : (s.setRunning p i).aonWait = s.aonWait := rfl
@[simp] theorem State.setRunning_tbQ (s : State) (p : Nat) (i : Option Nat) : (s.setRunning p i).tbQ = s.tbQ := rfl
@[simp] theorem State.setRunning_freeCtr (s : State) (p : Nat) (i : Option Nat) : (s.setRunning p i).freeCtr = s.freeCtr := rfl
@[simp] theorem State.setRunning_tick (s : State) (p : Nat) (i : Option Nat) : (s.setRunning p i).tick = s.tick := rfl
@[simp] theorem State.setRunning_timeFx (s : State) (p : Nat) (i : Option Nat) : (s.setRunning p i).timeFx = s.timeFx := rfl
@[simp] theorem State.setRunning_hist (s : State) (p : Nat) (i : Option Nat) : (s.setRunning p i).hist = s.hist := rfl
@[simp] theorem State.setRunning_faultQ (s : State) (p : Nat) (i : Option Nat) : (s.setRunning p i).faultQ = s.faultQ := rfl
@[simp] theorem State.setRunning_led (s : State) (p : Nat) (i : Option Nat) : (s.setRunning p i).led = s.led := rfl
@[simp] theorem State.setRunning_jrn (s : State) (p : Nat) (i : Option Nat) : (s.setRunning p i).jrn = s.jrn := rfl
@[simp] theorem State.setRunning_ho (s : State) (p : Nat) (i : Option Nat) : (s.setRunning p i).ho = s.ho := rfl
@[simp] theorem State.setRunning_host (s : State) (p : Nat) (i : Option Nat) : (s.setRunning p i).host = s.host := rfl
@[simp] theorem State.setRunning_dma (s : State) (p : Nat) (i : Option Nat) : (s.setRunning p i).dma = s.dma := rfl
@[simp] theorem State.setRunning_mem (s : State) (p : Nat) (i : Option Nat) : (s.setRunning p i).mem = s.mem := rfl
@[simp] theorem State.setRunning_stn (s : State) (p : Nat) (i : Option Nat) : (s.setRunning p i).stn = s.stn := rfl
@[simp] theorem State.setRunning_stnx (s : State) (p : Nat) (i : Option Nat) : (s.setRunning p i).stnx = s.stnx := rfl
@[simp] theorem State.setRunning_ppos (s : State) (p : Nat) (i : Option Nat) : (s.setRunning p i).ppos = s.ppos := rfl
@[simp] theorem State.setRunning_needed (s : State) (p : Nat) (i : Option Nat) : (s.setRunning p i).needed = s.needed := rfl
@[simp] theorem State.setRunning_drv (s : State) (p : Nat) (i : Option Nat) : (s.setRunning p i).drv = s.drv := rfl
@[simp] theorem State.setRunning_axs (s : State) (p : Nat) (i : Option Nat) : (s.setRunning p i).axs = s.axs := rfl
@[simp] theorem State.setRunning_adcAt (s : State) (p : Nat) (i : Option Nat) : (s.setRunning p i).adcAt = s.adcAt := rfl
@[simp] theorem State.setRunning_loop (s : State) (p : Nat) (i : Option Nat) : (s.setRunning p i).loop = s.loop := rfl
@[simp] theorem State.setRunning_hvoHigh (s : State) (p : Nat) (i : Option Nat) : (s.setRunning p i).hvoHigh = s.hvoHigh := rfl
@[simp] theorem State.setRunning_fus (s : State) (p : Nat) (i : Option Nat) : (s.setRunning p i).fus = s.fus := rfl
@[simp] theorem State.setRunning_fuserEn (s : State) (p : Nat) (i : Option Nat) : (s.setRunning p i).fuserEn = s.fuserEn := rfl
@[simp] theorem State.setRunning_adc (s : State) (p : Nat) (i : Option Nat) : (s.setRunning p i).adc = s.adc := rfl
@[simp] theorem State.setRunning_net (s : State) (p : Nat) (i : Option Nat) : (s.setRunning p i).net = s.net := rfl
@[simp] theorem State.setRunning_power (s : State) (p : Nat) (i : Option Nat) : (s.setRunning p i).power = s.power := rfl
@[simp] theorem State.setRunning_rail (s : State) (p : Nat) (i : Option Nat) : (s.setRunning p i).rail = s.rail := rfl
@[simp] theorem State.setRunning_flt (s : State) (p : Nat) (i : Option Nat) : (s.setRunning p i).flt = s.flt := rfl
@[simp] theorem State.setRunning_recd (s : State) (p : Nat) (i : Option Nat) : (s.setRunning p i).recd = s.recd := rfl
@[simp] theorem State.setRunning_upd (s : State) (p : Nat) (i : Option Nat) : (s.setRunning p i).upd = s.upd := rfl
@[simp] theorem State.setRunning_units (s : State) (p : Nat) (i : Option Nat) : (s.setRunning p i).units = s.units := rfl
@[simp] theorem State.setRunning_tap (s : State) (p : Nat) (i : Option Nat) : (s.setRunning p i).tap = s.tap := rfl
@[simp] theorem State.setRunning_fget (s : State) (p : Nat) (i : Option Nat) (g : Fld) : (s.setRunning p i).fget g = s.fget g := rfl
@[simp] theorem State.setRunning_bit (s : State) (p : Nat) (i : Option Nat) (g : Fld) : (s.setRunning p i).bit g = s.bit g := rfl

/-! ### setChan -/

@[simp] theorem State.setChan_fields (s : State) (ch : Nat) (l : List Word) : (s.setChan ch l).fields = s.fields := rfl
@[simp] theorem State.setChan_shadow (s : State) (ch : Nat) (l : List Word) : (s.setChan ch l).shadow = s.shadow := rfl
@[simp] theorem State.setChan_shadowAt (s : State) (ch : Nat) (l : List Word) : (s.setChan ch l).shadowAt = s.shadowAt := rfl
@[simp] theorem State.setChan_snap (s : State) (ch : Nat) (l : List Word) : (s.setChan ch l).snap = s.snap := rfl
@[simp] theorem State.setChan_aonQ (s : State) (ch : Nat) (l : List Word) : (s.setChan ch l).aonQ = s.aonQ := rfl
@[simp] theorem State.setChan_aonWait (s : State) (ch : Nat) (l : List Word) : (s.setChan ch l).aonWait = s.aonWait := rfl
@[simp] theorem State.setChan_tbQ (s : State) (ch : Nat) (l : List Word) : (s.setChan ch l).tbQ = s.tbQ := rfl
@[simp] theorem State.setChan_freeCtr (s : State) (ch : Nat) (l : List Word) : (s.setChan ch l).freeCtr = s.freeCtr := rfl
@[simp] theorem State.setChan_tick (s : State) (ch : Nat) (l : List Word) : (s.setChan ch l).tick = s.tick := rfl
@[simp] theorem State.setChan_timeFx (s : State) (ch : Nat) (l : List Word) : (s.setChan ch l).timeFx = s.timeFx := rfl
@[simp] theorem State.setChan_hist (s : State) (ch : Nat) (l : List Word) : (s.setChan ch l).hist = s.hist := rfl
@[simp] theorem State.setChan_faultQ (s : State) (ch : Nat) (l : List Word) : (s.setChan ch l).faultQ = s.faultQ := rfl
@[simp] theorem State.setChan_led (s : State) (ch : Nat) (l : List Word) : (s.setChan ch l).led = s.led := rfl
@[simp] theorem State.setChan_jrn (s : State) (ch : Nat) (l : List Word) : (s.setChan ch l).jrn = s.jrn := rfl
@[simp] theorem State.setChan_ho (s : State) (ch : Nat) (l : List Word) : (s.setChan ch l).ho = s.ho := rfl
@[simp] theorem State.setChan_host (s : State) (ch : Nat) (l : List Word) : (s.setChan ch l).host = s.host := rfl
@[simp] theorem State.setChan_dma (s : State) (ch : Nat) (l : List Word) : (s.setChan ch l).dma = s.dma := rfl
@[simp] theorem State.setChan_mem (s : State) (ch : Nat) (l : List Word) : (s.setChan ch l).mem = s.mem := rfl
@[simp] theorem State.setChan_stn (s : State) (ch : Nat) (l : List Word) : (s.setChan ch l).stn = s.stn := rfl
@[simp] theorem State.setChan_stnx (s : State) (ch : Nat) (l : List Word) : (s.setChan ch l).stnx = s.stnx := rfl
@[simp] theorem State.setChan_ppos (s : State) (ch : Nat) (l : List Word) : (s.setChan ch l).ppos = s.ppos := rfl
@[simp] theorem State.setChan_needed (s : State) (ch : Nat) (l : List Word) : (s.setChan ch l).needed = s.needed := rfl
@[simp] theorem State.setChan_drv (s : State) (ch : Nat) (l : List Word) : (s.setChan ch l).drv = s.drv := rfl
@[simp] theorem State.setChan_axs (s : State) (ch : Nat) (l : List Word) : (s.setChan ch l).axs = s.axs := rfl
@[simp] theorem State.setChan_adcAt (s : State) (ch : Nat) (l : List Word) : (s.setChan ch l).adcAt = s.adcAt := rfl
@[simp] theorem State.setChan_loop (s : State) (ch : Nat) (l : List Word) : (s.setChan ch l).loop = s.loop := rfl
@[simp] theorem State.setChan_hvoHigh (s : State) (ch : Nat) (l : List Word) : (s.setChan ch l).hvoHigh = s.hvoHigh := rfl
@[simp] theorem State.setChan_fus (s : State) (ch : Nat) (l : List Word) : (s.setChan ch l).fus = s.fus := rfl
@[simp] theorem State.setChan_fuserEn (s : State) (ch : Nat) (l : List Word) : (s.setChan ch l).fuserEn = s.fuserEn := rfl
@[simp] theorem State.setChan_adc (s : State) (ch : Nat) (l : List Word) : (s.setChan ch l).adc = s.adc := rfl
@[simp] theorem State.setChan_net (s : State) (ch : Nat) (l : List Word) : (s.setChan ch l).net = s.net := rfl
@[simp] theorem State.setChan_power (s : State) (ch : Nat) (l : List Word) : (s.setChan ch l).power = s.power := rfl
@[simp] theorem State.setChan_rail (s : State) (ch : Nat) (l : List Word) : (s.setChan ch l).rail = s.rail := rfl
@[simp] theorem State.setChan_flt (s : State) (ch : Nat) (l : List Word) : (s.setChan ch l).flt = s.flt := rfl
@[simp] theorem State.setChan_recd (s : State) (ch : Nat) (l : List Word) : (s.setChan ch l).recd = s.recd := rfl
@[simp] theorem State.setChan_upd (s : State) (ch : Nat) (l : List Word) : (s.setChan ch l).upd = s.upd := rfl
@[simp] theorem State.setChan_units (s : State) (ch : Nat) (l : List Word) : (s.setChan ch l).units = s.units := rfl
@[simp] theorem State.setChan_tap (s : State) (ch : Nat) (l : List Word) : (s.setChan ch l).tap = s.tap := rfl
@[simp] theorem State.setChan_fget (s : State) (ch : Nat) (l : List Word) (g : Fld) : (s.setChan ch l).fget g = s.fget g := rfl
@[simp] theorem State.setChan_bit (s : State) (ch : Nat) (l : List Word) (g : Fld) : (s.setChan ch l).bit g = s.bit g := rfl

/-! ### sendFault -/

@[simp] theorem State.sendFault_fields (s : State) (src kind detail : Nat) : (s.sendFault src kind detail).fields = s.fields := rfl
@[simp] theorem State.sendFault_shadow (s : State) (src kind detail : Nat) : (s.sendFault src kind detail).shadow = s.shadow := rfl
@[simp] theorem State.sendFault_shadowAt (s : State) (src kind detail : Nat) : (s.sendFault src kind detail).shadowAt = s.shadowAt := rfl
@[simp] theorem State.sendFault_snap (s : State) (src kind detail : Nat) : (s.sendFault src kind detail).snap = s.snap := rfl
@[simp] theorem State.sendFault_aonQ (s : State) (src kind detail : Nat) : (s.sendFault src kind detail).aonQ = s.aonQ := rfl
@[simp] theorem State.sendFault_aonWait (s : State) (src kind detail : Nat) : (s.sendFault src kind detail).aonWait = s.aonWait := rfl
@[simp] theorem State.sendFault_tbQ (s : State) (src kind detail : Nat) : (s.sendFault src kind detail).tbQ = s.tbQ := rfl
@[simp] theorem State.sendFault_freeCtr (s : State) (src kind detail : Nat) : (s.sendFault src kind detail).freeCtr = s.freeCtr := rfl
@[simp] theorem State.sendFault_tick (s : State) (src kind detail : Nat) : (s.sendFault src kind detail).tick = s.tick := rfl
@[simp] theorem State.sendFault_timeFx (s : State) (src kind detail : Nat) : (s.sendFault src kind detail).timeFx = s.timeFx := rfl
@[simp] theorem State.sendFault_hist (s : State) (src kind detail : Nat) : (s.sendFault src kind detail).hist = s.hist := rfl
@[simp] theorem State.sendFault_ex (s : State) (src kind detail : Nat) : (s.sendFault src kind detail).ex = s.ex := rfl
@[simp] theorem State.sendFault_led (s : State) (src kind detail : Nat) : (s.sendFault src kind detail).led = s.led := rfl
@[simp] theorem State.sendFault_jrn (s : State) (src kind detail : Nat) : (s.sendFault src kind detail).jrn = s.jrn := rfl
@[simp] theorem State.sendFault_ho (s : State) (src kind detail : Nat) : (s.sendFault src kind detail).ho = s.ho := rfl
@[simp] theorem State.sendFault_host (s : State) (src kind detail : Nat) : (s.sendFault src kind detail).host = s.host := rfl
@[simp] theorem State.sendFault_dma (s : State) (src kind detail : Nat) : (s.sendFault src kind detail).dma = s.dma := rfl
@[simp] theorem State.sendFault_mem (s : State) (src kind detail : Nat) : (s.sendFault src kind detail).mem = s.mem := rfl
@[simp] theorem State.sendFault_stn (s : State) (src kind detail : Nat) : (s.sendFault src kind detail).stn = s.stn := rfl
@[simp] theorem State.sendFault_stnx (s : State) (src kind detail : Nat) : (s.sendFault src kind detail).stnx = s.stnx := rfl
@[simp] theorem State.sendFault_ppos (s : State) (src kind detail : Nat) : (s.sendFault src kind detail).ppos = s.ppos := rfl
@[simp] theorem State.sendFault_needed (s : State) (src kind detail : Nat) : (s.sendFault src kind detail).needed = s.needed := rfl
@[simp] theorem State.sendFault_drv (s : State) (src kind detail : Nat) : (s.sendFault src kind detail).drv = s.drv := rfl
@[simp] theorem State.sendFault_axs (s : State) (src kind detail : Nat) : (s.sendFault src kind detail).axs = s.axs := rfl
@[simp] theorem State.sendFault_adcAt (s : State) (src kind detail : Nat) : (s.sendFault src kind detail).adcAt = s.adcAt := rfl
@[simp] theorem State.sendFault_loop (s : State) (src kind detail : Nat) : (s.sendFault src kind detail).loop = s.loop := rfl
@[simp] theorem State.sendFault_hvoHigh (s : State) (src kind detail : Nat) : (s.sendFault src kind detail).hvoHigh = s.hvoHigh := rfl
@[simp] theorem State.sendFault_fus (s : State) (src kind detail : Nat) : (s.sendFault src kind detail).fus = s.fus := rfl
@[simp] theorem State.sendFault_fuserEn (s : State) (src kind detail : Nat) : (s.sendFault src kind detail).fuserEn = s.fuserEn := rfl
@[simp] theorem State.sendFault_adc (s : State) (src kind detail : Nat) : (s.sendFault src kind detail).adc = s.adc := rfl
@[simp] theorem State.sendFault_net (s : State) (src kind detail : Nat) : (s.sendFault src kind detail).net = s.net := rfl
@[simp] theorem State.sendFault_power (s : State) (src kind detail : Nat) : (s.sendFault src kind detail).power = s.power := rfl
@[simp] theorem State.sendFault_rail (s : State) (src kind detail : Nat) : (s.sendFault src kind detail).rail = s.rail := rfl
@[simp] theorem State.sendFault_flt (s : State) (src kind detail : Nat) : (s.sendFault src kind detail).flt = s.flt := rfl
@[simp] theorem State.sendFault_recd (s : State) (src kind detail : Nat) : (s.sendFault src kind detail).recd = s.recd := rfl
@[simp] theorem State.sendFault_upd (s : State) (src kind detail : Nat) : (s.sendFault src kind detail).upd = s.upd := rfl
@[simp] theorem State.sendFault_units (s : State) (src kind detail : Nat) : (s.sendFault src kind detail).units = s.units := rfl
@[simp] theorem State.sendFault_tap (s : State) (src kind detail : Nat) : (s.sendFault src kind detail).tap = s.tap := rfl
@[simp] theorem State.sendFault_fget (s : State) (src kind detail : Nat) (g : Fld) : (s.sendFault src kind detail).fget g = s.fget g := rfl
@[simp] theorem State.sendFault_bit (s : State) (src kind detail : Nat) (g : Fld) : (s.sendFault src kind detail).bit g = s.bit g := rfl

/-! ### sendFaultC -/

@[simp] theorem State.sendFaultC_fields (s : State) (src kind detail cls : Nat) : (s.sendFaultC src kind detail cls).fields = s.fields := rfl
@[simp] theorem State.sendFaultC_shadow (s : State) (src kind detail cls : Nat) : (s.sendFaultC src kind detail cls).shadow = s.shadow := rfl
@[simp] theorem State.sendFaultC_shadowAt (s : State) (src kind detail cls : Nat) : (s.sendFaultC src kind detail cls).shadowAt = s.shadowAt := rfl
@[simp] theorem State.sendFaultC_snap (s : State) (src kind detail cls : Nat) : (s.sendFaultC src kind detail cls).snap = s.snap := rfl
@[simp] theorem State.sendFaultC_aonQ (s : State) (src kind detail cls : Nat) : (s.sendFaultC src kind detail cls).aonQ = s.aonQ := rfl
@[simp] theorem State.sendFaultC_aonWait (s : State) (src kind detail cls : Nat) : (s.sendFaultC src kind detail cls).aonWait = s.aonWait := rfl
@[simp] theorem State.sendFaultC_tbQ (s : State) (src kind detail cls : Nat) : (s.sendFaultC src kind detail cls).tbQ = s.tbQ := rfl
@[simp] theorem State.sendFaultC_freeCtr (s : State) (src kind detail cls : Nat) : (s.sendFaultC src kind detail cls).freeCtr = s.freeCtr := rfl
@[simp] theorem State.sendFaultC_tick (s : State) (src kind detail cls : Nat) : (s.sendFaultC src kind detail cls).tick = s.tick := rfl
@[simp] theorem State.sendFaultC_timeFx (s : State) (src kind detail cls : Nat) : (s.sendFaultC src kind detail cls).timeFx = s.timeFx := rfl
@[simp] theorem State.sendFaultC_hist (s : State) (src kind detail cls : Nat) : (s.sendFaultC src kind detail cls).hist = s.hist := rfl
@[simp] theorem State.sendFaultC_ex (s : State) (src kind detail cls : Nat) : (s.sendFaultC src kind detail cls).ex = s.ex := rfl
@[simp] theorem State.sendFaultC_led (s : State) (src kind detail cls : Nat) : (s.sendFaultC src kind detail cls).led = s.led := rfl
@[simp] theorem State.sendFaultC_jrn (s : State) (src kind detail cls : Nat) : (s.sendFaultC src kind detail cls).jrn = s.jrn := rfl
@[simp] theorem State.sendFaultC_ho (s : State) (src kind detail cls : Nat) : (s.sendFaultC src kind detail cls).ho = s.ho := rfl
@[simp] theorem State.sendFaultC_host (s : State) (src kind detail cls : Nat) : (s.sendFaultC src kind detail cls).host = s.host := rfl
@[simp] theorem State.sendFaultC_dma (s : State) (src kind detail cls : Nat) : (s.sendFaultC src kind detail cls).dma = s.dma := rfl
@[simp] theorem State.sendFaultC_mem (s : State) (src kind detail cls : Nat) : (s.sendFaultC src kind detail cls).mem = s.mem := rfl
@[simp] theorem State.sendFaultC_stn (s : State) (src kind detail cls : Nat) : (s.sendFaultC src kind detail cls).stn = s.stn := rfl
@[simp] theorem State.sendFaultC_stnx (s : State) (src kind detail cls : Nat) : (s.sendFaultC src kind detail cls).stnx = s.stnx := rfl
@[simp] theorem State.sendFaultC_ppos (s : State) (src kind detail cls : Nat) : (s.sendFaultC src kind detail cls).ppos = s.ppos := rfl
@[simp] theorem State.sendFaultC_needed (s : State) (src kind detail cls : Nat) : (s.sendFaultC src kind detail cls).needed = s.needed := rfl
@[simp] theorem State.sendFaultC_drv (s : State) (src kind detail cls : Nat) : (s.sendFaultC src kind detail cls).drv = s.drv := rfl
@[simp] theorem State.sendFaultC_axs (s : State) (src kind detail cls : Nat) : (s.sendFaultC src kind detail cls).axs = s.axs := rfl
@[simp] theorem State.sendFaultC_adcAt (s : State) (src kind detail cls : Nat) : (s.sendFaultC src kind detail cls).adcAt = s.adcAt := rfl
@[simp] theorem State.sendFaultC_loop (s : State) (src kind detail cls : Nat) : (s.sendFaultC src kind detail cls).loop = s.loop := rfl
@[simp] theorem State.sendFaultC_hvoHigh (s : State) (src kind detail cls : Nat) : (s.sendFaultC src kind detail cls).hvoHigh = s.hvoHigh := rfl
@[simp] theorem State.sendFaultC_fus (s : State) (src kind detail cls : Nat) : (s.sendFaultC src kind detail cls).fus = s.fus := rfl
@[simp] theorem State.sendFaultC_fuserEn (s : State) (src kind detail cls : Nat) : (s.sendFaultC src kind detail cls).fuserEn = s.fuserEn := rfl
@[simp] theorem State.sendFaultC_adc (s : State) (src kind detail cls : Nat) : (s.sendFaultC src kind detail cls).adc = s.adc := rfl
@[simp] theorem State.sendFaultC_net (s : State) (src kind detail cls : Nat) : (s.sendFaultC src kind detail cls).net = s.net := rfl
@[simp] theorem State.sendFaultC_power (s : State) (src kind detail cls : Nat) : (s.sendFaultC src kind detail cls).power = s.power := rfl
@[simp] theorem State.sendFaultC_rail (s : State) (src kind detail cls : Nat) : (s.sendFaultC src kind detail cls).rail = s.rail := rfl
@[simp] theorem State.sendFaultC_flt (s : State) (src kind detail cls : Nat) : (s.sendFaultC src kind detail cls).flt = s.flt := rfl
@[simp] theorem State.sendFaultC_recd (s : State) (src kind detail cls : Nat) : (s.sendFaultC src kind detail cls).recd = s.recd := rfl
@[simp] theorem State.sendFaultC_upd (s : State) (src kind detail cls : Nat) : (s.sendFaultC src kind detail cls).upd = s.upd := rfl
@[simp] theorem State.sendFaultC_units (s : State) (src kind detail cls : Nat) : (s.sendFaultC src kind detail cls).units = s.units := rfl
@[simp] theorem State.sendFaultC_tap (s : State) (src kind detail cls : Nat) : (s.sendFaultC src kind detail cls).tap = s.tap := rfl
@[simp] theorem State.sendFaultC_fget (s : State) (src kind detail cls : Nat) (g : Fld) : (s.sendFaultC src kind detail cls).fget g = s.fget g := rfl
@[simp] theorem State.sendFaultC_bit (s : State) (src kind detail cls : Nat) (g : Fld) : (s.sendFaultC src kind detail cls).bit g = s.bit g := rfl

/-! ### modStn -/

@[simp] theorem State.modStn_fields (s : State) (n : Nat) (f : Stn → Stn) : (s.modStn n f).fields = s.fields := rfl
@[simp] theorem State.modStn_shadow (s : State) (n : Nat) (f : Stn → Stn) : (s.modStn n f).shadow = s.shadow := rfl
@[simp] theorem State.modStn_shadowAt (s : State) (n : Nat) (f : Stn → Stn) : (s.modStn n f).shadowAt = s.shadowAt := rfl
@[simp] theorem State.modStn_snap (s : State) (n : Nat) (f : Stn → Stn) : (s.modStn n f).snap = s.snap := rfl
@[simp] theorem State.modStn_aonQ (s : State) (n : Nat) (f : Stn → Stn) : (s.modStn n f).aonQ = s.aonQ := rfl
@[simp] theorem State.modStn_aonWait (s : State) (n : Nat) (f : Stn → Stn) : (s.modStn n f).aonWait = s.aonWait := rfl
@[simp] theorem State.modStn_tbQ (s : State) (n : Nat) (f : Stn → Stn) : (s.modStn n f).tbQ = s.tbQ := rfl
@[simp] theorem State.modStn_freeCtr (s : State) (n : Nat) (f : Stn → Stn) : (s.modStn n f).freeCtr = s.freeCtr := rfl
@[simp] theorem State.modStn_tick (s : State) (n : Nat) (f : Stn → Stn) : (s.modStn n f).tick = s.tick := rfl
@[simp] theorem State.modStn_timeFx (s : State) (n : Nat) (f : Stn → Stn) : (s.modStn n f).timeFx = s.timeFx := rfl
@[simp] theorem State.modStn_hist (s : State) (n : Nat) (f : Stn → Stn) : (s.modStn n f).hist = s.hist := rfl
@[simp] theorem State.modStn_faultQ (s : State) (n : Nat) (f : Stn → Stn) : (s.modStn n f).faultQ = s.faultQ := rfl
@[simp] theorem State.modStn_ex (s : State) (n : Nat) (f : Stn → Stn) : (s.modStn n f).ex = s.ex := rfl
@[simp] theorem State.modStn_led (s : State) (n : Nat) (f : Stn → Stn) : (s.modStn n f).led = s.led := rfl
@[simp] theorem State.modStn_jrn (s : State) (n : Nat) (f : Stn → Stn) : (s.modStn n f).jrn = s.jrn := rfl
@[simp] theorem State.modStn_ho (s : State) (n : Nat) (f : Stn → Stn) : (s.modStn n f).ho = s.ho := rfl
@[simp] theorem State.modStn_host (s : State) (n : Nat) (f : Stn → Stn) : (s.modStn n f).host = s.host := rfl
@[simp] theorem State.modStn_dma (s : State) (n : Nat) (f : Stn → Stn) : (s.modStn n f).dma = s.dma := rfl
@[simp] theorem State.modStn_mem (s : State) (n : Nat) (f : Stn → Stn) : (s.modStn n f).mem = s.mem := rfl
@[simp] theorem State.modStn_stnx (s : State) (n : Nat) (f : Stn → Stn) : (s.modStn n f).stnx = s.stnx := rfl
@[simp] theorem State.modStn_ppos (s : State) (n : Nat) (f : Stn → Stn) : (s.modStn n f).ppos = s.ppos := rfl
@[simp] theorem State.modStn_needed (s : State) (n : Nat) (f : Stn → Stn) : (s.modStn n f).needed = s.needed := rfl
@[simp] theorem State.modStn_drv (s : State) (n : Nat) (f : Stn → Stn) : (s.modStn n f).drv = s.drv := rfl
@[simp] theorem State.modStn_axs (s : State) (n : Nat) (f : Stn → Stn) : (s.modStn n f).axs = s.axs := rfl
@[simp] theorem State.modStn_adcAt (s : State) (n : Nat) (f : Stn → Stn) : (s.modStn n f).adcAt = s.adcAt := rfl
@[simp] theorem State.modStn_loop (s : State) (n : Nat) (f : Stn → Stn) : (s.modStn n f).loop = s.loop := rfl
@[simp] theorem State.modStn_hvoHigh (s : State) (n : Nat) (f : Stn → Stn) : (s.modStn n f).hvoHigh = s.hvoHigh := rfl
@[simp] theorem State.modStn_fus (s : State) (n : Nat) (f : Stn → Stn) : (s.modStn n f).fus = s.fus := rfl
@[simp] theorem State.modStn_fuserEn (s : State) (n : Nat) (f : Stn → Stn) : (s.modStn n f).fuserEn = s.fuserEn := rfl
@[simp] theorem State.modStn_adc (s : State) (n : Nat) (f : Stn → Stn) : (s.modStn n f).adc = s.adc := rfl
@[simp] theorem State.modStn_net (s : State) (n : Nat) (f : Stn → Stn) : (s.modStn n f).net = s.net := rfl
@[simp] theorem State.modStn_power (s : State) (n : Nat) (f : Stn → Stn) : (s.modStn n f).power = s.power := rfl
@[simp] theorem State.modStn_rail (s : State) (n : Nat) (f : Stn → Stn) : (s.modStn n f).rail = s.rail := rfl
@[simp] theorem State.modStn_flt (s : State) (n : Nat) (f : Stn → Stn) : (s.modStn n f).flt = s.flt := rfl
@[simp] theorem State.modStn_recd (s : State) (n : Nat) (f : Stn → Stn) : (s.modStn n f).recd = s.recd := rfl
@[simp] theorem State.modStn_upd (s : State) (n : Nat) (f : Stn → Stn) : (s.modStn n f).upd = s.upd := rfl
@[simp] theorem State.modStn_units (s : State) (n : Nat) (f : Stn → Stn) : (s.modStn n f).units = s.units := rfl
@[simp] theorem State.modStn_tap (s : State) (n : Nat) (f : Stn → Stn) : (s.modStn n f).tap = s.tap := rfl
@[simp] theorem State.modStn_fget (s : State) (n : Nat) (f : Stn → Stn) (g : Fld) : (s.modStn n f).fget g = s.fget g := rfl
@[simp] theorem State.modStn_bit (s : State) (n : Nat) (f : Stn → Stn) (g : Fld) : (s.modStn n f).bit g = s.bit g := rfl

/-! ### modDrv -/

@[simp] theorem State.modDrv_fields (s : State) (n : Nat) (f : DrvSt → DrvSt) : (s.modDrv n f).fields = s.fields := rfl
@[simp] theorem State.modDrv_shadow (s : State) (n : Nat) (f : DrvSt → DrvSt) : (s.modDrv n f).shadow = s.shadow := rfl
@[simp] theorem State.modDrv_shadowAt (s : State) (n : Nat) (f : DrvSt → DrvSt) : (s.modDrv n f).shadowAt = s.shadowAt := rfl
@[simp] theorem State.modDrv_snap (s : State) (n : Nat) (f : DrvSt → DrvSt) : (s.modDrv n f).snap = s.snap := rfl
@[simp] theorem State.modDrv_aonQ (s : State) (n : Nat) (f : DrvSt → DrvSt) : (s.modDrv n f).aonQ = s.aonQ := rfl
@[simp] theorem State.modDrv_aonWait (s : State) (n : Nat) (f : DrvSt → DrvSt) : (s.modDrv n f).aonWait = s.aonWait := rfl
@[simp] theorem State.modDrv_tbQ (s : State) (n : Nat) (f : DrvSt → DrvSt) : (s.modDrv n f).tbQ = s.tbQ := rfl
@[simp] theorem State.modDrv_freeCtr (s : State) (n : Nat) (f : DrvSt → DrvSt) : (s.modDrv n f).freeCtr = s.freeCtr := rfl
@[simp] theorem State.modDrv_tick (s : State) (n : Nat) (f : DrvSt → DrvSt) : (s.modDrv n f).tick = s.tick := rfl
@[simp] theorem State.modDrv_timeFx (s : State) (n : Nat) (f : DrvSt → DrvSt) : (s.modDrv n f).timeFx = s.timeFx := rfl
@[simp] theorem State.modDrv_hist (s : State) (n : Nat) (f : DrvSt → DrvSt) : (s.modDrv n f).hist = s.hist := rfl
@[simp] theorem State.modDrv_faultQ (s : State) (n : Nat) (f : DrvSt → DrvSt) : (s.modDrv n f).faultQ = s.faultQ := rfl
@[simp] theorem State.modDrv_ex (s : State) (n : Nat) (f : DrvSt → DrvSt) : (s.modDrv n f).ex = s.ex := rfl
@[simp] theorem State.modDrv_led (s : State) (n : Nat) (f : DrvSt → DrvSt) : (s.modDrv n f).led = s.led := rfl
@[simp] theorem State.modDrv_jrn (s : State) (n : Nat) (f : DrvSt → DrvSt) : (s.modDrv n f).jrn = s.jrn := rfl
@[simp] theorem State.modDrv_ho (s : State) (n : Nat) (f : DrvSt → DrvSt) : (s.modDrv n f).ho = s.ho := rfl
@[simp] theorem State.modDrv_host (s : State) (n : Nat) (f : DrvSt → DrvSt) : (s.modDrv n f).host = s.host := rfl
@[simp] theorem State.modDrv_dma (s : State) (n : Nat) (f : DrvSt → DrvSt) : (s.modDrv n f).dma = s.dma := rfl
@[simp] theorem State.modDrv_mem (s : State) (n : Nat) (f : DrvSt → DrvSt) : (s.modDrv n f).mem = s.mem := rfl
@[simp] theorem State.modDrv_stn (s : State) (n : Nat) (f : DrvSt → DrvSt) : (s.modDrv n f).stn = s.stn := rfl
@[simp] theorem State.modDrv_stnx (s : State) (n : Nat) (f : DrvSt → DrvSt) : (s.modDrv n f).stnx = s.stnx := rfl
@[simp] theorem State.modDrv_ppos (s : State) (n : Nat) (f : DrvSt → DrvSt) : (s.modDrv n f).ppos = s.ppos := rfl
@[simp] theorem State.modDrv_needed (s : State) (n : Nat) (f : DrvSt → DrvSt) : (s.modDrv n f).needed = s.needed := rfl
@[simp] theorem State.modDrv_axs (s : State) (n : Nat) (f : DrvSt → DrvSt) : (s.modDrv n f).axs = s.axs := rfl
@[simp] theorem State.modDrv_adcAt (s : State) (n : Nat) (f : DrvSt → DrvSt) : (s.modDrv n f).adcAt = s.adcAt := rfl
@[simp] theorem State.modDrv_loop (s : State) (n : Nat) (f : DrvSt → DrvSt) : (s.modDrv n f).loop = s.loop := rfl
@[simp] theorem State.modDrv_hvoHigh (s : State) (n : Nat) (f : DrvSt → DrvSt) : (s.modDrv n f).hvoHigh = s.hvoHigh := rfl
@[simp] theorem State.modDrv_fus (s : State) (n : Nat) (f : DrvSt → DrvSt) : (s.modDrv n f).fus = s.fus := rfl
@[simp] theorem State.modDrv_fuserEn (s : State) (n : Nat) (f : DrvSt → DrvSt) : (s.modDrv n f).fuserEn = s.fuserEn := rfl
@[simp] theorem State.modDrv_adc (s : State) (n : Nat) (f : DrvSt → DrvSt) : (s.modDrv n f).adc = s.adc := rfl
@[simp] theorem State.modDrv_net (s : State) (n : Nat) (f : DrvSt → DrvSt) : (s.modDrv n f).net = s.net := rfl
@[simp] theorem State.modDrv_power (s : State) (n : Nat) (f : DrvSt → DrvSt) : (s.modDrv n f).power = s.power := rfl
@[simp] theorem State.modDrv_rail (s : State) (n : Nat) (f : DrvSt → DrvSt) : (s.modDrv n f).rail = s.rail := rfl
@[simp] theorem State.modDrv_flt (s : State) (n : Nat) (f : DrvSt → DrvSt) : (s.modDrv n f).flt = s.flt := rfl
@[simp] theorem State.modDrv_recd (s : State) (n : Nat) (f : DrvSt → DrvSt) : (s.modDrv n f).recd = s.recd := rfl
@[simp] theorem State.modDrv_upd (s : State) (n : Nat) (f : DrvSt → DrvSt) : (s.modDrv n f).upd = s.upd := rfl
@[simp] theorem State.modDrv_units (s : State) (n : Nat) (f : DrvSt → DrvSt) : (s.modDrv n f).units = s.units := rfl
@[simp] theorem State.modDrv_tap (s : State) (n : Nat) (f : DrvSt → DrvSt) : (s.modDrv n f).tap = s.tap := rfl
@[simp] theorem State.modDrv_fget (s : State) (n : Nat) (f : DrvSt → DrvSt) (g : Fld) : (s.modDrv n f).fget g = s.fget g := rfl
@[simp] theorem State.modDrv_bit (s : State) (n : Nat) (f : DrvSt → DrvSt) (g : Fld) : (s.modDrv n f).bit g = s.bit g := rfl

/-! ### modAxs -/

@[simp] theorem State.modAxs_fields (s : State) (n : Nat) (f : AxsSt → AxsSt) : (s.modAxs n f).fields = s.fields := rfl
@[simp] theorem State.modAxs_shadow (s : State) (n : Nat) (f : AxsSt → AxsSt) : (s.modAxs n f).shadow = s.shadow := rfl
@[simp] theorem State.modAxs_shadowAt (s : State) (n : Nat) (f : AxsSt → AxsSt) : (s.modAxs n f).shadowAt = s.shadowAt := rfl
@[simp] theorem State.modAxs_snap (s : State) (n : Nat) (f : AxsSt → AxsSt) : (s.modAxs n f).snap = s.snap := rfl
@[simp] theorem State.modAxs_aonQ (s : State) (n : Nat) (f : AxsSt → AxsSt) : (s.modAxs n f).aonQ = s.aonQ := rfl
@[simp] theorem State.modAxs_aonWait (s : State) (n : Nat) (f : AxsSt → AxsSt) : (s.modAxs n f).aonWait = s.aonWait := rfl
@[simp] theorem State.modAxs_tbQ (s : State) (n : Nat) (f : AxsSt → AxsSt) : (s.modAxs n f).tbQ = s.tbQ := rfl
@[simp] theorem State.modAxs_freeCtr (s : State) (n : Nat) (f : AxsSt → AxsSt) : (s.modAxs n f).freeCtr = s.freeCtr := rfl
@[simp] theorem State.modAxs_tick (s : State) (n : Nat) (f : AxsSt → AxsSt) : (s.modAxs n f).tick = s.tick := rfl
@[simp] theorem State.modAxs_timeFx (s : State) (n : Nat) (f : AxsSt → AxsSt) : (s.modAxs n f).timeFx = s.timeFx := rfl
@[simp] theorem State.modAxs_hist (s : State) (n : Nat) (f : AxsSt → AxsSt) : (s.modAxs n f).hist = s.hist := rfl
@[simp] theorem State.modAxs_faultQ (s : State) (n : Nat) (f : AxsSt → AxsSt) : (s.modAxs n f).faultQ = s.faultQ := rfl
@[simp] theorem State.modAxs_ex (s : State) (n : Nat) (f : AxsSt → AxsSt) : (s.modAxs n f).ex = s.ex := rfl
@[simp] theorem State.modAxs_led (s : State) (n : Nat) (f : AxsSt → AxsSt) : (s.modAxs n f).led = s.led := rfl
@[simp] theorem State.modAxs_jrn (s : State) (n : Nat) (f : AxsSt → AxsSt) : (s.modAxs n f).jrn = s.jrn := rfl
@[simp] theorem State.modAxs_ho (s : State) (n : Nat) (f : AxsSt → AxsSt) : (s.modAxs n f).ho = s.ho := rfl
@[simp] theorem State.modAxs_host (s : State) (n : Nat) (f : AxsSt → AxsSt) : (s.modAxs n f).host = s.host := rfl
@[simp] theorem State.modAxs_dma (s : State) (n : Nat) (f : AxsSt → AxsSt) : (s.modAxs n f).dma = s.dma := rfl
@[simp] theorem State.modAxs_mem (s : State) (n : Nat) (f : AxsSt → AxsSt) : (s.modAxs n f).mem = s.mem := rfl
@[simp] theorem State.modAxs_stn (s : State) (n : Nat) (f : AxsSt → AxsSt) : (s.modAxs n f).stn = s.stn := rfl
@[simp] theorem State.modAxs_stnx (s : State) (n : Nat) (f : AxsSt → AxsSt) : (s.modAxs n f).stnx = s.stnx := rfl
@[simp] theorem State.modAxs_ppos (s : State) (n : Nat) (f : AxsSt → AxsSt) : (s.modAxs n f).ppos = s.ppos := rfl
@[simp] theorem State.modAxs_needed (s : State) (n : Nat) (f : AxsSt → AxsSt) : (s.modAxs n f).needed = s.needed := rfl
@[simp] theorem State.modAxs_drv (s : State) (n : Nat) (f : AxsSt → AxsSt) : (s.modAxs n f).drv = s.drv := rfl
@[simp] theorem State.modAxs_adcAt (s : State) (n : Nat) (f : AxsSt → AxsSt) : (s.modAxs n f).adcAt = s.adcAt := rfl
@[simp] theorem State.modAxs_loop (s : State) (n : Nat) (f : AxsSt → AxsSt) : (s.modAxs n f).loop = s.loop := rfl
@[simp] theorem State.modAxs_hvoHigh (s : State) (n : Nat) (f : AxsSt → AxsSt) : (s.modAxs n f).hvoHigh = s.hvoHigh := rfl
@[simp] theorem State.modAxs_fus (s : State) (n : Nat) (f : AxsSt → AxsSt) : (s.modAxs n f).fus = s.fus := rfl
@[simp] theorem State.modAxs_fuserEn (s : State) (n : Nat) (f : AxsSt → AxsSt) : (s.modAxs n f).fuserEn = s.fuserEn := rfl
@[simp] theorem State.modAxs_adc (s : State) (n : Nat) (f : AxsSt → AxsSt) : (s.modAxs n f).adc = s.adc := rfl
@[simp] theorem State.modAxs_net (s : State) (n : Nat) (f : AxsSt → AxsSt) : (s.modAxs n f).net = s.net := rfl
@[simp] theorem State.modAxs_power (s : State) (n : Nat) (f : AxsSt → AxsSt) : (s.modAxs n f).power = s.power := rfl
@[simp] theorem State.modAxs_rail (s : State) (n : Nat) (f : AxsSt → AxsSt) : (s.modAxs n f).rail = s.rail := rfl
@[simp] theorem State.modAxs_flt (s : State) (n : Nat) (f : AxsSt → AxsSt) : (s.modAxs n f).flt = s.flt := rfl
@[simp] theorem State.modAxs_recd (s : State) (n : Nat) (f : AxsSt → AxsSt) : (s.modAxs n f).recd = s.recd := rfl
@[simp] theorem State.modAxs_upd (s : State) (n : Nat) (f : AxsSt → AxsSt) : (s.modAxs n f).upd = s.upd := rfl
@[simp] theorem State.modAxs_units (s : State) (n : Nat) (f : AxsSt → AxsSt) : (s.modAxs n f).units = s.units := rfl
@[simp] theorem State.modAxs_tap (s : State) (n : Nat) (f : AxsSt → AxsSt) : (s.modAxs n f).tap = s.tap := rfl
@[simp] theorem State.modAxs_fget (s : State) (n : Nat) (f : AxsSt → AxsSt) (g : Fld) : (s.modAxs n f).fget g = s.fget g := rfl
@[simp] theorem State.modAxs_bit (s : State) (n : Nat) (f : AxsSt → AxsSt) (g : Fld) : (s.modAxs n f).bit g = s.bit g := rfl

/-! ### modUnit -/

@[simp] theorem State.modUnit_fields (s : State) (src : Nat) (f : UnitSt → UnitSt) : (s.modUnit src f).fields = s.fields := rfl
@[simp] theorem State.modUnit_shadow (s : State) (src : Nat) (f : UnitSt → UnitSt) : (s.modUnit src f).shadow = s.shadow := rfl
@[simp] theorem State.modUnit_shadowAt (s : State) (src : Nat) (f : UnitSt → UnitSt) : (s.modUnit src f).shadowAt = s.shadowAt := rfl
@[simp] theorem State.modUnit_snap (s : State) (src : Nat) (f : UnitSt → UnitSt) : (s.modUnit src f).snap = s.snap := rfl
@[simp] theorem State.modUnit_aonQ (s : State) (src : Nat) (f : UnitSt → UnitSt) : (s.modUnit src f).aonQ = s.aonQ := rfl
@[simp] theorem State.modUnit_aonWait (s : State) (src : Nat) (f : UnitSt → UnitSt) : (s.modUnit src f).aonWait = s.aonWait := rfl
@[simp] theorem State.modUnit_tbQ (s : State) (src : Nat) (f : UnitSt → UnitSt) : (s.modUnit src f).tbQ = s.tbQ := rfl
@[simp] theorem State.modUnit_freeCtr (s : State) (src : Nat) (f : UnitSt → UnitSt) : (s.modUnit src f).freeCtr = s.freeCtr := rfl
@[simp] theorem State.modUnit_tick (s : State) (src : Nat) (f : UnitSt → UnitSt) : (s.modUnit src f).tick = s.tick := rfl
@[simp] theorem State.modUnit_timeFx (s : State) (src : Nat) (f : UnitSt → UnitSt) : (s.modUnit src f).timeFx = s.timeFx := rfl
@[simp] theorem State.modUnit_hist (s : State) (src : Nat) (f : UnitSt → UnitSt) : (s.modUnit src f).hist = s.hist := rfl
@[simp] theorem State.modUnit_faultQ (s : State) (src : Nat) (f : UnitSt → UnitSt) : (s.modUnit src f).faultQ = s.faultQ := rfl
@[simp] theorem State.modUnit_ex (s : State) (src : Nat) (f : UnitSt → UnitSt) : (s.modUnit src f).ex = s.ex := rfl
@[simp] theorem State.modUnit_led (s : State) (src : Nat) (f : UnitSt → UnitSt) : (s.modUnit src f).led = s.led := rfl
@[simp] theorem State.modUnit_jrn (s : State) (src : Nat) (f : UnitSt → UnitSt) : (s.modUnit src f).jrn = s.jrn := rfl
@[simp] theorem State.modUnit_ho (s : State) (src : Nat) (f : UnitSt → UnitSt) : (s.modUnit src f).ho = s.ho := rfl
@[simp] theorem State.modUnit_host (s : State) (src : Nat) (f : UnitSt → UnitSt) : (s.modUnit src f).host = s.host := rfl
@[simp] theorem State.modUnit_dma (s : State) (src : Nat) (f : UnitSt → UnitSt) : (s.modUnit src f).dma = s.dma := rfl
@[simp] theorem State.modUnit_mem (s : State) (src : Nat) (f : UnitSt → UnitSt) : (s.modUnit src f).mem = s.mem := rfl
@[simp] theorem State.modUnit_stn (s : State) (src : Nat) (f : UnitSt → UnitSt) : (s.modUnit src f).stn = s.stn := rfl
@[simp] theorem State.modUnit_stnx (s : State) (src : Nat) (f : UnitSt → UnitSt) : (s.modUnit src f).stnx = s.stnx := rfl
@[simp] theorem State.modUnit_ppos (s : State) (src : Nat) (f : UnitSt → UnitSt) : (s.modUnit src f).ppos = s.ppos := rfl
@[simp] theorem State.modUnit_needed (s : State) (src : Nat) (f : UnitSt → UnitSt) : (s.modUnit src f).needed = s.needed := rfl
@[simp] theorem State.modUnit_drv (s : State) (src : Nat) (f : UnitSt → UnitSt) : (s.modUnit src f).drv = s.drv := rfl
@[simp] theorem State.modUnit_axs (s : State) (src : Nat) (f : UnitSt → UnitSt) : (s.modUnit src f).axs = s.axs := rfl
@[simp] theorem State.modUnit_adcAt (s : State) (src : Nat) (f : UnitSt → UnitSt) : (s.modUnit src f).adcAt = s.adcAt := rfl
@[simp] theorem State.modUnit_loop (s : State) (src : Nat) (f : UnitSt → UnitSt) : (s.modUnit src f).loop = s.loop := rfl
@[simp] theorem State.modUnit_hvoHigh (s : State) (src : Nat) (f : UnitSt → UnitSt) : (s.modUnit src f).hvoHigh = s.hvoHigh := rfl
@[simp] theorem State.modUnit_fus (s : State) (src : Nat) (f : UnitSt → UnitSt) : (s.modUnit src f).fus = s.fus := rfl
@[simp] theorem State.modUnit_fuserEn (s : State) (src : Nat) (f : UnitSt → UnitSt) : (s.modUnit src f).fuserEn = s.fuserEn := rfl
@[simp] theorem State.modUnit_adc (s : State) (src : Nat) (f : UnitSt → UnitSt) : (s.modUnit src f).adc = s.adc := rfl
@[simp] theorem State.modUnit_net (s : State) (src : Nat) (f : UnitSt → UnitSt) : (s.modUnit src f).net = s.net := rfl
@[simp] theorem State.modUnit_power (s : State) (src : Nat) (f : UnitSt → UnitSt) : (s.modUnit src f).power = s.power := rfl
@[simp] theorem State.modUnit_rail (s : State) (src : Nat) (f : UnitSt → UnitSt) : (s.modUnit src f).rail = s.rail := rfl
@[simp] theorem State.modUnit_flt (s : State) (src : Nat) (f : UnitSt → UnitSt) : (s.modUnit src f).flt = s.flt := rfl
@[simp] theorem State.modUnit_recd (s : State) (src : Nat) (f : UnitSt → UnitSt) : (s.modUnit src f).recd = s.recd := rfl
@[simp] theorem State.modUnit_upd (s : State) (src : Nat) (f : UnitSt → UnitSt) : (s.modUnit src f).upd = s.upd := rfl
@[simp] theorem State.modUnit_tap (s : State) (src : Nat) (f : UnitSt → UnitSt) : (s.modUnit src f).tap = s.tap := rfl
@[simp] theorem State.modUnit_fget (s : State) (src : Nat) (f : UnitSt → UnitSt) (g : Fld) : (s.modUnit src f).fget g = s.fget g := rfl
@[simp] theorem State.modUnit_bit (s : State) (src : Nat) (f : UnitSt → UnitSt) (g : Fld) : (s.modUnit src f).bit g = s.bit g := rfl

/-! ### modSheet -/

@[simp] theorem State.modSheet_fields (s : State) (seq : Nat) (f : Sheet → Sheet) : (s.modSheet seq f).fields = s.fields := rfl
@[simp] theorem State.modSheet_shadow (s : State) (seq : Nat) (f : Sheet → Sheet) : (s.modSheet seq f).shadow = s.shadow := rfl
@[simp] theorem State.modSheet_shadowAt (s : State) (seq : Nat) (f : Sheet → Sheet) : (s.modSheet seq f).shadowAt = s.shadowAt := rfl
@[simp] theorem State.modSheet_snap (s : State) (seq : Nat) (f : Sheet → Sheet) : (s.modSheet seq f).snap = s.snap := rfl
@[simp] theorem State.modSheet_aonQ (s : State) (seq : Nat) (f : Sheet → Sheet) : (s.modSheet seq f).aonQ = s.aonQ := rfl
@[simp] theorem State.modSheet_aonWait (s : State) (seq : Nat) (f : Sheet → Sheet) : (s.modSheet seq f).aonWait = s.aonWait := rfl
@[simp] theorem State.modSheet_tbQ (s : State) (seq : Nat) (f : Sheet → Sheet) : (s.modSheet seq f).tbQ = s.tbQ := rfl
@[simp] theorem State.modSheet_freeCtr (s : State) (seq : Nat) (f : Sheet → Sheet) : (s.modSheet seq f).freeCtr = s.freeCtr := rfl
@[simp] theorem State.modSheet_tick (s : State) (seq : Nat) (f : Sheet → Sheet) : (s.modSheet seq f).tick = s.tick := rfl
@[simp] theorem State.modSheet_timeFx (s : State) (seq : Nat) (f : Sheet → Sheet) : (s.modSheet seq f).timeFx = s.timeFx := rfl
@[simp] theorem State.modSheet_hist (s : State) (seq : Nat) (f : Sheet → Sheet) : (s.modSheet seq f).hist = s.hist := rfl
@[simp] theorem State.modSheet_faultQ (s : State) (seq : Nat) (f : Sheet → Sheet) : (s.modSheet seq f).faultQ = s.faultQ := rfl
@[simp] theorem State.modSheet_ex (s : State) (seq : Nat) (f : Sheet → Sheet) : (s.modSheet seq f).ex = s.ex := rfl
@[simp] theorem State.modSheet_jrn (s : State) (seq : Nat) (f : Sheet → Sheet) : (s.modSheet seq f).jrn = s.jrn := rfl
@[simp] theorem State.modSheet_ho (s : State) (seq : Nat) (f : Sheet → Sheet) : (s.modSheet seq f).ho = s.ho := rfl
@[simp] theorem State.modSheet_host (s : State) (seq : Nat) (f : Sheet → Sheet) : (s.modSheet seq f).host = s.host := rfl
@[simp] theorem State.modSheet_dma (s : State) (seq : Nat) (f : Sheet → Sheet) : (s.modSheet seq f).dma = s.dma := rfl
@[simp] theorem State.modSheet_mem (s : State) (seq : Nat) (f : Sheet → Sheet) : (s.modSheet seq f).mem = s.mem := rfl
@[simp] theorem State.modSheet_stn (s : State) (seq : Nat) (f : Sheet → Sheet) : (s.modSheet seq f).stn = s.stn := rfl
@[simp] theorem State.modSheet_stnx (s : State) (seq : Nat) (f : Sheet → Sheet) : (s.modSheet seq f).stnx = s.stnx := rfl
@[simp] theorem State.modSheet_ppos (s : State) (seq : Nat) (f : Sheet → Sheet) : (s.modSheet seq f).ppos = s.ppos := rfl
@[simp] theorem State.modSheet_needed (s : State) (seq : Nat) (f : Sheet → Sheet) : (s.modSheet seq f).needed = s.needed := rfl
@[simp] theorem State.modSheet_drv (s : State) (seq : Nat) (f : Sheet → Sheet) : (s.modSheet seq f).drv = s.drv := rfl
@[simp] theorem State.modSheet_axs (s : State) (seq : Nat) (f : Sheet → Sheet) : (s.modSheet seq f).axs = s.axs := rfl
@[simp] theorem State.modSheet_adcAt (s : State) (seq : Nat) (f : Sheet → Sheet) : (s.modSheet seq f).adcAt = s.adcAt := rfl
@[simp] theorem State.modSheet_loop (s : State) (seq : Nat) (f : Sheet → Sheet) : (s.modSheet seq f).loop = s.loop := rfl
@[simp] theorem State.modSheet_hvoHigh (s : State) (seq : Nat) (f : Sheet → Sheet) : (s.modSheet seq f).hvoHigh = s.hvoHigh := rfl
@[simp] theorem State.modSheet_fus (s : State) (seq : Nat) (f : Sheet → Sheet) : (s.modSheet seq f).fus = s.fus := rfl
@[simp] theorem State.modSheet_fuserEn (s : State) (seq : Nat) (f : Sheet → Sheet) : (s.modSheet seq f).fuserEn = s.fuserEn := rfl
@[simp] theorem State.modSheet_adc (s : State) (seq : Nat) (f : Sheet → Sheet) : (s.modSheet seq f).adc = s.adc := rfl
@[simp] theorem State.modSheet_net (s : State) (seq : Nat) (f : Sheet → Sheet) : (s.modSheet seq f).net = s.net := rfl
@[simp] theorem State.modSheet_power (s : State) (seq : Nat) (f : Sheet → Sheet) : (s.modSheet seq f).power = s.power := rfl
@[simp] theorem State.modSheet_rail (s : State) (seq : Nat) (f : Sheet → Sheet) : (s.modSheet seq f).rail = s.rail := rfl
@[simp] theorem State.modSheet_flt (s : State) (seq : Nat) (f : Sheet → Sheet) : (s.modSheet seq f).flt = s.flt := rfl
@[simp] theorem State.modSheet_recd (s : State) (seq : Nat) (f : Sheet → Sheet) : (s.modSheet seq f).recd = s.recd := rfl
@[simp] theorem State.modSheet_upd (s : State) (seq : Nat) (f : Sheet → Sheet) : (s.modSheet seq f).upd = s.upd := rfl
@[simp] theorem State.modSheet_units (s : State) (seq : Nat) (f : Sheet → Sheet) : (s.modSheet seq f).units = s.units := rfl
@[simp] theorem State.modSheet_tap (s : State) (seq : Nat) (f : Sheet → Sheet) : (s.modSheet seq f).tap = s.tap := rfl
@[simp] theorem State.modSheet_fget (s : State) (seq : Nat) (f : Sheet → Sheet) (g : Fld) : (s.modSheet seq f).fget g = s.fget g := rfl
@[simp] theorem State.modSheet_bit (s : State) (seq : Nat) (f : Sheet → Sheet) (g : Fld) : (s.modSheet seq f).bit g = s.bit g := rfl

/-! ### stage -/

@[simp] theorem State.stage_fields (s : State) (r : JRec) : (s.stage r).fields = s.fields := rfl
@[simp] theorem State.stage_shadow (s : State) (r : JRec) : (s.stage r).shadow = s.shadow := rfl
@[simp] theorem State.stage_shadowAt (s : State) (r : JRec) : (s.stage r).shadowAt = s.shadowAt := rfl
@[simp] theorem State.stage_snap (s : State) (r : JRec) : (s.stage r).snap = s.snap := rfl
@[simp] theorem State.stage_aonQ (s : State) (r : JRec) : (s.stage r).aonQ = s.aonQ := rfl
@[simp] theorem State.stage_aonWait (s : State) (r : JRec) : (s.stage r).aonWait = s.aonWait := rfl
@[simp] theorem State.stage_tbQ (s : State) (r : JRec) : (s.stage r).tbQ = s.tbQ := rfl
@[simp] theorem State.stage_freeCtr (s : State) (r : JRec) : (s.stage r).freeCtr = s.freeCtr := rfl
@[simp] theorem State.stage_tick (s : State) (r : JRec) : (s.stage r).tick = s.tick := rfl
@[simp] theorem State.stage_timeFx (s : State) (r : JRec) : (s.stage r).timeFx = s.timeFx := rfl
@[simp] theorem State.stage_hist (s : State) (r : JRec) : (s.stage r).hist = s.hist := rfl
@[simp] theorem State.stage_faultQ (s : State) (r : JRec) : (s.stage r).faultQ = s.faultQ := rfl
@[simp] theorem State.stage_ex (s : State) (r : JRec) : (s.stage r).ex = s.ex := rfl
@[simp] theorem State.stage_led (s : State) (r : JRec) : (s.stage r).led = s.led := rfl
@[simp] theorem State.stage_ho (s : State) (r : JRec) : (s.stage r).ho = s.ho := rfl
@[simp] theorem State.stage_host (s : State) (r : JRec) : (s.stage r).host = s.host := rfl
@[simp] theorem State.stage_dma (s : State) (r : JRec) : (s.stage r).dma = s.dma := rfl
@[simp] theorem State.stage_mem (s : State) (r : JRec) : (s.stage r).mem = s.mem := rfl
@[simp] theorem State.stage_stn (s : State) (r : JRec) : (s.stage r).stn = s.stn := rfl
@[simp] theorem State.stage_stnx (s : State) (r : JRec) : (s.stage r).stnx = s.stnx := rfl
@[simp] theorem State.stage_ppos (s : State) (r : JRec) : (s.stage r).ppos = s.ppos := rfl
@[simp] theorem State.stage_needed (s : State) (r : JRec) : (s.stage r).needed = s.needed := rfl
@[simp] theorem State.stage_drv (s : State) (r : JRec) : (s.stage r).drv = s.drv := rfl
@[simp] theorem State.stage_axs (s : State) (r : JRec) : (s.stage r).axs = s.axs := rfl
@[simp] theorem State.stage_adcAt (s : State) (r : JRec) : (s.stage r).adcAt = s.adcAt := rfl
@[simp] theorem State.stage_loop (s : State) (r : JRec) : (s.stage r).loop = s.loop := rfl
@[simp] theorem State.stage_hvoHigh (s : State) (r : JRec) : (s.stage r).hvoHigh = s.hvoHigh := rfl
@[simp] theorem State.stage_fus (s : State) (r : JRec) : (s.stage r).fus = s.fus := rfl
@[simp] theorem State.stage_fuserEn (s : State) (r : JRec) : (s.stage r).fuserEn = s.fuserEn := rfl
@[simp] theorem State.stage_adc (s : State) (r : JRec) : (s.stage r).adc = s.adc := rfl
@[simp] theorem State.stage_net (s : State) (r : JRec) : (s.stage r).net = s.net := rfl
@[simp] theorem State.stage_power (s : State) (r : JRec) : (s.stage r).power = s.power := rfl
@[simp] theorem State.stage_rail (s : State) (r : JRec) : (s.stage r).rail = s.rail := rfl
@[simp] theorem State.stage_flt (s : State) (r : JRec) : (s.stage r).flt = s.flt := rfl
@[simp] theorem State.stage_recd (s : State) (r : JRec) : (s.stage r).recd = s.recd := rfl
@[simp] theorem State.stage_upd (s : State) (r : JRec) : (s.stage r).upd = s.upd := rfl
@[simp] theorem State.stage_units (s : State) (r : JRec) : (s.stage r).units = s.units := rfl
@[simp] theorem State.stage_tap (s : State) (r : JRec) : (s.stage r).tap = s.tap := rfl
@[simp] theorem State.stage_fget (s : State) (r : JRec) (g : Fld) : (s.stage r).fget g = s.fget g := rfl
@[simp] theorem State.stage_bit (s : State) (r : JRec) (g : Fld) : (s.stage r).bit g = s.bit g := rfl

/-! ### shadowSet -/

@[simp] theorem State.shadowSet_fields (s : State) (f : Fld) (v : Nat) : (s.shadowSet f v).fields = s.fields := rfl
@[simp] theorem State.shadowSet_snap (s : State) (f : Fld) (v : Nat) : (s.shadowSet f v).snap = s.snap := rfl
@[simp] theorem State.shadowSet_aonQ (s : State) (f : Fld) (v : Nat) : (s.shadowSet f v).aonQ = s.aonQ := rfl
@[simp] theorem State.shadowSet_aonWait (s : State) (f : Fld) (v : Nat) : (s.shadowSet f v).aonWait = s.aonWait := rfl
@[simp] theorem State.shadowSet_tbQ (s : State) (f : Fld) (v : Nat) : (s.shadowSet f v).tbQ = s.tbQ := rfl
@[simp] theorem State.shadowSet_freeCtr (s : State) (f : Fld) (v : Nat) : (s.shadowSet f v).freeCtr = s.freeCtr := rfl
@[simp] theorem State.shadowSet_tick (s : State) (f : Fld) (v : Nat) : (s.shadowSet f v).tick = s.tick := rfl
@[simp] theorem State.shadowSet_timeFx (s : State) (f : Fld) (v : Nat) : (s.shadowSet f v).timeFx = s.timeFx := rfl
@[simp] theorem State.shadowSet_hist (s : State) (f : Fld) (v : Nat) : (s.shadowSet f v).hist = s.hist := rfl
@[simp] theorem State.shadowSet_faultQ (s : State) (f : Fld) (v : Nat) : (s.shadowSet f v).faultQ = s.faultQ := rfl
@[simp] theorem State.shadowSet_ex (s : State) (f : Fld) (v : Nat) : (s.shadowSet f v).ex = s.ex := rfl
@[simp] theorem State.shadowSet_led (s : State) (f : Fld) (v : Nat) : (s.shadowSet f v).led = s.led := rfl
@[simp] theorem State.shadowSet_jrn (s : State) (f : Fld) (v : Nat) : (s.shadowSet f v).jrn = s.jrn := rfl
@[simp] theorem State.shadowSet_ho (s : State) (f : Fld) (v : Nat) : (s.shadowSet f v).ho = s.ho := rfl
@[simp] theorem State.shadowSet_host (s : State) (f : Fld) (v : Nat) : (s.shadowSet f v).host = s.host := rfl
@[simp] theorem State.shadowSet_dma (s : State) (f : Fld) (v : Nat) : (s.shadowSet f v).dma = s.dma := rfl
@[simp] theorem State.shadowSet_mem (s : State) (f : Fld) (v : Nat) : (s.shadowSet f v).mem = s.mem := rfl
@[simp] theorem State.shadowSet_stn (s : State) (f : Fld) (v : Nat) : (s.shadowSet f v).stn = s.stn := rfl
@[simp] theorem State.shadowSet_stnx (s : State) (f : Fld) (v : Nat) : (s.shadowSet f v).stnx = s.stnx := rfl
@[simp] theorem State.shadowSet_ppos (s : State) (f : Fld) (v : Nat) : (s.shadowSet f v).ppos = s.ppos := rfl
@[simp] theorem State.shadowSet_needed (s : State) (f : Fld) (v : Nat) : (s.shadowSet f v).needed = s.needed := rfl
@[simp] theorem State.shadowSet_drv (s : State) (f : Fld) (v : Nat) : (s.shadowSet f v).drv = s.drv := rfl
@[simp] theorem State.shadowSet_axs (s : State) (f : Fld) (v : Nat) : (s.shadowSet f v).axs = s.axs := rfl
@[simp] theorem State.shadowSet_adcAt (s : State) (f : Fld) (v : Nat) : (s.shadowSet f v).adcAt = s.adcAt := rfl
@[simp] theorem State.shadowSet_loop (s : State) (f : Fld) (v : Nat) : (s.shadowSet f v).loop = s.loop := rfl
@[simp] theorem State.shadowSet_hvoHigh (s : State) (f : Fld) (v : Nat) : (s.shadowSet f v).hvoHigh = s.hvoHigh := rfl
@[simp] theorem State.shadowSet_fus (s : State) (f : Fld) (v : Nat) : (s.shadowSet f v).fus = s.fus := rfl
@[simp] theorem State.shadowSet_fuserEn (s : State) (f : Fld) (v : Nat) : (s.shadowSet f v).fuserEn = s.fuserEn := rfl
@[simp] theorem State.shadowSet_adc (s : State) (f : Fld) (v : Nat) : (s.shadowSet f v).adc = s.adc := rfl
@[simp] theorem State.shadowSet_net (s : State) (f : Fld) (v : Nat) : (s.shadowSet f v).net = s.net := rfl
@[simp] theorem State.shadowSet_power (s : State) (f : Fld) (v : Nat) : (s.shadowSet f v).power = s.power := rfl
@[simp] theorem State.shadowSet_rail (s : State) (f : Fld) (v : Nat) : (s.shadowSet f v).rail = s.rail := rfl
@[simp] theorem State.shadowSet_flt (s : State) (f : Fld) (v : Nat) : (s.shadowSet f v).flt = s.flt := rfl
@[simp] theorem State.shadowSet_recd (s : State) (f : Fld) (v : Nat) : (s.shadowSet f v).recd = s.recd := rfl
@[simp] theorem State.shadowSet_upd (s : State) (f : Fld) (v : Nat) : (s.shadowSet f v).upd = s.upd := rfl
@[simp] theorem State.shadowSet_units (s : State) (f : Fld) (v : Nat) : (s.shadowSet f v).units = s.units := rfl
@[simp] theorem State.shadowSet_tap (s : State) (f : Fld) (v : Nat) : (s.shadowSet f v).tap = s.tap := rfl
@[simp] theorem State.shadowSet_fget (s : State) (f : Fld) (v : Nat) (g : Fld) : (s.shadowSet f v).fget g = s.fget g := rfl
@[simp] theorem State.shadowSet_bit (s : State) (f : Fld) (v : Nat) (g : Fld) : (s.shadowSet f v).bit g = s.bit g := rfl

/-! ### draw -/

@[simp] theorem State.draw_fields (s : State) : s.draw.2.fields = s.fields := rfl
@[simp] theorem State.draw_shadow (s : State) : s.draw.2.shadow = s.shadow := rfl
@[simp] theorem State.draw_shadowAt (s : State) : s.draw.2.shadowAt = s.shadowAt := rfl
@[simp] theorem State.draw_snap (s : State) : s.draw.2.snap = s.snap := rfl
@[simp] theorem State.draw_aonQ (s : State) : s.draw.2.aonQ = s.aonQ := rfl
@[simp] theorem State.draw_aonWait (s : State) : s.draw.2.aonWait = s.aonWait := rfl
@[simp] theorem State.draw_tbQ (s : State) : s.draw.2.tbQ = s.tbQ := rfl
@[simp] theorem State.draw_tick (s : State) : s.draw.2.tick = s.tick := rfl
@[simp] theorem State.draw_timeFx (s : State) : s.draw.2.timeFx = s.timeFx := rfl
@[simp] theorem State.draw_hist (s : State) : s.draw.2.hist = s.hist := rfl
@[simp] theorem State.draw_faultQ (s : State) : s.draw.2.faultQ = s.faultQ := rfl
@[simp] theorem State.draw_ex (s : State) : s.draw.2.ex = s.ex := rfl
@[simp] theorem State.draw_led (s : State) : s.draw.2.led = s.led := rfl
@[simp] theorem State.draw_jrn (s : State) : s.draw.2.jrn = s.jrn := rfl
@[simp] theorem State.draw_ho (s : State) : s.draw.2.ho = s.ho := rfl
@[simp] theorem State.draw_host (s : State) : s.draw.2.host = s.host := rfl
@[simp] theorem State.draw_dma (s : State) : s.draw.2.dma = s.dma := rfl
@[simp] theorem State.draw_mem (s : State) : s.draw.2.mem = s.mem := rfl
@[simp] theorem State.draw_stn (s : State) : s.draw.2.stn = s.stn := rfl
@[simp] theorem State.draw_stnx (s : State) : s.draw.2.stnx = s.stnx := rfl
@[simp] theorem State.draw_ppos (s : State) : s.draw.2.ppos = s.ppos := rfl
@[simp] theorem State.draw_needed (s : State) : s.draw.2.needed = s.needed := rfl
@[simp] theorem State.draw_drv (s : State) : s.draw.2.drv = s.drv := rfl
@[simp] theorem State.draw_axs (s : State) : s.draw.2.axs = s.axs := rfl
@[simp] theorem State.draw_adcAt (s : State) : s.draw.2.adcAt = s.adcAt := rfl
@[simp] theorem State.draw_loop (s : State) : s.draw.2.loop = s.loop := rfl
@[simp] theorem State.draw_hvoHigh (s : State) : s.draw.2.hvoHigh = s.hvoHigh := rfl
@[simp] theorem State.draw_fus (s : State) : s.draw.2.fus = s.fus := rfl
@[simp] theorem State.draw_fuserEn (s : State) : s.draw.2.fuserEn = s.fuserEn := rfl
@[simp] theorem State.draw_adc (s : State) : s.draw.2.adc = s.adc := rfl
@[simp] theorem State.draw_net (s : State) : s.draw.2.net = s.net := rfl
@[simp] theorem State.draw_power (s : State) : s.draw.2.power = s.power := rfl
@[simp] theorem State.draw_rail (s : State) : s.draw.2.rail = s.rail := rfl
@[simp] theorem State.draw_flt (s : State) : s.draw.2.flt = s.flt := rfl
@[simp] theorem State.draw_recd (s : State) : s.draw.2.recd = s.recd := rfl
@[simp] theorem State.draw_upd (s : State) : s.draw.2.upd = s.upd := rfl
@[simp] theorem State.draw_units (s : State) : s.draw.2.units = s.units := rfl
@[simp] theorem State.draw_tap (s : State) : s.draw.2.tap = s.tap := rfl
@[simp] theorem State.draw_fget (s : State) (g : Fld) : s.draw.2.fget g = s.fget g := rfl
@[simp] theorem State.draw_bit (s : State) (g : Fld) : s.draw.2.bit g = s.bit g := rfl

end Sys2Proof.Machine
end

