-- ==== Sys2Proof/Laws/Exine.lean ====
section
/-! SUPPORT. What the shared operations of the Exine instructions do: the register file, an instruction that retires, a trap. -/

namespace Sys2Proof.Machine

/-! ### The register file (R59) -/

@[simp] theorem Arch.getW_zero (a : Arch) : a.getW 0 = 0 := by simp [Arch.getW]

@[simp] theorem Arch.setW_zero (a : Arch) (v : Word) : a.setW 0 v = a := by simp [Arch.setW]

/-- A read after a write of a general register. -/
theorem Arch.getW_setW (a : Arch) (d e : BitVec 5) (v : Word) : (a.setW d v).getW e = if e = d ∧ d ≠ 0 then v else a.getW e := by
  by_cases hd : d = 0
  · subst hd; rw [Arch.setW_zero]; simp
  · by_cases he : e = d
    · subst he
      rw [if_pos ⟨rfl, hd⟩]
      unfold Arch.setW Arch.getW
      rw [if_neg hd, if_neg hd]
      exact Vector.getElem_set_self _
    · have hn : ¬ d.toNat = e.toNat := fun h => he (BitVec.eq_of_toNat_eq h.symm)
      simp only [Arch.setW, hd, if_false, he, false_and]
      unfold Arch.getW
      split
      · rfl
      · exact Vector.getElem_set_ne d.isLt e.isLt hn

@[simp] theorem Arch.setW_t (a : Arch) (d : BitVec 5) (v : Word) : (a.setW d v).t = a.t := by unfold Arch.setW; split <;> rfl
@[simp] theorem Arch.setW_pc (a : Arch) (d : BitVec 5) (v : Word) : (a.setW d v).pc = a.pc := by unfold Arch.setW; split <;> rfl
@[simp] theorem Arch.setW_ref (a : Arch) (d : BitVec 5) (v : Word) : (a.setW d v).ref = a.ref := by unfold Arch.setW; split <;> rfl
@[simp] theorem Arch.setW_n (a : Arch) (d : BitVec 5) (v : Word) : (a.setW d v).n = a.n := by unfold Arch.setW; split <;> rfl
@[simp] theorem Arch.setW_z (a : Arch) (d : BitVec 5) (v : Word) : (a.setW d v).z = a.z := by unfold Arch.setW; split <;> rfl
@[simp] theorem Arch.setW_c (a : Arch) (d : BitVec 5) (v : Word) : (a.setW d v).c = a.c := by unfold Arch.setW; split <;> rfl
@[simp] theorem Arch.setW_v (a : Arch) (d : BitVec 5) (v : Word) : (a.setW d v).v = a.v := by unfold Arch.setW; split <;> rfl

/-- A read after a write of a time register. -/
theorem Arch.getT_setT (a : Arch) (d e : BitVec 2) (v : Word64) : (a.setT d v).getT e = if e = d then v else a.getT e := by
  by_cases he : e = d
  · subst he; simp [Arch.getT, Arch.setT]
  · have hn : ¬ d.toNat = e.toNat := fun h => he (BitVec.eq_of_toNat_eq h.symm)
    simp only [he, if_false]
    exact Vector.getElem_set_ne d.isLt e.isLt hn

/-! ### Instructions that retire -/

/-- An instruction on an engine that runs a task is its effect on that task. -/
theorem onTask_run {p : Nat} {s : State} {i : Nat} {t : Task} (h : onEngine s p i t) (k : Nat → Task → State) :
    onTask p s k = .next (k i t) := by
  simp only [onTask, h.1, if_true, h.2]

/-- An instruction that writes `w[d]` and the flags. -/
theorem retire_wrote (s : State) (i : Nat) (t : Task) (d : BitVec 5) (r : Word) (n z c v : Bool) (cyc : Nat) :
    Wrote s (s.retire i t ((t.arch.setW d r).setFlags n z c v) cyc) i t d r (n, z, c, v) cyc :=
  ⟨_, ⟨by simp [Arch.setFlags], rfl⟩, by simp [Arch.setFlags], by simp [Arch.setFlags], rfl, fun e => Arch.getW_setW t.arch d e r⟩

/-- An instruction that writes `w[d]` alone. -/
theorem retire_wrote_only (s : State) (i : Nat) (t : Task) (d : BitVec 5) (r : Word) (cyc : Nat) :
    Wrote s (s.retire i t (t.arch.setW d r) cyc) i t d r (sameFlags t.arch) cyc :=
  ⟨_, ⟨by simp, rfl⟩, by simp, by simp, by simp [sameFlags], fun e => Arch.getW_setW t.arch d e r⟩

/-- An instruction that writes `t[td]`. -/
theorem retire_wroteT (s : State) (i : Nat) (t : Task) (td : BitVec 2) (r : Word64) (cyc : Nat) :
    WroteT s (s.retire i t (t.arch.setT td r) cyc) i t td r cyc :=
  ⟨_, ⟨rfl, rfl⟩, rfl, rfl, rfl, fun e => Arch.getT_setT t.arch td e r⟩

/-- An instruction of the ALU and multiply groups, whose function answers `o`. -/
theorem aluOp_runs {p : Nat} {s : State} {i : Nat} {t : Task} (h : onEngine s p i t) (f : Bool) (d : BitVec 5) (cyc : Nat) (k : Arch → AluOut) :
    Runs (aluOp p f d cyc k s) (fun u => Wrote s u i t d (k t.arch).res (flagsOf f t.arch (k t.arch).res (k t.arch).c (k t.arch).v) cyc) := by
  refine ⟨_, onTask_run h _, ?_⟩
  cases f
  · exact retire_wrote_only s i t d _ cyc
  · exact retire_wrote s i t d _ _ _ _ _ cyc

/-- An instruction of the unary group: with F = 1 its C is a free value. -/
theorem unaryOp_runs {p : Nat} {s : State} {i : Nat} {t : Task} (h : onEngine s p i t) (f : Bool) (d a : BitVec 5) (k : Word → AluOut) :
    Runs (unaryOp p f d a k s) (fun u => ∃ cf : Bool, ∃ s1 : State, (s1 = s ∨ s1 = s.draw.2) ∧
      Wrote s1 u i t d (k (t.arch.getW a)).res (if f then ((k (t.arch.getW a)).res.msb, (k (t.arch.getW a)).res == 0, cf, (k (t.arch.getW a)).v)
        else sameFlags t.arch) 1) := by
  refine ⟨_, onTask_run h _, ?_⟩
  cases f
  · exact ⟨false, s, .inl rfl, retire_wrote_only s i t d _ 1⟩
  · exact ⟨_, s.draw.2, .inr rfl, retire_wrote s.draw.2 i t d _ _ _ _ _ 1⟩

/-- An immediate instruction. -/
theorem immOp_runs {p : Nat} {s : State} {i : Nat} {t : Task} (h : onEngine s p i t) (d : BitVec 5) (k : Arch → Word) :
    Runs (immOp p d k s) (fun u => Wrote s u i t d (k t.arch) (sameFlags t.arch) 1) :=
  ⟨_, onTask_run h _, retire_wrote_only s i t d _ 1⟩

/-- An instruction that writes a time register. -/
theorem tOp_runs {p : Nat} {s : State} {i : Nat} {t : Task} (h : onEngine s p i t) (td : BitVec 2) (k : Arch → Word64) :
    Runs (tOp p td k s) (fun u => WroteT s u i t td (k t.arch) 1) :=
  ⟨_, onTask_run h _, retire_wroteT s i t td _ 1⟩

/-! ### Traps (R91, R93) -/

@[simp] theorem State.task?_setTask_same (s : State) (i : Nat) (t : Task) : (s.setTask i t).task? i = some t := by
  simp [State.task?, State.setTask]

theorem State.task?_setTask_ne (s : State) (i j : Nat) (t : Task) (h : j ≠ i) : (s.setTask i t).task? j = s.task? j := by
  simp [State.task?, State.setTask, kvGet_kvSet_ne _ _ _ _ h]

@[simp] theorem State.task?_setRunning (s : State) (p : Nat) (o : Option Nat) (j : Nat) : (s.setRunning p o).task? j = s.task? j := rfl

/-! ### The recorder (R445, R152) -/

theorem onlyRing_refl (s : State) : onlyRing s s := ⟨rfl, fun _ _ => rfl, fun _ _ => ⟨Iff.rfl, Iff.rfl⟩⟩

/-- The ring lies where the register fields say. -/
theorem inRing_congr {s t : State} (hf : t.fields = s.fields) (a : Nat) : inRing t a = inRing s a := by
  have hu : t.usable = s.usable := by unfold State.usable State.bit State.fget; rw [hf]
  have hz : t.ringSize = s.ringSize := by unfold State.ringSize State.fget; rw [hf]
  unfold inRing State.ringBase; rw [hu, hz]

/-- What leaves the register fields and the memories alone may stand on either side. -/
theorem onlyRing_congr {s s' u u' : State} (hf : s'.fields = s.fields) (hs : s'.mem = s.mem) (hu : u'.mem = u.mem) (h : onlyRing s u) :
    onlyRing s' u' := by
  have hr : ∀ a, inRing s' a = inRing s a := inRing_congr hf
  refine ⟨?_, ?_, ?_⟩
  · rw [hs, hu]; exact h.1
  · intro a ha; rw [hs, hu]; exact h.2.1 a (by rw [← hr]; exact ha)
  · intro w hw; rw [hs, hu]; exact h.2.2 w (by rw [← hr]; exact hw)

/-- Two changes within the ring are one. -/
theorem onlyRing_trans {s t u : State} (hf : t.fields = s.fields) (h : onlyRing s t) (k : onlyRing t u) : onlyRing s u := by
  have hr : ∀ a, inRing t a = inRing s a := inRing_congr hf
  refine ⟨?_, ?_, ?_⟩
  · rw [k.1]; rw [h.1]
  · intro a ha
    rw [k.2.1 a (by rw [hr]; exact ha), h.2.1 a ha]
  · intro w hw
    have hw' : inRing t (8 * w) = false := by rw [hr]; exact hw
    exact ⟨(k.2.2 w hw').1.trans (h.2.2 w hw).1, (k.2.2 w hw').2.trans (h.2.2 w hw).2⟩

theorem mem_keepWords (ws : List Nat) (a len w : Nat) (h : 8 * w < a ∨ a + len ≤ 8 * w) : w ∈ keepWords ws a len 8 ↔ w ∈ ws := by
  unfold keepWords
  rw [List.mem_filter]
  constructor
  · exact fun x => x.1
  · exact fun x => ⟨x, by simp only [decide_eq_true_eq]; omega⟩

/-- A write of bytes inside the ring. -/
theorem dramPut_onlyRing (s : State) (a : Nat) (b : List Byte) (hs : 2 ^ 26 + s.ringSize ≤ s.usable) (ha : s.ringBase ≤ a)
    (hb : a + b.length ≤ s.ringBase + s.ringSize ∨ b = []) : onlyRing s (s.dramPut a b) := by
  have out : ∀ x, inRing s x = false → x < a ∨ a + b.length ≤ x := by
    intro x hx
    simp only [inRing, hs, decide_true, Bool.true_and, Bool.and_eq_false_iff, decide_eq_false_iff_not] at hx
    rcases hb with hb | rfl
    · omega
    · simp only [List.length_nil]; omega
  refine ⟨rfl, fun x hx => memGet_memWrite_out b _ a x (out x hx), fun w hw => ?_⟩
  exact ⟨mem_keepWords _ a _ w (out _ hw), mem_keepWords _ a _ w (out _ hw)⟩

/-- Bytes of one record are written inside the ring alone. -/
theorem recPut_onlyRing (s : State) (off : Nat) (b : List Byte) (h : b.length ≤ 256) : onlyRing s (s.recPut off b) := by
  unfold State.recPut
  split
  · exact onlyRing_refl s
  · rename_i hu
    have hs : 2 ^ 26 + s.ringSize ≤ s.usable := by omega
    have hr : 2 ^ 26 ≤ s.ringSize := Nat.pow_le_pow_right (by decide) (Nat.le_max_left ..)
    refine onlyRing_trans (t := s.dramPut (s.ringBase + off) (b.take (s.ringSize - off))) rfl
      (dramPut_onlyRing s _ _ hs (Nat.le_add_right ..) ?_) (dramPut_onlyRing _ _ _ hs (Nat.le_refl _) ?_)
    · by_cases ho : off < s.ringSize
      · left; rw [List.length_take]; omega
      · right; rw [Nat.sub_eq_zero_of_le (by omega)]; rfl
    · left
      show s.ringBase + _ ≤ s.ringBase + s.ringSize
      rw [List.length_drop]; omega

theorem Rec.length_image (r : Rec) : r.image.length = r.bytes := by
  have hn : ∀ v n, (natToBytes v n).length = n := by
    intro v n
    induction n generalizing v with
    | zero => rfl
    | succ n ih => simp [natToBytes, ih]
  have h1 : 16 ≤ r.bytes ∧ r.bytes ≤ 256 := by unfold Rec.bytes; omega
  simp only [Rec.image, List.length_append, hn, List.length_take, List.length_replicate]
  omega

/-- The recorder leaves everything but itself and its ring alone. -/
theorem State.record_only (s : State) (typ sub : Nat) (d : List Int) :
    s.record typ sub d = { s with recd := (s.record typ sub d).recd, mem := (s.record typ sub d).mem } ∧ onlyRing s (s.record typ sub d) := by
  unfold State.record
  split
  · refine ⟨?_, onlyRing_congr rfl rfl rfl (recPut_onlyRing s s.recd.next (Rec.image _) ?_)⟩
    · unfold State.recPut; split <;> rfl
    · rw [Rec.length_image]; unfold Rec.bytes; omega
  · exact ⟨rfl, onlyRing_refl s⟩
theorem State.record_ex (s : State) (typ sub : Nat) (d : List Int) : (s.record typ sub d).ex = s.ex := by rw [(s.record_only typ sub d).1]
theorem State.record_fields (s : State) (typ sub : Nat) (d : List Int) : (s.record typ sub d).fields = s.fields := by
  rw [(s.record_only typ sub d).1]
theorem State.record_faultQ (s : State) (typ sub : Nat) (d : List Int) : (s.record typ sub d).faultQ = s.faultQ := by
  rw [(s.record_only typ sub d).1]
theorem State.record_led (s : State) (typ sub : Nat) (d : List Int) : (s.record typ sub d).led = s.led := by rw [(s.record_only typ sub d).1]

/-- A trap outside a replay. -/
theorem trapAt_trapped (s : State) (i : Nat) (t : Task) (code pc : Nat) (hr : s.replaying = false) (hc : code < 64) :
    Trapped s (s.trapAt i t code pc) i t code pc := by
  unfold State.trapAt
  extract_lets t' s1 s2
  have h1 : s1.replaying = false := hr
  have h2 : s2.replaying = false := by simp only [s2]; split <;> exact h1
  unfold State.output
  rw [h2]
  simp only [Bool.false_eq_true, if_false]
  have hk : code % 64 = code := Nat.mod_eq_of_lt hc
  have e2 : s2.task? i = some t' := by simp only [s2]; split <;> simp [s1]
  have hf : s2.faultQ = s.faultQ := by simp only [s2]; split <;> rfl
  have e3 : ∀ j, j ≠ i → s2.task? j = s.task? j := by
    intro j hj
    have e1 : s1.task? j = s.task? j := State.task?_setTask_ne s i j t' hj
    simp only [s2]; split <;> exact e1
  have hm : s2.mem = s.mem := by simp only [s2]; split <;> rfl
  have hx : s2.fields = s.fields := by simp only [s2]; split <;> rfl
  refine ⟨⟨t', ?_, rfl, rfl, rfl, rfl, rfl⟩, ?_, ?_, ?_, onlyRing_congr hx.symm hm.symm rfl (State.record_only s2 _ _ _).2⟩
  · show kvGet (s2.record _ _ _).ex.tasks i = _
    rw [State.record_ex]; exact e2
  · show kvGet (s2.record _ _ _).ex.running _ ≠ _
    rw [State.record_ex]
    simp only [s2]
    split
    · simp [State.setRunning]
    · assumption
  · intro j hj
    show kvGet (s2.record _ _ _).ex.tasks j = _
    rw [State.record_ex]; exact e3 j hj
  · rw [(State.record_only s2 _ _ _).1]
    simp only [State.sendFault, hf, hk]
    simp only [s2]
    split <;> rfl

/-! ### Register fields (R3 to R8) -/

/-- A field that has been set reads what was put in it, cut to its width. -/
@[simp] theorem State.fget_fset (s : State) (f : Fld) (v : Nat) : (s.fset f v).fget f = v % 2 ^ f.width := by
  unfold State.fget State.fset fieldPut
  simp only []
  split
  · rename_i h; simp [h]
  · simp

/-- Setting a field leaves every other field alone. -/
theorem State.fget_fset_ne (s : State) (f g : Fld) (v : Nat) (h : g.key ≠ f.key) : (s.fset f v).fget g = s.fget g := by
  unfold State.fget State.fset fieldPut
  simp only []
  split
  · rw [kvGet_kvDel_ne _ _ _ h]
  · rw [kvGet_kvSet_ne _ _ _ _ h]

/-- What does not touch the field store leaves every field alone. -/
theorem State.fget_of_fields {s t : State} (h : t.fields = s.fields) (f : Fld) : t.fget f = s.fget f := by
  unfold State.fget; rw [h]

end Sys2Proof.Machine
end

