-- ==== Sys2Proof/Tests/Slice0.lean ====
section
/-! SUPPORT. Tests of the model: commands refused as ill formed, the worked examples of the spec, and a state for every hypothesis of the
statements. -/

namespace Sys2Proof.Tests

open Sys2Proof Sys2Proof.Machine

set_option Elab.async false

/-! ### Small states -/

/-- A state with these register fields. -/
def withF (l : List (Fld × Nat)) (s : State) : State := { s with fields := l.foldl (fun m e => kvSet m e.1.key e.2) s.fields }

/-- The controller runs, at 10 s of its time. -/
def runS : State := { State.reset with power := { State.reset.power with phase := .run }, tick := 2500000000, timeFx := 10000000000 * 2 ^ 24 }

/-- A task header: two data segments, the second read only, and a channel to send on and one to receive on. -/
def hdr0 : TaskHdr :=
  { hdrOk := true, loop := false, cls := 1, prio := 3, restart := true, task := 5, rel := .call, relArg := 0, relParam := 0, minInterval := 0
    deadline := 0, budget := 10000, load := 0, entry := 4, codeWords := 64, segs := [⟨0, false, false, true, 1024, 0⟩, ⟨1, true, false, true, 64, 0⟩]
    chans := [(3, true), (4, false)], code := [] }

/-- Registers: w1 = 16, w2 = -1, w3 = the most negative number, w4 = a register's offset, w5 = segment 1; t0 lies in the past, t1 ahead. -/
def arch0 : Arch :=
  { Arch.start 10 0 with w := ((((((Vector.replicate 32 0).set 1 16).set 2 0xFFFFFFFF).set 3 0x80000000).set 4 0x00010008).set 5 0x10000000)
                         t := (((Vector.replicate 4 0).set 0 5).set 1 20000000000) }

/-- A task that runs on engine 2. -/
def task0 : Task :=
  { hdr := hdr0, arch := arch0, stat := .running, wait := none, dcall := none, stall := false, pending := none, inForce := ⟨0, []⟩
    started := true, ckpt := none, cyc := 100, maxCyc := 100, minSlack := 0, overrun := 0, trapPc := 0, trapKind := 0, streak := 0
    trapTime := 0, readyAt := 0, preempted := false, halted := false, phys := 2, segLoc := [], nextPeriod := 0
    access := none, tries := 0, area := 0x1000000000, segBase := [(0, 0x1000000800), (1, 0x1000000C00)] }

/-- Tasks, of which `run` run. -/
def withTasks (ts : List (Nat × Task)) (run : List (Nat × Nat)) (s : State) : State := { s with ex := { s.ex with tasks := ts, running := run } }

/-- Task 5 runs on engine 2. -/
def exS : State := withTasks [(5, task0)] [(2, 5)] runS

/-- A plane entry of 100 lines of 1,200 bytes at station 0, and the plane, resident and verified. -/
def entry0 : PlaneEntry := ⟨0, 2, 0, 100, 1200, 120000, 0x1000, 0, true⟩
def plane0 : Plane := ⟨entry0, [3], 120000, 0, true, false, false⟩

/-- The slot of sheet 7. -/
def slot7 : SheetSlot := ⟨7, 0, 1, 99, true, [entry0]⟩

/-- Sheet 7 in a state of its life. -/
def sheet7 (st : SheetState) : Sheet :=
  { seq := 7, st := st, reason := 0, pitchCode := none, commitPos := 0, effPitch := 0, blank := [], detail := 0, reqPitch := 0, hostTag := 99
    planes := [plane0], locked := false, awaiting := false, allocated := true, planeError := none, readySent := true, tooSmall := false
    defect := false, lastRec := none, toldRec := none, doom := none }

/-- The host is served: one command waits in its ring, a run is open, the journal's supply holds, and the next sheet is 7. -/
def hostS : State :=
  withF [(HIF_CTRL_ENABLE, 1), (HIF_CMD_TAIL_CMD_TAIL, 1), (LEDG_STATUS_RUN_OPEN, 1), (LEDG_STATUS_RECOVERY_HOLD, 0), (SYS_STATUS_BACKUP_OK, 1), (PLC_STATUS_PLACED, 1), (STNn_PL_WIDTH_N 0, 10200)]
    { runS with needed := [], led := { runS.led with nextSeq := 7, accepted := 7, ack := 3 } }

/-- The 32-bit words that stand at an offset of BAR0, and the command entry at CMD_HEAD. -/
def withBar (off : Nat) (ws : List Nat) (s : State) : State :=
  { s with host := { s.host with bar := memWrite s.host.bar off (ws.flatMap (fun w => natToBytes w 4)) } }
def withCmd (ws : List Nat) (s : State) : State := withBar 0x10000 ws s

/-- The slot of sheet 7 in the sheet queue. -/
def withSlot (s : State) : State :=
  withBar (0x100000 + 512 * 7) ([7, 0, 0, 1, 99, 0] ++ List.replicate 10 0 ++ [0x00000200, 100, 1200, 120000, 0x1000, 0, 0, 0]) s

/-- These sheets are live, and the next one follows them. -/
def withSheets (l : List Sheet) (s : State) : State := { s with led := { s.led with sheets := l, nextSeq := 7 + l.length, accepted := 7 + l.length } }

/-- The heads of host commands. -/
def head0 : CmdHead := ⟨21, true, true⟩
def badHead : CmdHead := ⟨22, false, true⟩

/-- Station 0 is a scan station that is ready, the belt runs, and the least pitch is 250 mm. -/
def readyF : List (Fld × Nat) :=
  [(STNn_PL_CTRL_ENABLE 0, 1), (STNn_TBL_VALID_VALID 0, 0x1FFFF), (PPOS_CTRL_EN, 1), (STNn_SC_CTRL_SC_EN 0, 1), (STNn_SC_CTRL_LD_EN_REQ 0, 1),
   (STNn_SC_STATUS_PIX_LOCK 0, 1), (STNn_SC_STATUS_TRACKING 0, 1), (STNn_SC_STATUS_FACET_SYNC 0, 1), (STNn_SC_STATUS_PH_SETTLED 0, 1),
   (STNn_HD_STATUS_HREC_OK 0, 1), (LEDG_PITCH_MIN_PITCH_MIN, 250000), (LEDG_ADMIT_LEAD_ADMIT_LEAD, 300000), (LEDG_LOCK_DIST_LOCK_DIST, 200000)]
def readyS : State := withF readyF (withSheets [sheet7 .submitted] hostS)

/-- A page store of 16 MiB with these 32-bit words at an address. -/
def withDram (a : Nat) (ws : List Nat) (s : State) : State :=
  withF [(DRAMC_STATUS_ZEROED, 1), (DRAMC_STATUS_READY, 1), (DRAMC_USABLE_USABLE_MIB, 16)]
    { s with mem := { s.mem with dram := memWrite s.mem.dram a (ws.flatMap (fun w => natToBytes w 4)) } }

/-- Channel 9 has the descriptor at 0x1000 before it: 8 bytes from 0x4000 to 0x5000. -/
def dmaS : State :=
  withF [(DMAn_CTRL_ENABLE 9, 1), (DMAn_RING_LO_BASE_LO 9, 0x80), (DMAn_HEAD_TAIL 9, 1)]
    (withDram 0x4000 [0x44332211, 0x88776655] (withDram 0x1000 [0x80000007, 0, 0x4000, 0, 0x5000, 0, 0, 0] runS))

/-! ### Worked examples and check values of the spec -/

/-- "123456789" in ASCII. -/
def digits : List Byte := [0x31, 0x32, 0x33, 0x34, 0x35, 0x36, 0x37, 0x38, 0x39]

/-- The check value of R47. -/
theorem test_crc32_check_value : crc32 digits = 0xCBF43926 := by decide +kernel
/-- The check value of R401. -/
theorem test_crc8_check_value : crc8 0x313233343536373839 72 = 0xF4 := by decide +kernel

/-- Words of the worked case of the instruction set, and words that R67 makes illegal: opcode 0, BC with condition 15, ONPOS at station 6. -/
theorem test_words_legal :
    [0x702A0030, 0xA0011007, 0xA4300078, 0xC8600001, 0x80400003, 0xE0000001].map (wordLegal false) = [true, true, true, true, true, true] := by
  decide +kernel
theorem test_words_illegal : [0x00000000, 0x83C00003, 0xC8C00001].map (wordLegal false) = [false, false, false] := by decide +kernel
/-- LRUN 9 is legal on a loop engine. -/
theorem test_lrun_on_loop_engine : wordLegal true 0xF4000009 = true := by decide +kernel

/-- 780 mm of October's next facet in PPOS units (R40). -/
theorem test_um_units : umUnits 780000 = 4830054803 := by decide +kernel
/-- A CT8 plane of the October page store takes 384 blocks (R154). -/
theorem test_plane_blocks : planeBlocks { plane0 with entry := { entry0 with length := 803318100 } } = 384 := by decide +kernel
/-- 101.00 °C gives m = 13,000 at the defaults (R424). -/
theorem test_thermal_multiplier : (withF [(THM_STATUS_SENSOR_BAD, 0), (THM_TEMP_TEMP, 10100)] runS).mult = 13000 := by decide +kernel
/-- The spec's value of the mirror word for that m. -/
theorem test_mirror_word : near (13000 * 1024) 10000 = 1331 := by decide +kernel

/-- Rail 1 of October, sensed on RS1: enabled, with two readings in its window so far. -/
def octoberRail : State :=
  withF [(RAIL_RAILr_A_USED 1, 1), (RAIL_RAILr_A_SENSE 1, 1), (RAIL_RAILr_A_NOM 1, 2730), (RAIL_RAILr_B_TOL 1, 5), (RAIL_GOOD_EN, 2), (RAIL_STATUS_STATE, 5)]
    { runS with rail := { runS.rail with judge := [(1, ⟨false, false, 2, 0, 0, none⟩)] } }

/-- The window is 2,594 to 2,866 (R393). -/
theorem test_rail_window_low :
    [2593, 2594].map (fun c => match exec (.rsConversion 1 c) octoberRail with | .next u => (u.judgeOf 1).good | _ => false) = [false, true] := by
  decide +kernel
theorem test_rail_window_high :
    [2866, 2867].map (fun c => match exec (.rsConversion 1 c) octoberRail with | .next u => (u.judgeOf 1).good | _ => false) = [true, false] := by
  decide +kernel

/-- LOOP9 of the worked case, with its one sample's inputs; its task runs on loop engine 21. -/
def loop9 : State :=
  withF
    ([(LOOPn_CFG_NX_M1 9, 1), (LOOPn_CFG_NY_M1 9, 0), (LOOPn_CFG_NU_M1 9, 0), (LOOPn_CFG_FF_SRC 9, 1), (LOOPn_BIND_OWNER 9, 5),
      (LOOPn_SRCk_SRC_LO 9 0, 0x100C), (LOOPn_SRCk_SRC_LO 9 2, 0x4000), (LOOPn_SRCk_SRC_LO 9 4, 0x1828),
      (LOOPn_SCALEs_SCALE 9 0, 0x00028000), (LOOPn_SCALEs_SCALE 9 4, 0xFFF98000), (LOOPn_SCALEs_SCALE 9 8, 0x00030000),
      (LOOPn_DST01_DST_LO 9, 0x1009), (LOOPn_U_MINj_VALUE 9 0, 0), (LOOPn_U_MAXj_VALUE 9 0, 0xE666),
      (LOOPn_MAT_A_VALUE 9 0, 0x0F000000), (LOOPn_MAT_A_VALUE 9 1, 0x01000000), (LOOPn_MAT_A_VALUE 9 8, 0), (LOOPn_MAT_A_VALUE 9 9, 0x10000000),
      (LOOPn_MAT_B_VALUE 9 0, 0xF8000000), (LOOPn_MAT_B_VALUE 9 4, 0), (LOOPn_MAT_C_VALUE 9 0, 0x10000000), (LOOPn_MAT_C_VALUE 9 1, 0),
      (LOOPn_MAT_L_VALUE 9 0, 0x08000000), (LOOPn_MAT_L_VALUE 9 4, 0x02000000), (LOOPn_MAT_K_VALUE 9 0, 0xFC000000)] ++
     [(LOOPn_MAT_K_VALUE 9 1, 0xFE000000), (LOOPn_Gj_VALUE 9 0, 0xFA000000), (LOOPn_Fj_VALUE 9 0, 0xFFFE0000), (LOOPn_Hj_VALUE 9 0, 0xFFC00000),
      (LOOPn_TS_TS 9, 10000), (LOOPn_CTRL_INT_EN 9, 1), (LOOPn_CTRL_MODE 9, 1), (LOOPn_CTRL_ENABLE 9, 1), (LOOPn_STATUS_AUTO_ACT 9, 1),
      (LOOPn_Xi_VALUE 9 0, 2 ^ 32 - 417792), (LOOPn_Xi_VALUE 9 1, 16384), (LOOPn_Zj_VALUE 9 0, 4096), (ADC_AINk_CODE 12, 21955),
      (ADC_AINk_CODE 40, 33451), (HVOk_CTRL_PER 9, 2500)])
    (withTasks [(5, { task0 with phys := 21, hdr := { hdr0 with loop := true } })] [(21, 5)] { runS with loop := [(9, ⟨some 2499997500, some true⟩)] })

/-- What LRUN 9 leaves: u, z, the two states, SAT_OUT, and the duty of HVO9. -/
def loop9After : Option (Nat × Nat × Nat × Nat × Bool × Nat) :=
  match exec (.lrun 21 9) loop9 with
  | .next u => some (u.fget (LOOPn_Uj_VALUE 9 0), u.fget (LOOPn_Zj_VALUE 9 0), u.fget (LOOPn_Xi_VALUE 9 0), u.fget (LOOPn_Xi_VALUE 9 1),
      u.bit (LOOPn_STATUS_SAT_OUT 9), u.fget (HVOk_DUTY_DUTY 9))
  | _ => none

/-- The traced sample (R327, R328): u = 58,982, z = 3,994, the states (-427,511, 14,543), SAT_OUT, duty 3,686. -/
theorem test_loop9_trace : loop9After = some (58982, 3994, 2 ^ 32 - 427511, 14543, true, 3686) := by decide +kernel

/-- The same sample as the first in auto after a manual one with MAN_U = 32,768 (R330): z = -23,792, u = 32,768, duty 2,048. -/
def loop9Manual : State := withF [(LOOPn_Uj_VALUE 9 0, 32768)] { loop9 with loop := [(9, ⟨some 2499997500, some false⟩)] }
theorem test_loop9_preset :
    (match exec (.lrun 21 9) loop9Manual with
      | .next u => some (u.fget (LOOPn_Zj_VALUE 9 0), u.fget (LOOPn_Uj_VALUE 9 0), u.fget (HVOk_DUTY_DUTY 9))
      | _ => none) = some (2 ^ 32 - 23792, 32768, 2048) := by decide +kernel

/-- October at 780 mm: the sheet before commits at 0, the belt stands at a position in µm, and the die at a temperature. -/
def october (temp um : Nat) : State :=
  withF [(LEDG_PITCH_MIN_PITCH_MIN, 780000), (THM_TEMP_TEMP, temp), (THM_STATUS_SENSOR_BAD, 0)]
    { runS with led := { runS.led with fixed := [(6, 0)] }, ppos := { runS.ppos with posFx := umUnits um * 4096, count := 9 } }
def octoberPitch (temp um : Nat) : Nat × Nat := (pitchUm ((october temp um).commitOf (sheet7 .submitted)).2.1, ((october temp um).commitOf (sheet7 .submitted)).2.2)

/-- Pitch under heat and late data (R39): 1,014 mm with THERMAL, then 1,050 mm with DATA. -/
theorem test_pitch_under_heat : octoberPitch 10100 600000 = (1014000, 2) := by decide +kernel
theorem test_pitch_late_data : octoberPitch 9700 950000 = (1050000, 1) := by decide +kernel

/-- TADDI t1, t0, 120, lines adds 7,864,320 (R78). -/
theorem test_taddi_lines :
    (match exec (.taddi 2 1 0 3 120) exS with | .next u => (u.task? 5).map (fun t => t.arch.t[1]) | _ => none) = some (arch0.t[0] + 7864320) := by
  decide +kernel

/-- One rounding and one saturation for MACQ (R70): the most negative number plus the largest product is saturated once. -/
theorem test_macq_saturates_once : (macqOut 0x80000000 0x7FFFFFFF 0x7FFFFFFF).1 = 0x7FFFFFFF := by decide +kernel

/-! ### Commands that are not well formed -/

theorem test_wf_size : (Instr.registerWrite 0 3 0).wf = false := by decide
theorem test_wf_engine : (Instr.add 25 false 1 2 3).wf = false := by decide
theorem test_wf_condition : (Instr.bc 2 15 0).wf = false := by decide
theorem test_wf_station_field : (Instr.onpos 2 0 6 false).wf = false := by decide
theorem test_wf_fault_kind : (Instr.faultI 2 0 0x1F).wf = false := by decide
theorem test_wf_known_service : (Instr.dcallUnknown 2 3).wf = false := by decide
theorem test_wf_task : (Instr.taskStop 512).wf = false := by decide
theorem test_wf_loop_engine : (Instr.lrun 2 9).wf = false := by decide
theorem test_wf_station : (Instr.tileDecode 6).wf = false := by decide
theorem test_wf_drive : (Instr.drvStart 8).wf = false := by decide
theorem test_wf_axis : (Instr.moveEv 20).wf = false := by decide
theorem test_wf_loop : (Instr.applyEv 64).wf = false := by decide
theorem test_wf_of_32 : (Instr.armEv 32).wf = false := by decide
theorem test_wf_of_2 : (Instr.txtsRead 2).wf = false := by decide
theorem test_wf_of_3 : (Instr.scrubWalkStep 3 0 0 0).wf = false := by decide
theorem test_wf_of_4 : (Instr.leakTick 4).wf = false := by decide
theorem test_wf_edge_time : (Instr.eosEdge 0 ⟨true, 4, 5, 64⟩).wf = false := by decide
theorem test_wf_drive_loss : (Instr.drvEncLost 0 3).wf = false := by decide
theorem test_wf_belt_loss : (Instr.encLost 3).wf = false := by decide
theorem test_wf_converter : (Instr.backgroundScan 5).wf = false := by decide
theorem test_wf_dma : (Instr.dmaSkip 16).wf = false := by decide
theorem test_wf_pipeline : (Instr.rsvWrite 7 0).wf = false := by decide
theorem test_wf_rail_sense : (Instr.rsConversion 40 0).wf = false := by decide
theorem test_wf_pin : (Instr.gpioInputEdge 96 true).wf = false := by decide
theorem test_wf_unit : (Instr.unitHardFail (.lane 5 17) 0 0).wf = false := by decide
/-- FAILED has the details 1 to 5 (R203). -/
theorem test_wf_failed_detail : (Instr.unitHardFail (.pipeline 2) 0 6).wf = false := by decide
theorem test_wf_source : (Instr.forceEv 0x03F).wf = false := by decide
theorem test_wf_monitored : (Instr.wearMeasure 0x001 0 0).wf = false := by decide
theorem test_wf_path : (Instr.recoveryDone ⟨3, 0, 0, []⟩).wf = false := by decide
theorem test_wf_frame_length : (Instr.recoveryData ⟨1, 0, 0, List.replicate 1025 0⟩).wf = false := by decide +kernel
theorem test_wf_illegal_is_illegal : (Instr.illegal 2 0x702A0030).wf = false := by decide +kernel
theorem test_wf_illegal : (Instr.illegal 2 0).wf = true := by decide +kernel

/-! ### States and operands that meet the hypotheses of each statement, clause by clause -/

theorem meets_EmptyQueueStepIsTick : ∃ (s : State), s.pending = [] ∧ s.recd.replay = none ∧ s.recd.restart = false := ⟨runS,
    by decide +kernel⟩

theorem meets_QueueFifoAndSafe :
    (∃ (s : State), queueWf s = true)
    ∧ (∃ (c : Instr) (s : State), c.wf = true ∧ (c = .tapInstruction .other → s.bit UPD_STATUS_DEBUG_OPEN = false)) :=
  ⟨⟨{ runS with pending := [.add 2 true 1 2 3] }, by decide +kernel⟩,
   ⟨.clearEv, runS, by decide +kernel⟩⟩

theorem meets_RegistersReadBack :
    (∃ (f : Fld) (g : Fld), g.key ≠ f.key)
    ∧ (∃ (d : BitVec 5), d ≠ 0)
    ∧ (∃ (d : BitVec 5) (e : BitVec 5), e ≠ d)
    ∧ (∃ (k : BitVec 2) (j : BitVec 2), j ≠ k) :=
  ⟨⟨PPOS_CTRL_EN, HIF_CTRL_ENABLE, by decide +kernel⟩,
   ⟨1, by decide +kernel⟩,
   ⟨0, 1, by decide +kernel⟩,
   ⟨0, 1, by decide +kernel⟩⟩

theorem meets_IntegerResults : ∃ (p : Nat) (s : State) (i : Nat) (t : Task), onEngine s p i t := ⟨2, exS, 5, _, ⟨by decide, rfl⟩⟩

theorem meets_MultiplyDivideUnary :
    (∃ (p : Nat) (a : BitVec 5) (b : BitVec 5) (s : State) (i : Nat) (t : Task), onEngine s p i t ∧ (t.arch.getW b).toNat ≠ 0 ∧
        ¬((t.arch.getW a).toInt = -(2 ^ 31) ∧ (t.arch.getW b).toInt = -1))
    ∧ (∃ (p : Nat) (a : BitVec 5) (b : BitVec 5) (s : State) (i : Nat) (t : Task), onEngine s p i t ∧ (t.arch.getW a).toInt = -(2 ^ 31) ∧
        (t.arch.getW b).toInt = -1)
    ∧ (∃ (p : Nat) (b : BitVec 5) (s : State) (i : Nat) (t : Task), onEngine s p i t ∧ (t.arch.getW b).toNat = 0)
    ∧ (∃ (p : Nat) (s : State) (i : Nat) (t : Task), onEngine s p i t) :=
  ⟨⟨2, 0, 1, exS, 5, _, ⟨by decide, rfl⟩, by decide +kernel⟩,
   ⟨2, 3, 2, exS, 5, _, ⟨by decide, rfl⟩, by decide +kernel⟩,
   ⟨2, 0, exS, 5, _, ⟨by decide, rfl⟩, by decide +kernel⟩,
   ⟨2, exS, 5, _, ⟨by decide, rfl⟩⟩⟩

theorem meets_ImmediateResults : ∃ (p : Nat) (s : State) (i : Nat) (t : Task), onEngine s p i t := ⟨2, exS, 5, _, ⟨by decide, rfl⟩⟩

theorem meets_LoadsAndStores :
    (∃ (p : Nat) (d : BitVec 5) (a : BitVec 5) (imm : BitVec 16) (ad : Nat) (A : Nat) (s : State) (i : Nat) (t : Task), onEngine s p i t ∧
        (ad = (t.arch.getW a + imm.signExtend 32).toNat ∧ A = t.segAddr ad) ∧ ∃ x, (x ∈ ([(Instr.ldw p d a imm, 4,
        fun b => BitVec.ofNat 32 (b 0 + b 1 * 2 ^ 8 + b 2 * 2 ^ 16 + b 3 * 2 ^ 24)), (.ldh p d a imm, 2,
        fun b => (BitVec.ofNat 16 (b 0 + b 1 * 2 ^ 8)).signExtend 32), (.ldhu p d a imm, 2, fun b => BitVec.ofNat 32 (b 0 + b 1 * 2 ^ 8)),
        (.ldb p d a imm, 1, fun b => (BitVec.ofNat 8 (b 0)).signExtend 32), (.ldbu p d a imm, 1,
        fun b => BitVec.ofNat 32 (b 0))] : List (Instr × Nat × ((Nat → Nat) → Word)))) ∧ ad % x.2.1 = 0 ∧ (∃ g,
        t.hdr.segs.find? (fun d => d.seg == ad / 2 ^ 28) = some g ∧ ad % 2 ^ 28 + x.2.1 ≤ g.size) ∧ s.mem.clean A x.2.1 = true ∧
        s.replaying = false ∧ t.locOf ad ≠ 2)
    ∧ (∃ (p : Nat) (d : BitVec 5) (a : BitVec 5) (imm : BitVec 16) (ad : Nat) (A : Nat) (s : State) (i : Nat) (t : Task),
        onEngine s p i t ∧ (ad = (t.arch.getW a + imm.signExtend 32).toNat ∧ A = t.segAddr ad) ∧ ∃ x, (x ∈ ([(Instr.ldw p d a imm, 4,
        fun b => BitVec.ofNat 32 (b 0 + b 1 * 2 ^ 8 + b 2 * 2 ^ 16 + b 3 * 2 ^ 24)), (.ldh p d a imm, 2,
        fun b => (BitVec.ofNat 16 (b 0 + b 1 * 2 ^ 8)).signExtend 32), (.ldhu p d a imm, 2, fun b => BitVec.ofNat 32 (b 0 + b 1 * 2 ^ 8)),
        (.ldb p d a imm, 1, fun b => (BitVec.ofNat 8 (b 0)).signExtend 32), (.ldbu p d a imm, 1,
        fun b => BitVec.ofNat 32 (b 0))] : List (Instr × Nat × ((Nat → Nat) → Word)))) ∧ ad % x.2.1 = 0 ∧ (∃ g,
        t.hdr.segs.find? (fun d => d.seg == ad / 2 ^ 28) = some g ∧ ad % 2 ^ 28 + x.2.1 ≤ g.size) ∧ s.mem.clean A x.2.1 = true ∧
        s.replaying = false ∧ t.locOf ad = 2)
    ∧ (∃ (p : Nat) (d : BitVec 5) (a : BitVec 5) (imm : BitVec 16) (ad : Nat) (A : Nat) (s : State) (i : Nat) (t : Task),
        onEngine s p i t ∧ (ad = (t.arch.getW a + imm.signExtend 32).toNat ∧ A = t.segAddr ad) ∧ ∃ x, x ∈ ([(Instr.stw p d a imm, 4),
        (.sth p d a imm, 2), (.stb p d a imm, 1)] : List (Instr × Nat)) ∧ ad % x.2 = 0 ∧ (∃ g,
        t.hdr.segs.find? (fun d => d.seg == ad / 2 ^ 28) = some g ∧ ad % 2 ^ 28 + x.2 ≤ g.size ∧ g.ro = false)) :=
  ⟨⟨2, 0, 0, 0, 0, 68719478784, exS, 5, _, ⟨by decide, rfl⟩, by decide +kernel, _, List.mem_cons_self, by decide +kernel, ⟨_, rfl,
      by decide +kernel⟩, by decide +kernel⟩,
   ⟨2, 0, 0, 0, 0, 256, withTasks [(5, { task0 with segBase := [(0, 0x100), (1, 0x200)], segLoc := [(0, 2)] })] [(2, 5)] runS, 5, _,
       ⟨by decide, rfl⟩, by decide +kernel, _, List.mem_cons_self, by decide +kernel, ⟨_, rfl, by decide +kernel⟩, by decide +kernel⟩,
   ⟨2, 0, 0, 0, 0, 68719478784, exS, 5, _, ⟨by decide, rfl⟩, by decide +kernel, _, List.mem_cons_self, by decide +kernel, ⟨_, rfl,
       by decide +kernel⟩⟩⟩

theorem meets_AccessTraps :
    (∃ (p : Nat) (d : BitVec 5) (a : BitVec 5) (imm : BitVec 16) (ad : Nat) (s : State) (i : Nat) (t : Task), onEngine s p i t ∧
        (ad = (t.arch.getW a + imm.signExtend 32).toNat ∧ s.replaying = false) ∧ ∃ x, x ∈ ([(Instr.ldw p d a imm, 4, false),
        (.ldh p d a imm, 2, false), (.ldhu p d a imm, 2, false), (.ldb p d a imm, 1, false), (.ldbu p d a imm, 1, false), (.stw p d a imm,
        4, true), (.sth p d a imm, 2, true), (.stb p d a imm, 1, true)] : List (Instr × Nat × Bool)) ∧ ad % x.2.1 ≠ 0)
    ∧ (∃ (p : Nat) (d : BitVec 5) (a : BitVec 5) (imm : BitVec 16) (ad : Nat) (s : State) (i : Nat) (t : Task), onEngine s p i t ∧
        (ad = (t.arch.getW a + imm.signExtend 32).toNat ∧ s.replaying = false) ∧ ∃ x, x ∈ ([(Instr.ldw p d a imm, 4, false),
        (.ldh p d a imm, 2, false), (.ldhu p d a imm, 2, false), (.ldb p d a imm, 1, false), (.ldbu p d a imm, 1, false), (.stw p d a imm,
        4, true), (.sth p d a imm, 2, true), (.stb p d a imm, 1, true)] : List (Instr × Nat × Bool)) ∧ ad % x.2.1 = 0 ∧ ¬ (∃ g,
        t.hdr.segs.find? (fun d => d.seg == ad / 2 ^ 28) = some g ∧ ad % 2 ^ 28 + x.2.1 ≤ g.size))
    ∧ (∃ (p : Nat) (d : BitVec 5) (a : BitVec 5) (imm : BitVec 16) (ad : Nat) (s : State) (i : Nat) (t : Task), onEngine s p i t ∧
        (ad = (t.arch.getW a + imm.signExtend 32).toNat ∧ s.replaying = false) ∧ ∃ x, x ∈ ([(Instr.ldw p d a imm, 4, false),
        (.ldh p d a imm, 2, false), (.ldhu p d a imm, 2, false), (.ldb p d a imm, 1, false), (.ldbu p d a imm, 1, false), (.stw p d a imm,
        4, true), (.sth p d a imm, 2, true), (.stb p d a imm, 1, true)] : List (Instr × Nat × Bool)) ∧ ad % x.2.1 = 0 ∧ (∃ g,
        t.hdr.segs.find? (fun d => d.seg == ad / 2 ^ 28) = some g ∧ ad % 2 ^ 28 + x.2.1 ≤ g.size ∧ g.ro = true) ∧ x.2.2 = true)
    ∧ (∃ (p : Nat) (d : BitVec 5) (a : BitVec 5) (imm : BitVec 16) (ad : Nat) (s : State) (i : Nat) (t : Task), onEngine s p i t ∧
        (ad = (t.arch.getW a + imm.signExtend 32).toNat ∧ s.replaying = false) ∧ ∃ x, x ∈ ([(Instr.ldw p d a imm, 4, false),
        (.ldh p d a imm, 2, false), (.ldhu p d a imm, 2, false), (.ldb p d a imm, 1, false), (.ldbu p d a imm, 1, false), (.stw p d a imm,
        4, true), (.sth p d a imm, 2, true), (.stb p d a imm, 1, true)] : List (Instr × Nat × Bool)) ∧ (x.2.2 = false ∧
        sramBase ≤ t.segAddr ad ∧ t.segAddr ad + x.2.1 ≤ sramBase + 0x200000 ∧ ad % x.2.1 = 0) ∧ (∃ g,
        t.hdr.segs.find? (fun d => d.seg == ad / 2 ^ 28) = some g ∧ ad % 2 ^ 28 + x.2.1 ≤ g.size ∧ (g.ro = false ∨ g.init = false)) ∧
        (∃ w ∈ s.mem.sramBad, w = t.segAddr ad / 4 * 4)) :=
  ⟨⟨2, 0, 0, 1, 1, exS, 5, _, ⟨by decide, rfl⟩, by decide +kernel, _, List.mem_cons_self, by decide +kernel⟩,
   ⟨2, 0, 2, 0, 4294967295, exS, 5, _, ⟨by decide, rfl⟩, by decide +kernel, _,
       List.mem_cons_of_mem _ (List.mem_cons_of_mem _ (List.mem_cons_of_mem _ (List.mem_cons_self))), by decide +kernel⟩,
   ⟨2, 0, 5, 0, 268435456, exS, 5, _, ⟨by decide, rfl⟩, by decide +kernel, _,
       List.mem_cons_of_mem _ (List.mem_cons_of_mem _ (List.mem_cons_of_mem _ (List.mem_cons_of_mem _ (List.mem_cons_of_mem _ (List.mem_cons_self))))), by decide +kernel, ⟨_, rfl, by decide +kernel⟩, by decide +kernel⟩,
   ⟨2, 0, 0, 0, 0, { exS with mem := { exS.mem with sramBad := [0x1000000800] } }, 5, _, ⟨by decide, rfl⟩, by decide +kernel, _,
       List.mem_cons_self, by decide +kernel, ⟨_, rfl, by decide +kernel⟩, by decide +kernel⟩⟩

theorem meets_Branches :
    (∃ (p : Nat) (cond : BitVec 4) (s : State) (i : Nat) (t : Task), onEngine s p i t ∧ ∃ (tk : Bool), [true, t.arch.z, !t.arch.z,
        t.arch.n != t.arch.v, t.arch.n == t.arch.v, t.arch.z || t.arch.n != t.arch.v, !t.arch.z && t.arch.n == t.arch.v, !t.arch.c,
        t.arch.c, !t.arch.c || t.arch.z, t.arch.c && !t.arch.z, t.arch.n, !t.arch.n, t.arch.v, !t.arch.v][cond.toNat]? = some tk ∧
        tk = false)
    ∧ (∃ (p : Nat) (cond : BitVec 4) (off : BitVec 22) (s : State) (i : Nat) (t : Task), onEngine s p i t ∧ ∃ (tk : Bool), ([true,
        t.arch.z, !t.arch.z, t.arch.n != t.arch.v, t.arch.n == t.arch.v, t.arch.z || t.arch.n != t.arch.v,
        !t.arch.z && t.arch.n == t.arch.v, !t.arch.c, t.arch.c, !t.arch.c || t.arch.z, t.arch.c && !t.arch.z, t.arch.n, !t.arch.n,
        t.arch.v, !t.arch.v][cond.toNat]? = some tk ∧ tk = true) ∧ ∃ (n : Int), n = (t.arch.pc.toNat : Int) + off.toInt ∧ 0 ≤ n ∧
        n < t.hdr.codeWords)
    ∧ (∃ (p : Nat) (cond : BitVec 4) (off : BitVec 22) (s : State) (i : Nat) (t : Task), onEngine s p i t ∧ ∃ (tk : Bool), ([true,
        t.arch.z, !t.arch.z, t.arch.n != t.arch.v, t.arch.n == t.arch.v, t.arch.z || t.arch.n != t.arch.v,
        !t.arch.z && t.arch.n == t.arch.v, !t.arch.c, t.arch.c, !t.arch.c || t.arch.z, t.arch.c && !t.arch.z, t.arch.n, !t.arch.n,
        t.arch.v, !t.arch.v][cond.toNat]? = some tk ∧ tk = true) ∧ ∃ (n : Int), n = (t.arch.pc.toNat : Int) + off.toInt ∧ ¬ (0 ≤ n ∧
        n < t.hdr.codeWords) ∧ s.replaying = false)
    ∧ (∃ (p : Nat) (cond : BitVec 4) (s : State) (i : Nat) (t : Task), onEngine s p i t ∧ cond = 15 ∧ s.replaying = false)
    ∧ (∃ (p : Nat) (far : BitVec 26) (s : State) (i : Nat) (t : Task), onEngine s p i t ∧ ∃ (n : Int),
        n = (t.arch.pc.toNat : Int) + far.toInt ∧ 0 ≤ n ∧ n < t.hdr.codeWords)
    ∧ (∃ (p : Nat) (far : BitVec 26) (s : State) (i : Nat) (t : Task), onEngine s p i t ∧ ∃ (n : Int),
        n = (t.arch.pc.toNat : Int) + far.toInt ∧ ¬ (0 ≤ n ∧ n < t.hdr.codeWords) ∧ s.replaying = false)
    ∧ (∃ (p : Nat) (a : BitVec 5) (imm : BitVec 16) (s : State) (i : Nat) (t : Task), onEngine s p i t ∧ ∃ (n : Int),
        n = ((t.arch.getW a + imm.signExtend 32).toNat % 65536 : Nat) ∧ 0 ≤ n ∧ n < t.hdr.codeWords)
    ∧ (∃ (p : Nat) (a : BitVec 5) (imm : BitVec 16) (s : State) (i : Nat) (t : Task), onEngine s p i t ∧ ∃ (n : Int),
        n = ((t.arch.getW a + imm.signExtend 32).toNat % 65536 : Nat) ∧ ¬ (0 ≤ n ∧ n < t.hdr.codeWords) ∧ s.replaying = false) :=
  ⟨⟨2, 1, exS, 5, _, ⟨by decide, rfl⟩, false, by decide +kernel⟩,
   ⟨2, 0, 0, exS, 5, _, ⟨by decide, rfl⟩, true, by decide +kernel, 10, by decide +kernel⟩,
   ⟨2, 0, 54, exS, 5, _, ⟨by decide, rfl⟩, true, by decide +kernel, 64, by decide +kernel⟩,
   ⟨2, 15, exS, 5, _, ⟨by decide, rfl⟩, by decide +kernel⟩,
   ⟨2, 53, exS, 5, _, ⟨by decide, rfl⟩, 63, by decide +kernel⟩,
   ⟨2, 54, exS, 5, _, ⟨by decide, rfl⟩, 64, by decide +kernel⟩,
   ⟨2, 0, 0, exS, 5, _, ⟨by decide, rfl⟩, 0, by decide +kernel⟩,
   ⟨2, 2, 0, exS, 5, _, ⟨by decide, rfl⟩, 65535, by decide +kernel⟩⟩

theorem meets_TimeAndPositionResults :
    (∃ (p : Nat) (s : State) (i : Nat) (t : Task), onEngine s p i t)
    ∧ (∃ (p : Nat) (stn : BitVec 3) (s : State) (i : Nat) (t : Task), onEngine s p i t ∧ s.hist.length = 4 ∧ s.replaying = false ∧ stn ≠ 6)
    ∧ (∃ (p : Nat) (stn : BitVec 3) (s : State) (i : Nat) (t : Task), onEngine s p i t ∧ s.hist.length = 4 ∧ s.replaying = false ∧
        stn = 6) :=
  ⟨⟨2, { exS with hist := [(100, 1), (200, -2), (300, 3), (400, 4)] }, 5, _, ⟨by decide, rfl⟩⟩,
   ⟨2, 0, { exS with hist := [(100, 1), (200, -2), (300, 3), (400, 4)] }, 5, _, ⟨by decide, rfl⟩, by decide +kernel⟩,
   ⟨2, 6, { exS with hist := [(100, 1), (200, -2), (300, 3), (400, 4)] }, 5, _, ⟨by decide, rfl⟩, by decide +kernel⟩⟩

theorem meets_Waits :
    (∃ (p : Nat) (ta : BitVec 2) (s : State) (i : Nat) (t : Task), onEngine s p i t ∧ s.replaying = false ∧
        0 ≤ (s.now - t.arch.getT ta).toInt)
    ∧ (∃ (p : Nat) (ta : BitVec 2) (l : Bool) (s : State) (i : Nat) (t : Task), onEngine s p i t ∧ s.replaying = false ∧
        (s.now - t.arch.getT ta).toInt < 0 ∧ (l = true ∧ 0 ≤ (s.now - t.arch.getT 3).toInt))
    ∧ (∃ (p : Nat) (ta : BitVec 2) (l : Bool) (s : State) (i : Nat) (t : Task), onEngine s p i t ∧ s.replaying = false ∧
        (s.now - t.arch.getT ta).toInt < 0 ∧ ¬ (l = true ∧ 0 ≤ (s.now - t.arch.getT 3).toInt))
    ∧ (∃ (p : Nat) (sc : BitVec 2) (a : BitVec 5) (s : State) (i : Nat) (t : Task), onEngine s p i t ∧ s.replaying = false ∧
        0 ≤ (s.now - (t.arch.ref + BitVec.ofNat 64 ((t.arch.getW a).toNat * ([1, 1000, 1000000, 65536].getD sc.toNat 0)))).toInt)
    ∧ (∃ (p : Nat) (sc : BitVec 2) (a : BitVec 5) (l : Bool) (s : State) (i : Nat) (t : Task), onEngine s p i t ∧ s.replaying = false ∧
        (s.now - (t.arch.ref + BitVec.ofNat 64 ((t.arch.getW a).toNat * ([1, 1000, 1000000, 65536].getD sc.toNat 0)))).toInt < 0 ∧
        (l = true ∧ 0 ≤ (s.now - t.arch.getT 3).toInt))
    ∧ (∃ (p : Nat) (sc : BitVec 2) (a : BitVec 5) (l : Bool) (s : State) (i : Nat) (t : Task), onEngine s p i t ∧ s.replaying = false ∧
        (s.now - (t.arch.ref + BitVec.ofNat 64 ((t.arch.getW a).toNat * ([1, 1000, 1000000, 65536].getD sc.toNat 0)))).toInt < 0 ∧
        ¬ (l = true ∧ 0 ≤ (s.now - t.arch.getT 3).toInt))
    ∧ (∃ (p : Nat) (ta : BitVec 2) (stn : BitVec 3) (s : State) (i : Nat) (t : Task), onEngine s p i t ∧ s.replaying = false ∧ stn ≠ 6 ∧
        0 ≤ (s.posAt stn.toNat - t.arch.getT ta).toInt)
    ∧ (∃ (p : Nat) (ta : BitVec 2) (stn : BitVec 3) (l : Bool) (s : State) (i : Nat) (t : Task), onEngine s p i t ∧ s.replaying = false ∧
        stn ≠ 6 ∧ (s.posAt stn.toNat - t.arch.getT ta).toInt < 0 ∧ (l = true ∧ 0 ≤ (s.now - t.arch.getT 3).toInt))
    ∧ (∃ (p : Nat) (ta : BitVec 2) (stn : BitVec 3) (l : Bool) (s : State) (i : Nat) (t : Task), onEngine s p i t ∧ s.replaying = false ∧
        stn ≠ 6 ∧ (s.posAt stn.toNat - t.arch.getT ta).toInt < 0 ∧ ¬ (l = true ∧ 0 ≤ (s.now - t.arch.getT 3).toInt))
    ∧ (∃ (p : Nat) (a : BitVec 5) (l : Bool) (s : State) (i : Nat) (t : Task), onEngine s p i t ∧ s.replaying = false ∧
        definedEvent (t.arch.getW a).toNat = true ∧ (l = true ∧ 0 ≤ (s.now - t.arch.getT 3).toInt))
    ∧ (∃ (p : Nat) (a : BitVec 5) (l : Bool) (s : State) (i : Nat) (t : Task), onEngine s p i t ∧ s.replaying = false ∧
        definedEvent (t.arch.getW a).toNat = true ∧ ¬ (l = true ∧ 0 ≤ (s.now - t.arch.getT 3).toInt))
    ∧ (∃ (p : Nat) (stn : BitVec 3) (s : State) (i : Nat) (t : Task), onEngine s p i t ∧ s.replaying = false ∧ stn = 6)
    ∧ (∃ (p : Nat) (a : BitVec 5) (s : State) (i : Nat) (t : Task), onEngine s p i t ∧ s.replaying = false ∧
        definedEvent (t.arch.getW a).toNat = false)
    ∧ (∃ (s : State) (i : Nat) (t : Task) (w : Wait), i < 512 ∧ s.task? i = some t ∧ t.stat = .waiting ∧ t.wait = some w ∧
        s.replaying = false ∧ ∃ (r : Word64), ((∃ tg, w.kind = .time tg ∧ 0 ≤ (s.now - tg).toInt ∧ r = tg) ∨ (∃ stn tg,
        w.kind = .pos stn tg ∧ w.hit = none ∧ s.beltRuns = true ∧ 0 ≤ (s.posAt stn - tg).toInt ∧ r = s.now) ∨ (∃ stn tg,
        w.kind = .pos stn tg ∧ w.hit = some r) ∨ (∃ sel, w.kind = .event sel ∧ w.hit = some r)))
    ∧ (∃ (s : State) (i : Nat) (t : Task) (w : Wait), i < 512 ∧ s.task? i = some t ∧ t.stat = .waiting ∧ t.wait = some w ∧
        s.replaying = false ∧ ∃ (lim : Word64), w.limit = some lim ∧ 0 ≤ (s.now - lim).toInt ∧ ((∃ tg, w.kind = .time tg ∧
        (s.now - tg).toInt < 0) ∨ (∃ stn tg, w.kind = .pos stn tg ∧ w.hit = none ∧ (s.posAt stn - tg).toInt < 0) ∨ (∃ sel,
        w.kind = .event sel ∧ w.hit = none))) :=
  ⟨⟨2, 0, exS, 5, _, ⟨by decide, rfl⟩, by decide +kernel⟩,
   ⟨2, 1, true, exS, 5, _, ⟨by decide, rfl⟩, by decide +kernel⟩,
   ⟨2, 1, false, exS, 5, _, ⟨by decide, rfl⟩, by decide +kernel⟩,
   ⟨2, 0, 0, exS, 5, _, ⟨by decide, rfl⟩, by decide +kernel⟩,
   ⟨2, 1, 2, true, exS, 5, _, ⟨by decide, rfl⟩, by decide +kernel⟩,
   ⟨2, 1, 2, false, exS, 5, _, ⟨by decide, rfl⟩, by decide +kernel⟩,
   ⟨2, 2, 0, exS, 5, _, ⟨by decide, rfl⟩, by decide +kernel⟩,
   ⟨2, 0, 0, true, exS, 5, _, ⟨by decide, rfl⟩, by decide +kernel⟩,
   ⟨2, 0, 0, false, exS, 5, _, ⟨by decide, rfl⟩, by decide +kernel⟩,
   ⟨2, 0, true, exS, 5, _, ⟨by decide, rfl⟩, by decide +kernel⟩,
   ⟨2, 0, false, exS, 5, _, ⟨by decide, rfl⟩, by decide +kernel⟩,
   ⟨2, 6, exS, 5, _, ⟨by decide, rfl⟩, by decide +kernel⟩,
   ⟨2, 1, exS, 5, _, ⟨by decide, rfl⟩, by decide +kernel⟩,
   ⟨withTasks [(5, { task0 with stat := .waiting, wait := some ⟨.time 5, none, none⟩ })] [] runS, 5, _, _, by decide +kernel, rfl,
       by decide +kernel, rfl, by decide +kernel, 5, Or.inl ⟨5, by decide +kernel⟩⟩,
   ⟨withTasks [(5, { task0 with stat := .waiting, wait := some ⟨.time 20000000000, some 9, none⟩ })] [] runS, 5, _, _, by decide +kernel,
       rfl, by decide +kernel, rfl, by decide +kernel, _, rfl, by decide +kernel, Or.inl ⟨20000000000, by decide +kernel⟩⟩⟩

theorem meets_Messages :
    (∃ (p : Nat) (a : BitVec 5) (x : Bool) (ch : BitVec 8) (s : State) (i : Nat) (t : Task), onEngine s p i t ∧ s.replaying = false ∧
        ∃ (k : Nat), k = (if x then (t.arch.getW a).toNat % 256 else ch.toNat) ∧ ¬ (x = true ∧ ch ≠ 0) ∧ (k, true) ∈ t.hdr.chans ∧
        (s.chan k).length < 16)
    ∧ (∃ (p : Nat) (a : BitVec 5) (x : Bool) (nb : Bool) (ch : BitVec 8) (s : State) (i : Nat) (t : Task), onEngine s p i t ∧
        s.replaying = false ∧ ∃ (k : Nat), k = (if x then (t.arch.getW a).toNat % 256 else ch.toNat) ∧ ¬ (x = true ∧ ch ≠ 0) ∧ (k,
        true) ∈ t.hdr.chans ∧ 16 ≤ (s.chan k).length ∧ nb = true)
    ∧ (∃ (p : Nat) (a : BitVec 5) (l : Bool) (x : Bool) (nb : Bool) (ch : BitVec 8) (s : State) (i : Nat) (t : Task), onEngine s p i t ∧
        s.replaying = false ∧ ∃ (k : Nat), k = (if x then (t.arch.getW a).toNat % 256 else ch.toNat) ∧ ¬ (x = true ∧ ch ≠ 0) ∧ (k,
        true) ∈ t.hdr.chans ∧ 16 ≤ (s.chan k).length ∧ nb = false ∧ (l = true ∧ 0 ≤ (s.now - t.arch.getT 3).toInt))
    ∧ (∃ (p : Nat) (a : BitVec 5) (l : Bool) (x : Bool) (nb : Bool) (ch : BitVec 8) (s : State) (i : Nat) (t : Task), onEngine s p i t ∧
        s.replaying = false ∧ ∃ (k : Nat), k = (if x then (t.arch.getW a).toNat % 256 else ch.toNat) ∧ ¬ (x = true ∧ ch ≠ 0) ∧ (k,
        true) ∈ t.hdr.chans ∧ 16 ≤ (s.chan k).length ∧ nb = false ∧ ¬ (l = true ∧ 0 ≤ (s.now - t.arch.getT 3).toInt))
    ∧ (∃ (p : Nat) (a : BitVec 5) (x : Bool) (ch : BitVec 8) (s : State) (i : Nat) (t : Task), onEngine s p i t ∧ s.replaying = false ∧
        ∃ (k : Nat), (k = (if x then (t.arch.getW a).toNat % 256 else ch.toNat) ∧ ¬ (x = true ∧ ch ≠ 0) ∧ (k, false) ∈ t.hdr.chans) ∧
        ∃ w rest, s.chan k = w :: rest)
    ∧ (∃ (p : Nat) (a : BitVec 5) (x : Bool) (nb : Bool) (ch : BitVec 8) (s : State) (i : Nat) (t : Task), onEngine s p i t ∧
        s.replaying = false ∧ ∃ (k : Nat), k = (if x then (t.arch.getW a).toNat % 256 else ch.toNat) ∧ ¬ (x = true ∧ ch ≠ 0) ∧ (k,
        false) ∈ t.hdr.chans ∧ s.chan k = [] ∧ nb = true)
    ∧ (∃ (p : Nat) (a : BitVec 5) (l : Bool) (x : Bool) (nb : Bool) (ch : BitVec 8) (s : State) (i : Nat) (t : Task), onEngine s p i t ∧
        s.replaying = false ∧ ∃ (k : Nat), k = (if x then (t.arch.getW a).toNat % 256 else ch.toNat) ∧ ¬ (x = true ∧ ch ≠ 0) ∧ (k,
        false) ∈ t.hdr.chans ∧ s.chan k = [] ∧ nb = false ∧ (l = true ∧ 0 ≤ (s.now - t.arch.getT 3).toInt))
    ∧ (∃ (p : Nat) (a : BitVec 5) (l : Bool) (x : Bool) (nb : Bool) (ch : BitVec 8) (s : State) (i : Nat) (t : Task), onEngine s p i t ∧
        s.replaying = false ∧ ∃ (k : Nat), k = (if x then (t.arch.getW a).toNat % 256 else ch.toNat) ∧ ¬ (x = true ∧ ch ≠ 0) ∧ (k,
        false) ∈ t.hdr.chans ∧ s.chan k = [] ∧ nb = false ∧ ¬ (l = true ∧ 0 ≤ (s.now - t.arch.getT 3).toInt))
    ∧ (∃ (p : Nat) (a : BitVec 5) (x : Bool) (ch : BitVec 8) (s : State) (i : Nat) (t : Task), onEngine s p i t ∧ s.replaying = false ∧
        ∃ (k : Nat), k = (if x then (t.arch.getW a).toNat % 256 else ch.toNat) ∧ ¬ (x = true ∧ ch ≠ 0) ∧ ((k, true) ∈ t.hdr.chans ∨ (k,
        false) ∈ t.hdr.chans))
    ∧ (∃ (p : Nat) (d : BitVec 5) (a : BitVec 5) (l : Bool) (x : Bool) (nb : Bool) (ch : BitVec 8) (s : State) (i : Nat) (t : Task),
        onEngine s p i t ∧ s.replaying = false ∧ ∃ (k : Nat), k = (if x then (t.arch.getW a).toNat % 256 else ch.toNat) ∧ ∃ e,
        e ∈ ([(Instr.send p d a l x nb ch, [true]), (.recv p d a l x nb ch, [false]), (.chcnt p d a x ch, [true,
        false])] : List (Instr × List Bool)) ∧ x = true ∧ ch ≠ 0)
    ∧ (∃ (p : Nat) (d : BitVec 5) (a : BitVec 5) (l : Bool) (x : Bool) (nb : Bool) (ch : BitVec 8) (s : State) (i : Nat) (t : Task),
        onEngine s p i t ∧ s.replaying = false ∧ ∃ (k : Nat), k = (if x then (t.arch.getW a).toNat % 256 else ch.toNat) ∧ ∃ e,
        e ∈ ([(Instr.send p d a l x nb ch, [true]), (.recv p d a l x nb ch, [false]), (.chcnt p d a x ch, [true,
        false])] : List (Instr × List Bool)) ∧ ¬ (x = true ∧ ch ≠ 0) ∧ (∀ b ∈ e.2, (k, b) ∉ t.hdr.chans))
    ∧ (∃ (s : State) (i : Nat) (t : Task) (k : Nat) (w : Word) (lim : Option Word64) (hit : Option Word64), i < 512 ∧ s.task? i = some t ∧
        (t.stat = .waiting ∧ s.replaying = false) ∧ t.wait = some ⟨.send k w, lim, hit⟩ ∧ (s.chan k).length < 16)
    ∧ (∃ (s : State) (i : Nat) (t : Task) (k : Nat) (d : BitVec 5) (lim : Option Word64) (hit : Option Word64), i < 512 ∧
        s.task? i = some t ∧ (t.stat = .waiting ∧ s.replaying = false) ∧ ∃ v rest, t.wait = some ⟨.recv k d, lim, hit⟩ ∧ s.chan k = v ::
        rest)
    ∧ (∃ (s : State) (i : Nat) (t : Task) (k : Nat) (w : Word) (d : BitVec 5) (lim : Option Word64) (hit : Option Word64), i < 512 ∧
        s.task? i = some t ∧ (t.stat = .waiting ∧ s.replaying = false) ∧ ∃ x, lim = some x ∧ 0 ≤ (s.now - x).toInt ∧
        ((t.wait = some ⟨.send k w, lim, hit⟩ ∧ 16 ≤ (s.chan k).length) ∨ (t.wait = some ⟨.recv k d, lim, hit⟩ ∧ s.chan k = []))) :=
  ⟨⟨2, 0, false, 3, exS, 5, _, ⟨by decide, rfl⟩, by decide +kernel, 3, by decide +kernel⟩,
   ⟨2, 0, false, true, 3, { exS with ex := { (exS).ex with chans := [(3, List.replicate 16 9), (4, [6, 7])] } }, 5, _, ⟨by decide, rfl⟩,
       by decide +kernel, 3, by decide +kernel⟩,
   ⟨2, 0, true, false, false, 3, { exS with ex := { (exS).ex with chans := [(3, List.replicate 16 9), (4, [6, 7])] } }, 5, _, ⟨by decide,
       rfl⟩, by decide +kernel, 3, by decide +kernel⟩,
   ⟨2, 0, false, false, false, 3, { exS with ex := { (exS).ex with chans := [(3, List.replicate 16 9), (4, [6, 7])] } }, 5, _, ⟨by decide,
       rfl⟩, by decide +kernel, 3, by decide +kernel⟩,
   ⟨2, 0, false, 4, { exS with ex := { (exS).ex with chans := [(3, List.replicate 16 9), (4, [6, 7])] } }, 5, _, ⟨by decide, rfl⟩,
       by decide +kernel, 4, by decide +kernel, _, _, rfl⟩,
   ⟨2, 0, false, true, 4, exS, 5, _, ⟨by decide, rfl⟩, by decide +kernel, 4, by decide +kernel⟩,
   ⟨2, 0, true, false, false, 4, exS, 5, _, ⟨by decide, rfl⟩, by decide +kernel, 4, by decide +kernel⟩,
   ⟨2, 0, false, false, false, 4, exS, 5, _, ⟨by decide, rfl⟩, by decide +kernel, 4, by decide +kernel⟩,
   ⟨2, 0, false, 3, exS, 5, _, ⟨by decide, rfl⟩, by decide +kernel, 3, by decide +kernel⟩,
   ⟨2, 0, 0, false, true, false, 3, exS, 5, _, ⟨by decide, rfl⟩, by decide +kernel, 0, by decide +kernel, _, List.mem_cons_self,
       by decide +kernel⟩,
   ⟨2, 0, 0, false, false, false, 3, exS, 5, _, ⟨by decide, rfl⟩, by decide +kernel, 3, by decide +kernel, _,
       List.mem_cons_of_mem _ (List.mem_cons_self), by decide +kernel⟩,
   ⟨withTasks [(5, { task0 with stat := .waiting, wait := some ⟨.send 3 77, some 9, none⟩ })] [] runS, 5, _, 3, _, _, _, by decide +kernel,
       rfl, by decide +kernel, rfl, by decide +kernel⟩,
   ⟨{ withTasks [(5, { task0 with stat := .waiting, wait := some ⟨.recv 4 2, some 9, none⟩ })] [] runS with ex := { (withTasks [(5, { task0 with stat := .waiting, wait := some ⟨.recv 4 2, some 9, none⟩ })] [] runS).ex with chans := [(3, List.replicate 16 9), (4, [6, 7])] } }, 5, _, 4, _, _, _, by decide +kernel, rfl, by decide +kernel, _, _, rfl, rfl⟩,
   ⟨{ withTasks [(5, { task0 with stat := .waiting, wait := some ⟨.send 3 77, some 9, none⟩ })] [] runS with ex := { (withTasks [(5, { task0 with stat := .waiting, wait := some ⟨.send 3 77, some 9, none⟩ })] [] runS).ex with chans := [(3, List.replicate 16 9), (4, [6, 7])] } }, 5, _, 3, 77, 0, some 9, none, by decide +kernel, rfl, by decide +kernel, _, rfl, by decide +kernel⟩⟩

theorem meets_TaskControlAndTraps :
    (∃ (p : Nat) (s : State) (i : Nat) (t : Task), onEngine s p i t ∧ (∀ e ∈ s.ex.tasks, e.2.phys = p → e.2.stat = .ready →
        e.2.hdr.prio ≠ t.hdr.prio))
    ∧ (∃ (p : Nat) (s : State) (i : Nat) (t : Task), onEngine s p i t ∧ kvSorted s.ex.tasks = true ∧ (∃ e ∈ s.ex.tasks, e.2.phys = p ∧
        e.2.stat = .ready ∧ e.2.hdr.prio = t.hdr.prio))
    ∧ (∃ (p : Nat) (kind : BitVec 6) (s : State) (i : Nat) (t : Task), onEngine s p i t ∧ s.replaying = false ∧ 0x20 ≤ kind.toNat)
    ∧ (∃ (p : Nat) (kind : BitVec 6) (s : State) (i : Nat) (t : Task), onEngine s p i t ∧ s.replaying = false ∧ kind.toNat < 0x20)
    ∧ (∃ (p : Nat) (s : State) (i : Nat) (t : Task), onEngine s p i t ∧ s.bit UPD_STATUS_DEBUG_OPEN = true)
    ∧ (∃ (p : Nat) (s : State) (i : Nat) (t : Task), onEngine s p i t ∧ s.replaying = false ∧ s.bit UPD_STATUS_DEBUG_OPEN = false)
    ∧ (∃ (s : State) (i : Nat) (t : Task), (s.replaying = false ∧ i < 512) ∧ s.task? i = some t ∧ (t.stat = .running ∨ t.stat = .ready ∨
        t.stat = .waiting) ∧ t.hdr.budget < t.cyc)
    ∧ (∃ (s : State) (i : Nat) (t : Task), (s.replaying = false ∧ i < 512) ∧ s.task? i = some t ∧ (t.stat = .running ∨ t.stat = .ready ∨
        t.stat = .waiting) ∧ t.hdr.cls < 2 ∧ t.hdr.deadline ≠ 0 ∧ 0 ≤ (s.now - (t.inForce.ref + BitVec.ofNat 64 t.hdr.deadline)).toInt)
    ∧ (∃ (s : State) (i : Nat) (t : Task), (s.replaying = false ∧ i < 512) ∧ s.task? i = some t ∧ (t.stat = .running ∨ t.stat = .ready ∨
        t.stat = .waiting) ∧ (2 ≤ t.hdr.cls ∨ t.hdr.deadline = 0))
    ∧ (∃ (s : State) (i : Nat) (p : Nat) (t : Task), s.replaying = false ∧ onEngine s p i t ∧ ∃ (w : BitVec 32), (w.toNat / 2 ^ 26 ∉ [0x01,
        0x02, 0x03, 0x28, 0x38, 0x04, 0x05, 0x06, 0x07, 0x10, 0x11, 0x12, 0x13, 0x14, 0x18, 0x19, 0x1A, 0x1C, 0x1D, 0x21, 0x22, 0x08, 0x09,
        0x0A, 0x20, 0x29, 0x30, 0x31, 0x32, 0x33, 0x34, 0x35, 0x36, 0x39, 0x3C, 0x3D] ∨ (w.toNat / 2 ^ 26 = 0x01 ∧ w.toNat % 64 ∉ [0, 1, 2,
        3, 4, 5, 8, 9, 10, 11, 16, 17, 18, 19, 24, 25, 26, 27, 28, 29]) ∨ (w.toNat / 2 ^ 26 = 0x02 ∧ w.toNat % 64 ∉ [0, 1, 2, 3, 4, 8, 9,
        10, 11]) ∨ (w.toNat / 2 ^ 26 = 0x3D ∧ p < 20))) :=
  ⟨⟨2, exS, 5, _, ⟨by decide, rfl⟩, by decide +kernel⟩,
   ⟨2, withTasks [(5, task0), (9, { task0 with stat := .ready })] [(2, 5)] runS, 5, _, ⟨by decide, rfl⟩, by decide +kernel⟩,
   ⟨2, 32, exS, 5, _, ⟨by decide, rfl⟩, by decide +kernel⟩,
   ⟨2, 31, exS, 5, _, ⟨by decide, rfl⟩, by decide +kernel⟩,
   ⟨2, withF [(UPD_STATUS_DEBUG_OPEN, 1)] exS, 5, _, ⟨by decide, rfl⟩, by decide +kernel⟩,
   ⟨2, exS, 5, _, ⟨by decide, rfl⟩, by decide +kernel⟩,
   ⟨withTasks [(5, { task0 with cyc := 20000 })] [(2, 5)] runS, 5, _, by decide +kernel, rfl, by decide +kernel⟩,
   ⟨withTasks [(5, { task0 with hdr := { hdr0 with deadline := 5000 } })] [(2, 5)] runS, 5, _, by decide +kernel, rfl, by decide +kernel⟩,
   ⟨exS, 5, _, by decide +kernel, rfl, by decide +kernel⟩,
   ⟨exS, 5, 2, _, by decide +kernel, ⟨by decide, rfl⟩, 0xFFFFFFFF, by decide +kernel⟩⟩

theorem meets_ActivationsAndRestarts :
    (∃ (p : Nat) (s : State) (i : Nat) (t : Task), onEngine s p i t ∧ (t.hdr.deadline = 0 ∨ 2 ≤ t.hdr.cls ∨
        (s.now - t.inForce.ref).toNat * 105 ≤ t.hdr.deadline * 100) ∧ t.pending = none ∧ t.hdr.rel ≠ .message)
    ∧ (∃ (p : Nat) (s : State) (i : Nat) (t : Task), onEngine s p i t ∧ (t.hdr.deadline = 0 ∨ 2 ≤ t.hdr.cls ∨
        (s.now - t.inForce.ref).toNat * 105 ≤ t.hdr.deadline * 100) ∧ ∃ r, t.pending = some r ∧ t.started = true)
    ∧ (∃ (s : State) (i : Nat), i < 512 ∧ ∃ (t : Task), s.task? i = some t ∧ (t.inForce.args = [] ∧ t.hdr.rel = .once ∧ t.stat = .trapped ∧
        t.hdr.restart = true ∧ t.tries < 3 ∧ t.trapTime + 250000 ≤ s.tick) ∧ ∃ a, t.ckpt = some a)
    ∧ (∃ (s : State) (i : Nat), i < 512 ∧ ∃ (t : Task), s.task? i = some t ∧ t.inForce.args = [] ∧ t.hdr.rel = .once ∧ t.stat = .trapped ∧
        t.hdr.restart = true ∧ t.tries < 3 ∧ t.trapTime + 250000 ≤ s.tick ∧ t.ckpt = none)
    ∧ (∃ (s : State) (i : Nat), i < 512 ∧ ∃ (t : Task), s.task? i = some t ∧ (t.inForce.args = [] ∧ (t.stat = .trapped ∨
        t.stat = .stopped)) ∧ ∃ a, t.ckpt = some a)
    ∧ (∃ (s : State) (i : Nat), i < 512 ∧ ∃ (t : Task), s.task? i = some t ∧ t.inForce.args = [] ∧ (t.stat = .trapped ∨
        t.stat = .stopped) ∧ t.ckpt = none)
    ∧ (∃ (s : State) (i : Nat), i < 512 ∧ ∃ (t : Task), s.task? i = some t ∧ t.inForce.args = [] ∧ t.stat ≠ .trapped ∧ t.stat ≠ .stopped)
    ∧ (∃ (s : State) (i : Nat), i < 512 ∧ ∃ c, c ∈ ([Instr.taskRestartCheckpoint i, .taskRestartEntry i] : List Instr) ∧
        (s.task? i = none ∨ ∃ t, s.task? i = some t ∧ t.stat ≠ .trapped ∧ t.stat ≠ .stopped))
    ∧ (∃ (s : State) (i : Nat), i < 512 ∧ (s.task? i = none ∨ ∃ t, s.task? i = some t ∧ (t.stat = .trapped ∨ t.stat = .stopped))) :=
  ⟨⟨2, exS, 5, _, ⟨by decide, rfl⟩, by decide +kernel⟩,
   ⟨2, withTasks [(5, { task0 with pending := some ⟨77, [1, 2]⟩ })] [(2, 5)] runS, 5, _, ⟨by decide, rfl⟩, by decide +kernel, _, rfl,
       by decide +kernel⟩,
   ⟨withTasks [(5, { task0 with stat := .trapped, hdr := { hdr0 with rel := .once }, ckpt := some arch0 })] [] runS, 5, by decide +kernel,
       _, rfl, by decide +kernel, _, rfl⟩,
   ⟨withTasks [(5, { task0 with stat := .trapped, hdr := { hdr0 with rel := .once } })] [] runS, 5, by decide +kernel, _, rfl,
       by decide +kernel⟩,
   ⟨withTasks [(5, { task0 with stat := .trapped, hdr := { hdr0 with rel := .once }, ckpt := some arch0 })] [] runS, 5, by decide +kernel,
       _, rfl, by decide +kernel, _, rfl⟩,
   ⟨withTasks [(5, { task0 with stat := .trapped, hdr := { hdr0 with rel := .once } })] [] runS, 5, by decide +kernel, _, rfl,
       by decide +kernel⟩,
   ⟨exS, 5, by decide +kernel, _, rfl, by decide +kernel⟩,
   ⟨exS, 2, by decide +kernel, _, List.mem_cons_self, by decide +kernel⟩,
   ⟨exS, 2, by decide +kernel⟩⟩

theorem meets_Dcalls :
    (∃ (p : Nat) (svc : BitVec 16) (s : State) (i : Nat) (t : Task), onEngine s p i t ∧ s.replaying = false ∧ ∃ e, e ∈ ([(Instr.dcallLog p,
        1), (.dcallSetGet p, 2), (.dcallSetPut p, 3), (.dcallHeadRead p, 4), (.dcallHostEvent p, 5), (.dcallSegInfo p, 6),
        (.dcallUnknown p svc, svc.toNat)] : List (Instr × Nat)) ∧ t.hdr.cls ≠ 0)
    ∧ (∃ (p : Nat) (svc : BitVec 16) (s : State) (i : Nat) (t : Task), onEngine s p i t ∧ s.replaying = false ∧ ∃ e,
        e ∈ ([(Instr.dcallLog p, 1), (.dcallSetGet p, 2), (.dcallSetPut p, 3), (.dcallHeadRead p, 4), (.dcallHostEvent p, 5),
        (.dcallSegInfo p, 6), (.dcallUnknown p svc, svc.toNat)] : List (Instr × Nat)) ∧ t.hdr.cls = 0)
    ∧ (∃ (s : State) (i : Nat) (t : Task), i < 512 ∧ s.task? i = some t ∧ t.stat = .waiting ∧ s.replaying = false ∧ t.dcall = some 1)
    ∧ (∃ (s : State) (i : Nat) (t : Task), i < 512 ∧ s.task? i = some t ∧ (t.stat = .waiting ∧ s.replaying = false) ∧ ∃ g,
        t.hdr.segs.find? (fun d => d.seg == (t.arch.getW 1).toNat) = some g ∧ t.dcall = some 6)
    ∧ (∃ (s : State) (i : Nat) (t : Task), i < 512 ∧ s.task? i = some t ∧ t.stat = .waiting ∧ s.replaying = false ∧ t.dcall = some 3 ∧
        s.upd.lock = true)
    ∧ (∃ (s : State) (i : Nat) (t : Task), i < 512 ∧ s.task? i = some t ∧ (t.stat = .waiting ∧ s.replaying = false) ∧
        ∃ (n : Nat) (off : Nat) (buf : Nat) (len : Nat), (n = (t.arch.getW 1).toNat ∧ off = (t.arch.getW 2).toNat ∧
        buf = (t.arch.getW 3).toNat ∧ len = (t.arch.getW 4).toNat ∧ n < 6 ∧ off + len ≤ 2 ^ 16 ∧ 1 ≤ len ∧ len ≤ 256) ∧ (∃ g,
        t.hdr.segs.find? (fun d => d.seg == buf / 2 ^ 28) = some g ∧ buf % 2 ^ 28 + len ≤ g.size ∧ g.ro = false) ∧ t.dcall = some 4 ∧
        s.bit (STNn_HD_STATUS_HREC_BUSY n) = true)
    ∧ (∃ (s : State) (i : Nat) (t : Task) (err : Bool), i < 512 ∧ s.task? i = some t ∧ (t.stat = .waiting ∧ s.replaying = false) ∧
        ∃ (n : Nat) (off : Nat) (buf : Nat) (len : Nat), (n = (t.arch.getW 1).toNat ∧ off = (t.arch.getW 2).toNat ∧
        buf = (t.arch.getW 3).toNat ∧ len = (t.arch.getW 4).toNat ∧ n < 6 ∧ off + len ≤ 2 ^ 16 ∧ 1 ≤ len ∧ len ≤ 256) ∧ (∃ g,
        t.hdr.segs.find? (fun d => d.seg == buf / 2 ^ 28) = some g ∧ buf % 2 ^ 28 + len ≤ g.size ∧ g.ro = false) ∧ t.dcall = some 4 ∧
        s.bit (STNn_HD_STATUS_HREC_BUSY n) = false ∧ err = true)
    ∧ (∃ (s : State) (i : Nat) (t : Task), i < 512 ∧ s.task? i = some t ∧ t.stat = .waiting ∧ s.replaying = false ∧ t.dcall = some 5 ∧
        (s.bit HIF_CTRL_ENABLE = false ∨ s.evtFree < 8))
    ∧ (∃ (s : State) (i : Nat) (t : Task), i < 512 ∧ s.task? i = some t ∧ (t.stat = .waiting ∧ s.replaying = false) ∧ ∃ svc, (svc = 0 ∨
        6 < svc) ∧ t.dcall = some svc) :=
  ⟨⟨2, 0, exS, 5, _, ⟨by decide, rfl⟩, by decide +kernel, _, List.mem_cons_self, by decide +kernel⟩,
   ⟨2, 0, withTasks [(5, { task0 with hdr := { hdr0 with cls := 0 } })] [(2, 5)] runS, 5, _, ⟨by decide, rfl⟩, by decide +kernel, _,
       List.mem_cons_self, by decide +kernel⟩,
   ⟨withTasks [(5, { task0 with stat := .waiting, dcall := some 1 })] [] runS, 5, _, by decide +kernel, rfl, by decide +kernel⟩,
   ⟨withTasks [(5, { task0 with stat := .waiting, dcall := some 6, arch := { arch0 with w := arch0.w.set 1 1 } })] [] runS, 5, _,
       by decide +kernel, rfl, by decide +kernel, _, rfl, by decide +kernel⟩,
   ⟨{ withTasks [(5, { task0 with stat := .waiting, dcall := some 3 })] [] runS with upd := { runS.upd with lock := true } }, 5, _,
       by decide +kernel, rfl, by decide +kernel⟩,
   ⟨withF [(STNn_HD_STATUS_HREC_BUSY 5, 1)] (withTasks [(5,
       { task0 with stat := .waiting, dcall := some 4, arch := { arch0 with w := ((((arch0.w.set 1 5).set 2 0xFF00).set 3 768).set 4 256) } })] [] runS), 5, _, by decide +kernel, rfl, by decide +kernel, 5, 65280, 768, 256, by decide +kernel, ⟨_, rfl, by decide +kernel⟩, by decide +kernel⟩,
   ⟨withTasks [(5, { task0 with stat := .waiting, dcall := some 4, arch := { arch0 with w := ((((arch0.w.set 1 5).set 2 0xFF00).set 3 768).set 4 256) } })] [] runS, 5, _, true, by decide +kernel, rfl, by decide +kernel, 5, 65280, 768, 256, by decide +kernel, ⟨_, rfl, by decide +kernel⟩, by decide +kernel⟩,
   ⟨withTasks [(5, { task0 with stat := .waiting, dcall := some 5 })] [] runS, 5, _, by decide +kernel, rfl, by decide +kernel⟩,
   ⟨withTasks [(5, { task0 with stat := .waiting, dcall := some 0 })] [] runS, 5, _, by decide +kernel, rfl, by decide +kernel, 0,
       by decide +kernel⟩⟩

theorem meets_ReleasesAndDispatch :
    (∃ (s : State) (i : Nat) (k : Nat) (t : Task), i < 512 ∧ s.task? i = some t ∧ s.replaying = false ∧ t.hdr.rel = .period ∧
        t.hdr.relParam ≠ 0 ∧ t.stat = .idle ∧ 0 ≤ (s.now - BitVec.ofNat 64 t.nextPeriod).toInt ∧
        (s.now - BitVec.ofNat 64 t.nextPeriod).toNat / t.hdr.relParam = k)
    ∧ (∃ (s : State) (i : Nat) (t : Task), i < 512 ∧ s.task? i = some t ∧ (s.now - BitVec.ofNat 64 t.nextPeriod).toInt < 0)
    ∧ (∃ (s : State) (p : Nat) (i : Nat) (t : Task), (p < 25 ∧ s.fget (PLC_ENGp_STATE p) = 1 ∧ kvGet s.ex.running p = none) ∧
        s.task? i = some t ∧ t.phys = p ∧ t.stat = .ready ∧ (∀ e ∈ s.ex.tasks, e.1 ≠ i → e.2.phys = p → e.2.stat = .ready →
        e.2.hdr.prio < t.hdr.prio ∨ (e.2.hdr.prio = t.hdr.prio ∧ (t.preempted = true ∧ e.2.preempted = false ∨
        t.preempted = e.2.preempted ∧ (t.readyAt < e.2.readyAt ∨ (t.readyAt = e.2.readyAt ∧ i < e.1))))) ∧ kvSorted s.ex.tasks = true)
    ∧ (∃ (s : State) (p : Nat) (i : Nat) (j : Nat) (t : Task) (x : Task), (p < 25 ∧ s.fget (PLC_ENGp_STATE p) = 1 ∧
        kvGet s.ex.running p = some j) ∧ s.task? j = some x ∧ x.stat = .running ∧ s.task? i = some t ∧ t.phys = p ∧ t.stat = .ready ∧
        (∀ e ∈ s.ex.tasks, e.1 ≠ i → e.2.phys = p → e.2.stat = .ready → e.2.hdr.prio < t.hdr.prio ∨ (e.2.hdr.prio = t.hdr.prio ∧
        (t.preempted = true ∧ e.2.preempted = false ∨ t.preempted = e.2.preempted ∧ (t.readyAt < e.2.readyAt ∨ (t.readyAt = e.2.readyAt ∧
        i < e.1))))) ∧ kvSorted s.ex.tasks = true ∧ x.hdr.prio < t.hdr.prio)
    ∧ (∃ (s : State) (p : Nat) (i : Nat) (j : Nat) (t : Task) (x : Task), (p < 25 ∧ s.fget (PLC_ENGp_STATE p) = 1 ∧
        kvGet s.ex.running p = some j) ∧ s.task? j = some x ∧ x.stat = .running ∧ s.task? i = some t ∧ t.phys = p ∧ t.stat = .ready ∧
        (∀ e ∈ s.ex.tasks, e.1 ≠ i → e.2.phys = p → e.2.stat = .ready → e.2.hdr.prio < t.hdr.prio ∨ (e.2.hdr.prio = t.hdr.prio ∧
        (t.preempted = true ∧ e.2.preempted = false ∨ t.preempted = e.2.preempted ∧ (t.readyAt < e.2.readyAt ∨ (t.readyAt = e.2.readyAt ∧
        i < e.1))))) ∧ kvSorted s.ex.tasks = true ∧ t.hdr.prio ≤ x.hdr.prio)
    ∧ (∃ (s : State) (p : Nat), p < 25 ∧ (∀ e ∈ s.ex.tasks, e.2.phys = p → e.2.stat ≠ .ready)) :=
  ⟨⟨withTasks [(5, { task0 with stat := .idle, hdr := { hdr0 with rel := .period, relParam := 1000000 }, nextPeriod := 9998000000 })] [] runS, 5, 2, _, by decide +kernel, rfl, by decide +kernel⟩,
   ⟨withTasks [(5, { task0 with stat := .idle, hdr := { hdr0 with rel := .period, relParam := 1000000 }, nextPeriod := 10998000000 })] [] runS, 5, _, by decide +kernel, rfl, by decide +kernel⟩,
   ⟨withF [(PLC_ENGp_STATE 2, 1)] (withTasks [(5, { task0 with stat := .ready })] [] runS), 2, 5, _, by decide +kernel, rfl,
       by decide +kernel⟩,
   ⟨withF [(PLC_ENGp_STATE 2, 1)] (withTasks [(5, task0), (9, { task0 with stat := .ready, hdr := { hdr0 with prio := 5 } })] [(2,
       5)] runS), 2, 9, 5, _, _, by decide +kernel, rfl, by decide +kernel, rfl, by decide +kernel⟩,
   ⟨withF [(PLC_ENGp_STATE 2, 1)] (withTasks [(5, task0), (9, { task0 with stat := .ready })] [(2, 5)] runS), 2, 9, 5, _, _,
       by decide +kernel, rfl, by decide +kernel, rfl, by decide +kernel⟩,
   ⟨withTasks [(5, { task0 with stat := .idle, hdr := { hdr0 with rel := .period, relParam := 1000000 }, nextPeriod := 9998000000 })] [] runS, 2, by decide +kernel⟩⟩

theorem meets_RegisterAccess :
    (∃ (p : Nat) (a : BitVec 5) (imm : BitVec 16) (s : State) (i : Nat) (t : Task), onEngine s p i t ∧ ∃ (ad : Nat),
        ad = 0x2000000000 + (t.arch.getW a + imm.signExtend 32).toNat % 2 ^ 26 ∧ s.replaying = false ∧ ad % 4 = 0 ∧ ¬ (aonAddr ad = true ∧
        t.hdr.cls = 0) ∧ s.regMapped ad = true ∧ wideOf ad = none)
    ∧ (∃ (p : Nat) (a : BitVec 5) (imm : BitVec 16) (s : State) (i : Nat) (t : Task), onEngine s p i t ∧ ∃ (ad : Nat),
        ad = 0x2000000000 + (t.arch.getW a + imm.signExtend 32).toNat % 2 ^ 26 ∧ s.replaying = false ∧ ad % 4 = 0 ∧ ¬ (aonAddr ad = true ∧
        t.hdr.cls = 0) ∧ s.regMapped ad = false)
    ∧ (∃ (p : Nat) (a : BitVec 5) (imm : BitVec 16) (s : State) (i : Nat) (t : Task), onEngine s p i t ∧ ∃ (ad : Nat),
        ad = 0x2000000000 + (t.arch.getW a + imm.signExtend 32).toNat % 2 ^ 26 ∧ s.replaying = false ∧ ad % 4 = 0 ∧ ¬ (aonAddr ad = true ∧
        t.hdr.cls = 0) ∧ s.regMapped ad = true ∧ (aonAddr ad = true → s.aonQ.length < 4))
    ∧ (∃ (p : Nat) (a : BitVec 5) (imm : BitVec 16) (s : State) (i : Nat) (t : Task), onEngine s p i t ∧ ∃ (ad : Nat),
        ad = 0x2000000000 + (t.arch.getW a + imm.signExtend 32).toNat % 2 ^ 26 ∧ s.replaying = false ∧ ad % 4 = 0 ∧ ¬ (aonAddr ad = true ∧
        t.hdr.cls = 0) ∧ s.regMapped ad = true ∧ aonAddr ad = true ∧ 4 ≤ s.aonQ.length ∧ s.power.phase = .run)
    ∧ (∃ (p : Nat) (d : BitVec 5) (a : BitVec 5) (imm : BitVec 16) (s : State) (i : Nat) (t : Task), onEngine s p i t ∧ ∃ (ad : Nat),
        (ad = 0x2000000000 + (t.arch.getW a + imm.signExtend 32).toNat % 2 ^ 26 ∧ s.replaying = false) ∧ ∃ c, c ∈ ([Instr.ior p d a imm,
        .iow p d a imm] : List Instr) ∧ ad % 4 ≠ 0)
    ∧ (∃ (p : Nat) (d : BitVec 5) (a : BitVec 5) (imm : BitVec 16) (s : State) (i : Nat) (t : Task), onEngine s p i t ∧ ∃ (ad : Nat),
        (ad = 0x2000000000 + (t.arch.getW a + imm.signExtend 32).toNat % 2 ^ 26 ∧ s.replaying = false) ∧ ∃ c, c ∈ ([Instr.ior p d a imm,
        .iow p d a imm] : List Instr) ∧ ad % 4 = 0 ∧ aonAddr ad = true ∧ t.hdr.cls = 0) :=
  ⟨⟨2, 0, 0, withTasks [(5, { task0 with hdr := { hdr0 with cls := 0 }, arch := { arch0 with w := arch0.w.set 1 0 } })] [(2, 5)] runS, 5,
      _, ⟨by decide, rfl⟩, 137438953472, by decide +kernel⟩,
   ⟨2, 1, 0, withTasks [(5, { task0 with hdr := { hdr0 with cls := 1 }, arch := { arch0 with w := arch0.w.set 1 0x3FFFFF0 } })] [(2,
       5)] runS, 5, _, ⟨by decide, rfl⟩, 137506062320, by decide +kernel⟩,
   ⟨2, 0, 0, withTasks [(5, { task0 with hdr := { hdr0 with cls := 0 }, arch := { arch0 with w := arch0.w.set 1 0 } })] [(2, 5)] runS, 5,
       _, ⟨by decide, rfl⟩, 137438953472, by decide +kernel⟩,
   ⟨2, 1, 0, { withTasks [(5, { task0 with hdr := { hdr0 with cls := 1 }, arch := { arch0 with w := arch0.w.set 1 0x80 } })] [(2, 5)] runS with aonQ := List.replicate 4 (0x2000000080, 9) }, 5, _, ⟨by decide, rfl⟩, 137438953600, by decide +kernel⟩,
   ⟨2, 0, 0, 1, withTasks [(5, { task0 with hdr := { hdr0 with cls := 0 }, arch := { arch0 with w := arch0.w.set 1 0 } })] [(2, 5)] runS,
       5, _, ⟨by decide, rfl⟩, 137438953473, by decide +kernel, _, List.mem_cons_self, by decide +kernel⟩,
   ⟨2, 0, 1, 0, withTasks [(5, { task0 with hdr := { hdr0 with cls := 0 }, arch := { arch0 with w := arch0.w.set 1 12 } })] [(2, 5)] runS,
       5, _, ⟨by decide, rfl⟩, 137438953484, by decide +kernel, _, List.mem_cons_self, by decide +kernel⟩⟩

theorem meets_Handoffs :
    (∃ (f : HoFrame), f.version < 256 ∧ f.typ < 256 ∧ f.from_ < 256 ∧ f.to_ < 256 ∧ f.epoch < 2 ^ 64 ∧ f.hnum < 2 ^ 32 ∧ f.seq < 2 ^ 64 ∧
        f.time < 2 ^ 64 ∧ f.status < 256)
    ∧ (∃ (s : State) (rcv : Nat), (rcv < 4 ∧ s.ho.sendQ.length < 16 ∧ rcv ≠ s.fget SYS_STRAPS_CTRL_NUM) ∧ ∃ h m,
        h = ((kvGet s.ho.lastHnum rcv).getD 0 + 1) % 2 ^ 32 ∧
        m = HoMsg.mk rcv h (s.fget SYS_HO_TX_SEQ_LO_VALUE + s.fget SYS_HO_TX_SEQ_HI_VALUE * 2 ^ 32) (s.fget SYS_HO_TX_TIME_LO_VALUE + s.fget SYS_HO_TX_TIME_HI_VALUE * 2 ^ 32) (s.ho.resyncNext.contains rcv) false 0 0 ∧ (∀ x ∈ s.ho.sendQ, x.rcv ≠ rcv))
    ∧ (∃ (s : State) (rcv : Nat), (rcv < 4 ∧ s.ho.sendQ.length < 16 ∧ rcv ≠ s.fget SYS_STRAPS_CTRL_NUM) ∧ ∃ h m,
        h = ((kvGet s.ho.lastHnum rcv).getD 0 + 1) % 2 ^ 32 ∧
        m = HoMsg.mk rcv h (s.fget SYS_HO_TX_SEQ_LO_VALUE + s.fget SYS_HO_TX_SEQ_HI_VALUE * 2 ^ 32) (s.fget SYS_HO_TX_TIME_LO_VALUE + s.fget SYS_HO_TX_TIME_HI_VALUE * 2 ^ 32) (s.ho.resyncNext.contains rcv) false 0 0 ∧ ∃ x rest, s.ho.sendQ.filter (fun y => y.rcv == rcv) = x :: rest ∧ x.sent = true)
    ∧ (∃ (s : State) (rcv : Nat), rcv < 4 ∧ (16 ≤ s.ho.sendQ.length ∨ rcv = s.fget SYS_STRAPS_CTRL_NUM))
    ∧ (∃ (s : State) (port : Nat) (e : EthFrame), port < 2 ∧ (e.dst ≠ 0xFFFFFFFFFFFF ∨ e.etherType ≠ s.fget SYS_HANDOFF_ETHERTYPE))
    ∧ (∃ (s : State) (port : Nat) (e : EthFrame), port < 2 ∧ ∃ (f : HoFrame), (e.dst = 0xFFFFFFFFFFFF ∧
        e.etherType = s.fget SYS_HANDOFF_ETHERTYPE ∧ 46 ≤ e.payload.length) ∧ f = hoParse e.payload ∧ (f.version ≠ 1 ∨
        f.to_ ≠ s.fget SYS_STRAPS_CTRL_NUM))
    ∧ (∃ (s : State) (port : Nat) (e : EthFrame), port < 2 ∧ ∃ (f : HoFrame), (e.dst = 0xFFFFFFFFFFFF ∧
        e.etherType = s.fget SYS_HANDOFF_ETHERTYPE ∧ 46 ≤ e.payload.length) ∧ f = hoParse e.payload ∧ (f.version = 1 ∧
        f.to_ = s.fget SYS_STRAPS_CTRL_NUM ∧ f.from_ < 4 ∧ f.typ = 1) ∧ ∃ k, k = kvGet s.ho.kept f.from_ ∧ ((∃ last, k = some (f.epoch,
        last) ∧ f.hnum = last + 1) ∨ ((∀ last, k ≠ some (f.epoch, last)) ∧ (f.hnum = 1 ∨ f.resync = true))) ∧ s.ho.rxQ.length < 16 ∧
        s.jrn.staged.length < 192)
    ∧ (∃ (s : State) (port : Nat) (e : EthFrame), port < 2 ∧ ∃ (f : HoFrame), (e.dst = 0xFFFFFFFFFFFF ∧
        e.etherType = s.fget SYS_HANDOFF_ETHERTYPE ∧ 46 ≤ e.payload.length) ∧ f = hoParse e.payload ∧ (f.version = 1 ∧
        f.to_ = s.fget SYS_STRAPS_CTRL_NUM ∧ f.from_ < 4 ∧ f.typ = 1) ∧ ∃ k, k = kvGet s.ho.kept f.from_ ∧ ((∃ last, k = some (f.epoch,
        last) ∧ f.hnum = last + 1) ∨ ((∀ last, k ≠ some (f.epoch, last)) ∧ (f.hnum = 1 ∨ f.resync = true))) ∧ 16 ≤ s.ho.rxQ.length)
    ∧ (∃ (s : State) (port : Nat) (e : EthFrame), port < 2 ∧ ∃ (f : HoFrame), (e.dst = 0xFFFFFFFFFFFF ∧
        e.etherType = s.fget SYS_HANDOFF_ETHERTYPE ∧ 46 ≤ e.payload.length) ∧ f = hoParse e.payload ∧ (f.version = 1 ∧
        f.to_ = s.fget SYS_STRAPS_CTRL_NUM ∧ f.from_ < 4 ∧ f.typ = 1) ∧ ∃ k, k = kvGet s.ho.kept f.from_ ∧ ∃ last, k = some (f.epoch,
        last) ∧ f.hnum ≤ last ∧ s.ackOwed f = false)
    ∧ (∃ (s : State) (port : Nat) (e : EthFrame), port < 2 ∧ ∃ (f : HoFrame), (e.dst = 0xFFFFFFFFFFFF ∧
        e.etherType = s.fget SYS_HANDOFF_ETHERTYPE ∧ 46 ≤ e.payload.length) ∧ f = hoParse e.payload ∧ (f.version = 1 ∧
        f.to_ = s.fget SYS_STRAPS_CTRL_NUM ∧ f.from_ < 4 ∧ f.typ = 1) ∧ ∃ k, k = kvGet s.ho.kept f.from_ ∧ ∃ last, k = some (f.epoch,
        last) ∧ f.hnum ≤ last ∧ s.ackOwed f = true)
    ∧ (∃ (s : State) (port : Nat) (e : EthFrame), port < 2 ∧ ∃ (f : HoFrame), (e.dst = 0xFFFFFFFFFFFF ∧
        e.etherType = s.fget SYS_HANDOFF_ETHERTYPE ∧ 46 ≤ e.payload.length) ∧ f = hoParse e.payload ∧ (f.version = 1 ∧
        f.to_ = s.fget SYS_STRAPS_CTRL_NUM ∧ f.from_ < 4 ∧ f.typ = 1) ∧ ∃ k, k = kvGet s.ho.kept f.from_ ∧ ∃ last, k = some (f.epoch,
        last) ∧ last + 1 < f.hnum)
    ∧ (∃ (s : State) (port : Nat) (e : EthFrame), port < 2 ∧ ∃ (f : HoFrame), (e.dst = 0xFFFFFFFFFFFF ∧
        e.etherType = s.fget SYS_HANDOFF_ETHERTYPE ∧ 46 ≤ e.payload.length) ∧ f = hoParse e.payload ∧ (f.version = 1 ∧
        f.to_ = s.fget SYS_STRAPS_CTRL_NUM ∧ f.from_ < 4 ∧ f.typ = 1) ∧ ∃ k, k = kvGet s.ho.kept f.from_ ∧ (∀ last, k ≠ some (f.epoch,
        last)) ∧ f.hnum ≠ 1 ∧ f.resync = false)
    ∧ (∃ (s : State) (port : Nat) (e : EthFrame), port < 2 ∧ ∃ (f : HoFrame), (e.dst = 0xFFFFFFFFFFFF ∧
        e.etherType = s.fget SYS_HANDOFF_ETHERTYPE ∧ 46 ≤ e.payload.length) ∧ f = hoParse e.payload ∧ ∃ (m : HoMsg),
        s.ho.sendQ.find? (fun x => x.rcv == m.rcv) = some m ∧ m.sent = true ∧ m.rcv < 4 ∧ f.version = 1 ∧ f.typ = 2 ∧
        f.to_ = s.fget SYS_STRAPS_CTRL_NUM ∧ f.from_ = m.rcv ∧ f.epoch = s.ho.epoch ∧ f.hnum = m.hnum ∧ f.seq = m.seq ∧ f.time = m.time ∧
        (f.status = 0 ∨ f.status = 1))
    ∧ (∃ (s : State) (x : HoFrame) (rest : List HoFrame), s.ho.rxQ = x :: rest)
    ∧ (∃ (s : State) (m : HoMsg), s.ho.sendQ.find? (fun x => x.rcv == m.rcv) = some m ∧ m.sent = true ∧ m.rcv < 4 ∧
        m.lastSent + 250000 ≤ s.tick ∧ m.resends < 20)
    ∧ (∃ (s : State) (m : HoMsg), s.ho.sendQ.find? (fun x => x.rcv == m.rcv) = some m ∧ m.sent = true ∧ m.rcv < 4 ∧
        m.lastSent + 250000 ≤ s.tick ∧ m.resends = 20) :=
  ⟨⟨⟨1, 1, 2, 1, 6, 5, 40, 50, false, 0⟩, by decide +kernel⟩,
   ⟨withF [(SYS_STRAPS_CTRL_NUM,
       1)] { runS with ho := { runS.ho with epoch := 9, sendQ := [⟨2, 4, 77, 88, false, true, 3, 5⟩], kept := [(2, (6, 4))] } }, 0,
       by decide +kernel, 1, _, by decide +kernel, rfl, by decide +kernel⟩,
   ⟨withF [(SYS_STRAPS_CTRL_NUM,
       1)] { runS with ho := { runS.ho with epoch := 9, sendQ := [⟨2, 4, 77, 88, false, true, 3, 5⟩], kept := [(2, (6, 4))] } }, 2,
       by decide +kernel, 1, _, by decide +kernel, rfl, _, _, rfl, by decide +kernel⟩,
   ⟨withF [(SYS_STRAPS_CTRL_NUM,
       1)] { runS with ho := { runS.ho with epoch := 9, sendQ := [⟨2, 4, 77, 88, false, true, 3, 5⟩], kept := [(2, (6, 4))] } }, 1,
       by decide +kernel⟩,
   ⟨withF [(SYS_STRAPS_CTRL_NUM,
       1)] { runS with ho := { runS.ho with epoch := 9, sendQ := [⟨2, 4, 77, 88, false, true, 3, 5⟩], kept := [(2, (6, 4))] } }, 0, ⟨5,
       0x88B5, hoBytes ⟨1, 1, 2, 1, 6, 5, 40, 50, false, 0⟩⟩, by decide +kernel⟩,
   ⟨withF [(SYS_STRAPS_CTRL_NUM,
       1)] { runS with ho := { runS.ho with epoch := 9, sendQ := [⟨2, 4, 77, 88, false, true, 3, 5⟩], kept := [(2, (6, 4))] } }, 0,
       ⟨0xFFFFFFFFFFFF, 0x88B5, hoBytes ({ (⟨1, 1, 2, 1, 6, 5, 40, 50, false, 0⟩ : HoFrame) with version := 2 } : HoFrame)⟩,
       by decide +kernel, _, by decide +kernel, rfl, by decide +kernel⟩,
   ⟨withF [(SYS_STRAPS_CTRL_NUM,
       1)] { runS with ho := { runS.ho with epoch := 9, sendQ := [⟨2, 4, 77, 88, false, true, 3, 5⟩], kept := [(2, (6, 4))] } }, 0,
       ⟨0xFFFFFFFFFFFF, 0x88B5, hoBytes ⟨1, 1, 2, 1, 6, 5, 40, 50, false, 0⟩⟩, by decide +kernel, _, by decide +kernel, rfl,
       by decide +kernel, _, rfl, Or.inl ⟨4, by decide +kernel⟩, by decide +kernel⟩,
   ⟨withF [(SYS_STRAPS_CTRL_NUM,
       1)] { runS with ho := { runS.ho with epoch := 9, sendQ := List.replicate 16 (⟨3, 4, 77, 88, false, true, 0, 5⟩), rxQ := List.replicate 16 (⟨1, 1, 2, 1, 6, 5, 40, 50, false, 0⟩), kept := [(2, (6, 4))] } }, 0, ⟨0xFFFFFFFFFFFF, 0x88B5, hoBytes ⟨1, 1, 2, 1, 6, 5, 40, 50, false, 0⟩⟩, by decide +kernel, _, by decide +kernel, rfl, by decide +kernel, _, rfl, Or.inl ⟨4, by decide +kernel⟩, by decide +kernel⟩,
   ⟨withF [(SYS_STRAPS_CTRL_NUM,
       1)] { runS with ho := { runS.ho with epoch := 9, sendQ := [⟨2, 4, 77, 88, false, true, 3, 5⟩], kept := [(2, (6, 4))] } }, 0,
       ⟨0xFFFFFFFFFFFF, 0x88B5, hoBytes ({ (⟨1, 1, 2, 1, 6, 5, 40, 50, false, 0⟩ : HoFrame) with hnum := 4 } : HoFrame)⟩,
       by decide +kernel, _, by decide +kernel, rfl, by decide +kernel, _, rfl, 4, by decide +kernel⟩,
   ⟨{ (withF [(SYS_STRAPS_CTRL_NUM, 1)] { runS with ho := { runS.ho with epoch := 9 } }) with ho := { (withF [(SYS_STRAPS_CTRL_NUM, 1)] { runS with ho := { runS.ho with epoch := 9 } } : State).ho with kept := [(2, (6, 4))], owedAcks := [(3, 0, ({ (⟨1, 1, 2, 1, 6, 5, 40, 50, false, 0⟩ : HoFrame) with hnum := 4 } : HoFrame))] } }, 0, ⟨0xFFFFFFFFFFFF, 0x88B5, hoBytes ({ (⟨1, 1, 2, 1, 6, 5, 40, 50, false, 0⟩ : HoFrame) with hnum := 4 } : HoFrame)⟩, by decide +kernel, _, by decide +kernel, rfl, by decide +kernel, _, rfl, 4, by decide +kernel⟩,
   ⟨withF [(SYS_STRAPS_CTRL_NUM,
       1)] { runS with ho := { runS.ho with epoch := 9, sendQ := [⟨2, 4, 77, 88, false, true, 3, 5⟩], kept := [(2, (6, 4))] } }, 0,
       ⟨0xFFFFFFFFFFFF, 0x88B5, hoBytes ({ (⟨1, 1, 2, 1, 6, 5, 40, 50, false, 0⟩ : HoFrame) with hnum := 9 } : HoFrame)⟩,
       by decide +kernel, _, by decide +kernel, rfl, by decide +kernel, _, rfl, 4, by decide +kernel⟩,
   ⟨withF [(SYS_STRAPS_CTRL_NUM,
       1)] { runS with ho := { runS.ho with epoch := 9, sendQ := [⟨2, 4, 77, 88, false, true, 3, 5⟩], kept := [(2, (6, 4))] } }, 0,
       ⟨0xFFFFFFFFFFFF, 0x88B5, hoBytes ({ (⟨1, 1, 2, 1, 6, 5, 40, 50, false, 0⟩ : HoFrame) with epoch := 7 } : HoFrame)⟩,
       by decide +kernel, _, by decide +kernel, rfl, by decide +kernel, _, rfl, by rintro _ ⟨⟩, by decide +kernel⟩,
   ⟨withF [(SYS_STRAPS_CTRL_NUM,
       1)] { runS with ho := { runS.ho with epoch := 9, sendQ := [⟨2, 4, 77, 88, false, true, 3, 5⟩], kept := [(2, (6, 4))] } }, 0,
       ⟨0xFFFFFFFFFFFF, 0x88B5,
       hoBytes ({ (⟨1, 1, 2, 1, 6, 5, 40, 50, false, 0⟩ : HoFrame) with typ := 2, epoch := 9, hnum := 4, seq := 77, time := 88 } : HoFrame)⟩, by decide +kernel, _, by decide +kernel, rfl, ⟨2, 4, 77, 88, false, true, 3, 5⟩, by decide +kernel⟩,
   ⟨withF [(SYS_STRAPS_CTRL_NUM,
       1)] { runS with ho := { runS.ho with epoch := 9, sendQ := [⟨2, 4, 77, 88, false, true, 20, 5⟩], rxQ := [⟨1, 1, 2, 1, 6, 5, 40, 50, false, 0⟩] } }, _, _, rfl⟩,
   ⟨withF [(SYS_STRAPS_CTRL_NUM,
       1)] { runS with ho := { runS.ho with epoch := 9, sendQ := [⟨2, 4, 77, 88, false, true, 3, 5⟩], kept := [(2, (6, 4))] } }, ⟨2, 4, 77,
       88, false, true, 3, 5⟩, by decide +kernel⟩,
   ⟨withF [(SYS_STRAPS_CTRL_NUM,
       1)] { runS with ho := { runS.ho with epoch := 9, sendQ := [⟨2, 4, 77, 88, false, true, 20, 5⟩], rxQ := [⟨1, 1, 2, 1, 6, 5, 40, 50, false, 0⟩] } }, ⟨2, 4, 77, 88, false, true, 20, 5⟩, by decide +kernel⟩⟩

theorem meets_RunsOpenAndClose :
    (∃ (s : State) (h : CmdHead) (seq : Nat), seq = s.cmdNum 8 8 ∧ ∃ (lo : Bool),
        lo = (s.led.sheets.head?.any (fun sh => decide (sh.seq + 2 ^ 32 - 4096 ≤ seq))) ∧ hostCmd s 0x0001 h ∧
        s.bit LEDG_STATUS_RUN_OPEN = false ∧ s.led.accepted ≤ seq ∧ lo = false ∧ h.flagsOk = true ∧ h.argsOk = true ∧
        s.bit PLC_STATUS_PLACED = true ∧ s.jrn.staged.length < 192)
    ∧ (∃ (s : State) (h : CmdHead) (seq : Nat), seq = s.cmdNum 8 8 ∧ ∃ (lo : Bool),
        lo = (s.led.sheets.head?.any (fun sh => decide (sh.seq + 2 ^ 32 - 4096 ≤ seq))) ∧ ∃ (st : Nat) (d : Nat), hostCmd s 0x0001 h ∧
        ((st, d) = (if s.bit LEDG_STATUS_RUN_OPEN then (8, 0) else if seq < s.led.accepted ∨ lo = true then (9,
        0) else if h.flagsOk = false ∨ h.argsOk = false then (12, 0) else if s.bit PLC_STATUS_PLACED = false then (15,
        s.fget PLC_PLACE_ERR_CODE) else (0, 0))) ∧ st ≠ 0)
    ∧ (∃ (s : State) (h : CmdHead) (seq : Nat), seq = s.cmdNum 8 8 ∧ ∃ (lo : Bool),
        lo = (s.led.sheets.head?.any (fun sh => decide (sh.seq + 2 ^ 32 - 4096 ≤ seq))) ∧ hostCmd s 0x0002 h ∧
        s.bit LEDG_STATUS_RUN_OPEN = true ∧ h.flagsOk = true ∧ h.argsOk = true ∧ s.jrn.staged.length < 192)
    ∧ (∃ (s : State) (h : CmdHead) (seq : Nat), seq = s.cmdNum 8 8 ∧ ∃ (lo : Bool),
        lo = (s.led.sheets.head?.any (fun sh => decide (sh.seq + 2 ^ 32 - 4096 ≤ seq))) ∧ hostCmd s 0x0002 h ∧
        s.bit LEDG_STATUS_RUN_OPEN = false) :=
  ⟨⟨withCmd [1, 21, 7, 0] (withF [(LEDG_STATUS_RUN_OPEN, 0)] hostS), ⟨21, true, true⟩, 7, by decide +kernel, false, by decide +kernel,
      by unfold hostCmd hostReady; decide +kernel, by decide +kernel⟩,
   ⟨withCmd [1, 21, 7, 0] (hostS), ⟨21, true, true⟩, 7, by decide +kernel, false, by decide +kernel, 8, 0,
       by unfold hostCmd hostReady; decide +kernel, by decide +kernel⟩,
   ⟨withCmd [2, 21] (hostS), ⟨21, true, true⟩, 0, by decide +kernel, false, by decide +kernel, by unfold hostCmd hostReady; decide +kernel,
       by decide +kernel⟩,
   ⟨withCmd [2, 21] (withF [(LEDG_STATUS_RUN_OPEN, 0)] hostS), ⟨21, true, true⟩, 0, by decide +kernel, false, by decide +kernel,
       by unfold hostCmd hostReady; decide +kernel, by decide +kernel⟩⟩

theorem meets_SubmissionRejected : ∃ (s : State) (h : CmdHead) (seq : Nat) (x : SheetSlot), hostCmd s 0x0003 h ∧
    (s.cmdFlags.testBit 0 = false ∧ seq = s.cmdNum 8 8) ∧ x = s.slotAt seq ∧ ∃ (st : Nat),
    st = (if s.led.nextSeq < seq then 1 else if seq < s.led.nextSeq then 2 else if s.bit LEDG_STATUS_RUN_OPEN = false then 3 else if 4096 ≤ s.led.sheets.length then 4 else 0) ∧ st ≠ 0 := ⟨withCmd [3, 21, 9, 0] (hostS), ⟨21, true, true⟩, 9, _, by unfold hostCmd hostReady; decide +kernel, by decide +kernel, rfl, 1, by decide +kernel⟩

theorem meets_SheetsSubmittedAndWithdrawn :
    (∃ (s : State) (h : CmdHead) (seq : Nat) (x : SheetSlot), seq = s.cmdNum 8 8 ∧ x = s.slotAt seq ∧ (h.flagsOk = true ∧ h.argsOk = true ∧
        s.degraded = false ∧ s.bit SYS_STATUS_BACKUP_OK = true ∧ s.jrn.retired.length ≤ 32 ∧ s.jrn.staged.length < 192) ∧
        hostCmd s 0x0003 h ∧ s.cmdFlags.testBit 0 = false ∧ seq = s.led.nextSeq ∧ s.bit LEDG_STATUS_RUN_OPEN = true ∧
        s.led.sheets.length < 4096 ∧ s.sheet? seq = none ∧ s.slotErr seq x = none)
    ∧ (∃ (s : State) (h : CmdHead) (seq : Nat) (x : SheetSlot), seq = s.cmdNum 8 8 ∧ x = s.slotAt seq ∧ (h.flagsOk = true ∧
        h.argsOk = true ∧ s.degraded = false ∧ s.bit SYS_STATUS_BACKUP_OK = true ∧ s.jrn.retired.length ≤ 32 ∧ s.jrn.staged.length < 192) ∧
        ∃ sh, hostCmd s 0x0003 h ∧ s.cmdFlags.testBit 0 = true ∧ s.sheet? seq = some sh ∧ sh.st = .submitted ∧ s.slotErr seq x = none)
    ∧ (∃ (s : State) (h : CmdHead) (seq : Nat) (x : SheetSlot), seq = s.cmdNum 8 8 ∧ x = s.slotAt seq ∧ (h.flagsOk = true ∧
        h.argsOk = true ∧ s.degraded = false ∧ s.bit SYS_STATUS_BACKUP_OK = true ∧ s.jrn.retired.length ≤ 32 ∧ s.jrn.staged.length < 192) ∧
        ∃ sh, hostCmd s 0x0004 h ∧ s.sheet? seq = some sh ∧ (sh.st = .submitted ∨ (sh.st = .admitted ∧ sh.locked = false)))
    ∧ (∃ (s : State) (h : CmdHead) (seq : Nat) (x : SheetSlot), seq = s.cmdNum 8 8 ∧ x = s.slotAt seq ∧ (h.flagsOk = true ∧
        h.argsOk = true ∧ s.degraded = false ∧ s.bit SYS_STATUS_BACKUP_OK = true ∧ s.jrn.retired.length ≤ 32 ∧ s.jrn.staged.length < 192) ∧
        ∃ (st : Nat), hostCmd s 0x0004 h ∧ ((∃ sh, s.sheet? seq = some sh ∧ ((st = 5 ∧ (sh.st.inFlight = true ∨ (sh.st = .admitted ∧
        sh.locked = true))) ∨ (st = 7 ∧ sh.st.isFinal = true))) ∨ (st = 6 ∧ s.sheet? seq = none))) :=
  ⟨⟨withCmd [3, 21, 7, 0] (withSlot (hostS)), ⟨21, true, true⟩, 7, _, by decide +kernel, rfl, by decide +kernel,
      by unfold hostCmd hostReady; decide +kernel, by decide +kernel⟩,
   ⟨withCmd [65539, 21, 7, 0] (withSlot (withSheets [sheet7 .submitted] hostS)), ⟨21, true, true⟩, 7, _, by decide +kernel, rfl,
       by decide +kernel, _, by unfold hostCmd hostReady; decide +kernel, by decide +kernel, rfl, by decide +kernel⟩,
   ⟨withCmd [4, 21, 7, 0] (withSlot (withSheets [sheet7 .submitted] hostS)), ⟨21, true, true⟩, 7, _, by decide +kernel, rfl,
       by decide +kernel, _, by unfold hostCmd hostReady; decide +kernel, rfl, by decide +kernel⟩,
   ⟨withCmd [4, 21, 7, 0] (withSlot (withSheets [sheet7 .committed] hostS)), ⟨21, true, true⟩, 7, _, by decide +kernel, rfl,
       by decide +kernel, 5, by unfold hostCmd hostReady; decide +kernel, by decide +kernel⟩⟩

theorem meets_RingsAndMirror :
    (∃ (s : State) (x : Nat) (old : Nat) (head : Nat), old = s.fget HIF_CMD_TAIL_CMD_TAIL ∧ head = s.fget HIF_CMD_HEAD_CMD_HEAD ∧
        (x % 1024 + 1024 - old) % 1024 ≤ (head + 2047 - old) % 1024)
    ∧ (∃ (s : State) (x : Nat) (old : Nat) (head : Nat), old = s.fget HIF_CMD_TAIL_CMD_TAIL ∧ head = s.fget HIF_CMD_HEAD_CMD_HEAD ∧
        (head + 2047 - old) % 1024 < (x % 1024 + 1024 - old) % 1024)
    ∧ (∃ (s : State) (x : Nat) (old : Nat) (head : Nat), (old = s.fget HIF_CMD_TAIL_CMD_TAIL ∧ head = s.fget HIF_CMD_HEAD_CMD_HEAD) ∧
        ∃ (adv : Nat), adv = (x % 4096 + 4096 - s.fget HIF_EVT_HEAD_EVT_HEAD) % 4096 ∧ adv ≤ s.host.events.length ∧ s.host.held = [] ∧
        s.host.owed = none)
    ∧ (∃ (s : State) (x : Nat) (old : Nat) (head : Nat), (old = s.fget HIF_CMD_TAIL_CMD_TAIL ∧ head = s.fget HIF_CMD_HEAD_CMD_HEAD) ∧
        ∃ (adv : Nat), adv = (x % 4096 + 4096 - s.fget HIF_EVT_HEAD_EVT_HEAD) % 4096 ∧ s.host.events.length < adv)
    ∧ (∃ (s : State) (old : Nat) (head : Nat), (old = s.fget HIF_CMD_TAIL_CMD_TAIL ∧ head = s.fget HIF_CMD_HEAD_CMD_HEAD) ∧ ∃ t,
        s.host.vec0At = some t ∧ s.host.vec0Due = true ∧ t + 250 * s.fget HIF_IRQ_HOLDOFF_HOLDOFF ≤ s.tick ∧
        s.bit HIF_CTRL_IRQ_EN = true) :=
  ⟨⟨hostS, 1, 1, 0, by decide +kernel⟩,
   ⟨hostS, 0, 1, 0, by decide +kernel⟩,
   ⟨hostS, 0, 1, 0, by decide +kernel, 0, by decide +kernel⟩,
   ⟨hostS, 1, 1, 0, by decide +kernel, 1, by decide +kernel⟩,
   ⟨{ (withF [(HIF_CTRL_IRQ_EN, 1)] hostS) with host := { (withF [(HIF_CTRL_IRQ_EN, 1)] hostS).host with vec0At := some 5, vec0Due := true } }, 1, 0, by decide +kernel, 5, by decide +kernel⟩⟩

theorem meets_HostQueries :
    (∃ (s : State) (h : CmdHead) (i : Nat) (w1 : Nat) (w2 : Nat) (w3 : Nat) (w4 : Nat), hostCmd s 0x0006 h ∧ (i = s.cmdNum 8 2 ∧
        w1 = s.cmdNum 12 4 ∧ w2 = s.cmdNum 16 4 ∧ w3 = s.cmdNum 20 4 ∧ w4 = s.cmdNum 24 4 ∧ h.flagsOk = true ∧ h.argsOk = true ∧
        s.replaying = false) ∧ ∃ t, s.task? i = some t ∧ (t.hdr.rel = .call ∧ t.pending = none) ∧ ∃ r,
        r = Release.mk s.now [BitVec.ofNat 32 w1, BitVec.ofNat 32 w2, BitVec.ofNat 32 w3, BitVec.ofNat 32 w4] ∧ t.stat = .idle)
    ∧ (∃ (s : State) (h : CmdHead) (i : Nat) (w1 : Nat) (w2 : Nat) (w3 : Nat) (w4 : Nat), hostCmd s 0x0006 h ∧ (i = s.cmdNum 8 2 ∧
        w1 = s.cmdNum 12 4 ∧ w2 = s.cmdNum 16 4 ∧ w3 = s.cmdNum 20 4 ∧ w4 = s.cmdNum 24 4 ∧ h.flagsOk = true ∧ h.argsOk = true ∧
        s.replaying = false) ∧ ∃ t, s.task? i = some t ∧ (t.hdr.rel = .call ∧ t.pending = none) ∧ ∃ r,
        r = Release.mk s.now [BitVec.ofNat 32 w1, BitVec.ofNat 32 w2, BitVec.ofNat 32 w3, BitVec.ofNat 32 w4] ∧ (t.stat = .ready ∨
        t.stat = .running ∨ t.stat = .waiting))
    ∧ (∃ (s : State) (h : CmdHead) (i : Nat) (w1 : Nat) (w2 : Nat) (w3 : Nat) (w4 : Nat), hostCmd s 0x0006 h ∧ (i = s.cmdNum 8 2 ∧
        w1 = s.cmdNum 12 4 ∧ w2 = s.cmdNum 16 4 ∧ w3 = s.cmdNum 20 4 ∧ w4 = s.cmdNum 24 4 ∧ h.flagsOk = true ∧ h.argsOk = true ∧
        s.replaying = false) ∧ ∃ (st : Nat) (d : Nat), (((st, d) = (10, 0) ∧ (∀ t, s.task? i = some t → t.hdr.rel ≠ .call)) ∨ (∃ t,
        s.task? i = some t ∧ t.hdr.rel = .call ∧ (((st, d) = (11, 1) ∧ t.pending ≠ none) ∨ ((st, d) = (11, 2) ∧ t.pending = none ∧
        (t.stat = .stopped ∨ (t.stat = .trapped ∧ (t.hdr.restart = false ∨ 3 ≤ t.tries))))))))
    ∧ (∃ (s : State) (h : CmdHead), hostCmd s 0x0005 h ∧ h.flagsOk = true ∧ h.argsOk = true ∧ s.cmdFlags.testBit 1 = false ∧
        Memory.wf s.host.bar = true)
    ∧ (∃ (s : State) (h : CmdHead), hostCmd s 0x0005 h ∧ (h.flagsOk = true ∧ h.argsOk = true ∧ s.cmdFlags.testBit 1 = true) ∧
        ∃ (m : Nat) (k : Nat) (n : Nat), n = s.cmdNum 8 8 ∧
        m = (((s.led.sheets.filter (fun sh => !sh.st.isFinal)).head?).map (fun sh => sh.seq)).getD s.led.nextSeq ∧ 1 ≤ m ∧
        k = min n (m - 1) ∧ s.jrn.compact = none ∧ s.jrn.staged.length < 192)
    ∧ (∃ (s : State) (h : CmdHead), h ≠ s.cmdHead ∧ ∃ (i : Nat), ∃ (w1 : Nat), ∃ (w2 : Nat), ∃ (w3 : Nat), ∃ (w4 : Nat), ∃ (addr : Nat),
        ∃ (len : Nat), ∃ (tok : Nat), ∃ (off : Nat), ∃ (x : SheetSlot), ∃ (err : Bool), ∃ (img : List Byte), ∃ c, c ∈ ([.runStart h i,
        .runEnd h, .sheetSubmit h i x, .sheetReload h i x, .sheetWithdraw h i, .statusQuery h, .hostAcknowledge h i,
        .engineCall h i w1 w2 w3 w4, .updateStage h addr len tok err img, .updateActivate h, .updateConfirm h, .updateRevert h,
        .recordExport h addr len off err, .unknownCmd h i] : List Instr)) :=
  ⟨⟨withCmd [6, 21, 5, 1, 2, 3, 4] ({ hostS with ex := { hostS.ex with tasks := [(5, { task0 with stat := .idle })] } }), ⟨21, true, true⟩,
      5, 1, 2, 3, 4, by unfold hostCmd hostReady; decide +kernel, by decide +kernel, _, rfl, by decide +kernel, _, rfl, by decide +kernel⟩,
   ⟨withCmd [6, 21, 5, 1, 2, 3, 4] ({ hostS with ex := { hostS.ex with tasks := [(5, { task0 with stat := .running })] } }), ⟨21, true,
       true⟩, 5, 1, 2, 3, 4, by unfold hostCmd hostReady; decide +kernel, by decide +kernel, _, rfl, by decide +kernel, _, rfl,
       by decide +kernel⟩,
   ⟨withCmd [6, 21, 9, 1, 2, 3, 4] (hostS), ⟨21, true, true⟩, 9, 1, 2, 3, 4, by unfold hostCmd hostReady; decide +kernel,
       by decide +kernel, 10, 0, Or.inl ⟨rfl, fun t h => absurd (Option.isSome_of_eq_some h) (by decide +kernel)⟩⟩,
   ⟨withCmd [5, 21] (hostS), ⟨21, true, true⟩, by unfold hostCmd hostReady; decide +kernel, by decide +kernel⟩,
   ⟨withCmd [131077, 21, 5, 0] (hostS), ⟨21, true, true⟩, by unfold hostCmd hostReady; decide +kernel, by decide +kernel, 7, 5, 5,
       by decide +kernel⟩,
   ⟨withCmd [6, 21, 5, 1, 2, 3, 4] ({ hostS with ex := { hostS.ex with tasks := [(5, { task0 with stat := .idle })] } }), ⟨21, false,
       true⟩, by decide +kernel, 10, 10, 10, 10, 10, 10, 10, 10, 10, slot7, false, [], _, List.mem_cons_self⟩⟩

theorem meets_ResyncSeries :
    (∃ (s : State), s.bit HIF_CTRL_ENABLE = false ∧ s.host.series = none ∧ s.host.held = [] ∧ s.host.owed = none)
    ∧ (∃ (s : State), ∃ c, ∃ l, s.host.series = some ⟨c, false, l⟩ ∧ s.bit HIF_CTRL_ENABLE = true ∧ 16 ≤ s.evtFree ∧ s.power.phase = .run ∧
        s.led.sheets ≠ [])
    ∧ (∃ (s : State), ∃ c, ∃ l, s.host.series = some ⟨c, false, l⟩ ∧ s.bit HIF_CTRL_ENABLE = true ∧ 16 ≤ s.evtFree ∧ s.power.phase = .run ∧
        s.led.sheets = [] ∧ s.host.repeatAfter = false ∧ s.host.nextSeries = none ∧ s.led.heldAcks = [])
    ∧ (∃ (s : State), ∃ c, ∃ q, ∃ rest, ∃ sh, ∃ (r : JRec), s.host.series = some ⟨c, true, q :: rest⟩ ∧ s.sheet? q = some sh ∧
        ((sh.toldRec = some r ∨ (sh.toldRec = none ∧ sh.lastRec = some r)) ∧ s.bit HIF_CTRL_ENABLE = true ∧ 8 < s.evtFree) ∧ ∃ e,
        e = HostEvent.sheetState r.seq r.st r.reason r.limit r.time r.commitPos r.effPitch r.blank r.detail sh.hostTag true ∧ rest ≠ [])
    ∧ (∃ (s : State), ∃ c, ∃ q, ∃ rest, ∃ sh, ∃ (r : JRec), s.host.series = some ⟨c, true, q :: rest⟩ ∧ s.sheet? q = some sh ∧
        ((sh.toldRec = some r ∨ (sh.toldRec = none ∧ sh.lastRec = some r)) ∧ s.bit HIF_CTRL_ENABLE = true ∧ 8 < s.evtFree) ∧ ∃ e,
        e = HostEvent.sheetState r.seq r.st r.reason r.limit r.time r.commitPos r.effPitch r.blank r.detail sh.hostTag true ∧ rest = [] ∧
        s.host.repeatAfter = false ∧ s.host.nextSeries = none ∧ s.led.heldAcks = []) :=
  ⟨⟨withF [(HIF_CTRL_ENABLE, 0)] hostS, by decide +kernel⟩,
   ⟨{ (withSheets [sheet7 .admitted] hostS) with host := { (withSheets [sheet7 .admitted] hostS).host with series := some ⟨2, false, [7]⟩ } }, 2, _, rfl, by decide +kernel⟩,
   ⟨{ hostS with host := { hostS.host with series := some ⟨2, false, [7]⟩ } }, 2, _, rfl, by decide +kernel⟩,
   ⟨{ (withSheets [{ sheet7 .admitted with lastRec := some ⟨1, 1, 0, 0, 0, false, 5, 7, 0, 0, 0, [], 0, 0, true, false⟩ }, { sheet7 .submitted with seq := 8 }] hostS) with host := { (withSheets [{ sheet7 .admitted with lastRec := some ⟨1, 1, 0, 0, 0, false, 5, 7, 0, 0, 0, [], 0, 0, true, false⟩ }, { sheet7 .submitted with seq := 8 }] hostS).host with series := some ⟨2, true, [7, 8]⟩ } }, 2, 7, _, _, ⟨1, 1, 0, 0, 0, false, 5, 7, 0, 0, 0, [], 0, 0, true, false⟩, rfl, rfl, by decide +kernel, _, rfl, by decide +kernel⟩,
   ⟨{ (withSheets [{ sheet7 .admitted with lastRec := some ⟨1, 1, 0, 0, 0, false, 5, 7, 0, 0, 0, [], 0, 0, true, false⟩ }] hostS) with host := { (withSheets [{ sheet7 .admitted with lastRec := some ⟨1, 1, 0, 0, 0, false, 5, 7, 0, 0, 0, [], 0, 0, true, false⟩ }] hostS).host with series := some ⟨2, true, [7]⟩ } }, 2, 7, _, _, ⟨1, 1, 0, 0, 0, false, 5, 7, 0, 0, 0, [], 0, 0, true, false⟩, rfl, rfl, by decide +kernel, _, rfl, by decide +kernel⟩⟩

theorem meets_HostInterfaceResets :
    (∃ (s : State), s.bit PCIE_CTRL_LINK_EN = true)
    ∧ (∃ (s : State), s.bit PCIE_CTRL_LINK_EN = false) :=
  ⟨⟨withF [(PCIE_CTRL_LINK_EN, 1)] hostS, by decide +kernel⟩,
   ⟨withF [(PCIE_CTRL_LINK_EN, 0)] hostS, by decide +kernel⟩⟩

theorem meets_UpdateAndExport :
    (∃ (s : State) (h : CmdHead) (b : Bool) (run : Slot) (other : Slot), (h.flagsOk = true ∧ h.argsOk = true ∧ s.upd.erasing = false ∧
        b = s.bit UPD_STATUS_RUN_SLOT) ∧ run = s.slot b ∧ other = s.slot (!b) ∧ ∃ (addr : Nat) (len : Nat) (token : Nat) (img : List Byte),
        hostCmd s 0x0010 h ∧ addr = s.cmdNum 8 8 ∧ len = s.cmdNum 16 4 ∧ token = s.cmdNum 20 16 ∧ s.hostReach = true ∧
        s.bit SYS_STATUS_BACKUP_OK = true ∧ s.upd.lock = false ∧ run.st ≠ 2 ∧ imgMin img ≤ run.schema ∧ run.schema ≤ imgSchema img ∧
        s.planErr (imgOnly img) = none)
    ∧ (∃ (s : State) (h : CmdHead) (b : Bool) (run : Slot) (other : Slot), (h.flagsOk = true ∧ h.argsOk = true ∧ s.upd.erasing = false ∧
        b = s.bit UPD_STATUS_RUN_SLOT) ∧ run = s.slot b ∧ other = s.slot (!b) ∧ hostCmd s 0x0011 h ∧ s.motion = false ∧
        s.bit SYS_STATUS_BACKUP_OK = true ∧ s.upd.lock = false ∧ other.st = 1 ∧ s.planErr other.image = none)
    ∧ (∃ (s : State) (h : CmdHead) (b : Bool) (run : Slot) (other : Slot), (h.flagsOk = true ∧ h.argsOk = true ∧ s.upd.erasing = false ∧
        b = s.bit UPD_STATUS_RUN_SLOT) ∧ run = s.slot b ∧ other = s.slot (!b) ∧ hostCmd s 0x0012 h ∧ run.st = 2)
    ∧ (∃ (s : State) (h : CmdHead) (b : Bool) (run : Slot) (other : Slot), (h.flagsOk = true ∧ h.argsOk = true ∧ s.upd.erasing = false ∧
        b = s.bit UPD_STATUS_RUN_SLOT) ∧ run = s.slot b ∧ other = s.slot (!b) ∧ hostCmd s 0x0013 h ∧ s.motion = false ∧
        s.bit SYS_STATUS_BACKUP_OK = true ∧ s.upd.lock = false ∧ run.st = 2 ∧ s.planErr other.image = none)
    ∧ (∃ (s : State) (h : CmdHead) (b : Bool) (run : Slot) (other : Slot), (h.flagsOk = true ∧ h.argsOk = true ∧ s.upd.erasing = false ∧
        b = s.bit UPD_STATUS_RUN_SLOT) ∧ run = s.slot b ∧ other = s.slot (!b) ∧ ∃ (d : Nat), ∃ (err : Bool), ∃ (img : List Byte), ∃ c,
        c ∈ ([(Instr.updateStage h (s.cmdNum 8 8) (s.cmdNum 16 4) (s.cmdNum 20 16) err img, 0x0010,
        if s.bit SYS_STATUS_BACKUP_OK = false then 2 else if s.upd.lock then 3 else if run.st = 2 then 9 else 0), (.updateActivate h,
        0x0011, if s.motion then 1 else if s.bit SYS_STATUS_BACKUP_OK = false then 2 else if s.upd.lock then 3 else if other.st ≠ 1 then 4 else if s.planErr other.image ≠ none then 6 else 0), (.updateConfirm h, 0x0012, if run.st ≠ 2 then 5 else 0), (.updateRevert h, 0x0013, if s.motion then 1 else if s.bit SYS_STATUS_BACKUP_OK = false then 2 else if s.upd.lock then 3 else if run.st ≠ 2 then 5 else if s.planErr other.image ≠ none then 6 else 0)] : List (Instr × Nat × Nat)) ∧ hostCmd s c.2.1 h ∧ d = c.2.2 ∧ d ≠ 0)
    ∧ (∃ (s : State) (h : CmdHead) (addr : Nat) (len : Nat) (off : Nat), (addr = s.cmdNum 8 8 ∧ len = s.cmdNum 16 4 ∧
        off = s.cmdNum 20 4) ∧ hostCmd s 0x0020 h ∧ (h.flagsOk = true ∧ h.argsOk = true) ∧ ∃ r, s.recd.frozen = some r ∧ off < r.len ∧
        s.hostReach = true ∧ s.recording = false)
    ∧ (∃ (s : State) (h : CmdHead) (addr : Nat) (len : Nat) (off : Nat), (addr = s.cmdNum 8 8 ∧ len = s.cmdNum 16 4 ∧
        off = s.cmdNum 20 4) ∧ hostCmd s 0x0020 h ∧ (h.flagsOk = true ∧ h.argsOk = true) ∧ ∃ r, s.recd.frozen = some r ∧ r.len ≤ off)
    ∧ (∃ (s : State) (h : CmdHead) (addr : Nat) (len : Nat) (off : Nat), (addr = s.cmdNum 8 8 ∧ len = s.cmdNum 16 4 ∧
        off = s.cmdNum 20 4) ∧ hostCmd s 0x0020 h ∧ h.flagsOk = true ∧ h.argsOk = true ∧ s.recd.frozen = none)
    ∧ (∃ (s : State) (h : CmdHead) (addr : Nat) (len : Nat) (off : Nat), (addr = s.cmdNum 8 8 ∧ len = s.cmdNum 16 4 ∧
        off = s.cmdNum 20 4) ∧ ∃ op, hostCmd s op h ∧ knownOp op = false) :=
  ⟨⟨withF [(PCIE_STATUS_LINK_UP, 1), (PCIE_STATUS_BME, 1)] (withCmd [16, 21, 0, 0,
      4096] ({ hostS with upd := { hostS.upd with slotA := ⟨3, 4, 5, 0, none, []⟩, slotB := ⟨0, 4, 5, 0, none, []⟩ } })), ⟨21, true, true⟩,
      false, _, _, by decide +kernel, rfl, rfl, 0, 4096, 0, [], by unfold hostCmd hostReady; decide +kernel, by decide +kernel⟩,
   ⟨withCmd [17, 21] ({ hostS with upd := { hostS.upd with slotA := ⟨3, 4, 5, 0, none, []⟩, slotB := ⟨1, 4, 5, 0, none, []⟩ } }), ⟨21,
       true, true⟩, false, _, _, by decide +kernel, rfl, rfl, by unfold hostCmd hostReady; decide +kernel, by decide +kernel⟩,
   ⟨withCmd [18, 21] ({ hostS with upd := { hostS.upd with slotA := ⟨2, 4, 5, 0, none, []⟩, slotB := ⟨3, 4, 5, 0, none, []⟩ } }), ⟨21,
       true, true⟩, false, _, _, by decide +kernel, rfl, rfl, by unfold hostCmd hostReady; decide +kernel, by decide +kernel⟩,
   ⟨withCmd [19, 21] ({ hostS with upd := { hostS.upd with slotA := ⟨2, 4, 5, 0, none, []⟩, slotB := ⟨3, 4, 5, 0, none, []⟩ } }), ⟨21,
       true, true⟩, false, _, _, by decide +kernel, rfl, rfl, by unfold hostCmd hostReady; decide +kernel, by decide +kernel⟩,
   ⟨withCmd [16, 21, 0, 0, 4096] (withF [(SYS_STATUS_BACKUP_OK, 0)] hostS), ⟨21, true, true⟩, false, _, _, by decide +kernel, rfl, rfl, 2,
       false, [], _, List.mem_cons_self, by unfold hostCmd hostReady; decide +kernel, by decide +kernel⟩,
   ⟨withF [(PCIE_STATUS_LINK_UP, 1), (PCIE_STATUS_BME, 1)] (withCmd [32, 21, 4096, 0, 4096,
       0] ({ hostS with recd := { hostS.recd with frozen := some ⟨5, 1, 0, 0, [], [], 0, none⟩ } })), ⟨21, true, true⟩, 4096, 4096, 0,
       by decide +kernel, by unfold hostCmd hostReady; decide +kernel, by decide +kernel, _, rfl, by decide +kernel⟩,
   ⟨withCmd [32, 21, 4096, 0, 4096, 1000000000] ({ hostS with recd := { hostS.recd with frozen := some ⟨5, 1, 0, 0, [], [], 0, none⟩ } }),
       ⟨21, true, true⟩, 4096, 4096, 1000000000, by decide +kernel, by unfold hostCmd hostReady; decide +kernel, by decide +kernel, _, rfl,
       by decide +kernel⟩,
   ⟨withCmd [32, 21, 4096, 0, 4096, 0] (hostS), ⟨21, true, true⟩, 4096, 4096, 0, by decide +kernel,
       by unfold hostCmd hostReady; decide +kernel, by decide +kernel⟩,
   ⟨withCmd [119, 21] (hostS), ⟨21, true, true⟩, 0, 0, 0, by decide +kernel, 119, by unfold hostCmd hostReady; decide +kernel,
       by decide +kernel⟩⟩

theorem meets_Admission :
    (∃ (s : State) (sh : Sheet), (s.power.phase = .run ∧ s.shadow = [] ∧ s.led.sheets = [sh] ∧ sh.st = .submitted ∧ sh.awaiting = false ∧
        s.degraded = false ∧ s.bit SYS_STATUS_BACKUP_OK = true ∧ s.jrn.retired.length ≤ 32 ∧ s.bit LEDG_STATUS_RECOVERY_HOLD = false ∧
        s.safe = false ∧ sh.planes ≠ [] ∧ (∀ p ∈ sh.planes, p.ok = true ∧ p.bad = false) ∧ s.notReady sh = none ∧
        s.fget LEDG_PITCH_MIN_PITCH_MIN ≠ 0 ∧ s.slowUnit = none ∧ s.jrn.staged.length < 192) ∧
        ∃ (M : Nat) (ahead : Int) (pm : Int) (pt : Int) (pu : Int), M = max (s.fget LEDG_PITCH_MIN_PITCH_MIN) sh.reqPitch ∧
        ahead = s.beltFx * 127 + (max (s.fget LEDG_ADMIT_LEAD_ADMIT_LEAD) (s.fget LEDG_LOCK_DIST_LOCK_DIST) * 786432 * 4096 : Nat) ∧
        pm = ((2 * (M * 786432) + 127) / 254 : Nat) ∧ pt = ((2 * (M * s.mult * 786432) + 1270000) / 2540000 : Nat) ∧ ((pu = 0 ∧
        ∀ e ∈ s.led.rates, e.2.1 = 0 ∨ 105 * e.2.2 ≤ 100 * e.2.1) ∨ ((∃ e ∈ s.led.rates, 0 < e.2.1 ∧ 100 * e.2.1 < 105 * e.2.2 ∧
        pu = ((2 * (M * 786432 * 105 * e.2.2) + 12700 * e.2.1) / (25400 * e.2.1) : Nat)) ∧ ∀ e ∈ s.led.rates, 0 < e.2.1 →
        100 * e.2.1 < 105 * e.2.2 → (((2 * (M * 786432 * 105 * e.2.2) + 12700 * e.2.1) / (25400 * e.2.1) : Nat) : Int) ≤ pu)))
    ∧ (∃ (s : State), (s.power.phase = .run ∧ s.shadow = [] ∧ (∀ sh ∈ s.led.sheets, sh.st ≠ .admitted ∧ sh.awaiting = false) ∧
        s.degraded = false ∧ s.bit SYS_STATUS_BACKUP_OK = true ∧ s.jrn.retired.length ≤ 32) ∧ ∃ (other : Nat),
        other = (if s.fget LEDG_LIMITER_LAST_PITCH = 3 then s.led.unitSrc % 2 ^ LEDG_LIMITER_SOURCE.width else 0) ∧ (∀ sh ∈ s.led.sheets,
        sh.st ≠ .submitted))
    ∧ (∃ (s : State), (s.power.phase = .run ∧ s.shadow = [] ∧ (∀ sh ∈ s.led.sheets, sh.st ≠ .admitted ∧ sh.awaiting = false) ∧
        s.degraded = false ∧ s.bit SYS_STATUS_BACKUP_OK = true ∧ s.jrn.retired.length ≤ 32) ∧ ∃ (other : Nat),
        other = (if s.fget LEDG_LIMITER_LAST_PITCH = 3 then s.led.unitSrc % 2 ^ LEDG_LIMITER_SOURCE.width else 0) ∧ ∃ (sh : Sheet),
        s.led.sheets.find? (fun x => decide (x.st = .submitted)) = some sh ∧ ∃ (c : Nat),
        (c = (if s.bit LEDG_STATUS_RECOVERY_HOLD then 16 else if s.safe then 22 else if sh.planes = [] ∨
        sh.planes.any (fun p => !p.ok || p.bad) then 17 else if s.notReady sh ≠ none ∨
        s.fget LEDG_PITCH_MIN_PITCH_MIN = 0 then 18 else if s.slowUnit ≠ none then 20 else if 192 ≤ s.jrn.staged.length ∨
        256 < s.jrn.staged.length + 5 * ((s.led.sheets.filter (fun g => g.st.inFlight)).length + 1) + 2 then 21 else 0)) ∧ c ≠ 0) :=
  ⟨⟨readyS, sheet7 .submitted, by decide +kernel, 250000, 966367641600000, 1548094488, 1548094488, (0 : Int), by decide +kernel⟩,
   ⟨hostS, by decide +kernel, 0, by decide +kernel⟩,
   ⟨withF [(LEDG_STATUS_RECOVERY_HOLD, 1)] readyS, by decide +kernel, 0, by decide +kernel, sheet7 .submitted, by decide +kernel, 16,
       by decide +kernel⟩⟩

theorem meets_LocksCommitsTransfers :
    (∃ (s : State) (seq : Nat) (sh : Sheet), s.sheet? seq = some sh ∧ (s.bit PPOS_CTRL_EN = true ∧ s.bit PPOS_STATUS_ENC_LOST = false) ∧
        ∃ (x : Int), x = s.belt - s.ofsOf 0 ∧ sh.st = .admitted ∧ sh.awaiting = false ∧
        sh.commitPos - umUnits (s.fget LEDG_LOCK_DIST_LOCK_DIST) ≤ x ∧ (∀ g ∈ s.led.sheets, g.seq ≤ seq → g.st = .admitted ∨
        g.awaiting = true → g.locked = false → s.lost g = false))
    ∧ (∃ (s : State) (seq : Nat) (sh : Sheet), s.sheet? seq = some sh ∧ (s.bit PPOS_CTRL_EN = true ∧ s.bit PPOS_STATUS_ENC_LOST = false) ∧
        ∃ (x : Int), x = s.belt - s.ofsOf 0 ∧ sh.st = .admitted ∧ sh.awaiting = false ∧ sh.locked = false ∧
        sh.commitPos - umUnits (s.fget LEDG_LOCK_DIST_LOCK_DIST) ≤ x ∧ (s.led.sheets.map (fun g => g.seq)).Pairwise (· < ·) ∧
        s.lost sh = true)
    ∧ (∃ (s : State) (seq : Nat) (sh : Sheet), s.sheet? seq = some sh ∧ (s.bit PPOS_CTRL_EN = true ∧ s.bit PPOS_STATUS_ENC_LOST = false) ∧
        ∃ (x : Int), x = s.belt - s.ofsOf 0 ∧ x < sh.commitPos - umUnits (s.fget LEDG_LOCK_DIST_LOCK_DIST))
    ∧ (∃ (s : State) (seq : Nat) (sh : Sheet), s.sheet? seq = some sh ∧ (s.bit PPOS_CTRL_EN = true ∧ s.bit PPOS_STATUS_ENC_LOST = false) ∧
        ∃ (x : Int), x = s.belt - s.ofsOf 0 ∧ sh.st = .admitted ∧ sh.commitPos ≤ x ∧ s.safe = false ∧ s.commitCause sh = none)
    ∧ (∃ (s : State) (seq : Nat) (sh : Sheet), s.sheet? seq = some sh ∧ (s.bit PPOS_CTRL_EN = true ∧ s.bit PPOS_STATUS_ENC_LOST = false) ∧
        ∃ (x : Int), x = s.belt - s.ofsOf 0 ∧ ∃ (c : Nat) (d : Nat), sh.st = .admitted ∧ sh.commitPos ≤ x ∧ s.safe = false ∧
        s.commitCause sh = some (c, d))
    ∧ (∃ (s : State) (seq : Nat) (sh : Sheet), s.sheet? seq = some sh ∧ (s.bit PPOS_CTRL_EN = true ∧ s.bit PPOS_STATUS_ENC_LOST = false) ∧
        ∃ (x : Int), x = s.belt - s.ofsOf 0 ∧ sh.st = .admitted ∧ sh.commitPos ≤ x ∧ s.safe = true)
    ∧ (∃ (s : State) (seq : Nat) (sh : Sheet), s.sheet? seq = some sh ∧ (s.bit PPOS_CTRL_EN = true ∧ s.bit PPOS_STATUS_ENC_LOST = false) ∧
        ∃ (x : Int), x = s.belt - s.ofsOf 0 ∧ x < sh.commitPos)
    ∧ (∃ (s : State) (seq : Nat) (sh : Sheet), s.sheet? seq = some sh ∧ (s.bit PPOS_CTRL_EN = true ∧ s.bit PPOS_STATUS_ENC_LOST = false) ∧
        ∃ (x : Int), x = s.belt - s.ofsOf 0 ∧ sh.st = .exposed ∧
        sh.commitPos + umUnits (s.fget LEDG_XFER_DIST_XFER_DIST) + (s.imageLength sh : Int) ≤ x) :=
  ⟨⟨{ (withSheets [{ sheet7 .admitted with commitPos := 500 }] readyS) with ppos := { runS.ppos with posFx := 3 * 4096, count := 3 } }, 7,
      _, rfl, by decide +kernel, 3, by decide +kernel⟩,
   ⟨withF [(FLT_STATUS_SAFE,
       1)] { (withSheets [{ sheet7 .admitted with commitPos := 5 }] readyS) with ppos := { runS.ppos with posFx := 900000000 * 4096, count := 900000000 } }, 7, _, rfl, by decide +kernel, 900000000, by decide +kernel⟩,
   ⟨{ (withSheets [{ sheet7 .admitted with commitPos := 500 }] readyS) with ppos := { runS.ppos with posFx := -3000000000 * 4096, count := -3000000000 } }, 7, _, rfl, by decide +kernel, (-3000000000), by decide +kernel⟩,
   ⟨{ (withSheets [{ sheet7 .admitted with commitPos := 5 }] readyS) with ppos := { runS.ppos with posFx := 900000000 * 4096, count := 900000000 } }, 7, _, rfl, by decide +kernel, 900000000, by decide +kernel⟩,
   ⟨{ (withSheets [{ sheet7 .admitted with commitPos := 5, doom := some (3, 5) }] readyS) with ppos := { runS.ppos with posFx := 900000000 * 4096, count := 900000000 } }, 7, _, rfl, by decide +kernel, 900000000, by decide +kernel, 3, 5, by decide +kernel⟩,
   ⟨withF [(FLT_STATUS_SAFE,
       1)] { (withSheets [{ sheet7 .admitted with commitPos := 5 }] readyS) with ppos := { runS.ppos with posFx := 900000000 * 4096, count := 900000000 } }, 7, _, rfl, by decide +kernel, 900000000, by decide +kernel⟩,
   ⟨{ (withSheets [{ sheet7 .admitted with commitPos := 500 }] readyS) with ppos := { runS.ppos with posFx := 3 * 4096, count := 3 } }, 7,
       _, rfl, by decide +kernel, 3, by decide +kernel⟩,
   ⟨{ (withSheets [{ sheet7 .exposed with commitPos := 5 }] readyS) with ppos := { runS.ppos with posFx := 3000000000 * 4096, count := 3000000000 } }, 7, _, rfl, by decide +kernel, 3000000000, by decide +kernel⟩⟩

theorem meets_DeclaredOutcomes :
    (∃ (s : State) (sh : Sheet) (seq : Nat), seq = sh.seq ∧
        s.led.sheets.find? (fun x => x.seq % 2 ^ 32 == s.fget LEDG_DECLARE_SEQ_DECLARE_SEQ) = some sh ∧ s.sheet? seq = some sh ∧
        sh.st = .transferred)
    ∧ (∃ (s : State) (sh : Sheet) (seq : Nat), seq = sh.seq ∧
        s.led.sheets.find? (fun x => x.seq % 2 ^ 32 == s.fget LEDG_DECLARE_SEQ_DECLARE_SEQ) = some sh ∧ s.sheet? seq = some sh ∧
        sh.st = .fused)
    ∧ (∃ (s : State) (sh : Sheet) (seq : Nat), seq = sh.seq ∧
        s.led.sheets.find? (fun x => x.seq % 2 ^ 32 == s.fget LEDG_DECLARE_SEQ_DECLARE_SEQ) = some sh ∧ s.sheet? seq = some sh ∧
        (sh.st = .committed ∨ sh.st = .exposed ∨ sh.st = .transferred ∨ sh.st = .fused))
    ∧ (∃ (s : State) (sh : Sheet) (seq : Nat), (seq = sh.seq ∧
        s.led.sheets.find? (fun x => x.seq % 2 ^ 32 == s.fget LEDG_DECLARE_SEQ_DECLARE_SEQ) = some sh ∧ s.sheet? seq = some sh) ∧ ∃ c,
        c ∈ ([(Instr.declareFused, 1, sh.st = .transferred), (.declareDelivered, 2, sh.st = .fused), (.declareJam, 3,
        sh.st.inFlight = true)] : List (Instr × Nat × Prop)) ∧ ¬ c.2.2)
    ∧ (∃ (s : State), s.led.sheets.find? (fun x => x.seq % 2 ^ 32 == s.fget LEDG_DECLARE_SEQ_DECLARE_SEQ) = none ∧ ∃ c,
        c ∈ ([(Instr.declareFused, 1), (.declareDelivered, 2), (.declareJam, 3)] : List (Instr × Nat))) :=
  ⟨⟨withF [(LEDG_DECLARE_SEQ_DECLARE_SEQ, 7)] (withSheets [{ sheet7 .transferred with commitPos := 5 }] readyS),
      { sheet7 .transferred with commitPos := 5 }, 7, by decide +kernel⟩,
   ⟨withF [(LEDG_DECLARE_SEQ_DECLARE_SEQ, 7)] (withSheets [{ sheet7 .fused with commitPos := 5 }] readyS),
       { sheet7 .fused with commitPos := 5 }, 7, by decide +kernel⟩,
   ⟨withF [(LEDG_DECLARE_SEQ_DECLARE_SEQ, 7)] (withSheets [{ sheet7 .transferred with commitPos := 5 }] readyS),
       { sheet7 .transferred with commitPos := 5 }, 7, by decide +kernel⟩,
   ⟨withF [(LEDG_DECLARE_SEQ_DECLARE_SEQ, 7)] (withSheets [{ sheet7 .transferred with commitPos := 5 }] readyS),
       { sheet7 .transferred with commitPos := 5 }, 7, by decide +kernel, _, List.mem_cons_of_mem _ (List.mem_cons_self),
       (by intro h; cases h)⟩,
   ⟨readyS, by decide +kernel, _, List.mem_cons_self⟩⟩

theorem meets_JournalAndCompaction :
    (∃ (s : State) (r : JRec) (rest : List JRec), s.power.phase = .run ∧ s.jrn.staged = r :: rest ∧ (s.jrn.writer / 1024) ∉ s.jrn.erasing ∧
        s.jrn.fails < 2)
    ∧ (∃ (s : State) (r : JRec) (rest : List JRec), s.power.phase = .run ∧ s.jrn.staged = r :: rest ∧
        (s.jrn.writer / 1024) ∉ s.jrn.erasing ∧ ∃ b more, s.jrn.erasing = b :: more)
    ∧ (∃ (s : State), s.jrn.staged = [] ∧ s.jrn.compact = none ∧ s.bit LEDG_STATUS_COMPACTING = false)
    ∧ (∃ (s : State), s.jrn.staged = [] ∧ s.bit LEDG_STATUS_COMPACTING = true)
    ∧ (∃ (s : State), s.jrn.staged = [] ∧ ∃ t, s.led.idleSince = some t ∧ s.led.idleDone = false ∧
        s.fget LEDG_IDLE_COMPACT_IDLE_COMPACT ≠ 0 ∧ t + 250000 * s.fget LEDG_IDLE_COMPACT_IDLE_COMPACT ≤ s.tick ∧ s.jrn.compact = none ∧
        s.bit LEDG_STATUS_COMPACTING = false)
    ∧ (∃ (s : State), s.jrn.staged = [] ∧ ∃ t, s.led.clearSince = some t ∧ s.degraded = true ∧ s.degradedCause = false ∧
        t + 250000000 ≤ s.tick)
    ∧ (∃ (s : State), s.jrn.staged = [] ∧ ∃ t, s.led.clearSince = some t ∧ s.degraded = true ∧ s.degradedCause = false ∧
        s.tick < t + 250000000) :=
  ⟨⟨{ readyS with jrn := { readyS.jrn with staged := [⟨1, 1, 0, 0, 0, false, 5, 7, 0, 0, 0, [], 0, 0, true, false⟩], erasing := [4] } }, _,
      _, by decide +kernel, rfl, by decide +kernel⟩,
   ⟨{ readyS with jrn := { readyS.jrn with staged := [⟨1, 1, 0, 0, 0, false, 5, 7, 0, 0, 0, [], 0, 0, true, false⟩], erasing := [4] } }, _,
       _, by decide +kernel, rfl, by decide +kernel, 4, _, rfl⟩,
   ⟨readyS, by decide +kernel⟩,
   ⟨withF [(LEDG_STATUS_COMPACTING, 1)] readyS, by decide +kernel⟩,
   ⟨withF [(LEDG_IDLE_COMPACT_IDLE_COMPACT, 1000)] { readyS with led := { readyS.led with idleSince := some 9 } }, by decide +kernel, 9,
       by decide +kernel⟩,
   ⟨withF [(LEDG_STATUS_GUARANTEE_DEGRADED, 1)] { readyS with led := { readyS.led with clearSince := some 9 } }, by decide +kernel, 9,
       by decide +kernel⟩,
   ⟨withF [(LEDG_STATUS_GUARANTEE_DEGRADED, 1)] { readyS with led := { readyS.led with clearSince := some 2500000000 } },
       by decide +kernel, 2500000000, by decide +kernel⟩⟩

theorem meets_PlaneSpace :
    (∃ (s : State) (sh : Sheet) (need : Nat), s.toAllocate = some sh ∧ (s.sheet? sh.seq = some sh ∧
        need = (sh.planes.map (fun p => (p.entry.length + 2 ^ 21 - 1) / 2 ^ 21)).sum) ∧ ∃ (free : List Nat),
        free = (List.range (s.fget DRAMC_POOL_POOL_BLOCKS)).filter (fun b => !s.mem.used.contains b) ∧ need ≤ free.length)
    ∧ (∃ (s : State) (sh : Sheet) (need : Nat), s.toAllocate = some sh ∧ (s.sheet? sh.seq = some sh ∧
        need = (sh.planes.map (fun p => (p.entry.length + 2 ^ 21 - 1) / 2 ^ 21)).sum) ∧ ∃ (free : List Nat),
        free = (List.range (s.fget DRAMC_POOL_POOL_BLOCKS)).filter (fun b => !s.mem.used.contains b) ∧ free.length < need ∧
        need ≤ s.fget DRAMC_POOL_POOL_BLOCKS)
    ∧ (∃ (s : State) (sh : Sheet) (need : Nat), s.toAllocate = some sh ∧ (s.sheet? sh.seq = some sh ∧
        need = (sh.planes.map (fun p => (p.entry.length + 2 ^ 21 - 1) / 2 ^ 21)).sum) ∧ ∃ (free : List Nat),
        free = (List.range (s.fget DRAMC_POOL_POOL_BLOCKS)).filter (fun b => !s.mem.used.contains b) ∧
        s.fget DRAMC_POOL_POOL_BLOCKS < need) :=
  ⟨⟨withF [(DRAMC_POOL_POOL_BLOCKS,
      10)] (withSheets [{ sheet7 .submitted with allocated := false, planes := [{ plane0 with blocks := [], entry := { entry0 with length := 120000 } }] }] { hostS with mem := { hostS.mem with used := [] } }), _, 1, rfl, by decide +kernel, _, rfl, by decide +kernel⟩,
   ⟨withF [(DRAMC_POOL_POOL_BLOCKS,
       1)] (withSheets [{ sheet7 .submitted with allocated := false, planes := [{ plane0 with blocks := [], entry := { entry0 with length := 120000 } }] }] { hostS with mem := { hostS.mem with used := [0] } }), _, 1, rfl, by decide +kernel, _, rfl, by decide +kernel⟩,
   ⟨withF [(DRAMC_POOL_POOL_BLOCKS,
       1)] (withSheets [{ sheet7 .submitted with allocated := false, planes := [{ plane0 with blocks := [], entry := { entry0 with length := 2 ^ 21 + 1 } }] }] { hostS with mem := { hostS.mem with used := [] } }), _, 2, rfl, by decide +kernel, _, rfl, by decide +kernel⟩⟩

theorem meets_DmaChannelsAndMoves :
    (∃ (n : Nat) (x : Nat), n < 8 ∧ ∃ c, c ∈ ([Instr.dmaDoorbell n x, .dmaResume n, .dmaSkip n] : List Instr))
    ∧ (∃ (s : State) (n : Nat) (x : Nat), (8 ≤ n ∧ n < 16) ∧ ∃ (m : Nat), m = 2 ^ (max 3 (min 16 (s.fget (DMAn_RING_SIZE_LOG2 n)))) ∧
        ∃ (hd : Nat) (tl : Nat), hd = s.fget (DMAn_HEAD_HEAD n) % m ∧ tl = s.fget (DMAn_HEAD_TAIL n) % m ∧
        (tl + m - hd) % m ≤ (x % m + m - hd) % m)
    ∧ (∃ (s : State) (n : Nat) (x : Nat), (8 ≤ n ∧ n < 16) ∧ ∃ (m : Nat), m = 2 ^ (max 3 (min 16 (s.fget (DMAn_RING_SIZE_LOG2 n)))) ∧
        ∃ (hd : Nat) (tl : Nat), hd = s.fget (DMAn_HEAD_HEAD n) % m ∧ tl = s.fget (DMAn_HEAD_TAIL n) % m ∧
        (x % m + m - hd) % m < (tl + m - hd) % m)
    ∧ (∃ (s : State) (n : Nat), (8 ≤ n ∧ n < 16) ∧ ∃ (m : Nat), m = 2 ^ (max 3 (min 16 (s.fget (DMAn_RING_SIZE_LOG2 n)))) ∧
        ∃ (hd : Nat) (tl : Nat), hd = s.fget (DMAn_HEAD_HEAD n) % m ∧ tl = s.fget (DMAn_HEAD_TAIL n) % m ∧
        s.bit (DMAn_STATUS_HALTED n) = false)
    ∧ (∃ (s : State) (n : Nat), (8 ≤ n ∧ n < 16) ∧ ∃ (m : Nat), m = 2 ^ (max 3 (min 16 (s.fget (DMAn_RING_SIZE_LOG2 n)))) ∧
        ∃ (hd : Nat) (tl : Nat), hd = s.fget (DMAn_HEAD_HEAD n) % m ∧ tl = s.fget (DMAn_HEAD_TAIL n) % m ∧
        s.bit (DMAn_STATUS_HALTED n) = true ∧ s.fget (DMAn_RING_HI_SPACE n) = 0)
    ∧ (∃ (s : State) (n : Nat) (d : Desc) (a : Nat), (8 ≤ n ∧ n < 16 ∧ s.dmaRuns n = true) ∧ d = s.headDesc n ∧
        (a = s.descAddr n (s.dmaHead n) ∧ s.fget (DMAn_RING_HI_SPACE n) = 0 ∧ s.inDram a 32 = true ∧ s.descErrs n = [] ∧ d.srcSpace = 0 ∧
        d.dstSpace = 0 ∧ s.inDram d.src d.len = true ∧ s.inDram d.dst d.len = true ∧ (d.dst + d.len ≤ a ∨ a + 32 ≤ d.dst)) ∧ (∀ k,
        inRing s k = true → (k < d.src ∨ d.src + d.len ≤ k) ∧ (k < d.dst ∨ d.dst + d.len ≤ k) ∧ (k < a ∨ a + 32 ≤ k)))
    ∧ (∃ (s : State) (n : Nat) (d : Desc) (a : Nat), (8 ≤ n ∧ n < 16 ∧ s.dmaRuns n = true) ∧ d = s.headDesc n ∧
        (a = s.descAddr n (s.dmaHead n) ∧ s.fget (DMAn_RING_HI_SPACE n) = 0 ∧ s.inDram a 32 = true) ∧ ∃ (err : Nat), err ∈ s.descErrs n ∧
        err < 64 ∧ (err = 5 ∨ err = 6 → d.dstSpace = 0 → s.inDram d.dst d.len = true)) :=
  ⟨⟨3, 3, by decide +kernel, _, List.mem_cons_self⟩,
   ⟨dmaS, 9, 3, by decide +kernel, 8, by decide +kernel, 0, 1, by decide +kernel⟩,
   ⟨dmaS, 9, 0, by decide +kernel, 8, by decide +kernel, 0, 1, by decide +kernel⟩,
   ⟨dmaS, 9, by decide +kernel, 8, by decide +kernel, 0, 1, by decide +kernel⟩,
   ⟨withF [(DMAn_STATUS_HALTED 9, 1)] dmaS, 9, by decide +kernel, 8, by decide +kernel, 0, 1, by decide +kernel⟩,
   ⟨dmaS, 9, _, 4096, by decide +kernel, rfl, by decide +kernel, fun k h => absurd h (by rw [show inRing dmaS k = false from rfl]; decide)⟩,
   ⟨withF [(DMAn_HEAD_HEAD 9, 7), (DMAn_HEAD_TAIL 9, 3)] dmaS, 9, _, 4320, by decide +kernel, rfl, by decide +kernel, _,
       List.mem_cons_self, by decide +kernel⟩⟩

theorem meets_MemoryServices :
    (∃ (s : State) (c : Nat), c < 4 ∧ s.fget (MEMI_LEAKc_LEAK_INT c) ≠ 0 ∧
        (kvGet s.mem.leakTick c).getD 0 + 250000 * s.fget (MEMI_LEAKc_LEAK_INT c) ≤ s.tick)
    ∧ (∃ (s : State) (p : Nat) (v : Nat) (sum : Nat), p < 7 ∧
        sum = ((List.range 7).map (fun i => if i = p then v % 65536 else s.latest (DRAMC_RSVp_RSV i))).sum ∧ 10 * sum ≤ 56 * s.dramRate ∧
        s.anyActive = false)
    ∧ (∃ (s : State) (p : Nat) (v : Nat) (sum : Nat), p < 7 ∧
        sum = ((List.range 7).map (fun i => if i = p then v % 65536 else s.latest (DRAMC_RSVp_RSV i))).sum ∧ 10 * sum ≤ 56 * s.dramRate ∧
        s.anyActive = true)
    ∧ (∃ (s : State) (p : Nat) (v : Nat) (sum : Nat), p < 7 ∧
        sum = ((List.range 7).map (fun i => if i = p then v % 65536 else s.latest (DRAMC_RSVp_RSV i))).sum ∧ 56 * s.dramRate < 10 * sum)
    ∧ (∃ (s : State), ∃ (l : Nat), ∃ e, s.mem.merge.find? (fun x => x.line == l) = some e ∧ (e.offs.length = 64 ∨ e.last + 250 ≤ s.tick))
    ∧ (∃ (s : State), ∃ (l : Nat), ∃ e, s.mem.merge.find? (fun x => x.line == l) = some e ∧ e.offs.length ≠ 64 ∧ s.tick < e.last + 250)
    ∧ (∃ (s : State) (ch : Nat), (ch < 2 ∧ s.bit DRAMC_STATUS_READY = true) ∧ (∀ t, kvGet s.mem.mr4Tick ch = some t → t + 8000000 ≤ s.tick))
    ∧ (∃ (s : State), s.mem.unsaved = true)
    ∧ (∃ (s : State) (l : Nat) (e : Nat), l = (s.fget MEMI_REMAP_ADDR_LO_LINE + s.fget MEMI_REMAP_ADDR_HI_LINE * 2 ^ 32) / 64 ∧
        l * 64 < s.usable ∧ s.remapOf l = none ∧ e < 32 ∧ kvGet s.mem.remap e = none ∧ (∀ k, k < e → kvGet s.mem.remap k ≠ none) ∧
        s.mem.badWords.all (fun w => w / 8 != l) = true)
    ∧ (∃ (s : State) (l : Nat), (l = (s.fget MEMI_REMAP_ADDR_LO_LINE + s.fget MEMI_REMAP_ADDR_HI_LINE * 2 ^ 32) / 64 ∧ l * 64 < s.usable) ∧
        (s.remapOf l ≠ none ∨ (∀ k, k < 32 → kvGet s.mem.remap k ≠ none)))
    ∧ (∃ (s : State) (l : Nat) (e : Nat), l = (s.fget MEMI_REMAP_ADDR_LO_LINE + s.fget MEMI_REMAP_ADDR_HI_LINE * 2 ^ 32) / 64 ∧
        l * 64 < s.usable ∧ s.remapOf l = some e)
    ∧ (∃ (s : State) (a : Nat) (b : Nat), a = s.rangeStart ∧ b = s.rangeEnd ∧ s.bit MEMI_STATUS_RANGE_BUSY = false ∧ a ≤ b ∧
        (b + 64 ≤ s.usable ∨ (0x1000000000 ≤ a ∧ b + 64 ≤ 0x1001000000)))
    ∧ (∃ (s : State) (a : Nat) (b : Nat), a = s.rangeStart ∧ b = s.rangeEnd ∧ (s.bit MEMI_STATUS_RANGE_BUSY = true ∨ b < a ∨
        (s.usable < b + 64 ∧ (a < 0x1000000000 ∨ 0x1001000000 < b + 64))))
    ∧ (∃ (s : State), ∃ a, ∃ b, (s.mem.rangeAt = some (a, b) ∧ s.mem.badWords = [] ∧ s.mem.oneBits = [] ∧ s.mem.sramOne = [] ∧
        s.mem.sramBad = [] ∧ s.mem.sramLost = []) ∧ ∃ (x : Nat) (k : Nat), a < sramBase ∧ x % 64 = 0 ∧ a ≤ x ∧ x ≤ b ∧ (k = 1 ∨ k = 2) ∧
        s.remapOf (x / 64) = none)
    ∧ (∃ (s : State), ∃ n, ∃ (t : Nat), ∃ x, (n < 6 ∧ t < 32) ∧ kvGet (s.stnOf n).source t = some x ∧ s.segAt x.1 x.2.1 < sramBase ∧
        s.mem.clean (s.segAt x.1 x.2.1) x.2.2 = true ∧ s.fget (MEMI_LEAKc_LEVEL 2) < 15)
    ∧ (∃ (s : State), ∃ (p : Nat), ∃ i, ∃ t, (p < 25 ∧ kvGet s.ex.running p = some i) ∧ s.task? i = some t) :=
  ⟨⟨withF [(DRAMC_STATUS_ZEROED, 1), (DRAMC_STATUS_READY, 1), (DRAMC_USABLE_USABLE_MIB, 16), (MEMI_CTRL_AUTO_REMAP, 0)] runS, 0,
      by decide +kernel⟩,
   ⟨withF [(DRAMC_STATUS_ZEROED, 1), (DRAMC_STATUS_READY, 1), (DRAMC_USABLE_USABLE_MIB, 16), (MEMI_CTRL_AUTO_REMAP, 0)] runS, 0, 0, 0,
       by decide +kernel⟩,
   ⟨withF [(DRAMC_CFG_RATE, 2)] (withSheets [sheet7 .committed] runS), 0, 0, 0, by decide +kernel⟩,
   ⟨withF [(DRAMC_STATUS_ZEROED, 1), (DRAMC_STATUS_READY, 1), (DRAMC_USABLE_USABLE_MIB, 16), (MEMI_CTRL_AUTO_REMAP, 0)] runS, 0, 60000,
       60000, by decide +kernel⟩,
   ⟨{ runS with mem := { runS.mem with merge := [⟨3, [1], 5⟩, ⟨4, [1], 2499999990⟩] } }, 3, _, rfl, by decide +kernel⟩,
   ⟨{ runS with mem := { runS.mem with merge := [⟨3, [1], 5⟩, ⟨4, [1], 2499999990⟩] } }, 4, _, rfl, by decide +kernel⟩,
   ⟨withF [(DRAMC_STATUS_ZEROED, 1), (DRAMC_STATUS_READY, 1), (DRAMC_USABLE_USABLE_MIB, 16), (MEMI_CTRL_AUTO_REMAP, 0)] runS, 0,
       by decide +kernel, fun t h => absurd (Option.isSome_of_eq_some h) (by decide +kernel)⟩,
   ⟨{ runS with mem := { runS.mem with unsaved := true } }, by decide +kernel⟩,
   ⟨withF [(DRAMC_STATUS_ZEROED, 1), (DRAMC_STATUS_READY, 1), (DRAMC_USABLE_USABLE_MIB, 16), (MEMI_CTRL_AUTO_REMAP, 0)] runS, 0, 0,
       by decide +kernel⟩,
   ⟨{ (withF [(DRAMC_STATUS_ZEROED, 1), (DRAMC_STATUS_READY, 1), (DRAMC_USABLE_USABLE_MIB, 16), (MEMI_CTRL_AUTO_REMAP, 0)] runS) with mem := { (withF [(DRAMC_STATUS_ZEROED, 1), (DRAMC_STATUS_READY, 1), (DRAMC_USABLE_USABLE_MIB, 16), (MEMI_CTRL_AUTO_REMAP, 0)] runS).mem with remap := [(0, ⟨0, true⟩)] } }, 0, by decide +kernel, Or.inl (by decide +kernel)⟩,
   ⟨{ (withF [(DRAMC_STATUS_ZEROED, 1), (DRAMC_STATUS_READY, 1), (DRAMC_USABLE_USABLE_MIB, 16), (MEMI_CTRL_AUTO_REMAP, 0)] runS) with mem := { (withF [(DRAMC_STATUS_ZEROED, 1), (DRAMC_STATUS_READY, 1), (DRAMC_USABLE_USABLE_MIB, 16), (MEMI_CTRL_AUTO_REMAP, 0)] runS).mem with remap := [(0, ⟨0, true⟩)] } }, 0, 0, by decide +kernel⟩,
   ⟨withF [(DRAMC_STATUS_ZEROED, 1), (DRAMC_STATUS_READY, 1), (DRAMC_USABLE_USABLE_MIB, 16), (MEMI_CTRL_AUTO_REMAP, 0)] runS, 0, 0,
       by decide +kernel⟩,
   ⟨withF [(MEMI_LEAKc_LEAK_INT 0, 5)] runS, 0, 0, by decide +kernel⟩,
   ⟨{ runS with mem := { runS.mem with rangeAt := some (0, 4096) } }, 0, 4096, by decide +kernel, 0, 1, by decide +kernel⟩,
   ⟨{ withTasks [(5, { task0 with segBase := [(0, 0x100), (1, 0x200)] })] [(2, 5)] runS with stn := [(1, { Stn.new with source := [(2, (5, 64, 32))] })] }, 1, 2, _, by decide +kernel, rfl, by decide +kernel⟩,
   ⟨{ exS with stn := [(1, { Stn.new with source := [(2, (5, 64, 32))] })] }, 2, 5, _, by decide +kernel, rfl⟩⟩

theorem meets_ScrubWalk :
    (∃ (s : State) (c : Nat) (n : Nat) (k : Nat), (c < 3 ∧
        n = (if c = 0 then s.usable / 64 else if c = 1 then (0x150000 + 0x100000 + 0x2000 + 0x400 + 0x40 + 0x50000 + 0x200000 + 0x800) / 64 else 0x700000 / 64) ∧ k = (kvGet s.mem.walkAt c).getD 0 ∧ s.fget (MEMI_SCRUBc_SCRUB_INT c) ≠ 0) ∧ (∀ t, kvGet s.mem.walkTick c = some t → t + 250 * s.fget (MEMI_SCRUBc_SCRUB_INT c) ≤ s.tick) ∧ n ≠ 0 ∧ s.mem.badWords = [] ∧ s.mem.oneBits = [] ∧ s.mem.sramOne = [] ∧ s.mem.sramBad = [] ∧ s.mem.sramLost = [] ∧ s.mem.remap = [] ∧ c = 0 ∧ k + 1 < n ∧ s.bit MEMI_CTRL_AUTO_REMAP = false ∧ s.fget (MEMI_LEAKc_LEVEL 0) < 15 ∧ s.fget DRAMC_ECC_CNT_CORR < 2 ^ DRAMC_ECC_CNT_CORR.width - 1)
    ∧ (∃ (s : State) (c : Nat) (n : Nat) (k : Nat), (c < 3 ∧
        n = (if c = 0 then s.usable / 64 else if c = 1 then (0x150000 + 0x100000 + 0x2000 + 0x400 + 0x40 + 0x50000 + 0x200000 + 0x800) / 64 else 0x700000 / 64) ∧ k = (kvGet s.mem.walkAt c).getD 0 ∧ s.fget (MEMI_SCRUBc_SCRUB_INT c) ≠ 0) ∧ (∀ t, kvGet s.mem.walkTick c = some t → t + 250 * s.fget (MEMI_SCRUBc_SCRUB_INT c) ≤ s.tick) ∧ n ≠ 0 ∧ s.mem.badWords = [] ∧ s.mem.oneBits = [] ∧ s.mem.sramOne = [] ∧ s.mem.sramBad = [] ∧ s.mem.sramLost = [] ∧ s.mem.remap = [] ∧ c = 0 ∧ k + 1 < n ∧ s.planesAt (k * 64) = [] ∧ s.fget DRAMC_ECC_CNT_UNCORR < 2 ^ DRAMC_ECC_CNT_UNCORR.width - 1)
    ∧ (∃ (s : State) (c : Nat) (n : Nat) (k : Nat), (c < 3 ∧
        n = (if c = 0 then s.usable / 64 else if c = 1 then (0x150000 + 0x100000 + 0x2000 + 0x400 + 0x40 + 0x50000 + 0x200000 + 0x800) / 64 else 0x700000 / 64) ∧ k = (kvGet s.mem.walkAt c).getD 0 ∧ s.fget (MEMI_SCRUBc_SCRUB_INT c) ≠ 0) ∧ (∀ t, kvGet s.mem.walkTick c = some t → t + 250 * s.fget (MEMI_SCRUBc_SCRUB_INT c) ≤ s.tick) ∧ n ≠ 0 ∧ s.mem.badWords = [] ∧ s.mem.oneBits = [] ∧ s.mem.sramOne = [] ∧ s.mem.sramBad = [] ∧ s.mem.sramLost = [] ∧ s.mem.remap = [] ∧ c ≠ 0 ∧ s.bit MEMI_CTRL_AUTO_SPARE = false ∧ s.fget (MEMI_LEAKc_LEVEL c) < 15)
    ∧ (∃ (s : State) (c : Nat) (n : Nat) (k : Nat), (c < 3 ∧
        n = (if c = 0 then s.usable / 64 else if c = 1 then (0x150000 + 0x100000 + 0x2000 + 0x400 + 0x40 + 0x50000 + 0x200000 + 0x800) / 64 else 0x700000 / 64) ∧ k = (kvGet s.mem.walkAt c).getD 0) ∧ (s.fget (MEMI_SCRUBc_SCRUB_INT c) = 0 ∨ (∃ t, kvGet s.mem.walkTick c = some t ∧ s.tick < t + 250 * s.fget (MEMI_SCRUBc_SCRUB_INT c))))
    ∧ (∃ (s : State) (c : Nat) (n : Nat) (k : Nat), (c < 3 ∧
        n = (if c = 0 then s.usable / 64 else if c = 1 then (0x150000 + 0x100000 + 0x2000 + 0x400 + 0x40 + 0x50000 + 0x200000 + 0x800) / 64 else 0x700000 / 64) ∧ k = (kvGet s.mem.walkAt c).getD 0) ∧ ∃ j, j ≠ k) :=
  ⟨⟨withF [(MEMI_SCRUBc_SCRUB_INT 0, 7), (MEMI_SCRUBc_SCRUB_INT 1, 7), (MEMI_CTRL_AUTO_SPARE, 0)] (withF [(DRAMC_STATUS_ZEROED, 1),
      (DRAMC_STATUS_READY, 1), (DRAMC_USABLE_USABLE_MIB, 16), (MEMI_CTRL_AUTO_REMAP, 0)] runS), 0, 262144, 0, by decide +kernel,
      fun t h => absurd (Option.isSome_of_eq_some h) (by decide +kernel), by decide +kernel⟩,
   ⟨withF [(MEMI_SCRUBc_SCRUB_INT 0, 7), (MEMI_SCRUBc_SCRUB_INT 1, 7), (MEMI_CTRL_AUTO_SPARE, 0)] (withF [(DRAMC_STATUS_ZEROED, 1),
       (DRAMC_STATUS_READY, 1), (DRAMC_USABLE_USABLE_MIB, 16), (MEMI_CTRL_AUTO_REMAP, 0)] runS), 0, 262144, 0, by decide +kernel,
       fun t h => absurd (Option.isSome_of_eq_some h) (by decide +kernel), by decide +kernel⟩,
   ⟨withF [(MEMI_SCRUBc_SCRUB_INT 0, 7), (MEMI_SCRUBc_SCRUB_INT 1, 7), (MEMI_CTRL_AUTO_SPARE, 0)] (withF [(DRAMC_STATUS_ZEROED, 1),
       (DRAMC_STATUS_READY, 1), (DRAMC_USABLE_USABLE_MIB, 16), (MEMI_CTRL_AUTO_REMAP, 0)] runS), 1, 75953, 0, by decide +kernel,
       fun t h => absurd (Option.isSome_of_eq_some h) (by decide +kernel), by decide +kernel⟩,
   ⟨withF [(MEMI_SCRUBc_SCRUB_INT 0, 0)] runS, 0, 0, 0, by decide +kernel, Or.inl (by decide +kernel)⟩,
   ⟨withF [(MEMI_SCRUBc_SCRUB_INT 0, 7), (MEMI_SCRUBc_SCRUB_INT 1, 7), (MEMI_CTRL_AUTO_SPARE, 0)] (withF [(DRAMC_STATUS_ZEROED, 1),
       (DRAMC_STATUS_READY, 1), (DRAMC_USABLE_USABLE_MIB, 16), (MEMI_CTRL_AUTO_REMAP, 0)] runS), 0, 262144, 0, by decide +kernel, 1,
       by decide +kernel⟩⟩

theorem meets_TableLoads :
    (∃ (s : State) (n : Nat) (k : Nat), n < 6 ∧ k < 32 ∧ s.loadErr n k = 0)
    ∧ (∃ (s : State) (n : Nat) (k : Nat), n < 6 ∧ k < 32 ∧ s.loadErr n k ≠ 0)
    ∧ (∃ (s : State) (n : Nat) (k : Nat), (n < 6 ∧ k < 32) ∧ ∃ l, (s.stnOf n).load = some l ∧ l.table < 4 ∧
        s.segAt l.task l.src < sramBase ∧ s.mem.clean (s.segAt l.task l.src) l.len = true)
    ∧ (∃ (s : State) (n : Nat) (k : Nat), (n < 6 ∧ k < 32) ∧ ∃ (x : Nat × Nat × Nat), kvGet (s.stnOf n).source 16 = some x ∧
        (s.stnOf n).patch = none ∧ 1 ≤ s.fget (STNn_TBL_PATCH_COUNT n) ∧ s.fget (STNn_TBL_PATCH_COUNT n) ≤ 1024 ∧
        s.fget (STNn_TBL_PATCH_FIRST n) + s.fget (STNn_TBL_PATCH_COUNT n) ≤ s.stnN n ∧ (s.stnOf n).windows ≠ [])
    ∧ (∃ (s : State) (n : Nat) (k : Nat), (n < 6 ∧ k < 32) ∧ ∃ (x : Nat × Nat × Nat), kvGet (s.stnOf n).source 16 = some x ∧
        (s.stnOf n).patch = none ∧ 1 ≤ s.fget (STNn_TBL_PATCH_COUNT n) ∧ s.fget (STNn_TBL_PATCH_COUNT n) ≤ 1024 ∧
        s.fget (STNn_TBL_PATCH_FIRST n) + s.fget (STNn_TBL_PATCH_COUNT n) ≤ s.stnN n ∧ (s.stnOf n).windows = [])
    ∧ (∃ (s : State) (n : Nat) (k : Nat), n < 6 ∧ k < 32 ∧ (k ≠ 16 ∨ s.fget (STNn_TBL_PATCH_COUNT n) = 0 ∨
        1024 < s.fget (STNn_TBL_PATCH_COUNT n))) :=
  ⟨⟨(withF [(STNn_TBL_TASK_TASK 1, 5), (STNn_TBL_SRC_SRC 1, 64), (STNn_TBL_LEN_LEN 1,
      256)] { readyS with ex := { readyS.ex with tasks := [(5, { task0 with segLoc := [(0, 2), (1, 2)], segBase := [(0, 0x100), (1, 0x200)] })] } }), 1, 8, by decide +kernel⟩,
   ⟨(withF [(STNn_TBL_TASK_TASK 1, 5), (STNn_TBL_SRC_SRC 1, 64), (STNn_TBL_LEN_LEN 1,
       256)] { readyS with ex := { readyS.ex with tasks := [(5, { task0 with segLoc := [(0, 2), (1, 2)], segBase := [(0, 0x100), (1, 0x200)] })] } }), 1, 1, by decide +kernel⟩,
   ⟨{ ({ readyS with ex := { readyS.ex with tasks := [(5, { task0 with segLoc := [(0, 2), (1, 2)], segBase := [(0, 0x100), (1, 0x200)] })] } }) with stn := [(1, { Stn.new with load := some ⟨2, 5, 64, 100, 0, 0, []⟩ })] }, 1, 1, by decide +kernel, _, rfl, by decide +kernel⟩,
   ⟨{ (withF [(STNn_TBL_PATCH_FIRST 1, 3), (STNn_TBL_PATCH_COUNT 1, 4), (STNn_PL_WIDTH_N 1, 100)] readyS) with stn := [(1, { Stn.new with source := [(16, (5, 64, 1200))], windows := [⟨7, 5, 3, 0, none, entry0, 0, 0, 0, 0, false, false, false, false, none⟩] })] }, 1, 1, by decide +kernel, _, rfl, by decide +kernel⟩,
   ⟨{ (withF [(STNn_TBL_PATCH_FIRST 1, 3), (STNn_TBL_PATCH_COUNT 1, 4), (STNn_PL_WIDTH_N 1, 100)] readyS) with stn := [(1, { Stn.new with source := [(16, (5, 64, 1200))] })] }, 1, 1, by decide +kernel, _, rfl, by decide +kernel⟩,
   ⟨(withF [(STNn_TBL_TASK_TASK 1, 5), (STNn_TBL_SRC_SRC 1, 64), (STNn_TBL_LEN_LEN 1,
       256)] { readyS with ex := { readyS.ex with tasks := [(5, { task0 with segLoc := [(0, 2), (1, 2)], segBase := [(0, 0x100), (1, 0x200)] })] } }), 1, 1, by decide +kernel⟩⟩

theorem meets_SparePipeline :
    (∃ (s : State) (n : Nat), n < 6 ∧ s.stnxFree = true)
    ∧ (∃ (s : State) (n : Nat), n < 6 ∧ s.stnxFree = false)
    ∧ (∃ (s : State) (n : Nat), n < 6 ∧ s.fget STNX_STATUS_SERVES = n ∧ (s.stnOf n).failed = false ∧ (s.stnOf n).retired = false ∧
        s.fget STNX_STATUS_STATE = 2)
    ∧ (∃ (s : State) (n : Nat), n < 6 ∧ s.fget STNX_STATUS_STATE ≠ 2)
    ∧ (∃ (s : State) (n : Nat), n < 6 ∧ s.anyActive = false ∧ s.stnx.atWindow = true ∧ kvSorted (s.stnOf n).source = true ∧
        (∀ e ∈ (s.stnOf n).source, s.segAt e.2.1 e.2.2.1 < sramBase ∧ s.mem.clean (s.segAt e.2.1 e.2.2.1) e.2.2.2 = true) ∧
        s.stnx.moveReq = some n)
    ∧ (∃ (s : State) (n : Nat), n < 6 ∧ s.anyActive = false ∧ s.stnx.atWindow = true ∧ kvSorted (s.stnOf n).source = true ∧
        (∀ e ∈ (s.stnOf n).source, s.segAt e.2.1 e.2.2.1 < sramBase ∧ s.mem.clean (s.segAt e.2.1 e.2.2.1) e.2.2.2 = true) ∧
        s.stnx.moveReq = none ∧ s.stnx.returnReq = true ∧ s.fget STNX_STATUS_SERVES = n)
    ∧ (∃ (s : State) (n : Nat), n < 6 ∧ ∃ q i p more f, s.toDecode n = (q, i, p) :: more ∧ s.pipeUp n (s.servedX n q) = true ∧
        f = (s.stnOf n).fetchOf q i ∧ (s.mem.badWords = [] ∧ s.mem.oneBits = []) ∧ ∃ raw o rest d, f.hdrs = (raw, o) :: rest ∧
        decodeTile (tileHdr raw) (s.planeBytes p o (tileHdr raw).bodyLen) (tileLineBytes p.entry.format) (tileH p.entry (f.tile / tileCols p.entry)) = some d)
    ∧ (∃ (s : State) (n : Nat), n < 6 ∧ ∃ q i p more f, s.toDecode n = (q, i, p) :: more ∧ s.pipeUp n (s.servedX n q) = true ∧
        f = (s.stnOf n).fetchOf q i ∧ (s.mem.badWords = [] ∧ s.mem.oneBits = []) ∧ ∃ hd d stop, (f.hdrs = [] ∧ tileCols p.entry = 1 ∧
        f.off + 16 ≤ p.entry.length) ∧ hd = tileHdr (s.planeBytes p f.off 16) ∧ (stop = f.off + 16 + hd.bodyLen ∧
        hd.ok (tileLineBytes p.entry.format) (tileH p.entry f.tile) 0 f.tile = true ∧ stop ≤ p.entry.length ∧
        (f.tile + 1 = tileRows p.entry → stop = p.entry.length)) ∧
        decodeTile hd (s.planeBytes p (f.off + 16) hd.bodyLen) (tileLineBytes p.entry.format) (tileH p.entry f.tile) = some d)
    ∧ (∃ (s : State) (n : Nat), n < 6 ∧ ∃ q i p more f, s.toDecode n = (q, i, p) :: more ∧ s.pipeUp n (s.servedX n q) = true ∧
        f = (s.stnOf n).fetchOf q i ∧ s.mem.badWords = [] ∧ s.mem.oneBits = [] ∧ f.hdrs = [] ∧ tileCols p.entry ≠ 0 ∧
        p.entry.length < f.off + 16) :=
  ⟨⟨runS, 1, by decide +kernel⟩,
   ⟨withF [(STNX_STATUS_STATE, 2), (STNX_STATUS_SERVES, 1)] runS, 1, by decide +kernel⟩,
   ⟨withF [(STNX_STATUS_STATE, 2), (STNX_STATUS_SERVES, 1)] runS, 1, by decide +kernel⟩,
   ⟨runS, 1, by decide +kernel⟩,
   ⟨{ runS with stnx := ⟨some 1, false, true, true, []⟩ }, 1, by decide +kernel⟩,
   ⟨withF [(STNX_STATUS_STATE, 2), (STNX_STATUS_SERVES, 1)] { runS with stnx := ⟨none, true, true, true, []⟩ }, 1, by decide +kernel⟩,
   ⟨{ (withDram 0 [0x000000B3, 0, 0, 0xECBB4B55] (withSheets [{ sheet7 .admitted with planes := [⟨⟨1, 2, 0, 1, 100, 16, 0x1000, 0, true⟩, [0], 16, 0, true, false, false⟩] }] readyS)) with stn := [(1, { Stn.new with fetch := [⟨7, 0, 0, 0, [([0x000000B3, 0, 0, 0xECBB4B55].flatMap (fun w => natToBytes w 4), 16)]⟩] })] }, 1, by decide +kernel, 7, 0, _, _, _, rfl, by decide +kernel, rfl, by decide +kernel, _, 16, _, _, rfl, (Option.some_get (by decide +kernel)).symm⟩,
   ⟨withDram 0 [0x000000B3, 0, 0,
       0xECBB4B55] (withSheets [{ sheet7 .admitted with planes := [⟨⟨1, 2, 0, 1, 100, 16, 0x1000, 0, true⟩, [0], 16, 0, true, false, false⟩] }] readyS), 1, by decide +kernel, 7, 0, _, _, _, rfl, by decide +kernel, rfl, by decide +kernel, _, _, 16, by decide +kernel, rfl, by decide +kernel, (Option.some_get (by decide +kernel)).symm⟩,
   ⟨withDram 0 [1, 2] (withSheets [{ sheet7 .admitted with planes := [⟨⟨1, 2, 0, 1, 100, 12, 0x1000, 0, true⟩, [0], 16, 0, true, false, false⟩] }] readyS), 1, by decide +kernel, 7, 0, _, _, _, rfl, by decide +kernel, rfl, by decide +kernel⟩⟩

theorem meets_BeltPosition :
    (∃ (s : State), ∃ (up : Bool), ∃ d, d = (if up = s.bit PPOS_CTRL_INVERT then (-1 : Int) else 1) ∧ s.beltRuns = true)
    ∧ (∃ (s : State), s.beltRuns = false)
    ∧ (∃ (s : State), s.bit PPOS_CTRL_EN = true ∧ s.bit PPOS_CTRL_Z_EN = true)
    ∧ (∃ (s : State) (c : Nat), (c = 1 ∨ c = 2) ∧ s.bit PPOS_CTRL_EN = true)
    ∧ (∃ (s : State), s.bit PPOS_CTRL_EN = false)
    ∧ (∃ (s : State), s.bit PPOS_CTRL_EN = true ∧ s.anyActive = true)
    ∧ (∃ (s : State), s.bit PPOS_CTRL_EN = true ∧ s.anyActive = false)
    ∧ (∃ (s : State), s.bit PPOS_STATUS_ENC_LOST = true)
    ∧ (∃ (n : Nat), n < 6) :=
  ⟨⟨readyS, false, (-1), by decide +kernel⟩,
   ⟨withF [(PPOS_CTRL_EN, 0)] readyS, by decide +kernel⟩,
   ⟨withF [(PPOS_CTRL_Z_EN, 1)] readyS, by decide +kernel⟩,
   ⟨readyS, 2, by decide +kernel⟩,
   ⟨withF [(PPOS_CTRL_EN, 0)] readyS, by decide +kernel⟩,
   ⟨withSheets [sheet7 .committed] readyS, by decide +kernel⟩,
   ⟨readyS, by decide +kernel⟩,
   ⟨withF [(PPOS_STATUS_ENC_LOST, 1)] readyS, by decide +kernel⟩,
   ⟨2, by decide +kernel⟩⟩

theorem meets_ScanFacets :
    (∃ (s : State) (n : Nat), (n < 6 ∧ s.isBar n = false ∧ s.bit (STNn_SC_CTRL_SC_EN n) = true ∧ (s.fget (STNn_SC_CFG_FACETS n) ≤ 15 ∧
        s.stnB n ≤ 32 ∧ s.fget (STNn_SC_SURVEY_BEAM n) < 32 ∧ s.fget (STNn_SC_FACET_FACET n) < 16)) ∧ ∃ (e : LightEdge),
        e.falling = s.bit (STNn_SC_SOS_WIN_POL n) ∧ s.fget (STNn_SC_SOS_WIN_MINW n) ≤ e.width ∧ (s.windowOpen n = true ∨
        ((e.iv : Int) - s.predicted n).natAbs ≤ 64 * s.fget (STNn_SC_SOS_WIN_HALF n)))
    ∧ (∃ (s : State) (n : Nat), (n < 6 ∧ s.isBar n = false ∧ s.bit (STNn_SC_CTRL_SC_EN n) = true ∧ (s.fget (STNn_SC_CFG_FACETS n) ≤ 15 ∧
        s.stnB n ≤ 32 ∧ s.fget (STNn_SC_SURVEY_BEAM n) < 32 ∧ s.fget (STNn_SC_FACET_FACET n) < 16)) ∧ ∃ (e : LightEdge),
        (e.falling ≠ s.bit (STNn_SC_SOS_WIN_POL n) ∨ e.width < s.fget (STNn_SC_SOS_WIN_MINW n) ∨ (s.windowOpen n = false ∧
        64 * s.fget (STNn_SC_SOS_WIN_HALF n) < ((e.iv : Int) - s.predicted n).natAbs)))
    ∧ (∃ (s : State) (n : Nat), n < 6 ∧ s.isBar n = false ∧ s.bit (STNn_SC_CTRL_SC_EN n) = true ∧ (s.fget (STNn_SC_CFG_FACETS n) ≤ 15 ∧
        s.stnB n ≤ 32 ∧ s.fget (STNn_SC_SURVEY_BEAM n) < 32 ∧ s.fget (STNn_SC_FACET_FACET n) < 16) ∧ (s.stnOf n).scan.ivs ≠ [])
    ∧ (∃ (s : State) (n : Nat), (n < 6 ∧ s.isBar n = false ∧ s.bit (STNn_SC_CTRL_SC_EN n) = true ∧ s.bit (STNn_SC_CFG_EOS_EN n) = true) ∧
        ∃ (e : LightEdge), (s.stnOf n).scan.nf = none ∧ e.falling = s.bit (STNn_SC_SOS_WIN_POL n) ∧
        s.fget (STNn_SC_SOS_WIN_MINW n) ≤ e.width ∧
        ((e.iv : Int) - s.fget (STNn_SC_EOS_REF_REF n)).natAbs ≤ 64 * s.fget (STNn_SC_SOS_WIN_HALF n))
    ∧ (∃ (s : State) (n : Nat), (n < 6 ∧ s.isBar n = false ∧ s.bit (STNn_SC_CTRL_SC_EN n) = true ∧ s.bit (STNn_SC_CFG_EOS_EN n) = true) ∧
        ∃ (e : LightEdge), ((s.stnOf n).scan.nf ≠ none ∨ e.falling ≠ s.bit (STNn_SC_SOS_WIN_POL n) ∨
        e.width < s.fget (STNn_SC_SOS_WIN_MINW n) ∨
        64 * s.fget (STNn_SC_SOS_WIN_HALF n) < ((e.iv : Int) - s.fget (STNn_SC_EOS_REF_REF n)).natAbs))
    ∧ (∃ (s : State) (n : Nat), n < 6 ∧ s.isBar n = false ∧ s.bit (STNn_SC_CTRL_SC_EN n) = true ∧ s.bit (STNn_SC_CFG_EOS_EN n) = true ∧
        (s.stnOf n).scan.nf = none)
    ∧ (∃ (s : State) (n : Nat), n < 6 ∧ s.isBar n = false ∧ s.bit (STNn_SC_CTRL_SC_EN n) = true ∧ s.bit (STNn_SC_CFG_EOS_EN n) = true ∧
        (s.stnOf n).scan.nf ≠ none)
    ∧ (∃ (s : State) (n : Nat), n < 6 ∧ (s.isBar n = true ∨ s.bit (STNn_SC_CTRL_SC_EN n) = false))
    ∧ (∃ (s : State) (n : Nat), n < 6 ∧ ∃ (lk : Fld) (seen : Fld),
        lk = (if s.isBar n then STNn_BR_STATUS_PIX_LOCK n else STNn_SC_STATUS_PIX_LOCK n) ∧
        seen = (if s.isBar n then STNn_BR_STATUS_PIX_UNLOCK_SEEN n else STNn_SC_STATUS_PIX_UNLOCK_SEEN n) ∧ s.bit lk = true)
    ∧ (∃ (s : State) (n : Nat), n < 6 ∧ ∃ (lk : Fld) (seen : Fld),
        lk = (if s.isBar n then STNn_BR_STATUS_PIX_LOCK n else STNn_SC_STATUS_PIX_LOCK n) ∧
        seen = (if s.isBar n then STNn_BR_STATUS_PIX_UNLOCK_SEEN n else STNn_SC_STATUS_PIX_UNLOCK_SEEN n) ∧ s.bit lk = false ∧
        s.pixRuns n = true)
    ∧ (∃ (s : State) (n : Nat), n < 6 ∧ ∃ (lk : Fld) (seen : Fld),
        lk = (if s.isBar n then STNn_BR_STATUS_PIX_LOCK n else STNn_SC_STATUS_PIX_LOCK n) ∧
        seen = (if s.isBar n then STNn_BR_STATUS_PIX_UNLOCK_SEEN n else STNn_SC_STATUS_PIX_UNLOCK_SEEN n) ∧ s.bit lk = false)
    ∧ (∃ (s : State) (n : Nat), n < 6 ∧ s.isBar n = false ∧ s.bit (STNn_SC_CTRL_SC_EN n) = false) :=
  ⟨⟨withF [(STNn_SC_CFG_FACETS 0, 6), (STNn_SC_CFG_EOS_EN 0, 1), (STNn_SC_EOS_REF_REF 0,
      90000)] { readyS with stn := [(0, { Stn.new with scan := { Stn.new.scan with ivs := [90000] } })] }, 0, by decide +kernel, ⟨false,
      100000, 90000, 0⟩, by decide +kernel⟩,
   ⟨withF [(STNn_SC_CFG_FACETS 0, 6), (STNn_SC_CFG_EOS_EN 0, 1), (STNn_SC_EOS_REF_REF 0,
       90000)] { readyS with stn := [(0, { Stn.new with scan := { Stn.new.scan with ivs := [90000] } })] }, 0, by decide +kernel, ⟨true,
       100000, 90000, 0⟩, by decide +kernel⟩,
   ⟨withF [(STNn_SC_CFG_FACETS 0, 6), (STNn_SC_CFG_EOS_EN 0, 1), (STNn_SC_EOS_REF_REF 0,
       90000)] { readyS with stn := [(0, { Stn.new with scan := { Stn.new.scan with ivs := [90000] } })] }, 0, by decide +kernel⟩,
   ⟨withF [(STNn_SC_CFG_FACETS 0, 6), (STNn_SC_CFG_EOS_EN 0, 1), (STNn_SC_EOS_REF_REF 0,
       90000)] { readyS with stn := [(0, { Stn.new with scan := { Stn.new.scan with ivs := [90000] } })] }, 0, by decide +kernel, ⟨false,
       100000, 90000, 0⟩, by decide +kernel⟩,
   ⟨withF [(STNn_SC_CFG_FACETS 0, 6), (STNn_SC_CFG_EOS_EN 0, 1), (STNn_SC_EOS_REF_REF 0,
       90000)] { readyS with stn := [(0, { Stn.new with scan := { Stn.new.scan with ivs := [90000] } })] }, 0, by decide +kernel, ⟨true,
       100000, 90000, 0⟩, by decide +kernel⟩,
   ⟨withF [(STNn_SC_CFG_FACETS 0, 6), (STNn_SC_CFG_EOS_EN 0, 1), (STNn_SC_EOS_REF_REF 0,
       90000)] { readyS with stn := [(0, { Stn.new with scan := { Stn.new.scan with ivs := [90000] } })] }, 0, by decide +kernel⟩,
   ⟨withF [(STNn_SC_CFG_FACETS 0, 6), (STNn_SC_CFG_EOS_EN 0, 1), (STNn_SC_EOS_REF_REF 0,
       90000)] { readyS with stn := [(0, { Stn.new with scan := { Stn.new.scan with ivs := [90000], nf := some 5 } })] }, 0,
       by decide +kernel⟩,
   ⟨withF [(STNn_SC_CFG_FACETS 0, 6), (STNn_SC_CFG_EOS_EN 0, 1), (STNn_SC_EOS_REF_REF 0,
       90000)] { readyS with stn := [(0, { Stn.new with scan := { Stn.new.scan with ivs := [90000] } })] }, 1, by decide +kernel⟩,
   ⟨withF [(STNn_SC_CFG_FACETS 0, 6), (STNn_SC_CFG_EOS_EN 0, 1), (STNn_SC_EOS_REF_REF 0,
       90000)] { readyS with stn := [(0, { Stn.new with scan := { Stn.new.scan with ivs := [90000] } })] }, 0, by decide +kernel, _, _,
       rfl, rfl, by decide +kernel⟩,
   ⟨withF [(STNn_SC_STATUS_PIX_LOCK 0, 0), (STNn_SC_PIXFREQ_NOM 0, 9)] readyS, 0, by decide +kernel, _, _, rfl, rfl, by decide +kernel⟩,
   ⟨withF [(STNn_SC_CFG_FACETS 0, 6), (STNn_SC_CFG_EOS_EN 0, 1), (STNn_SC_EOS_REF_REF 0,
       90000)] { readyS with stn := [(0, { Stn.new with scan := { Stn.new.scan with ivs := [90000] } })] }, 1, by decide +kernel, _, _,
       rfl, rfl, by decide +kernel⟩,
   ⟨withF [(STNn_SC_CFG_FACETS 0, 6), (STNn_SC_CFG_EOS_EN 0, 1), (STNn_SC_EOS_REF_REF 0,
       90000)] { readyS with stn := [(0, { Stn.new with scan := { Stn.new.scan with ivs := [90000] } })] }, 1, by decide +kernel⟩⟩

theorem meets_BarLinesAndHeads :
    (∃ (s : State) (n : Nat), (n < 6 ∧ s.isBar n = true ∧ s.bit (STNn_BR_CTRL_BAR_EN n) = true ∧ s.beltRuns = true) ∧ ∃ (un : Int) (g : Int) (pos : Int) (q : Int), un = s.lineUnits n ∧ pos = s.belt - s.ofsOf n ∧ g = (match (s.stnOf n).bar.hold with | some r => r.2 | none => match s.refPlane n with | some r => r.2 | none => 0) ∧ q = g + ((((s.stnOf n).bar.maxPos <|> (s.stnOf n).bar.low).getD pos - g) / un + 1) * un ∧ pos < q)
    ∧ (∃ (s : State) (n : Nat), (n < 6 ∧ s.isBar n = true ∧ s.bit (STNn_BR_CTRL_BAR_EN n) = true ∧ s.beltRuns = true) ∧ ∃ (un : Int) (g : Int) (pos : Int) (q : Int), un = s.lineUnits n ∧ pos = s.belt - s.ofsOf n ∧ g = (match (s.stnOf n).bar.hold with | some r => r.2 | none => match s.refPlane n with | some r => r.2 | none => 0) ∧ q = g + ((((s.stnOf n).bar.maxPos <|> (s.stnOf n).bar.low).getD pos - g) / un + 1) * un ∧ q ≤ pos)
    ∧ (∃ (s : State) (n : Nat), n < 6 ∧ s.isBar n = true ∧ s.bit (STNn_BR_CTRL_BAR_EN n) = false)
    ∧ (∃ (s : State) (n : Nat), n < 6 ∧ s.stnInUse n = false)
    ∧ (∃ (s : State) (n : Nat), n < 6 ∧ s.stnInUse n = true)
    ∧ (∃ (s : State) (n : Nat), (n < 6 ∧ s.bit (STNn_HD_STATUS_HREC_BUSY n) = true) ∧ ∃ (rec : Option (List Byte)) (e : Nat),
        e = s.hrecCheck n rec)
    ∧ (∃ (s : State) (n : Nat), (n < 6 ∧ s.isBar n = true ∧ s.bit (STNn_HD_STATUS_STATUS_TGT n) = true) ∧ ∃ (h : HeadStat), h.cause = 4)
    ∧ (∃ (s : State) (n : Nat), (n < 6 ∧ s.isBar n = true ∧ s.bit (STNn_HD_STATUS_STATUS_TGT n) = true) ∧ ∃ (h : HeadStat), h.cause = 0)
    ∧ (∃ (s : State) (n : Nat), (n < 6 ∧ s.isBar n = true ∧ s.bit (STNn_HD_STATUS_STATUS_TGT n) = true) ∧ ∃ (h : HeadStat), ∃ e,
        h.cause = 2 ∧ h.fails = [e] ∧ (s.known n).length < 512 ∧ (s.known n).any (fun x => x.1 == e) = false)
    ∧ (∃ (s : State) (n : Nat), (n < 6 ∧ s.isBar n = true ∧ s.bit (STNn_HD_STATUS_STATUS_TGT n) = true) ∧
        ∃ (h : HeadStat) (base : List Nat) (l : Nat), h.cause = 1 ∧ (s.stnOf n).bar.base = some base ∧ l < 17)
    ∧ (∃ (s : State) (n : Nat), n < 6 ∧ (s.isBar n = false ∨ s.bit (STNn_HD_STATUS_STATUS_TGT n) = false))
    ∧ (∃ (s : State) (n : Nat), n < 6 ∧ ∃ (e : Nat), e % 65536 < s.stnN n ∧ (s.known n).length < 512 ∧
        (s.known n).any (fun x => x.1 == e % 65536) = false)
    ∧ (∃ (s : State) (n : Nat), n < 6 ∧ ∃ (e : Nat), (s.stnN n ≤ e % 65536 ∨ (s.known n).any (fun x => x.1 == e % 65536) = true))
    ∧ (∃ (s : State) (n : Nat), (n < 6 ∧ s.stnEnabled n = true ∧ s.fget (STNn_HD_TH_CFG_TH_AIN n) < 80) ∧ (∀ t,
        (s.stnOf n).head.convAt = some t → t + 250000 < s.tick) ∧ 250000 < s.tick ∧ s.bit (STNn_HD_STATUS_TH_STALE n) = false)
    ∧ (∃ (s : State) (n : Nat), n < 6 ∧ s.bit (STNn_HD_STATUS_WARN n) = false ∧ (s.stnOf n).head.hotRun = 0)
    ∧ (∃ (s : State) (n : Nat), n < 6 ∧ (s.bit (STNn_HD_STATUS_WARN n) = true ∨ (s.stnOf n).head.hotRun ≠ 0)) :=
  ⟨⟨withF [(STNn_PL_CFG_KIND 1, 1), (STNn_PL_WIDTH_N 1, 8), (STNn_HD_STATUS_STATUS_TGT 1, 1), (STNn_HD_STATUS_HREC_BUSY 1, 1),
      (STNn_BR_CTRL_BAR_EN 1, 1), (STNn_HD_TH_CFG_TH_AIN 1, 5), (STNn_PL_CTRL_ENABLE 1,
      1)] { readyS with stn := [(1, { Stn.new with bar := { Stn.new.bar with base := some [1, 2, 3], known := [(3, 1)] } })] }, 1,
      by decide +kernel, 65536, 0, 0, 65536, by decide +kernel⟩,
   ⟨withF [(STNn_PL_CFG_KIND 1, 1), (STNn_PL_WIDTH_N 1, 8), (STNn_HD_STATUS_STATUS_TGT 1, 1), (STNn_HD_STATUS_HREC_BUSY 1, 1),
       (STNn_BR_CTRL_BAR_EN 1, 1), (STNn_HD_TH_CFG_TH_AIN 1, 5), (STNn_PL_CTRL_ENABLE 1,
       1)] { readyS with stn := [(1, { Stn.new with bar := { Stn.new.bar with low := some (-5) } })] }, 1, by decide +kernel, 65536, 0, 0,
       0, by decide +kernel⟩,
   ⟨withF [(STNn_PL_CFG_KIND 1, 1), (STNn_PL_WIDTH_N 1, 8)] readyS, 1, by decide +kernel⟩,
   ⟨withF [(STNn_PL_CFG_KIND 1, 1), (STNn_PL_WIDTH_N 1, 8), (STNn_HD_STATUS_STATUS_TGT 1, 1), (STNn_HD_STATUS_HREC_BUSY 1, 1),
       (STNn_BR_CTRL_BAR_EN 1, 1), (STNn_HD_TH_CFG_TH_AIN 1, 5), (STNn_PL_CTRL_ENABLE 1,
       1)] { readyS with stn := [(1, { Stn.new with bar := { Stn.new.bar with base := some [1, 2, 3], known := [(3, 1)] } })] }, 1,
       by decide +kernel⟩,
   ⟨withSheets [sheet7 .committed] readyS, 0, by decide +kernel⟩,
   ⟨withF [(STNn_PL_CFG_KIND 1, 1), (STNn_PL_WIDTH_N 1, 8), (STNn_HD_STATUS_STATUS_TGT 1, 1), (STNn_HD_STATUS_HREC_BUSY 1, 1),
       (STNn_BR_CTRL_BAR_EN 1, 1), (STNn_HD_TH_CFG_TH_AIN 1, 5), (STNn_PL_CTRL_ENABLE 1,
       1)] { readyS with stn := [(1, { Stn.new with bar := { Stn.new.bar with base := some [1, 2, 3], known := [(3, 1)] } })] }, 1,
       by decide +kernel, none, 1, by decide +kernel⟩,
   ⟨withF [(STNn_PL_CFG_KIND 1, 1), (STNn_PL_WIDTH_N 1, 8), (STNn_HD_STATUS_STATUS_TGT 1, 1), (STNn_HD_STATUS_HREC_BUSY 1, 1),
       (STNn_BR_CTRL_BAR_EN 1, 1), (STNn_HD_TH_CFG_TH_AIN 1, 5), (STNn_PL_CTRL_ENABLE 1,
       1)] { readyS with stn := [(1, { Stn.new with bar := { Stn.new.bar with base := some [1, 2, 3], known := [(3, 1)] } })] }, 1,
       by decide +kernel, ⟨4, [], 0, [], 7⟩, by decide +kernel⟩,
   ⟨withF [(STNn_PL_CFG_KIND 1, 1), (STNn_PL_WIDTH_N 1, 8), (STNn_HD_STATUS_STATUS_TGT 1, 1), (STNn_HD_STATUS_HREC_BUSY 1, 1),
       (STNn_BR_CTRL_BAR_EN 1, 1), (STNn_HD_TH_CFG_TH_AIN 1, 5), (STNn_PL_CTRL_ENABLE 1,
       1)] { readyS with stn := [(1, { Stn.new with bar := { Stn.new.bar with base := some [1, 2, 3], known := [(3, 1)] } })] }, 1,
       by decide +kernel, ⟨0, [], 0, [], 7⟩, by decide +kernel⟩,
   ⟨withF [(STNn_PL_CFG_KIND 1, 1), (STNn_PL_WIDTH_N 1, 8), (STNn_HD_STATUS_STATUS_TGT 1, 1), (STNn_HD_STATUS_HREC_BUSY 1, 1),
       (STNn_BR_CTRL_BAR_EN 1, 1), (STNn_HD_TH_CFG_TH_AIN 1, 5), (STNn_PL_CTRL_ENABLE 1,
       1)] { readyS with stn := [(1, { Stn.new with bar := { Stn.new.bar with base := some [1, 2, 3], known := [(3, 1)] } })] }, 1,
       by decide +kernel, ⟨2, [], 0, [1], 7⟩, 1, by decide +kernel⟩,
   ⟨withF [(STNn_PL_CFG_KIND 1, 1), (STNn_PL_WIDTH_N 1, 8), (STNn_HD_STATUS_STATUS_TGT 1, 1), (STNn_HD_STATUS_HREC_BUSY 1, 1),
       (STNn_BR_CTRL_BAR_EN 1, 1), (STNn_HD_TH_CFG_TH_AIN 1, 5), (STNn_PL_CTRL_ENABLE 1,
       1)] { readyS with stn := [(1, { Stn.new with bar := { Stn.new.bar with base := some [1, 2, 3], known := [(3, 1)] } })] }, 1,
       by decide +kernel, ⟨1, [70000], 5, [], 7⟩, _, 1, by decide +kernel, rfl, by decide +kernel⟩,
   ⟨withF [(STNn_PL_CFG_KIND 1, 1), (STNn_PL_WIDTH_N 1, 8), (STNn_HD_STATUS_STATUS_TGT 1, 1), (STNn_HD_STATUS_HREC_BUSY 1, 1),
       (STNn_BR_CTRL_BAR_EN 1, 1), (STNn_HD_TH_CFG_TH_AIN 1, 5), (STNn_PL_CTRL_ENABLE 1,
       1)] { readyS with stn := [(1, { Stn.new with bar := { Stn.new.bar with base := some [1, 2, 3], known := [(3, 1)] } })] }, 0,
       by decide +kernel⟩,
   ⟨withF [(STNn_PL_CFG_KIND 1, 1), (STNn_PL_WIDTH_N 1, 8), (STNn_HD_STATUS_STATUS_TGT 1, 1), (STNn_HD_STATUS_HREC_BUSY 1, 1),
       (STNn_BR_CTRL_BAR_EN 1, 1), (STNn_HD_TH_CFG_TH_AIN 1, 5), (STNn_PL_CTRL_ENABLE 1,
       1)] { readyS with stn := [(1, { Stn.new with bar := { Stn.new.bar with base := some [1, 2, 3], known := [(3, 1)] } })] }, 1,
       by decide +kernel, 1, by decide +kernel⟩,
   ⟨withF [(STNn_PL_CFG_KIND 1, 1), (STNn_PL_WIDTH_N 1, 8), (STNn_HD_STATUS_STATUS_TGT 1, 1), (STNn_HD_STATUS_HREC_BUSY 1, 1),
       (STNn_BR_CTRL_BAR_EN 1, 1), (STNn_HD_TH_CFG_TH_AIN 1, 5), (STNn_PL_CTRL_ENABLE 1,
       1)] { readyS with stn := [(1, { Stn.new with bar := { Stn.new.bar with base := some [1, 2, 3], known := [(3, 1)] } })] }, 1,
       by decide +kernel, 3, by decide +kernel⟩,
   ⟨withF [(STNn_PL_CFG_KIND 1, 1), (STNn_PL_WIDTH_N 1, 8), (STNn_HD_STATUS_STATUS_TGT 1, 1), (STNn_HD_STATUS_HREC_BUSY 1, 1),
       (STNn_BR_CTRL_BAR_EN 1, 1), (STNn_HD_TH_CFG_TH_AIN 1, 5), (STNn_PL_CTRL_ENABLE 1,
       1)] { readyS with stn := [(1, { Stn.new with bar := { Stn.new.bar with base := some [1, 2, 3], known := [(3, 1)] } })] }, 1,
       by decide +kernel, fun t h => absurd (Option.isSome_of_eq_some h) (by decide +kernel), by decide +kernel⟩,
   ⟨withF [(STNn_PL_CFG_KIND 1, 1), (STNn_PL_WIDTH_N 1, 8), (STNn_HD_STATUS_STATUS_TGT 1, 1), (STNn_HD_STATUS_HREC_BUSY 1, 1),
       (STNn_BR_CTRL_BAR_EN 1, 1), (STNn_HD_TH_CFG_TH_AIN 1, 5), (STNn_PL_CTRL_ENABLE 1,
       1)] { readyS with stn := [(1, { Stn.new with bar := { Stn.new.bar with base := some [1, 2, 3], known := [(3, 1)] } })] }, 1,
       by decide +kernel⟩,
   ⟨withF [(STNn_HD_STATUS_WARN 0, 1)] readyS, 0, by decide +kernel⟩⟩

theorem meets_DriveCommandsAndTimes :
    (∃ (s : State) (n : Nat), (n < 8 ∧ s.safeCtl = false ∧ (s.bit (DRVn_CTRL_ENABLE n) = true ∨ s.fget (DRVn_STATUS_STATE n) = 0)) ∧
        ∃ (st : Nat), st = s.fget (DRVn_STATUS_STATE n) ∧ st = 0 ∧ s.bit (DRVn_CTRL_ENABLE n) = true ∧
        s.bit (DRVn_STATUS_START_FAIL n) = false ∧ s.bit (DRVn_STATUS_ENC_LOST n) = false)
    ∧ (∃ (s : State) (n : Nat), (n < 8 ∧ s.safeCtl = false ∧ (s.bit (DRVn_CTRL_ENABLE n) = true ∨ s.fget (DRVn_STATUS_STATE n) = 0)) ∧
        ∃ (st : Nat), st = s.fget (DRVn_STATUS_STATE n) ∧ (st ≠ 0 ∨ s.bit (DRVn_CTRL_ENABLE n) = false ∨
        s.bit (DRVn_STATUS_START_FAIL n) = true ∨ s.bit (DRVn_STATUS_ENC_LOST n) = true))
    ∧ (∃ (s : State) (n : Nat), (n < 8 ∧ s.safeCtl = false ∧ (s.bit (DRVn_CTRL_ENABLE n) = true ∨ s.fget (DRVn_STATUS_STATE n) = 0)) ∧
        ∃ (st : Nat), st = s.fget (DRVn_STATUS_STATE n) ∧ (st = 6 ∨ st = 7))
    ∧ (∃ (s : State) (n : Nat), (n < 8 ∧ s.safeCtl = false ∧ (s.bit (DRVn_CTRL_ENABLE n) = true ∨ s.fget (DRVn_STATUS_STATE n) = 0)) ∧
        ∃ (st : Nat), st = s.fget (DRVn_STATUS_STATE n) ∧ ((1 ≤ st ∧ st ≤ 5) ∨ st = 8))
    ∧ (∃ (s : State) (n : Nat), (n < 8 ∧ s.safeCtl = false ∧ (s.bit (DRVn_CTRL_ENABLE n) = true ∨ s.fget (DRVn_STATUS_STATE n) = 0)) ∧
        ∃ (st : Nat), st = s.fget (DRVn_STATUS_STATE n) ∧ (st = 0 ∨ 9 ≤ st))
    ∧ (∃ (s : State) (n : Nat), (n < 8 ∧ s.safeCtl = false ∧ (s.bit (DRVn_CTRL_ENABLE n) = true ∨ s.fget (DRVn_STATUS_STATE n) = 0)) ∧
        ∃ (st : Nat), st = s.fget (DRVn_STATUS_STATE n) ∧ ∃ (emf : Int) (v : Int), v = satS 32 emf ∧
        (s.drvOf n).since + 250000 * max 1 (s.fget (DRVn_OBS_CATCH_T n)) ≤ s.tick ∧ st = 1 ∧ s.bit (DRVn_CTRL_CATCH_EN n) = true ∧
        s.fget (DRVn_RATED_SPEED n) ≤ 20 * v.natAbs ∧ 0 < s.drvDir n * v)
    ∧ (∃ (s : State) (n : Nat), (n < 8 ∧ s.safeCtl = false ∧ (s.bit (DRVn_CTRL_ENABLE n) = true ∨ s.fget (DRVn_STATUS_STATE n) = 0)) ∧
        ∃ (st : Nat), st = s.fget (DRVn_STATUS_STATE n) ∧ ∃ (emf : Int) (v : Int), v = satS 32 emf ∧
        (s.drvOf n).since + 250000 * max 1 (s.fget (DRVn_OBS_CATCH_T n)) ≤ s.tick ∧ st = 1 ∧ s.bit (DRVn_CTRL_CATCH_EN n) = true ∧
        s.fget (DRVn_RATED_SPEED n) ≤ 20 * v.natAbs ∧ s.drvDir n * v < 0)
    ∧ (∃ (s : State) (n : Nat), (n < 8 ∧ s.safeCtl = false ∧ (s.bit (DRVn_CTRL_ENABLE n) = true ∨ s.fget (DRVn_STATUS_STATE n) = 0)) ∧
        ∃ (st : Nat), st = s.fget (DRVn_STATUS_STATE n) ∧ ∃ (emf : Int) (v : Int), v = satS 32 emf ∧
        (s.drvOf n).since + 250000 * max 1 (s.fget (DRVn_OBS_CATCH_T n)) ≤ s.tick ∧ st = 1 ∧ (s.bit (DRVn_CTRL_CATCH_EN n) = false ∨
        20 * v.natAbs < s.fget (DRVn_RATED_SPEED n) ∨ s.drvDir n * v = 0))
    ∧ (∃ (s : State) (n : Nat), (n < 8 ∧ s.safeCtl = false ∧ (s.bit (DRVn_CTRL_ENABLE n) = true ∨ s.fget (DRVn_STATUS_STATE n) = 0)) ∧
        ∃ (st : Nat), st = s.fget (DRVn_STATUS_STATE n) ∧ ∃ (emf : Int) (v : Int), v = satS 32 emf ∧
        (s.drvOf n).since + 250000 * max 1 (s.fget (DRVn_OBS_CATCH_T n)) ≤ s.tick ∧ st = 8 ∧ s.fget (DRVn_COUNT_RECATCH n) < 3 ∧
        s.fget (DRVn_RATED_SPEED n) ≤ 20 * v.natAbs ∧ 0 < s.drvDir n * v)
    ∧ (∃ (s : State) (n : Nat), (n < 8 ∧ s.safeCtl = false ∧ (s.bit (DRVn_CTRL_ENABLE n) = true ∨ s.fget (DRVn_STATUS_STATE n) = 0)) ∧
        ∃ (st : Nat), st = s.fget (DRVn_STATUS_STATE n) ∧ ∃ (emf : Int) (v : Int), v = satS 32 emf ∧
        (s.drvOf n).since + 250000 * max 1 (s.fget (DRVn_OBS_CATCH_T n)) ≤ s.tick ∧ st = 8 ∧ (3 ≤ s.fget (DRVn_COUNT_RECATCH n) ∨
        20 * v.natAbs < s.fget (DRVn_RATED_SPEED n) ∨ s.drvDir n * v ≤ 0))
    ∧ (∃ (s : State) (n : Nat), (n < 8 ∧ s.safeCtl = false ∧ (s.bit (DRVn_CTRL_ENABLE n) = true ∨ s.fget (DRVn_STATUS_STATE n) = 0)) ∧
        ∃ (st : Nat), st = s.fget (DRVn_STATUS_STATE n) ∧ s.tick < (s.drvOf n).since + 250000 * max 1 (s.fget (DRVn_OBS_CATCH_T n)))
    ∧ (∃ (s : State) (n : Nat), (n < 8 ∧ s.safeCtl = false ∧ (s.bit (DRVn_CTRL_ENABLE n) = true ∨ s.fget (DRVn_STATUS_STATE n) = 0)) ∧
        ∃ (st : Nat), st = s.fget (DRVn_STATUS_STATE n) ∧ st = 3 ∧ (s.drvOf n).since + 250000 * s.fget (DRVn_ALIGN_T n) ≤ s.tick)
    ∧ (∃ (s : State) (n : Nat), (n < 8 ∧ s.safeCtl = false ∧ (s.bit (DRVn_CTRL_ENABLE n) = true ∨ s.fget (DRVn_STATUS_STATE n) = 0)) ∧
        ∃ (st : Nat), st = s.fget (DRVn_STATUS_STATE n) ∧ st = 4 ∧ (s.drvOf n).since + 250000 * s.fget (DRVn_RAMP_T n) ≤ s.tick)
    ∧ (∃ (s : State) (n : Nat), (n < 8 ∧ s.safeCtl = false ∧ (s.bit (DRVn_CTRL_ENABLE n) = true ∨ s.fget (DRVn_STATUS_STATE n) = 0)) ∧
        ∃ (st : Nat), st = s.fget (DRVn_STATUS_STATE n) ∧ st = 5 ∧ (s.drvOf n).since + 250000 * s.fget (DRVn_OBS_OBS_T n) ≤ s.tick ∧
        (s.drvOf n).converged = false ∧ s.fget (DRVn_STATUS_ATTEMPT n) < 3)
    ∧ (∃ (s : State) (n : Nat), (n < 8 ∧ s.safeCtl = false ∧ (s.bit (DRVn_CTRL_ENABLE n) = true ∨ s.fget (DRVn_STATUS_STATE n) = 0)) ∧
        ∃ (st : Nat), st = s.fget (DRVn_STATUS_STATE n) ∧ st = 5 ∧ (s.drvOf n).since + 250000 * s.fget (DRVn_OBS_OBS_T n) ≤ s.tick ∧
        (s.drvOf n).converged = false ∧ 3 ≤ s.fget (DRVn_STATUS_ATTEMPT n))
    ∧ (∃ (s : State) (n : Nat), (n < 8 ∧ s.safeCtl = false ∧ (s.bit (DRVn_CTRL_ENABLE n) = true ∨ s.fget (DRVn_STATUS_STATE n) = 0)) ∧
        ∃ (st : Nat), st = s.fget (DRVn_STATUS_STATE n) ∧ st = 6 ∧ s.posSrc n = 0 ∧ (s.drvOf n).indexed = false ∧
        s.fget (DRVn_OBS_ZWAIT n) * s.drvCpr n ≤ (sext 32 (s.fget (DRVn_POS_POS n)) - (s.drvOf n).posEntry).natAbs ∧
        s.fget (DRVn_STATUS_ATTEMPT n) < 3)
    ∧ (∃ (s : State) (n : Nat), (n < 8 ∧ s.safeCtl = false ∧ (s.bit (DRVn_CTRL_ENABLE n) = true ∨ s.fget (DRVn_STATUS_STATE n) = 0)) ∧
        ∃ (st : Nat), st = s.fget (DRVn_STATUS_STATE n) ∧ st = 6 ∧ s.posSrc n = 0 ∧ (s.drvOf n).indexed = false ∧
        s.fget (DRVn_OBS_ZWAIT n) * s.drvCpr n ≤ (sext 32 (s.fget (DRVn_POS_POS n)) - (s.drvOf n).posEntry).natAbs ∧
        3 ≤ s.fget (DRVn_STATUS_ATTEMPT n))
    ∧ (∃ (s : State) (n : Nat), (n < 8 ∧ s.safeCtl = false ∧ (s.bit (DRVn_CTRL_ENABLE n) = true ∨ s.fget (DRVn_STATUS_STATE n) = 0)) ∧
        ∃ (st : Nat), st = s.fget (DRVn_STATUS_STATE n) ∧ ∃ t, st = 9 ∧ (s.drvOf n).onObs = false ∧ (s.drvOf n).zeroSince = some t ∧
        t + 25000000 ≤ s.tick)
    ∧ (∃ (s : State) (n : Nat), (n < 8 ∧ s.safeCtl = false ∧ (s.bit (DRVn_CTRL_ENABLE n) = true ∨ s.fget (DRVn_STATUS_STATE n) = 0)) ∧
        ∃ (st : Nat), st = s.fget (DRVn_STATUS_STATE n) ∧ st = 9 ∧ (s.drvOf n).onObs = true ∧
        20 * (s.drvSpeed n).natAbs < s.fget (DRVn_RATED_SPEED n))
    ∧ (∃ (s : State) (n : Nat), n < 8 ∧ s.bit (DRVn_CTRL_ENABLE n) = true)
    ∧ (∃ (s : State) (n : Nat), (n < 8 ∧ s.safeCtl = true) ∧ ∃ (emf : Int), ∃ c, c ∈ [Instr.drvStart n, .drvStop n, .catchTimeout n emf,
        .alignTimeout n, .rampTimeout n, .observeTimeout n, .zwaitExpiry n, .stoppedEv n])
    ∧ (∃ (s : State) (n : Nat), n < 8 ∧ (s.fget (DRVn_STATUS_STATE n) = 6 ∨ s.fget (DRVn_STATUS_STATE n) = 7) ∧
        (s.drvOf n).calmSince + 250000000 ≤ s.tick)
    ∧ (∃ (s : State) (n : Nat), n < 8 ∧ s.bit (DRVn_STATUS_ENC_LOST n) = true ∧ s.fget (DRVn_STATUS_STATE n) = 0)
    ∧ (∃ (s : State) (n : Nat), (n < 8 ∧ s.bit (DRVn_STATUS_ENC_LOST n) = true) ∧ ∃ (b : Bool), (b = true ∨
        s.fget (DRVn_STATUS_STATE n) ≠ 0))
    ∧ (∃ (s : State) (n : Nat), n < 8 ∧ ∃ t, s.drvReadyNow n = true ∧ (s.drvOf n).tolSince = some t ∧
        t + 250000 * s.fget (DRVn_READY_READY_T n) ≤ s.tick ∧ s.bit (DRVn_STATUS_READY n) = false)
    ∧ (∃ (s : State) (n : Nat), n < 8 ∧ s.drvReadyNow n = false) :=
  ⟨⟨withF [(DRVn_CTRL_ENABLE 1, 1), (DRVn_RATED_SPEED 1, 50000), (DRVn_STATUS_STATE 1, 0)] runS, 1, by decide +kernel, 0,
      by decide +kernel⟩,
   ⟨withF [(DRVn_CTRL_ENABLE 1, 1), (DRVn_RATED_SPEED 1, 50000), (DRVn_STATUS_STATE 1, 0)] runS, 0, by decide +kernel, 0,
       by decide +kernel⟩,
   ⟨withF [(DRVn_CTRL_ENABLE 1, 1), (DRVn_RATED_SPEED 1, 50000), (DRVn_STATUS_STATE 1, 6)] runS, 1, by decide +kernel, 6,
       by decide +kernel⟩,
   ⟨withF [(DRVn_CTRL_ENABLE 1, 1), (DRVn_RATED_SPEED 1, 50000), (DRVn_STATUS_STATE 1, 3)] runS, 1, by decide +kernel, 3,
       by decide +kernel⟩,
   ⟨withF [(DRVn_CTRL_ENABLE 1, 1), (DRVn_RATED_SPEED 1, 50000), (DRVn_STATUS_STATE 1, 0)] runS, 1, by decide +kernel, 0,
       by decide +kernel⟩,
   ⟨withF [(DRVn_CTRL_ENABLE 1, 1), (DRVn_RATED_SPEED 1, 50000), (DRVn_STATUS_STATE 1, 1), (DRVn_CTRL_CATCH_EN 1, 1)] runS, 1,
       by decide +kernel, 1, by decide +kernel, 100000, 100000, by decide +kernel⟩,
   ⟨withF [(DRVn_CTRL_ENABLE 1, 1), (DRVn_RATED_SPEED 1, 50000), (DRVn_STATUS_STATE 1, 1), (DRVn_CTRL_CATCH_EN 1, 1)] runS, 1,
       by decide +kernel, 1, by decide +kernel, (-100000), (-100000), by decide +kernel⟩,
   ⟨withF [(DRVn_CTRL_ENABLE 1, 1), (DRVn_RATED_SPEED 1, 50000), (DRVn_STATUS_STATE 1, 1), (DRVn_CTRL_CATCH_EN 1, 1)] runS, 1,
       by decide +kernel, 1, by decide +kernel, 0, 0, by decide +kernel⟩,
   ⟨withF [(DRVn_CTRL_ENABLE 1, 1), (DRVn_RATED_SPEED 1, 50000), (DRVn_STATUS_STATE 1, 8)] runS, 1, by decide +kernel, 8,
       by decide +kernel, 100000, 100000, by decide +kernel⟩,
   ⟨withF [(DRVn_CTRL_ENABLE 1, 1), (DRVn_RATED_SPEED 1, 50000), (DRVn_STATUS_STATE 1, 8)] runS, 1, by decide +kernel, 8,
       by decide +kernel, 0, 0, by decide +kernel⟩,
   ⟨withF [(DRVn_CTRL_ENABLE 1, 1), (DRVn_RATED_SPEED 1, 50000), (DRVn_STATUS_STATE 1,
       1)] { runS with drv := [(1, { DrvSt.new with since := 2500000000 })] }, 1, by decide +kernel, 1, by decide +kernel⟩,
   ⟨withF [(DRVn_CTRL_ENABLE 1, 1), (DRVn_RATED_SPEED 1, 50000), (DRVn_STATUS_STATE 1, 3)] runS, 1, by decide +kernel, 3,
       by decide +kernel⟩,
   ⟨withF [(DRVn_CTRL_ENABLE 1, 1), (DRVn_RATED_SPEED 1, 50000), (DRVn_STATUS_STATE 1, 4)] runS, 1, by decide +kernel, 4,
       by decide +kernel⟩,
   ⟨withF [(DRVn_CTRL_ENABLE 1, 1), (DRVn_RATED_SPEED 1, 50000), (DRVn_STATUS_STATE 1, 5)] runS, 1, by decide +kernel, 5,
       by decide +kernel⟩,
   ⟨withF [(DRVn_CTRL_ENABLE 1, 1), (DRVn_RATED_SPEED 1, 50000), (DRVn_STATUS_STATE 1, 5), (DRVn_STATUS_ATTEMPT 1, 3)] runS, 1,
       by decide +kernel, 5, by decide +kernel⟩,
   ⟨withF [(DRVn_CTRL_ENABLE 1, 1), (DRVn_RATED_SPEED 1, 50000), (DRVn_STATUS_STATE 1, 6), (DRVn_OBS_ZWAIT 1, 0)] runS, 1,
       by decide +kernel, 6, by decide +kernel⟩,
   ⟨withF [(DRVn_CTRL_ENABLE 1, 1), (DRVn_RATED_SPEED 1, 50000), (DRVn_STATUS_STATE 1, 6), (DRVn_STATUS_ATTEMPT 1, 3), (DRVn_OBS_ZWAIT 1,
       0)] runS, 1, by decide +kernel, 6, by decide +kernel⟩,
   ⟨withF [(DRVn_CTRL_ENABLE 1, 1), (DRVn_RATED_SPEED 1, 50000), (DRVn_STATUS_STATE 1,
       9)] { runS with drv := [(1, { DrvSt.new with zeroSince := some 5 })] }, 1, by decide +kernel, 9, by decide +kernel, 5,
       by decide +kernel⟩,
   ⟨withF [(DRVn_CTRL_ENABLE 1, 1), (DRVn_RATED_SPEED 1, 50000), (DRVn_STATUS_STATE 1,
       9)] { runS with drv := [(1, { DrvSt.new with onObs := true })] }, 1, by decide +kernel, 9, by decide +kernel⟩,
   ⟨withF [(DRVn_CTRL_ENABLE 1, 1), (DRVn_RATED_SPEED 1, 50000), (DRVn_STATUS_STATE 1, 0)] runS, 1, by decide +kernel⟩,
   ⟨withF [(DRVn_CTRL_ENABLE 1, 1), (DRVn_RATED_SPEED 1, 50000), (DRVn_STATUS_STATE 1, 0), (FLT_STATUS_SAFE, 1)] runS, 1,
       by decide +kernel, 0, _, List.mem_cons_self⟩,
   ⟨withF [(DRVn_CTRL_ENABLE 1, 1), (DRVn_RATED_SPEED 1, 50000), (DRVn_STATUS_STATE 1, 6)] runS, 1, by decide +kernel⟩,
   ⟨withF [(DRVn_CTRL_ENABLE 1, 1), (DRVn_RATED_SPEED 1, 50000), (DRVn_STATUS_ENC_LOST 1, 1)] runS, 1, by decide +kernel⟩,
   ⟨withF [(DRVn_CTRL_ENABLE 1, 1), (DRVn_RATED_SPEED 1, 50000), (DRVn_STATUS_ENC_LOST 1, 1)] runS, 1, by decide +kernel, true,
       by decide +kernel⟩,
   ⟨withF [(DRVn_CTRL_ENABLE 1, 1), (DRVn_RATED_SPEED 1, 50000), (DRVn_STATUS_STATE 1,
       7)] { runS with drv := [(1, { DrvSt.new with calmSince := 5, tolSince := some 5 })] }, 1, by decide +kernel, 5, by decide +kernel⟩,
   ⟨withF [(DRVn_CTRL_ENABLE 1, 1), (DRVn_RATED_SPEED 1, 50000), (DRVn_STATUS_STATE 1, 0)] runS, 1, by decide +kernel⟩⟩

theorem meets_DriveSamples :
    (∃ (s : State) (n : Nat), n < 8 ∧ s.safeCtl = false ∧ s.bit (DRVn_CTRL_ENABLE n) = true)
    ∧ (∃ (s : State) (n : Nat), n < 8 ∧ s.safeCtl = true)
    ∧ (∃ (s : State) (n : Nat), n < 8 ∧ s.bit (DRVn_CTRL_ENABLE n) = true ∧ s.posSrc n = 0)
    ∧ (∃ (s : State) (n : Nat), n < 8 ∧ s.bit (DRVn_CTRL_ENABLE n) = true ∧ s.posSrc n = 0 ∧ s.safeCtl = false ∧
        s.fget (DRVn_STATUS_STATE n) = 6 ∧ (s.drvOf n).indexed = false)
    ∧ (∃ (s : State) (n : Nat), n < 8 ∧ s.bit (DRVn_CTRL_ENABLE n) = true ∧ s.posSrc n = 0 ∧ s.safeCtl = false ∧
        s.fget (DRVn_STATUS_STATE n) ≠ 6 ∧ (s.drvOf n).indexed = false)
    ∧ (∃ (s : State) (n : Nat), n < 8 ∧ (s.bit (DRVn_CTRL_ENABLE n) = false ∨ s.posSrc n ≠ 0))
    ∧ (∃ (s : State) (n : Nat), n < 8 ∧ ∃ (c : Nat), ((c = 4 ∧ s.posSrc n = 1) ∨ ((c = 1 ∨ c = 2) ∧ s.posSrc n = 0)) ∧
        s.bit (DRVn_CTRL_ENABLE n) = true)
    ∧ (∃ (s : State) (n : Nat), n < 8 ∧ ∃ (c : Nat), (c = 1 ∨ c = 2 ∨ c = 4) ∧ (s.bit (DRVn_CTRL_ENABLE n) = false ∨
        s.posSrc n ≠ (if c = 4 then 1 else 0)))
    ∧ (∃ (s : State) (n : Nat), n < 8 ∧ ∃ (sin : Nat) (cos : Nat) (ang : Nat),
        ang = Config.resolverAngle ((sin : Int) - 32768) ((cos : Int) - 32768) % 65536 ∧ s.bit (DRVn_CTRL_ENABLE n) = true ∧
        s.posSrc n = 1 ∧ s.safeCtl = false)
    ∧ (∃ (s : State) (n : Nat), n < 8 ∧ s.bit (DRVn_CTRL_ENABLE n) = false)
    ∧ (∃ (s : State) (n : Nat), n < 8 ∧ ∃ (vll : Nat) (k : Nat), s.bit (DRVn_CTRL_ENABLE n) = true ∧ (s.drvOf n).steadySince = none ∧
        (s.fget (DRVn_STATUS_STATE n) = 1 ∨ s.fget (DRVn_STATUS_STATE n) = 8) ∧
        s.fget (DRVn_RATED_SPEED n) ≤ 20 * (s.drvOf n).obsSpeed.natAbs ∧ (s.drvOf n).obsSpeed ≠ 0 ∧
        (vll : Int) * 65536 = k * ((s.drvOf n).obsSpeed.natAbs * 60 : Nat)) :=
  ⟨⟨withF [(DRVn_CTRL_ENABLE 1, 1), (DRVn_RATED_SPEED 1, 50000), (DRVn_STATUS_STATE 1, 6)] runS, 1, by decide +kernel⟩,
   ⟨withF [(DRVn_CTRL_ENABLE 1, 1), (DRVn_RATED_SPEED 1, 50000), (FLT_STATUS_SAFE, 1)] runS, 1, by decide +kernel⟩,
   ⟨withF [(DRVn_CTRL_ENABLE 1, 1), (DRVn_RATED_SPEED 1, 50000), (DRVn_STATUS_STATE 1, 6)] runS, 1, by decide +kernel⟩,
   ⟨withF [(DRVn_CTRL_ENABLE 1, 1), (DRVn_RATED_SPEED 1, 50000), (DRVn_STATUS_STATE 1, 6)] runS, 1, by decide +kernel⟩,
   ⟨withF [(DRVn_CTRL_ENABLE 1, 1), (DRVn_RATED_SPEED 1, 50000), (DRVn_STATUS_STATE 1, 3)] runS, 1, by decide +kernel⟩,
   ⟨withF [(DRVn_CTRL_ENABLE 1, 1), (DRVn_RATED_SPEED 1, 50000), (DRVn_STATUS_STATE 1, 6)] runS, 5, by decide +kernel⟩,
   ⟨withF [(DRVn_CTRL_ENABLE 1, 1), (DRVn_RATED_SPEED 1, 50000), (DRVn_STATUS_STATE 1, 6)] runS, 1, by decide +kernel, 1,
       by decide +kernel⟩,
   ⟨withF [(DRVn_CTRL_ENABLE 1, 1), (DRVn_RATED_SPEED 1, 50000), (DRVn_STATUS_STATE 1, 6)] runS, 5, by decide +kernel, 1,
       by decide +kernel⟩,
   ⟨withF [(DRVn_CTRL_ENABLE 1, 1), (DRVn_RATED_SPEED 1, 50000), (DRVn_CFG_POS_SRC 1, 1)] runS, 1, by decide +kernel, 5, 7, _, rfl,
       by decide +kernel⟩,
   ⟨withF [(DRVn_CTRL_ENABLE 1, 1), (DRVn_RATED_SPEED 1, 50000), (DRVn_STATUS_STATE 1, 6)] runS, 5, by decide +kernel⟩,
   ⟨withF [(DRVn_CTRL_ENABLE 1, 1), (DRVn_RATED_SPEED 1, 50000), (DRVn_STATUS_STATE 1,
       1)] { runS with drv := [(1, { DrvSt.new with obsSpeed := 65536 })] }, 1, by decide +kernel, 60, 1, by decide +kernel⟩⟩

theorem meets_AxisCommands :
    (∃ (s : State) (n : Nat) (st : Nat), (n < 20 ∧ st = s.fget (AXSn_STATUS_STATE n) ∧ s.safeCtl = false ∧ (s.axsOf n).repower = none ∧
        s.classE n = false ∧ s.bit (AXSn_STATUS_POWERED_DOWN n) = false ∧ (st = 1 ∨ st = 2) ∧ s.axsNoLim n = false) ∧ ∃ (tg : Int),
        tg = sext 32 (s.fget (AXSn_TARGET_VALUE n)) ∧ s.limitAt n (tg - s.axsPos n).sign = false)
    ∧ (∃ (s : State) (n : Nat) (st : Nat), (n < 20 ∧ st = s.fget (AXSn_STATUS_STATE n) ∧ s.safeCtl = false ∧ (s.axsOf n).repower = none ∧
        s.classE n = false ∧ s.bit (AXSn_STATUS_POWERED_DOWN n) = false ∧ (st = 1 ∨ st = 2) ∧ s.axsNoLim n = false) ∧ ∃ (tg : Int),
        tg = sext 32 (s.fget (AXSn_TARGET_VALUE n)) ∧ s.limitAt n (tg - s.axsPos n).sign = true)
    ∧ (∃ (s : State) (n : Nat) (st : Nat), (n < 20 ∧ st = s.fget (AXSn_STATUS_STATE n) ∧ s.safeCtl = false ∧ (s.axsOf n).repower = none ∧
        s.classE n = false ∧ s.bit (AXSn_STATUS_POWERED_DOWN n) = false ∧ (st = 1 ∨ st = 2) ∧ s.axsNoLim n = false) ∧ ∃ (v : Int),
        v = sext 32 (s.fget (AXSn_VTARGET_VALUE n)) ∧ s.limitAt n v.sign = false)
    ∧ (∃ (s : State) (n : Nat) (st : Nat), (n < 20 ∧ st = s.fget (AXSn_STATUS_STATE n) ∧ s.safeCtl = false ∧ (s.axsOf n).repower = none ∧
        s.classE n = false ∧ s.bit (AXSn_STATUS_POWERED_DOWN n) = false ∧ (st = 1 ∨ st = 2) ∧ s.axsNoLim n = false) ∧ ∃ (v : Int),
        v = sext 32 (s.fget (AXSn_VTARGET_VALUE n)) ∧ s.limitAt n v.sign = true)
    ∧ (∃ (s : State) (n : Nat) (st : Nat), (n < 20 ∧ st = s.fget (AXSn_STATUS_STATE n) ∧ s.safeCtl = false ∧ (s.axsOf n).repower = none ∧
        s.classE n = false ∧ s.bit (AXSn_STATUS_POWERED_DOWN n) = false ∧ (st = 1 ∨ st = 2)) ∧ ∃ (rem : Int),
        rem = sext 32 (s.fget (AXSn_REMAIN_VALUE n)) ∧ st = 1 ∧ s.bit (AXSn_STATUS_REMAIN_VALID n) = true ∧
        s.bit (AXSn_STATUS_POS_UNC n) = false ∧ s.limitAt n rem.sign = false)
    ∧ (∃ (s : State) (n : Nat) (st : Nat), (n < 20 ∧ st = s.fget (AXSn_STATUS_STATE n) ∧ s.safeCtl = false ∧ (s.axsOf n).repower = none ∧
        s.classE n = false ∧ s.bit (AXSn_STATUS_POWERED_DOWN n) = false ∧ (st = 1 ∨ st = 2)) ∧ ∃ (rem : Int),
        rem = sext 32 (s.fget (AXSn_REMAIN_VALUE n)) ∧ (st = 2 ∨ s.bit (AXSn_STATUS_REMAIN_VALID n) = false ∨
        s.bit (AXSn_STATUS_POS_UNC n) = true ∨ s.limitAt n rem.sign = true))
    ∧ (∃ (s : State) (n : Nat) (st : Nat), (n < 20 ∧ st = s.fget (AXSn_STATUS_STATE n) ∧ s.safeCtl = false ∧ (s.axsOf n).repower = none ∧
        s.classE n = false ∧ s.bit (AXSn_STATUS_POWERED_DOWN n) = false ∧ (st = 1 ∨ st = 2)) ∧ ∃ r, r = s.homeRef n ∧ st = 1 ∧
        s.axsNoLim n = false ∧ s.standstill n = true ∧ r.2.1 ≠ 0x7F ∧ s.fget (AXSn_HOME_V_V_SLOW n) ≠ 0 ∧
        s.fget (AXSn_HOME_V_V_FAST n) ≠ 0 ∧ (r.2.2 = 0 ∨ r.2.2 = s.homeDir n))
    ∧ (∃ (s : State) (n : Nat) (st : Nat), n < 20 ∧ st = s.fget (AXSn_STATUS_STATE n) ∧ s.safeCtl = false ∧ (s.axsOf n).repower = none ∧
        s.classE n = false ∧ s.bit (AXSn_STATUS_POWERED_DOWN n) = false ∧ (st = 1 ∨ st = 2) ∧ (st = 2 ∨ s.standstill n = false ∨
        (s.homeRef n).2.1 = 0x7F))
    ∧ (∃ (s : State) (n : Nat) (st : Nat), n < 20 ∧ st = s.fget (AXSn_STATUS_STATE n) ∧ s.safeCtl = false ∧ (s.axsOf n).repower = none ∧
        (st = 1 ∨ st = 2 ∨ st = 5) ∧ s.standstill n = false)
    ∧ (∃ (s : State) (n : Nat) (st : Nat), n < 20 ∧ st = s.fget (AXSn_STATUS_STATE n) ∧ s.safeCtl = false ∧ (s.axsOf n).repower = none ∧
        (st = 1 ∨ st = 5) ∧ s.standstill n = true)
    ∧ (∃ (s : State) (n : Nat) (st : Nat), (n < 20 ∧ st = s.fget (AXSn_STATUS_STATE n) ∧ (st = 0 ∨ st = 6 ∨ s.safeCtl = true)) ∧ ∃ c,
        c ∈ [Instr.moveEv n, .velEv n, .resumeEv n, .homeEv n, .setposEv n])
    ∧ (∃ (s : State) (n : Nat) (st : Nat), (n < 20 ∧ st = s.fget (AXSn_STATUS_STATE n) ∧ st ≠ 0 ∧ st ≠ 6 ∧ st ≠ 3 ∧ s.safeCtl = false ∧
        (s.axsOf n).repower = none ∧ s.classE n = true) ∧ ∃ c, c ∈ [Instr.moveEv n, .velEv n, .resumeEv n, .homeEv n])
    ∧ (∃ (s : State) (n : Nat) (st : Nat), (n < 20 ∧ st = s.fget (AXSn_STATUS_STATE n) ∧ st = 3 ∧ s.safeCtl = false) ∧ ∃ c,
        c ∈ [(Instr.moveEv n, 1), (.velEv n, 2), (.resumeEv n, 5), (.homeEv n, 6), (.setposEv n, 7)])
    ∧ (∃ (s : State) (n : Nat) (st : Nat), n < 20 ∧ st = s.fget (AXSn_STATUS_STATE n) ∧ s.classE n = false ∧ (s.axsOf n).prof.v ≠ 0 ∧
        st = 2 ∧ (s.axsOf n).hst = .none)
    ∧ (∃ (s : State) (n : Nat) (st : Nat), n < 20 ∧ st = s.fget (AXSn_STATUS_STATE n) ∧ s.classE n = false ∧ (s.axsOf n).prof.v ≠ 0 ∧
        st = 4 ∧ (s.axsOf n).hst ≠ .none)
    ∧ (∃ (s : State) (n : Nat) (st : Nat), n < 20 ∧ st = s.fget (AXSn_STATUS_STATE n) ∧ st ≠ 2 ∧ st ≠ 4 ∧ st ≠ 5)
    ∧ (∃ (s : State) (n : Nat) (st : Nat), n < 20 ∧ st = s.fget (AXSn_STATUS_STATE n) ∧ st = 2 ∧ (s.axsOf n).hst = .none ∧
        (s.axsOf n).queued = none)
    ∧ (∃ (s : State) (n : Nat) (st : Nat), n < 20 ∧ st = s.fget (AXSn_STATUS_STATE n) ∧ (st = 0 ∨ st = 6))
    ∧ (∃ (s : State) (n : Nat) (st : Nat), n < 20 ∧ st = s.fget (AXSn_STATUS_STATE n) ∧ s.bit (AXSn_CTRL_ENABLE n) = true) :=
  ⟨⟨withF [(AXSn_CTRL_ENABLE 1, 1), (AXSn_VMAX_VALUE 1, 100), (AXSn_AMAX_VALUE 1, 100), (AXSn_JMAX_VALUE 1, 100), (AXSn_HOME_V_V_SLOW 1,
      5), (AXSn_HOME_V_V_FAST 1, 50), (AXSn_PINS_HOME_PIN 1, 4), (AXSn_TARGET_VALUE 1, 3), (AXSn_VTARGET_VALUE 1, 3), (AXSn_STATUS_STATE 1,
      1), (AXSn_STATUS_REMAIN_VALID 1, 1), (AXSn_REMAIN_VALUE 1, 9), (AXSn_STATUS_POS_UNC 1, 0)] runS, 1, 1, by decide +kernel, 3,
      by decide +kernel⟩,
   ⟨withF [(AXSn_CTRL_ENABLE 1, 1), (AXSn_VMAX_VALUE 1, 100), (AXSn_AMAX_VALUE 1, 100), (AXSn_JMAX_VALUE 1, 100), (AXSn_HOME_V_V_SLOW 1,
       5), (AXSn_HOME_V_V_FAST 1, 50), (AXSn_PINS_HOME_PIN 1, 4), (AXSn_TARGET_VALUE 1, 3), (AXSn_VTARGET_VALUE 1, 3),
       (AXSn_STATUS_STATE 1, 1)] { runS with axs := [(1, { AxsSt.new with limPos := ⟨true, true, 2, 5⟩ })] }, 1, 1, by decide +kernel, 3,
       by decide +kernel⟩,
   ⟨withF [(AXSn_CTRL_ENABLE 1, 1), (AXSn_VMAX_VALUE 1, 100), (AXSn_AMAX_VALUE 1, 100), (AXSn_JMAX_VALUE 1, 100), (AXSn_HOME_V_V_SLOW 1,
       5), (AXSn_HOME_V_V_FAST 1, 50), (AXSn_PINS_HOME_PIN 1, 4), (AXSn_TARGET_VALUE 1, 3), (AXSn_VTARGET_VALUE 1, 3),
       (AXSn_STATUS_STATE 1, 1), (AXSn_STATUS_REMAIN_VALID 1, 1), (AXSn_REMAIN_VALUE 1, 9), (AXSn_STATUS_POS_UNC 1, 0)] runS, 1, 1,
       by decide +kernel, 3, by decide +kernel⟩,
   ⟨withF [(AXSn_CTRL_ENABLE 1, 1), (AXSn_VMAX_VALUE 1, 100), (AXSn_AMAX_VALUE 1, 100), (AXSn_JMAX_VALUE 1, 100), (AXSn_HOME_V_V_SLOW 1,
       5), (AXSn_HOME_V_V_FAST 1, 50), (AXSn_PINS_HOME_PIN 1, 4), (AXSn_TARGET_VALUE 1, 3), (AXSn_VTARGET_VALUE 1, 3),
       (AXSn_STATUS_STATE 1, 1)] { runS with axs := [(1, { AxsSt.new with limPos := ⟨true, true, 2, 5⟩ })] }, 1, 1, by decide +kernel, 3,
       by decide +kernel⟩,
   ⟨withF [(AXSn_CTRL_ENABLE 1, 1), (AXSn_VMAX_VALUE 1, 100), (AXSn_AMAX_VALUE 1, 100), (AXSn_JMAX_VALUE 1, 100), (AXSn_HOME_V_V_SLOW 1,
       5), (AXSn_HOME_V_V_FAST 1, 50), (AXSn_PINS_HOME_PIN 1, 4), (AXSn_TARGET_VALUE 1, 3), (AXSn_VTARGET_VALUE 1, 3),
       (AXSn_STATUS_STATE 1, 1), (AXSn_STATUS_REMAIN_VALID 1, 1), (AXSn_REMAIN_VALUE 1, 9), (AXSn_STATUS_POS_UNC 1, 0)] runS, 1, 1,
       by decide +kernel, 9, by decide +kernel⟩,
   ⟨withF [(AXSn_CTRL_ENABLE 1, 1), (AXSn_VMAX_VALUE 1, 100), (AXSn_AMAX_VALUE 1, 100), (AXSn_JMAX_VALUE 1, 100), (AXSn_HOME_V_V_SLOW 1,
       5), (AXSn_HOME_V_V_FAST 1, 50), (AXSn_PINS_HOME_PIN 1, 4), (AXSn_TARGET_VALUE 1, 3), (AXSn_VTARGET_VALUE 1, 3),
       (AXSn_STATUS_STATE 1, 1)] runS, 1, 1, by decide +kernel, 0, by decide +kernel⟩,
   ⟨withF [(AXSn_CTRL_ENABLE 1, 1), (AXSn_VMAX_VALUE 1, 100), (AXSn_AMAX_VALUE 1, 100), (AXSn_JMAX_VALUE 1, 100), (AXSn_HOME_V_V_SLOW 1,
       5), (AXSn_HOME_V_V_FAST 1, 50), (AXSn_PINS_HOME_PIN 1, 4), (AXSn_TARGET_VALUE 1, 3), (AXSn_VTARGET_VALUE 1, 3),
       (AXSn_STATUS_STATE 1, 1), (AXSn_STATUS_REMAIN_VALID 1, 1), (AXSn_REMAIN_VALUE 1, 9), (AXSn_STATUS_POS_UNC 1, 0)] runS, 1, 1,
       by decide +kernel, _, rfl, by decide +kernel⟩,
   ⟨withF [(AXSn_CTRL_ENABLE 1, 1), (AXSn_VMAX_VALUE 1, 100), (AXSn_AMAX_VALUE 1, 100), (AXSn_JMAX_VALUE 1, 100), (AXSn_HOME_V_V_SLOW 1,
       5), (AXSn_HOME_V_V_FAST 1, 50), (AXSn_PINS_HOME_PIN 1, 4), (AXSn_TARGET_VALUE 1, 3), (AXSn_VTARGET_VALUE 1, 3),
       (AXSn_STATUS_STATE 1, 2)] runS, 1, 2, by decide +kernel⟩,
   ⟨withF [(AXSn_CTRL_ENABLE 1, 1), (AXSn_VMAX_VALUE 1, 100), (AXSn_AMAX_VALUE 1, 100), (AXSn_JMAX_VALUE 1, 100), (AXSn_HOME_V_V_SLOW 1,
       5), (AXSn_HOME_V_V_FAST 1, 50), (AXSn_PINS_HOME_PIN 1, 4), (AXSn_TARGET_VALUE 1, 3), (AXSn_VTARGET_VALUE 1, 3),
       (AXSn_STATUS_STATE 1, 2)] { runS with axs := [(1, { AxsSt.new with prof := ⟨5, 100, 0, [], []⟩ })] }, 1, 2, by decide +kernel⟩,
   ⟨withF [(AXSn_CTRL_ENABLE 1, 1), (AXSn_VMAX_VALUE 1, 100), (AXSn_AMAX_VALUE 1, 100), (AXSn_JMAX_VALUE 1, 100), (AXSn_HOME_V_V_SLOW 1,
       5), (AXSn_HOME_V_V_FAST 1, 50), (AXSn_PINS_HOME_PIN 1, 4), (AXSn_TARGET_VALUE 1, 3), (AXSn_VTARGET_VALUE 1, 3),
       (AXSn_STATUS_STATE 1, 1), (AXSn_STATUS_REMAIN_VALID 1, 1), (AXSn_REMAIN_VALUE 1, 9), (AXSn_STATUS_POS_UNC 1, 0)] runS, 1, 1,
       by decide +kernel⟩,
   ⟨withF [(AXSn_CTRL_ENABLE 1, 1), (AXSn_VMAX_VALUE 1, 100), (AXSn_AMAX_VALUE 1, 100), (AXSn_JMAX_VALUE 1, 100), (AXSn_HOME_V_V_SLOW 1,
       5), (AXSn_HOME_V_V_FAST 1, 50), (AXSn_PINS_HOME_PIN 1, 4), (AXSn_TARGET_VALUE 1, 3), (AXSn_VTARGET_VALUE 1, 3),
       (AXSn_STATUS_STATE 1, 1), (AXSn_STATUS_REMAIN_VALID 1, 1), (AXSn_REMAIN_VALUE 1, 9), (AXSn_STATUS_POS_UNC 1, 0)] runS, 0, 0,
       by decide +kernel, _, List.mem_cons_self⟩,
   ⟨withF [(AXSn_CTRL_ENABLE 1, 1), (AXSn_VMAX_VALUE 1, 100), (AXSn_AMAX_VALUE 1, 100), (AXSn_JMAX_VALUE 1, 100), (AXSn_HOME_V_V_SLOW 1,
       5), (AXSn_HOME_V_V_FAST 1, 50), (AXSn_PINS_HOME_PIN 1, 4), (AXSn_TARGET_VALUE 1, 3), (AXSn_VTARGET_VALUE 1, 3),
       (AXSn_STATUS_STATE 1, 1), (AXSn_CTRL_CLASS 1, 1)] runS, 1, 1, by decide +kernel, _, List.mem_cons_self⟩,
   ⟨withF [(AXSn_CTRL_ENABLE 1, 1), (AXSn_VMAX_VALUE 1, 100), (AXSn_AMAX_VALUE 1, 100), (AXSn_JMAX_VALUE 1, 100), (AXSn_HOME_V_V_SLOW 1,
       5), (AXSn_HOME_V_V_FAST 1, 50), (AXSn_PINS_HOME_PIN 1, 4), (AXSn_TARGET_VALUE 1, 3), (AXSn_VTARGET_VALUE 1, 3),
       (AXSn_STATUS_STATE 1, 3)] runS, 1, 3, by decide +kernel, _, List.mem_cons_self⟩,
   ⟨withF [(AXSn_CTRL_ENABLE 1, 1), (AXSn_VMAX_VALUE 1, 100), (AXSn_AMAX_VALUE 1, 100), (AXSn_JMAX_VALUE 1, 100), (AXSn_HOME_V_V_SLOW 1,
       5), (AXSn_HOME_V_V_FAST 1, 50), (AXSn_PINS_HOME_PIN 1, 4), (AXSn_TARGET_VALUE 1, 3), (AXSn_VTARGET_VALUE 1, 3),
       (AXSn_STATUS_STATE 1, 2)] { runS with axs := [(1, { AxsSt.new with prof := ⟨5, 100, 0, [], []⟩ })] }, 1, 2, by decide +kernel⟩,
   ⟨withF [(AXSn_CTRL_ENABLE 1, 1), (AXSn_VMAX_VALUE 1, 100), (AXSn_AMAX_VALUE 1, 100), (AXSn_JMAX_VALUE 1, 100), (AXSn_HOME_V_V_SLOW 1,
       5), (AXSn_HOME_V_V_FAST 1, 50), (AXSn_PINS_HOME_PIN 1, 4), (AXSn_TARGET_VALUE 1, 3), (AXSn_VTARGET_VALUE 1, 3),
       (AXSn_STATUS_STATE 1, 4)] { runS with axs := [(1, { AxsSt.new with prof := ⟨5, 100, 0, [], []⟩, hst := .fast })] }, 1, 4,
       by decide +kernel⟩,
   ⟨withF [(AXSn_CTRL_ENABLE 1, 1), (AXSn_VMAX_VALUE 1, 100), (AXSn_AMAX_VALUE 1, 100), (AXSn_JMAX_VALUE 1, 100), (AXSn_HOME_V_V_SLOW 1,
       5), (AXSn_HOME_V_V_FAST 1, 50), (AXSn_PINS_HOME_PIN 1, 4), (AXSn_TARGET_VALUE 1, 3), (AXSn_VTARGET_VALUE 1, 3),
       (AXSn_STATUS_STATE 1, 1), (AXSn_STATUS_REMAIN_VALID 1, 1), (AXSn_REMAIN_VALUE 1, 9), (AXSn_STATUS_POS_UNC 1, 0)] runS, 1, 1,
       by decide +kernel⟩,
   ⟨withF [(AXSn_CTRL_ENABLE 1, 1), (AXSn_VMAX_VALUE 1, 100), (AXSn_AMAX_VALUE 1, 100), (AXSn_JMAX_VALUE 1, 100), (AXSn_HOME_V_V_SLOW 1,
       5), (AXSn_HOME_V_V_FAST 1, 50), (AXSn_PINS_HOME_PIN 1, 4), (AXSn_TARGET_VALUE 1, 3), (AXSn_VTARGET_VALUE 1, 3),
       (AXSn_STATUS_STATE 1, 2)] runS, 1, 2, by decide +kernel⟩,
   ⟨withF [(AXSn_CTRL_ENABLE 1, 1), (AXSn_VMAX_VALUE 1, 100), (AXSn_AMAX_VALUE 1, 100), (AXSn_JMAX_VALUE 1, 100), (AXSn_HOME_V_V_SLOW 1,
       5), (AXSn_HOME_V_V_FAST 1, 50), (AXSn_PINS_HOME_PIN 1, 4), (AXSn_TARGET_VALUE 1, 3), (AXSn_VTARGET_VALUE 1, 3),
       (AXSn_STATUS_STATE 1, 1), (AXSn_STATUS_REMAIN_VALID 1, 1), (AXSn_REMAIN_VALUE 1, 9), (AXSn_STATUS_POS_UNC 1, 0)] runS, 0, 0,
       by decide +kernel⟩,
   ⟨withF [(AXSn_CTRL_ENABLE 1, 1), (AXSn_VMAX_VALUE 1, 100), (AXSn_AMAX_VALUE 1, 100), (AXSn_JMAX_VALUE 1, 100), (AXSn_HOME_V_V_SLOW 1,
       5), (AXSn_HOME_V_V_FAST 1, 50), (AXSn_PINS_HOME_PIN 1, 4), (AXSn_TARGET_VALUE 1, 3), (AXSn_VTARGET_VALUE 1, 3),
       (AXSn_STATUS_STATE 1, 1), (AXSn_STATUS_REMAIN_VALID 1, 1), (AXSn_REMAIN_VALUE 1, 9), (AXSn_STATUS_POS_UNC 1, 0)] runS, 1, 1,
       by decide +kernel⟩⟩

theorem meets_AxisTicks :
    (∃ (s : State) (n : Nat) (st : Nat), (n < 20 ∧ st = s.fget (AXSn_STATUS_STATE n)) ∧ ∃ (dir : Bool) (sg : Int),
        sg = (if dir = s.bit (AXSn_EXT_DIR_POL n) then -1 else 1) ∧ s.classE n = true ∧ s.undriven n = false ∧ (s.axsOf n).edgeAt = none ∧
        s.limitAt n sg = true)
    ∧ (∃ (s : State) (n : Nat) (st : Nat), (n < 20 ∧ st = s.fget (AXSn_STATUS_STATE n)) ∧ ∃ (dir : Bool) (sg : Int),
        sg = (if dir = s.bit (AXSn_EXT_DIR_POL n) then -1 else 1) ∧ s.classE n = true ∧ s.undriven n = false ∧ (s.axsOf n).edgeAt = none ∧
        s.limitAt n sg = false ∧ s.bit (AXSn_STATUS_STALL n) = false)
    ∧ (∃ (s : State) (n : Nat) (st : Nat), n < 20 ∧ st = s.fget (AXSn_STATUS_STATE n) ∧ s.classE n = false)
    ∧ (∃ (s : State) (n : Nat) (st : Nat), n < 20 ∧ st = s.fget (AXSn_STATUS_STATE n))
    ∧ (∃ (s : State) (n : Nat) (st : Nat), n < 20 ∧ st = s.fget (AXSn_STATUS_STATE n) ∧ (s.undriven n = true ∨ s.standstill n = false))
    ∧ (∃ (s : State) (n : Nat) (st : Nat), n < 20 ∧ st = s.fget (AXSn_STATUS_STATE n) ∧ s.undriven n = false ∧ s.standstill n = true ∧
        s.bit (AXSn_CTRL_POWERDOWN n) = true ∧ (s.axsOf n).repower = none ∧
        (s.axsOf n).zeroSince + 500000 * max 1 (s.fget (AXSn_HOLD_STANDSTILL_T n)) ≤ s.tick)
    ∧ (∃ (s : State) (n : Nat) (st : Nat), (n < 20 ∧ st = s.fget (AXSn_STATUS_STATE n)) ∧ ∃ t, (s.axsOf n).repower = some t ∧ t ≤ s.tick ∧
        (s.axsOf n).queued = none)
    ∧ (∃ (s : State) (n : Nat) (st : Nat), (n < 20 ∧ st = s.fget (AXSn_STATUS_STATE n)) ∧ ∃ t, (s.axsOf n).repower = some t ∧ s.tick < t)
    ∧ (∃ (s : State) (n : Nat) (st : Nat), n < 20 ∧ st = s.fget (AXSn_STATUS_STATE n) ∧ s.bit (AXSn_STATUS_POS_UNC n) = true ∧
        s.standstill n = true)
    ∧ (∃ (s : State) (n : Nat) (st : Nat), n < 20 ∧ st = s.fget (AXSn_STATUS_STATE n) ∧ s.bit (AXSn_STATUS_POS_UNC n) = true ∧
        s.standstill n = false) :=
  ⟨⟨withF [(AXSn_CTRL_ENABLE 1, 1), (AXSn_VMAX_VALUE 1, 100), (AXSn_AMAX_VALUE 1, 100), (AXSn_JMAX_VALUE 1, 100), (AXSn_HOME_V_V_SLOW 1,
      5), (AXSn_HOME_V_V_FAST 1, 50), (AXSn_PINS_HOME_PIN 1, 4), (AXSn_TARGET_VALUE 1, 3), (AXSn_VTARGET_VALUE 1, 3), (AXSn_STATUS_STATE 1,
      1), (AXSn_CTRL_CLASS 1, 1)] { runS with axs := [(1, { AxsSt.new with limPos := ⟨true, true, 2, 5⟩ })] }, 1, 1, by decide +kernel,
      true, 1, by decide +kernel⟩,
   ⟨withF [(AXSn_CTRL_ENABLE 1, 1), (AXSn_VMAX_VALUE 1, 100), (AXSn_AMAX_VALUE 1, 100), (AXSn_JMAX_VALUE 1, 100), (AXSn_HOME_V_V_SLOW 1,
       5), (AXSn_HOME_V_V_FAST 1, 50), (AXSn_PINS_HOME_PIN 1, 4), (AXSn_TARGET_VALUE 1, 3), (AXSn_VTARGET_VALUE 1, 3),
       (AXSn_STATUS_STATE 1, 1), (AXSn_CTRL_CLASS 1, 1)] runS, 1, 1, by decide +kernel, true, 1, by decide +kernel⟩,
   ⟨withF [(AXSn_CTRL_ENABLE 1, 1), (AXSn_VMAX_VALUE 1, 100), (AXSn_AMAX_VALUE 1, 100), (AXSn_JMAX_VALUE 1, 100), (AXSn_HOME_V_V_SLOW 1,
       5), (AXSn_HOME_V_V_FAST 1, 50), (AXSn_PINS_HOME_PIN 1, 4), (AXSn_TARGET_VALUE 1, 3), (AXSn_VTARGET_VALUE 1, 3),
       (AXSn_STATUS_STATE 1, 1)] runS, 1, 1, by decide +kernel⟩,
   ⟨withF [(AXSn_CTRL_ENABLE 1, 1), (AXSn_VMAX_VALUE 1, 100), (AXSn_AMAX_VALUE 1, 100), (AXSn_JMAX_VALUE 1, 100), (AXSn_HOME_V_V_SLOW 1,
       5), (AXSn_HOME_V_V_FAST 1, 50), (AXSn_PINS_HOME_PIN 1, 4), (AXSn_TARGET_VALUE 1, 3), (AXSn_VTARGET_VALUE 1, 3),
       (AXSn_STATUS_STATE 1, 1)] runS, 1, 1, by decide +kernel⟩,
   ⟨withF [(AXSn_CTRL_ENABLE 1, 1), (AXSn_VMAX_VALUE 1, 100), (AXSn_AMAX_VALUE 1, 100), (AXSn_JMAX_VALUE 1, 100), (AXSn_HOME_V_V_SLOW 1,
       5), (AXSn_HOME_V_V_FAST 1, 50), (AXSn_PINS_HOME_PIN 1, 4), (AXSn_TARGET_VALUE 1, 3), (AXSn_VTARGET_VALUE 1, 3),
       (AXSn_STATUS_STATE 1, 1)] runS, 0, 0, by decide +kernel⟩,
   ⟨withF [(AXSn_CTRL_ENABLE 1, 1), (AXSn_VMAX_VALUE 1, 100), (AXSn_AMAX_VALUE 1, 100), (AXSn_JMAX_VALUE 1, 100), (AXSn_HOME_V_V_SLOW 1,
       5), (AXSn_HOME_V_V_FAST 1, 50), (AXSn_PINS_HOME_PIN 1, 4), (AXSn_TARGET_VALUE 1, 3), (AXSn_VTARGET_VALUE 1, 3),
       (AXSn_STATUS_STATE 1, 1), (AXSn_CTRL_POWERDOWN 1, 1)] runS, 1, 1, by decide +kernel⟩,
   ⟨withF [(AXSn_CTRL_ENABLE 1, 1), (AXSn_VMAX_VALUE 1, 100), (AXSn_AMAX_VALUE 1, 100), (AXSn_JMAX_VALUE 1, 100), (AXSn_HOME_V_V_SLOW 1,
       5), (AXSn_HOME_V_V_FAST 1, 50), (AXSn_PINS_HOME_PIN 1, 4), (AXSn_TARGET_VALUE 1, 3), (AXSn_VTARGET_VALUE 1, 3),
       (AXSn_STATUS_STATE 1, 1)] { runS with axs := [(1, { AxsSt.new with repower := some 5 })] }, 1, 1, by decide +kernel, 5,
       by decide +kernel⟩,
   ⟨withF [(AXSn_CTRL_ENABLE 1, 1), (AXSn_VMAX_VALUE 1, 100), (AXSn_AMAX_VALUE 1, 100), (AXSn_JMAX_VALUE 1, 100), (AXSn_HOME_V_V_SLOW 1,
       5), (AXSn_HOME_V_V_FAST 1, 50), (AXSn_PINS_HOME_PIN 1, 4), (AXSn_TARGET_VALUE 1, 3), (AXSn_VTARGET_VALUE 1, 3),
       (AXSn_STATUS_STATE 1, 1)] { runS with axs := [(1, { AxsSt.new with repower := some 5000000000 })] }, 1, 1, by decide +kernel,
       5000000000, by decide +kernel⟩,
   ⟨withF [(AXSn_CTRL_ENABLE 1, 1), (AXSn_VMAX_VALUE 1, 100), (AXSn_AMAX_VALUE 1, 100), (AXSn_JMAX_VALUE 1, 100), (AXSn_HOME_V_V_SLOW 1,
       5), (AXSn_HOME_V_V_FAST 1, 50), (AXSn_PINS_HOME_PIN 1, 4), (AXSn_TARGET_VALUE 1, 3), (AXSn_VTARGET_VALUE 1, 3),
       (AXSn_STATUS_STATE 1, 1)] runS, 1, 1, by decide +kernel⟩,
   ⟨withF [(AXSn_CTRL_ENABLE 1, 1), (AXSn_VMAX_VALUE 1, 100), (AXSn_AMAX_VALUE 1, 100), (AXSn_JMAX_VALUE 1, 100), (AXSn_HOME_V_V_SLOW 1,
       5), (AXSn_HOME_V_V_FAST 1, 50), (AXSn_PINS_HOME_PIN 1, 4), (AXSn_TARGET_VALUE 1, 3), (AXSn_VTARGET_VALUE 1, 3),
       (AXSn_STATUS_STATE 1, 2)] { runS with axs := [(1, { AxsSt.new with prof := ⟨5, 100, 0, [], []⟩ })] }, 1, 2, by decide +kernel⟩⟩

theorem meets_LoopSamples :
    (∃ (p : Nat) (s : State) (i : Nat) (t : Task), onEngine s p i t ∧ isLoopEngine p = false ∧ s.replaying = false)
    ∧ (∃ (p : Nat) (n : BitVec 6) (s : State) (i : Nat) (t : Task), onEngine s p i t ∧ isLoopEngine p = true ∧
        (s.sramRead (Config.loopAddr n.toNat) 4).2 = false ∧ s.loopRefused n.toNat i = true)
    ∧ (∃ (p : Nat) (n : BitVec 6) (s : State) (i : Nat) (t : Task), onEngine s p i t ∧ (isLoopEngine p = true ∧
        (s.sramRead (Config.loopAddr n.toNat) 4).2 = false ∧ s.loopRefused n.toNat i = false ∧ s.inBackup = false ∧ s.safeCtl = false ∧
        s.replaying = false ∧ s.bit (LOOPn_STATUS_APPLY_PENDING n.toNat) = false ∧ s.nx n.toNat ≤ 8 ∧ s.ny n.toNat ≤ 4 ∧
        s.nu n.toNat ≤ 4) ∧ ∃ (lo : Nat → Int) (hi : Nat → Int), (∀ j, lo j = sext 32 (s.fget (LOOPn_U_MINj_VALUE n.toNat j))) ∧ (∀ j,
        hi j = sext 32 (s.fget (LOOPn_U_MAXj_VALUE n.toNat j))) ∧ (∀ j, j < s.nu n.toNat → s.dstCode n.toNat j / 4096 = 0))
    ∧ (∃ (p : Nat) (n : BitVec 6) (s : State) (i : Nat) (t : Task), onEngine s p i t ∧ (isLoopEngine p = true ∧
        (s.sramRead (Config.loopAddr n.toNat) 4).2 = false ∧ s.loopRefused n.toNat i = false ∧ s.inBackup = false ∧ s.safeCtl = false ∧
        s.replaying = false ∧ s.bit (LOOPn_STATUS_APPLY_PENDING n.toNat) = false ∧ s.nx n.toNat ≤ 8 ∧ s.ny n.toNat ≤ 4 ∧
        s.nu n.toNat ≤ 4) ∧ ∃ (lo : Nat → Int) (hi : Nat → Int), (∀ j, lo j = sext 32 (s.fget (LOOPn_U_MINj_VALUE n.toNat j))) ∧ (∀ j,
        hi j = sext 32 (s.fget (LOOPn_U_MAXj_VALUE n.toNat j))) ∧ ∃ (d : Nat), d < 8 ∧ s.nu n.toNat = 1 ∧
        s.bit (LOOPn_CTRL_MODE n.toNat) = false ∧ s.dstCode n.toNat 0 = 0x3000 + d)
    ∧ (∃ (p : Nat) (n : BitVec 6) (s : State) (i : Nat) (t : Task), onEngine s p i t ∧ (isLoopEngine p = true ∧
        (s.sramRead (Config.loopAddr n.toNat) 4).2 = false ∧ s.loopRefused n.toNat i = false ∧ s.inBackup = false ∧ s.safeCtl = false ∧
        s.replaying = false ∧ s.bit (LOOPn_STATUS_APPLY_PENDING n.toNat) = false ∧ s.nx n.toNat ≤ 8 ∧ s.ny n.toNat ≤ 4 ∧
        s.nu n.toNat ≤ 4) ∧ ∃ (lo : Nat → Int) (hi : Nat → Int), (∀ j, lo j = sext 32 (s.fget (LOOPn_U_MINj_VALUE n.toNat j))) ∧ (∀ j,
        hi j = sext 32 (s.fget (LOOPn_U_MAXj_VALUE n.toNat j))) ∧ ∃ (d : Nat), d < 32 ∧ s.nu n.toNat = 1 ∧
        s.bit (LOOPn_CTRL_MODE n.toNat) = false ∧ s.hvoRuns = false ∧ s.dstCode n.toNat 0 = 0x1000 + d)
    ∧ (∃ (p : Nat) (s : State) (i : Nat) (t : Task), onEngine s p i t ∧ ∃ (k : Nat), k < 64 ∧ s.loopCheck k = 0)
    ∧ (∃ (p : Nat) (s : State) (i : Nat) (t : Task), onEngine s p i t ∧ ∃ (k : Nat), k < 64 ∧ s.loopCheck k ≠ 0)
    ∧ (∃ (p : Nat) (s : State) (i : Nat) (t : Task), onEngine s p i t ∧ ∃ (k : Nat), k < 64 ∧ s.bit (LOOPn_CTRL_ENABLE k) = false)
    ∧ (∃ (p : Nat) (s : State) (i : Nat) (t : Task), onEngine s p i t ∧ ∃ (k : Nat), k < 64 ∧ s.bit (LOOPn_CTRL_ENABLE k) = true) :=
  ⟨⟨2, exS, 5, _, ⟨by decide, rfl⟩, by decide +kernel⟩,
   ⟨21, 3, withTasks [(5, { task0 with phys := 21, hdr := { hdr0 with loop := true } })] [(21, 5)] runS, 5, _, ⟨by decide, rfl⟩,
       by decide +kernel⟩,
   ⟨21, 3, withF [(LOOPn_BIND_OWNER 3, 5), (LOOPn_CTRL_ENABLE 3, 1)] (withTasks [(5,
       { task0 with phys := 21, hdr := { hdr0 with loop := true } })] [(21, 5)] runS), _, _, ⟨by decide, rfl⟩, by decide +kernel, _, _,
       fun _ => rfl, fun _ => rfl, by decide +kernel⟩,
   ⟨21, 3, withF [(LOOPn_BIND_OWNER 3, 5), (LOOPn_CTRL_ENABLE 3, 1), (LOOPn_DST01_DST_LO 3, 12290)] (withTasks [(5,
       { task0 with phys := 21, hdr := { hdr0 with loop := true } })] [(21, 5)] runS), _, _, ⟨by decide, rfl⟩, by decide +kernel, _, _,
       fun _ => rfl, fun _ => rfl, 2, by decide +kernel⟩,
   ⟨21, 3, withF [(LOOPn_BIND_OWNER 3, 5), (LOOPn_CTRL_ENABLE 3, 1), (LOOPn_DST01_DST_LO 3, 4099)] (withTasks [(5,
       { task0 with phys := 21, hdr := { hdr0 with loop := true } })] [(21, 5)] runS), _, _, ⟨by decide, rfl⟩, by decide +kernel, _, _,
       fun _ => rfl, fun _ => rfl, 3, by decide +kernel⟩,
   ⟨21, withF [(LOOPn_BIND_OWNER 3, 5), (LOOPn_CTRL_ENABLE 3, 1)] (withTasks [(5,
       { task0 with phys := 21, hdr := { hdr0 with loop := true } })] [(21, 5)] runS), 5, _, ⟨by decide, rfl⟩, 3, by decide +kernel⟩,
   ⟨21, withTasks [(5, { task0 with phys := 21, hdr := { hdr0 with loop := true } })] [(21, 5)] runS, 5, _, ⟨by decide, rfl⟩, 21,
       by decide +kernel⟩,
   ⟨21, withTasks [(5, { task0 with phys := 21, hdr := { hdr0 with loop := true } })] [(21, 5)] runS, 5, _, ⟨by decide, rfl⟩, 21,
       by decide +kernel⟩,
   ⟨21, withF [(LOOPn_BIND_OWNER 3, 5), (LOOPn_CTRL_ENABLE 3, 1)] (withTasks [(5,
       { task0 with phys := 21, hdr := { hdr0 with loop := true } })] [(21, 5)] runS), 5, _, ⟨by decide, rfl⟩, 3, by decide +kernel⟩⟩

theorem meets_OutputsAndConverters :
    (∃ (s : State) (k : Nat) (x : State), k < 32 ∧ x = s.applyShadow [HVOk_DUTY_DUTY_MAX k, HVOk_DUTY_DUTY k])
    ∧ (∃ (s : State) (f : Nat) (x : State), f < 2 ∧ x = s.applyShadow [FUSf_FREQ_FREQ f, FUSf_DEAD_SLEW f])
    ∧ (∃ (s : State) (f : Nat), f < 2 ∧ s.bit (FUSf_CTRL_EN f) = false)
    ∧ (∃ (s : State) (f : Nat), f < 2 ∧ s.bit (FUSf_CTRL_EN f) = true)
    ∧ (∃ (s : State) (f : Nat), f < 2 ∧ ∃ b, b = s.bit (FUSf_CTRL_EN f))
    ∧ (∃ (s : State) (f : Nat), f < 2 ∧ s.bit (FUSf_STATUS_FLT f) = false)
    ∧ (∃ (s : State), s.fuserMay = true)
    ∧ (∃ (s : State), s.fuserMay = false ∧ s.bit FUS_STATUS_TOGGLING = true)
    ∧ (∃ (s : State), s.fuserMay = false ∧ s.bit FUS_STATUS_TOGGLING = false)
    ∧ (∃ (s : State) (c : Nat), c < 5 ∧ ∃ (code : Nat) (v : Nat) (i : Nat) (q : AdcReq), v = (match q with | .drive w => w | _ => code) ∧ i < 16 ∧ (s.adcOf c).cur = some (i, q))
    ∧ (∃ (s : State) (c : Nat), c < 5 ∧ (s.adcOf c).cur = none)
    ∧ (∃ (s : State) (c : Nat), c < 5 ∧ ∃ k, s.bit (ADCc_CTRL_EN c) = true ∧ (s.adcOf c).cur = none ∧ (s.adcOf c).drv = [] ∧
        (s.adcOf c).seq = none ∧ s.scanInput c = some k ∧ s.fget (ADCc_SCAN_MASK c) ≠ 0)
    ∧ (∃ (s : State) (c : Nat), c < 5 ∧ s.fget (ADCc_SCAN_MASK c) = 0)
    ∧ (∃ (s : State) (p : Nat) (l : Bool), p < 96 ∧ s.pinIn p ≠ l ∧ (s.pinDriven p = none ∨ s.pinDriven p = some l))
    ∧ (∃ (s : State) (p : Nat) (l : Bool), p < 96 ∧ (s.pinDriven p).getD l = s.pinIn p) :=
  ⟨⟨runS, 3, _, by decide +kernel, rfl⟩,
   ⟨runS, 1, _, by decide +kernel, rfl⟩,
   ⟨runS, 1, by decide +kernel⟩,
   ⟨withF [(FUSf_CTRL_EN 1, 1)] runS, 1, by decide +kernel⟩,
   ⟨runS, 1, by decide +kernel, false, by decide +kernel⟩,
   ⟨runS, 1, by decide +kernel⟩,
   ⟨withF [(FUS_CTRL_FUSER_EN_REQ, 1)] runS, by decide +kernel⟩,
   ⟨withF [(FUS_STATUS_TOGGLING, 1)] runS, by decide +kernel⟩,
   ⟨runS, by decide +kernel⟩,
   ⟨{ runS with adc := [(3, ⟨some (2, .scan), [], none, 0, false⟩)] }, 3, by decide +kernel, 5, 5, 2, .scan, by decide +kernel⟩,
   ⟨runS, 3, by decide +kernel⟩,
   ⟨withF [(ADCc_CTRL_EN 3, 1), (ADCc_SCAN_MASK 3, 6)] runS, 3, by decide +kernel, 1, by decide +kernel⟩,
   ⟨runS, 3, by decide +kernel⟩,
   ⟨runS, 3, true, by decide +kernel⟩,
   ⟨runS, 3, false, by decide +kernel⟩⟩

theorem meets_TimeAndPtp :
    (∃ (s : State) (fx : Int), s.tbLive = false ∧ s.bit TIME_STATUS_SLEWING = false ∧ s.fget TIME_SET_NS_SET < 1000000000 ∧
        fx = (((s.fget TIME_SET_SEC_LO_SET + 2 ^ 32 * (s.fget TIME_SET_SEC_HI_SET % 2 ^ 16)) * 1000000000 + s.fget TIME_SET_NS_SET) * 2 ^ 24 : Nat))
    ∧ (∃ (s : State) (fx : Int), s.tbLive = false ∧ s.bit TIME_STATUS_SLEWING = false ∧ fx = (s.timeFx : Int) + s.timeOfs * 2 ^ 24)
    ∧ (∃ (s : State), s.tbLive = true ∨ s.bit TIME_STATUS_SLEWING = true ∨ 1000000000 ≤ s.fget TIME_SET_NS_SET)
    ∧ (∃ (s : State), s.tbLive = true ∨ s.bit TIME_STATUS_SLEWING = true)
    ∧ (∃ (s : State), s.bit TIME_STATUS_SLEWING = false ∧ s.timeOfs ≠ 0 ∧ s.timeOfs.natAbs ≤ 1000000000)
    ∧ (∃ (s : State), s.bit TIME_STATUS_SLEWING = true ∨ 1000000000 < s.timeOfs.natAbs)
    ∧ (∃ (s : State), s.net.slewLeft = 0)
    ∧ (∃ (s : State), s.net.slewLeft ≠ 0)
    ∧ (∃ (s : State) (port : Nat), (port < 2 ∧ s.ptpOn port = true) ∧ ∃ (st : Int) (og : Int) (o : Int),
        o = st - (if s.fget (ETHn_CTRL_SPEED port) = 1 then s.fget (ETHn_PHYLAT_RX_LAT_100 port) else s.fget (ETHn_PHYLAT_RX_LAT_1000 port)) - (og + s.net.delay))
    ∧ (∃ (s : State) (port : Nat), port < 2 ∧ s.ptpOn port = true ∧ s.fget TIME_PTP_CFG_ROLE = 2)
    ∧ (∃ (s : State) (port : Nat), port < 2 ∧ s.ptpOn port = true ∧ s.fget TIME_PTP_CFG_ROLE ≠ 2)
    ∧ (∃ (s : State) (port : Nat), port < 2 ∧ s.ptpOn port = true)
    ∧ (∃ (s : State) (port : Nat), port < 2 ∧ s.ptpOn port = false)
    ∧ (∃ (s : State), s.fget TIME_PTP_CFG_ROLE ≠ 0 ∧ s.bit TIME_STATUS_PTP_CFG_ERR = false ∧ s.fget TIME_STATUS_SYNC ≠ 4 ∧
        s.fget TIME_PTP_CFG_ROLE = 2)
    ∧ (∃ (s : State), s.ptpOn s.net.port = true ∧ s.fget TIME_STATUS_SYNC = 4)
    ∧ (∃ (s : State), s.ptpOn s.net.port = true ∧ s.fget TIME_STATUS_SYNC ≠ 4)
    ∧ (∃ (s : State) (n : Nat), n < 2 ∧ s.bit (ETHn_CTRL_EN n) = true ∧ s.inBackup = false ∧ (s.txtsOf n).length < 16)
    ∧ (∃ (s : State) (n : Nat), n < 2 ∧ s.bit (ETHn_CTRL_EN n) = true ∧ s.inBackup = false ∧ 16 ≤ (s.txtsOf n).length)
    ∧ (∃ (s : State) (n : Nat), n < 2 ∧ ∃ id typ st rest, s.txtsOf n = (id, typ, st) :: rest)
    ∧ (∃ (s : State) (n : Nat), n < 2 ∧ s.txtsOf n = [])
    ∧ (∃ (s : State), s.net.timeOn = true ∧ s.inBackup = false ∧ s.timeSec % 60 = 0 ∧ (s.fget TIME_STATUS_SYNC = 2 ∨
        s.fget TIME_STATUS_SYNC = 4) ∧ s.timeSec < 2 ^ 48) :=
  ⟨⟨runS, 0, by decide +kernel⟩,
   ⟨runS, 167772160000000000, by decide +kernel⟩,
   ⟨withF [(TIME_STATUS_SLEWING, 1)] runS, by decide +kernel⟩,
   ⟨withF [(TIME_STATUS_SLEWING, 1)] runS, by decide +kernel⟩,
   ⟨withF [(TIME_SET_NS_SET, 5), (TIME_OFS_LO_OFS, 7)] runS, by decide +kernel⟩,
   ⟨withF [(TIME_STATUS_SLEWING, 1)] runS, by decide +kernel⟩,
   ⟨runS, by decide +kernel⟩,
   ⟨{ runS with net := { runS.net with slewLeft := -5 } }, by decide +kernel⟩,
   ⟨withF [(ETHn_CTRL_EN 0, 1), (ETHn_CTRL_EN 1, 1), (TIME_PTP_CFG_ROLE, 1)] runS, 0, by decide +kernel, 5, 5, 0, by decide +kernel⟩,
   ⟨withF [(ETHn_CTRL_EN 0, 1), (ETHn_CTRL_EN 1, 1), (TIME_PTP_CFG_ROLE, 2)] runS, 0, by decide +kernel⟩,
   ⟨withF [(ETHn_CTRL_EN 0, 1), (ETHn_CTRL_EN 1, 1), (TIME_PTP_CFG_ROLE, 1)] runS, 0, by decide +kernel⟩,
   ⟨withF [(ETHn_CTRL_EN 0, 1), (ETHn_CTRL_EN 1, 1), (TIME_PTP_CFG_ROLE, 1)] runS, 0, by decide +kernel⟩,
   ⟨runS, 0, by decide +kernel⟩,
   ⟨withF [(ETHn_CTRL_EN 0, 1), (ETHn_CTRL_EN 1, 1), (TIME_PTP_CFG_ROLE, 2)] runS, by decide +kernel⟩,
   ⟨withF [(ETHn_CTRL_EN 0, 1), (ETHn_CTRL_EN 1, 1), (TIME_PTP_CFG_ROLE, 2), (TIME_STATUS_SYNC, 4)] runS, by decide +kernel⟩,
   ⟨withF [(ETHn_CTRL_EN 0, 1), (ETHn_CTRL_EN 1, 1), (TIME_PTP_CFG_ROLE, 1)] runS, by decide +kernel⟩,
   ⟨withF [(ETHn_CTRL_EN 0, 1), (ETHn_CTRL_EN 1, 1), (TIME_PTP_CFG_ROLE, 1)] runS, 0, by decide +kernel⟩,
   ⟨withF [(ETHn_CTRL_EN 0, 1), (ETHn_CTRL_EN 1, 1), (TIME_PTP_CFG_ROLE,
       1)] ({ runS with net := { runS.net with txts := [(0, [(70000, 19, 5123456789)]), (1, List.replicate 16 (1, 0, 5))] } }), 1,
       by decide +kernel⟩,
   ⟨withF [(ETHn_CTRL_EN 0, 1), (ETHn_CTRL_EN 1, 1), (TIME_PTP_CFG_ROLE,
       1)] ({ runS with net := { runS.net with txts := [(0, [(70000, 19, 5123456789)]), (1, List.replicate 16 (1, 0, 5))] } }), 0,
       by decide +kernel, 70000, 19, 5123456789, _, rfl⟩,
   ⟨runS, 0, by decide +kernel⟩,
   ⟨withF [(TIME_STATUS_SYNC, 2)] { runS with timeFx := 120 * 1000000000 * 2 ^ 24, net := { runS.net with timeOn := true } },
       by decide +kernel⟩⟩

theorem meets_AlmanacAndCaptures :
    (∃ (s : State) (c : Nat), c < 32 ∧ ∃ (x : State), x = s.applyShadow (almShadows c) ∧ actionOk (x.fget (ALMc_ACTION_VALUE c)) = true)
    ∧ (∃ (s : State) (c : Nat), c < 32 ∧ ∃ (x : State), x = s.applyShadow (almShadows c) ∧ actionOk (x.fget (ALMc_ACTION_VALUE c)) = false)
    ∧ (∃ (s : State) (c : Nat), c < 32 ∧ ∃ (x : State), x = s.applyShadow (almShadows c) ∧ (∀ k, k < c → s.almDue k = false) ∧
        s.almDue c = true)
    ∧ (∃ (s : State) (c : Nat), c < 32 ∧ (∀ k, k ≤ c → s.almDue k = false))
    ∧ (∃ (s : State) (c : Nat), c < 32 ∧ ∃ y, y = (List.range c).foldl State.almDoes s)
    ∧ (∃ (s : State) (c : Nat), c < 32 ∧ ∃ (falling : Bool) (sel : Bool),
        sel = (s.bit (CAPk_CFG_EN c) && decide (s.fget (CAPk_CFG_PIN c) < 96) && (decide (2 ≤ s.fget (CAPk_CFG_EDGE c)) || decide (s.fget (CAPk_CFG_EDGE c) = if falling then 1 else 0))) ∧ sel = true ∧ (s.capOf c).length < 4)
    ∧ (∃ (s : State) (c : Nat), c < 32 ∧ ∃ (falling : Bool) (sel : Bool),
        sel = (s.bit (CAPk_CFG_EN c) && decide (s.fget (CAPk_CFG_PIN c) < 96) && (decide (2 ≤ s.fget (CAPk_CFG_EDGE c)) || decide (s.fget (CAPk_CFG_EDGE c) = if falling then 1 else 0))) ∧ sel = true ∧ 4 ≤ (s.capOf c).length)
    ∧ (∃ (s : State) (c : Nat), c < 32 ∧ ∃ (falling : Bool) (sel : Bool),
        sel = (s.bit (CAPk_CFG_EN c) && decide (s.fget (CAPk_CFG_PIN c) < 96) && (decide (2 ≤ s.fget (CAPk_CFG_EDGE c)) || decide (s.fget (CAPk_CFG_EDGE c) = if falling then 1 else 0))) ∧ sel = false)
    ∧ (∃ (s : State) (c : Nat), c < 32 ∧ ∃ ts falling rest, s.capOf c = (ts, falling) :: rest)
    ∧ (∃ (s : State) (c : Nat), c < 32 ∧ s.capOf c = []) :=
  ⟨⟨runS, 3, by decide +kernel, _, rfl, by decide +kernel⟩,
   ⟨withF [(ALMc_ACTION_VALUE 3, 4026531840)] runS, 3, by decide +kernel, _, rfl, by decide +kernel⟩,
   ⟨withF [(ALMc_STATUS_ARMED 3, 1)] ({ runS with net := { runS.net with timeOn := true } }), 3, by decide +kernel, _, rfl,
       by decide +kernel⟩,
   ⟨runS, 3, by decide +kernel⟩,
   ⟨runS, 3, by decide +kernel, _, rfl⟩,
   ⟨withF [(CAPk_CFG_EN 3, 1), (CAPk_CFG_PIN 3, 5)] runS, 3, by decide +kernel, false, true, by decide +kernel⟩,
   ⟨withF [(CAPk_CFG_EN 3, 1), (CAPk_CFG_PIN 3, 5)] ({ runS with net := { runS.net with caps := [(3, List.replicate 4 (5, true))] } }), 3,
       by decide +kernel, false, true, by decide +kernel⟩,
   ⟨runS, 3, by decide +kernel, false, false, by decide +kernel⟩,
   ⟨withF [(CAPk_CFG_EN 3, 1), (CAPk_CFG_PIN 3, 5)] ({ runS with net := { runS.net with caps := [(3, List.replicate 4 (5, true))] } }), 3,
       by decide +kernel, 5, true, _, rfl⟩,
   ⟨runS, 3, by decide +kernel⟩⟩

theorem meets_RailThaw :
    (∃ (s : State), s.railState = 0 ∨ 6 ≤ s.railState)
    ∧ (∃ (s : State), 1 ≤ s.railState ∧ s.railState < 6)
    ∧ (∃ (s : State), 6 ≤ s.railState)
    ∧ (∃ (s : State), s.railState = 0 ∧ (s.bit FLT_STATUS_SAFE = true ∨ s.inBackup = true))
    ∧ (∃ (s : State), s.railState = 0 ∧ s.bit FLT_STATUS_SAFE = false ∧ s.inBackup = false ∧ s.holdOver = false)
    ∧ (∃ (s : State), s.railState = 1 ∧ s.holdOver = true)
    ∧ (∃ (s : State), s.railState = 1 ∧ s.holdOver = false)
    ∧ (∃ (s : State), s.railState ≠ 1)
    ∧ (∃ (s : State) (c : Instr), (c = .thawEv ∧ s.railState = 0 ∧ s.bit FLT_STATUS_SAFE = false ∧ s.inBackup = false ∨
        c = .restartHoldExpiry ∧ s.railState = 1) ∧ s.holdOver = true)
    ∧ (∃ (s : State) (ok : Bool),
        ok = (s.stepRails (s.fget RAIL_STATUS_STEP)).all (fun r => (s.judgeOf r).good && (s.judgeOf r).goodSince.any (fun t => decide (t + msTicks (s.fget (RAIL_STEPs_SETTLE (s.fget RAIL_STATUS_STEP))) ≤ s.tick))) ∧ s.railState = 3 ∧ ok = true)
    ∧ (∃ (s : State) (ok : Bool),
        ok = (s.stepRails (s.fget RAIL_STATUS_STEP)).all (fun r => (s.judgeOf r).good && (s.judgeOf r).goodSince.any (fun t => decide (t + msTicks (s.fget (RAIL_STEPs_SETTLE (s.fget RAIL_STATUS_STEP))) ≤ s.tick))) ∧ (s.railState ≠ 3 ∨ ok = false))
    ∧ (∃ (s : State) (late : Bool),
        late = decide (s.rail.stepAt + msTicks (max 1 (s.fget (RAIL_STEPs_THAW_TO (s.fget RAIL_STATUS_STEP)))) ≤ s.tick) ∧
        s.railState = 3 ∧ late = true)
    ∧ (∃ (s : State) (late : Bool),
        late = decide (s.rail.stepAt + msTicks (max 1 (s.fget (RAIL_STEPs_THAW_TO (s.fget RAIL_STATUS_STEP)))) ≤ s.tick) ∧
        (s.railState ≠ 3 ∨ late = false))
    ∧ (∃ (s : State) (late : Bool), late = decide (s.rail.chainAt + msTicks (max 1 (s.fget RAIL_CHAIN_CHAIN_TO)) ≤ s.tick) ∧
        s.railState = 4 ∧ late = true)
    ∧ (∃ (s : State) (late : Bool), late = decide (s.rail.chainAt + msTicks (max 1 (s.fget RAIL_CHAIN_CHAIN_TO)) ≤ s.tick) ∧
        (s.railState ≠ 4 ∨ late = false))
    ∧ (∃ (s : State), s.bit RAIL_STATUS_SEQ_IN = false)
    ∧ (∃ (s : State), s.bit RAIL_STATUS_SEQ_IN = true)
    ∧ (∃ (s : State), s.railState ≠ 5 ∨ s.nSlaves = 0)
    ∧ (∃ (s : State), s.railState = 5 ∧ s.nSlaves ≠ 0) :=
  ⟨⟨runS, by decide +kernel⟩,
   ⟨withF [(RAIL_STATUS_STATE, 1)] runS, by decide +kernel⟩,
   ⟨withF [(RAIL_STATUS_STATE, 6)] runS, by decide +kernel⟩,
   ⟨withF [(FLT_STATUS_SAFE, 1)] runS, by decide +kernel⟩,
   ⟨withF [(RAIL_STATUS_STATE, 0)] { runS with rail := { runS.rail with frostEnd := some 2500000000 } }, by decide +kernel⟩,
   ⟨withF [(RAIL_STATUS_STATE, 1)] runS, by decide +kernel⟩,
   ⟨withF [(RAIL_STATUS_STATE, 1)] { runS with rail := { runS.rail with frostEnd := some 2500000000 } }, by decide +kernel⟩,
   ⟨runS, by decide +kernel⟩,
   ⟨runS, .thawEv, Or.inl (by decide +kernel), by decide +kernel⟩,
   ⟨withF [(RAIL_STATUS_STATE, 3)] runS, true, by decide +kernel⟩,
   ⟨runS, true, by decide +kernel⟩,
   ⟨withF [(RAIL_STATUS_STATE, 3)] runS, true, by decide +kernel⟩,
   ⟨runS, true, by decide +kernel⟩,
   ⟨withF [(RAIL_STATUS_STATE, 4)] runS, true, by decide +kernel⟩,
   ⟨runS, true, by decide +kernel⟩,
   ⟨runS, by decide +kernel⟩,
   ⟨withF [(RAIL_STATUS_SEQ_IN, 1)] runS, by decide +kernel⟩,
   ⟨runS, by decide +kernel⟩,
   ⟨withF [(RAIL_STATUS_STATE, 5), (RAIL_CFG_NSLAVES, 2)] runS, by decide +kernel⟩⟩

theorem meets_RailSensesAndLink :
    (∃ (s : State) (k : Nat) (v : Fld) (mine : List Nat), (k < 40 ∧ (∀ x, s.power.phase ≠ .hibernate x)) ∧
        v = (if k % 2 = 0 then RAIL_RSk_LO (k / 2) else RAIL_RSk_HI (k / 2)) ∧
        mine = (List.range 8).filter (fun r => s.bit (RAIL_RAILr_A_USED r) && s.railSense r == some k) ∧ mine = [] ∧ s.railState ≠ 7)
    ∧ (∃ (s : State) (k : Nat) (code : BitVec 12) (v : Fld) (mine : List Nat), (k < 40 ∧ (∀ x, s.power.phase ≠ .hibernate x)) ∧
        v = (if k % 2 = 0 then RAIL_RSk_LO (k / 2) else RAIL_RSk_HI (k / 2)) ∧
        mine = (List.range 8).filter (fun r => s.bit (RAIL_RAILr_A_USED r) && s.railSense r == some k) ∧
        ∃ (r : Nat) (nom : Nat) (tol : Nat) (j : RailJ), (mine = [r] ∧ nom = s.fget (RAIL_RAILr_A_NOM r) ∧
        tol = max 1 (min 50 (s.fget (RAIL_RAILr_B_TOL r)))) ∧ j = s.judgeOf r ∧ s.railOn r = true ∧ j.good = false ∧ 2 ≤ j.inRun ∧
        (nom * (100 - tol) + 99) / 100 ≤ code.toNat ∧ code.toNat ≤ nom * (100 + tol) / 100 ∧ (s.railState = 5 ∨ s.railState = 4 ∨
        s.railState = 3 ∧ (s.fget (RAIL_RAILr_A_STEP r) ≠ s.fget RAIL_STATUS_STEP ∨ s.fget (RAIL_RAILr_B_FLIPS r) < 8)))
    ∧ (∃ (s : State) (k : Nat) (code : BitVec 12) (v : Fld) (mine : List Nat), (k < 40 ∧ (∀ x, s.power.phase ≠ .hibernate x)) ∧
        v = (if k % 2 = 0 then RAIL_RSk_LO (k / 2) else RAIL_RSk_HI (k / 2)) ∧
        mine = (List.range 8).filter (fun r => s.bit (RAIL_RAILr_A_USED r) && s.railSense r == some k) ∧
        ∃ (r : Nat) (nom : Nat) (tol : Nat) (j : RailJ), (mine = [r] ∧ nom = s.fget (RAIL_RAILr_A_NOM r) ∧
        tol = max 1 (min 50 (s.fget (RAIL_RAILr_B_TOL r)))) ∧ j = s.judgeOf r ∧ s.railOn r = true ∧ j.good = false ∧ 2 ≤ j.inRun ∧
        (nom * (100 - tol) + 99) / 100 ≤ code.toNat ∧ code.toNat ≤ nom * (100 + tol) / 100 ∧ s.railState = 3 ∧
        s.fget (RAIL_RAILr_A_STEP r) = s.fget RAIL_STATUS_STEP ∧ s.fget (RAIL_RAILr_B_FLIPS r) = 8)
    ∧ (∃ (s : State) (k : Nat) (code : BitVec 12) (v : Fld) (mine : List Nat), (k < 40 ∧ (∀ x, s.power.phase ≠ .hibernate x)) ∧
        v = (if k % 2 = 0 then RAIL_RSk_LO (k / 2) else RAIL_RSk_HI (k / 2)) ∧
        mine = (List.range 8).filter (fun r => s.bit (RAIL_RAILr_A_USED r) && s.railSense r == some k) ∧
        ∃ (r : Nat) (nom : Nat) (tol : Nat) (j : RailJ), (mine = [r] ∧ nom = s.fget (RAIL_RAILr_A_NOM r) ∧
        tol = max 1 (min 50 (s.fget (RAIL_RAILr_B_TOL r)))) ∧ j = s.judgeOf r ∧ s.railOn r = true ∧ j.good = true ∧ 2 ≤ j.outRun ∧
        (code.toNat + nom * 2 / 100 < (nom * (100 - tol) + 99) / 100 ∨ nom * (100 + tol) / 100 + nom * 2 / 100 < code.toNat) ∧
        s.railState = 5)
    ∧ (∃ (s : State) (k : Nat) (code : BitVec 12) (v : Fld) (mine : List Nat), (k < 40 ∧ (∀ x, s.power.phase ≠ .hibernate x)) ∧
        v = (if k % 2 = 0 then RAIL_RSk_LO (k / 2) else RAIL_RSk_HI (k / 2)) ∧
        mine = (List.range 8).filter (fun r => s.bit (RAIL_RAILr_A_USED r) && s.railSense r == some k) ∧
        ∃ (r : Nat) (nom : Nat) (tol : Nat) (j : RailJ), (mine = [r] ∧ nom = s.fget (RAIL_RAILr_A_NOM r) ∧
        tol = max 1 (min 50 (s.fget (RAIL_RAILr_B_TOL r)))) ∧ j = s.judgeOf r ∧ s.railOn r = false ∧ 2 ≤ j.offRun ∧
        code.toNat < nom * s.fget (RAIL_RAILr_B_OFF r) / 100 ∧ s.railState = 7 ∧ (∃ x, x ∈ s.stepRails (s.fget RAIL_STATUS_STEP) ∧ x ≠ r ∧
        (s.judgeOf x).off = false))
    ∧ (∃ (s : State) (k : Nat) (code : BitVec 12) (v : Fld) (mine : List Nat), (k < 40 ∧ (∀ x, s.power.phase ≠ .hibernate x)) ∧
        v = (if k % 2 = 0 then RAIL_RSk_LO (k / 2) else RAIL_RSk_HI (k / 2)) ∧
        mine = (List.range 8).filter (fun r => s.bit (RAIL_RAILr_A_USED r) && s.railSense r == some k) ∧
        ∃ (r : Nat) (nom : Nat) (tol : Nat) (j : RailJ), (mine = [r] ∧ nom = s.fget (RAIL_RAILr_A_NOM r) ∧
        tol = max 1 (min 50 (s.fget (RAIL_RAILr_B_TOL r)))) ∧ j = s.judgeOf r ∧ s.railOn r = false ∧ 2 ≤ j.offRun ∧
        code.toNat < nom * s.fget (RAIL_RAILr_B_OFF r) / 100 ∧ s.railState = 7 ∧ (∀ x, x ∈ s.stepRails (s.fget RAIL_STATUS_STEP) → x ≠ r →
        (s.judgeOf x).off = true))
    ∧ (∃ (s : State) (late : Bool),
        late = decide (s.rail.stepAt + msTicks (max 1 (s.fget (RAIL_STEPs_FROST_TO (s.fget RAIL_STATUS_STEP)))) ≤ s.tick) ∧
        s.railState = 7 ∧ late = true)
    ∧ (∃ (s : State) (late : Bool),
        late = decide (s.rail.stepAt + msTicks (max 1 (s.fget (RAIL_STEPs_FROST_TO (s.fget RAIL_STATUS_STEP)))) ≤ s.tick) ∧
        (s.railState ≠ 7 ∨ late = false))
    ∧ (∃ (s : State) (late : Bool) (k : Nat), k = s.fget RAIL_STATUS_SLAVE ∧ k ≤ 8 ∧
        late = decide (s.rail.slaveAt + msTicks (max 1 (s.fget RAIL_CHAIN_SLAVE_FROST_TO)) ≤ s.tick) ∧ s.railState = 6 ∧ late = true)
    ∧ (∃ (s : State) (late : Bool) (k : Nat), k = s.fget RAIL_STATUS_SLAVE ∧ k ≤ 8 ∧
        late = decide (s.rail.slaveAt + msTicks (max 1 (s.fget RAIL_CHAIN_SLAVE_FROST_TO)) ≤ s.tick) ∧ (s.railState ≠ 6 ∨ late = false))
    ∧ (∃ (s : State), s.rail.link = [])
    ∧ (∃ (s : State), s.rail.link = [])
    ∧ (∃ (s : State) (q : LinkReq) (rest : List LinkReq), s.rail.link = q :: rest ∧ (1 ≤ q.k ∧ q.k ≤ 8) ∧ ∃ t, q.failedAt = some t ∧
        t + usTicks 100 ≤ s.tick)
    ∧ (∃ (s : State) (q : LinkReq) (rest : List LinkReq), s.rail.link = q :: rest ∧ (1 ≤ q.k ∧ q.k ≤ 8) ∧ ∃ t, q.failedAt = some t ∧
        s.tick < t + usTicks 100)
    ∧ (∃ (s : State) (q : LinkReq) (rest : List LinkReq), s.rail.link = q :: rest ∧ (1 ≤ q.k ∧ q.k ≤ 8) ∧ ∃ t, q.failedAt = some t)
    ∧ (∃ (s : State) (q : LinkReq) (rest : List LinkReq), s.rail.link = q :: rest ∧ (1 ≤ q.k ∧ q.k ≤ 8 ∧ q.failedAt = none) ∧
        ∃ (resp : Option (BitVec 40)), (resp.bind (fun w => respOk q.k w.toNat)) = none ∧ q.fails + 1 < 3)
    ∧ (∃ (s : State) (q : LinkReq) (rest : List LinkReq), s.rail.link = q :: rest ∧ (1 ≤ q.k ∧ q.k ≤ 8 ∧ q.failedAt = none) ∧
        ∃ (resp : Option (BitVec 40)), (resp.bind (fun w => respOk q.k w.toNat)) = none ∧ 2 ≤ q.fails ∧ s.railState = 2)
    ∧ (∃ (s : State) (q : LinkReq) (rest : List LinkReq), s.rail.link = q :: rest ∧ (1 ≤ q.k ∧ q.k ≤ 8 ∧ q.failedAt = none) ∧
        ∃ (resp : Option (BitVec 40)), (resp.bind (fun w => respOk q.k w.toNat)) = none ∧ 2 ≤ q.fails ∧ s.railState = 6)
    ∧ (∃ (s : State) (q : LinkReq) (rest : List LinkReq), s.rail.link = q :: rest ∧ (1 ≤ q.k ∧ q.k ≤ 8 ∧ q.failedAt = none) ∧
        ∃ (resp : Option (BitVec 40)), (resp.bind (fun w => respOk q.k w.toNat)) = none ∧ 2 ≤ q.fails ∧ s.railState = 5)
    ∧ (∃ (s : State) (q : LinkReq) (rest : List LinkReq), s.rail.link = q :: rest ∧ (1 ≤ q.k ∧ q.k ≤ 8 ∧ q.failedAt = none) ∧
        ∃ (w : BitVec 40) (st : Nat) (d : Nat), respOk q.k w.toNat = some (st, d))
    ∧ (∃ (s : State) (k : Nat), s.railState = 5 ∧ 1 ≤ k ∧ k ≤ s.nSlaves ∧ (∀ q ∈ s.rail.link, q.k ≠ k) ∧ (∀ t,
        kvGet s.rail.polls k = some t → t + 250000 * max 1 (s.fget RAIL_CFG_POLL) ≤ s.tick))
    ∧ (∃ (s : State) (k : Nat), s.railState ≠ 5 ∨ k = 0 ∨ s.nSlaves < k ∨ (∃ q ∈ s.rail.link, q.k = k) ∨ (∃ t,
        kvGet s.rail.polls k = some t ∧ s.tick < t + 250000 * max 1 (s.fget RAIL_CFG_POLL))) :=
  ⟨⟨runS, 1, _, _, by decide +kernel, rfl, rfl, by decide +kernel⟩,
   ⟨withF [(RAIL_RAILr_A_USED 1, 1), (RAIL_RAILr_A_SENSE 1, 4), (RAIL_RAILr_A_NOM 1, 2730), (RAIL_RAILr_B_TOL 1, 5), (RAIL_RAILr_B_OFF 1,
       10), (RAIL_RAILr_A_STEP 1, 0), (RAIL_GOOD_EN, 2), (RAIL_STATUS_STATE,
       5)] { runS with rail := { runS.rail with judge := [(1, ⟨false, false, 2, 0, 0, none⟩)] } }, 4, 2700, _, _, by decide +kernel, rfl,
       rfl, 1, 2730, 5, _, by decide +kernel, rfl, by decide +kernel⟩,
   ⟨withF [(RAIL_RAILr_A_USED 1, 1), (RAIL_RAILr_A_SENSE 1, 4), (RAIL_RAILr_A_NOM 1, 2730), (RAIL_RAILr_B_TOL 1, 5), (RAIL_RAILr_B_OFF 1,
       10), (RAIL_RAILr_A_STEP 1, 0), (RAIL_GOOD_EN, 2), (RAIL_STATUS_STATE, 3), (RAIL_RAILr_B_FLIPS 1,
       8)] { runS with rail := { runS.rail with judge := [(1, ⟨false, false, 2, 0, 0, none⟩)] } }, 4, 2700, _, _, by decide +kernel, rfl,
       rfl, 1, 2730, 5, _, by decide +kernel, rfl, by decide +kernel⟩,
   ⟨withF [(RAIL_RAILr_A_USED 1, 1), (RAIL_RAILr_A_SENSE 1, 4), (RAIL_RAILr_A_NOM 1, 2730), (RAIL_RAILr_B_TOL 1, 5), (RAIL_RAILr_B_OFF 1,
       10), (RAIL_RAILr_A_STEP 1, 0), (RAIL_GOOD_EN, 2), (RAIL_STATUS_STATE,
       5)] { runS with rail := { runS.rail with judge := [(1, ⟨true, false, 0, 2, 0, some 5⟩)] } }, 4, 100, _, _, by decide +kernel, rfl,
       rfl, 1, 2730, 5, _, by decide +kernel, rfl, by decide +kernel⟩,
   ⟨withF [(RAIL_RAILr_A_USED 1, 1), (RAIL_RAILr_A_SENSE 1, 4), (RAIL_RAILr_A_NOM 1, 2730), (RAIL_RAILr_B_TOL 1, 5), (RAIL_RAILr_B_OFF 1,
       10), (RAIL_RAILr_A_STEP 1, 0), (RAIL_RAILr_A_USED 2, 1), (RAIL_RAILr_A_NOM 2, 2730), (RAIL_RAILr_B_TOL 2, 5), (RAIL_RAILr_B_OFF 2,
       10), (RAIL_RAILr_A_STEP 2, 0), (RAIL_RAILr_A_SENSE 2, 6), (RAIL_STATUS_STATE,
       7)] { runS with rail := { runS.rail with judge := [(1, ⟨false, false, 0, 0, 2, none⟩), (2, ⟨false, false, 0, 0, 0, none⟩)] } }, 4,
       100, _, _, by decide +kernel, rfl, rfl, 1, 2730, 5, _, by decide +kernel, rfl, by decide +kernel⟩,
   ⟨withF [(RAIL_RAILr_A_USED 1, 1), (RAIL_RAILr_A_SENSE 1, 4), (RAIL_RAILr_A_NOM 1, 2730), (RAIL_RAILr_B_TOL 1, 5), (RAIL_RAILr_B_OFF 1,
       10), (RAIL_RAILr_A_STEP 1, 0), (RAIL_STATUS_STATE,
       7)] { runS with rail := { runS.rail with judge := [(1, ⟨false, false, 0, 0, 2, none⟩)] } }, 4, 100, _, _, by decide +kernel, rfl,
       rfl, 1, 2730, 5, _, by decide +kernel, rfl, by decide +kernel⟩,
   ⟨withF [(RAIL_RAILr_A_USED 1, 1), (RAIL_RAILr_A_SENSE 1, 4), (RAIL_RAILr_A_NOM 1, 2730), (RAIL_RAILr_B_TOL 1, 5), (RAIL_RAILr_B_OFF 1,
       10), (RAIL_RAILr_A_STEP 1, 0), (RAIL_RAILr_A_USED 2, 1), (RAIL_RAILr_A_NOM 2, 2730), (RAIL_RAILr_B_TOL 2, 5), (RAIL_RAILr_B_OFF 2,
       10), (RAIL_RAILr_A_STEP 2, 0), (RAIL_RAILr_A_SENSE 2, 6), (RAIL_STATUS_STATE,
       7)] { runS with rail := { runS.rail with judge := [(1, ⟨false, false, 0, 0, 2, none⟩), (2, ⟨false, false, 0, 0, 0, none⟩)] } },
       true, by decide +kernel⟩,
   ⟨runS, true, by decide +kernel⟩,
   ⟨withF [(RAIL_STATUS_STATE, 6)] runS, true, 0, by decide +kernel⟩,
   ⟨runS, true, 0, by decide +kernel⟩,
   ⟨runS, by decide +kernel⟩,
   ⟨runS, by decide +kernel⟩,
   ⟨withF [(RAIL_STATUS_STATE, 5), (RAIL_CFG_NSLAVES, 2)] { runS with rail := { runS.rail with link := [⟨1, 3, 0, 0, some 5⟩] } }, _, _,
       rfl, by decide +kernel, 5, by decide +kernel⟩,
   ⟨withF [(RAIL_STATUS_STATE, 5), (RAIL_CFG_NSLAVES, 2)] { runS with rail := { runS.rail with link := [⟨1, 3, 0, 0, some 2500000000⟩] } },
       _, _, rfl, by decide +kernel, 2500000000, by decide +kernel⟩,
   ⟨withF [(RAIL_STATUS_STATE, 5), (RAIL_CFG_NSLAVES, 2)] { runS with rail := { runS.rail with link := [⟨1, 3, 0, 0, some 5⟩] } }, _, _,
       rfl, by decide +kernel, 5, by decide +kernel⟩,
   ⟨withF [(RAIL_STATUS_STATE, 5), (RAIL_CFG_NSLAVES, 2)] { runS with rail := { runS.rail with link := [⟨1, 3, 0, 0, none⟩] } }, _, _, rfl,
       by decide +kernel, none, by decide +kernel⟩,
   ⟨withF [(RAIL_STATUS_STATE, 2), (RAIL_CFG_NSLAVES, 2)] { runS with rail := { runS.rail with link := [⟨1, 3, 0, 2, none⟩] } }, _, _, rfl,
       by decide +kernel, none, by decide +kernel⟩,
   ⟨withF [(RAIL_STATUS_STATE, 6), (RAIL_CFG_NSLAVES, 2)] { runS with rail := { runS.rail with link := [⟨1, 3, 0, 2, none⟩] } }, _, _, rfl,
       by decide +kernel, none, by decide +kernel⟩,
   ⟨withF [(RAIL_STATUS_STATE, 5), (RAIL_CFG_NSLAVES, 2)] { runS with rail := { runS.rail with link := [⟨1, 3, 0, 2, none⟩] } }, _, _, rfl,
       by decide +kernel, none, by decide +kernel⟩,
   ⟨withF [(RAIL_STATUS_STATE, 5), (RAIL_CFG_NSLAVES, 2)] { runS with rail := { runS.rail with link := [⟨1, 3, 0, 0, none⟩] } }, _, _, rfl,
       by decide +kernel, BitVec.ofNat 40 (0x4B * 2 ^ 32 + 0x110055 * 256 + crc8 0x110055 24), 1, 85, by decide +kernel⟩,
   ⟨withF [(RAIL_STATUS_STATE, 5), (RAIL_CFG_NSLAVES, 2)] { runS with rail := { runS.rail with link := [⟨1, 3, 0, 0, some 5⟩] } }, 2,
       by decide +kernel⟩,
   ⟨runS, 1, by decide +kernel⟩⟩

theorem meets_FaultCollector :
    (∃ (s : State), s.faultQ = [])
    ∧ (∃ (s : State) (m : FaultMsg) (rest : List FaultMsg) (eff : Nat) (old : Nat) (was : Bool), s.faultQ = m :: rest ∧
        srcExists m.src = true ∧ m.kind < 64 ∧ m.detail < 65536 ∧ eff = s.effClass m ∧ eff ≤ 2 ∧ was = s.bit (FLT_SRCs_STATUS m.src) ∧
        old = s.fget (FLT_SRCs_EFF m.src) ∧ old ≤ 2)
    ∧ (∃ (s : State) (src : Nat) (g : Grace), srcExists src = true ∧ kvGet s.flt.grace src = some g ∧ g.kind < 64 ∧ g.detail < 65536 ∧
        g.until_ ≤ s.tick)
    ∧ (∃ (s : State) (src : Nat) (g : Grace), srcExists src = true ∧ kvGet s.flt.grace src = some g ∧ g.kind < 64 ∧ g.detail < 65536 ∧
        s.tick < g.until_)
    ∧ (∃ (s : State) (src : Nat), kvGet s.flt.grace src = none)
    ∧ (∃ (src : Nat), srcExists src = true)
    ∧ (∃ (s : State), ∃ e, ∃ rest, s.flt.queue = e :: rest)
    ∧ (∃ (s : State), s.flt.queue = [])
    ∧ (∃ (s : State), s.flt.owed = false ∨ 128 ≤ s.flt.queue.length)
    ∧ (∃ (s : State), s.flt.owed = true ∧ s.flt.queue.length < 128) :=
  ⟨⟨runS, by decide +kernel⟩,
   ⟨{ runS with faultQ := [⟨0x140, 5, 77, 0⟩] }, _, _, 2, 0, false, rfl, by decide +kernel⟩,
   ⟨{ runS with flt := { runS.flt with grace := [(0x140, ⟨5, 3, 9⟩)] } }, 320, _, by decide +kernel, rfl, by decide +kernel⟩,
   ⟨{ runS with flt := { runS.flt with grace := [(0x140, ⟨2500000001, 3, 9⟩)] } }, 320, _, by decide +kernel, rfl, by decide +kernel⟩,
   ⟨runS, 320, by decide +kernel⟩,
   ⟨320, by decide +kernel⟩,
   ⟨{ runS with flt := { runS.flt with queue := [[1, 2, 3, 4]] } }, _, _, rfl⟩,
   ⟨runS, by decide +kernel⟩,
   ⟨runS, by decide +kernel⟩,
   ⟨{ runS with flt := { runS.flt with owed := true } }, by decide +kernel⟩⟩

theorem meets_ClearAndThermal :
    (∃ (s : State), s.bit FLT_STATUS_SAFE = false)
    ∧ (∃ (s : State) (held : Bool),
        held = ((List.range 1024).any (fun src => s.bit (FLT_SRCs_STATUS src) && s.fget (FLT_SRCs_EFF src) == 2) || s.faultQ.any (fun m => s.effClass m == 2) || s.bit THM_STATUS_TRIP_ACT) ∧ s.bit FLT_STATUS_SAFE = true ∧ held = true)
    ∧ (∃ (s : State) (held : Bool),
        held = ((List.range 1024).any (fun src => s.bit (FLT_SRCs_STATUS src) && s.fget (FLT_SRCs_EFF src) == 2) || s.faultQ.any (fun m => s.effClass m == 2) || s.bit THM_STATUS_TRIP_ACT) ∧ s.bit FLT_STATUS_SAFE = true ∧ held = false)
    ∧ (∃ (s : State) (t : Int), -5000 ≤ t ∧ t ≤ 15000 ∧ s.bit THM_STATUS_SENSOR_BAD = true)
    ∧ (∃ (s : State) (t : Int), -5000 ≤ t ∧ t ≤ 15000 ∧ s.bit THM_STATUS_SENSOR_BAD = false)
    ∧ (∃ (s : State) (r : Diode) (v : Int) (cause : Nat), (r = .good v ∧ (v < -5000 ∨ 15000 < v) ∧ cause = 3 ∨ r = .bad cause v) ∧
        cause < 4 ∧ (s.flt.badRun < 2 ∨ s.bit THM_STATUS_SENSOR_BAD = true))
    ∧ (∃ (s : State) (r : Diode) (v : Int) (cause : Nat), (r = .good v ∧ (v < -5000 ∨ 15000 < v) ∧ cause = 3 ∨ r = .bad cause v) ∧
        cause < 4 ∧ 2 ≤ s.flt.badRun ∧ s.bit THM_STATUS_SENSOR_BAD = false)
    ∧ (∃ (s : State), s.bit THM_STATUS_TRIP_EN = true ∧ s.bit THM_STATUS_TRIP_ACT = false)
    ∧ (∃ (s : State), s.bit THM_STATUS_TRIP_EN = false ∨ s.bit THM_STATUS_TRIP_ACT = true)
    ∧ (∃ (s : State), s.bit THM_STATUS_SENSOR_BAD = false)
    ∧ (∃ (s : State), s.bit THM_STATUS_SENSOR_BAD = true ∧ s.flt.goodRun < 3)
    ∧ (∃ (s : State), s.bit THM_STATUS_SENSOR_BAD = true ∧ 3 ≤ s.flt.goodRun) :=
  ⟨⟨runS, by decide +kernel⟩,
   ⟨withF [(FLT_STATUS_SAFE, 1), (THM_STATUS_TRIP_ACT, 1)] runS, true, by decide +kernel⟩,
   ⟨withF [(FLT_STATUS_SAFE, 1)] runS, false, by decide +kernel⟩,
   ⟨withF [(THM_STATUS_SENSOR_BAD, 1)] runS, 4500, by decide +kernel⟩,
   ⟨runS, 4500, by decide +kernel⟩,
   ⟨runS, .bad 2 20000, 20000, 2, by decide +kernel⟩,
   ⟨{ runS with flt := { runS.flt with badRun := 2 } }, .bad 2 20000, 20000, 2, by decide +kernel⟩,
   ⟨runS, by decide +kernel⟩,
   ⟨withF [(FLT_STATUS_SAFE, 1), (THM_STATUS_TRIP_ACT, 1)] runS, by decide +kernel⟩,
   ⟨runS, by decide +kernel⟩,
   ⟨withF [(THM_STATUS_SENSOR_BAD, 1)] runS, by decide +kernel⟩,
   ⟨withF [(THM_STATUS_SENSOR_BAD, 1)] ({ runS with flt := { runS.flt with goodRun := 3 } }), by decide +kernel⟩⟩

theorem meets_ResetsAndBoot :
    (∃ (s : State) (c : Instr) (cause : Nat), (c = .watchdogEv ∧ cause = 4 ∨ c = .packageFault ∧ cause = 3 ∨ c = .resetPin true ∧
        cause = 5 ∧ s.power.pinLow = false ∨ c = .softReset 0xC1EA ∧ cause = 6 ∧ s.power.phase = .run ∨ (∃ r, r < 6 ∧
        c = .railUndervoltage r ∧ cause = 2 ∧ s.onVback = false)) ∧ (s.power.phase = .run ∨ s.power.phase = .recovery))
    ∧ (∃ (s : State) (c : Instr) (cause : Nat), (c = .watchdogEv ∧ cause = 4 ∨ c = .packageFault ∧ cause = 3 ∨ c = .resetPin true ∧
        cause = 5 ∧ s.power.pinLow = false ∨ c = .softReset 0xC1EA ∧ cause = 6 ∧ s.power.phase = .run ∨ (∃ r, r < 6 ∧
        c = .railUndervoltage r ∧ cause = 2 ∧ s.onVback = false)) ∧ s.power.phase = .reset ∧ s.released = true)
    ∧ (∃ (s : State) (c : Instr) (cause : Nat), (c = .watchdogEv ∧ cause = 4 ∨ c = .packageFault ∧ cause = 3 ∨ c = .resetPin true ∧
        cause = 5 ∧ s.power.pinLow = false ∨ c = .softReset 0xC1EA ∧ cause = 6 ∧ s.power.phase = .run ∨ (∃ r, r < 6 ∧
        c = .railUndervoltage r ∧ cause = 2 ∧ s.onVback = false)) ∧ s.power.phase = .reset ∧ s.released = false)
    ∧ (∃ (s : State) (c : Instr) (cause : Nat), (c = .watchdogEv ∧ cause = 4 ∨ c = .packageFault ∧ cause = 3 ∨ c = .resetPin true ∧
        cause = 5 ∧ s.power.pinLow = false ∨ c = .softReset 0xC1EA ∧ cause = 6 ∧ s.power.phase = .run ∨ (∃ r, r < 6 ∧
        c = .railUndervoltage r ∧ cause = 2 ∧ s.onVback = false)) ∧ ((∃ x y, s.power.phase = .backup x y) ∨ (∃ x,
        s.power.phase = .hibernate x)))
    ∧ (∃ (s : State), (s.power.phase = .run ∨ s.power.phase = .recovery) ∧ s.power.pinLow = false)
    ∧ (∃ (s : State), (s.power.phase = .run ∨ s.power.phase = .recovery) ∧ ∃ (r : Nat), r < 6 ∧ s.onVback = false)
    ∧ (∃ (s : State), s.power.phase = .run)
    ∧ (∃ (s : State) (r : Nat), r < 6 ∧ s.onVback = true)
    ∧ (∃ (s : State), s.power.pinLow = true)
    ∧ (∃ (s : State), s.power.phase ≠ .run)
    ∧ (∃ (s : State) (key : BitVec 16), s.power.phase = .run ∧ key ≠ 0xC1EA)
    ∧ (∃ (s : State), s.released = true ∧ s.power.bootAt + msTicks 2000 ≤ s.tick)
    ∧ (∃ (s : State), s.released = false ∨ s.tick < s.power.bootAt + msTicks 2000)
    ∧ (∃ (s : State), s.released = false)
    ∧ (∃ (s : State) (train : Bool) (flash : Bool), s.released = true ∧ (flash = false ∨ train = false ∨
        s.fget SYS_RESET_CAUSE_BOOT_FAILS = 3 ∨ s.bit SYS_STRAPS_RECOVERY = true))
    ∧ (∃ (s : State), s.released = true ∧ s.fget SYS_RESET_CAUSE_BOOT_FAILS ≠ 3 ∧ s.bit SYS_STRAPS_RECOVERY = false)
    ∧ (∃ (s : State) (fresh : Bool) (alive : Bool),
        alive = (decide (s.power.phase = .run) && s.bit SYS_HB_HB_EN && s.bit SYS_STATUS_BOOT_DONE && fresh) ∧ alive = false)
    ∧ (∃ (s : State) (fresh : Bool) (alive : Bool),
        alive = (decide (s.power.phase = .run) && s.bit SYS_HB_HB_EN && s.bit SYS_STATUS_BOOT_DONE && fresh) ∧ alive = true ∧
        s.timeFx % (500000 * 2 ^ 24) < s.fget TIME_INC_INC)
    ∧ (∃ (s : State) (fresh : Bool) (alive : Bool),
        alive = (decide (s.power.phase = .run) && s.bit SYS_HB_HB_EN && s.bit SYS_STATUS_BOOT_DONE && fresh) ∧ alive = true ∧
        s.fget TIME_INC_INC ≤ s.timeFx % (500000 * 2 ^ 24)) :=
  ⟨⟨runS, .watchdogEv, 4, Or.inl ⟨rfl, rfl⟩, by decide +kernel⟩,
   ⟨withF [(SYS_STRAPS_RECOVERY, 0), (SYS_RESET_CAUSE_BOOT_FAILS, 0)] ({ runS with power := { runS.power with phase := .reset } }),
       .watchdogEv, 4, Or.inl ⟨rfl, rfl⟩, by decide +kernel⟩,
   ⟨{ ({ runS with power := { runS.power with phase := .reset } }) with jrn := { runS.jrn with staged := [⟨1, 1, 0, 0, 0, false, 5, 7, 0, 0, 0, [], 0, 0, true, false⟩] } }, .watchdogEv, 4, Or.inl ⟨rfl, rfl⟩, by decide +kernel⟩,
   ⟨{ runS with power := { runS.power with phase := .backup false true } }, .watchdogEv, 4, Or.inl ⟨rfl, rfl⟩, by decide +kernel⟩,
   ⟨runS, by decide +kernel⟩,
   ⟨runS, by decide +kernel, 4, by decide +kernel⟩,
   ⟨runS, by decide +kernel⟩,
   ⟨withF [(SYS_STATUS_ON_VBACK, 1)] runS, 4, by decide +kernel⟩,
   ⟨{ runS with power := { runS.power with pinLow := true } }, by decide +kernel⟩,
   ⟨withF [(SYS_STRAPS_RECOVERY, 0), (SYS_RESET_CAUSE_BOOT_FAILS, 0)] ({ runS with power := { runS.power with phase := .reset } }),
       by decide +kernel⟩,
   ⟨runS, 1, by decide +kernel⟩,
   ⟨withF [(SYS_STRAPS_RECOVERY, 0), (SYS_RESET_CAUSE_BOOT_FAILS, 0)] ({ runS with power := { runS.power with phase := .reset } }),
       by decide +kernel⟩,
   ⟨runS, by decide +kernel⟩,
   ⟨runS, by decide +kernel⟩,
   ⟨withF [(SYS_STRAPS_RECOVERY, 0), (SYS_RESET_CAUSE_BOOT_FAILS, 0)] ({ runS with power := { runS.power with phase := .reset } }), true,
       false, by decide +kernel⟩,
   ⟨withF [(SYS_STRAPS_RECOVERY, 0), (SYS_RESET_CAUSE_BOOT_FAILS, 0)] ({ runS with power := { runS.power with phase := .reset } }),
       by decide +kernel⟩,
   ⟨runS, true, false, by decide +kernel⟩,
   ⟨withF [(SYS_HB_HB_EN, 1), (SYS_STATUS_BOOT_DONE, 1)] { runS with timeFx := 0 }, true, true, by decide +kernel⟩,
   ⟨withF [(SYS_HB_HB_EN, 1), (SYS_STATUS_BOOT_DONE, 1)] { runS with timeFx := 100000 * 2 ^ 24 }, true, true, by decide +kernel⟩⟩

theorem meets_SuppliesAndHibernate :
    (∃ (mv : Nat), 2650 ≤ mv)
    ∧ (∃ (mv : Nat), mv < 2650)
    ∧ (∃ (s : State) (mv : Nat), mv < 65536 ∧ (mv ≤ 2720 ∨ s.power.vmainSince.isSome = true))
    ∧ (∃ (s : State) (mv : Nat), mv < 65536 ∧ 2720 < mv ∧ s.power.vmainSince = none)
    ∧ (∃ (s : State) (vm : Nat) (vb : Nat), vm < 65536 ∧ vb < 65536 ∧ (∃ x, s.power.phase = .hibernate x))
    ∧ (∃ (s : State) (vm : Nat) (vb : Nat), (vm < 65536 ∧ vb < 65536) ∧ ∃ (x : Bool) (y : Bool), s.power.phase = .backup x y)
    ∧ (∃ (s : State) (vm : Nat) (vb : Nat), vm < 65536 ∧ vb < 65536 ∧ (s.power.phase = .run ∨ s.power.phase = .recovery ∨
        s.power.phase = .reset))
    ∧ (∃ (s : State) (soft : Bool), s.power.phase = .backup soft true ∧ s.railState ≠ 0)
    ∧ (∃ (s : State) (soft : Bool), s.power.phase = .backup soft true ∧ s.railState = 0 ∧ soft = false ∧ s.vmainSteady = true)
    ∧ (∃ (s : State) (soft : Bool), s.power.phase = .backup soft true ∧ s.railState = 0 ∧ (soft = true ∨ s.vmainSteady = false))
    ∧ (∃ (s : State), (∀ x, s.power.phase ≠ .backup x true))
    ∧ (∃ (s : State) (busy : Bool),
        busy = (s.anyActive || (List.range 8).any (fun n => s.bit (DRVn_CTRL_ENABLE n)) || (List.range 20).any (fun n => s.bit (AXSn_CTRL_ENABLE n)) || s.bit FUS_CTRL_FUSER_EN_REQ) ∧ s.power.phase ≠ .run)
    ∧ (∃ (s : State) (key : BitVec 16) (busy : Bool),
        busy = (s.anyActive || (List.range 8).any (fun n => s.bit (DRVn_CTRL_ENABLE n)) || (List.range 20).any (fun n => s.bit (AXSn_CTRL_ENABLE n)) || s.bit FUS_CTRL_FUSER_EN_REQ) ∧ s.power.phase = .run ∧ (busy = true ∨ key ≠ 0x1BE5))
    ∧ (∃ (s : State) (key : BitVec 16) (busy : Bool),
        busy = (s.anyActive || (List.range 8).any (fun n => s.bit (DRVn_CTRL_ENABLE n)) || (List.range 20).any (fun n => s.bit (AXSn_CTRL_ENABLE n)) || s.bit FUS_CTRL_FUSER_EN_REQ) ∧ s.power.phase = .run ∧ busy = false ∧ key = 0x1BE5)
    ∧ (∃ (s : State) (c : Instr) (b : Nat), (b < 4 ∧ c = .wakeInput b ∧ (s.fget SYS_WAKE_CFG_EN).testBit b = true ∨ b = 4 ∧ c = .alarmEv ∧
        s.bit SYS_WAKE_CFG_ALARM_EN = true ∧ s.rtc = s.rtcAlarm) ∧ s.power.phase ≠ .hibernate true)
    ∧ (∃ (s : State) (c : Instr) (b : Nat), (b < 4 ∧ c = .wakeInput b ∧ (s.fget SYS_WAKE_CFG_EN).testBit b = true ∨ b = 4 ∧ c = .alarmEv ∧
        s.bit SYS_WAKE_CFG_ALARM_EN = true ∧ s.rtc = s.rtcAlarm) ∧ s.power.phase = .hibernate true ∧ s.power.vmainSince = none)
    ∧ (∃ (s : State) (c : Instr) (b : Nat), (b < 4 ∧ c = .wakeInput b ∧ (s.fget SYS_WAKE_CFG_EN).testBit b = true ∨ b = 4 ∧ c = .alarmEv ∧
        s.bit SYS_WAKE_CFG_ALARM_EN = true ∧ s.rtc = s.rtcAlarm) ∧ s.power.phase = .hibernate true ∧ s.power.vmainSince.isSome = true ∧
        s.power.wakes = 0)
    ∧ (∃ (s : State), (s.power.phase = .hibernate true ∧ s.power.vmainSince.isSome = true ∧ s.power.wakes = 0) ∧ ∃ (k : Nat), k < 4 ∧
        (s.fget SYS_WAKE_CFG_EN).testBit k = true)
    ∧ (∃ (s : State), s.power.phase = .hibernate true ∧ s.power.vmainSince.isSome = true ∧ s.power.wakes = 0 ∧
        s.bit SYS_WAKE_CFG_ALARM_EN = true ∧ s.rtc = s.rtcAlarm)
    ∧ (∃ (s : State) (k : Nat), k < 4 ∧ (s.fget SYS_WAKE_CFG_EN).testBit k = false)
    ∧ (∃ (s : State), s.bit SYS_WAKE_CFG_ALARM_EN = false ∨ s.rtc ≠ s.rtcAlarm)
    ∧ (∃ (s : State), s.power.phase = .hibernate false ∧ s.vmainSteady = true)
    ∧ (∃ (s : State), s.power.phase ≠ .hibernate false ∨ s.vmainSteady = false)
    ∧ (∃ (s : State), s.aonQ = [])
    ∧ (∃ (s : State), ∃ a, ∃ w, ∃ rest, s.aonQ = (a, w) :: rest)
    ∧ (∃ (s : State) (w : Nat) (rest : List (Nat × Nat)), s.aonQ = (SYS_BK_MIN_BK_MIN.addr, w) :: rest ∧ s.aonWait = [])
    ∧ (∃ (s : State) (k : Nat), k < 4 ∧ (s.fget SYS_CLK_LOCK).testBit k = true)
    ∧ (∃ (s : State) (k : Nat), k < 4 ∧ (s.fget SYS_CLK_LOCK).testBit k = false)
    ∧ (∃ (s : State) (k : Nat), k < 4 ∧ (s.power.phase = .run ∨ s.power.phase = .recovery))
    ∧ (∃ (s : State) (k : Nat), k < 4 ∧ s.power.phase ≠ .run ∧ s.power.phase ≠ .recovery)
    ∧ (∃ (s : State), s.bit SYS_CLK_REF_OK = true)
    ∧ (∃ (s : State), s.bit SYS_CLK_REF_OK = false)
    ∧ (∃ (s : State), s.bit SYS_CLK_XT32_FAIL = false)
    ∧ (∃ (s : State), s.bit SYS_CLK_XT32_FAIL = true) :=
  ⟨⟨2700, by decide +kernel⟩,
   ⟨2, by decide +kernel⟩,
   ⟨runS, 2, by decide +kernel⟩,
   ⟨runS, 3000, by decide +kernel⟩,
   ⟨{ runS with power := { runS.power with phase := .hibernate true, vmainSince := none } }, 2, 2, by decide +kernel⟩,
   ⟨withF [(RAIL_STATUS_STATE, 0)] ({ runS with power := { runS.power with phase := .backup false true, vmainSince := some 5 } }), 2, 2,
       by decide +kernel, false, true, by decide +kernel⟩,
   ⟨runS, 2, 2, by decide +kernel⟩,
   ⟨withF [(RAIL_STATUS_STATE, 6)] ({ runS with power := { runS.power with phase := .backup true true } }), true, by decide +kernel⟩,
   ⟨withF [(RAIL_STATUS_STATE, 0)] ({ runS with power := { runS.power with phase := .backup false true, vmainSince := some 5 } }), false,
       by decide +kernel⟩,
   ⟨withF [(RAIL_STATUS_STATE, 0)] ({ runS with power := { runS.power with phase := .backup true true, vmainSince := none } }), true,
       by decide +kernel⟩,
   ⟨runS, by decide +kernel⟩,
   ⟨{ runS with power := { runS.power with phase := .hibernate true, vmainSince := none } }, false, by decide +kernel⟩,
   ⟨runS, 0, false, by decide +kernel⟩,
   ⟨runS, 7141, false, by decide +kernel⟩,
   ⟨withF [(SYS_WAKE_CFG_EN, 15)] runS, .wakeInput 2, 2, Or.inl (by decide +kernel), by decide +kernel⟩,
   ⟨withF [(SYS_WAKE_CFG_EN, 15)] ({ runS with power := { runS.power with phase := .hibernate true, vmainSince := none } }), .wakeInput 2,
       2, Or.inl (by decide +kernel), by decide +kernel⟩,
   ⟨withF [(SYS_WAKE_CFG_EN, 15)] ({ runS with power := { runS.power with phase := .hibernate true, vmainSince := some 5, wakes := 0 } }),
       .wakeInput 2, 2, Or.inl (by decide +kernel), by decide +kernel⟩,
   ⟨withF [(SYS_WAKE_CFG_EN, 15)] ({ runS with power := { runS.power with phase := .hibernate true, vmainSince := some 5, wakes := 0 } }),
       by decide +kernel, 2, by decide +kernel⟩,
   ⟨withF [(SYS_WAKE_CFG_EN, 15), (SYS_WAKE_CFG_ALARM_EN,
       1)] ({ runS with power := { runS.power with phase := .hibernate true, vmainSince := some 5, wakes := 0 } }), by decide +kernel⟩,
   ⟨runS, 2, by decide +kernel⟩,
   ⟨runS, by decide +kernel⟩,
   ⟨{ runS with power := { runS.power with phase := .hibernate false, vmainSince := some 5 } }, by decide +kernel⟩,
   ⟨runS, by decide +kernel⟩,
   ⟨runS, by decide +kernel⟩,
   ⟨{ runS with aonQ := [(SYS_BK_MIN_BK_MIN.addr, 9)] }, 137438953496, 9, _, rfl⟩,
   ⟨{ runS with aonQ := [(SYS_BK_MIN_BK_MIN.addr, 9)] }, 9, [], by decide +kernel⟩,
   ⟨withF [(SYS_CLK_LOCK, 15), (SYS_CLK_REF_OK, 1)] runS, 2, by decide +kernel⟩,
   ⟨runS, 2, by decide +kernel⟩,
   ⟨runS, 2, by decide +kernel⟩,
   ⟨{ runS with power := { runS.power with phase := .hibernate true, vmainSince := none } }, 2, by decide +kernel⟩,
   ⟨withF [(SYS_CLK_LOCK, 15), (SYS_CLK_REF_OK, 1)] runS, by decide +kernel⟩,
   ⟨runS, by decide +kernel⟩,
   ⟨runS, by decide +kernel⟩,
   ⟨withF [(SYS_CLK_LOCK, 0), (SYS_CLK_REF_OK, 0), (SYS_CLK_XT32_FAIL, 1)] runS, by decide +kernel⟩⟩

theorem meets_TokensAndRecovery :
    (∃ (s : State) (c : Instr) (a : Nat) (blank : Bool) (hit : Bool), (c = .lockEv ∧ a = 1 ∨ c = .unlockEv ∧ a = 2 ∨ c = .debugEv ∧
        a = 3) ∧ blank = (if a = 3 then Config.debugBlank else Config.ownerBlank) ∧
        hit = (if a = 3 then Config.debugMatch s.tokenWord else Config.ownerMatch s.tokenWord))
    ∧ (∃ (s : State), s.upd.asked = [])
    ∧ (∃ (s : State), ∃ b, ∃ rest, s.upd.asked = .lock b :: rest)
    ∧ (∃ (s : State), ∃ rest, s.upd.asked = .debugFail :: rest)
    ∧ (∃ (s : State), s.areaOf s.runSlot = none)
    ∧ (∃ (s : State), ∃ i, ∃ a, s.areaOf s.runSlot = some (i, a) ∧ 8 * (32 + 8 * a.entries.length) < 7 * 2 ^ 20)
    ∧ (∃ (s : State), ∃ i, ∃ a, s.areaOf s.runSlot = some (i, a) ∧ 7 * 2 ^ 20 ≤ 8 * (32 + 8 * a.entries.length))
    ∧ (∃ (s : State) (f : RecFrame) (c : Instr) (op : Nat) (hd : Nat → Nat → List Byte) (ans : Nat → Nat → List Byte), ((f.path = 1 ∨
        f.path = 2) ∧ f.data.length ≤ 1024 ∧ (c = .recoveryData f ∧ op = 1 ∨ c = .recoveryDone f ∧ op = 2 ∨ c = .recoveryActivate f ∧
        op = 3 ∨ c = .recoveryToken f ∧ op = 4)) ∧ (∀ o st, hd o st = [o, st, f.seq, f.seq / 256, f.offset, f.offset / 256,
        f.offset / 65536, f.offset / 16777216].map (fun x => BitVec.ofNat 8 x)) ∧ (∀ o st, ans o st = if f.path = 2 then [0x7E, 8,
        0] ++ hd o st ++ natToBytes (crc16 ((hd o st).flatMap (fun x => bitsOf x.toNat 8))) 2 else hd o st) ∧ (s.power.phase ≠ .recovery ∨
        s.upd.path.isSome = true ∧ s.upd.path ≠ some f.path))
    ∧ (∃ (s : State) (f : RecFrame) (c : Instr) (op : Nat) (hd : Nat → Nat → List Byte) (ans : Nat → Nat → List Byte), ((f.path = 1 ∨
        f.path = 2) ∧ f.data.length ≤ 1024 ∧ (c = .recoveryData f ∧ op = 1 ∨ c = .recoveryDone f ∧ op = 2 ∨ c = .recoveryActivate f ∧
        op = 3 ∨ c = .recoveryToken f ∧ op = 4)) ∧ (∀ o st, hd o st = [o, st, f.seq, f.seq / 256, f.offset, f.offset / 256,
        f.offset / 65536, f.offset / 16777216].map (fun x => BitVec.ofNat 8 x)) ∧ (∀ o st, ans o st = if f.path = 2 then [0x7E, 8,
        0] ++ hd o st ++ natToBytes (crc16 ((hd o st).flatMap (fun x => bitsOf x.toNat 8))) 2 else hd o st) ∧ (s.power.phase = .recovery ∧
        (s.upd.path = none ∨ s.upd.path = some f.path)) ∧ ∃ l, s.upd.lastSeq = some l ∧ f.seq % 65536 = l % 65536)
    ∧ (∃ (s : State) (f : RecFrame) (c : Instr) (op : Nat) (hd : Nat → Nat → List Byte) (ans : Nat → Nat → List Byte), ((f.path = 1 ∨
        f.path = 2) ∧ f.data.length ≤ 1024 ∧ (c = .recoveryData f ∧ op = 1 ∨ c = .recoveryDone f ∧ op = 2 ∨ c = .recoveryActivate f ∧
        op = 3 ∨ c = .recoveryToken f ∧ op = 4)) ∧ (∀ o st, hd o st = [o, st, f.seq, f.seq / 256, f.offset, f.offset / 256,
        f.offset / 65536, f.offset / 16777216].map (fun x => BitVec.ofNat 8 x)) ∧ (∀ o st, ans o st = if f.path = 2 then [0x7E, 8,
        0] ++ hd o st ++ natToBytes (crc16 ((hd o st).flatMap (fun x => bitsOf x.toNat 8))) 2 else hd o st) ∧ (s.power.phase = .recovery ∧
        (s.upd.path = none ∨ s.upd.path = some f.path)) ∧ ∃ l, s.upd.lastSeq = some l ∧ f.seq % 65536 ≠ (l + 1) % 65536 ∧
        f.seq % 65536 ≠ l % 65536)
    ∧ (∃ (s : State) (f : RecFrame) (c : Instr) (op : Nat) (hd : Nat → Nat → List Byte) (ans : Nat → Nat → List Byte), ((f.path = 1 ∨
        f.path = 2) ∧ f.data.length ≤ 1024 ∧ (c = .recoveryData f ∧ op = 1 ∨ c = .recoveryDone f ∧ op = 2 ∨ c = .recoveryActivate f ∧
        op = 3 ∨ c = .recoveryToken f ∧ op = 4)) ∧ (∀ o st, hd o st = [o, st, f.seq, f.seq / 256, f.offset, f.offset / 256,
        f.offset / 65536, f.offset / 16777216].map (fun x => BitVec.ofNat 8 x)) ∧ (∀ o st, ans o st = if f.path = 2 then [0x7E, 8,
        0] ++ hd o st ++ natToBytes (crc16 ((hd o st).flatMap (fun x => bitsOf x.toNat 8))) 2 else hd o st) ∧ (s.power.phase = .recovery ∧
        (s.upd.path = none ∨ s.upd.path = some f.path)) ∧ (s.upd.lastSeq = none ∨ (∃ l, s.upd.lastSeq = some l ∧
        f.seq % 65536 = (l + 1) % 65536)) ∧ (c = .recoveryData f ∨ c = .recoveryDone f) ∧ s.upd.lock = true ∧ s.upd.token = false)
    ∧ (∃ (s : State) (f : RecFrame) (c : Instr) (op : Nat) (hd : Nat → Nat → List Byte) (ans : Nat → Nat → List Byte), ((f.path = 1 ∨
        f.path = 2) ∧ f.data.length ≤ 1024 ∧ (c = .recoveryData f ∧ op = 1 ∨ c = .recoveryDone f ∧ op = 2 ∨ c = .recoveryActivate f ∧
        op = 3 ∨ c = .recoveryToken f ∧ op = 4)) ∧ (∀ o st, hd o st = [o, st, f.seq, f.seq / 256, f.offset, f.offset / 256,
        f.offset / 65536, f.offset / 16777216].map (fun x => BitVec.ofNat 8 x)) ∧ (∀ o st, ans o st = if f.path = 2 then [0x7E, 8,
        0] ++ hd o st ++ natToBytes (crc16 ((hd o st).flatMap (fun x => bitsOf x.toNat 8))) 2 else hd o st) ∧ (s.power.phase = .recovery ∧
        (s.upd.path = none ∨ s.upd.path = some f.path)) ∧ (s.upd.lastSeq = none ∨ (∃ l, s.upd.lastSeq = some l ∧
        f.seq % 65536 = (l + 1) % 65536)) ∧ (s.upd.lock = false ∨ s.upd.token = true))
    ∧ (∃ (s : State) (f : RecFrame) (c : Instr) (op : Nat) (hd : Nat → Nat → List Byte) (ans : Nat → Nat → List Byte), ((f.path = 1 ∨
        f.path = 2) ∧ f.data.length ≤ 1024 ∧ (c = .recoveryData f ∧ op = 1 ∨ c = .recoveryDone f ∧ op = 2 ∨ c = .recoveryActivate f ∧
        op = 3 ∨ c = .recoveryToken f ∧ op = 4)) ∧ (∀ o st, hd o st = [o, st, f.seq, f.seq / 256, f.offset, f.offset / 256,
        f.offset / 65536, f.offset / 16777216].map (fun x => BitVec.ofNat 8 x)) ∧ (∀ o st, ans o st = if f.path = 2 then [0x7E, 8,
        0] ++ hd o st ++ natToBytes (crc16 ((hd o st).flatMap (fun x => bitsOf x.toNat 8))) 2 else hd o st) ∧ (s.power.phase = .recovery ∧
        (s.upd.path = none ∨ s.upd.path = some f.path)) ∧ (s.upd.lastSeq = none ∨ (∃ l, s.upd.lastSeq = some l ∧
        f.seq % 65536 = (l + 1) % 65536)) ∧ (s.upd.lock = false ∨ s.upd.token = true) ∧ s.upd.erasing = true)
    ∧ (∃ (s : State) (f : RecFrame) (c : Instr) (op : Nat) (hd : Nat → Nat → List Byte) (ans : Nat → Nat → List Byte), ((f.path = 1 ∨
        f.path = 2) ∧ f.data.length ≤ 1024 ∧ (c = .recoveryData f ∧ op = 1 ∨ c = .recoveryDone f ∧ op = 2 ∨ c = .recoveryActivate f ∧
        op = 3 ∨ c = .recoveryToken f ∧ op = 4)) ∧ (∀ o st, hd o st = [o, st, f.seq, f.seq / 256, f.offset, f.offset / 256,
        f.offset / 65536, f.offset / 16777216].map (fun x => BitVec.ofNat 8 x)) ∧ (∀ o st, ans o st = if f.path = 2 then [0x7E, 8,
        0] ++ hd o st ++ natToBytes (crc16 ((hd o st).flatMap (fun x => bitsOf x.toNat 8))) 2 else hd o st) ∧ (s.power.phase = .recovery ∧
        (s.upd.path = none ∨ s.upd.path = some f.path)) ∧ (s.upd.lastSeq = none ∨ (∃ l, s.upd.lastSeq = some l ∧
        f.seq % 65536 = (l + 1) % 65536)) ∧ ∃ b, ((s.upd.lock = false ∨ s.upd.token = true) ∧ s.upd.erasing = false) ∧
        b = memRead s.upd.buf 0 (min f.offset (28 * 2 ^ 20)))
    ∧ (∃ (s : State) (f : RecFrame) (c : Instr) (op : Nat) (hd : Nat → Nat → List Byte) (ans : Nat → Nat → List Byte), ((f.path = 1 ∨
        f.path = 2) ∧ f.data.length ≤ 1024 ∧ (c = .recoveryData f ∧ op = 1 ∨ c = .recoveryDone f ∧ op = 2 ∨ c = .recoveryActivate f ∧
        op = 3 ∨ c = .recoveryToken f ∧ op = 4)) ∧ (∀ o st, hd o st = [o, st, f.seq, f.seq / 256, f.offset, f.offset / 256,
        f.offset / 65536, f.offset / 16777216].map (fun x => BitVec.ofNat 8 x)) ∧ (∀ o st, ans o st = if f.path = 2 then [0x7E, 8,
        0] ++ hd o st ++ natToBytes (crc16 ((hd o st).flatMap (fun x => bitsOf x.toNat 8))) 2 else hd o st) ∧ (s.power.phase = .recovery ∧
        (s.upd.path = none ∨ s.upd.path = some f.path)) ∧ (s.upd.lastSeq = none ∨ (∃ l, s.upd.lastSeq = some l ∧
        f.seq % 65536 = (l + 1) % 65536)) ∧ s.upd.written = none)
    ∧ (∃ (s : State) (f : RecFrame) (c : Instr) (op : Nat) (hd : Nat → Nat → List Byte) (ans : Nat → Nat → List Byte), ((f.path = 1 ∨
        f.path = 2) ∧ f.data.length ≤ 1024 ∧ (c = .recoveryData f ∧ op = 1 ∨ c = .recoveryDone f ∧ op = 2 ∨ c = .recoveryActivate f ∧
        op = 3 ∨ c = .recoveryToken f ∧ op = 4)) ∧ (∀ o st, hd o st = [o, st, f.seq, f.seq / 256, f.offset, f.offset / 256,
        f.offset / 65536, f.offset / 16777216].map (fun x => BitVec.ofNat 8 x)) ∧ (∀ o st, ans o st = if f.path = 2 then [0x7E, 8,
        0] ++ hd o st ++ natToBytes (crc16 ((hd o st).flatMap (fun x => bitsOf x.toNat 8))) 2 else hd o st) ∧ (s.power.phase = .recovery ∧
        (s.upd.path = none ∨ s.upd.path = some f.path)) ∧ (s.upd.lastSeq = none ∨ (∃ l, s.upd.lastSeq = some l ∧
        f.seq % 65536 = (l + 1) % 65536)) ∧ s.upd.written.isSome = true ∧ s.upd.erasing = true)
    ∧ (∃ (s : State) (f : RecFrame) (c : Instr) (op : Nat) (hd : Nat → Nat → List Byte) (ans : Nat → Nat → List Byte), ((f.path = 1 ∨
        f.path = 2) ∧ f.data.length ≤ 1024 ∧ (c = .recoveryData f ∧ op = 1 ∨ c = .recoveryDone f ∧ op = 2 ∨ c = .recoveryActivate f ∧
        op = 3 ∨ c = .recoveryToken f ∧ op = 4)) ∧ (∀ o st, hd o st = [o, st, f.seq, f.seq / 256, f.offset, f.offset / 256,
        f.offset / 65536, f.offset / 16777216].map (fun x => BitVec.ofNat 8 x)) ∧ (∀ o st, ans o st = if f.path = 2 then [0x7E, 8,
        0] ++ hd o st ++ natToBytes (crc16 ((hd o st).flatMap (fun x => bitsOf x.toNat 8))) 2 else hd o st) ∧ (s.power.phase = .recovery ∧
        (s.upd.path = none ∨ s.upd.path = some f.path)) ∧ (s.upd.lastSeq = none ∨ (∃ l, s.upd.lastSeq = some l ∧
        f.seq % 65536 = (l + 1) % 65536)) ∧ ∃ w, s.upd.written = some w ∧ s.upd.erasing = false)
    ∧ (∃ (s : State) (f : RecFrame) (c : Instr) (op : Nat) (hd : Nat → Nat → List Byte) (ans : Nat → Nat → List Byte), ((f.path = 1 ∨
        f.path = 2) ∧ f.data.length ≤ 1024 ∧ (c = .recoveryData f ∧ op = 1 ∨ c = .recoveryDone f ∧ op = 2 ∨ c = .recoveryActivate f ∧
        op = 3 ∨ c = .recoveryToken f ∧ op = 4)) ∧ (∀ o st, hd o st = [o, st, f.seq, f.seq / 256, f.offset, f.offset / 256,
        f.offset / 65536, f.offset / 16777216].map (fun x => BitVec.ofNat 8 x)) ∧ (∀ o st, ans o st = if f.path = 2 then [0x7E, 8,
        0] ++ hd o st ++ natToBytes (crc16 ((hd o st).flatMap (fun x => bitsOf x.toNat 8))) 2 else hd o st) ∧ (s.power.phase = .recovery ∧
        (s.upd.path = none ∨ s.upd.path = some f.path)) ∧ (s.upd.lastSeq = none ∨ (∃ l, s.upd.lastSeq = some l ∧
        f.seq % 65536 = (l + 1) % 65536)) ∧ s.upd.lock = false)
    ∧ (∃ (s : State) (f : RecFrame) (c : Instr) (op : Nat) (hd : Nat → Nat → List Byte) (ans : Nat → Nat → List Byte), ((f.path = 1 ∨
        f.path = 2) ∧ f.data.length ≤ 1024 ∧ (c = .recoveryData f ∧ op = 1 ∨ c = .recoveryDone f ∧ op = 2 ∨ c = .recoveryActivate f ∧
        op = 3 ∨ c = .recoveryToken f ∧ op = 4)) ∧ (∀ o st, hd o st = [o, st, f.seq, f.seq / 256, f.offset, f.offset / 256,
        f.offset / 65536, f.offset / 16777216].map (fun x => BitVec.ofNat 8 x)) ∧ (∀ o st, ans o st = if f.path = 2 then [0x7E, 8,
        0] ++ hd o st ++ natToBytes (crc16 ((hd o st).flatMap (fun x => bitsOf x.toNat 8))) 2 else hd o st) ∧ (s.power.phase = .recovery ∧
        (s.upd.path = none ∨ s.upd.path = some f.path)) ∧ (s.upd.lastSeq = none ∨ (∃ l, s.upd.lastSeq = some l ∧
        f.seq % 65536 = (l + 1) % 65536)) ∧ s.upd.lock = true) :=
  ⟨⟨runS, .lockEv, 1, _, _, by decide +kernel, rfl, rfl⟩,
   ⟨runS, by decide +kernel⟩,
   ⟨{ runS with power := { runS.power with phase := .run }, upd := { runS.upd with asked := [.lock true] } }, true, _, rfl⟩,
   ⟨{ runS with power := { runS.power with phase := .run }, upd := { runS.upd with asked := [.debugFail] } }, _, rfl⟩,
   ⟨{ runS with power := { runS.power with phase := .run }, upd := { runS.upd with slotA := { runS.upd.slotA with area := none }, slotB := { runS.upd.slotB with area := none } } }, by decide +kernel⟩,
   ⟨{ runS with power := { runS.power with phase := .run }, upd := { runS.upd with slotA := { runS.upd.slotA with area := some 0 }, slotB := { runS.upd.slotB with area := some 0 }, areas := [(0, ⟨4, 0, 0, [], false⟩)] } }, _, _, rfl, by decide +kernel⟩,
   ⟨{ runS with power := { runS.power with phase := .run }, upd := { runS.upd with slotA := { runS.upd.slotA with area := some 0 }, slotB := { runS.upd.slotB with area := some 0 }, areas := [(0, ⟨4, 0, 0, List.replicate 114684 (0, 0), false⟩)] } }, _, _, rfl, by decide +kernel⟩,
   ⟨{ runS with power := { runS.power with phase := .run }, upd := { runS.upd with path := none } }, ⟨1, 5, 0, []⟩, .recoveryData ⟨1, 5, 0,
       []⟩, 1, _, _, by decide +kernel, fun _ _ => rfl, fun _ _ => rfl, by decide +kernel⟩,
   ⟨{ runS with power := { runS.power with phase := .recovery }, upd := { runS.upd with path := some 1, lastSeq := some 5 } }, ⟨1, 5, 0,
       []⟩, .recoveryData ⟨1, 5, 0, []⟩, 1, _, _, by decide +kernel, fun _ _ => rfl, fun _ _ => rfl, by decide +kernel, 5,
       by decide +kernel⟩,
   ⟨{ runS with power := { runS.power with phase := .recovery }, upd := { runS.upd with path := some 1, lastSeq := some 7 } }, ⟨1, 5, 0,
       []⟩, .recoveryData ⟨1, 5, 0, []⟩, 1, _, _, by decide +kernel, fun _ _ => rfl, fun _ _ => rfl, by decide +kernel, 7,
       by decide +kernel⟩,
   ⟨{ runS with power := { runS.power with phase := .recovery }, upd := { runS.upd with path := none, lastSeq := none, lock := true, token := false } }, ⟨1, 5, 0, []⟩, .recoveryData ⟨1, 5, 0, []⟩, 1, _, _, by decide +kernel, fun _ _ => rfl, fun _ _ => rfl, by decide +kernel, Or.inl rfl, by decide +kernel⟩,
   ⟨{ runS with power := { runS.power with phase := .recovery }, upd := { runS.upd with path := none, lastSeq := none, lock := false } },
       ⟨1, 5, 0, []⟩, .recoveryData ⟨1, 5, 0, []⟩, 1, _, _, by decide +kernel, fun _ _ => rfl, fun _ _ => rfl, by decide +kernel,
       Or.inl rfl, by decide +kernel⟩,
   ⟨{ runS with power := { runS.power with phase := .recovery }, upd := { runS.upd with path := none, lastSeq := none, lock := false, erasing := true } }, ⟨1, 5, 0, []⟩, .recoveryDone ⟨1, 5, 0, []⟩, 2, _, _, by decide +kernel, fun _ _ => rfl, fun _ _ => rfl, by decide +kernel, Or.inl rfl, by decide +kernel⟩,
   ⟨{ runS with power := { runS.power with phase := .recovery }, upd := { runS.upd with path := none, lastSeq := none, lock := false, erasing := false } }, ⟨1, 5, 0, []⟩, .recoveryDone ⟨1, 5, 0, []⟩, 2, _, _, by decide +kernel, fun _ _ => rfl, fun _ _ => rfl, by decide +kernel, Or.inl rfl, _, by decide +kernel, rfl⟩,
   ⟨{ runS with power := { runS.power with phase := .recovery }, upd := { runS.upd with path := none, lastSeq := none, written := none } },
       ⟨1, 5, 0, []⟩, .recoveryActivate ⟨1, 5, 0, []⟩, 3, _, _, by decide +kernel, fun _ _ => rfl, fun _ _ => rfl, by decide +kernel,
       Or.inl rfl, by decide +kernel⟩,
   ⟨{ runS with power := { runS.power with phase := .recovery }, upd := { runS.upd with path := none, lastSeq := none, written := some 0, erasing := true } }, ⟨1, 5, 0, []⟩, .recoveryActivate ⟨1, 5, 0, []⟩, 3, _, _, by decide +kernel, fun _ _ => rfl, fun _ _ => rfl, by decide +kernel, Or.inl rfl, by decide +kernel⟩,
   ⟨{ runS with power := { runS.power with phase := .recovery }, upd := { runS.upd with path := none, lastSeq := none, written := some 0, erasing := false } }, ⟨1, 5, 0, []⟩, .recoveryActivate ⟨1, 5, 0, []⟩, 3, _, _, by decide +kernel, fun _ _ => rfl, fun _ _ => rfl, by decide +kernel, Or.inl rfl, 0, by decide +kernel⟩,
   ⟨{ runS with power := { runS.power with phase := .recovery }, upd := { runS.upd with path := none, lastSeq := none, lock := false } },
       ⟨1, 5, 0, []⟩, .recoveryToken ⟨1, 5, 0, []⟩, 4, _, _, by decide +kernel, fun _ _ => rfl, fun _ _ => rfl, by decide +kernel,
       Or.inl rfl, by decide +kernel⟩,
   ⟨{ runS with power := { runS.power with phase := .recovery }, upd := { runS.upd with path := none, lastSeq := none, lock := true } },
       ⟨1, 5, 0, []⟩, .recoveryToken ⟨1, 5, 0, []⟩, 4, _, _, by decide +kernel, fun _ _ => rfl, fun _ _ => rfl, by decide +kernel,
       Or.inl rfl, by decide +kernel⟩⟩

/-- Where the fuses hold the token that stands in UPD_TOKENw, the last clauses' hypotheses are met. -/
theorem meets_TokensAndRecovery_fuses :
    (Config.ownerBlank = false → Config.ownerMatch runS.tokenWord = true →
      ∃ s : State, s.fget UPD_STATUS_TOKEN_FAILS < 3 ∧ s.upd.erasing = false ∧ Config.ownerBlank = false ∧
          Config.ownerMatch s.tokenWord = true)
    ∧ (Config.debugBlank = false → Config.debugMatch runS.tokenWord = true →
      ∃ s : State, s.fget UPD_STATUS_TOKEN_FAILS < 3 ∧ s.upd.erasing = false ∧ Config.debugBlank = false ∧
          Config.debugMatch s.tokenWord = true) :=
  ⟨fun b h => ⟨runS, by decide +kernel, rfl, b, h⟩, fun b h => ⟨runS, by decide +kernel, rfl, b, h⟩⟩

theorem meets_WearAndFailures :
    (∃ (s : State) (src : Nat) (age : Nat) (errs : Nat), monitored src = true ∧ ∃ (worn : Bool),
        worn = (s.fget UPD_WEAR_CTRL_AGE_THR != 0 && decide (s.fget UPD_WEAR_CTRL_AGE_THR ≤ min 1023 age) || s.fget UPD_WEAR_CTRL_ERR_THR != 0 && decide (s.fget UPD_WEAR_CTRL_ERR_THR ≤ min 65535 errs)) ∧ (worn = false ∨ s.bit UPD_WEAR_CTRL_AUTO_RETIRE = false ∨ s.serving src = false ∨ s.unitOk src = false))
    ∧ (∃ (s : State) (src : Nat) (age : Nat) (errs : Nat), monitored src = true ∧ ∃ (worn : Bool),
        worn = (s.fget UPD_WEAR_CTRL_AGE_THR != 0 && decide (s.fget UPD_WEAR_CTRL_AGE_THR ≤ min 1023 age) || s.fget UPD_WEAR_CTRL_ERR_THR != 0 && decide (s.fget UPD_WEAR_CTRL_ERR_THR ≤ min 65535 errs)) ∧ worn = true ∧ s.bit UPD_WEAR_CTRL_AUTO_RETIRE = true ∧ s.serving src = true ∧ s.unitOk src = true ∧ s.spareFor src = true)
    ∧ (∃ (s : State) (src : Nat) (age : Nat) (errs : Nat), monitored src = true ∧ ∃ (worn : Bool),
        worn = (s.fget UPD_WEAR_CTRL_AGE_THR != 0 && decide (s.fget UPD_WEAR_CTRL_AGE_THR ≤ min 1023 age) || s.fget UPD_WEAR_CTRL_ERR_THR != 0 && decide (s.fget UPD_WEAR_CTRL_ERR_THR ≤ min 65535 errs)) ∧ worn = true ∧ s.bit UPD_WEAR_CTRL_AUTO_RETIRE = true ∧ s.serving src = true ∧ s.unitOk src = true ∧ s.spareFor src = false)
    ∧ (∃ (s : State) (src : Nat), monitored src = true ∧ ∃ (ok : Bool), ok = false ∧ s.idleSpare src = true)
    ∧ (∃ (s : State) (src : Nat), monitored src = true ∧ ∃ (ok : Bool), (ok = true ∨ s.idleSpare src = false))
    ∧ (∃ (s : State) (src : Nat), src = s.fget UPD_WEAR_SEL_SOURCE ∧ (monitored src = false ∨ s.unitOk src = false ∨
        s.idleSpare src = false ∧ s.serving src = false))
    ∧ (∃ (s : State) (src : Nat), src = s.fget UPD_WEAR_SEL_SOURCE ∧ monitored src = true ∧ s.unitOk src = true ∧ s.idleSpare src = true)
    ∧ (∃ (s : State) (src : Nat), src = s.fget UPD_WEAR_SEL_SOURCE ∧ monitored src = true ∧ s.unitOk src = true ∧ s.idleSpare src = false ∧
        s.serving src = true ∧ s.spareFor src = true)
    ∧ (∃ (s : State) (src : Nat), src = s.fget UPD_WEAR_SEL_SOURCE ∧ monitored src = true ∧ (s.unitOf src).retired = true ∧
        s.serving src = false)
    ∧ (∃ (s : State) (src : Nat), src = s.fget UPD_WEAR_SEL_SOURCE ∧ (monitored src = false ∨ (s.unitOf src).retired = false ∨
        s.serving src = true))
    ∧ (∃ (s : State) (p : Nat) (kind : Nat) (detail : Nat), p < 25 ∧ kind < 64 ∧ detail < 65536 ∧
        s.ex.moving.filter (fun m => m.old == p || m.new == p) = [] ∧ s.fget (PLC_ENGp_STATE p) ≠ 1)
    ∧ (∃ (s : State) (p : Nat) (kind : Nat) (detail : Nat), (p < 25 ∧ kind < 64 ∧ detail < 65536 ∧
        s.ex.moving.filter (fun m => m.old == p || m.new == p) = []) ∧ ∃ q, s.fget (PLC_ENGp_STATE p) = 1 ∧ s.freeSpare p = some q)
    ∧ (∃ (s : State) (p : Nat) (kind : Nat) (detail : Nat), p < 25 ∧ kind < 64 ∧ detail < 65536 ∧
        s.ex.moving.filter (fun m => m.old == p || m.new == p) = [] ∧ s.fget (PLC_ENGp_STATE p) = 1 ∧ s.freeSpare p = none)
    ∧ (∃ (p : Nat) (kind : Nat) (detail : Nat), p < 25 ∧ kind < 64 ∧ detail < 65536 ∧ 1 ≤ detail ∧ detail ≤ 5 ∧ p < 6)
    ∧ (∃ (p : Nat) (kind : Nat) (detail : Nat), (p < 25 ∧ kind < 64 ∧ detail < 65536) ∧ ∃ n, ∃ (c : UnitId), ∃ src, (n < 8 ∧
        c = UnitId.drv n ∧ src = 0x140 + 2 * n ∨ n < 20 ∧ c = .axs n ∧ src = 0x160 + 2 * n ∨ n < 32 ∧ c = .hvo n ∧ src = 0x1C0 + n ∨
        n < 2 ∧ c = .fus n ∧ src = 0x1E0 + n))
    ∧ (∃ (s : State) (p : Nat) (kind : Nat) (detail : Nat), (p < 25 ∧ kind < 64 ∧ detail < 65536) ∧ ∃ (l : Nat), p < 6 ∧ l < 17 ∧
        s.bit (STNn_BR_LANEl_FAILED p l) = true)
    ∧ (∃ (s : State) (p : Nat) (kind : Nat) (detail : Nat), (p < 25 ∧ kind < 64 ∧ detail < 65536) ∧ ∃ (l : Nat), p < 6 ∧ l < 17 ∧
        s.bit (STNn_BR_LANEl_FAILED p l) = false)
    ∧ (∃ (s : State) (p : Nat) (kind : Nat) (detail : Nat), (p < 25 ∧ kind < 64 ∧ detail < 65536) ∧ ∃ (due : Bool),
        due = s.ex.moves.any (fun m => m.1 == p && s.moveAllowed m.2.1 && (m.2.2 || !s.anyActive)) ∧ (due = false ∨ s.freeSpare p = none ∨
        s.replaying = true))
    ∧ (∃ (s : State) (p : Nat) (kind : Nat) (detail : Nat), (p < 25 ∧ kind < 64 ∧ detail < 65536) ∧ ∃ (due : Bool),
        due = s.ex.moves.any (fun m => m.1 == p && s.moveAllowed m.2.1 && (m.2.2 || !s.anyActive)) ∧ ∃ q, due = true ∧
        s.freeSpare p = some q ∧ s.replaying = false ∧ s.fget (PLC_ENGp_STATE p) = 1)
    ∧ (∃ (s : State) (m : Moving), (s.ex.moving = [m] ∧ m.until_ ≤ s.tick ∧ m.old ≠ m.new ∧ m.st < 8) ∧ ∃ i t, m.task = some i ∧
        s.task? i = some t ∧ t.stat = .running)
    ∧ (∃ (s : State) (dir : Nat) (same : Bool) (k : Nat), dir < 2 ∧ k = (if same then (kvGet s.mem.flitFails dir).getD 0 else 0) + 1) :=
  ⟨⟨runS, 66, 66, 66, by decide +kernel, true, by decide +kernel⟩,
   ⟨withF [(UPD_WEAR_CTRL_AGE_THR, 10), (UPD_WEAR_CTRL_AUTO_RETIRE, 1), (PLC_ENGp_STATE 2, 1)] runS, 66, 66, 66, by decide +kernel, true,
       by decide +kernel⟩,
   ⟨withF [(UPD_WEAR_CTRL_AGE_THR, 10), (UPD_WEAR_CTRL_AUTO_RETIRE, 1), (PLC_ENGp_STATE 0, 1), (PLC_ENGp_STATE 1, 1), (PLC_ENGp_STATE 2,
       1), (PLC_ENGp_STATE 3, 1), (PLC_ENGp_STATE 4, 1)] runS, 66, 66, 66, by decide +kernel, true, by decide +kernel⟩,
   ⟨runS, 66, by decide +kernel, false, by decide +kernel⟩,
   ⟨runS, 66, by decide +kernel, true, by decide +kernel⟩,
   ⟨runS, 0, by decide +kernel⟩,
   ⟨withF [(UPD_WEAR_SEL_SOURCE, 66)] runS, 66, by decide +kernel⟩,
   ⟨withF [(UPD_WEAR_SEL_SOURCE, 66), (PLC_ENGp_STATE 2, 1)] runS, 66, by decide +kernel⟩,
   ⟨withF [(UPD_WEAR_SEL_SOURCE, 66), (PLC_ENGp_STATE 2, 5)] { runS with units := [(0x042, ⟨false, true, false, 0, 0, false, false⟩)] },
       66, by decide +kernel⟩,
   ⟨runS, 0, by decide +kernel⟩,
   ⟨runS, 2, 2, 66, by decide +kernel⟩,
   ⟨withF [(UPD_WEAR_CTRL_AGE_THR, 10), (UPD_WEAR_CTRL_AUTO_RETIRE, 1), (PLC_ENGp_STATE 2, 1)] runS, 2, 2, 66, by decide +kernel, 0,
       by decide +kernel⟩,
   ⟨withF [(UPD_WEAR_CTRL_AGE_THR, 10), (UPD_WEAR_CTRL_AUTO_RETIRE, 1), (PLC_ENGp_STATE 0, 1), (PLC_ENGp_STATE 1, 1), (PLC_ENGp_STATE 2,
       1), (PLC_ENGp_STATE 3, 1), (PLC_ENGp_STATE 4, 1)] runS, 2, 2, 66, by decide +kernel⟩,
   ⟨2, 2, 2, by decide +kernel⟩,
   ⟨2, 2, 66, by decide +kernel, 2, .drv 2, 324, by decide +kernel⟩,
   ⟨withF [(STNn_BR_LANEl_FAILED 2 5, 1)] runS, 2, 2, 66, by decide +kernel, 5, by decide +kernel⟩,
   ⟨runS, 2, 2, 66, by decide +kernel, 2, by decide +kernel⟩,
   ⟨runS, 2, 2, 66, by decide +kernel, false, by decide +kernel⟩,
   ⟨withF [(PLC_ENGp_STATE 2, 1), (PLC_CTRL_RETIRE_EN, 1)] { runS with ex := { runS.ex with moves := [(2, (false, true))] } }, 2, 2, 66,
       by decide +kernel, true, by decide +kernel, 0, by decide +kernel⟩,
   ⟨{ exS with ex := { exS.ex with moving := [⟨2, 20, 4, some 5, 0⟩] } }, ⟨2, 20, 4, some 5, 0⟩, by decide +kernel, 5, _,
       by decide +kernel, rfl, by decide +kernel⟩,
   ⟨runS, 0, false, 1, by decide +kernel⟩⟩

theorem meets_RecorderCommands :
    (∃ (s : State), s.fget REC_STATUS_STATE = 1)
    ∧ (∃ (s : State), s.fget REC_STATUS_STATE ≠ 1)
    ∧ (∃ (s : State), ∃ t, s.recd.trigAt = some t ∧ s.fget REC_STATUS_STATE = 2 ∧ t + msTicks (s.fget REC_CFG_POST) ≤ s.tick)
    ∧ (∃ (s : State), s.recd.trigAt = none ∨ s.fget REC_STATUS_STATE ≠ 2 ∨ (∃ t, s.recd.trigAt = some t ∧
        s.tick < t + msTicks (s.fget REC_CFG_POST)))
    ∧ (∃ (s : State) (busy : Bool), busy = (s.fget REC_STATUS_STATE == 4 || s.fget REC_STATUS_STATE == 5) ∧ ∃ (c : Instr), (c = .rearmEv ∧
        busy = true ∨ c = .loadNor ∧ (busy = true ∨ s.recd.nor = none) ∨ c = .loadRing true ∧ (busy = true ∨ s.ringHeaderOk = false) ∨
        c = .loadRing false))
    ∧ (∃ (s : State) (busy : Bool), busy = (s.fget REC_STATUS_STATE == 4 || s.fget REC_STATUS_STATE == 5) ∧ ∃ r, busy = false ∧
        s.recd.nor = some r)
    ∧ (∃ (s : State) (busy : Bool), busy = (s.fget REC_STATUS_STATE == 4 || s.fget REC_STATUS_STATE == 5) ∧ busy = false ∧
        s.ringHeaderOk = true)
    ∧ (∃ (s : State), s.fget REC_STATUS_STATE = 3 ∧ s.recd.frozen.isSome = true)
    ∧ (∃ (s : State), s.fget REC_STATUS_STATE ≠ 3 ∨ s.recd.frozen = none)
    ∧ (∃ (s : State), ∃ r, s.recd.frozen = some r ∧ s.fget REC_STATUS_STATE = 5)
    ∧ (∃ (s : State), s.recd.frozen = none ∨ s.fget REC_STATUS_STATE ≠ 5)
    ∧ (∃ (s : State) (cause : Nat), (cause = 1 ∧ (s.recd.frozen = none ∨ s.fget REC_STATUS_STATE ≠ 3) ∨ s.fget REC_STATUS_STATE = 3 ∧ ∃ r,
        s.recd.frozen = some r ∧ (cause = 2 ∧ r.crc ≠ (s.slot s.runSlot).crc ∨ r.crc = (s.slot s.runSlot).crc ∧ (cause = 3 ∧
        (s.bit LEDG_STATUS_RUN_OPEN = true ∨ s.led.sheets ≠ [] ∨ s.motion = true) ∨ s.bit LEDG_STATUS_RUN_OPEN = false ∧
        s.led.sheets = [] ∧ s.motion = false ∧ cause = 4 ∧ r.snaps = []))))
    ∧ (∃ (s : State), ∃ r, ∃ x, ∃ more, s.recd.frozen = some r ∧ (s.fget REC_STATUS_STATE = 3 ∧ r.crc = (s.slot s.runSlot).crc ∧
        s.bit LEDG_STATUS_RUN_OPEN = false ∧ s.led.sheets = [] ∧ s.motion = false) ∧ r.snaps = x :: more ∧ s.units = [])
    ∧ (∃ (s : State), s.replaying = false)
    ∧ (∃ (s : State), s.recd.replay = none)
    ∧ (∃ (s : State), ∃ rp, s.recd.replay = some rp ∧ ∃ (c : Instr), (c = .replayStop ∨ c = .replayEnd ∧ s.replayEnded = true))
    ∧ (∃ (s : State), ∃ rp, s.recd.replay = some rp ∧ s.replayEnded = true)
    ∧ (∃ (s : State), ∃ rp, s.recd.replay = some rp ∧ s.replayEnded = false)
    ∧ (∃ (s : State), ∃ rp, s.recd.replay = some rp ∧ ∃ (p : Nat), p < 25 ∧
        takeRec (fun r => r.data.head? == some (p : Int)) rp.outs = none)
    ∧ (∃ (s : State), ∃ rp, s.recd.replay = some rp ∧ ∃ (p : Nat), p < 25 ∧ ∃ r rest,
        takeRec (fun r => r.data.head? == some (p : Int)) rp.outs = some (r, rest) ∧ s.replayNow ≤ r.time + 1000)
    ∧ (∃ (s : State), ∃ rp, s.recd.replay = some rp ∧ ∃ (p : Nat), p < 25 ∧ ∃ r rest,
        takeRec (fun r => r.data.head? == some (p : Int)) rp.outs = some (r, rest) ∧ r.time + 1000 < s.replayNow)
    ∧ (∃ (s : State) (p : Nat), p < 25 ∧ s.recd.replay = none)
    ∧ (∃ (s : State) (due : Bool),
        due = s.recd.snaps.getLast?.all (fun x => decide (x.at_ + 100000000 * max 1 (s.fget REC_CFG_SNAP_INT) ≤ s.now.toNat) || decide (s.now.toNat < x.at_)) ∧ s.recording = true ∧ due = true)
    ∧ (∃ (s : State) (due : Bool),
        due = s.recd.snaps.getLast?.all (fun x => decide (x.at_ + 100000000 * max 1 (s.fget REC_CFG_SNAP_INT) ≤ s.now.toNat) || decide (s.now.toNat < x.at_)) ∧ (s.recording = false ∨ due = false))
    ∧ (∃ (s : State), s.recording = true)
    ∧ (∃ (s : State), s.recording = false) :=
  ⟨⟨withF [(REC_STATUS_STATE, 1)] { runS with recd := { runS.recd with trigAt := none } }, by decide +kernel⟩,
   ⟨runS, by decide +kernel⟩,
   ⟨withF [(REC_STATUS_STATE, 2)] { runS with recd := { runS.recd with trigAt := some 5 } }, 5, by decide +kernel⟩,
   ⟨runS, Or.inl (by decide +kernel)⟩,
   ⟨runS, false, by decide +kernel, .loadRing false, Or.inr (Or.inr (Or.inr rfl))⟩,
   ⟨withF [(REC_STATUS_STATE, 0)] { runS with recd := { runS.recd with nor := some ⟨5, 1, 0, 9, [], [], 0, none⟩ } }, false,
       by decide +kernel, _, by decide +kernel, rfl⟩,
   ⟨withF [(DRAMC_USABLE_USABLE_MIB, 1024)] (withDram 738197504 ([0x31434552, 1] ++ List.replicate 13 0 ++ [0x8D88123C]) runS), false,
       by decide +kernel⟩,
   ⟨withF [(REC_STATUS_STATE, 3), (LEDG_STATUS_RUN_OPEN,
       0)] { runS with recd := { runS.recd with frozen := some ⟨5, 1, 0, 9, [], [⟨0, [], [], [], []⟩], 0, none⟩ }, upd := { runS.upd with slotA := { runS.upd.slotA with crc := 9 }, slotB := { runS.upd.slotB with crc := 9 } } }, by decide +kernel⟩,
   ⟨runS, by decide +kernel⟩,
   ⟨withF [(REC_STATUS_STATE, 5)] { runS with recd := { runS.recd with frozen := some ⟨5, 1, 0, 9, [], [], 0, none⟩ } }, _, rfl,
       by decide +kernel⟩,
   ⟨runS, by decide +kernel⟩,
   ⟨runS, 1, Or.inl (by decide +kernel)⟩,
   ⟨withF [(REC_STATUS_STATE, 3), (LEDG_STATUS_RUN_OPEN,
       0)] { runS with recd := { runS.recd with frozen := some ⟨5, 1, 0, 9, [], [⟨0, [], [], [], []⟩], 0, none⟩ }, upd := { runS.upd with slotA := { runS.upd.slotA with crc := 9 }, slotB := { runS.upd.slotB with crc := 9 } } }, _, _, _, rfl, by decide +kernel, rfl, by decide +kernel⟩,
   ⟨runS, by decide +kernel⟩,
   ⟨runS, by decide +kernel⟩,
   ⟨withF [(REC_STATUS_STATE, 3)] { runS with recd := { runS.recd with replay := some ⟨0, 0, [], [], []⟩ } }, _, rfl, .replayStop,
       Or.inl rfl⟩,
   ⟨withF [(REC_STATUS_STATE, 3)] { runS with recd := { runS.recd with replay := some ⟨0, 0, [], [], []⟩ } }, _, rfl, by decide +kernel⟩,
   ⟨withF [(REC_STATUS_STATE, 3)] { runS with recd := { runS.recd with replay := some ⟨0, 0, [⟨1, 0, 9, [], 0⟩], [], []⟩ } }, _, rfl,
       by decide +kernel⟩,
   ⟨withF [(REC_STATUS_STATE, 3)] { runS with recd := { runS.recd with replay := some ⟨0, 0, [], [], []⟩ } }, _, rfl, 2, by decide +kernel⟩,
   ⟨withF [(REC_STATUS_STATE,
       3)] { runS with recd := { runS.recd with replay := some ⟨0, 0, [⟨1, 0, 9, [], 0⟩], [], [⟨3, 0, 90000000000000, [2], 0⟩]⟩ } }, _,
       rfl, 2, by decide +kernel, _, _, rfl, by decide +kernel⟩,
   ⟨withF [(REC_STATUS_STATE,
       3)] { runS with recd := { runS.recd with replay := some ⟨0, 0, [⟨1, 0, 9, [], 0⟩], [], [⟨3, 0, 5, [2], 0⟩]⟩ } }, _, rfl, 2,
       by decide +kernel, _, _, rfl, by decide +kernel⟩,
   ⟨runS, 2, by decide +kernel⟩,
   ⟨withF [(REC_STATUS_STATE, 1)] { runS with recd := { runS.recd with trigAt := none } }, true, by decide +kernel⟩,
   ⟨runS, true, by decide +kernel⟩,
   ⟨withF [(REC_STATUS_STATE, 1)] { runS with recd := { runS.recd with trigAt := none } }, by decide +kernel⟩,
   ⟨runS, by decide +kernel⟩⟩

theorem meets_RegisterWrites :
    (∃ (s : State) (v : BitVec 64) (w : Nat), w = v.toNat % 2 ^ 32 ∧ ∃ (a : Nat) (size : Nat), (size = 1 ∨ size = 2 ∨ size = 4 ∨
        size = 8) ∧ a < hifBase ∧ s.inDram a size = true)
    ∧ (∃ (s : State) (v : BitVec 64) (w : Nat), w = v.toNat % 2 ^ 32 ∧ ∃ (a : Nat) (size : Nat), (size = 1 ∨ size = 2 ∨ size = 4 ∨
        size = 8) ∧ a < hifBase ∧ s.inDram a size = false ∧ inSram a size = true)
    ∧ (∃ (s : State) (v : BitVec 64) (w : Nat), w = v.toNat % 2 ^ 32 ∧ ∃ (a : Nat) (size : Nat), (size = 1 ∨ size = 2 ∨ size = 4 ∨
        size = 8) ∧ a < hifBase ∧ s.inDram a size = false ∧ inSram a size = false ∧ s.regMapped (a / 4 * 4) = true ∧ (size ≠ 4 ∨ a % 4 ≠ 0))
    ∧ (∃ (s : State) (v : BitVec 64) (w : Nat), w = v.toNat % 2 ^ 32 ∧ ∃ (a : Nat) (size : Nat), (size = 1 ∨ size = 2 ∨ size = 4 ∨
        size = 8) ∧ a < hifBase ∧ s.inDram a size = false ∧ inSram a size = false ∧ s.regMapped (a / 4 * 4) = false)
    ∧ (∃ (s : State) (v : BitVec 64) (w : Nat), w = v.toNat % 2 ^ 32 ∧ ∃ (a : Nat) (size : Nat), (size = 1 ∨ size = 2 ∨ size = 4 ∨
        size = 8) ∧ a < hifBase ∧ s.inDram a size = false ∧ inSram a size = false ∧ size = 4 ∧ s.regMapped a = true ∧ a % 4 = 0 ∧
        s.power.phase ≠ .run)
    ∧ (∃ (s : State) (v : BitVec 64) (w : Nat), w = v.toNat % 2 ^ 32 ∧ ∃ (a : Nat) (size : Nat), (size = 1 ∨ size = 2 ∨ size = 4 ∨
        size = 8) ∧ a < hifBase ∧ s.inDram a size = false ∧ inSram a size = false ∧ size = 4 ∧ s.regMapped a = true ∧ a % 4 = 0 ∧
        s.power.phase = .run ∧ aonAddr a = true)
    ∧ (∃ (s : State) (v : BitVec 64) (w : Nat), w = v.toNat % 2 ^ 32 ∧ ∃ (a : Nat) (size : Nat), (size = 1 ∨ size = 2 ∨ size = 4 ∨
        size = 8) ∧ a < hifBase ∧ s.inDram a size = false ∧ inSram a size = false ∧ size = 4 ∧ s.regMapped a = true ∧ a % 4 = 0 ∧
        s.power.phase = .run ∧ aonAddr a = false ∧ tbBlock a = true ∧ (s.fieldsAt a).any Fld.tbShadow = false ∧ s.fieldsAt a ≠ [])
    ∧ (∃ (v : BitVec 64) (w : Nat), w = v.toNat % 2 ^ 32 ∧ ∃ (off : Nat) (size : Nat), off < 2 ^ 26 ∧ (size = 1 ∨ size = 2 ∨ size = 4 ∨
        size = 8) ∧ (size < 4 ∨ off % size ≠ 0))
    ∧ (∃ (v : BitVec 64) (w : Nat), w = v.toNat % 2 ^ 32 ∧ ∃ (off : Nat) (size : Nat), off < 2 ^ 26 ∧ (size = 1 ∨ size = 2 ∨ size = 4 ∨
        size = 8) ∧ 4 ≤ size ∧ off % size = 0 ∧ 0x100000 ≤ off ∧ off < 0x300000)
    ∧ (∃ (s : State) (v : BitVec 64) (w : Nat), w = v.toNat % 2 ^ 32 ∧ ∃ (size : Nat), (size = 1 ∨ size = 2 ∨ size = 4 ∨ size = 8) ∧
        s.bit UPD_STATUS_DEBUG_OPEN = false)
    ∧ (∃ (s : State) (v : BitVec 64) (w : Nat), w = v.toNat % 2 ^ 32 ∧ ∃ (off : Nat) (size : Nat), (size = 1 ∨ size = 2 ∨ size = 4 ∨
        size = 8) ∧ s.bit UPD_STATUS_DEBUG_OPEN = true ∧ off + size ≤ 2 ^ 28 ∧ s.fget HIF_BAR2_BASE_BASE * 2 ^ 28 + off < 0x10000000000)
    ∧ (∃ (s : State) (v : BitVec 64) (w : Nat), w = v.toNat % 2 ^ 32 ∧ ∃ (d : Nat) (k : Nat), k < 3 ∧ d ≤ s.tick ∧ s.power.phase = .run ∧
        s.tbQ = [(d, 0x2000430020 + 4 * k, w)])
    ∧ (∃ (s : State) (v : BitVec 64) (w : Nat), w = v.toNat % 2 ^ 32 ∧ ∃ (d : Nat) (k : Nat), k < 3 ∧ d ≤ s.tick ∧ s.power.phase = .run ∧
        s.tbQ = [(d, 0x2000430030 + 4 * k, w)])
    ∧ (∃ (s : State) (v : BitVec 64) (w : Nat), (w = v.toNat % 2 ^ 32 ∧ s.usable ≤ 0x1000000000 ∧ s.power.phase = .run) ∧ ∃ (k : Nat),
        k < 1024)
    ∧ (∃ (s : State) (v : BitVec 64) (w : Nat), (w = v.toNat % 2 ^ 32 ∧ s.usable ≤ 0x1000000000 ∧ s.power.phase = .run) ∧ ∃ (k : Nat),
        k < 4)
    ∧ (∃ (s : State) (v : BitVec 64) (w : Nat), w = v.toNat % 2 ^ 32 ∧ s.usable ≤ 0x1000000000 ∧ s.power.phase = .run ∧
        s.bit PLC_STATUS_PLACED = true)
    ∧ (∃ (s : State) (v : BitVec 64) (w : Nat), w = v.toNat % 2 ^ 32 ∧ s.usable ≤ 0x1000000000 ∧ s.power.phase = .run ∧
        s.bit PLC_STATUS_PLACED = false)
    ∧ (∃ (s : State) (v : BitVec 64) (w : Nat), w = v.toNat % 2 ^ 32 ∧ s.usable ≤ 0x1000000000 ∧ s.power.phase = .run ∧ s.railState ≠ 0)
    ∧ (∃ (s : State) (v : BitVec 64) (w : Nat), w = v.toNat % 2 ^ 32 ∧ s.usable ≤ 0x1000000000 ∧ s.power.phase = .run ∧ s.railState = 0) :=
  ⟨⟨withF [(DRAMC_STATUS_ZEROED, 1), (DRAMC_STATUS_READY, 1), (DRAMC_USABLE_USABLE_MIB, 16)] runS, 77, 77, by decide +kernel, 4, 4,
      by decide +kernel⟩,
   ⟨runS, 77, 77, by decide +kernel, 68719476736, 4, by decide +kernel⟩,
   ⟨runS, 77, 77, by decide +kernel, 137439674368, 2, by decide +kernel⟩,
   ⟨runS, 77, 77, by decide +kernel, 4, 4, by decide +kernel⟩,
   ⟨{ runS with power := { runS.power with phase := .recovery } }, 77, 77, by decide +kernel, 137439674368, 4, by decide +kernel⟩,
   ⟨runS, 77, 77, by decide +kernel, 137438953600, 4, by decide +kernel⟩,
   ⟨runS, 77, 77, by decide +kernel, 137443344400, 4, by decide +kernel⟩,
   ⟨77, 77, by decide +kernel, 4, 2, by decide +kernel⟩,
   ⟨77, 77, by decide +kernel, 1048576, 4, by decide +kernel⟩,
   ⟨runS, 77, 77, by decide +kernel, 4, by decide +kernel⟩,
   ⟨withF [(UPD_STATUS_DEBUG_OPEN, 1)] runS, 77, 77, by decide +kernel, 4, 4, by decide +kernel⟩,
   ⟨{ runS with tbQ := [(0, 0x2000430020, 77)] }, 77, 77, by decide +kernel, 0, 0, by decide +kernel⟩,
   ⟨{ runS with tbQ := [(0, 0x2000430030, 77)] }, 77, 77, by decide +kernel, 0, 0, by decide +kernel⟩,
   ⟨runS, 77, 77, by decide +kernel, 4, by decide +kernel⟩,
   ⟨runS, 77, 77, by decide +kernel, 2, by decide +kernel⟩,
   ⟨withF [(PLC_STATUS_PLACED, 1)] runS, 77, 77, by decide +kernel⟩,
   ⟨runS, 77, 77, by decide +kernel⟩,
   ⟨withF [(RAIL_STATUS_STATE, 5)] runS, 77, 77, by decide +kernel⟩,
   ⟨runS, 77, 77, by decide +kernel⟩⟩

theorem meets_UnitsThatDoNotExist :
    (∃ (n : Nat) (m : Nat) (e : LightEdge) (back : Int) (c : Instr), 6 ≤ n ∧ c ∈ [.lineBoundary n m, .barEnable n, .hrecRead n,
        .defAdd n m, .hotClear n, .thStale n, .facetBoundary n (e, back) m, .sosMiss n back m, .eosEdge n e, .eosMiss n, .pixLock n,
        .scanEnable n, .tileDecode n, .tableLoad n m, .tablePatch n m, .stnxMove n])
    ∧ (∃ (n : Nat) (m : Nat) (c : Instr), 8 ≤ n ∧ c ∈ [.drvIndex n, .drvEncLost n m, .drvDisable n, .drvStart n, .drvStop n,
        .alignTimeout n, .rampTimeout n, .zwaitExpiry n, .stoppedEv n, .keEstimate n m, .readyEv n])
    ∧ (∃ (n : Nat) (c : Instr), 20 ≤ n ∧ c ∈ [.moveEv n, .velEv n, .axsStop n, .haltEv n, .resumeEv n, .homeEv n, .setposEv n,
        .axsDisable n, .axsTick n, .posUncClear n])
    ∧ (∃ (n : Nat) (c : Instr), 64 ≤ n ∧ c ∈ [.applyEv n, .loopEnable n])
    ∧ (∃ (n : Nat) (c : Instr), 32 ≤ n ∧ c ∈ [.hvoPeriodStart n, .armEv n, .disarmEv n, .almanacFire n, .captureRead n])
    ∧ (∃ (n : Nat) (m : Nat) (c : Instr), 5 ≤ n ∧ c ∈ [.backgroundScan n, .adcConversionDone n m])
    ∧ (∃ (n : Nat) (c : Instr), 2 ≤ n ∧ c ∈ [.fusPeriodStart n, .txtsRead n])
    ∧ (∃ (n : Nat) (m : Nat) (c : Instr), 16 ≤ n ∧ c ∈ [.dmaDoorbell n m, .dmaResume n, .dmaSkip n])
    ∧ (∃ (n : Nat) (c : Instr), 25 ≤ n ∧ c ∈ [.boundaryMove n, .taskDispatch n])
    ∧ (∃ (n : Nat) (c : Instr), 512 ≤ n ∧ c ∈ [.taskStop n, .waitEnd n, .budgetExceeded n, .deadlineMissed n, .periodRelease n]) :=
  ⟨⟨6, 0, ⟨false, 0, 0, 0⟩, 0, _, by decide +kernel, List.mem_cons_self⟩,
   ⟨8, 0, _, by decide +kernel, List.mem_cons_self⟩,
   ⟨20, _, by decide +kernel, List.mem_cons_self⟩,
   ⟨64, _, by decide +kernel, List.mem_cons_self⟩,
   ⟨32, _, by decide +kernel, List.mem_cons_self⟩,
   ⟨5, 0, _, by decide +kernel, List.mem_cons_self⟩,
   ⟨2, _, by decide +kernel, List.mem_cons_self⟩,
   ⟨16, 0, _, by decide +kernel, List.mem_cons_self⟩,
   ⟨25, _, by decide +kernel, List.mem_cons_self⟩,
   ⟨512, _, by decide +kernel, List.mem_cons_self⟩⟩

end Sys2Proof.Tests
end

section
/-! Register fields, general registers and time registers read back what was put in them (R3, R4, R59), and what a write of device space
does to the page store (R9, R11). -/

namespace Sys2Proof.Machine

/-! ### Registers (R3, R4, R59) -/

/-- The field store of the reset state lists no field, so that every field reads its table's value (R4). -/
@[simp] theorem State.fget_reset (f : Fld) : State.reset.fget f = f.rst := rfl

/-- A write of a general register changes no flag (R59, R61). -/
@[simp] theorem Arch.sameFlags_setW (a : Arch) (d : BitVec 5) (v : Word) : sameFlags (a.setW d v) = sameFlags a := by
  simp [sameFlags]

theorem Arch.getW_setW_same (a : Arch) (d : BitVec 5) (v : Word) (h : d ≠ 0) : (a.setW d v).getW d = v := by
  rw [Arch.getW_setW, if_pos ⟨rfl, h⟩]

theorem Arch.getW_setW_ne (a : Arch) (d e : BitVec 5) (v : Word) (h : e ≠ d) : (a.setW d v).getW e = a.getW e := by
  simp [Arch.getW_setW, h]

theorem Arch.getT_setT_same (a : Arch) (k : BitVec 2) (x : Word64) : (a.setT k x).getT k = x := by
  simp [Arch.getT_setT]

theorem Arch.getT_setT_ne (a : Arch) (k j : BitVec 2) (x : Word64) (h : j ≠ k) : (a.setT k x).getT j = a.getT j := by
  simp [Arch.getT_setT, h]

/-- Settles O5: each clause is the read-after-write law of its register file. -/
theorem registersReadBack : Obligations.RegistersReadBack := by
  refine ⟨⟨State.fget_fset, State.fget_fset_ne, State.fget_reset⟩, fun a d v => ?_⟩
  refine ⟨a.getW_zero, a.setW_zero v, a.getW_setW_same d v, fun e => a.getW_setW_ne d e v, a.setW_t d v, a.setW_ref d v,
    a.setW_pc d v, a.sameFlags_setW d v, fun k x => ?_⟩
  exact ⟨a.getT_setT_same k x, fun j => a.getT_setT_ne k j x, rfl⟩

/-! ### Writes of device space (R9, R11) -/

/-- Below the host's windows a write is one of device space. -/
theorem State.write_of_lt_hifBase (s : State) (a size w : Nat) (h : a < hifBase) : s.write a size w = s.devWrite a size w := by
  have hb : ¬ bar2Base ≤ a := by unfold bar2Base; unfold hifBase at h; omega
  unfold State.write
  rw [if_neg hb, if_neg (by omega)]

/-- From the base of the SRAM window on, bytes put into a memory never reach the page store, whatever its usable size says. -/
theorem State.devPut_dram_of_sramBase_le (s : State) (a : Nat) (b : List Byte) (h : sramBase ≤ a) :
    (s.devPut a b).mem.dram = s.mem.dram := by
  have hp : s.rawPut a b = s.sramWrite a b := if_neg (by omega)
  unfold State.devPut
  split
  · rw [hp]; rfl
  · rfl

/-- A write of a range that counts as page store stores nothing there where the range lies from the base of the SRAM window on. -/
theorem State.write_dram_of_inDram_above_sramBase (s : State) (a size w : Nat) (hlo : sramBase ≤ a) (hhi : a < hifBase)
    (hd : s.inDram a size = true) : (s.write a size w).mem.dram = s.mem.dram := by
  rw [State.write_of_lt_hifBase s a size w hhi]
  have hw : s.devWrite a size w = s.devPut a (natToBytes w size) := if_pos (.inl hd)
  rw [hw, State.devPut_dram_of_sramBase_le s a _ hlo]

/-- A reset state but for a zeroed page store whose USABLE_MIB holds 2^17, so that its usable end lies above the SRAM window's base. The value
is wider than the field's 15 bits: `fset` stores none such, but a state's field store is not bound to the widths. -/
def usableAboveSram : State :=
  { State.reset with fields := [(DRAMC_STATUS_ZEROED.key, 1), (DRAMC_USABLE_USABLE_MIB.key, 2 ^ 17)] }

theorem usableAboveSram_inDram : usableAboveSram.inDram sramBase 1 = true := by decide

theorem usableAboveSram_write_dram (size w : Nat) (hd : usableAboveSram.inDram sramBase size = true) :
    (usableAboveSram.write sramBase size w).mem.dram = [] :=
  State.write_dram_of_inDram_above_sramBase usableAboveSram sramBase size w (Nat.le_refl _) (by decide) hd

/-- Refutes O59, by its page-store clause alone: that clause takes `inDram` for "the bytes are stored in the page store" and, unlike the last
clause, does not ask for `usable ≤ 0x1000000000`. In `usableAboveSram` a write of the byte 1 at the base of the SRAM window is `inDram`, and the
model stores it in the SRAM. No state whose fields are within their widths has so large a usable page store, so the fault lies in the missing
hypothesis and not in the model's stores. -/
theorem not_registerWrites : ¬ Obligations.RegisterWrites := by
  intro h
  obtain ⟨-, hdev, -⟩ := h usableAboveSram 1 1 rfl
  obtain ⟨hdram, -⟩ := hdev sramBase 1 (.inl rfl) (by decide)
  obtain ⟨u, hu, hbytes, -⟩ := hdram usableAboveSram_inDram
  have hw : usableAboveSram.write sramBase 1 ((1 : BitVec 64).toNat % 256 ^ 1) = u := Host.Outcome.next.inj hu
  have hread : memGet u.mem.dram sramBase = 1 := hbytes 0 Nat.zero_lt_one
  rw [← hw, usableAboveSram_write_dram 1 _ usableAboveSram_inDram, memGet_nil] at hread
  exact absurd hread (by decide)

end Sys2Proof.Machine
end

section
/-! What an operation leaves as it was, as a relation that composes: a view of the state, the memories outside the recorder ring and BAR0, and
the register fields outside a list (R132, R152, R445). Then the frames of the operations that report a change: the recorder, releases, the event
ring, and the end of a command. -/

namespace Sys2Proof

open Sys2Proof.Machine

/-! ### Memories and fields -/

/-- The fields that place the recorder ring (R152). -/
def ringFields : List Fld := [DRAMC_STATUS_ZEROED, DRAMC_USABLE_USABLE_MIB, REC_CFG_RING_LOG2]

theorem onlyRing.used {s u : State} (h : onlyRing s u) : onlyRingUsed s u := by
  obtain ⟨hm, hd, hw⟩ := h
  refine ⟨⟨?_, hd, hw⟩, fun w _ => ?_⟩
  · rw [hm]
  · rw [hm]; exact ⟨Iff.rfl, Iff.rfl⟩

theorem onlyRingUsed_of_mem {s u : State} (h : u.mem = { s.mem with used := u.mem.used }) : onlyRingUsed s u := by
  refine ⟨⟨?_, fun a _ => ?_, fun w _ => ?_⟩, fun w _ => ?_⟩
  · rw [h]
  · rw [h]
  · rw [h]; exact ⟨Iff.rfl, Iff.rfl⟩
  · rw [h]; exact ⟨Iff.rfl, Iff.rfl⟩

theorem onlyRingUsed.trans {s t u : State} (hr : ∀ a, inRing t a = inRing s a) (h : onlyRingUsed s t) (k : onlyRingUsed t u) :
    onlyRingUsed s u := by
  obtain ⟨⟨hm, hd, hw⟩, hp⟩ := h
  obtain ⟨⟨km, kd, kw⟩, kp⟩ := k
  refine ⟨⟨?_, fun a ha => ?_, fun w hw' => ?_⟩, fun w hw' => ?_⟩
  · rw [km]; rw [hm]
  · exact (kd a ((hr a).trans ha)).trans (hd a ha)
  · obtain ⟨hb, ho⟩ := hw w hw'
    obtain ⟨kb, ko⟩ := kw w ((hr _).trans hw')
    exact ⟨kb.trans hb, ko.trans ho⟩
  · obtain ⟨ho, hb⟩ := hp w hw'
    obtain ⟨ko, kb⟩ := kp w hw'
    exact ⟨ko.trans ho, kb.trans hb⟩

theorem keepsFields.trans {s t u : State} {ks : List Fld} (h : keepsFields s t ks) (k : keepsFields t u ks) : keepsFields s u ks :=
  fun f hf => (k f hf).trans (h f hf)

theorem keepsFields.mono {s u : State} {ks ls : List Fld} (h : keepsFields s u ks) (hs : ks ⊆ ls) : keepsFields s u ls :=
  fun f hf => h f (fun hk => hf (List.map_subset Fld.key hs hk))

theorem keepsFields_of_fields {s u : State} {ks : List Fld} (h : u.fields = s.fields) : keepsFields s u ks := fun f _ => State.fget_of_fields h f

theorem keepsFields_fset (s : State) {f : Fld} {ks : List Fld} (x : Nat) (hf : f ∈ ks) : keepsFields s (s.fset f x) ks :=
  fun g hg => State.fget_fset_ne s f g x (fun hk => hg (hk ▸ List.mem_map_of_mem hf))

theorem keepsFields.bit {s u : State} {ks : List Fld} (h : keepsFields s u ks) {f : Fld} (hf : f.key ∉ ks.map Fld.key) : u.bit f = s.bit f := by
  unfold State.bit; rw [h f hf]

/-- The ring stands where it did while its fields are kept. -/
theorem keepsFields.inRing {s u : State} {ks : List Fld} (h : keepsFields s u ks) (hk : ∀ f ∈ ringFields, f.key ∉ ks.map Fld.key) (a : Nat) :
    inRing u a = inRing s a := by
  have hz := h _ (hk DRAMC_STATUS_ZEROED (by decide))
  have hm := h _ (hk DRAMC_USABLE_USABLE_MIB (by decide))
  have hl := h _ (hk REC_CFG_RING_LOG2 (by decide))
  have hu : u.usable = s.usable := by unfold State.usable State.bit; rw [hz, hm]
  have hs : u.ringSize = s.ringSize := by unfold State.ringSize; rw [hl]
  unfold Sys2Proof.inRing State.ringBase; rw [hu, hs]

end Sys2Proof

namespace Sys2Proof.Machine

/-! ### The relation -/

/-- `u` shows in `v` what `s` does, its memories differ as events and freed planes let them, and its fields outside `ks` hold what they held. -/
structure Frame {α : Type} (v : State → α) (ks : List Fld) (s u : State) : Prop where
  view : v u = v s
  mem : onlyRingUsed s u
  ring : ∀ a, inRing u a = inRing s a
  fields : keepsFields s u ks

namespace Frame

variable {α β : Type} {v : State → α} {ks ls : List Fld} {s t u : State}

protected theorem refl (v : State → α) (ks : List Fld) (s : State) : Frame v ks s s :=
  ⟨rfl, onlyRingUsed_of_mem rfl, fun _ => rfl, fun _ _ => rfl⟩

protected theorem trans (h : Frame v ks s t) (k : Frame v ks t u) : Frame v ks s u :=
  ⟨k.view.trans h.view, h.mem.trans h.ring k.mem, fun a => (k.ring a).trans (h.ring a), h.fields.trans k.fields⟩

theorem mono (h : Frame v ks s u) (hs : ks ⊆ ls) : Frame v ls s u := ⟨h.view, h.mem, h.ring, h.fields.mono hs⟩

/-- A view that follows from another. -/
theorem coarsen (h : Frame v ks s u) {w : State → β} (g : α → β) (hg : ∀ x, w x = g (v x)) : Frame w ks s u :=
  ⟨by rw [hg, hg, h.view], h.mem, h.ring, h.fields⟩

theorem of_fields (hv : v u = v s) (hf : u.fields = s.fields) (hm : u.mem = { s.mem with used := u.mem.used }) : Frame v ks s u :=
  ⟨hv, onlyRingUsed_of_mem hm, inRing_congr hf, keepsFields_of_fields hf⟩

theorem foldl {γ : Type} {f : State → γ → State} (h : ∀ s a, Frame v ks s (f s a)) (l : List γ) (s : State) : Frame v ks s (l.foldl f s) := by
  induction l generalizing s with
  | nil => exact Frame.refl v ks s
  | cons a l ih => exact (h s a).trans (ih (f s a))

theorem ringBar (h : Frame v ks s u) (hu : u.mem.used = s.mem.used) : onlyRingBar s u := by
  have hm := h.mem
  unfold onlyRingUsed at hm
  rwa [hu] at hm

end Frame

/-! ### Views -/

/-- What a report of a change leaves alone (R45): everything but the host interface and what an event may touch. -/
def viewReport (s : State) : State := { sansEvent s with host := State.reset.host, mem := { State.reset.mem with used := s.mem.used } }

/-- What a change of a sheet leaves alone. -/
def viewLedger (s : State) : State := { viewReport s with led := State.reset.led, jrn := State.reset.jrn }

/-- What a change of a sheet leaves alone where it frees planes (R132). -/
def viewSheets (s : State) : State := { viewLedger s with dma := [], stn := [], mem := State.reset.mem }

section
variable {ks : List Fld} {s u : State}

theorem Frame.led (h : Frame viewReport ks s u) : u.led = s.led := (congrArg State.led h.view :)
theorem Frame.jrn (h : Frame viewReport ks s u) : u.jrn = s.jrn := (congrArg State.jrn h.view :)
theorem Frame.stn (h : Frame viewReport ks s u) : u.stn = s.stn := (congrArg State.stn h.view :)
theorem Frame.tick (h : Frame viewReport ks s u) : u.tick = s.tick := (congrArg State.tick h.view :)
theorem Frame.power (h : Frame viewReport ks s u) : u.power = s.power := (congrArg State.power h.view :)
theorem Frame.dma (h : Frame viewReport ks s u) : u.dma = s.dma := (congrArg State.dma h.view :)

theorem Frame.ledger (h : Frame viewReport ks s u) : Frame viewLedger ks s u :=
  h.coarsen (fun x => { x with led := State.reset.led, jrn := State.reset.jrn }) (fun _ => rfl)

theorem Frame.sheets (h : Frame viewLedger ks s u) : Frame viewSheets ks s u :=
  h.coarsen (fun x => { x with dma := [], stn := [], mem := State.reset.mem }) (fun _ => rfl)

theorem Frame.ledger_stn (h : Frame viewLedger ks s u) : u.stn = s.stn := (congrArg State.stn h.view :)
theorem Frame.ledger_dma (h : Frame viewLedger ks s u) : u.dma = s.dma := (congrArg State.dma h.view :)
theorem Frame.sheets_power (h : Frame viewSheets ks s u) : u.power = s.power := (congrArg State.power h.view :)

theorem Frame.onlyLedger (h : Frame viewLedger ks s u) : onlyLedger s u :=
  ⟨congrArg (fun x : State => { x with led := u.led, jrn := u.jrn, host := u.host, mem := (sansEvent u).mem }) h.view,
    h.ringBar (congrArg (fun x => x.mem.used) h.view)⟩

theorem Frame.onlySheets (h : Frame viewSheets ks s u) : onlySheets s u :=
  ⟨congrArg (fun x : State => { x with led := u.led, jrn := u.jrn, host := u.host, mem := (sansEvent u).mem, dma := u.dma, stn := u.stn }) h.view,
    h.mem⟩

theorem Frame.onlyHost (h : Frame viewLedger ks s u) (hk : ks ⊆ hostFields) : onlyHost s u := ⟨h.onlyLedger, h.fields.mono hk⟩

end

/-! ### The recorder and releases (R101, R445) -/

/-- The fields that a report of a change may set (R101, R134, R137). -/
def reportFields : List Fld := [HIF_EVT_TAIL_EVT_TAIL, HIF_STATUS_EVT_OVERFLOW, HIF_STATUS_RESYNC_PENDING, PLC_STATUS_OVERRUN]

theorem State.record_frame (s : State) (typ sub : Nat) (d : List Int) (ks : List Fld) : Frame viewReport ks s (s.record typ sub d) := by
  obtain ⟨he, hr⟩ := s.record_only typ sub d
  have hf := s.record_fields typ sub d
  have hu : (s.record typ sub d).mem.used = s.mem.used := by rw [hr.1]
  refine ⟨?_, hr.used, inRing_congr hf, keepsFields_of_fields hf⟩
  unfold viewReport
  rw [hu, he]
  rfl

theorem State.fset_frame (s : State) (f : Fld) (x : Nat) {ks : List Fld} (hf : f ∈ ks := by decide)
    (hr : ∀ g ∈ ringFields, g.key ≠ f.key := by decide) : Frame viewReport ks s (s.fset f x) :=
  have hk : keepsFields s (s.fset f x) [f] := keepsFields_fset s x (List.mem_singleton_self f)
  ⟨rfl, onlyRingUsed_of_mem rfl, hk.inRing (fun g hg => by simpa using hr g hg), keepsFields_fset s x hf⟩

theorem State.setTask_frame (s : State) (i : Nat) (t : Task) : Frame viewReport reportFields s (s.setTask i t) := .of_fields rfl rfl rfl

theorem State.flag_frame (s : State) (f : Fld) {ks : List Fld} (hf : f ∈ ks := by decide) (hr : ∀ g ∈ ringFields, g.key ≠ f.key := by decide) :
    Frame viewReport ks s (s.flag f) := s.fset_frame f 1 hf hr

theorem State.sendOpen_frame (s : State) (src : Nat) (ks : List Fld) : Frame viewReport ks s (s.sendOpen src) := .of_fields rfl rfl rfl

theorem State.loseRelease_frame (s : State) (i : Nat) (t : Task) : Frame viewReport reportFields s (s.loseRelease i t) := by
  unfold State.loseRelease
  exact ((s.setTask_frame i _).trans (State.flag_frame _ _)).trans (State.sendOpen_frame _ _ _)

theorem State.pendRelease_frame (s : State) (i : Nat) (t : Task) (r : Release) : Frame viewReport reportFields s (s.pendRelease i t r) := by
  unfold State.pendRelease
  extract_lets t1
  split
  · exact s.setTask_frame i _
  · split
    · exact s.setTask_frame i _
    · exact s.loseRelease_frame i _

theorem State.recordPlace_frame (s : State) (r : List Nat) : Frame viewReport reportFields s (s.recordPlace r) := by
  unfold State.recordPlace
  refine Frame.trans ?_ (State.record_frame _ _ _ _ _)
  exact .of_fields rfl rfl rfl

theorem State.releaseNow_frame (s : State) (i : Nat) (r : Release) : Frame viewReport reportFields s (s.releaseNow i r) := by
  unfold State.releaseNow
  split
  · exact .refl _ _ s
  · rename_i t _
    split
    · exact s.setTask_frame i _
    · exact s.pendRelease_frame i t r
    · exact s.pendRelease_frame i t r
    · exact s.pendRelease_frame i t r
    · split
      · split
        · refine Frame.trans ?_ (State.recordPlace_frame _ _)
          have h1 : Frame viewReport reportFields s (s.makeReady i (t.restart true false)) := s.setTask_frame i _
          split
          · exact h1.trans (State.pendRelease_frame _ _ _ _)
          · exact h1
        · exact (s.setTask_frame i _).trans (State.recordPlace_frame _ _)
      · exact s.loseRelease_frame i t
    · exact s.loseRelease_frame i t

theorem State.release_frame (s : State) (i : Nat) (r : Release) : Frame viewReport reportFields s (s.release i r) := by
  unfold State.release
  split
  · exact .refl _ _ s
  · exact (s.record_frame _ _ _ _).trans (State.releaseNow_frame _ i r)

theorem State.releaseAll_frame (s : State) (p : TaskHdr → Bool) (r : Release) : Frame viewReport reportFields s (s.releaseAll p r) :=
  Frame.foldl (fun s i => by
    split
    · split
      · exact s.release_frame i r
      · exact .refl _ _ s
    · exact .refl _ _ s) _ s

theorem State.sheetRelease_frame (s : State) (st seq : Nat) (pos : Int) : Frame viewReport reportFields s (s.sheetRelease st seq pos) :=
  s.releaseAll_frame _ _

theorem State.event_frame (s : State) (sel : Nat) : Frame viewReport reportFields s (s.event sel) := by
  unfold State.event
  refine Frame.trans ?_ (State.releaseAll_frame _ _ _)
  exact .of_fields rfl rfl rfl

/-- A trigger of the recorder (R448) is an event that latches its time and its cause. -/
theorem State.trigger_frame (s : State) (cause : Nat) : Frame viewReport (trigFields ++ reportFields) s (s.trigger cause) := by
  unfold State.trigger
  split
  · refine Frame.trans ?_ ((State.event_frame _ _).mono (by decide))
    have hset : Frame viewReport (trigFields ++ reportFields) s (s.fsets [(REC_STATUS_STATE, 2), (REC_STATUS_TRIG_CAUSE, cause),
        (REC_TRIG_TIME_LO_TIME, s.now.toNat), (REC_TRIG_TIME_HI_TIME, s.now.toNat / 2 ^ 32)]) :=
      (((s.fset_frame REC_STATUS_STATE _).trans (State.fset_frame _ REC_STATUS_TRIG_CAUSE _)).trans
        (State.fset_frame _ REC_TRIG_TIME_LO_TIME _)).trans (State.fset_frame _ REC_TRIG_TIME_HI_TIME _)
    exact hset.trans (.of_fields rfl rfl rfl)
  · exact .refl _ _ s

/-! ### The event ring and the end of a command (R124, R134, R138) -/

theorem State.msixSend_host (s : State) (v : Nat) : s.msixSend v = { s with host := (s.msixSend v).host } := by
  unfold State.msixSend
  split
  · rfl
  · split <;> rfl

theorem State.msixSend_events (s : State) (v : Nat) : (s.msixSend v).host.events = s.host.events := by
  unfold State.msixSend
  split
  · rfl
  · split <;> rfl

theorem State.msix_host (s : State) (v : Nat) : s.msix v = { s with host := (s.msix v).host } := by
  unfold State.msix
  split
  · exact State.msixSend_host _ v
  · rfl

@[simp] theorem State.msix_events (s : State) (v : Nat) : (s.msix v).host.events = s.host.events := by
  unfold State.msix
  split
  · exact State.msixSend_events _ v
  · rfl

theorem State.msixTail_host (s : State) : s.msixTail = { s with host := s.msixTail.host } := by
  unfold State.msixTail
  extract_lets free
  split
  · split
    · exact congrArg (fun x : State => { x with host := { (s.msix 0).host with vec0At := some s.tick, vec0Due := false } }) (s.msix_host 0)
    · rfl
  · rfl

theorem State.msixTail_events (s : State) : s.msixTail.host.events = s.host.events := by
  unfold State.msixTail
  extract_lets free
  split
  · split
    · exact s.msix_events 0
    · rfl
  · rfl

theorem Frame.of_host {ks : List Fld} {s u : State} (h : u = { s with host := u.host }) : Frame viewReport ks s u := by
  rw [h]; exact .of_fields rfl rfl rfl

/-- A word outside BAR0 stays in a list of failing words whatever is written behind BAR0 (R160). -/
theorem mem_sramKeep_bar (ws : List Nat) (off len w : Nat) (hw : w < hifBase) : w ∈ sramKeep ws (hifBase + off) len ↔ w ∈ ws := by
  have hk : ¬ hifBase + off ≤ w := by omega
  simp [sramKeep, hk]

theorem State.barPut_frame (s : State) (off : Nat) (b : List Byte) (ks : List Fld) : Frame viewReport ks s (s.barPut off b) :=
  ⟨rfl, ⟨⟨rfl, fun _ _ => rfl, fun _ _ => ⟨Iff.rfl, Iff.rfl⟩⟩,
    fun w hw => ⟨mem_sramKeep_bar _ off _ w hw, mem_sramKeep_bar _ off _ w hw⟩⟩, fun _ => rfl, fun _ _ => rfl⟩

theorem State.push_frame (s : State) (e : HostEvent) : Frame viewReport [HIF_EVT_TAIL_EVT_TAIL] s (s.push e) := by
  refine Frame.trans ?_ (.of_host (State.msixTail_host _))
  refine Frame.trans ?_ (State.fset_frame _ HIF_EVT_TAIL_EVT_TAIL _)
  exact (s.barPut_frame _ _ _).trans (.of_fields rfl rfl rfl)

/-- The event written is the newest of the ring. -/
theorem State.push_events (s : State) (e : HostEvent) : (s.push e).host.events = s.host.events ++ [((s.host.eseq + 1) % 2 ^ 32, e)] :=
  State.msixTail_events _

theorem State.wantSeries_frame (s : State) (cause : Nat) : Frame viewReport reportFields s (s.wantSeries cause) := by
  unfold State.wantSeries
  split
  · refine Frame.trans ?_ (State.flag_frame _ _)
    exact .of_fields rfl rfl rfl
  · split
    · exact .of_fields rfl rfl rfl
    · exact .refl _ _ s

theorem State.postSheet_frame (s : State) (r : JRec) (tag : Nat) : Frame viewReport reportFields s (s.postSheet r tag) := by
  have hpush : Frame viewReport reportFields s (s.push (r.event tag false)) := (s.push_frame _).mono (by decide)
  unfold State.postSheet
  split
  · exact .refl _ _ s
  · split
    · split
      · exact .refl _ _ s
      · split
        · refine Frame.trans ?_ (State.flag_frame _ _)
          exact .of_fields rfl rfl rfl
        · exact hpush
    · split
      · exact (s.flag_frame (ks := reportFields) _).trans (State.wantSeries_frame _ 2)
      · exact hpush

/-- The fields that the end of a command sets (R124). -/
def doneFields : List Fld := [HIF_CMD_HEAD_CMD_HEAD, HIF_EVT_TAIL_EVT_TAIL]

theorem State.cmdFinish_frame (s : State) (e : HostEvent) : Frame viewReport doneFields s (s.cmdFinish e) := by
  refine Frame.trans ?_ (.of_host (State.msix_host _ 1))
  exact ((s.push_frame e).mono (by decide)).trans (State.fset_frame _ HIF_CMD_HEAD_CMD_HEAD _)

theorem State.cmdDone_frame (s : State) (h : CmdHead) (op st d : Nat) (res : List Nat) : Frame viewReport doneFields s (s.cmdDone h op st d res) :=
  s.cmdFinish_frame _

/-- A command that has ended is answered, seen from any earlier state with the same CMD_HEAD (R124, R135). -/
theorem State.cmdDone_answered {s t : State} (hk : t.fget HIF_CMD_HEAD_CMD_HEAD = s.fget HIF_CMD_HEAD_CMD_HEAD) (h : CmdHead) (op st d : Nat)
    (res : List Nat) : Answered s (t.cmdDone h op st d res) h.tag op st d res := by
  unfold State.cmdDone State.cmdFinish
  refine ⟨⟨(t.host.eseq + 1) % 2 ^ 32, ?_⟩, ?_⟩
  · rw [State.msix_events, State.fset_host, State.push_events, List.getLast?_concat]
  · have hf := State.fget_of_fields (congrArg State.fields (State.msix_host ((t.push (.cmdDone h.tag op st d res)).fset HIF_CMD_HEAD_CMD_HEAD
      ((t.fget HIF_CMD_HEAD_CMD_HEAD + 1) % 1024)) 1)) HIF_CMD_HEAD_CMD_HEAD
    rw [hf, ← hk]
    exact (State.fget_fset _ _ _).trans (Nat.mod_mod _ 1024)

end Sys2Proof.Machine
end

section
/-! The ledger and its journal: what an edit of a sheet, a staged record, a journaled change, freed planes, and the pump of the journal do, and
what they leave alone (R36, R42, R44, R45, R49, R55, R132). -/

namespace Sys2Proof.Machine

/-! ### Sheets -/

theorem State.sheet?_of_sheets {s u : State} (h : u.led.sheets = s.led.sheets) (q : Nat) : u.sheet? q = s.sheet? q := by
  unfold State.sheet?; rw [h]

theorem State.sheet?_seq {s : State} {seq : Nat} {sh : Sheet} (h : s.sheet? seq = some sh) : sh.seq = seq := by
  simpa using List.find?_some h

theorem State.sheet?_mem {s : State} {seq : Nat} {sh : Sheet} (h : s.sheet? seq = some sh) : sh ∈ s.led.sheets := List.mem_of_find?_eq_some h

/-- A lookup after an edit that keeps sequence numbers. -/
theorem State.sheet?_modSheet (s : State) (seq q : Nat) {f : Sheet → Sheet} (hf : ∀ x, (f x).seq = x.seq) :
    (s.modSheet seq f).sheet? q = if q = seq then (s.sheet? q).map f else s.sheet? q := by
  have hp : (fun sh : Sheet => sh.seq == q) ∘ (fun sh => if sh.seq = seq then f sh else sh) = fun sh => sh.seq == q := by
    funext x
    simp only [Function.comp]
    split
    · rw [hf]
    · rfl
  simp only [State.sheet?, State.modSheet, List.find?_map, hp]
  cases h : s.led.sheets.find? (fun sh => sh.seq == q) with
  | none => simp
  | some x =>
    have hx : x.seq = q := by simpa using List.find?_some h
    by_cases hq : q = seq
    · simp [hx, hq]
    · simp [hx, hq]

theorem State.sheet?_modSheet_same {s : State} {seq : Nat} {sh : Sheet} (h : s.sheet? seq = some sh) {f : Sheet → Sheet}
    (hf : ∀ x, (f x).seq = x.seq) : (s.modSheet seq f).sheet? seq = some (f sh) := by
  rw [s.sheet?_modSheet seq seq hf, if_pos rfl, h]; rfl

theorem State.sheet?_modSheet_ne (s : State) {seq q : Nat} (hq : q ≠ seq) {f : Sheet → Sheet} (hf : ∀ x, (f x).seq = x.seq) :
    (s.modSheet seq f).sheet? q = s.sheet? q := by
  rw [s.sheet?_modSheet seq q hf, if_neg hq]

theorem State.modSheet_modSheet (s : State) (seq : Nat) {f : Sheet → Sheet} (hf : ∀ x, (f x).seq = x.seq) (g : Sheet → Sheet) :
    (s.modSheet seq f).modSheet seq g = s.modSheet seq (g ∘ f) := by
  have hc : (fun sh : Sheet => if sh.seq = seq then g sh else sh) ∘ (fun sh => if sh.seq = seq then f sh else sh)
      = fun sh => if sh.seq = seq then (g ∘ f) sh else sh := by
    funext x
    by_cases hx : x.seq = seq
    · simp [hx, hf]
    · simp [hx]
  simp [State.modSheet, List.map_map, hc]

theorem State.modSheet_length (s : State) (seq : Nat) (f : Sheet → Sheet) : (s.modSheet seq f).led.sheets.length = s.led.sheets.length :=
  List.length_map _

theorem State.modSheet_ledger (s : State) (seq : Nat) (f : Sheet → Sheet) (ks : List Fld) : Frame viewLedger ks s (s.modSheet seq f) :=
  .of_fields rfl rfl rfl

/-- The idle time of R49 is all that `idleUpdate` writes. -/
theorem State.idleUpdate_led (s : State) : s.idleUpdate
    = { s with led := { s.led with idleSince := s.idleUpdate.led.idleSince, idleDone := s.idleUpdate.led.idleDone } } := by
  unfold State.idleUpdate
  split
  · rfl
  · split <;> rfl

theorem State.idleUpdate_ledger (s : State) (ks : List Fld) : Frame viewLedger ks s s.idleUpdate := by
  rw [s.idleUpdate_led]; exact .of_fields rfl rfl rfl

theorem State.idleUpdate_sheets (s : State) : s.idleUpdate.led.sheets = s.led.sheets := by rw [s.idleUpdate_led]
theorem State.idleUpdate_fixed (s : State) : s.idleUpdate.led.fixed = s.led.fixed := by rw [s.idleUpdate_led]
theorem State.idleUpdate_heldAcks (s : State) : s.idleUpdate.led.heldAcks = s.led.heldAcks := by rw [s.idleUpdate_led]
theorem State.idleUpdate_jrn (s : State) : s.idleUpdate.jrn = s.jrn := by rw [s.idleUpdate_led]

@[simp] theorem State.sheet?_idleUpdate (s : State) (q : Nat) : s.idleUpdate.sheet? q = s.sheet? q := State.sheet?_of_sheets s.idleUpdate_sheets q

/-! ### Journaled changes (R36, R44, R45) -/

/-- What is staged first stands behind what was staged (R44). -/
theorem staged_of_stage {s t u : State} {r : JRec} (h : t.jrn = (s.stage r).jrn) (hp : t.jrn.staged <+: u.jrn.staged) : Staged s u r.typ r.seq := by
  obtain ⟨rest, hr⟩ := hp
  refine ⟨{ r with jseq := s.jrn.jseq }, rest, ?_, rfl, rfl, rfl⟩
  rw [← hr, h]
  exact List.append_assoc _ [_] rest

theorem staged_of_jrn {s t u : State} (h : t.jrn = s.jrn) {typ seq : Nat} (hs : Staged t u typ seq) : Staged s u typ seq := by
  unfold Staged at hs ⊢; rwa [h] at hs

/-- The record of a sheet's present state (R45, R46). -/
def State.nextRec (s : State) (sh : Sheet) : JRec := { s.sheetRec 0x01 sh with jseq := s.jrn.jseq, tell := s.degraded }

/-- A sheet once its present state is journaled (R45). -/
def State.journaledSheet (s : State) (sh : Sheet) : Sheet := sh.recorded (s.nextRec sh) (!s.degraded)

/-- The state once a sheet's present state is journaled, before the report. -/
def State.journaled (s : State) (sh : Sheet) : State :=
  (s.modSheet sh.seq (fun x => x.recorded (s.nextRec sh) (!s.degraded))).stage (s.nextRec sh)

theorem State.report_frame {s : State} {r : JRec} {sh : Sheet} (h : s.sheet? r.seq = some sh) :
    Frame viewReport reportFields (s.modSheet r.seq (fun x => { x with toldRec := some r })) (s.report r) := by
  unfold State.report
  rw [h]
  exact (State.postSheet_frame _ _ _).trans (State.sheetRelease_frame _ _ _ _)

/-- Journaling a sheet is its record, then a report. -/
theorem State.journalSheet_frame {s : State} {seq : Nat} {sh : Sheet} (h : s.sheet? seq = some sh) :
    Frame viewReport reportFields (s.journaled sh) (s.journalSheet seq) := by
  obtain rfl := State.sheet?_seq h
  have hr : ∀ (b : Bool) (x : Sheet), (x.recorded (s.nextRec sh) b).seq = x.seq := fun _ _ => rfl
  have hj : s.journalSheet sh.seq = if s.degraded then s.journaled sh else (s.journaled sh).report (s.nextRec sh) := by
    unfold State.journalSheet
    rw [h]
    rfl
  rw [hj]
  split
  · exact .refl _ _ _
  · rename_i hd
    have hrep : Frame viewReport reportFields ((s.journaled sh).modSheet sh.seq (fun x => { x with toldRec := some (s.nextRec sh) }))
        ((s.journaled sh).report (s.nextRec sh)) :=
      State.report_frame (s := s.journaled sh) (r := s.nextRec sh) (State.sheet?_modSheet_same h (hr _))
    have hsame : (s.journaled sh).modSheet sh.seq (fun x => { x with toldRec := some (s.nextRec sh) }) = s.journaled sh := by
      have hmm := s.modSheet_modSheet sh.seq (hr (!s.degraded)) (fun x => { x with toldRec := some (s.nextRec sh) })
      have hc : (fun x : Sheet => { x with toldRec := some (s.nextRec sh) }) ∘ (fun x : Sheet => x.recorded (s.nextRec sh) (!s.degraded))
          = fun x : Sheet => x.recorded (s.nextRec sh) (!s.degraded) := by
        simp [hd, Sheet.recorded, Function.comp_def]
      rw [hc] at hmm
      exact congrArg (fun x => x.stage (s.nextRec sh)) hmm
    rwa [hsame] at hrep

section
variable {s : State} {seq : Nat} {sh : Sheet}

theorem State.journalSheet_ledger (h : s.sheet? seq = some sh) : Frame viewLedger reportFields s (s.journalSheet seq) :=
  have hj : Frame viewLedger reportFields s (s.journaled sh) := .of_fields rfl rfl rfl
  hj.trans (State.journalSheet_frame h).ledger

theorem State.journalSheet_jrn (h : s.sheet? seq = some sh) : (s.journalSheet seq).jrn = (s.stage (s.nextRec sh)).jrn := (State.journalSheet_frame h).jrn

theorem State.journalSheet_led (h : s.sheet? seq = some sh) :
    (s.journalSheet seq).led = (s.modSheet seq (fun x => x.recorded (s.nextRec sh) (!s.degraded))).led := by
  obtain rfl := State.sheet?_seq h
  exact (State.journalSheet_frame h).led

theorem State.sheet?_journalSheet_same (h : s.sheet? seq = some sh) : (s.journalSheet seq).sheet? seq = some (s.journaledSheet sh) := by
  rw [State.sheet?_of_sheets (congrArg Ledger.sheets (State.journalSheet_led h))]
  exact State.sheet?_modSheet_same h (fun _ => rfl)

theorem State.sheet?_journalSheet_ne (h : s.sheet? seq = some sh) {q : Nat} (hq : q ≠ seq) : (s.journalSheet seq).sheet? q = s.sheet? q := by
  rw [State.sheet?_of_sheets (congrArg Ledger.sheets (State.journalSheet_led h))]
  exact s.sheet?_modSheet_ne hq (fun _ => rfl)

/-- A sheet that has entered a state, with its record (R36). -/
def State.enteredSheet (s : State) (sh : Sheet) (st : SheetState) : Sheet := s.journaledSheet { sh with st := st }

/-- The fields that an entered state may set: those of its report, and those of a trigger (R448). -/
def enterFields : List Fld := trigFields ++ reportFields

/-- Entering a state is an edit and a journaled change; the recorder may be triggered. -/
theorem State.enter_frame (s : State) (seq : Nat) (st : SheetState) :
    Frame viewReport enterFields ((s.modSheet seq (fun x => { x with st := st })).journalSheet seq) (s.enter seq st) := by
  unfold State.enter
  extract_lets s1
  split
  · exact State.trigger_frame _ 3
  · split
    · exact State.trigger_frame _ 4
    · exact .refl _ _ _

/-- No other state triggers the recorder. -/
theorem State.enter_eq (s : State) (seq : Nat) {st : SheetState} (hf : st ≠ .failed) (hd : st ≠ .deliveredDefect) :
    s.enter seq st = (s.modSheet seq (fun x => { x with st := st })).journalSheet seq := by
  unfold State.enter
  rw [if_neg (fun h => hf h.1), if_neg (fun h => hd h.1)]

theorem State.sheet?_setState (h : s.sheet? seq = some sh) (st : SheetState) :
    (s.modSheet seq (fun x => { x with st := st })).sheet? seq = some { sh with st := st } :=
  State.sheet?_modSheet_same h (fun _ => rfl)

theorem State.enter_ledger (h : s.sheet? seq = some sh) (st : SheetState) : Frame viewLedger enterFields s (s.enter seq st) :=
  ((s.modSheet_ledger seq _ _).trans ((State.journalSheet_ledger (State.sheet?_setState h st)).mono (by decide))).trans (s.enter_frame seq st).ledger

/-- A state that does not trigger the recorder sets no field but those of the report. -/
theorem State.enter_ledger_report (h : s.sheet? seq = some sh) {st : SheetState} (hf : st ≠ .failed) (hd : st ≠ .deliveredDefect) :
    Frame viewLedger reportFields s (s.enter seq st) := by
  rw [s.enter_eq seq hf hd]
  exact (s.modSheet_ledger seq _ _).trans (State.journalSheet_ledger (State.sheet?_setState h st))

theorem State.enter_jrn (h : s.sheet? seq = some sh) (st : SheetState) :
    (s.enter seq st).jrn = (s.stage (s.nextRec { sh with st := st })).jrn :=
  (s.enter_frame seq st).jrn.trans (State.journalSheet_jrn (State.sheet?_setState h st))

theorem State.enter_staged (h : s.sheet? seq = some sh) (st : SheetState) {u : State} (hp : (s.enter seq st).jrn.staged <+: u.jrn.staged) :
    Staged s u 0x01 seq := by
  have hs := staged_of_stage (State.enter_jrn h st) hp
  rwa [← State.sheet?_seq h]

/-- Of the ledger an entered state changes the sheets alone. -/
theorem State.enter_led (h : s.sheet? seq = some sh) (st : SheetState) :
    (s.enter seq st).led = { s.led with sheets := (s.enter seq st).led.sheets } := by
  rw [(s.enter_frame seq st).led, State.journalSheet_led (State.sheet?_setState h st)]
  rfl

theorem State.enter_length (h : s.sheet? seq = some sh) (st : SheetState) : (s.enter seq st).led.sheets.length = s.led.sheets.length := by
  rw [(s.enter_frame seq st).led, State.journalSheet_led (State.sheet?_setState h st), State.modSheet_length, State.modSheet_length]

theorem State.sheet?_enter_same (h : s.sheet? seq = some sh) (st : SheetState) : (s.enter seq st).sheet? seq = some (s.enteredSheet sh st) := by
  rw [State.sheet?_of_sheets (congrArg Ledger.sheets (s.enter_frame seq st).led)]
  exact State.sheet?_journalSheet_same (State.sheet?_setState h st)

theorem State.sheet?_enter_ne (h : s.sheet? seq = some sh) (st : SheetState) {q : Nat} (hq : q ≠ seq) : (s.enter seq st).sheet? q = s.sheet? q := by
  rw [State.sheet?_of_sheets (congrArg Ledger.sheets (s.enter_frame seq st).led), State.sheet?_journalSheet_ne (State.sheet?_setState h st) hq]
  exact s.sheet?_modSheet_ne hq (fun _ => rfl)

/-! ### Freed planes and failures (R35, R132) -/

/-- A sheet whose planes' space is free. -/
def Sheet.freed (x : Sheet) : Sheet := { x with planes := x.planes.map (fun p => { p with blocks := [], freed := true }) }

theorem State.freePlanes_led (h : s.sheet? seq = some sh) : (s.freePlanes seq).led = (s.modSheet seq Sheet.freed).led := by
  unfold State.freePlanes; rw [h]; rfl

theorem State.freePlanes_jrn (h : s.sheet? seq = some sh) : (s.freePlanes seq).jrn = s.jrn := by
  unfold State.freePlanes; rw [h]; rfl

theorem State.freePlanes_sheets (h : s.sheet? seq = some sh) (ks : List Fld) : Frame viewSheets ks s (s.freePlanes seq) := by
  unfold State.freePlanes; rw [h]; exact .of_fields rfl rfl rfl

theorem State.sheet?_freePlanes_same (h : s.sheet? seq = some sh) : (s.freePlanes seq).sheet? seq = some sh.freed := by
  rw [State.sheet?_of_sheets (congrArg Ledger.sheets (State.freePlanes_led h))]
  exact State.sheet?_modSheet_same h (fun _ => rfl)

theorem State.sheet?_freePlanes_ne (h : s.sheet? seq = some sh) {q : Nat} (hq : q ≠ seq) : (s.freePlanes seq).sheet? q = s.sheet? q := by
  rw [State.sheet?_of_sheets (congrArg Ledger.sheets (State.freePlanes_led h))]
  exact s.sheet?_modSheet_ne hq (fun _ => rfl)

/-- A sheet's space is freed, it is edited, and it enters a state: what a failure, a delivery and a withdrawal share (R36, R132). -/
def State.finish (s : State) (seq : Nat) (f : Sheet → Sheet) (st : SheetState) : State := ((s.freePlanes seq).modSheet seq f).enter seq st

section
variable {f : Sheet → Sheet} (hf : ∀ x, (f x).seq = x.seq) (st : SheetState)
include hf

theorem State.sheet?_freed_edit (h : s.sheet? seq = some sh) : ((s.freePlanes seq).modSheet seq f).sheet? seq = some (f sh.freed) :=
  State.sheet?_modSheet_same (State.sheet?_freePlanes_same h) hf

theorem State.sheet?_finish_same (h : s.sheet? seq = some sh) :
    (s.finish seq f st).sheet? seq = some (((s.freePlanes seq).modSheet seq f).enteredSheet (f sh.freed) st) :=
  State.sheet?_enter_same (State.sheet?_freed_edit hf h) st

theorem State.sheet?_finish_ne (h : s.sheet? seq = some sh) {q : Nat} (hq : q ≠ seq) : (s.finish seq f st).sheet? q = s.sheet? q := by
  rw [State.finish, State.sheet?_enter_ne (State.sheet?_freed_edit hf h) st hq, State.sheet?_modSheet_ne _ hq hf, State.sheet?_freePlanes_ne h hq]

/-- The record staged names the sheet and the state. -/
theorem State.finish_jrn (h : s.sheet? seq = some sh) :
    ∃ r : JRec, (s.finish seq f st).jrn = (s.stage r).jrn ∧ r.typ = 0x01 ∧ r.seq = seq ∧ r.st = st.code := by
  refine ⟨((s.freePlanes seq).modSheet seq f).nextRec { f sh.freed with st := st }, ?_, rfl, ?_, rfl⟩
  · rw [State.finish, State.enter_jrn (State.sheet?_freed_edit hf h) st]
    unfold State.stage
    rw [State.modSheet_jrn, State.freePlanes_jrn h]
  · exact (hf sh.freed).trans (State.sheet?_seq (s := s) (sh := sh) h)

theorem State.finish_staged (h : s.sheet? seq = some sh) {u : State} (hp : (s.finish seq f st).jrn.staged <+: u.jrn.staged) : Staged s u 0x01 seq := by
  obtain ⟨r, hr, ht, hq, -⟩ := State.finish_jrn hf st h
  rw [← ht, ← hq]
  exact staged_of_stage hr hp

theorem State.finish_sheets (h : s.sheet? seq = some sh) : Frame viewSheets enterFields s (s.finish seq f st) :=
  ((State.freePlanes_sheets h _).trans (State.modSheet_ledger _ seq f _).sheets).trans (State.enter_ledger (State.sheet?_freed_edit hf h) st).sheets

/-- A state that does not trigger the recorder sets no field but those of the report. -/
theorem State.finish_sheets_report (hfail : st ≠ .failed) (hdef : st ≠ .deliveredDefect) (h : s.sheet? seq = some sh) :
    Frame viewSheets reportFields s (s.finish seq f st) :=
  ((State.freePlanes_sheets h _).trans (State.modSheet_ledger _ seq f _).sheets).trans
    (State.enter_ledger_report (State.sheet?_freed_edit hf h) hfail hdef).sheets

theorem State.finish_heldAcks (h : s.sheet? seq = some sh) : (s.finish seq f st).led.heldAcks = s.led.heldAcks := by
  rw [State.finish, State.enter_led (State.sheet?_freed_edit hf h) st]
  show (s.freePlanes seq).led.heldAcks = _
  rw [State.freePlanes_led h]
  rfl

end

/-- A failed sheet's reason and DETAIL (R35, R46). -/
def Sheet.failedFor (reason detail : Nat) (x : Sheet) : Sheet := { x with reason := reason, detail := detail }

theorem Sheet.failedFor_seq (reason detail : Nat) (x : Sheet) : (x.failedFor reason detail).seq = x.seq := rfl

theorem State.failSheet_eq (h : s.sheet? seq = some sh) (hf : sh.st.inFlight = true) (reason detail : Nat) :
    s.failSheet seq reason detail = (s.finish seq (Sheet.failedFor reason detail) .failed).idleUpdate := by
  unfold State.failSheet
  rw [h]
  exact if_pos hf

theorem State.sheet?_failSheet_same (h : s.sheet? seq = some sh) (hf : sh.st.inFlight = true) (reason detail : Nat) :
    ∃ y, (s.failSheet seq reason detail).sheet? seq = some y ∧ y.st = .failed ∧ y.reason = reason ∧ y.detail = detail := by
  rw [State.failSheet_eq h hf, State.sheet?_idleUpdate, State.sheet?_finish_same (Sheet.failedFor_seq reason detail) _ h]
  exact ⟨_, rfl, rfl, rfl, rfl⟩

theorem State.sheet?_failSheet_ne (h : s.sheet? seq = some sh) (hf : sh.st.inFlight = true) (reason detail : Nat) {q : Nat} (hq : q ≠ seq) :
    (s.failSheet seq reason detail).sheet? q = s.sheet? q := by
  rw [State.failSheet_eq h hf, State.sheet?_idleUpdate, State.sheet?_finish_ne (Sheet.failedFor_seq reason detail) _ h hq]

theorem State.failSheet_jrn (h : s.sheet? seq = some sh) (hf : sh.st.inFlight = true) (reason detail : Nat) :
    ∃ r : JRec, (s.failSheet seq reason detail).jrn = (s.stage r).jrn ∧ r.typ = 0x01 ∧ r.seq = seq ∧ r.st = 10 := by
  rw [State.failSheet_eq h hf, State.idleUpdate_jrn]
  exact State.finish_jrn (Sheet.failedFor_seq reason detail) .failed h

theorem State.failSheet_staged (h : s.sheet? seq = some sh) (hf : sh.st.inFlight = true) (reason detail : Nat) {u : State}
    (hp : (s.failSheet seq reason detail).jrn.staged <+: u.jrn.staged) : Staged s u 0x01 seq := by
  obtain ⟨r, hr, ht, hq, -⟩ := State.failSheet_jrn h hf reason detail
  rw [← ht, ← hq]
  exact staged_of_stage hr hp

theorem State.failSheet_sheets (h : s.sheet? seq = some sh) (hf : sh.st.inFlight = true) (reason detail : Nat) :
    Frame viewSheets enterFields s (s.failSheet seq reason detail) := by
  rw [State.failSheet_eq h hf]
  exact (State.finish_sheets (Sheet.failedFor_seq reason detail) _ h).trans (State.idleUpdate_ledger _ _).sheets

end

/-! ### The pump of the journal (R44, R49, R55, R483) -/

/-- What staging leaves alone: everything but the register fields, the staging area, the checkpoint in progress, the acknowledgements with
the final sheets that they take out, and the time without a cause of R55. -/
def viewPump (s : State) : State :=
  { s with fields := [], led := { s.led with sheets := [], ack := 0, heldAcks := [], clearSince := none }
           jrn := { s.jrn with staged := [], jseq := 0, compact := none } }

/-- `u` is `s` after records have been staged behind what was staged. -/
structure Staging (ks : List Fld) (s u : State) : Prop where
  view : viewPump u = viewPump s
  staged : s.jrn.staged <+: u.jrn.staged
  fields : keepsFields s u ks

/-- As above; and where no acknowledgement is held, none takes a sheet out. -/
structure Pumped (ks : List Fld) (s u : State) : Prop extends Staging ks s u where
  held : s.led.heldAcks = [] → u.led.sheets = s.led.sheets ∧ u.led.nextSeq = s.led.nextSeq ∧ u.led.heldAcks = []

/-- The fields that the pump may set (R49, R55). -/
def pumpFields : List Fld := [LEDG_STATUS_GUARANTEE_DEGRADED, LEDG_STATUS_COMPACTING]

section
variable {ks ls : List Fld} {s t u : State}

theorem Staging.trans (h : Staging ks s t) (k : Staging ks t u) : Staging ks s u :=
  ⟨k.view.trans h.view, h.staged.trans k.staged, h.fields.trans k.fields⟩

protected theorem Pumped.refl (ks : List Fld) (s : State) : Pumped ks s s := ⟨⟨rfl, List.prefix_rfl, fun _ _ => rfl⟩, fun h => ⟨rfl, rfl, h⟩⟩

theorem Pumped.trans (h : Pumped ks s t) (k : Pumped ks t u) : Pumped ks s u := by
  refine ⟨h.toStaging.trans k.toStaging, fun hs => ?_⟩
  obtain ⟨h1, h2, h3⟩ := h.held hs
  obtain ⟨k1, k2, k3⟩ := k.held h3
  exact ⟨k1.trans h1, k2.trans h2, k3⟩

theorem Pumped.mono (h : Pumped ks s u) (hs : ks ⊆ ls) : Pumped ls s u := ⟨⟨h.view, h.staged, h.fields.mono hs⟩, h.held⟩

theorem Staging.mem (h : Staging ks s u) : u.mem = s.mem := (congrArg State.mem h.view :)
theorem Staging.ex (h : Staging ks s u) : u.ex = s.ex := (congrArg State.ex h.view :)
theorem Staging.dma (h : Staging ks s u) : u.dma = s.dma := (congrArg State.dma h.view :)
theorem Staging.ring (h : Staging ks s u) : u.jrn.ring = s.jrn.ring := (congrArg (fun x : State => x.jrn.ring) h.view :)
theorem Staging.writer (h : Staging ks s u) : u.jrn.writer = s.jrn.writer := (congrArg (fun x : State => x.jrn.writer) h.view :)
theorem Staging.fails (h : Staging ks s u) : u.jrn.fails = s.jrn.fails := (congrArg (fun x : State => x.jrn.fails) h.view :)

theorem Staging.frame (h : Staging ks s u) (hk : ∀ f ∈ ringFields, f.key ∉ ks.map Fld.key := by decide) : Frame viewLedger ks s u :=
  ⟨(congrArg viewLedger h.view :), onlyRingUsed_of_mem (by rw [h.mem]), h.fields.inRing hk, h.fields⟩

theorem State.stage_pumped (s : State) (r : JRec) (ks : List Fld) : Pumped ks s (s.stage r) :=
  ⟨⟨rfl, List.prefix_append _ _, fun _ _ => rfl⟩, fun h => ⟨rfl, rfl, h⟩⟩

theorem State.setCompact_pumped (s : State) (c : Option (Nat × List CkptItem)) (ks : List Fld) :
    Pumped ks s { s with jrn := { s.jrn with compact := c } } := ⟨⟨rfl, List.prefix_rfl, fun _ _ => rfl⟩, fun h => ⟨rfl, rfl, h⟩⟩

theorem State.applyAck_staging (s : State) (n : Nat) (ks : List Fld) : Staging ks s (s.applyAck n) := by
  unfold State.applyAck
  split
  · exact (Pumped.refl ks s).toStaging
  · extract_lets k s1
    split
    · exact ⟨rfl, List.prefix_append _ _, fun _ _ => rfl⟩
    · exact ⟨rfl, List.prefix_rfl, fun _ _ => rfl⟩

theorem State.ackRun_staging (s : State) (l : List Nat) (ks : List Fld) : Staging ks s (s.ackRun l) := by
  induction l generalizing s with
  | nil => exact ⟨rfl, List.prefix_rfl, fun _ _ => rfl⟩
  | cons n rest ih =>
    unfold State.ackRun
    split
    · exact ⟨rfl, List.prefix_rfl, fun _ _ => rfl⟩
    · exact (s.applyAck_staging n ks).trans (ih _)

theorem State.applyHeldAcks_pumped (s : State) (ks : List Fld) : Pumped ks s s.applyHeldAcks := by
  unfold State.applyHeldAcks
  split
  · refine ⟨s.ackRun_staging _ ks, fun h => ?_⟩
    rw [h]
    exact ⟨rfl, rfl, rfl⟩
  · exact .refl ks s

theorem State.compactOne_pumped (s : State) (j : Nat) (item : CkptItem) (rest : List CkptItem) (ks : List Fld) :
    Pumped ks s (s.compactOne j item rest) := by
  unfold State.compactOne
  split
  · exact (s.stage_pumped _ ks).trans (State.setCompact_pumped _ _ ks)
  · split
    · exact (s.setCompact_pumped _ ks).trans (State.stage_pumped _ _ ks)
    · exact s.setCompact_pumped _ ks
  · split
    · exact (s.setCompact_pumped _ ks).trans (State.stage_pumped _ _ ks)
    · exact s.setCompact_pumped _ ks
  · exact ((s.setCompact_pumped _ ks).trans (State.stage_pumped _ _ ks)).trans (State.applyHeldAcks_pumped _ ks)

theorem State.compactPump_pumped (s : State) (k : Nat) (ks : List Fld) : Pumped ks s (s.compactPump k) := by
  induction k generalizing s with
  | zero => exact .refl ks s
  | succ k ih =>
    unfold State.compactPump
    split
    · split
      · exact (s.compactOne_pumped _ _ _ ks).trans (ih _)
      · exact .refl ks s
    · exact .refl ks s

theorem State.fset_pumped (s : State) (f : Fld) (x : Nat) (hf : f ∈ ks) : Pumped ks s (s.fset f x) :=
  ⟨⟨rfl, List.prefix_rfl, keepsFields_fset s x hf⟩, fun h => ⟨rfl, rfl, h⟩⟩

theorem State.setClear_pumped (s : State) (c : Option Nat) (ks : List Fld) : Pumped ks s { s with led := { s.led with clearSince := c } } :=
  ⟨⟨rfl, List.prefix_rfl, fun _ _ => rfl⟩, fun h => ⟨rfl, rfl, h⟩⟩

theorem State.degradedUpdate_pumped (s : State) : Pumped pumpFields s s.degradedUpdate := by
  have hf : LEDG_STATUS_GUARANTEE_DEGRADED ∈ pumpFields := by decide
  unfold State.degradedUpdate
  split
  · split
    · exact s.setClear_pumped none _
    · exact ((s.setClear_pumped none _).trans (State.fset_pumped _ _ 1 hf)).trans (State.stage_pumped _ _ _)
  · split
    · exact s.setClear_pumped _ _
    · exact .refl _ s

theorem State.compactStart_pumped (s : State) : Pumped [LEDG_STATUS_COMPACTING] s s.compactStart := by
  unfold State.compactStart
  split
  · exact .refl _ s
  · exact ((s.setCompact_pumped _ _).trans (State.fset_pumped _ _ 1 (List.mem_singleton_self _))).trans (State.compactPump_pumped _ 193 _)

theorem State.journalPump_pumped (s : State) (h : s.power.phase = .run) : Pumped pumpFields s s.journalPump := by
  have h1 : Pumped pumpFields s (s.compactPump 192).applyHeldAcks.degradedUpdate :=
    ((s.compactPump_pumped 192 _).trans (State.applyHeldAcks_pumped _ _)).trans (State.degradedUpdate_pumped _)
  unfold State.journalPump
  rw [if_pos h]
  extract_lets s1
  split
  · exact h1.trans ((State.compactStart_pumped _).mono (by decide))
  · exact h1

end

/-- With the guarantee whole and no cause of R55, degraded mode follows nothing. -/
theorem State.degradedUpdate_eq {s : State} (hd : s.degraded = false) (hb : s.bit SYS_STATUS_BACKUP_OK = true) (hr : s.jrn.retired.length ≤ 32) :
    s.degradedUpdate = s := by
  have hc : s.degradedCause = false := by simp [State.degradedCause, hb, Nat.not_lt.mpr hr]
  simp [State.degradedUpdate, hc, hd]

end Sys2Proof.Machine
end

section
/-! Host commands on runs and sheets: the entry at CMD_HEAD, refusals, RUN_START and RUN_END, SHEET_SUBMIT, RELOAD and SHEET_WITHDRAW (R30, R31,
R33, R36, R45, R124 to R130). -/

namespace Sys2Proof.Machine

/-! ### From the entry to the answer (R124, R125) -/

section
variable {s t u : State} {h : CmdHead} {op : Nat}

/-- A command recorded (R445) leaves everything but the recorder and the memories as it is. -/
theorem State.recCmd_eq (s : State) : s.recCmd = { s with recd := s.recCmd.recd, mem := s.recCmd.mem } := (s.record_only _ _ _).1

theorem State.recCmd_frame (s : State) (ks : List Fld) : Frame viewReport ks s s.recCmd := s.record_frame _ _ _ _

@[simp] theorem State.recCmd_fget (s : State) (f : Fld) : s.recCmd.fget f = s.fget f := State.fget_of_fields (s.record_fields _ _ _) f
@[simp] theorem State.recCmd_bit (s : State) (f : Fld) : s.recCmd.bit f = s.bit f := by unfold State.bit; rw [State.recCmd_fget]
@[simp] theorem State.recCmd_led (s : State) : s.recCmd.led = s.led := s.record_led _ _ _
@[simp] theorem State.recCmd_jrn (s : State) : s.recCmd.jrn = s.jrn := (s.recCmd_frame []).jrn
@[simp] theorem State.recCmd_sheet? (s : State) (q : Nat) : s.recCmd.sheet? q = s.sheet? q := State.sheet?_of_sheets (by rw [State.recCmd_led]) q

/-- The entry that a command of the sender names is the one at CMD_HEAD. -/
theorem hostCmd_entry (hc : hostCmd s op h) {which : Nat → Bool} (hw : which s.cmdFlags = true) {args : List (Nat × Nat × Nat)}
    (ha : args.all (fun a => s.cmdNum a.1 a.2.1 == a.2.2) = true) : (s.cmdAt op which && s.cmdIs h args) = true := by
  obtain ⟨⟨hr, -⟩, hh, hop⟩ := hc
  simp [State.cmdAt, State.cmdIs, hr, hop, hw, hh, ha]

theorem hostCmd_run (hc : hostCmd s op h) : s.power.phase = .run := hc.1.2.1

theorem hostCmd_heldAcks (hc : hostCmd s op h) : s.led.heldAcks = [] := hc.1.2.2.2.2

/-- A running controller serves the command, once there is room for what it stages (R483). -/
theorem runCmd_of_run (hp : s.power.phase = .run) {is_ stages : Bool} (hi : is_ = true) (hs : stages = true → s.jrn.staged.length < 192)
    (k : State → State) : runCmd is_ stages k s = k s.recCmd := by
  have hm : ¬ (stages = true ∧ s.mayStage = false) := by
    rintro ⟨h1, h2⟩
    simp [State.mayStage, hs h1] at h2
  simp only [runCmd, hi, hp, if_neg hm]
  simp

theorem answered_of_head {tag st d : Nat} {res : List Nat} (ha : Answered t u tag op st d res)
    (hk : t.fget HIF_CMD_HEAD_CMD_HEAD = s.fget HIF_CMD_HEAD_CMD_HEAD) : Answered s u tag op st d res := by
  obtain ⟨hn, hh⟩ := ha
  exact ⟨hn, by rw [hh, hk]⟩

/-- A command that is answered at once changes neither the ledger nor the journal. -/
theorem State.answer_onlyHost (s : State) (h : CmdHead) (op st d : Nat) (res : List Nat) :
    Answered s (s.recCmd.cmdDone h op st d res) h.tag op st d res ∧ (s.recCmd.cmdDone h op st d res).led = s.led
      ∧ (s.recCmd.cmdDone h op st d res).jrn = s.jrn ∧ onlyHost s (s.recCmd.cmdDone h op st d res) := by
  have hf : Frame viewReport doneFields s (s.recCmd.cmdDone h op st d res) := (s.recCmd_frame _).trans (s.recCmd.cmdDone_frame h op st d res)
  exact ⟨State.cmdDone_answered (s.recCmd_fget _) h op st d res, hf.led, hf.jrn, hf.ledger.onlyHost (by decide)⟩

/-- A command that stages a record ends with the pump of the journal and its CMD_DONE (R44, R124). -/
def State.conclude (t : State) (h : CmdHead) (op : Nat) : State := t.journalPump.cmdDone h op 0 0 []

section
variable (h) (op) (hp : t.power.phase = .run)
include hp

theorem State.conclude_frame : Frame viewLedger (pumpFields ++ doneFields) t (t.conclude h op) :=
  ((t.journalPump_pumped hp).frame.mono (by decide)).trans ((t.journalPump.cmdDone_frame h op 0 0 []).ledger.mono (by decide))

theorem State.conclude_staged : t.jrn.staged <+: (t.conclude h op).jrn.staged := by
  rw [State.conclude, (t.journalPump.cmdDone_frame h op 0 0 []).jrn]
  exact (t.journalPump_pumped hp).staged

theorem State.conclude_answered : Answered t (t.conclude h op) h.tag op 0 0 [] :=
  State.cmdDone_answered ((t.journalPump_pumped hp).fields _ (by decide)) h op 0 0 []

/-- With no acknowledgement held, the sheets and their numbering stand. -/
theorem State.conclude_led (ha : t.led.heldAcks = []) : (t.conclude h op).led.sheets = t.led.sheets
    ∧ (t.conclude h op).led.nextSeq = t.led.nextSeq ∧ (t.conclude h op).led.accepted = t.led.accepted := by
  have hk := t.journalPump_pumped hp
  obtain ⟨hs, hn, -⟩ := hk.held ha
  rw [State.conclude, (t.journalPump.cmdDone_frame h op 0 0 []).led]
  exact ⟨hs, hn, (congrArg (fun x : State => x.led.accepted) hk.view :)⟩

theorem State.sheet?_conclude (ha : t.led.heldAcks = []) (q : Nat) : (t.conclude h op).sheet? q = t.sheet? q :=
  State.sheet?_of_sheets (State.conclude_led h op hp ha).1 q

end
end

/-! ### RUN_START and RUN_END (R30, R33) -/

section
variable {s : State} {h : CmdHead} {seq : Nat}

theorem State.runStartStatus_recCmd (s : State) (h : CmdHead) (seq : Nat) : s.recCmd.runStartStatus h seq = s.runStartStatus h seq := by
  rw [s.recCmd_eq]; rfl

/-- The status of RUN_START in the words of R127. -/
theorem State.runStartStatus_eq (s : State) (h : CmdHead) (seq : Nat) {lo : Bool}
    (hlo : lo = s.led.sheets.head?.any (fun sh => decide (sh.seq + 2 ^ 32 - 4096 ≤ seq))) :
    s.runStartStatus h seq = if s.bit LEDG_STATUS_RUN_OPEN then (8, 0) else if seq < s.led.accepted ∨ lo = true then (9, 0)
      else if h.flagsOk = false ∨ h.argsOk = false then (12, 0)
      else if s.bit PLC_STATUS_PLACED = false then (15, s.fget PLC_PLACE_ERR_CODE) else (0, 0) := by
  have hc : cmdOk h = false ↔ h.flagsOk = false ∨ h.argsOk = false := by simp [cmdOk]; cases h.flagsOk <;> simp
  unfold State.runStartStatus
  refine if_congr Iff.rfl rfl (if_congr (or_congr Iff.rfl ?_) rfl (if_congr hc rfl rfl))
  have hfirst : ∀ p : Sheet → Bool, (match s.led.sheets with | sh :: _ => p sh | [] => false) = s.led.sheets.head?.any p := by
    intro p
    cases s.led.sheets <;> rfl
  exact iff_of_eq (congrArg (· = true) ((hfirst (fun sh => decide (sh.seq + 2 ^ 32 - 4096 ≤ seq))).trans hlo.symm))

theorem runStart_exec (hc : hostCmd s 0x0001 h) (hseq : seq = s.cmdNum 8 8)
    (hroom : (s.runStartStatus h seq).1 = 0 → s.jrn.staged.length < 192) : exec (.runStart h seq) s = .next (s.recCmd.runStart h seq) := by
  refine congrArg Host.Outcome.next (runCmd_of_run (hostCmd_run hc) (hostCmd_entry hc rfl ?_) (fun hs => hroom (by simpa using hs)) _)
  simp [hseq]

/-- The state in which a run has been opened, before its record is staged. -/
def State.runOpened (s : State) (seq : Nat) : State :=
  { s.fsets [(LEDG_STATUS_RUN_OPEN, 1), (LEDG_STATUS_RECOVERY_HOLD, 0)] with led := { s.led with nextSeq := seq } }

theorem State.runOpened_frame (s : State) (seq : Nat) : Frame viewLedger [LEDG_STATUS_RUN_OPEN, LEDG_STATUS_RECOVERY_HOLD] s (s.runOpened seq) := by
  have h2 : Frame viewReport [LEDG_STATUS_RUN_OPEN, LEDG_STATUS_RECOVERY_HOLD] s (s.fsets [(LEDG_STATUS_RUN_OPEN, 1), (LEDG_STATUS_RECOVERY_HOLD, 0)]) :=
    (s.fset_frame LEDG_STATUS_RUN_OPEN 1).trans (State.fset_frame _ LEDG_STATUS_RECOVERY_HOLD 0)
  exact h2.ledger.trans (.of_fields rfl rfl rfl)

theorem State.runStart_eq (hs : s.runStartStatus h seq = (0, 0)) : s.runStart h seq
    = ((s.runOpened seq).stage ((s.runOpened seq).plainRec 0x02 seq 0)).conclude h 0x0001 := by
  simp only [State.runStart, hs]
  rfl

theorem State.runStart_refused (hs : (s.runStartStatus h seq).1 ≠ 0) :
    s.runStart h seq = s.cmdDone h 0x0001 (s.runStartStatus h seq).1 (s.runStartStatus h seq).2 [] := if_pos hs

theorem runEnd_exec (hc : hostCmd s 0x0002 h) (hroom : s.bit LEDG_STATUS_RUN_OPEN = true → s.jrn.staged.length < 192) :
    exec (.runEnd h) s = .next (s.recCmd.runEnd h) :=
  congrArg Host.Outcome.next (runCmd_of_run (hostCmd_run hc) (hostCmd_entry hc rfl rfl) (fun hs => hroom (Bool.and_eq_true_iff.mp hs).1) _)

theorem State.runEnd_eq (ho : s.bit LEDG_STATUS_RUN_OPEN = true) (hk : cmdOk h = true) : s.runEnd h
    = ((s.fset LEDG_STATUS_RUN_OPEN 0).stage ((s.fset LEDG_STATUS_RUN_OPEN 0).plainRec 0x03 s.led.nextSeq 0)).conclude h 0x0002 := by
  simp only [State.runEnd, ho, hk, Bool.true_eq_false, if_false]
  rfl

/-- A staged record of a run, with what stands before it: the command's effect on the ledger, the record, and the answer (R33). -/
theorem run_concluded {op typ n : Nat} {t : State} (hc : hostCmd s op h) (ht : Frame viewLedger [LEDG_STATUS_RUN_OPEN, LEDG_STATUS_RECOVERY_HOLD] s t)
    (hj : t.jrn = s.jrn) (hh : t.led.heldAcks = s.led.heldAcks) :
    let u := (t.stage (t.plainRec typ n 0)).conclude h op
    u.led.sheets = t.led.sheets ∧ u.led.nextSeq = t.led.nextSeq ∧ Staged s u typ n ∧ Answered s u h.tag op 0 0 [] ∧ onlyHost s u
      ∧ (∀ f : Fld, f.key ∉ (pumpFields ++ doneFields).map Fld.key → u.bit f = t.bit f) := by
  intro u
  have hp : (t.stage (t.plainRec typ n 0)).power.phase = .run := (congrArg Power.phase ht.sheets.sheets_power).trans (hostCmd_run hc)
  have ha : (t.stage (t.plainRec typ n 0)).led.heldAcks = [] := hh.trans (hostCmd_heldAcks hc)
  obtain ⟨hsh, hnx, -⟩ := State.conclude_led h op hp ha
  have hf := State.conclude_frame h op hp
  refine ⟨hsh, hnx, ?_, answered_of_head (State.conclude_answered h op hp) (ht.fields _ (by decide)), ?_, fun f hk => hf.fields.bit hk⟩
  · have hst : (t.stage (t.plainRec typ n 0)).jrn = (s.stage (t.plainRec typ n 0)).jrn := by unfold State.stage; rw [hj]
    exact staged_of_stage hst (State.conclude_staged h op hp)
  · have hstage : Frame viewLedger hostFields t (t.stage (t.plainRec typ n 0)) := .of_fields rfl rfl rfl
    exact (((ht.mono (by decide)).trans hstage).trans (hf.mono (by decide))).onlyHost (fun _ hf => hf)

end

/-- Settles O21: a run that may open or close is the ledger's edit, one staged record, the pump and the answer; a refusal is the answer alone. -/
theorem runsOpenAndClose : Obligations.RunsOpenAndClose := by
  intro s h seq hseq lo hlo
  refine ⟨fun hc ho hacc hl hfl har hpl hroom => ?_, fun st d hc hst hne => ?_, fun hc ho hfl har hroom => ?_, fun hc ho => ?_⟩
  · have hs : s.runStartStatus h seq = (0, 0) := by
      rw [s.runStartStatus_eq h seq hlo]
      simp [ho, hl, hfl, har, hpl, Nat.not_lt.mpr hacc]
    refine ⟨_, runStart_exec hc hseq (fun _ => hroom), ?_⟩
    rw [State.runStart_eq ((s.runStartStatus_recCmd h seq).trans hs)]
    have ht := ((s.recCmd_frame _).ledger).trans (s.recCmd.runOpened_frame seq)
    obtain ⟨hsh, hnx, hstaged, hans, honly, hbit⟩ :=
      run_concluded (typ := 0x02) (n := seq) hc ht s.recCmd_jrn (congrArg Ledger.heldAcks s.recCmd_led :)
    refine ⟨?_, ?_, hnx, hsh.trans (congrArg Ledger.sheets s.recCmd_led :), hstaged, hans, honly⟩
    · rw [hbit _ (by decide)]
      show (((s.recCmd.fset LEDG_STATUS_RUN_OPEN 1).fset LEDG_STATUS_RECOVERY_HOLD 0).fget LEDG_STATUS_RUN_OPEN != 0) = true
      rw [State.fget_fset_ne _ _ _ _ (by decide), State.fget_fset]
      rfl
    · rw [hbit _ (by decide)]
      show (((s.recCmd.fset LEDG_STATUS_RUN_OPEN 1).fset LEDG_STATUS_RECOVERY_HOLD 0).fget LEDG_STATUS_RECOVERY_HOLD != 0) = false
      rw [State.fget_fset]
      rfl
  · rw [← s.runStartStatus_eq h seq hlo] at hst
    have h1 : (s.runStartStatus h seq).1 ≠ 0 := by rwa [← hst]
    refine ⟨_, runStart_exec hc hseq (fun h0 => absurd h0 h1), ?_⟩
    rw [State.runStart_refused (by rwa [s.runStartStatus_recCmd]), s.runStartStatus_recCmd, ← hst]
    exact s.answer_onlyHost h 0x0001 st d []
  · refine ⟨_, runEnd_exec hc (fun _ => hroom), ?_⟩
    rw [State.runEnd_eq ((s.recCmd_bit _).trans ho) (by simp [cmdOk, hfl, har]), State.recCmd_led]
    have ht : Frame viewLedger [LEDG_STATUS_RUN_OPEN, LEDG_STATUS_RECOVERY_HOLD] s (s.recCmd.fset LEDG_STATUS_RUN_OPEN 0) :=
      (s.recCmd_frame _).ledger.trans (s.recCmd.fset_frame LEDG_STATUS_RUN_OPEN 0).ledger
    obtain ⟨hsh, hnx, hstaged, hans, honly, hbit⟩ :=
      run_concluded (typ := 0x03) (n := s.led.nextSeq) hc ht s.recCmd_jrn (congrArg Ledger.heldAcks s.recCmd_led :)
    refine ⟨?_, hnx.trans (congrArg Ledger.nextSeq s.recCmd_led), hsh.trans (congrArg Ledger.sheets s.recCmd_led :), hstaged, hans, honly⟩
    rw [hbit _ (by decide)]
    show ((s.recCmd.fset LEDG_STATUS_RUN_OPEN 0).fget LEDG_STATUS_RUN_OPEN != 0) = false
    rw [State.fget_fset]
    rfl
  · refine ⟨_, runEnd_exec hc (fun h1 => absurd (ho.symm.trans h1) (by decide)), ?_⟩
    have he : s.recCmd.runEnd h = s.recCmd.cmdDone h 0x0002 3 0 [] := if_pos ((s.recCmd_bit _).trans ho)
    rw [he]
    exact s.answer_onlyHost h 0x0002 3 0 []

end Sys2Proof.Machine
end

section
/-! SHEET_SUBMIT, RELOAD and SHEET_WITHDRAW (R31, R36, R41, R45, R126 to R130). -/

namespace Sys2Proof.Machine

section
variable {s : State} {h : CmdHead} {seq : Nat} {x : SheetSlot}

/-! ### Submission (R31, R36) -/

theorem State.submitStatus_recCmd (s : State) (seq : Nat) : s.recCmd.submitStatus seq = s.submitStatus seq := by rw [s.recCmd_eq]; rfl

theorem State.slotErr_recCmd (s : State) (seq : Nat) (x : SheetSlot) : s.recCmd.slotErr seq x = s.slotErr seq x := by rw [s.recCmd_eq]; rfl

theorem sheetSubmit_exec (hc : hostCmd s 0x0003 h) (hflag : s.cmdFlags.testBit 0 = false) (hseq : seq = s.cmdNum 8 8) (hx : x = s.slotAt seq)
    (hroom : s.submitStatus seq = 0 → s.jrn.staged.length < 192) : exec (.sheetSubmit h seq x) s = .next (s.recCmd.submit h seq x) := by
  have he : (s.cmdAt 0x0003 (withFlag 0 false) && s.cmdIs h [(8, 8, seq)]) = true :=
    hostCmd_entry hc (by simp [withFlag, hflag]) (by simp [hseq])
  refine congrArg Host.Outcome.next (runCmd_of_run (hostCmd_run hc) (by simp [he, hx]) (fun hs => hroom ?_) _)
  simp only [Bool.and_eq_true, beq_iff_eq] at hs
  exact hs.1.1

theorem State.submit_rejected (hs : s.submitStatus seq ≠ 0) : s.submit h seq x = s.cmdDone h 0x0003 (s.submitStatus seq) 0 [] := if_pos hs

theorem State.submit_accepted (hs : s.submitStatus seq = 0) (hk : cmdOk h = true) (he : s.slotErr seq x = none) :
    s.submit h seq x = s.accept h seq x := by
  simp [State.submit, hs, hk, he]

/-- The ledger with a sheet accepted behind those that live (R30, R31). -/
def State.appended (s : State) (seq : Nat) (x : SheetSlot) : State :=
  { s with led := { s.led with sheets := s.led.sheets ++ [slotSheet x seq], nextSeq := seq + 1, accepted := seq + 1 } }

theorem State.sheet?_appended_same (hn : s.sheet? seq = none) : (s.appended seq x).sheet? seq = some (slotSheet x seq) := by
  unfold State.sheet? at hn
  simp [State.sheet?, State.appended, List.find?_append, hn, slotSheet]

theorem State.sheet?_appended_ne {q : Nat} (hq : q ≠ seq) : (s.appended seq x).sheet? q = s.sheet? q := by
  simp [State.sheet?, State.appended, List.find?_append, slotSheet, Ne.symm hq]

/-- With the guarantee whole, an acceptance is journaled and answered at once (R45, R134). -/
theorem State.accept_eq (hd : s.degraded = false) (hb : s.bit SYS_STATUS_BACKUP_OK = true) (hr : s.jrn.retired.length ≤ 32) :
    s.accept h seq x = ((s.appended seq x).journalSheet seq).conclude h 0x0003 := by
  have hu : (s.appended seq x).degradedUpdate = s.appended seq x := State.degradedUpdate_eq hd hb hr
  have hda : (s.appended seq x).degraded = false := hd
  show (if (s.appended seq x).degradedUpdate.degraded then _
    else ((s.appended seq x).degradedUpdate.journalSheet seq).journalPump.cmdDone h 0x0003 0 0 []) = _
  rw [hu, if_neg (by rw [hda]; decide)]
  rfl

/-! ### Reload and withdrawal (R130, R36, R41) -/

theorem sheetReload_exec (hc : hostCmd s 0x0003 h) (hflag : s.cmdFlags.testBit 0 = true) (hseq : seq = s.cmdNum 8 8) (hx : x = s.slotAt seq) :
    exec (.sheetReload h seq x) s = .next (s.recCmd.reload h seq x) := by
  have he : (s.cmdAt 0x0003 (withFlag 0 true) && s.cmdIs h [(8, 8, seq)]) = true :=
    hostCmd_entry hc (by simp [withFlag, hflag]) (by simp [hseq])
  exact congrArg Host.Outcome.next (runCmd_of_run (hostCmd_run hc) (by simp [he, hx]) (fun hs => absurd hs (by decide)) _)

/-- What a RELOAD puts into a sheet (R130). -/
def Sheet.reloaded (x : SheetSlot) (sh : Sheet) : Sheet :=
  { sh with planes := slotPlanes x, reqPitch := x.pitch, hostTag := x.hostTag, planeError := none, readySent := false, tooSmall := false }

theorem Sheet.reloaded_seq (x : SheetSlot) (sh : Sheet) : (Sheet.reloaded x sh).seq = sh.seq := rfl

/-- A sheet whose planes have no space yet (R131). -/
def Sheet.unallocated (sh : Sheet) : Sheet := { sh with allocated := false }

theorem Sheet.unallocated_seq (sh : Sheet) : sh.unallocated.seq = sh.seq := rfl

theorem State.dropTransfer_eq (s : State) (seq : Nat) : s.dropTransfer seq = (s.freePlanes seq).modSheet seq Sheet.unallocated := rfl

/-- The ledger once a RELOAD has replaced a sheet's planes. -/
def State.replaced (s : State) (seq : Nat) (x : SheetSlot) : State := (s.dropTransfer seq).modSheet seq (Sheet.reloaded x)

theorem State.reload_eq {sh : Sheet} (h? : s.sheet? seq = some sh) (hst : sh.st = .submitted) (hk : cmdOk h = true) (he : s.slotErr seq x = none) :
    s.reload h seq x = (s.replaced seq x).cmdDone h 0x0003 0 0 [] := by
  simp only [State.reload, h?, hk, he, hst]
  rfl

theorem State.replaced_sheets {sh : Sheet} (h? : s.sheet? seq = some sh) (ks : List Fld) : Frame viewSheets ks s (s.replaced seq x) :=
  ((State.freePlanes_sheets h? ks).trans (State.modSheet_ledger _ _ _ ks).sheets).trans (State.modSheet_ledger _ _ _ ks).sheets

theorem State.replaced_jrn {sh : Sheet} (h? : s.sheet? seq = some sh) : (s.replaced seq x).jrn = s.jrn := State.freePlanes_jrn h?

theorem State.sheet?_replaced_same {sh : Sheet} (h? : s.sheet? seq = some sh) :
    (s.replaced seq x).sheet? seq = some (Sheet.reloaded x sh.freed.unallocated) :=
  State.sheet?_modSheet_same (State.sheet?_modSheet_same (State.sheet?_freePlanes_same h?) Sheet.unallocated_seq) (Sheet.reloaded_seq x)

theorem State.sheet?_replaced_ne {sh : Sheet} (h? : s.sheet? seq = some sh) {q : Nat} (hq : q ≠ seq) : (s.replaced seq x).sheet? q = s.sheet? q := by
  rw [State.replaced, State.sheet?_modSheet_ne _ hq (Sheet.reloaded_seq x), s.dropTransfer_eq, State.sheet?_modSheet_ne _ hq Sheet.unallocated_seq,
    State.sheet?_freePlanes_ne h? hq]

theorem State.withdrawStatus_recCmd (s : State) (h : CmdHead) (seq : Nat) : s.recCmd.withdrawStatus h seq = s.withdrawStatus h seq := by
  rw [s.recCmd_eq]; rfl

theorem State.withdrawStatus_none (hn : s.sheet? seq = none) : s.withdrawStatus h seq = 6 := by simp [State.withdrawStatus, hn]

theorem State.withdrawStatus_final {sh : Sheet} (h? : s.sheet? seq = some sh) (hf : sh.st.isFinal = true) : s.withdrawStatus h seq = 7 := by
  simp [State.withdrawStatus, h?, hf]

theorem SheetState.not_final_of_inFlight {st : SheetState} (hf : st.inFlight = true) : st.isFinal = false := by
  cases st <;> simp_all [SheetState.inFlight, SheetState.isFinal]

theorem State.withdrawStatus_locked {sh : Sheet} (h? : s.sheet? seq = some sh)
    (hl : sh.st.inFlight = true ∨ (sh.st = .admitted ∧ sh.locked = true)) : s.withdrawStatus h seq = 5 := by
  have hf : sh.st.isFinal = false := by
    rcases hl with hl | ⟨hl, -⟩
    · exact SheetState.not_final_of_inFlight hl
    · rw [hl]; rfl
  simp [State.withdrawStatus, h?, hf, hl]

theorem State.withdrawStatus_open {sh : Sheet} (h? : s.sheet? seq = some sh) (hk : cmdOk h = true)
    (ho : sh.st = .submitted ∨ (sh.st = .admitted ∧ sh.locked = false)) : s.withdrawStatus h seq = 0 := by
  rcases ho with ho | ⟨ho, hl⟩
  · simp [State.withdrawStatus, h?, hk, ho, SheetState.isFinal, SheetState.inFlight]
  · simp [State.withdrawStatus, h?, hk, ho, hl, SheetState.isFinal, SheetState.inFlight]

/-- SHEET_WITHDRAW is answered with its status, or withdraws the sheet (R127). -/
theorem sheetWithdraw_exec (hc : hostCmd s 0x0004 h) (hseq : seq = s.cmdNum 8 8)
    (hroom : s.withdrawStatus h seq = 0 → s.jrn.staged.length < 192) : exec (.sheetWithdraw h seq) s
      = .next (if s.withdrawStatus h seq ≠ 0 then s.recCmd.cmdDone h 0x0004 (s.withdrawStatus h seq) 0 []
          else (s.recCmd.withdraw seq).conclude h 0x0004) := by
  have he : (s.cmdAt 0x0004 anyFlags && s.cmdIs h [(8, 8, seq)]) = true := hostCmd_entry hc rfl (by simp [hseq])
  refine congrArg Host.Outcome.next ((runCmd_of_run (hostCmd_run hc) he (fun hs => hroom (by simpa using hs)) _).trans ?_)
  simp only [s.withdrawStatus_recCmd]
  rfl

/-- Before its withdrawal a sheet that awaits its record gives its commit position back (R55). -/
def State.unawaited (s : State) (seq : Nat) : State :=
  match s.sheet? seq with
  | some sh => if sh.awaiting then (s.releasePos seq).modSheet seq Sheet.reverted else s
  | none => s

theorem State.unawaited_cases {sh : Sheet} (h? : s.sheet? seq = some sh) :
    s.unawaited seq = s ∨ s.unawaited seq = (s.releasePos seq).modSheet seq Sheet.reverted := by
  unfold State.unawaited
  rw [h?]
  by_cases ha : sh.awaiting = true
  · exact .inr (if_pos ha)
  · exact .inl (if_neg ha)

theorem State.unawaited_ledger {sh : Sheet} (h? : s.sheet? seq = some sh) (ks : List Fld) : Frame viewLedger ks s (s.unawaited seq) := by
  rcases State.unawaited_cases h? with he | he
  · rw [he]; exact .refl _ _ s
  · rw [he]; exact .of_fields rfl rfl rfl

theorem State.unawaited_jrn {sh : Sheet} (h? : s.sheet? seq = some sh) : (s.unawaited seq).jrn = s.jrn := by
  rcases State.unawaited_cases h? with he | he
  · rw [he]
  · rw [he]; rfl

theorem State.unawaited_heldAcks {sh : Sheet} (h? : s.sheet? seq = some sh) : (s.unawaited seq).led.heldAcks = s.led.heldAcks := by
  rcases State.unawaited_cases h? with he | he
  · rw [he]
  · rw [he]; rfl

theorem State.sheet?_unawaited_same {sh : Sheet} (h? : s.sheet? seq = some sh) : ∃ y, (s.unawaited seq).sheet? seq = some y := by
  rcases State.unawaited_cases h? with he | he
  · exact ⟨sh, by rw [he, h?]⟩
  · exact ⟨sh.reverted, by rw [he]; exact State.sheet?_modSheet_same (s := s.releasePos seq) h? (fun _ => rfl)⟩

theorem State.sheet?_unawaited_ne {sh : Sheet} (h? : s.sheet? seq = some sh) {q : Nat} (hq : q ≠ seq) : (s.unawaited seq).sheet? q = s.sheet? q := by
  rcases State.unawaited_cases h? with he | he
  · rw [he]
  · rw [he]; exact State.sheet?_modSheet_ne (s.releasePos seq) hq (fun _ => rfl)

/-- A sheet whose last transfer's error is answered (R133). -/
def Sheet.unerred (sh : Sheet) : Sheet := { sh with planeError := none }

theorem Sheet.unerred_seq (sh : Sheet) : sh.unerred.seq = sh.seq := rfl

theorem State.withdraw_eq (s : State) (seq : Nat) : s.withdraw seq = ((s.unawaited seq).finish seq Sheet.unerred .withdrawn).idleUpdate := rfl

end

/-- Settles O22: a rejection of R31 is the answer alone. -/
theorem submissionRejected : Obligations.SubmissionRejected := by
  intro s h seq x hc hflag hseq hx st hst hne
  have hs : s.submitStatus seq = st := hst.symm
  refine ⟨_, sheetSubmit_exec hc hflag hseq hx (fun h0 => absurd (hs.symm.trans h0) hne), ?_⟩
  rw [State.submit_rejected (by rwa [s.submitStatus_recCmd, hs]), s.submitStatus_recCmd, hs]
  exact s.answer_onlyHost h 0x0003 st 0 []

section
variable {s : State} {h : CmdHead} {seq : Nat} {x : SheetSlot}

/-- What an edit of the ledger and its staged record leave to the answer of a command. -/
theorem sheet_concluded {op : Nat} {t : State} (hc : hostCmd s op h) (ht : Frame viewSheets reportFields s t) (ha : t.led.heldAcks = s.led.heldAcks) :
    (∀ q, (t.conclude h op).sheet? q = t.sheet? q) ∧ Answered s (t.conclude h op) h.tag op 0 0 [] ∧ onlySheets s (t.conclude h op)
      ∧ keepsFields s (t.conclude h op) hostFields := by
  have hp : t.power.phase = .run := (congrArg Power.phase ht.sheets_power).trans (hostCmd_run hc)
  have hf : Frame viewSheets hostFields s (t.conclude h op) := (ht.mono (by decide)).trans ((State.conclude_frame h op hp).sheets.mono (by decide))
  exact ⟨State.sheet?_conclude h op hp (ha.trans (hostCmd_heldAcks hc)), answered_of_head (State.conclude_answered h op hp) (ht.fields _ (by decide)),
    hf.onlySheets, hf.fields⟩

theorem submit_runs (hc : hostCmd s 0x0003 h) (hflag : s.cmdFlags.testBit 0 = false) (hseq : seq = s.cmdNum 8 8) (hx : x = s.slotAt seq)
    (hk : cmdOk h = true) (hd : s.degraded = false) (hb : s.bit SYS_STATUS_BACKUP_OK = true) (hr : s.jrn.retired.length ≤ 32)
    (hroom : s.jrn.staged.length < 192) (hs : s.submitStatus seq = 0) (he : s.slotErr seq x = none) :
    exec (.sheetSubmit h seq x) s = .next (((s.recCmd.appended seq x).journalSheet seq).conclude h 0x0003) := by
  rw [sheetSubmit_exec hc hflag hseq hx (fun _ => hroom), State.submit_accepted (by rwa [s.submitStatus_recCmd]) hk (by rwa [s.slotErr_recCmd]),
    State.accept_eq ((s.recCmd_bit _).trans hd) ((s.recCmd_bit _).trans hb) (by rwa [s.recCmd_jrn])]

end

/-- Settles O23: each accepted command is an edit of one sheet, its record where one is staged, the pump and the answer. -/
theorem sheetsSubmittedAndWithdrawn : Obligations.SheetsSubmittedAndWithdrawn := by
  intro s h seq x hseq hx hfl har hd hb hr hroom
  have hk : cmdOk h = true := by simp [cmdOk, hfl, har]
  refine ⟨fun hc hflag hnext hopen hlen hnone he => ?_, fun sh hc hflag h? hst he => ?_, fun sh hc h? hst => ?_, fun st hc hst => ?_⟩
  · have hs : s.submitStatus seq = 0 := by simp [State.submitStatus, hnext, hopen, Nat.not_le.mpr hlen]
    refine ⟨_, submit_runs hc hflag hseq hx hk hd hb hr hroom hs he, ?_⟩
    have hnew : (s.recCmd.appended seq x).sheet? seq = some (slotSheet x seq) := State.sheet?_appended_same (by rwa [State.recCmd_sheet?])
    have happ : Frame viewLedger reportFields s (s.recCmd.appended seq x) := (s.recCmd_frame _).ledger.trans (.of_fields rfl rfl rfl)
    have hled := State.journalSheet_led hnew
    have hheld : ((s.recCmd.appended seq x).journalSheet seq).led.heldAcks = s.led.heldAcks := by
      rw [hled]; exact (congrArg Ledger.heldAcks s.recCmd_led :)
    have hframe := happ.trans (State.journalSheet_ledger hnew)
    obtain ⟨hq, hans, honly, hkeep⟩ := sheet_concluded hc hframe.sheets hheld
    have hp := (congrArg Power.phase hframe.sheets.sheets_power).trans (hostCmd_run hc)
    obtain ⟨-, hn, hacc⟩ := State.conclude_led h 0x0003 hp (hheld.trans (hostCmd_heldAcks hc))
    refine ⟨⟨_, (hq seq).trans (State.sheet?_journalSheet_same hnew), rfl, rfl, rfl, ?_, rfl⟩, ?_, ?_, fun q hne => ?_, ?_, hans, honly, hkeep⟩
    · exact List.map_map.trans (List.map_id _)
    · rw [hn, hled]; rfl
    · rw [hacc, hled]; rfl
    · rw [hq, State.sheet?_journalSheet_ne hnew hne, State.sheet?_appended_ne hne, State.recCmd_sheet?]
    · have hj : (s.recCmd.appended seq x).jrn = s.jrn := s.recCmd_jrn
      have hst := staged_of_stage (State.journalSheet_jrn hnew) (State.conclude_staged h 0x0003 hp)
      exact staged_of_jrn hj hst
  · have h?' : s.recCmd.sheet? seq = some sh := by rwa [State.recCmd_sheet?]
    have hf : Frame viewSheets hostFields s ((s.recCmd.replaced seq x).cmdDone h 0x0003 0 0 []) :=
      ((s.recCmd_frame _).ledger.sheets.trans (State.replaced_sheets h?' _)).trans ((State.cmdDone_frame _ h 0x0003 0 0 []).ledger.sheets.mono (by decide))
    have hdone := (s.recCmd.replaced seq x).cmdDone_frame h 0x0003 0 0 []
    have hq := State.sheet?_of_sheets (congrArg Ledger.sheets hdone.led)
    refine ⟨_, sheetReload_exec hc hflag hseq hx, ?_⟩
    rw [State.reload_eq h?' hst hk (by rwa [s.slotErr_recCmd])]
    refine ⟨⟨_, (hq seq).trans (State.sheet?_replaced_same h?'), hst, rfl, rfl, List.map_map.trans (List.map_id _)⟩, fun q hne => ?_, ?_, ?_,
      hf.onlySheets, hf.fields⟩
    · rw [hq, State.sheet?_replaced_ne h?' hne, State.recCmd_sheet?]
    · rw [hdone.jrn, State.replaced_jrn h?', State.recCmd_jrn]
    · exact State.cmdDone_answered (((s.recCmd_frame _).ledger.sheets.trans (State.replaced_sheets h?' [])).fields _ (by decide)) h 0x0003 0 0 []
  · have hs := State.withdrawStatus_open h? hk hst
    have h?' : s.recCmd.sheet? seq = some sh := by rwa [State.recCmd_sheet?]
    obtain ⟨y, hy⟩ := State.sheet?_unawaited_same h?'
    have hun : Frame viewSheets reportFields s (s.recCmd.unawaited seq) := ((s.recCmd_frame _).ledger.trans (State.unawaited_ledger h?' _)).sheets
    have hfin := hun.trans (State.finish_sheets_report Sheet.unerred_seq .withdrawn (by decide) (by decide) hy)
    have hheld : (s.recCmd.withdraw seq).led.heldAcks = s.led.heldAcks := by
      rw [s.recCmd.withdraw_eq, State.idleUpdate_heldAcks, State.finish_heldAcks Sheet.unerred_seq .withdrawn hy, State.unawaited_heldAcks h?', State.recCmd_led]
    have hw : Frame viewSheets reportFields s (s.recCmd.withdraw seq) := hfin.trans (State.idleUpdate_ledger _ _).sheets
    obtain ⟨hq, hans, honly, hkeep⟩ := sheet_concluded hc hw hheld
    have hp := (congrArg Power.phase hw.sheets_power).trans (hostCmd_run hc)
    refine ⟨_, sheetWithdraw_exec hc hseq (fun _ => hroom), ?_⟩
    rw [if_neg (not_not.mpr hs)]
    refine ⟨⟨_, (hq seq).trans ((State.sheet?_idleUpdate _ seq).trans (State.sheet?_finish_same Sheet.unerred_seq .withdrawn hy)), rfl⟩,
      fun q hne => ?_, ?_, hans, honly, hkeep⟩
    · rw [hq, s.recCmd.withdraw_eq, State.sheet?_idleUpdate, State.sheet?_finish_ne Sheet.unerred_seq .withdrawn hy hne,
        State.sheet?_unawaited_ne h?' hne, State.recCmd_sheet?]
    · have hj : (s.recCmd.unawaited seq).jrn = s.jrn := (State.unawaited_jrn h?').trans s.recCmd_jrn
      refine staged_of_jrn hj (State.finish_staged Sheet.unerred_seq .withdrawn hy ?_)
      rw [← State.idleUpdate_jrn, ← s.recCmd.withdraw_eq]
      exact State.conclude_staged h 0x0004 hp
  · have hs : s.withdrawStatus h seq = st ∧ st ≠ 0 := by
      rcases hst with ⟨sh, h?, ⟨rfl, hst⟩ | ⟨rfl, hst⟩⟩ | ⟨rfl, h?⟩
      · exact ⟨State.withdrawStatus_locked h? hst, by decide⟩
      · exact ⟨State.withdrawStatus_final h? hst, by decide⟩
      · exact ⟨State.withdrawStatus_none h?, by decide⟩
    obtain ⟨hs, hne⟩ := hs
    refine ⟨_, sheetWithdraw_exec hc hseq (fun h0 => absurd (hs.symm.trans h0) hne), ?_⟩
    rw [if_pos (by rwa [hs]), hs]
    exact s.answer_onlyHost h 0x0004 st 0 []

end Sys2Proof.Machine
end

section
/-! Sheets on the belt: declarations by the engine program, locks, commits and transfers (R35, R36, R41, R42, R56, R114). -/

namespace Sys2Proof.Machine

/-! ### Declarations (R56) -/

section
variable {s : State} {sh : Sheet}

/-- The live sheet whose low 32 bits DECLARE_SEQ holds. -/
def State.declared (s : State) : Option Sheet := s.led.sheets.find? (fun x => x.seq % 2 ^ 32 == s.fget LEDG_DECLARE_SEQ_DECLARE_SEQ)

/-- A declaration of R56 for a live sheet: its transition of R36, or an event out of order, case 1. -/
theorem State.declare_live (hd : s.declared = some sh) {ev : Nat} (h0 : ev ≠ 0) (h4 : ¬ 4 ≤ ev) :
    s.declare ev = if ev = 1 then (if sh.st = .transferred then s.enter sh.seq .fused else s.refuseDeclare ev 1)
      else if ev = 2 then (if sh.st = .fused then s.deliver sh.seq sh else s.refuseDeclare ev 1)
      else if sh.st.inFlight then (s.failSheet sh.seq 7 (msgDetail 0x007 1 (sh.seq % 65536))).sendFaultC 0x007 0x01 (sh.seq % 65536) 2
      else s.refuseDeclare ev 1 := by
  unfold State.declared at hd
  unfold State.declare
  rw [if_neg h0, hd]
  exact if_neg h4

/-- A declaration for a sheet that is not live is case 0. -/
theorem State.declare_notLive (hd : s.declared = none) {ev : Nat} (h0 : ev ≠ 0) : s.declare ev = s.refuseDeclare ev 0 := by
  unfold State.declared at hd
  unfold State.declare
  rw [if_neg h0, hd]

theorem State.declare_fused (hd : s.declared = some sh) (hst : sh.st = .transferred) : s.declare 1 = s.enter sh.seq .fused := by
  rw [State.declare_live hd (by decide) (by decide), if_pos rfl, if_pos hst]

theorem State.declare_delivered (hd : s.declared = some sh) (hst : sh.st = .fused) : s.declare 2 = s.deliver sh.seq sh := by
  rw [State.declare_live hd (by decide) (by decide), if_neg (by decide), if_pos rfl, if_pos hst]

theorem State.declare_jam (hd : s.declared = some sh) (hst : sh.st.inFlight = true) :
    s.declare 3 = (s.failSheet sh.seq 7 (msgDetail 0x007 1 (sh.seq % 65536))).sendFaultC 0x007 0x01 (sh.seq % 65536) 2 := by
  rw [State.declare_live hd (by decide) (by decide), if_neg (by decide), if_neg (by decide), if_pos hst]

/-- A declaration that the sheet's state does not allow. -/
theorem State.declare_refused (hd : s.declared = some sh) {ev : Nat}
    (hst : (ev = 1 ∧ sh.st ≠ .transferred) ∨ (ev = 2 ∧ sh.st ≠ .fused) ∨ (ev = 3 ∧ ¬ sh.st.inFlight = true)) :
    s.declare ev = s.refuseDeclare ev 1 := by
  rcases hst with ⟨rfl, hst⟩ | ⟨rfl, hst⟩ | ⟨rfl, hst⟩
  · rw [State.declare_live hd (by decide) (by decide), if_pos rfl, if_neg hst]
  · rw [State.declare_live hd (by decide) (by decide), if_neg (by decide), if_pos rfl, if_neg hst]
  · rw [State.declare_live hd (by decide) (by decide), if_neg (by decide), if_neg (by decide), if_neg hst]

/-- A refusal sets DECLARE_REFUSED and sends the ledger's message of class A, and nothing else (R56). -/
theorem State.refuseDeclare_only (s : State) {ev case : Nat} (hev : ev < 4) (hcase : case < 4) :
    (s.refuseDeclare ev case).bit LEDG_STATUS_DECLARE_REFUSED = true ∧ keepsFields s (s.refuseDeclare ev case) [LEDG_STATUS_DECLARE_REFUSED]
      ∧ sansFields (s.refuseDeclare ev case) = { sansFields s with faultQ := s.faultQ ++ [⟨0x006, 1, ev + 16 * case, 0⟩] } := by
  refine ⟨?_, keepsFields_fset s 1 (List.mem_singleton_self _), ?_⟩
  · show ((s.fset LEDG_STATUS_DECLARE_REFUSED 1).fget LEDG_STATUS_DECLARE_REFUSED != 0) = true
    rw [State.fget_fset]
    rfl
  · have hd : (ev + 16 * case) % 65536 = ev + 16 * case := Nat.mod_eq_of_lt (by omega)
    exact congrArg (fun d => { sansFields s with faultQ := s.faultQ ++ [(⟨0x006, 1, d, 0⟩ : FaultMsg)] }) hd

theorem State.modSheet_id (s : State) (seq : Nat) : s.modSheet seq id = s := by
  have h : (fun sh : Sheet => if sh.seq = seq then id sh else sh) = id := by funext x; simp
  simp only [State.modSheet, h, List.map_id]

theorem State.deliver_eq (s : State) (seq : Nat) (sh : Sheet) :
    s.deliver seq sh = (s.finish seq id (if sh.defective then .deliveredDefect else .delivered)).idleUpdate := by
  unfold State.deliver State.finish
  rw [State.modSheet_id]

end

/-- Settles O31: an accepted declaration is the sheet's next state with its record, a refused one the ledger's message. -/
theorem declaredOutcomes : Obligations.DeclaredOutcomes := by
  refine ⟨fun s sh seq hseq hd h? => ⟨fun hst => ?_, fun hst => ?_, fun hst => ?_, fun c hc hst => ?_⟩, fun s hd c hc => ?_⟩
  · refine ⟨_, congrArg Host.Outcome.next (State.declare_fused hd hst), ?_⟩
    rw [← hseq]
    exact ⟨⟨_, State.sheet?_enter_same h? .fused, rfl⟩, fun q hq => State.sheet?_enter_ne h? .fused hq,
      State.enter_staged h? .fused List.prefix_rfl, (State.enter_ledger h? .fused).onlyLedger⟩
  · refine ⟨_, congrArg Host.Outcome.next (State.declare_delivered hd hst), ?_⟩
    rw [← hseq, s.deliver_eq]
    refine ⟨⟨_, (State.sheet?_idleUpdate _ seq).trans (State.sheet?_finish_same (fun _ => rfl) _ h?), ?_⟩, fun q hq => ?_, ?_, ?_⟩
    · simp [State.enteredSheet, State.journaledSheet, Sheet.recorded, Sheet.defective]
    · rw [State.sheet?_idleUpdate, State.sheet?_finish_ne (f := id) (fun _ => rfl) _ h? hq]
    · exact State.finish_staged (f := id) (fun _ => rfl) _ h? (by rw [State.idleUpdate_jrn])
    · exact ((State.finish_sheets (f := id) (fun _ => rfl) _ h?).trans (State.idleUpdate_ledger _ _).sheets).onlySheets
  · have hf : sh.st.inFlight = true := by rcases hst with h | h | h | h <;> rw [h] <;> rfl
    refine ⟨_, congrArg Host.Outcome.next (State.declare_jam hd hf), ?_⟩
    rw [← hseq]
    obtain ⟨y, hy, hfail, hreason, -⟩ := State.sheet?_failSheet_same h? hf 7 (msgDetail 0x007 1 (seq % 65536))
    have hframe := State.failSheet_sheets h? hf 7 (msgDetail 0x007 1 (seq % 65536))
    refine ⟨⟨y, hy, hfail, hreason⟩, fun q hq => State.sheet?_failSheet_ne h? hf 7 _ hq, ?_, ?_, ?_⟩
    · exact State.failSheet_staged h? hf 7 _ List.prefix_rfl
    · show (_ ++ [_]).getLast? = _
      rw [List.getLast?_concat, Nat.mod_mod]
    · exact (hframe.trans (.of_fields rfl rfl rfl)).onlySheets
  · simp only [List.mem_cons, List.not_mem_nil, or_false] at hc
    rcases hc with rfl | rfl | rfl
    · exact ⟨_, congrArg Host.Outcome.next (State.declare_refused hd (.inl ⟨rfl, hst⟩)), s.refuseDeclare_only (by decide) (by decide)⟩
    · exact ⟨_, congrArg Host.Outcome.next (State.declare_refused hd (.inr (.inl ⟨rfl, hst⟩))), s.refuseDeclare_only (by decide) (by decide)⟩
    · exact ⟨_, congrArg Host.Outcome.next (State.declare_refused hd (.inr (.inr ⟨rfl, hst⟩))),
        s.refuseDeclare_only (by decide) (by decide)⟩
  · simp only [List.mem_cons, List.not_mem_nil, or_false] at hc
    rcases hc with rfl | rfl | rfl
    · exact ⟨_, congrArg Host.Outcome.next (State.declare_notLive hd (by decide)), s.refuseDeclare_only (by decide) (by decide)⟩
    · exact ⟨_, congrArg Host.Outcome.next (State.declare_notLive hd (by decide)), s.refuseDeclare_only (by decide) (by decide)⟩
    · exact ⟨_, congrArg Host.Outcome.next (State.declare_notLive hd (by decide)), s.refuseDeclare_only (by decide) (by decide)⟩

end Sys2Proof.Machine
end

section
/-! SHEET_LOCK, SHEET_COMMIT and SHEET_TRANSFERRED: reversions, defects counted for a drive, the causes that stand at a commit, and the sheet
boundary (R34 to R36, R41, R42, R114, R286, R288). -/

namespace Sys2Proof.Machine

/-! ### Defects counted for a drive (R286, R288) -/

/-- A sheet for which a defect is counted; DETAIL keeps the message of the first. -/
def Sheet.counted (detail : Nat) (sh : Sheet) : Sheet := if sh.defect then sh else { sh with defect := true, detail := detail }

theorem Sheet.counted_seq (detail : Nat) (sh : Sheet) : (sh.counted detail).seq = sh.seq := by unfold Sheet.counted; split <;> rfl

theorem Sheet.counted_eq (detail : Nat) (sh : Sheet) : ∃ b d, sh.counted detail = { sh with defect := b, detail := d } := by
  unfold Sheet.counted
  split
  · exact ⟨_, _, rfl⟩
  · exact ⟨_, _, rfl⟩

/-- What counting defects leaves alone: everything but the sheets and the drive channels. -/
def viewDefect (s : State) : State := { s with led := { s.led with sheets := [] }, drv := [] }

/-- `u` is `s` after defects have been counted for the sheet `seq`; the drive channels change only at a commit. -/
structure DefectCounted (seq : Nat) (commit : Bool) (s u : State) : Prop where
  view : viewDefect u = viewDefect s
  drv : commit = false → u.drv = s.drv
  same : ∀ sh, s.sheet? seq = some sh → ∃ b d, u.sheet? seq = some { sh with defect := b, detail := d }
  other : ∀ q, q ≠ seq → u.sheet? q = s.sheet? q

section
variable {seq : Nat} {commit : Bool} {s t u : State}

protected theorem DefectCounted.refl (seq : Nat) (commit : Bool) (s : State) : DefectCounted seq commit s s :=
  ⟨rfl, fun _ => rfl, fun _ h => ⟨_, _, h⟩, fun _ _ => rfl⟩

theorem DefectCounted.trans (h : DefectCounted seq commit s t) (k : DefectCounted seq commit t u) : DefectCounted seq commit s u := by
  refine ⟨k.view.trans h.view, fun hc => (k.drv hc).trans (h.drv hc), fun sh hs => ?_, fun q hq => (k.other q hq).trans (h.other q hq)⟩
  obtain ⟨b, d, ht⟩ := h.same sh hs
  obtain ⟨b', d', hu⟩ := k.same _ ht
  exact ⟨b', d', hu⟩

theorem State.counted_defectCounted (s : State) (seq detail : Nat) (commit : Bool) :
    DefectCounted seq commit s (s.modSheet seq (Sheet.counted detail)) := by
  refine ⟨rfl, fun _ => rfl, fun sh h => ?_, fun q hq => s.sheet?_modSheet_ne hq (Sheet.counted_seq detail)⟩
  obtain ⟨b, d, he⟩ := sh.counted_eq detail
  exact ⟨b, d, by rw [State.sheet?_modSheet_same h (Sheet.counted_seq detail), he]⟩

theorem State.drvDefect_counted (s : State) (seq : Nat) (commit : Bool) : DefectCounted seq commit s (s.drvDefect seq commit) := by
  unfold State.drvDefect
  refine List.foldlRecOn _ _ (DefectCounted.refl seq commit s) (fun t ht n _ => ht.trans ?_)
  split
  · exact .refl _ _ t
  · split
    · exact t.counted_defectCounted seq _ commit
    · split
      · split
        · rename_i hc
          obtain ⟨hv, -, hs, ho⟩ := t.counted_defectCounted seq _ commit
          exact ⟨hv, fun hf => absurd (hc.1.symm.trans hf) (by decide), hs, ho⟩
        · exact .refl _ _ t
      · exact .refl _ _ t

theorem DefectCounted.jrn (h : DefectCounted seq commit s u) : u.jrn = s.jrn := (congrArg State.jrn h.view :)
theorem DefectCounted.mem (h : DefectCounted seq commit s u) : u.mem = s.mem := (congrArg State.mem h.view :)
theorem DefectCounted.dma (h : DefectCounted seq commit s u) : u.dma = s.dma := (congrArg State.dma h.view :)
theorem DefectCounted.stn (h : DefectCounted seq commit s u) : u.stn = s.stn := (congrArg State.stn h.view :)
theorem DefectCounted.fields (h : DefectCounted seq commit s u) : u.fields = s.fields := (congrArg State.fields h.view :)

/-- Before the commit nothing but sheets is touched. -/
theorem DefectCounted.only_sheets (h : DefectCounted seq false s u) : u = { s with led := { s.led with sheets := u.led.sheets } } := by
  have hv := congrArg (fun x : State => { x with led := { x.led with sheets := u.led.sheets }, drv := u.drv }) h.view
  have hd : ({ s with led := { s.led with sheets := u.led.sheets }, drv := u.drv } : State) = { s with led := { s.led with sheets := u.led.sheets } } := by
    rw [h.drv rfl]
  exact (hv :).trans hd

end

/-! ### Reversion (R42) -/

/-- What a reversion leaves alone: as a change of a sheet, and the pipelines, which drop what they decoded (R180). -/
def viewRevert (s : State) : State := { viewLedger s with stn := [] }

theorem Frame.revert {ks : List Fld} {s u : State} (h : Frame viewLedger ks s u) : Frame viewRevert ks s u :=
  h.coarsen (fun x => { x with stn := [] }) (fun _ => rfl)

theorem Frame.onlyReverted {ks : List Fld} {s u : State} (h : Frame viewRevert ks s u) :
    sansEvent u = { sansEvent s with led := u.led, jrn := u.jrn, host := u.host, stn := u.stn, mem := (sansEvent u).mem } ∧ onlyRingBar s u :=
  ⟨congrArg (fun x : State => { x with led := u.led, jrn := u.jrn, host := u.host, stn := u.stn, mem := (sansEvent u).mem }) h.view,
    h.ringBar (congrArg (fun x => x.mem.used) h.view)⟩

theorem Sheet.reverted_seq (sh : Sheet) : sh.reverted.seq = sh.seq := rfl

/-- The state once a sheet is SUBMITTED again, before the reversion is journaled. -/
def State.unadmitted (s : State) (seq : Nat) : State :=
  { (s.releasePos seq).modSheet seq Sheet.reverted with stn := s.stn.map (fun (e : Nat × Stn) => (e.1, e.2.forget seq)) }

theorem State.revertOne_eq (s : State) (seq : Nat) : s.revertOne seq = (s.unadmitted seq).journalSheet seq := rfl

theorem State.journalSheet_none {s : State} {seq : Nat} (h : s.sheet? seq = none) : s.journalSheet seq = s := by
  unfold State.journalSheet; rw [h]

theorem State.revertOne_frame (s : State) (seq : Nat) : Frame viewRevert reportFields s (s.revertOne seq) := by
  have hu : Frame viewRevert reportFields s (s.unadmitted seq) := .of_fields rfl rfl rfl
  rw [s.revertOne_eq]
  cases h : (s.unadmitted seq).sheet? seq with
  | none => rwa [State.journalSheet_none h]
  | some y => exact hu.trans (State.journalSheet_ledger h).revert

theorem State.sheet?_unadmitted (s : State) (seq q : Nat) :
    (s.unadmitted seq).sheet? q = if q = seq then (s.sheet? q).map Sheet.reverted else s.sheet? q :=
  (s.releasePos seq).sheet?_modSheet seq q Sheet.reverted_seq

theorem State.sheet?_revertOne_same {s : State} {seq : Nat} {sh : Sheet} (h : s.sheet? seq = some sh) :
    (s.revertOne seq).sheet? seq = some ((s.unadmitted seq).journaledSheet sh.reverted) := by
  have hu : (s.unadmitted seq).sheet? seq = some sh.reverted := by rw [s.sheet?_unadmitted, if_pos rfl, h]; rfl
  rw [s.revertOne_eq, State.sheet?_journalSheet_same hu]

theorem State.sheet?_revertOne_ne (s : State) {seq q : Nat} (hq : q ≠ seq) : (s.revertOne seq).sheet? q = s.sheet? q := by
  have hu : (s.unadmitted seq).sheet? q = s.sheet? q := by rw [s.sheet?_unadmitted, if_neg hq]
  rw [s.revertOne_eq]
  cases h : (s.unadmitted seq).sheet? seq with
  | none => rw [State.journalSheet_none h, hu]
  | some y => rw [State.sheet?_journalSheet_ne h hq, hu]

/-- A reversion releases the sheet's commit positions and no other (R39). -/
theorem State.revertOne_fixed (s : State) (seq : Nat) : (s.revertOne seq).led.fixed = s.led.fixed.filter (fun e => e.1 != seq) := by
  rw [s.revertOne_eq]
  cases h : (s.unadmitted seq).sheet? seq with
  | none => rw [State.journalSheet_none h]; rfl
  | some y => rw [State.journalSheet_led h]; rfl

/-- The sheet `seq` is SUBMITTED, not locked, and no commit position is fixed for it. -/
def State.isReverted (s : State) (seq : Nat) : Prop :=
  (∃ y, s.sheet? seq = some y ∧ y.locked = false ∧ y.st = .submitted) ∧ ∀ c, (seq, c) ∉ s.led.fixed

theorem State.revertOne_reverts {s : State} {seq : Nat} {sh : Sheet} (h : s.sheet? seq = some sh) : (s.revertOne seq).isReverted seq := by
  refine ⟨⟨_, State.sheet?_revertOne_same h, rfl, rfl⟩, fun c hc => ?_⟩
  rw [s.revertOne_fixed] at hc
  simp at hc

theorem State.revertOne_isReverted {s : State} {seq : Nat} (h : s.isReverted seq) (q : Nat) : (s.revertOne q).isReverted seq := by
  obtain ⟨⟨y, hy, hl, hst⟩, hf⟩ := h
  by_cases hq : seq = q
  · subst hq; exact State.revertOne_reverts hy
  · refine ⟨⟨y, by rw [s.sheet?_revertOne_ne hq, hy], hl, hst⟩, fun c hc => hf c ?_⟩
    rw [s.revertOne_fixed] at hc
    exact List.mem_of_mem_filter hc

theorem State.foldl_revertOne_isReverted (l : List Nat) {s : State} {seq : Nat} (h : s.isReverted seq) : (l.foldl State.revertOne s).isReverted seq :=
  List.foldlRecOn (motive := fun t : State => t.isReverted seq) l _ h (fun _ ht q _ => State.revertOne_isReverted ht q)

/-- Every live sheet among those that are reverted in turn ends reverted. -/
theorem State.foldl_revertOne_reverts {l : List Nat} {s : State} {seq : Nat} {sh : Sheet} (h : s.sheet? seq = some sh) (hl : seq ∈ l) :
    (l.foldl State.revertOne s).isReverted seq := by
  induction l generalizing s sh with
  | nil => exact absurd hl List.not_mem_nil
  | cons q l ih =>
    by_cases hq : seq = q
    · subst hq; exact State.foldl_revertOne_isReverted l (State.revertOne_reverts h)
    · exact ih ((s.sheet?_revertOne_ne hq).trans h) ((List.mem_cons.mp hl).resolve_left hq)

theorem State.revertFrom_frame (s : State) (seq : Nat) : Frame viewRevert reportFields s (s.revertFrom seq) :=
  (Frame.foldl State.revertOne_frame _ s).trans (State.idleUpdate_ledger _ _).revert

/-- A reversion takes every ADMITTED, unlocked sheet from its number on (R42). -/
theorem State.revertFrom_reverts {s : State} {q seq : Nat} {sh : Sheet} (h : s.sheet? seq = some sh) (hr : sh.revertible = true) (hq : q ≤ seq) :
    (s.revertFrom q).isReverted seq := by
  obtain rfl := State.sheet?_seq h
  have hm : sh.seq ∈ ((s.led.sheets.filter (fun g => g.revertible && decide (q ≤ g.seq))).map (·.seq)).reverse :=
    List.mem_reverse.mpr (List.mem_map_of_mem (List.mem_filter.mpr ⟨State.sheet?_mem h, by simp [hr, hq]⟩))
  obtain ⟨⟨y, hy, hl, hst⟩, hf⟩ := State.foldl_revertOne_reverts h hm
  exact ⟨⟨y, (State.sheet?_idleUpdate _ _).trans hy, hl, hst⟩, fun c hc => hf c (by rwa [State.revertFrom, State.idleUpdate_fixed] at hc)⟩

/-- In sequence order the first sheet that a predicate picks is the lowest. -/
theorem find?_seq_le {p : Sheet → Bool} {l : List Sheet} (hs : (l.map (fun g => g.seq)).Pairwise (· < ·)) {sh : Sheet} (hm : sh ∈ l) (hp : p sh = true) :
    ∃ g, l.find? p = some g ∧ g.seq ≤ sh.seq := by
  induction l with
  | nil => exact absurd hm List.not_mem_nil
  | cons a l ih =>
    rw [List.map_cons, List.pairwise_cons] at hs
    by_cases ha : p a = true
    · refine ⟨a, List.find?_cons_of_pos ha, ?_⟩
      rcases List.mem_cons.mp hm with rfl | hm
      · exact Nat.le_refl _
      · exact Nat.le_of_lt (hs.1 _ (List.mem_map_of_mem hm))
    · have hml : sh ∈ l := (List.mem_cons.mp hm).resolve_left (fun he => ha (he ▸ hp))
      obtain ⟨g, hg, hle⟩ := ih hs.2 hml
      exact ⟨g, (List.find?_cons_of_neg ha).trans hg, hle⟩

/-! ### Locks (R41) -/

section
variable {s : State} {seq : Nat} {sh : Sheet}

theorem State.beltRuns_of (he : s.bit PPOS_CTRL_EN = true) (hl : s.bit PPOS_STATUS_ENC_LOST = false) : s.beltRuns = true := by
  simp [State.beltRuns, he, hl]

/-- A locked sheet (R41). -/
def Sheet.lock (sh : Sheet) : Sheet := { sh with locked := true }

theorem Sheet.lock_seq (sh : Sheet) : sh.lock.seq = sh.seq := rfl

/-- An unlocked sheet up to this one has lost a condition of R42. -/
def State.lostUpTo (s : State) (seq : Nat) : Bool := s.led.sheets.any (fun g => g.revertible && decide (g.seq ≤ seq) && s.lost g)

/-- SHEET_LOCK of a live sheet that awaits no record. -/
theorem sheetLock_exec (h? : s.sheet? seq = some sh) (ha : sh.awaiting = false) : exec (.sheetLock seq) s
    = .next (if s.beltRuns = true ∧ sh.commitPos - umUnits (s.fget LEDG_LOCK_DIST_LOCK_DIST) ≤ s.pos0 then
        (if sh.st = .admitted ∧ sh.locked = false then
          (if s.lostUpTo seq then s.revertLost else (s.modSheet seq Sheet.lock).drvDefect seq false) else s) else s) := by
  show execSheetLock seq s = _
  unfold execSheetLock
  rw [h?]
  show Host.Outcome.next (ite _ (ite _ _ _) _) = _
  rw [if_neg (c := sh.awaiting = true) (by rw [ha]; decide)]
  rfl

theorem sheetLock_early (h? : s.sheet? seq = some sh) (hx : s.pos0 < sh.commitPos - umUnits (s.fget LEDG_LOCK_DIST_LOCK_DIST)) :
    exec (.sheetLock seq) s = .next s := by
  show execSheetLock seq s = _
  unfold execSheetLock
  rw [h?]
  exact congrArg Host.Outcome.next (if_neg (fun h => Int.not_le.mpr hx h.2))

theorem State.lock_counted (h? : s.sheet? seq = some sh) :
    (∃ y, ((s.modSheet seq Sheet.lock).drvDefect seq false).sheet? seq = some y ∧ y.locked = true ∧ y.st = sh.st ∧ y.commitPos = sh.commitPos)
      ∧ (∀ q, q ≠ seq → ((s.modSheet seq Sheet.lock).drvDefect seq false).sheet? q = s.sheet? q)
      ∧ (s.modSheet seq Sheet.lock).drvDefect seq false
        = { s with led := { s.led with sheets := ((s.modSheet seq Sheet.lock).drvDefect seq false).led.sheets } } := by
  have hc := (s.modSheet seq Sheet.lock).drvDefect_counted seq false
  obtain ⟨b, d, hy⟩ := hc.same _ (State.sheet?_modSheet_same h? Sheet.lock_seq)
  exact ⟨⟨_, hy, rfl, rfl, rfl⟩, fun q hq => (hc.other q hq).trans (s.sheet?_modSheet_ne hq Sheet.lock_seq), hc.only_sheets⟩

/-- A sheet at its lock point that has lost a condition reverts, with the sheets from the lowest such one on (R42). -/
theorem State.revertLost_reverts (h? : s.sheet? seq = some sh) (hr : sh.revertible = true) (hl : s.lost sh = true)
    (hs : (s.led.sheets.map (fun g => g.seq)).Pairwise (· < ·)) : s.revertLost.isReverted seq ∧ Frame viewRevert reportFields s s.revertLost := by
  have hp : (sh.revertible && s.lost sh) = true := by rw [hr, hl]; rfl
  obtain ⟨g, hg, hle⟩ := find?_seq_le (p := fun x => x.revertible && s.lost x) hs (State.sheet?_mem h?) hp
  rw [State.sheet?_seq h?] at hle
  have he : s.revertLost = s.revertFrom g.seq := by unfold State.revertLost; rw [hg]
  rw [he]
  exact ⟨State.revertFrom_reverts h? hr hle, s.revertFrom_frame _⟩

/-! ### Commits (R36, R41) and the sheet boundary (R114) -/

theorem State.applyShadow_keeps (s : State) (fs : List Fld) : (s.applyShadow fs).led = s.led ∧ (s.applyShadow fs).jrn = s.jrn
    ∧ (s.applyShadow fs).mem = s.mem ∧ (s.applyShadow fs).dma = s.dma := by
  unfold State.applyShadow
  refine List.foldlRecOn (motive := fun t : State => t.led = s.led ∧ t.jrn = s.jrn ∧ t.mem = s.mem ∧ t.dma = s.dma) fs _ ⟨rfl, rfl, rfl, rfl⟩
    (fun t ht f _ => ?_)
  split
  · split
    · exact ht
    · exact ht
  · exact ht

/-- A sheet boundary touches neither the ledger, the journal, the memories nor the transfers. -/
theorem State.sheetBoundary_keeps (s : State) (seq : Nat) : (s.sheetBoundary seq).led = s.led ∧ (s.sheetBoundary seq).jrn = s.jrn
    ∧ (s.sheetBoundary seq).mem = s.mem ∧ (s.sheetBoundary seq).dma = s.dma := by
  have h := s.applyShadow_keeps ([PLC_CTRL_RETIRE_EN, PLC_CTRL_SLOW_EN] ++ (List.range 7).map DRAMC_RSVp_RSV)
  unfold State.sheetBoundary
  exact h

theorem State.sheetBoundary_led (s : State) (seq : Nat) : (s.sheetBoundary seq).led = s.led := (s.sheetBoundary_keeps seq).1
theorem State.sheetBoundary_jrn (s : State) (seq : Nat) : (s.sheetBoundary seq).jrn = s.jrn := (s.sheetBoundary_keeps seq).2.1
theorem State.sheetBoundary_mem (s : State) (seq : Nat) : (s.sheetBoundary seq).mem = s.mem := (s.sheetBoundary_keeps seq).2.2.1
theorem State.sheetBoundary_dma (s : State) (seq : Nat) : (s.sheetBoundary seq).dma = s.dma := (s.sheetBoundary_keeps seq).2.2.2

theorem State.sheet?_sheetBoundary (s : State) (seq q : Nat) : (s.sheetBoundary seq).sheet? q = s.sheet? q :=
  State.sheet?_of_sheets (congrArg Ledger.sheets (s.sheetBoundary_led seq)) q

theorem onlyRingBar_of_mem {s t u : State} (hm : u.mem = t.mem) (h : onlyRingBar s t) : onlyRingBar s u := by
  unfold onlyRingBar keepsPairs onlyRing at h ⊢
  rwa [hm]

/-- The causes at a commit are read from the pipelines and from fields that no report sets. -/
theorem State.commitCause_congr {s u : State} (hs : u.stn = s.stn) (hk : keepsFields s u reportFields) (sh : Sheet) : u.commitCause sh = s.commitCause sh := by
  have hfree : ∀ n ∈ List.range 6, (STNn_HD_STATUS_HOT n).key ∉ reportFields.map Fld.key ∧ (STNn_PL_CFG_KIND n).key ∉ reportFields.map Fld.key
      ∧ (STNn_SC_STATUS_LOST n).key ∉ reportFields.map Fld.key := by decide
  have hc : u.commitCauses sh = s.commitCauses sh := by
    unfold State.commitCauses
    rw [hs]
    refine congrArg (_ ++ ·) (List.flatMap_congr fun n hn => ?_)
    obtain ⟨hh, hki, hlo⟩ := hfree n hn
    rw [hk.bit hh, hk.bit hki, hk.bit hlo]
  unfold State.commitCause
  rw [hc]

/-- The state once a sheet is COMMITTED, before a cause of R35 is looked at. -/
def State.committed (s : State) (seq : Nat) : State := ((s.modSheet seq Sheet.lock).enter seq .committed).drvDefect seq true

theorem sheetCommit_exec (h? : s.sheet? seq = some sh) : exec (.sheetCommit seq) s
    = .next (if s.beltRuns = true ∧ sh.st = .admitted ∧ sh.commitPos ≤ s.pos0 then
        (if s.safe then (s.committed seq).failSheet seq 5 (s.committed seq).safeDetail
          else match (s.committed seq).commitCause sh with
            | some c => (s.committed seq).failSheet seq c.1 c.2
            | none => s.committed seq).sheetBoundary seq else s) := by
  show execSheetCommit seq s = _
  unfold execSheetCommit
  rw [h?]
  rfl

section
variable (h? : s.sheet? seq = some sh)
include h?

theorem State.sheet?_committed_same :
    ∃ y, (s.committed seq).sheet? seq = some y ∧ y.locked = true ∧ y.st = .committed ∧ y.commitPos = sh.commitPos := by
  have hl : (s.modSheet seq Sheet.lock).sheet? seq = some sh.lock := State.sheet?_modSheet_same h? Sheet.lock_seq
  obtain ⟨b, d, hy⟩ := (State.drvDefect_counted _ seq true).same _ (State.sheet?_enter_same hl .committed)
  exact ⟨_, hy, rfl, rfl, rfl⟩

theorem State.sheet?_committed_ne {q : Nat} (hq : q ≠ seq) : (s.committed seq).sheet? q = s.sheet? q := by
  have hl : (s.modSheet seq Sheet.lock).sheet? seq = some sh.lock := State.sheet?_modSheet_same h? Sheet.lock_seq
  rw [State.committed, (State.drvDefect_counted _ seq true).other q hq, State.sheet?_enter_ne hl .committed hq, s.sheet?_modSheet_ne hq Sheet.lock_seq]

theorem State.committed_jrn : ∃ r : JRec, (s.committed seq).jrn = (s.stage r).jrn ∧ r.typ = 0x01 ∧ r.seq = seq ∧ r.st = 3 := by
  have hl : (s.modSheet seq Sheet.lock).sheet? seq = some sh.lock := State.sheet?_modSheet_same h? Sheet.lock_seq
  refine ⟨(s.modSheet seq Sheet.lock).nextRec { sh.lock with st := .committed }, ?_, rfl, State.sheet?_seq (s := s) (sh := sh) h?, rfl⟩
  rw [State.committed, (State.drvDefect_counted _ seq true).jrn, State.enter_jrn hl .committed]
  rfl

theorem State.committed_entered : Frame viewLedger reportFields s ((s.modSheet seq Sheet.lock).enter seq .committed) :=
  (s.modSheet_ledger seq _ _).trans
    (State.enter_ledger_report (State.sheet?_modSheet_same h? Sheet.lock_seq) (by decide) (by decide))

theorem State.committed_onlyRingBar : onlyRingBar s (s.committed seq) :=
  onlyRingBar_of_mem (State.drvDefect_counted _ seq true).mem (State.committed_entered h?).onlyLedger.2

theorem State.committed_dma : (s.committed seq).dma = s.dma :=
  (State.drvDefect_counted _ seq true).dma.trans (State.committed_entered h?).ledger_dma

theorem State.committed_commitCause (sh : Sheet) : (s.committed seq).commitCause sh = s.commitCause sh := by
  have hd := State.drvDefect_counted ((s.modSheet seq Sheet.lock).enter seq .committed) seq true
  have he := State.committed_entered h?
  exact State.commitCause_congr (hd.stn.trans he.ledger_stn) (he.fields.trans (keepsFields_of_fields hd.fields)) sh

/-- A commit with no cause against it. -/
theorem sheetCommit_whole (hb : s.beltRuns = true) (hst : sh.st = .admitted) (hpos : sh.commitPos ≤ s.pos0) (hsafe : s.safe = false)
    (hcause : s.commitCause sh = none) : exec (.sheetCommit seq) s = .next ((s.committed seq).sheetBoundary seq) := by
  rw [sheetCommit_exec h?, if_pos ⟨hb, hst, hpos⟩, if_neg (by rw [hsafe]; decide), State.committed_commitCause h?, hcause]

/-- A commit that a cause of R35 stands against. -/
theorem sheetCommit_failed (hb : s.beltRuns = true) (hst : sh.st = .admitted) (hpos : sh.commitPos ≤ s.pos0) (hsafe : s.safe = false) {c d : Nat}
    (hcause : s.commitCause sh = some (c, d)) : exec (.sheetCommit seq) s = .next (((s.committed seq).failSheet seq c d).sheetBoundary seq) := by
  rw [sheetCommit_exec h?, if_pos ⟨hb, hst, hpos⟩, if_neg (by rw [hsafe]; decide), State.committed_commitCause h?, hcause]

/-- A commit in a safe state. -/
theorem sheetCommit_unsafe (hb : s.beltRuns = true) (hst : sh.st = .admitted) (hpos : sh.commitPos ≤ s.pos0) (hsafe : s.safe = true) :
    exec (.sheetCommit seq) s = .next (((s.committed seq).failSheet seq 5 (s.committed seq).safeDetail).sheetBoundary seq) := by
  rw [sheetCommit_exec h?, if_pos ⟨hb, hst, hpos⟩, if_pos hsafe]

/-- A commit before its position. -/
theorem sheetCommit_early (hpos : s.pos0 < sh.commitPos) : exec (.sheetCommit seq) s = .next s := by
  rw [sheetCommit_exec h?, if_neg (fun h => Int.not_le.mpr hpos h.2.2)]

/-- A sheet that fails at its commit: its COMMITTED record is staged, then its FAILED one (R41). -/
theorem State.committed_fails (reason detail : Nat) :
    let u := ((s.committed seq).failSheet seq reason detail).sheetBoundary seq
    (∃ y, u.sheet? seq = some y ∧ y.st = .failed ∧ y.reason = reason ∧ y.detail = detail)
      ∧ (∀ q, q ≠ seq → (u.sheet? q).map (fun z => z.st) = (s.sheet? q).map (fun z => z.st))
      ∧ (∃ r r' rest, u.jrn.staged = s.jrn.staged ++ r :: r' :: rest ∧ r.seq = seq ∧ r.st = 3 ∧ r'.seq = seq ∧ r'.st = 10) := by
  intro u
  obtain ⟨y, hy, -, hst, -⟩ := State.sheet?_committed_same h?
  have hf : y.st.inFlight = true := by rw [hst]; rfl
  obtain ⟨z, hz, hzst, hzr, hzd⟩ := State.sheet?_failSheet_same hy hf reason detail
  obtain ⟨r, hr, -, hrq, hrs⟩ := State.committed_jrn h?
  obtain ⟨r', hr', -, hrq', hrs'⟩ := State.failSheet_jrn hy hf reason detail
  refine ⟨⟨z, (State.sheet?_sheetBoundary _ seq seq).trans hz, hzst, hzr, hzd⟩, fun q hq => ?_, ?_⟩
  · rw [State.sheet?_sheetBoundary, State.sheet?_failSheet_ne hy hf reason detail hq, State.sheet?_committed_ne h? hq]
  · refine ⟨{ r with jseq := s.jrn.jseq }, { r' with jseq := (s.committed seq).jrn.jseq }, [], ?_, hrq, hrs, hrq', hrs'⟩
    rw [State.sheetBoundary_jrn, hr']
    show (s.committed seq).jrn.staged ++ _ = _
    rw [hr]
    exact List.append_assoc _ [_] [_]

end

theorem sheetTransferred_exec (h? : s.sheet? seq = some sh) (hb : s.beltRuns = true) (hst : sh.st = .exposed)
    (hx : sh.commitPos + umUnits (s.fget LEDG_XFER_DIST_XFER_DIST) + (s.imageLength sh : Int) ≤ s.pos0) :
    exec (.sheetTransferred seq) s = .next (s.enter seq .transferred) := by
  show execSheetTransferred seq s = _
  unfold execSheetTransferred
  rw [h?]
  exact congrArg Host.Outcome.next (if_pos ⟨hb, hst, hx⟩)

end

/-- Settles O30: before its position an event leaves the state as it is; at it the sheet is locked, reverted, committed, failed or transferred. -/
theorem locksCommitsTransfers : Obligations.LocksCommitsTransfers := by
  intro s seq sh h? hen hlost x hx
  have hb : s.beltRuns = true := State.beltRuns_of hen hlost
  have hx : x = s.pos0 := hx
  subst hx
  refine ⟨fun hst ha hpos hall => ?_, fun hst ha hlk hpos hsort hl => ?_, fun hpos => ⟨s, sheetLock_early h? hpos, rfl⟩, fun hst hpos hsafe hcause => ?_,
    fun c d hst hpos hsafe hcause => ?_, fun hst hpos hsafe => ?_, fun hpos => ?_, fun hst hpos => ?_⟩
  · refine ⟨_, sheetLock_exec h? ha, ?_⟩
    rw [if_pos ⟨hb, hpos⟩]
    by_cases hlk : sh.locked = false
    · have hno : s.lostUpTo seq = false := by
        refine List.any_eq_false.mpr (fun g hg hp => ?_)
        simp only [Sheet.revertible, Bool.and_eq_true, Bool.or_eq_true, decide_eq_true_eq, Bool.not_eq_true'] at hp
        obtain ⟨⟨⟨had, hgl⟩, hle⟩, hgost⟩ := hp
        rw [hall g hg hle had hgl] at hgost
        exact absurd hgost (by decide)
      rw [if_pos ⟨hst, hlk⟩, hno]
      have hk := State.lock_counted h?
      rw [hst] at hk
      exact hk
    · rw [if_neg (fun h => hlk h.2)]
      exact ⟨⟨sh, h?, Bool.not_eq_false _ ▸ hlk, hst, rfl⟩, fun _ _ => rfl, rfl⟩
  · have hr : sh.revertible = true := by simp [Sheet.revertible, hst, hlk]
    have hup : s.lostUpTo seq = true :=
      List.any_eq_true.mpr ⟨sh, State.sheet?_mem h?, by simp [hr, hl, State.sheet?_seq h?]⟩
    refine ⟨_, sheetLock_exec h? ha, ?_⟩
    rw [if_pos ⟨hb, hpos⟩, if_pos ⟨hst, hlk⟩, if_pos hup]
    obtain ⟨⟨hy, hfix⟩, hframe⟩ := State.revertLost_reverts h? hr hl hsort
    exact ⟨hy, hfix, hframe.onlyReverted⟩
  · obtain ⟨y, hy, hlk, hyst, hyc⟩ := State.sheet?_committed_same h?
    refine ⟨_, sheetCommit_whole h? hb hst hpos hsafe hcause, ⟨y, (State.sheet?_sheetBoundary _ seq seq).trans hy, hlk, hyst, hyc⟩, fun q hq => ?_,
      ?_, onlyRingBar_of_mem (State.sheetBoundary_mem _ seq) (State.committed_onlyRingBar h?), ?_⟩
    · rw [State.sheet?_sheetBoundary, State.sheet?_committed_ne h? hq]
    · obtain ⟨r, hr, ht, hq, -⟩ := State.committed_jrn h?
      rw [← ht, ← hq]
      exact staged_of_stage hr (by rw [State.sheetBoundary_jrn, hq])
    · rw [State.sheetBoundary_dma, State.committed_dma h?]
  · exact ⟨_, sheetCommit_failed h? hb hst hpos hsafe hcause, State.committed_fails h? c d⟩
  · obtain ⟨⟨y, hy, hf, hreason, -⟩, hrest⟩ := State.committed_fails h? 5 (s.committed seq).safeDetail
    exact ⟨_, sheetCommit_unsafe h? hb hst hpos hsafe, ⟨y, hy, hf, hreason⟩, hrest⟩
  · exact ⟨s, sheetCommit_early h? hpos, rfl⟩
  · refine ⟨_, sheetTransferred_exec h? hb hst hpos, ⟨_, State.sheet?_enter_same h? .transferred, rfl⟩,
      fun q hq => State.sheet?_enter_ne h? .transferred hq, State.enter_staged h? .transferred List.prefix_rfl,
      (State.enter_ledger h? .transferred).onlyLedger⟩

end Sys2Proof.Machine
end

section
/-! Admission decisions: what a decision reports, the condition that holds a sheet, the pitch and the commit position of a sheet that is admitted,
and what a decision leaves alone (R36, R37, R38, R39, R40, R43, R57). -/

namespace Sys2Proof.Machine

/-! ### The decision -/

/-- A boundary with no write pending changes nothing. -/
theorem State.applyShadow_nil {s : State} (h : s.shadow = []) (fs : List Fld) : s.applyShadow fs = s := by
  unfold State.applyShadow
  refine List.foldlRecOn (motive := fun t : State => t = s) fs _ rfl (fun t ht f _ => ?_)
  subst ht
  rw [h]
  rfl

/-- With no sheet ADMITTED none reverts. -/
theorem State.revertLost_eq {s : State} (h : ∀ sh ∈ s.led.sheets, sh.st ≠ .admitted ∧ sh.awaiting = false) : s.revertLost = s := by
  have hf : s.led.sheets.find? (fun sh => sh.revertible && s.lost sh) = none := by
    refine List.find?_eq_none.mpr (fun sh hsh => ?_)
    obtain ⟨hst, ha⟩ := h sh hsh
    simp [Sheet.revertible, hst, ha]
  unfold State.revertLost
  rw [hf]

/-- A decision with no write pending, nothing to revert, and the guarantee whole. -/
theorem State.admission_eq {s : State} (hp : s.power.phase = .run) (hs : s.shadow = [])
    (ha : ∀ sh ∈ s.led.sheets, sh.st ≠ .admitted ∧ sh.awaiting = false) (hd : s.degraded = false) (hb : s.bit SYS_STATUS_BACKUP_OK = true)
    (hr : s.jrn.retired.length ≤ 32) : s.admission = s.decide_ (s.led.sheets.length + 1) := by
  have hw : ¬ s.led.sheets.any (fun sh => sh.awaiting) = true := by
    rw [List.any_eq_true]
    rintro ⟨sh, hsh, hsa⟩
    rw [(ha sh hsh).2] at hsa
    cases hsa
  unfold State.admission
  simp only [State.applyShadow_nil hs, State.degradedUpdate_eq hd hb hr, State.revertLost_eq ha]
  rw [if_neg (fun h => h hp), if_neg hw]

/-- The lowest sheet that a decision looks at. -/
def State.waiting (s : State) : Option Sheet := s.led.sheets.find? (fun sh => decide (sh.st = .submitted) && !sh.awaiting)

theorem State.waiting_eq {s : State} (h : ∀ sh ∈ s.led.sheets, sh.awaiting = false) :
    s.waiting = s.led.sheets.find? (fun sh => decide (sh.st = .submitted)) :=
  List.find?_congr (fun sh hsh => by simp [h sh hsh])

section
variable {s : State} {sh : Sheet}

theorem State.decide_none (h : s.waiting = none) (k : Nat) : s.decide_ (k + 1) = s.limiter 31 0 := by
  unfold State.waiting at h
  rw [State.decide_, h]

theorem State.decide_held (h : s.waiting = some sh) {c src : Nat} (hh : s.holdOf sh = some (c, src)) (k : Nat) : s.decide_ (k + 1) = s.limiter c src := by
  unfold State.waiting at h
  simp only [State.decide_, h, hh]

theorem State.decide_admits (h : s.waiting = some sh) (hh : s.holdOf sh = none) (hd : s.degraded = false) (k : Nat) :
    s.decide_ (k + 1) = (s.admitSheet sh).decide_ k := by
  unfold State.waiting at h
  simp only [State.decide_, h, hh, hd, Bool.false_eq_true, if_false]

end

/-! ### LEDG_LIMITER (R38, R57) -/

/-- The fields that every decision writes. -/
def limiterFields : List Fld := [LEDG_LIMITER_CODE, LEDG_LIMITER_SOURCE]

/-- SOURCE where CODE names no unit. -/
def State.pitchSource (s : State) : Nat := if s.fget LEDG_LIMITER_LAST_PITCH = 3 then s.led.unitSrc % 2 ^ LEDG_LIMITER_SOURCE.width else 0

theorem State.limiter_code (s : State) {code : Nat} (h : code < 32) (src : Nat) : (s.limiter code src).fget LEDG_LIMITER_CODE = code := by
  unfold State.limiter
  show (State.fset (s.fset LEDG_LIMITER_CODE code) LEDG_LIMITER_SOURCE _).fget LEDG_LIMITER_CODE = code
  rw [State.fget_fset_ne _ _ _ _ (by decide), State.fget_fset]
  exact Nat.mod_eq_of_lt h

theorem State.limiter_source (s : State) (code src : Nat) : (s.limiter code src).fget LEDG_LIMITER_SOURCE
    = if code = 18 ∨ code = 20 then src % 2 ^ LEDG_LIMITER_SOURCE.width else s.pitchSource := by
  unfold State.limiter State.pitchSource
  show (State.fset (s.fset LEDG_LIMITER_CODE code) LEDG_LIMITER_SOURCE _).fget LEDG_LIMITER_SOURCE = _
  rw [State.fget_fset]
  split
  · rfl
  · split <;> rfl

theorem State.limiter_onlyFields (s : State) (code src : Nat) : onlyFields s (s.limiter code src) limiterFields :=
  ⟨rfl, (keepsFields_fset s _ List.mem_cons_self).trans (keepsFields_fset _ _ (List.mem_cons_of_mem _ List.mem_cons_self))⟩

theorem State.limiter_frame (s : State) (code src : Nat) {ks : List Fld} (hc : LEDG_LIMITER_CODE ∈ ks) (hs : LEDG_LIMITER_SOURCE ∈ ks) :
    Frame viewReport ks s (s.limiter code src) := (s.fset_frame LEDG_LIMITER_CODE code hc).trans (State.fset_frame _ LEDG_LIMITER_SOURCE _ hs)

/-! ### What holds a sheet (R37, R38) -/

section
variable {s : State} {sh : Sheet}

theorem Sheet.planesOk_iff : sh.planesOk = true ↔ sh.planes ≠ [] ∧ ∀ p ∈ sh.planes, p.ok = true ∧ p.bad = false := by
  simp [Sheet.planesOk]

theorem Sheet.planesOk_eq_false_iff : sh.planesOk = false ↔ sh.planes = [] ∨ sh.planes.any (fun p => !p.ok || p.bad) = true := by
  have hn : (sh.planes.all (fun p => p.ok && !p.bad)) = !sh.planes.any (fun p => !p.ok || p.bad) := by
    simp [List.not_any_eq_all_not]
  simp only [Sheet.planesOk, hn, Bool.and_eq_false_iff, Bool.not_eq_false', List.isEmpty_iff]

/-- With no sheet ADMITTED the room of R483 counts the sheets in flight. -/
theorem State.journalRoom_eq_false_iff (h : ∀ sh ∈ s.led.sheets, sh.st ≠ .admitted) : s.journalRoom = false
    ↔ 192 ≤ s.jrn.staged.length ∨ 256 < s.jrn.staged.length + 5 * ((s.led.sheets.filter (fun g => g.st.inFlight)).length + 1) + 2 := by
  have hf : s.led.sheets.filter (fun g => g.st.isActive) = s.led.sheets.filter (fun g => g.st.inFlight) := by
    refine List.filter_congr (fun g hg => ?_)
    have hst := h g hg
    cases hg : g.st with
    | admitted => exact absurd hg hst
    | _ => rfl
  simp only [State.journalRoom, hf, Bool.and_eq_false_iff, decide_eq_false_iff_not, Nat.not_lt, Nat.not_le]

/-- No condition of R37 fails. -/
theorem State.holdOf_none (hrec : s.bit LEDG_STATUS_RECOVERY_HOLD = false) (hsafe : s.safe = false) (hpl : sh.planesOk = true)
    (hnr : s.notReady sh = none) (hpm : s.fget LEDG_PITCH_MIN_PITCH_MIN ≠ 0) (hb : s.bit SYS_STATUS_BACKUP_OK = true) (hslow : s.slowUnit = none)
    (hroom : s.journalRoom = true) : s.holdOf sh = none := by
  simp [State.holdOf, hrec, hsafe, hpl, hnr, hpm, hb, hslow, hroom]

/-- The code of the first condition of R37 that fails; 0 where none does. -/
def State.holdCode (s : State) (sh : Sheet) : Nat :=
  if s.bit LEDG_STATUS_RECOVERY_HOLD then 16 else if s.safe then 22 else if sh.planesOk = false then 17
    else if s.notReady sh ≠ none ∨ s.fget LEDG_PITCH_MIN_PITCH_MIN = 0 then 18 else if s.slowUnit ≠ none then 20
    else if s.journalRoom = false then 21 else 0

theorem State.holdCode_lt (s : State) (sh : Sheet) : s.holdCode sh < 32 := by
  unfold State.holdCode
  split_ifs <;> decide

/-- A decision reports that code, and with the code of a slow unit its source. -/
theorem State.holdOf_some (hb : s.bit SYS_STATUS_BACKUP_OK = true) (hc : s.holdCode sh ≠ 0) :
    ∃ src, s.holdOf sh = some (s.holdCode sh, src) ∧ (s.holdCode sh = 20 → s.slowUnit = some src) := by
  unfold State.holdCode at hc ⊢
  unfold State.holdOf
  by_cases hrec : s.bit LEDG_STATUS_RECOVERY_HOLD = true
  · simp [hrec]
  by_cases hsafe : s.safe = true
  · simp [hrec, hsafe]
  by_cases hpl : sh.planesOk = false
  · simp [hrec, hsafe, hpl]
  cases hnr : s.notReady sh with
  | some src => simp [hrec, hsafe, hpl]
  | none =>
    by_cases hpm : s.fget LEDG_PITCH_MIN_PITCH_MIN = 0
    · simp [hrec, hsafe, hpl, hpm]
    cases hslow : s.slowUnit with
    | some src => simp [hrec, hsafe, hpl, hpm, hb]
    | none =>
      have hroom : s.journalRoom = false := by
        by_contra hroom
        simp [hrec, hsafe, hpl, hnr, hpm, hslow, hroom] at hc
      simp [hrec, hsafe, hpl, hpm, hb, hroom]

end

/-! ### The pitch of sheet-paced units (R39, R43) -/

/-- The pitch that a sheet-paced unit allows, from its entry of source, rate and reported rate. -/
def State.unitPitch (s : State) (sh : Sheet) (e : Nat × Nat × Nat) : Int := (near (s.pMech sh * 786432 * 105 * e.2.2) (12700 * e.2.1) : Nat)

theorem State.unitPitch_nonneg (s : State) (sh : Sheet) (e : Nat × Nat × Nat) : 0 ≤ s.unitPitch sh e := Int.natCast_nonneg _

theorem State.unitPitch_eq (s : State) (sh : Sheet) (e : Nat × Nat × Nat) :
    s.unitPitch sh e = ((2 * (s.pMech sh * 786432 * 105 * e.2.2) + 12700 * e.2.1) / (25400 * e.2.1) : Nat) := by
  unfold State.unitPitch near
  rw [show 2 * (12700 * e.2.1) = 25400 * e.2.1 by omega]

/-- A unit is slow where its rate is below 1.05 of what is asked for. -/
def slowRate (e : Nat × Nat × Nat) : Prop := 0 < e.2.1 ∧ 100 * e.2.1 < 105 * e.2.2

theorem not_slowRate {e : Nat × Nat × Nat} (h : e.2.1 = 0 ∨ 105 * e.2.2 ≤ 100 * e.2.1) : ¬ slowRate e := by
  rintro ⟨hpos, hlt⟩
  omega

/-- The slowest unit so far, with the next one. -/
def State.slower (s : State) (sh : Sheet) (m : Option (Int × Nat)) (e : Nat × Nat × Nat) : Option (Int × Nat) :=
  if 0 < e.2.1 ∧ 100 * e.2.1 < 105 * e.2.2 then
    match m with
    | some b => if b.1 < s.unitPitch sh e then some (s.unitPitch sh e, e.1) else some b
    | none => some (s.unitPitch sh e, e.1)
  else m

theorem State.unitTerm_eq (s : State) (sh : Sheet) : s.unitTerm sh = s.led.rates.foldl (s.slower sh) none := rfl

/-- The pitch of a unit; 0 for none. -/
def termPitch (m : Option (Int × Nat)) : Int := (m.map (fun e => e.1)).getD 0

section
variable {s : State} {sh : Sheet}

theorem State.slower_fast {e : Nat × Nat × Nat} (h : ¬ slowRate e) (m : Option (Int × Nat)) : s.slower sh m e = m := if_neg h

theorem State.slower_slow {e : Nat × Nat × Nat} (h : slowRate e) (m : Option (Int × Nat)) :
    termPitch (s.slower sh m e) = max (termPitch m) (s.unitPitch sh e) := by
  unfold State.slower
  rw [if_pos (show 0 < e.2.1 ∧ 100 * e.2.1 < 105 * e.2.2 from h)]
  cases m with
  | none => exact (max_eq_right (s.unitPitch_nonneg sh e)).symm
  | some b =>
    by_cases hb : b.1 < s.unitPitch sh e
    · simp only [if_pos hb]
      exact (max_eq_right hb.le).symm
    · simp only [if_neg hb]
      exact (max_eq_left (not_lt.mp hb)).symm

/-- The term of all units bounds what each slow one allows, and is one of these where it has grown. -/
theorem State.foldl_slower (l : List (Nat × Nat × Nat)) (m : Option (Int × Nat)) :
    termPitch m ≤ termPitch (l.foldl (s.slower sh) m)
      ∧ (∀ e ∈ l, slowRate e → s.unitPitch sh e ≤ termPitch (l.foldl (s.slower sh) m))
      ∧ (termPitch (l.foldl (s.slower sh) m) = termPitch m ∨ ∃ e ∈ l, slowRate e ∧ termPitch (l.foldl (s.slower sh) m) = s.unitPitch sh e) := by
  induction l generalizing m with
  | nil => exact ⟨le_rfl, fun e he => absurd he List.not_mem_nil, .inl rfl⟩
  | cons a l ih =>
    obtain ⟨hge, hall, hfrom⟩ := ih (s.slower sh m a)
    rw [List.foldl_cons]
    by_cases ha : slowRate a
    · rw [State.slower_slow ha] at hge hfrom
      refine ⟨(le_max_left _ _).trans hge, List.forall_mem_cons.mpr ⟨fun _ => (le_max_right _ _).trans hge, hall⟩, ?_⟩
      rcases hfrom with hm | ⟨e, he, hse, hx⟩
      · rcases max_choice (termPitch m) (s.unitPitch sh a) with hmax | hmax
        · exact .inl (hm.trans hmax)
        · exact .inr ⟨a, List.mem_cons_self, ha, hm.trans hmax⟩
      · exact .inr ⟨e, List.mem_cons_of_mem _ he, hse, hx⟩
    · rw [State.slower_fast ha] at hge hall hfrom ⊢
      refine ⟨hge, List.forall_mem_cons.mpr ⟨fun h => absurd h ha, hall⟩, hfrom.imp_right ?_⟩
      exact fun ⟨e, he, hse, hx⟩ => ⟨e, List.mem_cons_of_mem _ he, hse, hx⟩

/-- With no slow unit the term is 0. -/
theorem State.unitTerm_fast (h : ∀ e ∈ s.led.rates, ¬ slowRate e) : termPitch (s.unitTerm sh) = 0 := by
  rw [s.unitTerm_eq]
  rcases (State.foldl_slower (s := s) (sh := sh) s.led.rates none).2.2 with h0 | ⟨e, he, hse, -⟩
  · exact h0
  · exact absurd hse (h e he)

/-- What a slow unit allows and no slow unit exceeds is the term. -/
theorem State.unitTerm_slow {e : Nat × Nat × Nat} (he : e ∈ s.led.rates) (hse : slowRate e)
    (hall : ∀ f ∈ s.led.rates, slowRate f → s.unitPitch sh f ≤ s.unitPitch sh e) : termPitch (s.unitTerm sh) = s.unitPitch sh e := by
  rw [s.unitTerm_eq]
  obtain ⟨-, hge, hfrom⟩ := State.foldl_slower (s := s) (sh := sh) s.led.rates none
  refine le_antisymm ?_ (hge e he hse)
  rcases hfrom with h0 | ⟨f, hf, hsf, hx⟩
  · exact h0.trans_le (s.unitPitch_nonneg sh e)
  · exact hx.trans_le (hall f hf hsf)

end

/-! ### The commit position (R39, R40) -/

theorem State.commitOf_first {s : State} (h : s.led.fixed = []) (sh : Sheet) : (s.commitOf sh).1 = s.aheadUp := by
  unfold State.commitOf; rw [h]

theorem State.commitOf_next {s : State} {q : Nat} {c : Int} {rest : List (Nat × Int)} (h : s.led.fixed = (q, c) :: rest) (sh : Sheet) :
    (s.commitOf sh).1 = c + max (s.pMechU sh) (max (s.aheadNear - c) (max (s.pThermU sh) (termPitch (s.unitTerm sh)))) := by
  unfold State.commitOf; rw [h]; rfl

/-! ### An admitted sheet (R36) -/

/-- The fields that an admission writes before the record, and then those of the record and of the decision. -/
def admitFields : List Fld :=
  [LEDG_EFF_PITCH_EFF_PITCH, LEDG_LIMITER_LAST_PITCH, LEDG_COMMIT_POS_LO_COMMIT_POS, LEDG_COMMIT_POS_HI_COMMIT_POS] ++ limiterFields ++ enterFields

/-- A sheet whose commit position is fixed, with the pitch and its code. -/
def Sheet.positionedAt (c : Int × Int × Nat) (awaiting : Bool) (x : Sheet) : Sheet :=
  { x with commitPos := c.1, effPitch := pitchUm c.2.1, pitchCode := some c.2.2, awaiting := awaiting }

theorem Sheet.positionedAt_seq (c : Int × Int × Nat) (awaiting : Bool) (x : Sheet) : (x.positionedAt c awaiting).seq = x.seq := rfl

/-- The state once the commit position of a sheet is fixed, before the fields that show it. -/
def State.fixedPos (s : State) (sh : Sheet) : State :=
  let s1 := s.modSheet sh.seq (Sheet.positionedAt (s.commitOf sh) s.degraded)
  { s1 with led := { s1.led with fixed := (sh.seq, (s.commitOf sh).1) :: s1.led.fixed, unitSrc := ((s.unitTerm sh).map (fun e : Int × Nat => e.2)).getD 0 } }

/-- The fields that show a commit position, and the pitch with its code. -/
def commitFields (c : Int × Int × Nat) : List (Fld × Nat) :=
  [(LEDG_EFF_PITCH_EFF_PITCH, pitchUm c.2.1), (LEDG_LIMITER_LAST_PITCH, c.2.2), (LEDG_COMMIT_POS_LO_COMMIT_POS, uint 64 c.1),
    (LEDG_COMMIT_POS_HI_COMMIT_POS, uint 64 c.1 / 2 ^ 32)]

/-- The state once these fields show it. -/
def State.positioned (s : State) (sh : Sheet) : State := (s.fixedPos sh).fsets (commitFields (s.commitOf sh))

/-- Admitting a sheet fixes its position and enters ADMITTED. -/
theorem State.admitSheet_eq {s : State} (hd : s.degraded = false) (sh : Sheet) :
    s.admitSheet sh = ((s.positioned sh).enter sh.seq .admitted).idleUpdate := by
  unfold State.admitSheet
  exact if_neg (by rw [hd]; decide)

theorem State.fsets_frame {l : List (Fld × Nat)} {ks : List Fld} (hk : l.map Prod.fst ⊆ ks) (hr : ∀ f ∈ l.map Prod.fst, ∀ g ∈ ringFields, g.key ≠ f.key)
    (s : State) : Frame viewReport ks s (s.fsets l) := by
  induction l generalizing s with
  | nil => exact .refl _ _ s
  | cons e l ih =>
    rw [List.map_cons, List.cons_subset] at hk
    rw [List.map_cons, List.forall_mem_cons] at hr
    exact (s.fset_frame e.1 e.2 hk.1 hr.1).trans (ih hk.2 hr.2 (s.fset e.1 e.2))

theorem State.positioned_report (s : State) (sh : Sheet) : Frame viewReport admitFields (s.fixedPos sh) (s.positioned sh) := by
  refine State.fsets_frame ?_ ?_ _
  · show [LEDG_EFF_PITCH_EFF_PITCH, LEDG_LIMITER_LAST_PITCH, LEDG_COMMIT_POS_LO_COMMIT_POS, LEDG_COMMIT_POS_HI_COMMIT_POS] ⊆ admitFields
    decide
  · show ∀ f ∈ [LEDG_EFF_PITCH_EFF_PITCH, LEDG_LIMITER_LAST_PITCH, LEDG_COMMIT_POS_LO_COMMIT_POS, LEDG_COMMIT_POS_HI_COMMIT_POS], _
    decide

theorem State.fixedPos_frame (s : State) (sh : Sheet) (ks : List Fld) : Frame viewLedger ks s (s.fixedPos sh) := .of_fields rfl rfl rfl

theorem State.positioned_frame (s : State) (sh : Sheet) : Frame viewLedger admitFields s (s.positioned sh) :=
  (s.fixedPos_frame sh _).trans (s.positioned_report sh).ledger

theorem State.positioned_led (s : State) (sh : Sheet) : (s.positioned sh).led = (s.fixedPos sh).led := (s.positioned_report sh).led

theorem State.positioned_jrn (s : State) (sh : Sheet) : (s.positioned sh).jrn = s.jrn := (s.positioned_report sh).jrn

theorem State.positioned_length (s : State) (sh : Sheet) : (s.positioned sh).led.sheets.length = s.led.sheets.length := by
  rw [s.positioned_led]
  exact s.modSheet_length sh.seq _

section
variable {s : State} {sh : Sheet}

theorem State.sheet?_positioned (h : s.sheet? sh.seq = some sh) : (s.positioned sh).sheet? sh.seq = some (sh.positionedAt (s.commitOf sh) s.degraded) := by
  rw [State.sheet?_of_sheets (congrArg Ledger.sheets (s.positioned_led sh))]
  exact State.sheet?_modSheet_same h (Sheet.positionedAt_seq _ _)

/-- What an admission of the only live sheet leaves: it is ADMITTED at its commit position, its record staged. -/
theorem State.admitSheet_only (hs : s.led.sheets = [sh]) (hd : s.degraded = false) :
    (∃ y, (s.admitSheet sh).led.sheets = [y] ∧ (s.admitSheet sh).sheet? sh.seq = some y ∧ y.st = .admitted ∧ y.planes = sh.planes
        ∧ y.commitPos = (s.commitOf sh).1)
      ∧ Staged s (s.admitSheet sh) 0x01 sh.seq ∧ Frame viewLedger admitFields s (s.admitSheet sh) := by
  have h? : s.sheet? sh.seq = some sh := by simp [State.sheet?, hs]
  have hp := State.sheet?_positioned h?
  have hy := State.sheet?_enter_same hp .admitted
  have hlen : ((s.positioned sh).enter sh.seq .admitted).led.sheets.length = 1 :=
    (State.enter_length hp .admitted).trans ((s.positioned_length sh).trans (by rw [hs]; rfl))
  obtain ⟨y, hl⟩ := List.length_eq_one_iff.mp hlen
  obtain rfl : _ = y := List.mem_singleton.mp (hl ▸ State.sheet?_mem hy)
  rw [State.admitSheet_eq hd]
  refine ⟨⟨_, (State.idleUpdate_sheets _).trans hl, (State.sheet?_idleUpdate _ _).trans hy, rfl, rfl, rfl⟩, ?_, ?_⟩
  · have hst : Staged (s.positioned sh) ((s.positioned sh).enter sh.seq .admitted).idleUpdate 0x01 sh.seq :=
      State.enter_staged hp .admitted (by rw [State.idleUpdate_jrn])
    exact staged_of_jrn (s.positioned_jrn sh) hst
  · exact ((s.positioned_frame sh).trans ((State.enter_ledger hp .admitted).mono (List.subset_append_right _ _))).trans
      (State.idleUpdate_ledger _ _)

end

/-- Settles O29: a decision admits the sheet at the greatest of its pitches, or reports the first condition that holds it. -/
theorem admission : Obligations.Admission := by
  constructor
  · intro s sh hph hsh hs hst haw hd hb hr hrec hsafe hpl hplall hnr hpm hslow hroom M ahead pm pt pu hM hahead hpmu hptu hpu
    have hall : ∀ g ∈ s.led.sheets, g.st ≠ .admitted ∧ g.awaiting = false := by
      rw [hs]; simp [hst, haw]
    have hwait : s.waiting = some sh := by simp [State.waiting, hs, hst, haw]
    have hroom' : s.journalRoom = true := by
      refine Bool.eq_true_of_not_eq_false (fun hf => ?_)
      have hfl : s.led.sheets.filter (fun g => g.st.inFlight) = [] := by simp [hs, hst, SheetState.inFlight]
      rw [State.journalRoom_eq_false_iff (fun g hg => (hall g hg).1), hfl, List.length_nil] at hf
      omega
    have hhold := State.holdOf_none hrec hsafe (Sheet.planesOk_iff.mpr ⟨hpl, hplall⟩) hnr hpm hb hslow hroom'
    obtain ⟨⟨y, hys, hy, hyst, hypl, hyc⟩, hstaged, hframe⟩ := State.admitSheet_only hs hd
    have hnone : (s.admitSheet sh).waiting = none := by simp [State.waiting, hys, hyst]
    have hexec : s.admission = (s.admitSheet sh).limiter 31 0 := by
      rw [State.admission_eq hph hsh hall hd hb hr, hs, State.decide_admits hwait hhold hd]
      exact State.decide_none hnone 0
    obtain rfl : M = s.pMech sh := hM
    have hterm : termPitch (s.unitTerm sh) = pu := by
      simp only [← State.unitPitch_eq] at hpu
      rcases hpu with ⟨h0, hfast⟩ | ⟨⟨e, he, h1, h2, hpe⟩, hmax⟩
      · exact (State.unitTerm_fast (fun e he => not_slowRate (hfast e he))).trans h0.symm
      · rw [hpe] at hmax ⊢
        exact State.unitTerm_slow he ⟨h1, h2⟩ (fun f hf hsf => hmax f hf hsf.1 hsf.2)
    refine ⟨_, rfl, ?_⟩
    rw [hexec]
    refine ⟨⟨y, hy, hyst, hypl, fun hf => ?_, fun q c rest hf => ?_⟩, ?_, ?_, State.limiter_code _ (by decide) _, ?_⟩
    · rw [hyc, State.commitOf_first hf, hahead]; rfl
    · rw [hyc, State.commitOf_next hf, hterm]
      have hn : s.aheadNear = (2 * ahead + 520192) / 1040384 - s.ofsOf 0 := by rw [hahead]; rfl
      have hm : s.pMechU sh = pm := by rw [hpmu]; rfl
      have ht : s.pThermU sh = pt := by rw [hptu]; rfl
      rw [hn, hm, ht]
    · exact congrArg List.length hys
    · exact hstaged
    · exact (hframe.trans (State.limiter_frame _ _ _ (by decide) (by decide)).ledger).onlyLedger
  · intro s hph hsh hall hd hb hr other hother
    have hdec := State.admission_eq hph hsh hall hd hb hr
    have hwait := State.waiting_eq (s := s) (fun g hg => (hall g hg).2)
    refine ⟨fun hno => ⟨_, rfl, ?_⟩, fun sh hf c hc hc0 => ⟨_, rfl, ?_⟩⟩
    · have hnone : s.waiting = none := by
        rw [hwait]
        exact List.find?_eq_none.mpr (fun g hg => by simpa using hno g hg)
      rw [hdec, State.decide_none hnone]
      exact ⟨State.limiter_code _ (by decide) _, (State.limiter_source s 31 0).trans hother.symm, State.limiter_onlyFields _ _ _⟩
    · have hcode : s.holdCode sh = c := by
        rw [hc]
        unfold State.holdCode
        simp only [Sheet.planesOk_eq_false_iff, State.journalRoom_eq_false_iff (fun g hg => (hall g hg).1)]
      subst hcode
      obtain ⟨src, hhold, hsrc⟩ := State.holdOf_some hb hc0
      rw [hdec, State.decide_held (hwait.trans hf) hhold]
      refine ⟨State.limiter_code _ (s.holdCode_lt sh) _, State.limiter_onlyFields _ _ _, fun h18 h20 => ?_, fun x h20 hx => ?_⟩
      · rw [State.limiter_source, if_neg (not_or.mpr ⟨h18, h20⟩)]
        exact hother.symm
      · rw [State.limiter_source, if_pos (.inr h20)]
        rw [hsrc h20] at hx
        cases hx
        rfl

end Sys2Proof.Machine
end

section
/-! The journal's flusher, the erase of a released block, compactions and the end of degraded mode (R44, R45, R46, R48, R49, R55). -/

namespace Sys2Proof.Machine

/-! ### A programmed slot (R44, R45, R48) -/

/-- What follows a programmed record leaves alone: the slots, the staging area, the writer, the transfers, the plane pool and the power state. -/
def viewRing (s : State) : (List (Nat × JRec) × List JRec × Nat) × List (Nat × DmaCh) × List Nat × Phase :=
  ((s.jrn.ring, s.jrn.staged, s.jrn.writer), s.dma, s.mem.used, s.power.phase)

/-- The fields that a programmed record may set: those of a report (R45), of a CMD_DONE (R134) and of a compaction (R49). -/
def programFields : List Fld := reportFields ++ doneFields ++ [LEDG_STATUS_COMPACTING]

theorem Frame.viewRing {ks : List Fld} {s u : State} (h : Frame viewReport ks s u) : Frame viewRing ks s u :=
  h.coarsen Machine.viewRing (fun _ => rfl)

theorem State.report_ring (s : State) (r : JRec) : Frame viewRing reportFields s (s.report r) := by
  cases h : s.sheet? r.seq with
  | none =>
    have hn : s.report r = s := by unfold State.report; rw [h]
    rw [hn]
    exact .refl _ _ s
  | some sh =>
    refine Frame.trans ?_ (State.report_frame h).viewRing
    exact .of_fields rfl rfl rfl

theorem State.idleUpdate_ring (s : State) (ks : List Fld) : Frame viewRing ks s s.idleUpdate := by
  rw [s.idleUpdate_led]; exact .of_fields rfl rfl rfl

theorem State.admitProgrammed_ring (s : State) (r : JRec) : Frame viewRing reportFields s (s.admitProgrammed r) := by
  unfold State.admitProgrammed
  split
  · split
    · refine Frame.trans ?_ ((State.report_ring _ r).trans (State.idleUpdate_ring _ _))
      exact .of_fields rfl rfl rfl
    · split
      · exact s.report_ring r
      · exact .refl _ _ s
  · exact .refl _ _ s

theorem State.payDue_frame (s : State) : Frame viewReport doneFields s s.payDue := by
  unfold State.payDue
  split
  · split
    · refine Frame.trans ?_ (State.cmdFinish_frame _ _)
      exact .of_fields rfl rfl rfl
    · exact .refl _ _ s
  · exact .refl _ _ s

theorem State.payOwed_frame (s : State) (jseq : Nat) : Frame viewReport doneFields s (s.payOwed jseq) := by
  unfold State.payOwed
  split
  · split
    · refine Frame.trans ?_ (State.payDue_frame _)
      exact .of_fields rfl rfl rfl
    · exact .refl _ _ s
  · exact .refl _ _ s

theorem State.payAck_ring (s : State) (jseq : Nat) (ks : List Fld) : Frame viewRing ks s (s.payAck jseq) := by
  unfold State.payAck
  refine Frame.trans ?_ (Frame.foldl (fun _ _ => ?_) _ _)
  · exact .of_fields rfl rfl rfl
  · exact .of_fields rfl rfl rfl

theorem State.ckptComplete_ring (s : State) (j : Nat) : Frame viewRing [LEDG_STATUS_COMPACTING] s (s.ckptComplete j) := by
  unfold State.ckptComplete
  split
  · refine Frame.trans ?_ (State.fset_frame _ LEDG_STATUS_COMPACTING 0).viewRing
    exact .of_fields rfl rfl rfl
  · exact (s.fset_frame LEDG_STATUS_COMPACTING 0).viewRing

/-- The state once the head of the staging area stands in its slot. -/
def State.slotted (s : State) (r : JRec) : State :=
  { s with jrn := { s.jrn with ring := kvSet s.jrn.ring s.jrn.writer { r with good := true, tell := false }
                               staged := s.jrn.staged.tail
                               fails := if (s.jrn.writer + 1) % 1024 = 0 then 0 else s.jrn.fails
                               writer := s.jrn.advance } }

theorem State.programGood_ring (s : State) (r : JRec) : Frame viewRing programFields (s.slotted r) (s.programGood r) := by
  have hg : s.programGood r = if r.typ = 0x01 then ((s.slotted r).admitProgrammed r).payOwed r.jseq
      else if r.typ = 0x07 then (s.slotted r).payAck r.jseq else if r.typ = 0x12 then (s.slotted r).ckptComplete r.aux else s.slotted r := rfl
  rw [hg]
  split_ifs
  · exact ((State.admitProgrammed_ring _ r).mono (by decide)).trans ((State.payOwed_frame _ _).viewRing.mono (by decide))
  · exact State.payAck_ring _ _ _
  · exact (State.ckptComplete_ring _ _).mono (by decide)
  · exact .refl _ _ _

/-- The state once the head of the staging area has failed its verify, short of the third time in a row. -/
def State.unslotted (s : State) (r : JRec) : State :=
  { s with jrn := { s.jrn with ring := kvSet s.jrn.ring s.jrn.writer { r with good := false }
                               fails := if (s.jrn.writer + 1) % 1024 = 0 then 0 else s.jrn.fails + 1
                               writer := s.jrn.advance } }

theorem State.programFailed_eq {s : State} (h : s.jrn.fails < 2) (r : JRec) : s.programFailed r = s.unslotted r := if_pos (Nat.succ_lt_succ h)

/-- A page of one slot programs the head of the staging area. -/
theorem State.programSlots_single {s : State} {r : JRec} {rest : List JRec} (hs : s.jrn.staged = r :: rest)
    (he : s.jrn.writer / 1024 ∉ s.jrn.erasing) (ok : Bool) : s.programSlots [ok] = if ok then s.programGood r else s.programFailed r := by
  have hc : ¬ s.jrn.erasing.contains (blockOf s.jrn.writer) = true := by
    rw [List.contains_iff_mem]; exact he
  unfold State.programSlots
  rw [hs]
  exact if_neg hc

theorem Journal.advance_inside {j : Journal} (h : (j.writer + 1) % 1024 ≠ 0) : j.advance = j.writer + 1 := if_neg h

section
variable {s : State} {r : JRec} {rest : List JRec} (hp : s.power.phase = .run) (hs : s.jrn.staged = r :: rest)
  (he : s.jrn.writer / 1024 ∉ s.jrn.erasing)
include hp hs he

/-- A slot that verifies. -/
theorem pageProgrammed_good : Runs (exec (.journalPageProgrammed [true]) s) (fun u =>
    kvGet u.jrn.ring s.jrn.writer = some { r with good := true, tell := false } ∧ (∃ more, u.jrn.staged = rest ++ more)
      ∧ (∀ k, k ≠ s.jrn.writer → kvGet u.jrn.ring k = kvGet s.jrn.ring k) ∧ ((s.jrn.writer + 1) % 1024 ≠ 0 → u.jrn.writer = s.jrn.writer + 1)
      ∧ onlyRingBar s u ∧ u.dma = s.dma) := by
  have hf := s.programGood_ring r
  have hring : (s.programGood r).jrn.ring = kvSet s.jrn.ring s.jrn.writer { r with good := true, tell := false } :=
    congrArg (fun v => v.1.1) hf.view
  have hstaged : (s.programGood r).jrn.staged = rest := by
    have h : (s.programGood r).jrn.staged = s.jrn.staged.tail := congrArg (fun v => v.1.2.1) hf.view
    rw [h, hs, List.tail_cons]
  have hwriter : (s.programGood r).jrn.writer = s.jrn.advance := congrArg (fun v => v.1.2.2) hf.view
  have hdma : (s.programGood r).dma = s.dma := congrArg (fun v => v.2.1) hf.view
  have hused : (s.programGood r).mem.used = s.mem.used := congrArg (fun v => v.2.2.1) hf.view
  have hrun : (s.programGood r).power.phase = .run := (congrArg (fun v => v.2.2.2) hf.view).trans hp
  have hpump := State.journalPump_pumped _ hrun
  have hexec : exec (.journalPageProgrammed [true]) s = .next (s.programGood r).journalPump :=
    congrArg (fun t : State => Host.Outcome.next t.journalPump) (State.programSlots_single hs he true)
  refine ⟨_, hexec, ?_, ?_, fun k hk => ?_, fun hw => ?_, onlyRingBar_of_mem hpump.mem (hf.ringBar hused), hpump.dma.trans hdma⟩
  · rw [hpump.ring, hring, kvGet_kvSet_same]
  · obtain ⟨more, hm⟩ := hpump.staged
    exact ⟨more, by rw [← hm, hstaged]⟩
  · rw [hpump.ring, hring, kvGet_kvSet_ne _ _ _ _ hk]
  · rw [hpump.writer, hwriter, Journal.advance_inside hw]

/-- A slot that fails, short of the third time in a row. -/
theorem pageProgrammed_bad (hfail : s.jrn.fails < 2) : Runs (exec (.journalPageProgrammed [false]) s) (fun u =>
    kvGet u.jrn.ring s.jrn.writer = some { r with good := false } ∧ (∃ more, u.jrn.staged = r :: rest ++ more)
      ∧ (∀ k, k ≠ s.jrn.writer → kvGet u.jrn.ring k = kvGet s.jrn.ring k)
      ∧ u.jrn.fails = (if (s.jrn.writer + 1) % 1024 = 0 then 0 else s.jrn.fails + 1) ∧ u.mem = s.mem ∧ u.dma = s.dma ∧ u.ex = s.ex) := by
  have hpump : Pumped pumpFields (s.unslotted r) (s.unslotted r).journalPump := State.journalPump_pumped _ hp
  have hexec : exec (.journalPageProgrammed [false]) s = .next (s.unslotted r).journalPump :=
    congrArg (fun t : State => Host.Outcome.next t.journalPump) ((State.programSlots_single hs he false).trans (State.programFailed_eq hfail r))
  refine ⟨_, hexec, ?_, ?_, fun k hk => ?_, hpump.fails, hpump.mem, hpump.dma, hpump.ex⟩
  · rw [hpump.ring]
    exact kvGet_kvSet_same _ _ _
  · obtain ⟨more, hm⟩ := hpump.staged
    exact ⟨more, hm.symm.trans (congrArg (· ++ more) hs)⟩
  · rw [hpump.ring]
    exact kvGet_kvSet_ne _ _ _ _ hk

end

/-! ### An erased block (R48) -/

theorem kvGet_filter_key {α : Type} (p : Nat → Bool) (l : List (Nat × α)) (k : Nat) :
    kvGet (l.filter (fun e => p e.1)) k = if p k then kvGet l k else none := by
  induction l with
  | nil => simp
  | cons e l ih =>
    by_cases hk : e.1 = k
    · subst hk
      cases hp : p e.1 with
      | true => simp [hp, kvGet]
      | false =>
        rw [hp] at ih
        simp [hp, ih]
    · cases hp : p e.1 with
      | true => simp [hp, hk, kvGet, ih]
      | false => simp [hp, hk, kvGet, ih]

theorem blockErased_exec {s : State} {b : Nat} {more : List Nat} (h : s.jrn.erasing = b :: more) : exec .journalBlockErased s
    = .next { s with jrn := { s.jrn with erasing := more, ring := s.jrn.ring.filter (fun e => blockOf e.1 != b) } } := by
  show execJournalBlockErased s = _
  unfold execJournalBlockErased
  rw [h]

/-! ### Compactions (R49) -/

theorem staged_of_append {s u : State} {r : JRec} (hj : r.jseq = s.jrn.jseq) (hp : s.jrn.staged ++ [r] <+: u.jrn.staged) : Staged s u r.typ r.seq := by
  obtain ⟨rest, hr⟩ := hp
  exact ⟨r, rest, by rw [← hr, List.append_assoc]; rfl, rfl, rfl, hj⟩

/-- A compaction runs: nothing starts another. -/
theorem State.compactStart_ignored {s : State} (h : s.bit LEDG_STATUS_COMPACTING = true) : s.compactStart = s := if_pos (.inr h)

/-- The state in which a compaction starts. -/
def State.compacting (s : State) : State := { s with jrn := { s.jrn with compact := some (0, [.start]) } }.fset LEDG_STATUS_COMPACTING 1

section
variable {s : State} (hs : s.jrn.staged = []) (hc : s.jrn.compact = none) (hb : s.bit LEDG_STATUS_COMPACTING = false)
include hs hc hb

theorem State.compactStart_eq : s.compactStart = (s.compacting.compactOne 0 .start []).compactPump 192 := by
  have hn : ¬ (s.jrn.compact.isSome = true ∨ s.bit LEDG_STATUS_COMPACTING = true) := by simp [hc, hb]
  have hl : s.compacting.jrn.staged.length < 192 := by
    show s.jrn.staged.length < 192
    rw [hs]; decide
  unfold State.compactStart
  rw [if_neg hn]
  exact if_pos hl

/-- A compaction sets COMPACTING and stages CKPT_BEGIN first. -/
theorem State.compactStart_starts : s.compactStart.bit LEDG_STATUS_COMPACTING = true ∧ Staged s s.compactStart 0x10 s.led.ack := by
  have hp := State.compactPump_pumped (s.compacting.compactOne 0 .start []) 192 []
  rw [State.compactStart_eq hs hc hb]
  refine ⟨?_, ?_⟩
  · rw [hp.fields.bit List.not_mem_nil]
    show (s.compacting.fget LEDG_STATUS_COMPACTING != 0) = true
    rw [State.compacting, State.fget_fset]
    rfl
  · exact staged_of_append (s := s) (r := { s.compacting.plainRec 0x10 s.led.ack (s.compacting.ckptItems.length - 1) with jseq := s.jrn.jseq }) rfl hp.staged

end

theorem Staging.only {ks : List Fld} {s u : State} (h : Staging ks s u) : sansFields u = { sansFields s with jrn := u.jrn, led := u.led } :=
  congrArg (fun x : State => { x with jrn := u.jrn, led := u.led }) h.view

/-- IDLE_COMPACT once its time has come. -/
theorem idleCompact_exec {s : State} {t : Nat} (hi : s.led.idleSince = some t) (hd : s.led.idleDone = false)
    (hz : s.fget LEDG_IDLE_COMPACT_IDLE_COMPACT ≠ 0) (ht : t + 250000 * s.fget LEDG_IDLE_COMPACT_IDLE_COMPACT ≤ s.tick) :
    exec .idleCompact s = .next { s with led := { s.led with idleDone := true } }.compactStart := by
  show execIdleCompact s = _
  unfold execIdleCompact
  rw [hi]
  exact congrArg Host.Outcome.next (if_pos ⟨hd, hz, by unfold msTicks; omega⟩)

/-! ### The end of degraded mode (R55) -/

/-- The state once degraded mode has ended. -/
def State.whole (s : State) : State := { s with led := { s.led with clearSince := none } }.fset LEDG_STATUS_GUARANTEE_DEGRADED 0

theorem degradedExit_exec {s : State} {t : Nat} (h : s.led.clearSince = some t) : exec .degradedExit s
    = .next (if s.degraded = true ∧ s.degradedCause = false ∧ t + msTicks 1000 ≤ s.tick ∧ s.jrn.staged = [] then
        s.whole.stage (s.whole.plainRec 0x06 0 0) else s) := by
  show execDegradedExit s = _
  unfold execDegradedExit
  rw [h]
  rfl

/-- Settles O32: a page, an erase, a compaction and the end of degraded mode, each by the state that it leaves and the pump of the journal. -/
theorem journalAndCompaction : Obligations.JournalAndCompaction := by
  refine ⟨fun s r rest hp hs he => ⟨pageProgrammed_good hp hs he, pageProgrammed_bad hp hs he, fun b more hb => ?_⟩,
    fun s hs => ⟨fun hc hb => ?_, fun hb => ?_, fun t hi hd hz ht hc hb => ?_, fun t hcl hdeg hcause => ⟨fun ht => ?_, fun ht => ?_⟩⟩⟩
  · refine ⟨_, blockErased_exec hb, rfl, fun k hk => ?_, fun k hk => ?_, rfl⟩
    · exact (kvGet_filter_key (fun a => blockOf a != b) _ k).trans (if_pos (bne_iff_ne.mpr hk))
    · exact (kvGet_filter_key (fun a => blockOf a != b) _ k).trans (if_neg (fun h => bne_iff_ne.mp h hk))
  · obtain ⟨hbit, hstaged⟩ := State.compactStart_starts hs hc hb
    exact ⟨_, rfl, hbit, hstaged, s.compactStart_pumped.fields, s.compactStart_pumped.only⟩
  · exact ⟨_, rfl, State.compactStart_ignored hb⟩
  · have hpump := State.compactStart_pumped { s with led := { s.led with idleDone := true } }
    obtain ⟨hbit, hstaged⟩ := State.compactStart_starts (s := { s with led := { s.led with idleDone := true } }) hs hc hb
    exact ⟨_, idleCompact_exec hi hd hz ht, hbit, (congrArg (fun x : State => x.led.idleDone) hpump.view :), hstaged, hpump.fields, hpump.only⟩
  · refine ⟨_, (degradedExit_exec hcl).trans (congrArg Host.Outcome.next (if_pos ⟨hdeg, hcause, ht, hs⟩)), ?_, ?_, ?_, rfl⟩
    · show (s.whole.fget LEDG_STATUS_GUARANTEE_DEGRADED != 0) = false
      rw [State.whole, State.fget_fset]
      rfl
    · exact staged_of_append (s := s) (r := { s.whole.plainRec 0x06 0 0 with jseq := s.jrn.jseq }) rfl List.prefix_rfl
    · exact keepsFields_fset { s with led := { s.led with clearSince := none } } 0 (List.mem_singleton_self _)
  · exact ⟨_, (degradedExit_exec hcl).trans (congrArg Host.Outcome.next (if_neg (fun h => Nat.not_le.mpr ht h.2.2.1))), rfl⟩

end Sys2Proof.Machine
end

section
/-! The ALU group, the multiply and divide group, the unary group and the immediates (R61, R68 to R72): what each function of the model computes, written
out as the chapter gives it, and with that the results of the instructions. -/

namespace Sys2Proof.Machine

/-! ### Saturation (R69 to R72) -/

/-- An integer limited to the signed range of 32 bits. -/
theorem sat32_eq (i : Int) :
    sat32 i = (BitVec.ofInt 32 (max (-(2 ^ 31)) (min (2 ^ 31 - 1) i)), decide (i < -(2 ^ 31) ∨ 2 ^ 31 ≤ i)) := by
  unfold sat32
  split
  · have hm : max (-(2 ^ 31)) (min (2 ^ 31 - 1) i) = -(2 ^ 31) := by omega
    rw [hm, decide_eq_true (.inl ‹_›)]; rfl
  · split
    · have hm : max (-(2 ^ 31)) (min (2 ^ 31 - 1) i) = 2 ^ 31 - 1 := by omega
      rw [hm, decide_eq_true (.inr ‹_›)]; rfl
    · have hm : max (-(2 ^ 31)) (min (2 ^ 31 - 1) i) = i := by omega
      rw [hm, decide_eq_false (by omega)]

/-- A limited integer differs from what it was exactly where it lay outside the range. -/
theorem limit32_ne_iff (i : Int) : max (-(2 ^ 31)) (min (2 ^ 31 - 1) i) ≠ i ↔ i < -(2 ^ 31) ∨ 2 ^ 31 ≤ i := by omega

/-! ### Sums and differences (R61, R69) -/

theorem addOut_eq (x y : Word) (c : Bool) :
    addOut x y c = ⟨x + y + (if c then 1 else 0), decide (2 ^ 32 ≤ x.toNat + y.toNat + (if c then 1 else 0)),
      decide (x.toInt + y.toInt + (if c then 1 else 0) < -(2 ^ 31) ∨ 2 ^ 31 ≤ x.toInt + y.toInt + (if c then 1 else 0))⟩ := by
  cases c <;> simp [addOut, BitVec.ofNat_add]

theorem addOut_noCarry (x y : Word) :
    addOut x y false = ⟨x + y, decide (2 ^ 32 ≤ x.toNat + y.toNat), decide (x.toInt + y.toInt < -(2 ^ 31) ∨ 2 ^ 31 ≤ x.toInt + y.toInt)⟩ := by
  simp [addOut_eq]

theorem subOut_eq (x y : Word) (c : Bool) :
    subOut x y c = ⟨x - y - (if c then 0 else 1), decide (y.toNat + (if c then 0 else 1) ≤ x.toNat),
      decide (x.toInt - y.toInt - (if c then 0 else 1) < -(2 ^ 31) ∨ 2 ^ 31 ≤ x.toInt - y.toInt - (if c then 0 else 1))⟩ := by
  cases c <;> simp [subOut]

theorem subOut_noBorrow (x y : Word) :
    subOut x y true = ⟨x - y, decide (y.toNat ≤ x.toNat), decide (x.toInt - y.toInt < -(2 ^ 31) ∨ 2 ^ 31 ≤ x.toInt - y.toInt)⟩ := by
  simp [subOut_eq]

theorem addsOut_eq (x y : Word) :
    addsOut x y = ⟨BitVec.ofInt 32 (max (-(2 ^ 31)) (min (2 ^ 31 - 1) (x.toInt + y.toInt))), decide (2 ^ 32 ≤ x.toNat + y.toNat),
      decide (x.toInt + y.toInt < -(2 ^ 31) ∨ 2 ^ 31 ≤ x.toInt + y.toInt)⟩ := by
  simp only [addsOut, sat32_eq, addOut_noCarry]

theorem subsOut_eq (x y : Word) :
    subsOut x y = ⟨BitVec.ofInt 32 (max (-(2 ^ 31)) (min (2 ^ 31 - 1) (x.toInt - y.toInt))), decide (y.toNat ≤ x.toNat),
      decide (x.toInt - y.toInt < -(2 ^ 31) ∨ 2 ^ 31 ≤ x.toInt - y.toInt)⟩ := by
  simp only [subsOut, sat32_eq, subOut_noBorrow]

/-! ### Shifts and comparisons (R68, R69) -/

theorem shl_eq_mul (x : Word) (n : Nat) : x <<< n = BitVec.ofNat 32 (x.toNat * 2 ^ n) := by
  apply BitVec.eq_of_toNat_eq
  rw [BitVec.toNat_shiftLeft, BitVec.toNat_ofNat, Nat.shiftLeft_eq]

theorem shr_eq_div (x : Word) (n : Nat) : x >>> n = BitVec.ofNat 32 (x.toNat / 2 ^ n) := by
  apply BitVec.eq_of_toNat_eq
  rw [BitVec.toNat_ushiftRight, BitVec.toNat_ofNat, Nat.shiftRight_eq_div_pow,
    Nat.mod_eq_of_lt (Nat.lt_of_le_of_lt (Nat.div_le_self _ _) x.isLt)]

theorem sar_eq_div (x : Word) (n : Nat) : x.sshiftRight n = BitVec.ofInt 32 (x.toInt / 2 ^ n) := by
  rw [BitVec.sshiftRight_eq, Int.shiftRight_eq_div_pow]; rfl

/-- Which of two words a signed choice takes does not depend on which of two equal ones it is. -/
theorem minS_eq (x y : Word) : (if x.slt y then x else y) = if x.toInt ≤ y.toInt then x else y := by
  by_cases h : x = y
  · simp [h]
  · have hne : x.toInt ≠ y.toInt := fun k => h (BitVec.eq_of_toInt_eq k)
    simp only [BitVec.slt_iff_toInt_lt, le_iff_lt_or_eq, hne, or_false]

theorem maxS_eq (x y : Word) : (if x.slt y then y else x) = if x.toInt ≤ y.toInt then y else x := by
  by_cases h : x = y
  · simp [h]
  · have hne : x.toInt ≠ y.toInt := fun k => h (BitVec.eq_of_toInt_eq k)
    simp only [BitVec.slt_iff_toInt_lt, le_iff_lt_or_eq, hne, or_false]

theorem minU_eq (x y : Word) : (if x.ult y then x else y) = if x.toNat ≤ y.toNat then x else y := by
  by_cases h : x = y
  · simp [h]
  · have hne : x.toNat ≠ y.toNat := fun k => h (BitVec.eq_of_toNat_eq k)
    simp only [BitVec.ult_iff_lt, BitVec.lt_def, le_iff_lt_or_eq, hne, or_false]

theorem maxU_eq (x y : Word) : (if x.ult y then y else x) = if x.toNat ≤ y.toNat then y else x := by
  by_cases h : x = y
  · simp [h]
  · have hne : x.toNat ≠ y.toNat := fun k => h (BitVec.eq_of_toNat_eq k)
    simp only [BitVec.ult_iff_lt, BitVec.lt_def, le_iff_lt_or_eq, hne, or_false]

theorem sltWord_eq (x y : Word) : (if x.slt y then (1 : Word) else 0) = if x.toInt < y.toInt then 1 else 0 := by
  simp only [BitVec.slt_iff_toInt_lt]

theorem sltuWord_eq (x y : Word) : (if x.ult y then (1 : Word) else 0) = if x.toNat < y.toNat then 1 else 0 := by
  simp only [BitVec.ult_iff_lt, BitVec.lt_def]

/-! ### The instructions -/

section
variable {p : Nat} {s : State} {i : Nat} {t : Task}

/-- An instruction of the ALU and multiply groups writes what its function answers. -/
theorem aluOp_wrote (h : onEngine s p i t) {f : Bool} {d : BitVec 5} {cyc : Nat} {k : Arch → AluOut} {r : Word} {c v : Bool} (ho : k t.arch = ⟨r, c, v⟩) :
    Runs (aluOp p f d cyc k s) (fun u => Wrote s u i t d r (flagsOf f t.arch r c v) cyc) := by
  have hr := aluOp_runs h f d cyc k
  rwa [ho] at hr

/-- As above for a function that gives C = V = 0. -/
theorem logicOp_wrote (h : onEngine s p i t) {f : Bool} {d : BitVec 5} {cyc : Nat} {k : Arch → AluOut} {q r : Word} (ho : q = r)
    (hk : k t.arch = logicOut q := by rfl) :
    Runs (aluOp p f d cyc k s) (fun u => Wrote s u i t d r (flagsOf f t.arch r false false) cyc) :=
  aluOp_wrote h (hk.trans (congrArg logicOut ho))

/-- An immediate instruction writes what its function answers. -/
theorem immOp_wrote (h : onEngine s p i t) {d : BitVec 5} {k : Arch → Word} {r : Word} (ho : k t.arch = r) :
    Runs (immOp p d k s) (fun u => Wrote s u i t d r (sameFlags t.arch) 1) :=
  ho ▸ immOp_runs h d k

end

/-- Settles O6: the functions of the ALU group as R69 gives them. -/
theorem integerResults : Obligations.IntegerResults := by
  refine ⟨fun p f d a b s i t h => ?_, fun p f d a b s i t h => ?_⟩
  · exact ⟨show Runs (execAdd p f d a b s) _ from aluOp_wrote h (addOut_noCarry _ _),
      show Runs (execAdc p f d a b s) _ from aluOp_wrote h (addOut_eq _ _ _),
      show Runs (execSub p f d a b s) _ from aluOp_wrote h (subOut_noBorrow _ _),
      show Runs (execSbc p f d a b s) _ from aluOp_wrote h (subOut_eq _ _ _),
      show Runs (execAdds p f d a b s) _ from aluOp_wrote h (addsOut_eq _ _),
      show Runs (execSubs p f d a b s) _ from aluOp_wrote h (subsOut_eq _ _)⟩
  · exact ⟨show Runs (execAndR p f d a b s) _ from logicOp_wrote h rfl,
      show Runs (execOrR p f d a b s) _ from logicOp_wrote h rfl,
      show Runs (execXorR p f d a b s) _ from logicOp_wrote h rfl,
      show Runs (execAndn p f d a b s) _ from logicOp_wrote h rfl,
      show Runs (execShl p f d a b s) _ from logicOp_wrote h (shl_eq_mul _ _),
      show Runs (execShr p f d a b s) _ from logicOp_wrote h (shr_eq_div _ _),
      show Runs (execSar p f d a b s) _ from logicOp_wrote h (sar_eq_div _ _),
      show Runs (execRor p f d a b s) _ from logicOp_wrote h rfl,
      show Runs (execMinS p f d a b s) _ from logicOp_wrote h (minS_eq _ _),
      show Runs (execMaxS p f d a b s) _ from logicOp_wrote h (maxS_eq _ _),
      show Runs (execMinu p f d a b s) _ from logicOp_wrote h (minU_eq _ _),
      show Runs (execMaxu p f d a b s) _ from logicOp_wrote h (maxU_eq _ _),
      show Runs (execSlt p f d a b s) _ from logicOp_wrote h (sltWord_eq _ _),
      show Runs (execSltu p f d a b s) _ from logicOp_wrote h (sltuWord_eq _ _)⟩

/-! ### Products and quotients (R70, R71) -/

theorem mul_eq (x y : Word) : x * y = BitVec.ofNat 32 (x.toNat * y.toNat) := rfl

theorem mulqOut_eq (x y : Word) :
    mulqOut x y = ⟨BitVec.ofInt 32 (max (-(2 ^ 31)) (min (2 ^ 31 - 1) (mulqInt x y))), false,
      decide (max (-(2 ^ 31)) (min (2 ^ 31 - 1) (mulqInt x y)) ≠ mulqInt x y)⟩ := by
  simp only [mulqOut, sat32_eq, limit32_ne_iff]

theorem macqOut_eq (d x y : Word) :
    macqOut d x y = ⟨BitVec.ofInt 32 (max (-(2 ^ 31)) (min (2 ^ 31 - 1) (d.toInt + mulqInt x y))), false,
      decide (max (-(2 ^ 31)) (min (2 ^ 31 - 1) (mulqInt x y)) ≠ mulqInt x y
        ∨ max (-(2 ^ 31)) (min (2 ^ 31 - 1) (d.toInt + mulqInt x y)) ≠ d.toInt + mulqInt x y)⟩ := by
  simp only [macqOut, sat32_eq, limit32_ne_iff, Bool.decide_or]

theorem eq_zero_iff_toNat (y : Word) : y = 0 ↔ y.toNat = 0 := ⟨fun h => h ▸ rfl, fun h => BitVec.eq_of_toNat_eq h⟩

theorem eq_minInt_iff (x : Word) : x = 0x80000000 ↔ x.toInt = -(2 ^ 31) :=
  ⟨fun h => h ▸ rfl, fun h => BitVec.eq_of_toInt_eq (h.trans rfl)⟩

theorem eq_minusOne_iff (y : Word) : y = 0xFFFFFFFF ↔ y.toInt = -1 := ⟨fun h => h ▸ rfl, fun h => BitVec.eq_of_toInt_eq (h.trans rfl)⟩

theorem divOut_zero (x : Word) {y : Word} (hy : y.toNat = 0) :
    divOut x y = ⟨if x.toInt < 0 then 0x80000000 else 0x7FFFFFFF, false, true⟩ := by
  simp only [divOut, (eq_zero_iff_toNat y).2 hy, if_true, BitVec.msb_eq_toInt, decide_eq_true_eq]

theorem divOut_overflow {x y : Word} (hx : x.toInt = -(2 ^ 31)) (hy : y.toInt = -1) : divOut x y = ⟨0x7FFFFFFF, false, true⟩ := by
  rw [(eq_minInt_iff x).2 hx, (eq_minusOne_iff y).2 hy]; rfl

theorem divOut_eq {x y : Word} (hy : y.toNat ≠ 0) (ho : ¬(x.toInt = -(2 ^ 31) ∧ y.toInt = -1)) :
    divOut x y = ⟨BitVec.ofInt 32 (x.toInt.tdiv y.toInt), false, false⟩ := by
  rw [← eq_minInt_iff, ← eq_minusOne_iff] at ho
  simp only [divOut, if_neg (mt (eq_zero_iff_toNat y).1 hy), if_neg ho]

theorem divuOut_zero (x : Word) {y : Word} (hy : y.toNat = 0) : divuOut x y = ⟨0xFFFFFFFF, false, true⟩ := if_pos ((eq_zero_iff_toNat y).2 hy)

theorem divuOut_eq (x : Word) {y : Word} (hy : y.toNat ≠ 0) : divuOut x y = ⟨BitVec.ofNat 32 (x.toNat / y.toNat), false, false⟩ :=
  if_neg (mt (eq_zero_iff_toNat y).1 hy)

theorem remOut_zero (x : Word) {y : Word} (hy : y.toNat = 0) : remOut x y = ⟨x, false, true⟩ := if_pos ((eq_zero_iff_toNat y).2 hy)

theorem remOut_eq (x : Word) {y : Word} (hy : y.toNat ≠ 0) : remOut x y = ⟨BitVec.ofInt 32 (x.toInt.tmod y.toInt), false, false⟩ :=
  if_neg (mt (eq_zero_iff_toNat y).1 hy)

theorem remuOut_zero (x : Word) {y : Word} (hy : y.toNat = 0) : remuOut x y = ⟨x, false, true⟩ := if_pos ((eq_zero_iff_toNat y).2 hy)

theorem remuOut_eq (x : Word) {y : Word} (hy : y.toNat ≠ 0) : remuOut x y = ⟨BitVec.ofNat 32 (x.toNat % y.toNat), false, false⟩ :=
  if_neg (mt (eq_zero_iff_toNat y).1 hy)

/-! ### The unary group (R72) -/

theorem negOut_eq (x : Word) : negOut x = ⟨0 - x, false, decide (x.toInt = -(2 ^ 31))⟩ := by
  rw [zero_sub]; simp only [negOut, ← eq_minInt_iff]

theorem negsOut_eq (x : Word) : negsOut x = ⟨BitVec.ofInt 32 (min (2 ^ 31 - 1) (-x.toInt)), false, decide (x.toInt = -(2 ^ 31))⟩ := by
  have hlo := x.le_toInt
  have hhi := x.toInt_lt
  have hm : max (-(2 ^ 31)) (min (2 ^ 31 - 1) (-x.toInt)) = min (2 ^ 31 - 1) (-x.toInt) := by omega
  have hv : (-x.toInt < -(2 ^ 31) ∨ 2 ^ 31 ≤ -x.toInt) ↔ x.toInt = -(2 ^ 31) := by omega
  simp only [negsOut, sat32_eq, hm, hv]

theorem absOut_eq (x : Word) :
    absOut x = ⟨BitVec.ofInt 32 (min (2 ^ 31 - 1) (x.toInt.natAbs : Int)), false, decide (x.toInt = -(2 ^ 31))⟩ := by
  have hlo := x.le_toInt
  have hhi := x.toInt_lt
  have hm : max (-(2 ^ 31)) (min (2 ^ 31 - 1) (x.toInt.natAbs : Int)) = min (2 ^ 31 - 1) (x.toInt.natAbs : Int) := by omega
  have hv : ((x.toInt.natAbs : Int) < -(2 ^ 31) ∨ 2 ^ 31 ≤ (x.toInt.natAbs : Int)) ↔ x.toInt = -(2 ^ 31) := by omega
  simp only [absOut, sat32_eq, hm, hv]

theorem not_eq_xor (x : Word) : ~~~x = x ^^^ 0xFFFFFFFF := (BitVec.xor_allOnes (x := x)).symm

theorem popcWord_eq (x : Word) : popcWord x = BitVec.ofNat 32 ((List.range 32).countP (fun k => x.getLsbD k)) := by
  rw [popcWord, ← List.countP_eq_length_filter]; rfl

theorem clzNat_le (x k : Nat) : clzNat x k ≤ k := by
  induction k with
  | zero => exact Nat.le_refl 0
  | succ k ih => unfold clzNat; split <;> omega

/-- The leading zeros of `k` bits end at the highest bit that is set. -/
theorem clzNat_bounds (x k : Nat) (h : x < 2 ^ k) : x < 2 ^ (k - clzNat x k) ∧ (clzNat x k < k → 2 ^ (k - 1 - clzNat x k) ≤ x) := by
  induction k with
  | zero => exact ⟨h, fun hk => absurd hk (Nat.not_lt_zero _)⟩
  | succ k ih =>
    unfold clzNat
    split
    · rename_i hb
      exact ⟨h, fun _ => Nat.ge_two_pow_of_testBit hb⟩
    · rename_i hb
      have hx : x < 2 ^ k := Nat.lt_pow_two_of_testBit x (fun j hj => by
        rcases Nat.eq_or_lt_of_le hj with rfl | hj
        · exact Bool.eq_false_of_not_eq_true hb
        · exact Nat.testBit_lt_two_pow (Nat.lt_of_lt_of_le h (Nat.pow_le_pow_right (by decide) hj)))
      obtain ⟨hlt, hge⟩ := ih hx
      refine ⟨by rwa [show k + 1 - (1 + clzNat x k) = k - clzNat x k by omega], fun hk => ?_⟩
      rw [show k + 1 - 1 - (1 + clzNat x k) = k - 1 - clzNat x k by omega]
      exact hge (by omega)

theorem clzWord_toNat (x : Word) : (clzWord x).toNat = clzNat x.toNat 32 := by
  have h := clzNat_le x.toNat 32
  rw [clzWord, BitVec.toNat_ofNat, Nat.mod_eq_of_lt (by omega)]

/-- CLZ counts at most 32 zeros, so that its result is not negative. -/
theorem clzWord_msb (x : Word) : (clzWord x).msb = false := by
  have h := clzNat_le x.toNat 32
  rw [BitVec.msb_eq_false_iff_two_mul_lt, clzWord_toNat]; omega

theorem signExtend_truncate_eq (x : Word) (w : Nat) (hw : 0 < w) :
    ((x.truncate w).signExtend 32 : Word)
      = BitVec.ofInt 32 ((x.toNat % 2 ^ w : Nat) - if 2 ^ (w - 1) ≤ x.toNat % 2 ^ w then 2 ^ w else 0) := by
  obtain ⟨v, rfl⟩ : ∃ v, w = v + 1 := ⟨w - 1, by omega⟩
  have hm : x.toNat % 2 ^ (v + 1) < 2 ^ (v + 1) := Nat.mod_lt _ (by positivity)
  rw [BitVec.signExtend, BitVec.toInt_eq_toNat_cond, BitVec.toNat_setWidth, Nat.add_sub_cancel]
  by_cases h : 2 ^ v ≤ x.toNat % 2 ^ (v + 1)
  · rw [if_pos h, if_neg (by rw [Nat.pow_succ] at *; omega)]; norm_cast
  · rw [if_neg h, if_pos (by rw [Nat.pow_succ] at *; omega)]; simp

theorem zeroExtend_truncate_eq (x : Word) (w : Nat) : ((x.truncate w).zeroExtend 32 : Word) = BitVec.ofNat 32 (x.toNat % 2 ^ w) := by
  apply BitVec.eq_of_toNat_eq
  rw [BitVec.toNat_setWidth, BitVec.toNat_setWidth, BitVec.toNat_ofNat]

theorem bswapWord_eq (x : Word) :
    bswapWord x = BitVec.ofNat 32 (x.toNat % 256 * 2 ^ 24 + x.toNat / 2 ^ 8 % 256 * 2 ^ 16 + x.toNat / 2 ^ 16 % 256 * 2 ^ 8 + x.toNat / 2 ^ 24) := by
  have hx := x.isLt
  apply BitVec.eq_of_toNat_eq
  unfold bswapWord
  simp only [BitVec.toNat_append, BitVec.extractLsb'_toNat, BitVec.toNat_ofNat, Nat.shiftRight_eq_div_pow]
  rw [← Nat.shiftLeft_add_eq_or_of_lt (by omega), ← Nat.shiftLeft_add_eq_or_of_lt (by omega), ← Nat.shiftLeft_add_eq_or_of_lt (by omega)]
  have htop : x.toNat / 2 ^ 24 < 2 ^ 8 := by omega
  have hsum : x.toNat % 256 * 2 ^ 24 + x.toNat / 2 ^ 8 % 256 * 2 ^ 16 + x.toNat / 2 ^ 16 % 256 * 2 ^ 8 + x.toNat / 2 ^ 24 < 2 ^ 32 := by omega
  rw [Nat.mod_eq_of_lt htop, Nat.mod_eq_of_lt hsum]
  simp only [Nat.shiftLeft_eq, Nat.pow_zero, Nat.div_one]
  omega

/-! ### The instructions -/

/-- An instruction of the unary group writes what its function answers, with a C of which nothing is said. -/
theorem unaryOp_wrote {p : Nat} {s : State} {i : Nat} {t : Task} (h : onEngine s p i t) {f : Bool} {d a : BitVec 5} {k : Word → AluOut} {r : Word} {c v : Bool}
    (ho : k (t.arch.getW a) = ⟨r, c, v⟩) :
    Runs (unaryOp p f d a k s) (fun u => ∃ cf : Bool, ∃ s1 : State, (s1 = s ∨ s1 = s.draw.2) ∧
      Wrote s1 u i t d r (if f then (r.msb, r == 0, cf, v) else sameFlags t.arch) 1) := by
  have hr := unaryOp_runs h f d a k
  rwa [ho] at hr

/-- CLZ finds the highest bit that is set. -/
theorem execClz_runs {p : Nat} {s : State} {i : Nat} {t : Task} (h : onEngine s p i t) (f : Bool) (d a : BitVec 5) :
    Runs (execClz p f d a s) (fun u => ∃ (s1 : State) (r : Word) (fl : Bool × Bool × Bool × Bool), (s1 = s ∨ s1 = s.draw.2) ∧ Wrote s1 u i t d r fl 1
      ∧ r.toNat ≤ 32 ∧ (t.arch.getW a).toNat < 2 ^ (32 - r.toNat) ∧ (r.toNat < 32 → 2 ^ (31 - r.toNat) ≤ (t.arch.getW a).toNat)
      ∧ (f = false → fl = sameFlags t.arch) ∧ (f = true → fl.1 = false ∧ fl.2.1 = (r == 0) ∧ fl.2.2.2 = false)) := by
  obtain ⟨u, hu, cf, s1, hs, hw⟩ := unaryOp_wrote h (f := f) (d := d) (k := fun x => logicOut (clzWord x)) (a := a) rfl
  obtain ⟨hlt, hge⟩ := clzNat_bounds (t.arch.getW a).toNat 32 (t.arch.getW a).isLt
  rw [← clzWord_toNat] at hlt hge
  refine ⟨u, hu, s1, _, _, hs, hw, ?_, hlt, hge, fun hf => ?_, fun hf => ?_⟩
  · rw [clzWord_toNat]; exact clzNat_le _ _
  · rw [hf]; rfl
  · rw [hf]; exact ⟨clzWord_msb _, rfl, rfl⟩

/-- Settles O7: the functions of the multiply and divide group and of the unary group as R70 to R72 give them. -/
theorem multiplyDivideUnary : Obligations.MultiplyDivideUnary := by
  refine ⟨fun p f d a b s i t h => ?_, fun p f d a s i t h => ?_⟩
  · exact ⟨show Runs (execMul p f d a b s) _ from logicOp_wrote h (mul_eq _ _),
      show Runs (execMulh p f d a b s) _ from logicOp_wrote h rfl,
      show Runs (execMulhu p f d a b s) _ from logicOp_wrote h rfl,
      show Runs (execMulq p f d a b s) _ from aluOp_wrote h (mulqOut_eq _ _),
      show Runs (execMacq p f d a b s) _ from aluOp_wrote h (macqOut_eq _ _ _),
      fun hb ho => show Runs (execDiv p f d a b s) _ from aluOp_wrote h (divOut_eq hb ho),
      fun ha hb => show Runs (execDiv p f d a b s) _ from aluOp_wrote h (divOut_overflow ha hb),
      fun hb => show Runs (execDiv p f d a b s) _ from aluOp_wrote h (divOut_zero _ hb),
      fun hb => show Runs (execDivu p f d a b s) _ from aluOp_wrote h (divuOut_eq _ hb),
      fun hb => show Runs (execDivu p f d a b s) _ from aluOp_wrote h (divuOut_zero _ hb),
      fun hb => show Runs (execRem p f d a b s) _ from aluOp_wrote h (remOut_eq _ hb),
      fun hb => show Runs (execRem p f d a b s) _ from aluOp_wrote h (remOut_zero _ hb),
      fun hb => show Runs (execRemu p f d a b s) _ from aluOp_wrote h (remuOut_eq _ hb),
      fun hb => show Runs (execRemu p f d a b s) _ from aluOp_wrote h (remuOut_zero _ hb)⟩
  · exact ⟨show Runs (execNeg p f d a s) _ from unaryOp_wrote h (negOut_eq _),
      show Runs (execNegs p f d a s) _ from unaryOp_wrote h (negsOut_eq _),
      show Runs (execAbsS p f d a s) _ from unaryOp_wrote h (absOut_eq _),
      show Runs (execNotR p f d a s) _ from unaryOp_wrote h (congrArg logicOut (not_eq_xor _)),
      execClz_runs h f d a,
      show Runs (execPopc p f d a s) _ from unaryOp_wrote h (congrArg logicOut (popcWord_eq _)),
      show Runs (execSextb p f d a s) _ from unaryOp_wrote h (congrArg logicOut (signExtend_truncate_eq _ 8 (by decide))),
      show Runs (execSexth p f d a s) _ from unaryOp_wrote h (congrArg logicOut (signExtend_truncate_eq _ 16 (by decide))),
      show Runs (execZextb p f d a s) _ from unaryOp_wrote h (congrArg logicOut (zeroExtend_truncate_eq _ 8)),
      show Runs (execZexth p f d a s) _ from unaryOp_wrote h (congrArg logicOut (zeroExtend_truncate_eq _ 16)),
      show Runs (execBswap p f d a s) _ from unaryOp_wrote h (congrArg logicOut (bswapWord_eq _))⟩

/-! ### Immediates (R68) -/

/-- What a write of w0 carries does not matter. -/
theorem wrote_zero {s u : State} {i : Nat} {t : Task} {r : Word} {fl : Bool × Bool × Bool × Bool} {cyc : Nat} (h : Wrote s u i t 0 r fl cyc) (q : Word) :
    Wrote s u i t 0 q fl cyc := by
  simpa [Wrote] using h

/-- Settles O8: the immediates extend as R68 gives them; CMPI is a SUB that writes no register. -/
theorem immediateResults : Obligations.ImmediateResults := by
  intro p d a imm k n s i t h
  have hs : BitVec.ofInt 32 imm.toInt = imm.signExtend 32 := rfl
  have hi : (imm.signExtend 32).toInt = imm.toInt := BitVec.toInt_signExtend_of_le (by decide)
  have hz : BitVec.ofNat 32 imm.toNat = imm.zeroExtend 32 := BitVec.ofNat_toNat 32 imm
  rw [hz, hs]
  refine ⟨show Runs (execAddi p d a imm s) _ from immOp_wrote h ?_,
    show Runs (execAndi p d a imm s) _ from immOp_wrote h rfl,
    show Runs (execOri p d a imm s) _ from immOp_wrote h rfl,
    show Runs (execXori p d a imm s) _ from immOp_wrote h rfl,
    show Runs (execLui p d imm s) _ from immOp_wrote h ?_,
    show Runs (execShi p d a 0 n s) _ from immOp_wrote h (shl_eq_mul _ _),
    show Runs (execShi p d a 1 n s) _ from immOp_wrote h (shr_eq_div _ _),
    show Runs (execShi p d a 2 n s) _ from immOp_wrote h (sar_eq_div _ _),
    show Runs (execShi p d a 3 n s) _ from immOp_wrote h rfl,
    show Runs (execCmpi p a imm s) _ from ?_⟩
  · rw [BitVec.ofInt_add, BitVec.ofInt_toInt, hs]
  · rw [shl_eq_mul]
    have hl : (imm.zeroExtend 32 : Word).toNat = imm.toNat := by
      have := imm.isLt
      rw [BitVec.toNat_setWidth, Nat.mod_eq_of_lt (by omega)]
    rw [hl]
  · obtain ⟨u, hu, hw⟩ := aluOp_wrote h (f := true) (d := 0) (cyc := 1) (k := fun r => subOut (r.getW a) (imm.signExtend 32) true) (subOut_noBorrow _ _)
    rw [hi] at hw
    exact ⟨u, hu, wrote_zero hw 0⟩

end Sys2Proof.Machine
end

section
/-! The shared ends of an instruction (R59, R83, R91, R95, R445): it retires, leaves its engine, records, or traps. With these the branches, the time
group and the waits (R74 to R83). -/

namespace Sys2Proof.Machine

/-! ### Ends of an instruction -/

/-- What it takes for an engine to execute instructions of a task (R104). -/
theorem onEngine_spec {s : State} {p i : Nat} {t : Task} (h : onEngine s p i t) :
    p < nEngines ∧ kvGet s.ex.running p = some i ∧ s.task? i = some t ∧ t.stat = .running ∧ t.phys = p := by
  obtain ⟨hp, hc⟩ := h
  unfold State.curTask at hc
  split at hc
  · rename_i j hj
    split at hc
    · rename_i x hx
      split at hc
      · rename_i hst
        obtain ⟨rfl, rfl⟩ := Prod.mk.inj (Option.some.inj hc)
        obtain ⟨hrun, hphys, -, -⟩ := hst
        exact ⟨hp, hj, hx, hrun, hphys⟩
      · cases hc
    · cases hc
  · cases hc

/-- The only constraint on the registers that an instruction leaves is the PC. -/
theorem retire_retired (s : State) (i : Nat) (t : Task) {a : Arch} (cyc : Nat) (h : a.pc = t.arch.pc) :
    Retired s (s.retire i t a cyc) i t { a with pc := t.arch.pc + 1 } cyc := by
  refine ⟨rfl, ?_⟩
  unfold State.retire
  rw [h]

/-- A task that is written back and leaves its engine: what the machine then holds. -/
theorem State.leave_engine (s : State) (i : Nat) (x : Task) (p : Nat) :
    ((s.setTask i x).setRunning p none).task? i = some x ∧ kvGet ((s.setTask i x).setRunning p none).ex.running p = none
      ∧ (∀ j, j ≠ i → ((s.setTask i x).setRunning p none).task? j = s.task? j) :=
  ⟨s.task?_setTask_same i x, kvGet_kvDel_same _ p, fun j => s.task?_setTask_ne i j x⟩

theorem State.block_blocked (s : State) (i : Nat) (t : Task) (w : Wait) (cyc : Nat) : Blocked s (s.block i t w cyc) i t w cyc := by
  obtain ⟨htask, hrun, hrest⟩ := s.leave_engine i _ t.phys
  exact ⟨htask, hrun, hrest, rfl⟩

theorem State.record_recorder (s : State) (typ sub : Nat) (d : List Int) : onlyRecorder s (s.record typ sub d) := by
  obtain ⟨hs, hr⟩ := s.record_only typ sub d
  exact ⟨by rw [hs], hr⟩

theorem onlyRecorder_refl (s : State) : onlyRecorder s s := ⟨rfl, onlyRing_refl s⟩

theorem onlyRecorder_trans {s t u : State} (h : onlyRecorder s t) (k : onlyRecorder t u) : onlyRecorder s u := by
  obtain ⟨hs, hr⟩ := h
  obtain ⟨ks, kr⟩ := k
  refine ⟨?_, onlyRing_trans (by rw [hs]) hr kr⟩
  rw [ks, hs]

theorem State.draw_recorder (s : State) : onlyRecorder s s.draw.2 := ⟨rfl, onlyRing_refl s⟩

/-- Outside a replay a value that an instruction takes is the one it is given, and is recorded (R445, R450). -/
theorem State.taken_eq {s : State} (h : s.replaying = false) (i : Nat) (v : Int) : s.taken i v = (v, s.record 0x12 i [v]) := by
  have hn : s.recd.replay = none := Option.not_isSome_iff_eq_none.1 (by rw [State.replaying] at h; rw [h]; decide)
  have hv : s.replayVal 0x12 i = none := by unfold State.replayVal; rw [hn]
  unfold State.taken; rw [hv]

/-- A trap of the instruction in progress, outside a replay. -/
theorem State.trap_trapped {s : State} (h : s.replaying = false) (i : Nat) (t : Task) {code : Nat} (hc : code < 64 := by decide) :
    Trapped s (s.trap i t code) i t code t.arch.pc.toNat := trapAt_trapped s i t code _ h hc

/-- The engine of a running task executes the instruction, and the outcome shows what the new state does. -/
theorem onTask_runs {p : Nat} {s : State} {i : Nat} {t : Task} (h : onEngine s p i t) {k : Nat → Task → State} {P : State → Prop} (hp : P (k i t)) :
    Runs (onTask p s k) P := ⟨_, onTask_run h k, hp⟩

/-! ### Branches (R74, R75) -/

theorem State.jump_inside (s : State) (i : Nat) (t : Task) (a : Arch) {n : Int} (h : 0 ≤ n ∧ n < t.hdr.codeWords) :
    s.jump i t a n = s.setTask i { t with arch := { a with pc := BitVec.ofInt 16 n }, cyc := t.cyc + 2, maxCyc := max t.maxCyc (t.cyc + 2) } := if_pos h

theorem State.jump_outside {s : State} (hr : s.replaying = false) (i : Nat) (t : Task) (a : Arch) {n : Int} (h : ¬ (0 ≤ n ∧ n < t.hdr.codeWords)) :
    Trapped s (s.jump i t a n) i t 0x03 t.arch.pc.toNat := by
  rw [State.jump, if_neg h]
  exact State.trap_trapped hr i t

/-- The conditions of R74 as a table: it has 15 rows. -/
theorem condHolds_of_table {c : BitVec 4} {a : Arch} {tk : Bool}
    (h : [true, a.z, !a.z, a.n != a.v, a.n == a.v, a.z || a.n != a.v, !a.z && a.n == a.v, !a.c, a.c, !a.c || a.z, a.c && !a.z, a.n, !a.n, a.v,
      !a.v][c.toNat]? = some tk) : c ≠ 15 ∧ condHolds c a = tk := by
  have hc : c.toNat < 15 := (List.getElem?_eq_some_iff.1 h).1
  refine ⟨fun k => by rw [k] at hc; exact absurd hc (by decide), ?_⟩
  unfold condHolds
  generalize c.toNat = n at h hc
  interval_cases n <;> exact Option.some.inj h

theorem link_eq (pc : BitVec 16) : (pc.zeroExtend 32 + 1 : Word) = BitVec.ofNat 32 (pc.toNat + 1) := by
  rw [BitVec.ofNat_add, BitVec.ofNat_toNat]; rfl

theorem execBc_taken {p : Nat} {s : State} {i : Nat} {t : Task} (h : onEngine s p i t) {cond : BitVec 4} (hc : cond ≠ 15) (ht : condHolds cond t.arch = true)
    (off : BitVec 22) : execBc p cond off s = .next (s.jump i t t.arch ((t.arch.pc.toNat : Int) + off.toInt)) := by
  unfold execBc
  rw [onTask_run h, if_neg hc, if_pos ht]

/-- Settles O11: a branch jumps or traps, with the link written before. -/
theorem branches : Obligations.Branches := by
  intro p d a imm cond off far s i t h
  refine ⟨fun tk htk => ?_, fun hc hr => ?_, fun n hn => ⟨fun hi => ?_, fun ho hr => ?_⟩, fun n hn => ⟨fun hi => ?_, fun ho hr => ?_⟩⟩
  · obtain ⟨hc, ht⟩ := condHolds_of_table htk
    refine ⟨fun hf => ?_, fun hk n hn => ⟨fun hi => ?_, fun ho hr => ?_⟩⟩
    · refine onTask_runs h ?_
      rw [if_neg hc, ht, if_neg (by rw [hf]; decide)]
      exact retire_retired s i t 2 rfl
    · exact ⟨_, execBc_taken h hc (ht.trans hk) off, hn ▸ State.jump_inside s i t t.arch hi⟩
    · exact ⟨_, execBc_taken h hc (ht.trans hk) off, hn ▸ State.jump_outside hr i t t.arch ho⟩
  · refine onTask_runs h ?_
    rw [if_pos hc]
    exact State.trap_trapped hr i t
  · refine ⟨_, onTask_run h _, ?_⟩
    rw [link_eq, ← hn]
    exact State.jump_inside s i t _ hi
  · refine ⟨_, onTask_run h _, ?_⟩
    rw [← hn]
    exact State.jump_outside hr i t _ ho
  · refine ⟨_, onTask_run h _, ?_⟩
    rw [link_eq, BitVec.toNat_setWidth, ← hn]
    exact State.jump_inside s i t _ hi
  · refine ⟨_, onTask_run h _, ?_⟩
    rw [BitVec.toNat_setWidth, ← hn]
    exact State.jump_outside hr i t _ ho

/-! ### The time group (R76 to R78) -/

theorem scaleMul_eq (k : BitVec 2) : scaleMul k = [1, 1000, 1000000, 65536].getD k.toNat 0 := by revert k; decide

theorem taddi_eq (x : Word64) (imm : BitVec 20) (m : Nat) :
    x + imm.signExtend 64 * BitVec.ofNat 64 m = BitVec.ofInt 64 (x.toInt + imm.toInt * m) := by
  rw [BitVec.ofInt_add, BitVec.ofInt_toInt, BitVec.ofInt_mul, BitVec.ofInt_natCast]; rfl

theorem tadd_eq (x : Word64) (y : Word) : x + y.signExtend 64 = BitVec.ofInt 64 (x.toInt + y.toInt) := by
  rw [BitVec.ofInt_add, BitVec.ofInt_toInt]; rfl

theorem tsub_eq (x y : Word64) : x - y = BitVec.ofInt 64 (x.toInt - y.toInt) := by
  rw [sub_eq_add_neg, sub_eq_add_neg, BitVec.ofInt_add, BitVec.ofInt_neg, BitVec.ofInt_toInt, BitVec.ofInt_toInt]

theorem tset_eq (hi lo : Word) : (hi ++ lo : BitVec 64) = BitVec.ofNat 64 (hi.toNat * 2 ^ 32 + lo.toNat) := by
  apply BitVec.eq_of_toNat_eq
  have h := hi.isLt
  have l := lo.isLt
  rw [BitVec.toNat_append, ← Nat.shiftLeft_add_eq_or_of_lt l, Nat.shiftLeft_eq, BitVec.toNat_ofNat, Nat.mod_eq_of_lt (by omega)]

theorem tlo_eq (x : Word64) : (x.truncate 32 : Word) = BitVec.ofNat 32 (x.toNat % 2 ^ 32) := by
  apply BitVec.eq_of_toNat_eq; simp

theorem thi_eq (x : Word64) : (x.extractLsb' 32 32 : Word) = BitVec.ofNat 32 (x.toNat / 2 ^ 32) := by
  apply BitVec.eq_of_toNat_eq
  rw [BitVec.extractLsb'_toNat, BitVec.toNat_ofNat, Nat.shiftRight_eq_div_pow]

/-- TDIF's word is the limited difference, and it differs from the difference exactly where V is set. -/
theorem tdifWord_eq (x : Int) :
    (if x < -(2 ^ 31) then (0x80000000 : Word) else if 2 ^ 31 ≤ x then 0x7FFFFFFF else BitVec.ofInt 32 x)
      = BitVec.ofInt 32 (max (-(2 ^ 31)) (min (2 ^ 31 - 1) x)) := by
  have h := congrArg Prod.fst (sat32_eq x)
  unfold sat32 at h
  split_ifs at h ⊢ <;> exact h

theorem toInt_limit32 (x : Int) :
    (BitVec.ofInt 32 (max (-(2 ^ 31)) (min (2 ^ 31 - 1) x))).toInt = max (-(2 ^ 31)) (min (2 ^ 31 - 1) x) := by
  rw [BitVec.toInt_ofInt, Int.bmod_eq_of_le_mul_two] <;> omega

section
variable {p : Nat} {s : State} {i : Nat} {t : Task}

theorem tOp_wroteT (h : onEngine s p i t) {td : BitVec 2} {k : Arch → Word64} {r : Word64} (ho : k t.arch = r) :
    Runs (tOp p td k s) (fun u => WroteT s u i t td r 1) := ho ▸ tOp_runs h td k

/-- The copy that TGET and PGET read is 2, 3 or 4 ticks old (R77). -/
theorem State.aged_mem {s : State} (h : s.hist.length = 4) (k : Nat) : ∃ j, 1 ≤ j ∧ j ≤ 3 ∧ s.hist[j]? = some (s.aged k) := by
  have hk : 1 + k % 3 < s.hist.length := by omega
  refine ⟨1 + k % 3, by omega, by omega, ?_⟩
  unfold State.aged
  rw [List.getElem?_eq_getElem hk, Option.getD_some]

/-- A value that TGET or PGET takes outside a replay stands in the time register; beside it only the recorder and the free-value counter change. -/
theorem taken_wroteT (hr : s.replaying = false) (td : BitVec 2) (v : Int) :
    ∃ s1, onlyRecorder s s1 ∧ WroteT s1 ((s.draw.2.taken i v).2.retire i t (t.arch.setT td (BitVec.ofInt 64 (s.draw.2.taken i v).1)) 2) i t td (BitVec.ofInt 64 v) 2 := by
  rw [State.taken_eq (s := s.draw.2) hr]
  exact ⟨_, onlyRecorder_trans s.draw_recorder (State.record_recorder _ _ _ _), retire_wroteT _ i t td _ 2⟩

end

/-- Settles O12: the functions of the time group as R77 and R78 give them, and the copies that TGET and PGET read. -/
theorem timeAndPositionResults : Obligations.TimeAndPositionResults := by
  refine ⟨fun p f td ta tb d a b sc imm s i t h => ?_, fun p td stn s i t h hlen hr => ?_⟩
  · refine ⟨show Runs (execTadd p td ta b s) _ from tOp_wroteT h (tadd_eq _ _),
      show Runs (execTsub p td ta tb s) _ from tOp_wroteT h (tsub_eq _ _),
      show Runs (execTset p td a b s) _ from tOp_wroteT h (tset_eq _ _),
      show Runs (execTmov p td ta s) _ from tOp_wroteT h rfl,
      show Runs (execTref p td s) _ from tOp_wroteT h rfl,
      show Runs (execTaddi p td ta sc imm s) _ from tOp_wroteT h ?_,
      show Runs (execTlo p d ta s) _ from onTask_runs h ?_,
      show Runs (execThi p d ta s) _ from onTask_runs h ?_,
      show Runs (execTdif p f d ta tb s) _ from onTask_runs h ?_,
      show Runs (execTcmp p ta tb s) _ from onTask_runs h ?_,
      show Runs (execTsref p ta s) _ from onTask_runs h (retire_retired s i t 1 rfl)⟩
    · rw [scaleMul_eq]; exact taddi_eq _ _ _
    · rw [tlo_eq]; exact retire_wrote_only s i t d _ 1
    · rw [thi_eq]; exact retire_wrote_only s i t d _ 1
    · intro r hx
      dsimp only
      rw [tdifWord_eq, ← hx]
      have hv : (r.toInt ≠ (t.arch.getT ta - t.arch.getT tb).toInt) ↔ ((t.arch.getT ta - t.arch.getT tb).toInt < -(2 ^ 31) ∨ 2 ^ 31 ≤ (t.arch.getT ta - t.arch.getT tb).toInt) := by
        rw [hx, toInt_limit32]; exact limit32_ne_iff _
      rw [decide_eq_decide.2 hv]
      cases f
      · exact retire_wrote_only s i t d r 1
      · exact retire_wrote s i t d r _ _ _ _ 1
    · exact retire_retired s i t 1 rfl
  · refine ⟨show Runs (execTget p td s) _ from onTask_runs h ?_, fun hs => show Runs (execPget p td stn s) _ from onTask_runs h ?_,
      fun hs => show Runs (execPget p td stn s) _ from onTask_runs h ?_⟩
    · obtain ⟨k, h1, h3, hk⟩ := State.aged_mem hlen s.draw.1
      obtain ⟨s1, hs1, hw⟩ := taken_wroteT (i := i) (t := t) hr td ((s.aged s.draw.1).1.toNat : Int)
      refine ⟨k, _, s1, h1, h3, hk, hs1, ?_⟩
      rwa [BitVec.ofInt_natCast, BitVec.ofNat_toNat, BitVec.setWidth_eq] at hw
    · obtain ⟨k, h1, h3, hk⟩ := State.aged_mem hlen s.draw.1
      obtain ⟨s1, hs1, hw⟩ := taken_wroteT (i := i) (t := t) hr td ((s.aged s.draw.1).2 - s.ofsOf stn.toNat)
      rw [if_neg hs]
      refine ⟨k, _, s1, h1, h3, hk, hs1, ?_⟩
      have hstn : (stn = 7) ↔ (stn.toNat = 7) := by clear hw hs; revert stn; decide
      simp only [hstn]
      exact hw
    · rw [if_pos hs]
      exact State.trap_trapped hr i t

/-! ### Waits (R76, R80 to R83) -/

theorem reached_iff (v x : Word64) : reached v x = true ↔ 0 ≤ (v - x).toInt := by
  rw [reached, BitVec.msb_eq_toInt]; simp

theorem reached_eq_false_iff (v x : Word64) : reached v x = false ↔ (v - x).toInt < 0 := by
  rw [← Bool.not_eq_true, reached_iff, Int.not_le]

theorem limitHit_iff (a : Arch) (l : Bool) (now : Word64) : limitHit now (a.limit l) = true ↔ l = true ∧ 0 ≤ (now - a.getT 3).toInt := by
  cases l
  · simp [Arch.limit, limitHit]
  · simp [Arch.limit, limitHit, reached_iff]

/-- What a wait does at its issue, outside a replay: `held` says that its target holds, with REF then. -/
structure IssueOutcome (s u : State) (i : Nat) (t : Task) (held : Bool) (ref : Word64) (kind : WaitKind) (l : Bool) : Prop where
  holds : held = true → ∃ s1, onlyRecorder s s1 ∧
    Retired s1 u i t { t.arch with ref := ref, n := false, z := false, c := true, v := false, pc := t.arch.pc + 1 } 2
  limit : held = false → l = true ∧ 0 ≤ (s.now - t.arch.getT 3).toInt → ∃ s1, onlyRecorder s s1 ∧
    Retired s1 u i t { t.arch with ref := t.arch.getT 3, n := false, z := true, c := false, v := false, pc := t.arch.pc + 1 } 2
  waits : held = false → ¬ (l = true ∧ 0 ≤ (s.now - t.arch.getT 3).toInt) →
    Blocked s u i t ⟨kind, if l then some (t.arch.getT 3) else none, none⟩ 2

theorem State.endIssue_retired (s : State) (i : Nat) (t : Task) (ref : Word64) (lim : Bool) : ∃ s1, onlyRecorder s s1 ∧
    Retired s1 (s.endIssue i t ref lim) i t { t.arch with ref := ref, n := false, z := lim, c := !lim, v := false, pc := t.arch.pc + 1 } 2 :=
  ⟨_, s.record_recorder _ _ _, retire_retired _ i t 2 rfl⟩

theorem State.issueWait_outcome {s : State} (hr : s.replaying = false) (i : Nat) (t : Task) (held : Bool) (ref : Word64) (kind : WaitKind) (l : Bool) :
    IssueOutcome s (s.issueWait i t held ref kind l) i t held ref kind l := by
  unfold State.issueWait
  rw [if_neg (by rw [hr]; decide)]
  refine ⟨fun hh => ?_, fun hh hl => ?_, fun hh hl => ?_⟩
  · rw [if_pos hh]; exact s.endIssue_retired i t ref false
  · rw [if_neg (by rw [hh]; decide), if_pos ((limitHit_iff _ _ _).2 hl)]; exact s.endIssue_retired i t _ true
  · rw [if_neg (by rw [hh]; decide), if_neg (mt (limitHit_iff _ _ _).1 hl)]; exact s.block_blocked i t _ 2

theorem afterTarget_eq (x : Word) (k : BitVec 2) :
    x.zeroExtend 64 * BitVec.ofNat 64 (scaleMul k) = BitVec.ofNat 64 (x.toNat * ([1, 1000, 1000000, 65536].getD k.toNat 0)) := by
  rw [scaleMul_eq, BitVec.ofNat_mul, BitVec.ofNat_toNat]

section
variable {p : Nat} {s : State} {i : Nat} {t : Task}

theorem execAtTime_run (h : onEngine s p i t) (hr : s.replaying = false) (ta : BitVec 2) (l : Bool) :
    ∃ u, execAtTime p ta l s = .next u ∧
      IssueOutcome s u i t (reached s.now (t.arch.getT ta)) (t.arch.getT ta) (.time (t.arch.getT ta)) l :=
  ⟨_, onTask_run h _, State.issueWait_outcome hr i t _ _ _ l⟩

theorem execAfter_run (h : onEngine s p i t) (hr : s.replaying = false) (sc : BitVec 2) (a : BitVec 5) (l : Bool) {x : Word64}
    (hx : x = t.arch.ref + BitVec.ofNat 64 ((t.arch.getW a).toNat * ([1, 1000, 1000000, 65536].getD sc.toNat 0))) :
    ∃ u, execAfter p sc a l s = .next u ∧ IssueOutcome s u i t (reached s.now x) x (.time x) l := by
  rw [← afterTarget_eq] at hx
  subst hx
  exact ⟨_, onTask_run h _, State.issueWait_outcome hr i t _ _ _ l⟩

theorem execOnpos_run (h : onEngine s p i t) (hr : s.replaying = false) (ta : BitVec 2) {stn : BitVec 3} (hs : stn ≠ 6) (l : Bool) :
    ∃ u, execOnpos p ta stn l s = .next u ∧
      IssueOutcome s u i t (reached (s.posAt stn.toNat) (t.arch.getT ta)) s.now (.pos stn.toNat (t.arch.getT ta)) l := by
  refine ⟨_, onTask_run h _, ?_⟩
  rw [if_neg hs]
  exact State.issueWait_outcome hr i t _ _ _ l

theorem execEvwait_run (h : onEngine s p i t) (hr : s.replaying = false) {a : BitVec 5} (he : definedEvent (t.arch.getW a).toNat = true) (l : Bool) :
    ∃ u, execEvwait p a l s = .next u ∧ IssueOutcome s u i t false s.now (.event (t.arch.getW a).toNat) l := by
  refine ⟨_, onTask_run h _, ?_⟩
  rw [if_pos he]
  exact State.issueWait_outcome hr i t _ _ _ l

/-! ### The ends of waits (R80 to R83) -/

/-- A task that becomes ready after a record of it. -/
theorem State.record_makeReady (s : State) (typ sub : Nat) (d : List Int) (i : Nat) (x : Task) :
    Readied s ((s.record typ sub d).makeReady i x) i x s.ex.chans := by
  obtain ⟨hs, hring⟩ := s.record_only typ sub d
  generalize s.record typ sub d = r at hs hring
  have hex : r.ex = s.ex := by rw [hs]
  have htick : r.tick = s.tick := by rw [hs]
  refine ⟨?_, fun j hj => ?_, ?_, onlyRing_congr rfl rfl rfl hring⟩
  · rw [← htick]; exact r.task?_setTask_same i _
  · have hj' := r.task?_setTask_ne i j { x with stat := .ready, readyAt := r.tick } hj
    exact hj'.trans (by unfold State.task?; rw [hex])
  · unfold State.makeReady State.setTask
    rw [hs]

theorem State.endWait_readied (s : State) (i : Nat) (t : Task) (ref : Word64) (lim : Bool) :
    Readied s (s.endWait i t ref lim) i { t with wait := none, arch := { t.arch with ref := ref, n := false, z := lim, c := false, v := false } } s.ex.chans :=
  s.record_makeReady _ _ _ i _

theorem execWaitEnd_reached {w : Wait} (hi : i < 512) (ht : s.task? i = some t) (hst : t.stat = .waiting) (hw : t.wait = some w)
    (hr : s.replaying = false) {r : Word64} (href : s.waitRef w = some r) : execWaitEnd i s = .next (s.endWait i t r false) := by
  simp [execWaitEnd, onUnit, hi, ht, hst, hw, hr, href]

/-- A wait on time, a position or an event whose limit is reached first. -/
theorem execWaitLimit_reached {w : Wait} (hi : i < 512) (ht : s.task? i = some t) (hst : t.stat = .waiting) (hw : t.wait = some w)
    (hr : s.replaying = false) {lim : Word64} (hlim : w.limit = some lim) (hnow : reached s.now lim = true) (href : s.waitRef w = none)
    (hk : (∀ c x, w.kind ≠ .send c x) ∧ ∀ c d, w.kind ≠ .recv c d) : execWaitLimit i s = .next (s.endWait i t lim true) := by
  obtain ⟨hsend, hrecv⟩ := hk
  obtain ⟨kind, limit, hit⟩ := w
  dsimp only at hlim hsend hrecv
  subst hlim
  cases kind with
  | send c x => exact absurd rfl (hsend c x)
  | recv c d => exact absurd rfl (hrecv c d)
  | time _ => simp [execWaitLimit, onUnit, hi, ht, hst, hw, hr, href, hnow]
  | pos _ _ => simp [execWaitLimit, onUnit, hi, ht, hst, hw, hr, href, hnow]
  | event _ => simp [execWaitLimit, onUnit, hi, ht, hst, hw, hr, href, hnow]

end

/-- The target of a wait is reached (R80, R106). -/
theorem State.waitRef_of_reached {s : State} {w : Wait} {r : Word64}
    (h : (∃ tg, w.kind = .time tg ∧ 0 ≤ (s.now - tg).toInt ∧ r = tg)
      ∨ (∃ stn tg, w.kind = .pos stn tg ∧ w.hit = none ∧ s.beltRuns = true ∧ 0 ≤ (s.posAt stn - tg).toInt ∧ r = s.now)
      ∨ (∃ stn tg, w.kind = .pos stn tg ∧ w.hit = some r) ∨ (∃ sel, w.kind = .event sel ∧ w.hit = some r)) : s.waitRef w = some r := by
  unfold State.waitRef
  rcases h with ⟨tg, hk, hn, rfl⟩ | ⟨stn, tg, hk, hh, hb, hn, rfl⟩ | ⟨stn, tg, hk, hh⟩ | ⟨sel, hk, hh⟩
  · rw [hk]; exact if_pos ((reached_iff _ _).2 hn)
  · rw [hk, hh]
    simp only [hb, (reached_iff _ _).2 hn, Bool.and_self, if_true]
  · rw [hk, hh]
  · rw [hk, hh]

/-- The target of a wait is not reached yet. -/
theorem State.waitRef_of_open {s : State} {w : Wait}
    (h : (∃ tg, w.kind = .time tg ∧ (s.now - tg).toInt < 0) ∨ (∃ stn tg, w.kind = .pos stn tg ∧ w.hit = none ∧ (s.posAt stn - tg).toInt < 0)
      ∨ (∃ sel, w.kind = .event sel ∧ w.hit = none)) :
    s.waitRef w = none ∧ (∀ c x, w.kind ≠ .send c x) ∧ ∀ c d, w.kind ≠ .recv c d := by
  unfold State.waitRef
  rcases h with ⟨tg, hk, hn⟩ | ⟨stn, tg, hk, hh, hn⟩ | ⟨sel, hk, hh⟩
  · rw [hk]
    exact ⟨if_neg (by rw [(reached_eq_false_iff _ _).2 hn]; decide), fun _ _ => WaitKind.noConfusion, fun _ _ => WaitKind.noConfusion⟩
  · rw [hk, hh]
    refine ⟨?_, fun _ _ => WaitKind.noConfusion, fun _ _ => WaitKind.noConfusion⟩
    simp only [(reached_eq_false_iff _ _).2 hn, Bool.and_false, Bool.false_eq_true, if_false]
  · rw [hk, hh]
    exact ⟨rfl, fun _ _ => WaitKind.noConfusion, fun _ _ => WaitKind.noConfusion⟩

/-- Settles O13: a wait at its issue is decided by its target, then by its limit; a pending one ends by `waitRef`, then by its limit. -/
theorem waits : Obligations.Waits := by
  refine ⟨fun p ta sc a stn l s i t h hr => ?_, fun s i t w hi ht hst hw hr => ⟨fun r hh => ?_, fun lim hlim hn ho => ?_⟩⟩
  · obtain ⟨u, hu, hat⟩ := execAtTime_run h hr ta l
    obtain ⟨v, hv, haf⟩ := execAfter_run h hr sc a l rfl
    refine ⟨fun ht => ⟨u, hu, hat.holds ((reached_iff _ _).2 ht)⟩, fun ht hl => ⟨u, hu, hat.limit ((reached_eq_false_iff _ _).2 ht) hl⟩,
      fun ht hl => ⟨u, hu, hat.waits ((reached_eq_false_iff _ _).2 ht) hl⟩, fun ht => ⟨v, hv, haf.holds ((reached_iff _ _).2 ht)⟩,
      fun ht hl => ⟨v, hv, haf.limit ((reached_eq_false_iff _ _).2 ht) hl⟩, fun ht hl => ⟨v, hv, haf.waits ((reached_eq_false_iff _ _).2 ht) hl⟩,
      fun hs => ?_, fun he => ?_, fun hs => ?_, fun he => ?_⟩
    · obtain ⟨x, hx, hon⟩ := execOnpos_run h hr ta hs l
      exact ⟨fun ht => ⟨x, hx, hon.holds ((reached_iff _ _).2 ht)⟩, fun ht hl => ⟨x, hx, hon.limit ((reached_eq_false_iff _ _).2 ht) hl⟩,
        fun ht hl => ⟨x, hx, hon.waits ((reached_eq_false_iff _ _).2 ht) hl⟩⟩
    · obtain ⟨x, hx, hev⟩ := execEvwait_run h hr he l
      exact ⟨fun hl => ⟨x, hx, hev.limit rfl hl⟩, fun hl => ⟨x, hx, hev.waits rfl hl⟩⟩
    · show Runs (execOnpos p ta stn l s) _
      refine onTask_runs h ?_
      rw [if_pos hs]
      exact State.trap_trapped hr i t
    · show Runs (execEvwait p a l s) _
      refine onTask_runs h ?_
      rw [if_neg (by rw [he]; decide)]
      exact State.trap_trapped hr i t
  · exact ⟨_, execWaitEnd_reached hi ht hst hw hr (State.waitRef_of_reached hh), s.endWait_readied i t r false⟩
  · obtain ⟨href, hk⟩ := State.waitRef_of_open ho
    exact ⟨_, execWaitLimit_reached hi ht hst hw hr hlim ((reached_iff _ _).2 hn) href hk, s.endWait_readied i t lim true⟩

end Sys2Proof.Machine
end

section
/-! Loads and stores (R63 to R65, R91 to R95): where an access traps, what a load returns, and what a store leaves in memory. -/

namespace Sys2Proof.Machine

/-! ### The trap of an access (R63, R64, R92) -/

section
variable {t : Task} {ad n : Nat}

theorem Task.segFor_eq_some {g : SegDesc} (hf : t.hdr.segs.find? (fun d => d.seg == ad / 2 ^ 28) = some g) (hs : ad % 2 ^ 28 + n ≤ g.size) :
    t.segFor ad n = some g := by
  unfold Task.segFor
  rw [hf]
  exact if_pos hs

theorem Task.segFor_eq_none (h : ¬ ∃ g, t.hdr.segs.find? (fun d => d.seg == ad / 2 ^ 28) = some g ∧ ad % 2 ^ 28 + n ≤ g.size) : t.segFor ad n = none := by
  unfold Task.segFor
  split
  · rename_i g hg
    exact if_neg (fun hs => h ⟨g, hg, hs⟩)
  · rfl

theorem Task.accessTrap_align (h : ad % n ≠ 0) (st : Bool) : t.accessTrap ad n st = some trapAlign := if_pos h

theorem Task.accessTrap_segment (ha : ad % n = 0) (hs : t.segFor ad n = none) (st : Bool) : t.accessTrap ad n st = some trapSegment := by
  unfold Task.accessTrap
  rw [if_neg (not_not.2 ha), hs]

theorem Task.accessTrap_readOnly (ha : ad % n = 0) {g : SegDesc} (hs : t.segFor ad n = some g) (hg : g.ro = true) :
    t.accessTrap ad n true = some trapAccess := by
  unfold Task.accessTrap
  rw [if_neg (not_not.2 ha), hs]
  exact if_pos ⟨rfl, hg⟩

theorem Task.accessTrap_none (ha : ad % n = 0) {g : SegDesc} (hs : t.segFor ad n = some g) {st : Bool} (hg : st = true → g.ro = false) :
    t.accessTrap ad n st = none := by
  unfold Task.accessTrap
  rw [if_neg (not_not.2 ha), hs]
  exact if_neg (fun ⟨h, hro⟩ => by rw [hg h] at hro; exact absurd hro (by decide))

end

/-! ### Loads and stores that trap (R91 to R93, R160) -/

section
variable {s : State} {i : Nat} {t : Task} {d a : BitVec 5} {imm : BitVec 16} {n : Nat} {ext : Nat → Int}

theorem State.load_of_trap {k : Nat} (h : t.accessTrap (t.arch.addr a imm) n false = some k) : s.load i t d a imm n ext = s.trap i t k := by
  unfold State.load
  dsimp only
  rw [h]

theorem State.store_of_trap {k : Nat} (h : t.accessTrap (t.arch.addr a imm) n true = some k) : s.store i t d a imm n = s.trap i t k := by
  unfold State.store
  dsimp only
  rw [h]

/-- A load of a word that fails in both copies traps, but where the word is fetched again (R160). -/
theorem State.load_of_parity (h : t.accessTrap (t.arch.addr a imm) n false = none) {g : SegDesc} (hs : t.segFor (t.arch.addr a imm) n = some g)
    (hg : g.ro = false ∨ g.init = false) (hb : (s.memCheck (t.segAddr (t.arch.addr a imm)) n).2 = true) :
    s.load i t d a imm n ext = (s.memCheck (t.segAddr (t.arch.addr a imm)) n).1.trap i t trapParity := by
  have hn : ¬ ((t.segFor (t.arch.addr a imm) n).any (fun g => g.ro && g.init) = true ∧ t.locOf (t.arch.addr a imm) ≠ 2) := by
    rintro ⟨hro, -⟩
    rw [hs] at hro
    rcases hg with hg | hg <;> simp [hg] at hro
  unfold State.load
  dsimp only
  rw [h]
  dsimp only
  rw [if_pos hb, if_neg hn]

end

/-- The tasks, and which of them run, are no output's to change, but that the end of a replay frees every engine (R451). -/
theorem State.replayOut_ex (s : State) (typ task phys pc addr value : Nat) :
    (s.replayOut typ task phys pc addr value).ex.tasks = s.ex.tasks
      ∧ ((s.replayOut typ task phys pc addr value).ex.running = s.ex.running ∨ (s.replayOut typ task phys pc addr value).ex.running = []) := by
  have hd : ∀ (x : State) (k : Nat), (x.diverge k task phys pc addr).ex = { x.ex with running := [] } := fun x k => by
    simp only [State.diverge, State.replayOver, State.fsets, List.foldl, State.sendFault, State.fset_ex]
  unfold State.replayOut
  split
  · exact ⟨rfl, .inl rfl⟩
  · split
    · rw [hd]; exact ⟨rfl, .inr rfl⟩
    · dsimp only
      split
      · rw [hd]; exact ⟨rfl, .inr rfl⟩
      · split
        · rw [hd]; exact ⟨rfl, .inr rfl⟩
        · split
          · rw [hd]; exact ⟨rfl, .inr rfl⟩
          · exact ⟨rfl, .inl rfl⟩

/-- A trap stops its task, whatever else the state holds (R91). -/
theorem State.trapAt_stops (s : State) (i : Nat) (t : Task) (code pc : Nat) :
    (∃ y, (s.trapAt i t code pc).task? i = some y ∧ y.stat = .trapped ∧ y.arch = t.arch ∧ y.trapKind = code ∧ y.trapPc = pc)
      ∧ kvGet (s.trapAt i t code pc).ex.running t.phys ≠ some i := by
  unfold State.trapAt
  extract_lets t' s1 s2
  have htask : s2.task? i = some t' := by
    have h1 : s1.task? i = some t' := s.task?_setTask_same i t'
    simp only [s2]; split <;> exact h1
  have hrun : kvGet s2.ex.running t.phys ≠ some i := by
    simp only [s2]
    split
    · simp [State.setRunning]
    · assumption
  have hex : ∀ u : State, u.ex.tasks = s2.ex.tasks → (u.ex.running = s2.ex.running ∨ u.ex.running = []) →
      (∃ y, u.task? i = some y ∧ y.stat = .trapped ∧ y.arch = t.arch ∧ y.trapKind = code ∧ y.trapPc = pc) ∧ kvGet u.ex.running t.phys ≠ some i := by
    intro u ht hr
    refine ⟨⟨t', ?_, rfl, rfl, rfl, rfl⟩, ?_⟩
    · unfold State.task?; rw [ht]; exact htask
    · rcases hr with hr | hr <;> rw [hr]
      · exact hrun
      · simp
  unfold State.output
  split
  · obtain ⟨ht, hr⟩ := s2.replayOut_ex 0x42 i t.phys pc code pc
    exact hex _ ht hr
  · have hx : ((s2.record 0x42 i [(t.phys : Int), (pc : Int), (code : Int), (pc : Int)]).sendFault (engineSrc t.phys) code pc).ex = s2.ex :=
      State.record_ex s2 _ _ _
    exact hex _ (by rw [hx]) (.inl (by rw [hx]))

/-- A word that fails in both copies is found by every read that meets it (R160). -/
theorem State.memCheck_bad {s : State} {A n : Nat} (hA : sramBase ≤ A) (hn : 0 < n) (h : A / 4 * 4 ∈ s.mem.sramBad) : (s.memCheck A n).2 = true := by
  have hm : A / 4 * 4 ∈ sramHit s.mem.sramBad A n := by
    unfold sramHit
    rw [List.mem_filter]
    exact ⟨h, decide_eq_true (by omega)⟩
  unfold State.memCheck
  rw [if_neg (by omega)]
  simp only [State.sramRead, Bool.not_eq_true', List.isEmpty_eq_false_iff]
  exact List.ne_nil_of_mem hm

section
variable {s : State} {i : Nat} {t : Task} {d a : BitVec 5} {imm : BitVec 16} {ad n : Nat} {o : Host.Outcome State Fault Refusal}

/-- Where a load or a store traps without a look at memory. -/
theorem access_traps {st : Bool} (ho : ∀ k, t.accessTrap ad n st = some k → o = .next (s.trap i t k)) (hr : s.replaying = false) :
    (ad % n ≠ 0 → Runs o (fun u => Trapped s u i t 0x02 t.arch.pc.toNat))
    ∧ (ad % n = 0 → ¬ (∃ g, t.hdr.segs.find? (fun d => d.seg == ad / 2 ^ 28) = some g ∧ ad % 2 ^ 28 + n ≤ g.size) →
      Runs o (fun u => Trapped s u i t 0x03 t.arch.pc.toNat))
    ∧ (ad % n = 0 → (∃ g, t.hdr.segs.find? (fun d => d.seg == ad / 2 ^ 28) = some g ∧ ad % 2 ^ 28 + n ≤ g.size ∧ g.ro = true) → st = true →
      Runs o (fun u => Trapped s u i t 0x04 t.arch.pc.toNat)) := by
  refine ⟨fun ha => ⟨_, ho _ (Task.accessTrap_align ha st), State.trap_trapped hr i t⟩,
    fun ha hs => ⟨_, ho _ (Task.accessTrap_segment ha (Task.segFor_eq_none hs) st), State.trap_trapped hr i t⟩, ?_⟩
  rintro ha ⟨g, hf, hsz, hg⟩ rfl
  exact ⟨_, ho _ (Task.accessTrap_readOnly ha (Task.segFor_eq_some hf hsz) hg), State.trap_trapped hr i t⟩

/-- Where a load traps. -/
theorem load_traps {ext : Nat → Int} (ho : o = .next (s.load i t d a imm n ext)) (had : ad = (t.arch.getW a + imm.signExtend 32).toNat) (hn : 0 < n)
    (hr : s.replaying = false) :
    (ad % n ≠ 0 → Runs o (fun u => Trapped s u i t 0x02 t.arch.pc.toNat))
    ∧ (ad % n = 0 → ¬ (∃ g, t.hdr.segs.find? (fun d => d.seg == ad / 2 ^ 28) = some g ∧ ad % 2 ^ 28 + n ≤ g.size) →
      Runs o (fun u => Trapped s u i t 0x03 t.arch.pc.toNat))
    ∧ (ad % n = 0 → (∃ g, t.hdr.segs.find? (fun d => d.seg == ad / 2 ^ 28) = some g ∧ ad % 2 ^ 28 + n ≤ g.size ∧ g.ro = true) → false = true →
      Runs o (fun u => Trapped s u i t 0x04 t.arch.pc.toNat))
    ∧ (false = false → sramBase ≤ t.segAddr ad → t.segAddr ad + n ≤ sramBase + 0x200000 → ad % n = 0 →
      (∃ g, t.hdr.segs.find? (fun d => d.seg == ad / 2 ^ 28) = some g ∧ ad % 2 ^ 28 + n ≤ g.size ∧ (g.ro = false ∨ g.init = false)) →
      (∃ w ∈ s.mem.sramBad, w = t.segAddr ad / 4 * 4) → Runs o (fun u => ∃ y, u.task? i = some y ∧ y.stat = .trapped ∧ y.arch = t.arch ∧ y.trapKind = 0x07
        ∧ y.trapPc = t.arch.pc.toNat ∧ kvGet u.ex.running t.phys ≠ some i)) := by
  subst had
  obtain ⟨halign, hseg, hro⟩ := access_traps (st := false) (fun k hk => ho.trans (congrArg _ (State.load_of_trap hk))) hr
  refine ⟨halign, hseg, hro, fun _ hA _ ha ⟨g, hf, hsz, hg⟩ ⟨w, hw, hwA⟩ => ?_⟩
  have hs := Task.segFor_eq_some hf hsz
  refine ⟨_, ho.trans (congrArg _ (State.load_of_parity (Task.accessTrap_none ha hs Bool.noConfusion) hs hg (State.memCheck_bad hA hn (hwA ▸ hw)))), ?_⟩
  obtain ⟨⟨y, hy, hst, harch, hkind, hpc⟩, hrun⟩ := State.trapAt_stops (s.memCheck (t.segAddr (t.arch.addr a imm)) n).1 i t trapParity t.arch.pc.toNat
  exact ⟨y, hy, hst, harch, hkind, hpc, hrun⟩

/-- Where a store traps. -/
theorem store_traps (ho : o = .next (s.store i t d a imm n)) (had : ad = (t.arch.getW a + imm.signExtend 32).toNat) (hr : s.replaying = false)
    {P : Prop} :
    (ad % n ≠ 0 → Runs o (fun u => Trapped s u i t 0x02 t.arch.pc.toNat))
    ∧ (ad % n = 0 → ¬ (∃ g, t.hdr.segs.find? (fun d => d.seg == ad / 2 ^ 28) = some g ∧ ad % 2 ^ 28 + n ≤ g.size) →
      Runs o (fun u => Trapped s u i t 0x03 t.arch.pc.toNat))
    ∧ (ad % n = 0 → (∃ g, t.hdr.segs.find? (fun d => d.seg == ad / 2 ^ 28) = some g ∧ ad % 2 ^ 28 + n ≤ g.size ∧ g.ro = true) → true = true →
      Runs o (fun u => Trapped s u i t 0x04 t.arch.pc.toNat))
    ∧ (true = false → P) := by
  subst had
  obtain ⟨halign, hseg, hro⟩ := access_traps (st := true) (fun k hk => ho.trans (congrArg _ (State.store_of_trap hk))) hr
  exact ⟨halign, hseg, hro, Bool.noConfusion⟩

end

/-- Settles O10: the trap of an access is decided before memory is looked at, but for a word that fails in both copies. -/
theorem accessTraps : Obligations.AccessTraps := by
  intro p d a imm ad s i t h had hr x hx
  simp only [List.mem_cons, List.not_mem_nil, or_false] at hx
  rcases hx with rfl | rfl | rfl | rfl | rfl | rfl | rfl | rfl
  · exact load_traps (n := 4) (onTask_run h _ : execLdw p d a imm s = _) had (by decide) hr
  · exact load_traps (n := 2) (onTask_run h _ : execLdh p d a imm s = _) had (by decide) hr
  · exact load_traps (n := 2) (onTask_run h _ : execLdhu p d a imm s = _) had (by decide) hr
  · exact load_traps (n := 1) (onTask_run h _ : execLdb p d a imm s = _) had (by decide) hr
  · exact load_traps (n := 1) (onTask_run h _ : execLdbu p d a imm s = _) had (by decide) hr
  · exact store_traps (onTask_run h _ : execStw p d a imm s = _) had hr
  · exact store_traps (onTask_run h _ : execSth p d a imm s = _) had hr
  · exact store_traps (onTask_run h _ : execStb p d a imm s = _) had hr

/-! ### What a load returns (R9, R11, R68) -/

theorem memRead_eq_map (m : Memory) (a n : Nat) : memRead m a n = (List.range n).map (fun k => memGet m (a + k)) := by
  induction n generalizing a with
  | zero => rfl
  | succ n ih =>
    rw [List.range_succ_eq_map, List.map_cons, List.map_map, memRead, ih]
    simp only [Nat.add_zero, Function.comp_def, Nat.succ_eq_add_one, Nat.add_assoc, Nat.add_comm 1]

/-- The bytes of a memory by their device address are those of the statements. -/
theorem State.rawGet_eq (s : State) (A n : Nat) : s.rawGet A n = (List.range n).map (devByte s A) := by
  unfold State.rawGet State.dramBytes
  rw [memRead_eq_map, memRead_eq_map]
  unfold devByte
  split <;> rfl

theorem State.memCheck_clean {s : State} {A n : Nat} (h : s.mem.clean A n = true) : s.memCheck A n = (s, false) := by
  unfold Mem.clean at h
  unfold State.memCheck
  split at h
  · rename_i hA
    rw [if_pos hA]
    rw [List.isEmpty_iff] at h
    have hb : wordsHit s.mem.badWords A n = [] := by
      rw [wordsHit, List.filter_append] at h
      exact (List.append_eq_nil_iff.1 h).1
    simp [State.dramRead, State.errUnits, State.badUnits, h, hb]
  · rename_i hA
    rw [if_neg hA]
    simp only [Bool.and_eq_true, List.isEmpty_iff] at h
    obtain ⟨⟨hone, hbad⟩, hlost⟩ := h
    simp [State.sramRead, hone, hbad, hlost]

theorem sext_eq_toInt (w v : Nat) : sext w v = (BitVec.ofNat w v).toInt := by
  rw [BitVec.toInt_eq_toNat_cond, BitVec.toNat_ofNat, sext]
  by_cases h : 2 ^ w ≤ 2 * (v % 2 ^ w)
  · rw [if_pos h, if_neg (Nat.not_lt.2 h)]; norm_cast
  · rw [if_neg h, if_pos (Nat.not_le.1 h)]; norm_cast

theorem ofInt_sext (w v : Nat) : BitVec.ofInt 32 (sext w v) = (BitVec.ofNat w v).signExtend 32 := by rw [sext_eq_toInt]; rfl

/-! ### Loads -/

theorem State.dramWait_fetching (s : State) (i : Nat) (t : Task) (a : Arch) (c : Nat) :
    Fetching s (s.dramWait i t a c) i t { a with pc := t.arch.pc + 1 } c := by
  obtain ⟨htask, hrun, hrest⟩ := s.leave_engine i _ t.phys
  exact ⟨htask, hrun, hrest, rfl⟩

section
variable {s : State} {i : Nat} {t : Task} {d a : BitVec 5} {imm : BitVec 16} {n : Nat} {ext : Nat → Int}

/-- A load that does not trap, of bytes that hold no error, outside a replay. -/
theorem State.load_of_clean (h : t.accessTrap (t.arch.addr a imm) n false = none) (hc : s.mem.clean (t.segAddr (t.arch.addr a imm)) n = true)
    (hr : s.replaying = false) {v : Int} (hv : ext (bytesToNat (s.rawGet (t.segAddr (t.arch.addr a imm)) n)) = v) :
    s.load i t d a imm n ext = if t.locOf (t.arch.addr a imm) = 2
      then (s.record 0x12 i [v]).draw.2.dramWait i t (t.arch.setW d (BitVec.ofInt 32 v)) (60 + (s.record 0x12 i [v]).draw.1)
      else s.retire i t (t.arch.setW d (BitVec.ofInt 32 v)) (if t.locOf (t.arch.addr a imm) = 1 then 32 else 2) := by
  unfold State.load
  dsimp only
  rw [h, State.memCheck_clean hc]
  simp only [Bool.false_eq_true, if_false, hv]
  split
  · rename_i hl
    simp only [State.taken_eq hr, State.accessCycles, State.accessEnd, if_pos hl]
  · rename_i hl
    simp only [State.accessCycles, State.accessEnd, if_neg hl]

/-- What a load does in SRAM and in DRAM (R94, R95). -/
theorem load_runs {o : Host.Outcome State Fault Refusal} (ho : o = .next (s.load i t d a imm n ext)) {ad A : Nat}
    (had : ad = (t.arch.getW a + imm.signExtend 32).toNat) (hA : A = t.segAddr ad) (ha : ad % n = 0)
    (hseg : ∃ g, t.hdr.segs.find? (fun d => d.seg == ad / 2 ^ 28) = some g ∧ ad % 2 ^ 28 + n ≤ g.size) (hc : s.mem.clean A n = true)
    (hr : s.replaying = false) {r : Word} (hv : BitVec.ofInt 32 (ext (bytesToNat (s.rawGet A n))) = r) :
    (t.locOf ad ≠ 2 → Runs o (fun u => Wrote s u i t d r (sameFlags t.arch) (if t.locOf ad = 1 then 32 else 2)))
    ∧ (t.locOf ad = 2 → Runs o (fun u => ∃ s1 c a, onlyRecorder s s1 ∧ 60 ≤ c ∧ Fetching s1 u i t a c ∧ a.pc = t.arch.pc + 1 ∧ a.t = t.arch.t
        ∧ a.ref = t.arch.ref ∧ sameFlags a = sameFlags t.arch ∧ ∀ e : BitVec 5, a.getW e = if e = d ∧ d ≠ 0 then r else t.arch.getW e)) := by
  subst had hA
  obtain ⟨g, hf, hsz⟩ := hseg
  have hl := State.load_of_clean (i := i) (d := d) (ext := ext) (Task.accessTrap_none ha (Task.segFor_eq_some hf hsz) Bool.noConfusion) hc hr rfl
  refine ⟨fun hloc => ⟨_, ho.trans (congrArg _ (hl.trans (if_neg hloc))), ?_⟩, fun hloc => ⟨_, ho.trans (congrArg _ (hl.trans (if_pos hloc))), ?_⟩⟩
  · rw [← hv]
    exact retire_wrote_only s i t d _ _
  · refine ⟨_, _, _, onlyRecorder_trans (s.record_recorder _ _ _) (State.draw_recorder _), Nat.le_add_right 60 _, State.dramWait_fetching _ i t _ _, rfl, ?_⟩
    rw [← hv]
    exact ⟨t.arch.setW_t d _, t.arch.setW_ref d _, Arch.sameFlags_setW t.arch d _, fun e => t.arch.getW_setW d e _⟩

end

/-! ### What a store leaves in memory (R158, R162) -/

/-- What the errors that a write finds may change: the books of the memories, register fields, messages and free values, but not the bytes of a memory. -/
structure Kept (s u : State) : Prop where
  eq : u = { s with mem := u.mem, fields := u.fields, faultQ := u.faultQ, freeCtr := u.freeCtr }
  dram : u.mem.dram = s.mem.dram
  sram : u.mem.sram = s.mem.sram

/-- As above, with the uncorrectable words of the page store as they were. -/
structure Found (s u : State) : Prop extends Kept s u where
  bad : u.mem.badWords = s.mem.badWords

protected theorem Kept.refl (s : State) : Kept s s := ⟨rfl, rfl, rfl⟩

theorem Kept.trans {s t u : State} (h : Kept s t) (k : Kept t u) : Kept s u :=
  ⟨by rw [k.eq, h.eq], k.dram.trans h.dram, k.sram.trans h.sram⟩

theorem Found.trans {s t u : State} (h : Found s t) (k : Found t u) : Found s u :=
  ⟨h.toKept.trans k.toKept, k.bad.trans h.bad⟩

theorem Kept.ite {s a b : State} {c : Prop} [Decidable c] (ha : Kept s a) (hb : Kept s b) : Kept s (if c then a else b) := by
  split <;> assumption

theorem Kept.foldl {α : Type} {f : State → α → State} (h : ∀ s a, Kept s (f s a)) (l : List α) (s : State) : Kept s (l.foldl f s) := by
  induction l generalizing s with
  | nil => exact Kept.refl s
  | cons a l ih => exact (h s a).trans (ih (f s a))

theorem State.fset_found (s : State) (f : Fld) (v : Nat) : Found s (s.fset f v) := ⟨⟨rfl, rfl, rfl⟩, rfl⟩

theorem State.sendFault_found (s : State) (src kind detail : Nat) : Found s (s.sendFault src kind detail) := ⟨⟨rfl, rfl, rfl⟩, rfl⟩

theorem State.sendFree_found (s : State) (src kind : Nat) : Found s (s.sendFree src kind).1 := ⟨⟨rfl, rfl, rfl⟩, rfl⟩

theorem State.armed_found (s : State) (m : List (Nat × Bool)) : Found s { s with mem := { s.mem with armed := m } } := ⟨⟨rfl, rfl, rfl⟩, rfl⟩

theorem State.eccErr_found (s : State) (a kind : Nat) : Found s (s.eccErr a kind) :=
  (((s.sendFault_found _ _ _).trans (State.fset_found _ _ _)).trans (State.fset_found _ _ _)).trans (State.fset_found _ _ _)

theorem State.bucketAdd_found (s : State) (c : Nat) : Found s (s.bucketAdd c) := by
  have hfull : Found s ((s.fset (MEMI_LEAKc_LEVEL c) 16).flag (MEMI_LEAKc_OVF c)) := (s.fset_found _ _).trans (State.fset_found _ _ _)
  unfold State.bucketAdd
  extract_lets l s1 s2
  split
  · exact ⟨⟨rfl, rfl, rfl⟩, rfl⟩
  · split
    · exact s.fset_found _ _
    · split
      · exact (hfull.trans (State.sendFree_found _ _ _)).trans (State.armed_found _ _)
      · exact hfull

/-- A line without an uncorrectable word is remapped with its content (R166). -/
theorem State.remapAdd_kept {s : State} {line : Nat} (h : s.mem.badWords.any (fun w => w / 8 == line) = false) (auto : Bool) :
    Kept s (s.remapAdd line auto) := by
  unfold State.remapAdd
  split
  · refine ⟨rfl, ?_, rfl⟩
    show (if s.mem.badWords.any (fun w => w / 8 == line) = true then memWrite s.mem.dram (line * 64) (List.replicate 64 0) else s.mem.dram) = s.mem.dram
    rw [h]; rfl
  · exact ⟨rfl, rfl, rfl⟩

theorem State.lineSeen_kept {s : State} {line : Nat} (h : s.mem.badWords.any (fun w => w / 8 == line) = false) (walk : Bool) :
    Kept s (s.lineSeen line walk) := by
  unfold State.lineSeen
  dsimp only
  split
  · exact Kept.refl s
  · exact Kept.ite (State.remapAdd_kept h true) ⟨rfl, rfl, rfl⟩

theorem State.unitRead_kept (s : State) (u : Nat) (walk : Bool) : Kept s (s.unitRead u walk) := by
  unfold State.unitRead
  split
  · exact (s.eccErr_found _ _).toKept
  · rename_i hb
    split
    · have hf : Found s ((s.eccErr (u * 64) 1).bucketAdd 0) := (s.eccErr_found _ _).trans (State.bucketAdd_found _ 0)
      exact hf.toKept.trans (State.lineSeen_kept (by rw [hf.bad]; exact Bool.eq_false_of_not_eq_true hb) walk)
    · exact Kept.refl s

theorem State.mergePut_kept (s : State) (line : Nat) (offs : List Nat) : Kept s (s.mergePut line offs) := by
  unfold State.mergePut
  split
  · exact ⟨rfl, rfl, rfl⟩
  · extract_lets s1 s2
    have h1 : Kept s s1 := by
      simp only [s1]
      split
      · exact Kept.refl s
      · split <;> exact ⟨rfl, rfl, rfl⟩
    have h2 : Kept s s2 := h1.trans (s1.unitRead_kept line false)
    exact h2.trans ⟨rfl, rfl, rfl⟩

/-- A write to the page store: the bytes stand where they were put, and beside the bytes it changes what errors it finds may change. -/
theorem State.dramWrite_eq (s : State) (a : Nat) (b : List Byte) :
    s.dramWrite a b = { s with mem := (s.dramWrite a b).mem, fields := (s.dramWrite a b).fields, faultQ := (s.dramWrite a b).faultQ,
                               freeCtr := (s.dramWrite a b).freeCtr }
      ∧ (s.dramWrite a b).mem.dram = memWrite s.mem.dram a b ∧ (s.dramWrite a b).mem.sram = s.mem.sram := by
  unfold State.dramWrite
  extract_lets len ps held s1
  have h1 : Kept s s1 := Kept.foldl (fun s l => s.mergePut_kept l _) _ s
  refine ⟨?_, by rw [← h1.dram], h1.sram⟩
  have hq := h1.eq
  generalize s1 = x at hq
  rw [hq]

theorem natToBytes_getElem (v n k : Nat) (h : k < (natToBytes v n).length) : (natToBytes v n)[k] = BitVec.ofNat 8 (v / 256 ^ k) := by
  induction n generalizing v k with
  | zero => exact absurd h (Nat.not_lt_zero k)
  | succ n ih =>
    cases k with
    | zero => simp [natToBytes]
    | succ k =>
      have := ih (v / 256) k (by simpa [natToBytes] using h)
      simpa [natToBytes, Nat.div_div_eq_div_mul, Nat.pow_succ', Nat.mul_comm] using this

theorem length_natToBytes (v n : Nat) : (natToBytes v n).length = n := by
  induction n generalizing v with
  | zero => rfl
  | succ n ih => simp [natToBytes, ih]

/-- What bytes put at a device address leave: they read back, and no other byte of either memory has changed (R9, R11). -/
structure Put (s u : State) (A v n : Nat) : Prop where
  eq : u = { s with mem := u.mem, fields := u.fields, faultQ := u.faultQ, freeCtr := u.freeCtr }
  bytes : ∀ k, k < n → devByte u A k = BitVec.ofNat 8 (v / 256 ^ k)
  sram : sramBase ≤ A → u.mem.dram = s.mem.dram ∧ u.fields = s.fields ∧ u.faultQ = s.faultQ
    ∧ ∀ k, k < A - sramBase ∨ A - sramBase + n ≤ k → memGet u.mem.sram k = memGet s.mem.sram k
  dram : A < sramBase → u.mem.sram = s.mem.sram ∧ ∀ k, k < A ∨ A + n ≤ k → memGet u.mem.dram k = memGet s.mem.dram k

theorem State.rawPut_put (s : State) (A v n : Nat) : Put s (s.rawPut A (natToBytes v n)) A v n := by
  have hlen := length_natToBytes v n
  have hin : ∀ (m : Memory) (a k : Nat), k < n → memGet (memWrite m a (natToBytes v n)) (a + k) = BitVec.ofNat 8 (v / 256 ^ k) := fun m a k hk => by
    rw [memGet_memWrite_in _ m a k (by rw [hlen]; exact hk), natToBytes_getElem]
  have hout : ∀ (m : Memory) (a k : Nat), k < a ∨ a + n ≤ k → memGet (memWrite m a (natToBytes v n)) k = memGet m k := fun m a k hk =>
    memGet_memWrite_out _ m a k (by rw [hlen]; exact hk)
  unfold State.rawPut
  split
  · rename_i hA
    obtain ⟨heq, hdram, hsram⟩ := s.dramWrite_eq A (natToBytes v n)
    refine ⟨heq, fun k hk => ?_, fun hA' => absurd hA (Nat.not_lt.2 hA'), fun _ => ⟨hsram, fun k hk => ?_⟩⟩
    · rw [devByte, if_pos hA, hdram]; exact hin _ A k hk
    · rw [hdram]; exact hout _ A k hk
  · rename_i hA
    refine ⟨rfl, fun k hk => ?_, fun _ => ⟨rfl, rfl, rfl, fun k hk => hout _ _ k hk⟩, fun hA' => absurd hA' hA⟩
    rw [devByte, if_neg hA]
    exact hin _ (A - sramBase) k hk

/-- A store in an aligned place of a declared segment that is not read-only. -/
theorem State.store_of_ok {s : State} {i : Nat} {t : Task} {d a : BitVec 5} {imm : BitVec 16} {n : Nat}
    (h : t.accessTrap (t.arch.addr a imm) n true = none) {s1 : State}
    (hs : s.rawPut (t.segAddr (t.arch.addr a imm)) (natToBytes (t.arch.getW d).toNat n) = s1) :
    s.store i t d a imm n = if t.locOf (t.arch.addr a imm) = 2 then s1.draw.2.dramWait i t t.arch (60 + s1.draw.1)
      else s1.retire i t t.arch (if t.locOf (t.arch.addr a imm) = 1 then 32 else 1) := by
  unfold State.store
  dsimp only
  rw [h, hs]
  by_cases hl : t.locOf (t.arch.addr a imm) = 2
  · simp only [State.accessCycles, State.accessEnd, if_pos hl]
  · simp only [State.accessCycles, State.accessEnd, if_neg hl]

theorem store_runs {s : State} {i : Nat} {t : Task} {d a : BitVec 5} {imm : BitVec 16} {n : Nat} {o : Host.Outcome State Fault Refusal}
    (ho : o = .next (s.store i t d a imm n)) {ad A : Nat} (had : ad = (t.arch.getW a + imm.signExtend 32).toNat) (hA : A = t.segAddr ad) (ha : ad % n = 0)
    (hseg : ∃ g, t.hdr.segs.find? (fun d => d.seg == ad / 2 ^ 28) = some g ∧ ad % 2 ^ 28 + n ≤ g.size ∧ g.ro = false) :
    Runs o (fun u => (∀ k, k < n → devByte u A k = BitVec.ofNat 8 ((t.arch.getW d).toNat / 256 ^ k))
      ∧ (sramBase ≤ A → u.mem.dram = s.mem.dram ∧ u.fields = s.fields ∧ u.faultQ = s.faultQ
          ∧ ∀ k, k < A - sramBase ∨ A - sramBase + n ≤ k → memGet u.mem.sram k = memGet s.mem.sram k)
      ∧ (A < sramBase → u.mem.sram = s.mem.sram ∧ ∀ k, k < A ∨ A + n ≤ k → memGet u.mem.dram k = memGet s.mem.dram k)
      ∧ ∃ s1 c, s1 = { s with mem := u.mem, fields := u.fields, faultQ := u.faultQ, freeCtr := u.freeCtr }
          ∧ (t.locOf ad = 2 → 60 ≤ c ∧ Fetching s1 u i t { t.arch with pc := t.arch.pc + 1 } c)
          ∧ (t.locOf ad ≠ 2 → c = (if t.locOf ad = 1 then 32 else 1) ∧ Retired s1 u i t { t.arch with pc := t.arch.pc + 1 } c)) := by
  subst had hA
  obtain ⟨g, hf, hsz, hg⟩ := hseg
  have hput := s.rawPut_put (t.segAddr (t.arch.addr a imm)) (t.arch.getW d).toNat n
  have hst := State.store_of_ok (i := i) (Task.accessTrap_none ha (Task.segFor_eq_some hf hsz) (fun _ => hg)) (s := s) (d := d) rfl
  generalize s.rawPut (t.segAddr (t.arch.addr a imm)) (natToBytes (t.arch.getW d).toNat n) = s1 at hput hst
  by_cases hloc : t.locOf (t.arch.addr a imm) = 2
  · refine ⟨_, ho.trans (congrArg _ (hst.trans (if_pos hloc))), hput.bytes, hput.sram, hput.dram, s1.draw.2, _, ?_,
      fun _ => ⟨Nat.le_add_right 60 _, s1.draw.2.dramWait_fetching i t t.arch _⟩, fun h => absurd hloc h⟩
    exact congrArg (fun x : State => x.draw.2) hput.eq
  · exact ⟨_, ho.trans (congrArg _ (hst.trans (if_neg hloc))), hput.bytes, hput.sram, hput.dram, s1, _, hput.eq, fun h => absurd h hloc,
      fun _ => ⟨rfl, retire_retired s1 i t _ rfl⟩⟩

theorem State.bytesToNat_rawGet4 (s : State) (A : Nat) : bytesToNat (s.rawGet A 4)
    = (devByte s A 0).toNat + (devByte s A 1).toNat * 2 ^ 8 + (devByte s A 2).toNat * 2 ^ 16 + (devByte s A 3).toNat * 2 ^ 24 := by
  simp only [State.rawGet_eq, show List.range 4 = [0, 1, 2, 3] from rfl, List.map, bytesToNat]; omega

theorem State.bytesToNat_rawGet2 (s : State) (A : Nat) : bytesToNat (s.rawGet A 2) = (devByte s A 0).toNat + (devByte s A 1).toNat * 2 ^ 8 := by
  simp only [State.rawGet_eq, show List.range 2 = [0, 1] from rfl, List.map, bytesToNat]; omega

theorem State.bytesToNat_rawGet1 (s : State) (A : Nat) : bytesToNat (s.rawGet A 1) = (devByte s A 0).toNat := by
  simp only [State.rawGet_eq, show List.range 1 = [0] from rfl, List.map, bytesToNat]; omega

/-- Settles O9: a load returns the bytes of its place, extended; a store puts its bytes there and leaves the others. -/
theorem loadsAndStores : Obligations.LoadsAndStores := by
  refine ⟨fun p d a imm ad A s i t h had hA x hx hal hseg hc hr => ?_, fun p d a imm ad A s i t h had hA x hx hal hseg => ?_⟩
  · simp only [List.mem_cons, List.not_mem_nil, or_false] at hx
    rcases hx with rfl | rfl | rfl | rfl | rfl
    · refine load_runs (n := 4) (onTask_run h _ : execLdw p d a imm s = _) had hA hal hseg hc hr ?_
      rw [BitVec.ofInt_natCast, s.bytesToNat_rawGet4]
    · refine load_runs (n := 2) (onTask_run h _ : execLdh p d a imm s = _) had hA hal hseg hc hr ?_
      rw [ofInt_sext, s.bytesToNat_rawGet2]
    · refine load_runs (n := 2) (onTask_run h _ : execLdhu p d a imm s = _) had hA hal hseg hc hr ?_
      rw [BitVec.ofInt_natCast, s.bytesToNat_rawGet2]
    · refine load_runs (n := 1) (onTask_run h _ : execLdb p d a imm s = _) had hA hal hseg hc hr ?_
      rw [ofInt_sext, s.bytesToNat_rawGet1]
    · refine load_runs (n := 1) (onTask_run h _ : execLdbu p d a imm s = _) had hA hal hseg hc hr ?_
      rw [BitVec.ofInt_natCast, s.bytesToNat_rawGet1]
  · simp only [List.mem_cons, List.not_mem_nil, or_false] at hx
    rcases hx with rfl | rfl | rfl
    · exact store_runs (n := 4) (onTask_run h _ : execStw p d a imm s = _) had hA hal hseg
    · exact store_runs (n := 2) (onTask_run h _ : execSth p d a imm s = _) had hA hal hseg
    · exact store_runs (n := 1) (onTask_run h _ : execStb p d a imm s = _) had hA hal hseg

end Sys2Proof.Machine
end

section
/-! Releases and messages (R84 to R86, R101): what a release leaves alone, beside what the frames of reports say; then SEND, RECV, CHCNT and the end of
their waits. -/

namespace Sys2Proof.Machine

/-! ### What an event may not touch (R82, R101) -/

@[simp] theorem sansEvent_setTask (s : State) (i : Nat) (t : Task) : sansEvent (s.setTask i t) = sansEvent s := rfl
@[simp] theorem sansEvent_setRunning (s : State) (p : Nat) (o : Option Nat) : sansEvent (s.setRunning p o) = sansEvent s := rfl
@[simp] theorem sansEvent_setChan (s : State) (k : Nat) (l : List Word) : sansEvent (s.setChan k l) = sansEvent s := rfl
@[simp] theorem sansEvent_makeReady (s : State) (i : Nat) (t : Task) : sansEvent (s.makeReady i t) = sansEvent s := rfl
@[simp] theorem sansEvent_retire (s : State) (i : Nat) (t : Task) (a : Arch) (c : Nat) : sansEvent (s.retire i t a c) = sansEvent s := rfl
@[simp] theorem sansEvent_flag (s : State) (f : Fld) : sansEvent (s.flag f) = sansEvent s := rfl
@[simp] theorem sansEvent_sendOpen (s : State) (src : Nat) : sansEvent (s.sendOpen src) = sansEvent s := rfl

@[simp] theorem sansEvent_record (s : State) (typ sub : Nat) (d : List Int) : sansEvent (s.record typ sub d) = sansEvent s := by
  obtain ⟨hs, hm, -⟩ := s.record_only typ sub d
  generalize s.record typ sub d = r at hs hm
  unfold sansEvent
  rw [hs, hm]

@[simp] theorem sansEvent_loseRelease (s : State) (i : Nat) (t : Task) : sansEvent (s.loseRelease i t) = sansEvent s := by
  simp [State.loseRelease]

@[simp] theorem sansEvent_pendRelease (s : State) (i : Nat) (t : Task) (r : Release) : sansEvent (s.pendRelease i t r) = sansEvent s := by
  unfold State.pendRelease
  extract_lets t1
  split
  · rfl
  · split <;> simp

@[simp] theorem sansEvent_recordPlace (s : State) (r : List Nat) : sansEvent (s.recordPlace r) = sansEvent s := by
  simp only [State.recordPlace, sansEvent_record]; rfl

@[simp] theorem sansEvent_releaseNow (s : State) (i : Nat) (r : Release) : sansEvent (s.releaseNow i r) = sansEvent s := by
  unfold State.releaseNow
  split
  · rfl
  · split
    · simp
    · simp
    · simp
    · simp
    · split
      · split
        · dsimp only; split <;> simp
        · simp
      · simp
    · simp

@[simp] theorem sansEvent_release (s : State) (i : Nat) (r : Release) : sansEvent (s.release i r) = sansEvent s := by
  unfold State.release
  split <;> simp

/-- Where the frame of a report leaves the memories too, only the recorder ring has been written. -/
theorem Frame.onlyRing {α : Type} {v : State → α} {ks : List Fld} {s u : State} (h : Frame v ks s u) (he : sansEvent u = sansEvent s) : onlyRing s u := by
  obtain ⟨⟨-, hd, hw⟩, -⟩ := h.mem
  have hm : (sansEvent u).mem = (sansEvent s).mem := by rw [he]
  refine ⟨?_, hd, hw⟩
  exact congrArg (fun m : Mem => { m with dram := u.mem.dram, badWords := u.mem.badWords, oneBits := u.mem.oneBits }) hm

/-! ### The engine side of a release -/

/-- Of the tasks only `i` may have changed, and neither the channels nor what the engines run. -/
structure TaskOnly (i : Nat) (s u : State) : Prop where
  chans : u.ex.chans = s.ex.chans
  running : u.ex.running = s.ex.running
  rest : ∀ j, j ≠ i → u.task? j = s.task? j

namespace TaskOnly

variable {i : Nat} {s t u : State}

theorem trans (h : TaskOnly i s t) (k : TaskOnly i t u) : TaskOnly i s u :=
  ⟨k.chans.trans h.chans, k.running.trans h.running, fun j hj => (k.rest j hj).trans (h.rest j hj)⟩

theorem of_tasks (hc : u.ex.chans = s.ex.chans) (hr : u.ex.running = s.ex.running) (ht : u.ex.tasks = s.ex.tasks) : TaskOnly i s u :=
  ⟨hc, hr, fun j _ => by unfold State.task?; rw [ht]⟩

theorem of_ex (h : u.ex = s.ex) : TaskOnly i s u := of_tasks (by rw [h]) (by rw [h]) (by rw [h])

protected theorem refl (i : Nat) (s : State) : TaskOnly i s s := of_ex rfl

end TaskOnly

theorem State.setTask_taskOnly (s : State) (i : Nat) (t : Task) : TaskOnly i s (s.setTask i t) := ⟨rfl, rfl, fun j => s.task?_setTask_ne i j t⟩

theorem State.loseRelease_taskOnly (s : State) (i : Nat) (t : Task) : TaskOnly i s (s.loseRelease i t) :=
  (s.setTask_taskOnly i { t with overrun := min 65535 (t.overrun + 1) }).trans (.of_ex rfl)

theorem State.pendRelease_taskOnly (s : State) (i : Nat) (t : Task) (r : Release) : TaskOnly i s (s.pendRelease i t r) := by
  unfold State.pendRelease
  extract_lets t1
  split
  · exact s.setTask_taskOnly i _
  · split
    · exact s.setTask_taskOnly i _
    · exact s.loseRelease_taskOnly i _

theorem State.recordPlace_taskOnly (s : State) (i : Nat) (r : List Nat) : TaskOnly i s (s.recordPlace r) := by
  unfold State.recordPlace
  refine .of_tasks ?_ ?_ ?_ <;> rw [State.record_ex]

theorem State.releaseNow_taskOnly (s : State) (i : Nat) (r : Release) : TaskOnly i s (s.releaseNow i r) := by
  unfold State.releaseNow
  split
  · exact .refl i s
  · rename_i t _
    split
    · exact s.setTask_taskOnly i _
    · exact s.pendRelease_taskOnly i t r
    · exact s.pendRelease_taskOnly i t r
    · exact s.pendRelease_taskOnly i t r
    · split
      · split
        · refine TaskOnly.trans ?_ (State.recordPlace_taskOnly _ i _)
          have hready : TaskOnly i s (s.makeReady i (t.restart true false)) := s.setTask_taskOnly i _
          split
          · exact hready.trans (State.pendRelease_taskOnly _ i _ r)
          · exact hready
        · exact (s.setTask_taskOnly i _).trans (State.recordPlace_taskOnly _ i _)
      · exact s.loseRelease_taskOnly i t
    · exact s.loseRelease_taskOnly i t

theorem State.release_taskOnly (s : State) (i : Nat) (r : Release) : TaskOnly i s (s.release i r) := by
  unfold State.release
  split
  · exact .refl i s
  · exact TaskOnly.trans (.of_ex (s.record_ex _ _ _)) (State.releaseNow_taskOnly _ i r)

/-! ### A word on a trigger channel (R101) -/

theorem sansEvent_messageRelease (s : State) (ch : Nat) : sansEvent (s.messageRelease ch) = sansEvent s := by
  refine List.foldlRecOn (motive := fun u => sansEvent u = sansEvent s) _ _ rfl (fun u hu i _ => ?_)
  split
  · split
    · rw [sansEvent_release]; exact hu
    · exact hu
  · exact hu

theorem State.messageRelease_frame (s : State) (ch : Nat) : Frame viewReport reportFields s (s.messageRelease ch) :=
  Frame.foldl (fun s i => by
    split
    · split
      · exact s.release_frame i _
      · exact .refl _ _ s
    · exact .refl _ _ s) _ s

theorem State.messageRelease_chans (s : State) (ch : Nat) : (s.messageRelease ch).ex.chans = s.ex.chans := by
  refine List.foldlRecOn (motive := fun u : State => u.ex.chans = s.ex.chans) _ _ rfl (fun u hu i _ => ?_)
  split
  · split
    · exact (u.release_taskOnly i _).chans.trans hu
    · exact hu
  · exact hu

/-- A task in an activation, or stopped, is not released by a word. -/
theorem State.messageRelease_task {s : State} {i : Nat} {x : Task} (hx : s.task? i = some x) (hidle : x.stat ≠ .idle) (htrap : x.stat ≠ .trapped) (ch : Nat) :
    (s.messageRelease ch).task? i = some x := by
  refine List.foldlRecOn (motive := fun u : State => u.task? i = some x) _ _ hx (fun u hu j _ => ?_)
  split
  · rename_i y hy
    split
    · rename_i hrel
      have hji : i ≠ j := by
        rintro rfl
        obtain rfl : x = y := Option.some.inj (hu.symm.trans hy)
        obtain ⟨-, -, -, -, hs | ha⟩ := hrel
        · exact hidle hs
        · simp [Task.autoRestart, htrap] at ha
      exact ((u.release_taskOnly j _).rest i hji).trans hu
    · exact hu
  · exact hu

/-! ### Channels (R84) -/

@[simp] theorem State.chan_setChan_same (s : State) (k : Nat) (l : List Word) : (s.setChan k l).chan k = l := by
  cases l <;> simp [State.chan, State.setChan]

theorem State.chan_setChan_ne (s : State) (k j : Nat) (l : List Word) (h : j ≠ k) : (s.setChan k l).chan j = s.chan j := by
  cases l
  · simp [State.chan, State.setChan, kvGet_kvDel_ne _ _ _ h]
  · simp [State.chan, State.setChan, kvGet_kvSet_ne _ _ _ _ h]

theorem State.chan_of_chans {s u : State} (h : u.ex.chans = s.ex.chans) (k : Nat) : u.chan k = s.chan k := by
  unfold State.chan; rw [h]

theorem State.record_tick (s : State) (typ sub : Nat) (d : List Int) : (s.record typ sub d).tick = s.tick := by rw [(s.record_only typ sub d).1]

theorem State.setChan_frame (s : State) (k : Nat) (l : List Word) : Frame viewReport reportFields s (s.setChan k l) := .of_fields rfl rfl rfl

/-- A word reaches its channel after a record of it: the sender holds `x`, the word is the newest, and a task that waits for it is released. -/
theorem State.word_sent (s : State) (typ sub : Nat) (d : List Int) (i k : Nat) (w : Word) {x : Task} (hidle : x.stat ≠ .idle) (htrap : x.stat ≠ .trapped)
    {u : State} (hu : u = (((s.record typ sub d).setTask i x).setChan k (s.chan k ++ [w])).messageRelease k) :
    u.task? i = some x ∧ u.chan k = s.chan k ++ [w] ∧ (∀ j, j ≠ k → u.chan j = s.chan j) ∧ sansEvent u = sansEvent s ∧ onlyRing s u := by
  subst hu
  have hframe : Frame viewReport reportFields s (((s.record typ sub d).setTask i x).setChan k (s.chan k ++ [w])) :=
    (s.record_frame typ sub d _).trans ((State.setTask_frame _ i x).trans (State.setChan_frame _ k _))
  have hsans : sansEvent ((((s.record typ sub d).setTask i x).setChan k (s.chan k ++ [w])).messageRelease k) = sansEvent s := by
    rw [sansEvent_messageRelease]; simp
  have htask : (((s.record typ sub d).setTask i x).setChan k (s.chan k ++ [w])).task? i = some x := State.task?_setTask_same _ i x
  refine ⟨State.messageRelease_task htask hidle htrap k, ?_, fun j hj => ?_, hsans,
    (hframe.trans (State.messageRelease_frame _ k)).onlyRing hsans⟩
  · rw [State.chan_of_chans (State.messageRelease_chans _ k), State.chan_setChan_same]
  · rw [State.chan_of_chans (State.messageRelease_chans _ k), State.chan_setChan_ne _ k j _ hj]
    unfold State.chan
    rw [State.setTask, State.record_ex]

/-! ### SEND, RECV and CHCNT at their issue (R84, R85) -/

section
variable {p : Nat} {s : State} {i : Nat} {t : Task} {d a : BitVec 5} {l x nb : Bool} {ch : BitVec 8} {c : Nat} {dirs : List Bool}

theorem chanTrap_illegal (h : x = true ∧ ch ≠ 0) : chanTrap t x ch c dirs = some trapIllegal := if_pos h

theorem chanTrap_none (h : ¬ (x = true ∧ ch ≠ 0)) {b : Bool} (hb : b ∈ dirs) (hc : (c, b) ∈ t.hdr.chans) : chanTrap t x ch c dirs = none := by
  unfold chanTrap
  rw [if_neg h, if_pos]
  exact List.any_eq_true.2 ⟨b, hb, List.contains_iff_mem.2 hc⟩

theorem chanTrap_channel (h : ¬ (x = true ∧ ch ≠ 0)) (hc : ∀ b ∈ dirs, (c, b) ∉ t.hdr.chans) : chanTrap t x ch c dirs = some trapChannel := by
  unfold chanTrap
  rw [if_neg h, if_neg]
  intro hany
  obtain ⟨b, hb, hm⟩ := List.any_eq_true.1 hany
  exact hc b hb (List.contains_iff_mem.1 hm)

/-- What SEND and RECV do where they cannot go on at once, outside a replay (R81, R85). -/
theorem limitNow_cases (hr : s.replaying = false) (i : Nat) (a : Arch) (l : Bool) :
    (l = true ∧ 0 ≤ (s.now - a.getT 3).toInt → s.limitNow i (a.limit l) = some (s.record 0x11 i [4, 1, 0, 1]))
    ∧ (¬ (l = true ∧ 0 ≤ (s.now - a.getT 3).toInt) → s.limitNow i (a.limit l) = none) := by
  unfold State.limitNow
  rw [if_neg (by rw [hr]; decide)]
  exact ⟨fun h => if_pos ((limitHit_iff _ _ _).2 h), fun h => if_neg (mt (limitHit_iff _ _ _).1 h)⟩

theorem execSend_space (h : onEngine s p i t) (hk : chanTrap t x ch c [true] = none) (hc : c = chanOf t.arch a x ch) (hs : (s.chan c).length < 16) :
    execSend p d a l x nb ch s = .next ((((s.record 0x13 c [(i : Int), 0]).retire i t (t.arch.setFlags false false true false) 4).setChan c
      (s.chan c ++ [t.arch.getW d])).messageRelease c) := by
  subst hc
  simp [execSend, onTask_run h, hk, chanDepth, hs]

theorem execSend_full (h : onEngine s p i t) (hk : chanTrap t x ch c [true] = none) (hc : c = chanOf t.arch a x ch) (hs : 16 ≤ (s.chan c).length) :
    (nb = true → execSend p d a l x nb ch s = .next (s.retire i t (t.arch.setFlags false false false false) 4))
    ∧ (nb = false → ∀ s1, s.limitNow i (t.arch.limit l) = some s1 →
        execSend p d a l x nb ch s = .next (s1.retire i t (t.arch.setFlags false true false false) 4))
    ∧ (nb = false → s.limitNow i (t.arch.limit l) = none →
        execSend p d a l x nb ch s = .next ((s.record 0x13 c [(i : Int), 0]).block i t ⟨.send c (t.arch.getW d), t.arch.limit l, none⟩ 4)) := by
  subst hc
  refine ⟨fun hn => ?_, fun hn s1 hl => ?_, fun hn hl => ?_⟩
  · simp [execSend, onTask_run h, hk, chanDepth, Nat.not_lt.2 hs, hn]
  · simp [execSend, onTask_run h, hk, chanDepth, Nat.not_lt.2 hs, hn, hl]
  · simp [execSend, onTask_run h, hk, chanDepth, Nat.not_lt.2 hs, hn, hl]

theorem execRecv_word (h : onEngine s p i t) (hk : chanTrap t x ch c [false] = none) (hc : c = chanOf t.arch a x ch) {w : Word} {rest : List Word}
    (hs : s.chan c = w :: rest) : execRecv p d a l x nb ch s = .next (((s.record 0x13 c [(i : Int), 1]).retire i t
      ((t.arch.setW d w).setFlags false false true false) 4).setChan c rest) := by
  subst hc
  simp [execRecv, onTask_run h, hk, hs]

theorem execRecv_empty (h : onEngine s p i t) (hk : chanTrap t x ch c [false] = none) (hc : c = chanOf t.arch a x ch) (hs : s.chan c = []) :
    (nb = true → execRecv p d a l x nb ch s = .next (s.retire i t (t.arch.setFlags false false false false) 4))
    ∧ (nb = false → ∀ s1, s.limitNow i (t.arch.limit l) = some s1 →
        execRecv p d a l x nb ch s = .next (s1.retire i t (t.arch.setFlags false true false false) 4))
    ∧ (nb = false → s.limitNow i (t.arch.limit l) = none →
        execRecv p d a l x nb ch s = .next ((s.record 0x13 c [(i : Int), 1]).block i t ⟨.recv c d, t.arch.limit l, none⟩ 4)) := by
  subst hc
  refine ⟨fun hn => ?_, fun hn s1 hl => ?_, fun hn hl => ?_⟩
  · simp [execRecv, onTask_run h, hk, hs, hn]
  · simp [execRecv, onTask_run h, hk, hs, hn, hl]
  · simp [execRecv, onTask_run h, hk, hs, hn, hl]

theorem execChcnt_run (h : onEngine s p i t) (hk : chanTrap t x ch c [false, true] = none) (hc : c = chanOf t.arch a x ch) :
    execChcnt p d a x ch s = .next (s.retire i t (t.arch.setW d (BitVec.ofNat 32 (s.chan c).length)) 4) := by
  subst hc
  simp [execChcnt, onTask_run h, hk]

theorem execSend_trap (h : onEngine s p i t) {k : Nat} (hk : chanTrap t x ch (chanOf t.arch a x ch) [true] = some k) :
    execSend p d a l x nb ch s = .next (s.trap i t k) := by
  simp [execSend, onTask_run h, hk]

theorem execRecv_trap (h : onEngine s p i t) {k : Nat} (hk : chanTrap t x ch (chanOf t.arch a x ch) [false] = some k) :
    execRecv p d a l x nb ch s = .next (s.trap i t k) := by
  simp [execRecv, onTask_run h, hk]

theorem execChcnt_trap (h : onEngine s p i t) {k : Nat} (hk : chanTrap t x ch (chanOf t.arch a x ch) [true, false] = some k) :
    execChcnt p d a x ch s = .next (s.trap i t k) := by
  have hk' : chanTrap t x ch (chanOf t.arch a x ch) [false, true] = some k := by
    have hany : ∀ f : Bool → Bool, [false, true].any f = [true, false].any f := fun f => by simp [Bool.or_comm]
    unfold chanTrap at hk ⊢
    rwa [hany]
  simp [execChcnt, onTask_run h, hk']

/-- Where SEND and RECV cannot go on at once, outside a replay (R81, R85): they end with C = 0, or the task waits. -/
theorem refused_runs {o : Host.Outcome State Fault Refusal} {s' : State} {w : Wait} (hr : s.replaying = false) (hs : onlyRecorder s s')
    (hw : w.limit = t.arch.limit l ∧ w.hit = none)
    (ho : (nb = true → o = .next (s.retire i t (t.arch.setFlags false false false false) 4))
      ∧ (nb = false → ∀ s1, s.limitNow i (t.arch.limit l) = some s1 → o = .next (s1.retire i t (t.arch.setFlags false true false false) 4))
      ∧ (nb = false → s.limitNow i (t.arch.limit l) = none → o = .next (s'.block i t w 4))) :
    (nb = true → Runs o (fun u => Retired s u i t { t.arch with n := false, z := false, c := false, v := false, pc := t.arch.pc + 1 } 4))
    ∧ (nb = false → (l = true ∧ 0 ≤ (s.now - t.arch.getT 3).toInt) → Runs o (fun u => ∃ s1, onlyRecorder s s1 ∧
        Retired s1 u i t { t.arch with n := false, z := true, c := false, v := false, pc := t.arch.pc + 1 } 4))
    ∧ (nb = false → ¬ (l = true ∧ 0 ≤ (s.now - t.arch.getT 3).toInt) → Runs o (fun u => ∃ s1, onlyRecorder s s1 ∧
        Blocked s1 u i t ⟨w.kind, if l then some (t.arch.getT 3) else none, none⟩ 4)) := by
  obtain ⟨hnb, hlim, hwait⟩ := ho
  obtain ⟨hnow, hlater⟩ := limitNow_cases hr i t.arch l
  obtain ⟨kind, limit, hit⟩ := w
  obtain ⟨rfl, rfl⟩ := hw
  exact ⟨fun hn => ⟨_, hnb hn, retire_retired s i t 4 rfl⟩,
    fun hn hl => ⟨_, hlim hn _ (hnow hl), _, s.record_recorder _ _ _, retire_retired _ i t 4 rfl⟩,
    fun hn hl => ⟨_, hwait hn (hlater hl), s', hs, s'.block_blocked i t _ 4⟩⟩

end

/-! ### The ends of waiting SENDs and RECVs (R85, R86) -/

section
variable {s : State} {i : Nat} {t : Task} {k : Nat} {w : Word} {d : BitVec 5} {lim hit : Option Word64}

theorem execMessageWaitEnd_run (hi : i < 512) (hr : s.replaying = false) : execMessageWaitEnd i s = .next (s.messageWaitEnd i) := by
  simp [execMessageWaitEnd, onUnit, hi, hr]

theorem State.messageWaitEnd_send (ht : s.task? i = some t) (hst : t.stat = .waiting) (hw : t.wait = some ⟨.send k w, lim, hit⟩)
    (hs : (s.chan k).length < 16) :
    s.messageWaitEnd i = (((s.record 0x11 i [2, 0, 0, 0]).makeReady i { t with wait := none, arch := t.arch.setFlags false false true false }).setChan k
      (s.chan k ++ [w])).messageRelease k := by
  simp [State.messageWaitEnd, ht, hst, hw, chanDepth, hs]

theorem State.messageWaitEnd_recv (ht : s.task? i = some t) (hst : t.stat = .waiting) (hw : t.wait = some ⟨.recv k d, lim, hit⟩) {v : Word}
    {rest : List Word} (hs : s.chan k = v :: rest) :
    s.messageWaitEnd i = ((s.record 0x11 i [3, 0, 0, 0]).makeReady i
      { t with wait := none, arch := (t.arch.setW d v).setFlags false false true false }).setChan k rest := by
  simp [State.messageWaitEnd, ht, hst, hw, hs]

/-- A limit ends either wait where the channel does not (R85). -/
theorem State.messageWaitEnd_limit (ht : s.task? i = some t) (hst : t.stat = .waiting) (hl : limitHit s.now lim = true)
    (hw : (t.wait = some ⟨.send k w, lim, hit⟩ ∧ 16 ≤ (s.chan k).length) ∨ (t.wait = some ⟨.recv k d, lim, hit⟩ ∧ s.chan k = [])) :
    s.messageWaitEnd i = (s.record 0x11 i [4, 1, 0, 0]).makeReady i { t with wait := none, arch := t.arch.setFlags false true false false } := by
  rcases hw with ⟨hw, hs⟩ | ⟨hw, hs⟩
  · simp [State.messageWaitEnd, ht, hst, hw, chanDepth, Nat.not_lt.2 hs, hl]
  · simp [State.messageWaitEnd, ht, hst, hw, hs, hl]

end

/-- What a channel's words do to a task that has become ready is nothing. -/
theorem readied_setChan {s v : State} {i : Nat} {x : Task} {cs : List (Nat × List Word)} (h : Readied s v i x cs) (k : Nat) (l : List Word) :
    Readied s (v.setChan k l) i x (v.setChan k l).ex.chans := by
  obtain ⟨htask, hrest, heq, hring⟩ := h
  refine ⟨htask, hrest, ?_, onlyRing_congr rfl rfl rfl hring⟩
  exact congrArg (fun y : State => { y with ex := { y.ex with chans := (v.setChan k l).ex.chans } }) heq

/-- Settles O14: SEND, RECV and CHCNT by the trap, the channel, NB and the limit, in this order; a waiting one by the channel, then the limit. -/
theorem messages : Obligations.Messages := by
  refine ⟨fun p d a l x nb ch s i t h hr k hk => ⟨fun hx hc => ⟨fun hs => ?_, fun hs => ?_⟩, fun hx hc => ⟨fun w rest hs => ?_, fun hs => ?_⟩, fun hx hc => ?_,
    fun e he => ?_⟩, fun s i t k w d lim hit hi ht hst hr => ⟨fun hw hs => ?_, fun v rest hw hs => ?_, fun y hy hn hw => ?_⟩⟩
  · obtain ⟨-, -, -, hrun, -⟩ := onEngine_spec h
    exact ⟨_, execSend_space h (chanTrap_none hx (List.mem_singleton_self true) hc) hk hs,
      State.word_sent s _ k _ i k (t.arch.getW d) (by rw [hrun]; decide) (by rw [hrun]; decide) rfl⟩
  · exact refused_runs hr (s.record_recorder _ _ _) ⟨rfl, rfl⟩ (execSend_full h (chanTrap_none hx (List.mem_singleton_self true) hc) hk hs)
  · refine ⟨_, execRecv_word h (chanTrap_none hx (List.mem_singleton_self false) hc) hk hs, ⟨_, _, s.record_recorder _ _ _, retire_wrote _ i t d w _ _ _ _ 4, rfl⟩,
      State.chan_setChan_same _ k rest⟩
  · exact refused_runs hr (s.record_recorder _ _ _) ⟨rfl, rfl⟩ (execRecv_empty h (chanTrap_none hx (List.mem_singleton_self false) hc) hk hs)
  · refine ⟨_, execChcnt_run h (hc.elim (chanTrap_none hx (by decide)) (chanTrap_none hx (by decide))) hk, retire_wrote_only s i t d _ 4⟩
  · have htrap : (∀ c, chanTrap t x ch k e.2 = some c → exec e.1 s = .next (s.trap i t c)) := by
      subst hk
      simp only [List.mem_cons, List.not_mem_nil, or_false] at he
      rcases he with rfl | rfl | rfl
      · exact fun c hc => execSend_trap h hc
      · exact fun c hc => execRecv_trap h hc
      · exact fun c hc => execChcnt_trap h hc
    exact ⟨fun hx => ⟨_, htrap _ (chanTrap_illegal hx), State.trap_trapped hr i t⟩,
      fun hx hc => ⟨_, htrap _ (chanTrap_channel hx hc), State.trap_trapped hr i t⟩⟩
  · refine ⟨_, (execMessageWaitEnd_run hi hr).trans (congrArg _ (State.messageWaitEnd_send ht hst hw hs)), ?_⟩
    rw [State.makeReady, State.record_tick]
    exact State.word_sent s _ i _ i k w TStat.noConfusion TStat.noConfusion rfl
  · refine ⟨_, (execMessageWaitEnd_run hi hr).trans (congrArg _ (State.messageWaitEnd_recv ht hst hw hs)),
      readied_setChan (s.record_makeReady _ _ _ i _) k rest, State.chan_setChan_same _ k rest, fun j hj => ?_⟩
    rw [State.chan_setChan_ne _ k j _ hj, State.chan_of_chans]
    have hc : (s.record 0x11 i [3, 0, 0, 0]).ex.chans = s.ex.chans := by rw [State.record_ex]
    exact hc
  · exact ⟨_, (execMessageWaitEnd_run hi hr).trans (congrArg _ (State.messageWaitEnd_limit ht hst (hy ▸ (reached_iff _ _).2 hn) hw)),
      s.record_makeReady _ _ _ i _⟩

end Sys2Proof.Machine
end

section
/-! Task control (R87, R88, R104), the traps at an instruction boundary (R93, R103), and the words that no instruction spells (R67). -/

namespace Sys2Proof.Machine

/-! ### The task that runs next (R104) -/

theorem kvGet_of_mem {α : Type} {m : List (Nat × α)} (h : kvSorted m = true) {e : Nat × α} (he : e ∈ m) : kvGet m e.1 = some e.2 := by
  induction m with
  | nil => exact absurd he List.not_mem_nil
  | cons x m ih =>
    obtain ⟨k, v⟩ := x
    obtain ⟨habove, hs⟩ := (kvSorted_cons k v m).1 h
    rcases List.mem_cons.1 he with rfl | he
    · exact if_pos rfl
    · exact (if_neg (Nat.ne_of_lt (habove e he))).trans (ih hs he)

/-- `b` does not run behind `e`, where both have one priority: a preempted task is first, then the one that became ready first, then the lower number. -/
def notBehind (b e : Nat × Task) : Prop :=
  (e.2.preempted = true → b.2.preempted = true)
  ∧ (e.2.preempted = b.2.preempted → b.2.readyAt < e.2.readyAt ∨ (b.2.readyAt = e.2.readyAt ∧ b.1 ≤ e.1))

theorem notBehind_refl (b : Nat × Task) : notBehind b b := ⟨id, fun _ => .inr ⟨rfl, Nat.le_refl _⟩⟩

/-- Of two tasks of one priority the later in the list runs first only where it is strictly ahead. -/
theorem ahead_eq_true_iff {b e : Task} (h : b.hdr.prio = e.hdr.prio) :
    b.ahead e = true ↔ (b.preempted ≠ e.preempted ∧ b.preempted = true) ∨ (b.preempted = e.preempted ∧ b.readyAt < e.readyAt) := by
  unfold Task.ahead
  rw [if_neg (not_not.2 h)]
  by_cases hp : b.preempted = e.preempted <;> simp [hp]

theorem notBehind_trans {a b c : Nat × Task} (h : notBehind a b) (k : notBehind b c) : notBehind a c := by
  obtain ⟨hp, hr⟩ := h
  obtain ⟨kp, kr⟩ := k
  refine ⟨fun hc => hp (kp hc), fun hc => ?_⟩
  have hba : b.2.preempted = a.2.preempted := Bool.eq_iff_iff.2 ⟨hp, fun ha => kp (hc.trans ha)⟩
  have h1 := hr hba
  have h2 := kr (hc.trans hba.symm)
  omega

/-- The earlier in the list runs first where the later is not ahead. -/
theorem notBehind_of_not_ahead {e b : Nat × Task} (h : b.2.hdr.prio = e.2.hdr.prio) (ha : ¬ b.2.ahead e.2 = true) (hk : e.1 ≤ b.1) : notBehind e b := by
  rw [ahead_eq_true_iff h, not_or, not_and, not_and] at ha
  obtain ⟨hpre, hready⟩ := ha
  refine ⟨fun hb => ?_, fun hbe => ?_⟩
  · by_contra he
    exact hpre (fun hbe => he (hbe ▸ hb)) hb
  · have hle := hready hbe
    omega

theorem bestReady_eq_none {l : List (Nat × Task)} (h : bestReady l = none) : l = [] := by
  cases l with
  | nil => rfl
  | cons e l =>
    unfold bestReady at h
    split at h
    · cases h
    · split at h <;> cases h

theorem bestReady_notBehind {l : List (Nat × Task)} {q : Nat} (hs : kvSorted l = true) (hq : ∀ e ∈ l, e.2.hdr.prio = q) {b : Nat × Task}
    (hb : bestReady l = some b) : b ∈ l ∧ ∀ e ∈ l, notBehind b e := by
  induction l generalizing b with
  | nil => cases hb
  | cons e l ih =>
    obtain ⟨k, y⟩ := e
    obtain ⟨habove, hsl⟩ := (kvSorted_cons k y l).1 hs
    have hql : ∀ e ∈ l, e.2.hdr.prio = q := fun e he => hq e (List.mem_cons_of_mem _ he)
    have hqy : y.hdr.prio = q := hq _ List.mem_cons_self
    unfold bestReady at hb
    split at hb
    · rename_i hnone
      obtain rfl := Option.some.inj hb
      rw [bestReady_eq_none hnone]
      exact ⟨List.mem_cons_self, fun e he => List.mem_singleton.1 he ▸ notBehind_refl _⟩
    · rename_i c hc
      obtain ⟨hmem, hbehind⟩ := ih hsl hql hc
      have hpr : c.2.hdr.prio = y.hdr.prio := (hql c hmem).trans hqy.symm
      split at hb
      · rename_i ha
        obtain rfl := Option.some.inj hb
        refine ⟨List.mem_cons_of_mem _ hmem, fun e he => ?_⟩
        rcases List.mem_cons.1 he with rfl | he
        · rcases (ahead_eq_true_iff hpr).1 ha with ⟨hne, hp⟩ | ⟨heq, hlt⟩
          · exact ⟨fun _ => hp, fun heq => absurd heq.symm hne⟩
          · exact ⟨fun h => heq.trans h, fun _ => .inl hlt⟩
        · exact hbehind e he
      · rename_i ha
        obtain rfl := Option.some.inj hb
        refine ⟨List.mem_cons_self, fun e he => ?_⟩
        rcases List.mem_cons.1 he with rfl | he
        · exact notBehind_refl _
        · exact notBehind_trans (notBehind_of_not_ahead hpr ha (Nat.le_of_lt (habove c hmem))) (hbehind e he)

/-! ### YIELD (R87) -/

section
variable {p : Nat} {s : State} {i : Nat} {t : Task}

/-- The ready tasks of an engine that have the priority of its task. -/
theorem mem_yieldList {e : Nat × Task} :
    e ∈ (s.readyOn p).filter (fun e => decide (e.2.hdr.prio = t.hdr.prio)) ↔ e ∈ s.ex.tasks ∧ e.2.phys = p ∧ e.2.stat = .ready ∧ e.2.hdr.prio = t.hdr.prio := by
  simp only [State.readyOn, List.mem_filter, Bool.and_eq_true, decide_eq_true_eq, and_assoc]

theorem execYieldI_none (h : onEngine s p i t) (hb : bestReady ((s.readyOn p).filter (fun e => decide (e.2.hdr.prio = t.hdr.prio))) = none) :
    execYieldI p s = .next (s.retire i t t.arch 2) := by
  simp [execYieldI, onTask_run h, hb]

theorem execYieldI_some (h : onEngine s p i t) {j : Nat} {x : Task}
    (hb : bestReady ((s.readyOn p).filter (fun e => decide (e.2.hdr.prio = t.hdr.prio))) = some (j, x)) :
    execYieldI p s = .next (((s.retire i t t.arch 2).makeReady i { t with arch := { t.arch with pc := t.arch.pc + 1 }, cyc := t.cyc + 2,
                                                                           maxCyc := max t.maxCyc (t.cyc + 2) }).start p j x) := by
  simp [execYieldI, onTask_run h, hb, State.retire]

/-- The engine goes from the task, ready again behind its instruction, to another one: what the machine then holds. -/
theorem State.retire_start (s : State) {i j : Nat} {t : Task} (p : Nat) (x : Task) (c : Nat) (hji : j ≠ i) :
    let u := ((s.retire i t t.arch c).makeReady i { t with arch := { t.arch with pc := t.arch.pc + 1 }, cyc := t.cyc + c,
                                                            maxCyc := max t.maxCyc (t.cyc + c) }).start p j x
    kvGet u.ex.running p = some j ∧ (∀ q, q ≠ p → kvGet u.ex.running q = kvGet s.ex.running q)
      ∧ u.task? j = some { x with stat := .running, preempted := false } ∧ (∀ k, k ≠ i → k ≠ j → u.task? k = s.task? k)
      ∧ u.task? i = some { t with arch := { t.arch with pc := t.arch.pc + 1 }, cyc := t.cyc + c, maxCyc := max t.maxCyc (t.cyc + c), stat := .ready,
                                  readyAt := s.tick }
      ∧ u = { s with ex := { s.ex with tasks := u.ex.tasks, running := u.ex.running } } := by
  refine ⟨kvGet_kvSet_same _ p j, fun q hq => kvGet_kvSet_ne _ p q j hq, State.task?_setTask_same _ j _, fun k hki hkj => ?_, ?_, rfl⟩
  · exact (State.task?_setTask_ne _ j k _ hkj).trans ((State.task?_setTask_ne _ i k _ hki).trans (State.task?_setTask_ne s i k _ hki))
  · exact (State.task?_setTask_ne _ j i _ (Ne.symm hji)).trans (State.task?_setTask_same _ i _)

/-! ### CKPT, TID, FAULT and BKPT (R87, R88) -/

theorem State.output_eq {s : State} (hr : s.replaying = false) (typ task phys pc addr value : Nat) (f : State → State) :
    s.output typ task phys pc addr value f = f (s.record typ task [(phys : Int), (pc : Int), (addr : Int), (value : Int)]) := by
  unfold State.output
  rw [if_neg (by rw [hr]; decide)]

theorem execFaultI_runs (h : onEngine s p i t) (hr : s.replaying = false) (a : BitVec 5) {kind : BitVec 6} (hk : 0x20 ≤ kind.toNat) :
    Runs (execFaultI p a kind s) (fun u => ∃ v, Retired s v i t { t.arch with pc := t.arch.pc + 1 } 4
      ∧ u = { v with recd := u.recd, mem := u.mem, faultQ := s.faultQ ++ [⟨0x040 + p, kind.toNat, (t.arch.getW a).toNat % 65536, 0⟩] } ∧ onlyRing s u) := by
  refine onTask_runs h ?_
  rw [if_neg (Nat.not_lt.2 hk), State.output_eq (s := s.retire i t t.arch 4) hr]
  obtain ⟨hs, hring⟩ := (s.retire i t t.arch 4).record_only 0x42 i [(p : Int), (t.arch.pc.toNat : Int), (kind.toNat : Int), ((t.arch.getW a).toNat % 65536 : Nat)]
  generalize (s.retire i t t.arch 4).record 0x42 i [(p : Int), (t.arch.pc.toNat : Int), (kind.toNat : Int), ((t.arch.getW a).toNat % 65536 : Nat)] = r at hs hring
  refine ⟨_, retire_retired s i t 4 rfl, ?_, onlyRing_congr rfl rfl rfl hring⟩
  have hkind : kind.toNat % 64 = kind.toNat := Nat.mod_eq_of_lt kind.isLt
  unfold State.sendFault
  rw [hs, hkind, Nat.mod_mod]
  rfl

theorem execBkpt_halts (h : onEngine s p i t) (hd : s.bit UPD_STATUS_DEBUG_OPEN = true) :
    Runs (execBkpt p s) (fun u => u.task? i = some { t with arch := { t.arch with pc := t.arch.pc + 1 }, cyc := t.cyc + 2,
                                                            maxCyc := max t.maxCyc (t.cyc + 2), stat := .stopped, halted := true }
      ∧ kvGet u.ex.running p = none ∧ (∀ j, j ≠ i → u.task? j = s.task? j) ∧ u = { s with ex := { s.ex with tasks := u.ex.tasks, running := u.ex.running } }) := by
  refine onTask_runs h ?_
  rw [if_pos hd]
  obtain ⟨htask, hrun, hrest⟩ := s.leave_engine i _ p
  exact ⟨htask, hrun, hrest, rfl⟩

end

/-! ### Traps at an instruction boundary (R93, R103) -/

section
variable {s : State} {i : Nat} {t : Task}

theorem execBudgetExceeded_run (hi : i < 512) (ht : s.task? i = some t) (hst : t.stat = .running ∨ t.stat = .ready ∨ t.stat = .waiting)
    (hb : t.hdr.budget < t.cyc) : execBudgetExceeded i s = .next (s.trapAt i t trapBudget t.boundaryPc) := by
  simp [execBudgetExceeded, onUnit, hi, ht, hst, hb]

theorem execDeadlineMissed_run (hi : i < 512) (ht : s.task? i = some t) (hst : t.stat = .running ∨ t.stat = .ready ∨ t.stat = .waiting)
    (hc : t.hdr.cls < 2) (hd : t.hdr.deadline ≠ 0) (hn : reached s.now (t.inForce.ref + BitVec.ofNat 64 t.hdr.deadline) = true) :
    execDeadlineMissed i s = .next (s.trapAt i t (if t.hdr.budget < t.cyc then trapBudget else trapDeadline) t.boundaryPc) := by
  simp [execDeadlineMissed, onUnit, hi, ht, hst, hc, hd, hn]

/-- A SOFT task, or one with DEADLINE 0, has no deadline to miss. -/
theorem execDeadlineMissed_none (hi : i < 512) (ht : s.task? i = some t) (h : 2 ≤ t.hdr.cls ∨ t.hdr.deadline = 0) : execDeadlineMissed i s = .next s := by
  have hn : ¬ ((t.stat = .running ∨ t.stat = .ready ∨ t.stat = .waiting) ∧ t.hdr.cls < 2 ∧ t.hdr.deadline ≠ 0
      ∧ reached s.now (t.inForce.ref + BitVec.ofNat 64 t.hdr.deadline) = true) := by
    rintro ⟨-, hc, hd, -⟩
    exact h.elim (fun h => absurd hc (Nat.not_lt.2 h)) hd
  simp only [execDeadlineMissed, onUnit, hi, ht, if_neg hn, decide_true, if_true]

end

/-! ### Words that trap (R67) -/

theorem rLegal_unlisted {op w : Nat} (h : w % 64 ∉ (fnRows op).map (·.1)) : rLegal op w = false := by
  have hf : (fnRows op).find? (fun e => e.1 == w % 64) = none :=
    List.find?_eq_none.2 (fun e he hw => h (eq_of_beq hw ▸ List.mem_map_of_mem he))
  unfold rLegal
  rw [hf]

theorem wordLegal_unlisted (loop : Bool) {w : Nat} (h : w / 2 ^ 26 ∉ [0x01, 0x02, 0x03, 0x28, 0x38, 0x04, 0x05, 0x06, 0x07, 0x10, 0x11, 0x12, 0x13, 0x14,
    0x18, 0x19, 0x1A, 0x1C, 0x1D, 0x21, 0x22, 0x08, 0x09, 0x0A, 0x20, 0x29, 0x30, 0x31, 0x32, 0x33, 0x34, 0x35, 0x36, 0x39, 0x3C, 0x3D]) :
    wordLegal loop w = false := by
  unfold wordLegal
  dsimp only
  generalize w / 2 ^ 26 = op at h ⊢
  split
  case h_37 => rfl
  all_goals exact absurd (by decide) h

/-- A word of the ALU, or of the multiply and divide group, with a function that the group does not list. -/
theorem wordLegal_function (loop : Bool) {w op : Nat} (hop : w / 2 ^ 26 = op) (h12 : op = 1 ∨ op = 2) (h : w % 64 ∉ (fnRows op).map (·.1)) :
    wordLegal loop w = false := by
  unfold wordLegal
  rcases h12 with rfl | rfl
  · simp only [hop]; exact rLegal_unlisted h
  · simp only [hop]; exact rLegal_unlisted h

theorem wordLegal_lrun {w : Nat} (hop : w / 2 ^ 26 = 0x3D) : wordLegal false w = false := by
  unfold wordLegal
  simp only [hop, Bool.false_and]

/-- Settles O15: task control by its cases, a boundary trap by the budget and the deadline, and the words that `wordLegal` does not list. -/
theorem taskControlAndTraps : Obligations.TaskControlAndTraps := by
  refine ⟨fun p d a kind s i t h => ⟨fun hnone => ?_, fun hsort hsome => ?_, ?_, ?_, fun hr hk => execFaultI_runs h hr a hk, fun hr hk => ?_,
    fun hd => execBkpt_halts h hd, fun hr hd => ?_⟩, fun s i p t hr => ⟨fun hi ht hst => ⟨fun hb => ?_, fun hc hd hn => ?_, fun hn => ?_⟩, fun h w hw => ?_⟩⟩
  · have hl : (s.readyOn p).filter (fun e => decide (e.2.hdr.prio = t.hdr.prio)) = [] := List.eq_nil_iff_forall_not_mem.2 (fun e he => by
      obtain ⟨hmem, hphys, hst, hpr⟩ := mem_yieldList.1 he
      exact hnone e hmem hphys hst hpr)
    exact ⟨_, execYieldI_none h (by rw [hl]; rfl), retire_retired s i t 2 rfl⟩
  · obtain ⟨-, -, htask, hrun, -⟩ := onEngine_spec h
    obtain ⟨e, hmem, hphys, hst, hpr⟩ := hsome
    have hne : (s.readyOn p).filter (fun e => decide (e.2.hdr.prio = t.hdr.prio)) ≠ [] := List.ne_nil_of_mem (mem_yieldList.2 ⟨hmem, hphys, hst, hpr⟩)
    obtain ⟨⟨j, x⟩, hb⟩ := Option.ne_none_iff_exists'.1 (mt bestReady_eq_none hne)
    obtain ⟨hbm, hbb⟩ := bestReady_notBehind (kvSorted_filter _ _ (kvSorted_filter _ _ hsort)) (fun e he => (mem_yieldList.1 he).2.2.2) hb
    obtain ⟨hjmem, hjphys, hjst, hjpr⟩ := mem_yieldList.1 hbm
    have hj : s.task? j = some x := kvGet_of_mem hsort hjmem
    have hji : j ≠ i := by
      rintro rfl
      obtain rfl := Option.some.inj (hj.symm.trans htask)
      rw [hrun] at hjst
      cases hjst
    exact ⟨_, execYieldI_some h hb, j, x, hj, hjphys, hjst, hjpr, fun e he h1 h2 h3 => hbb e (mem_yieldList.2 ⟨he, h1, h2, h3⟩),
      State.retire_start s p x 2 hji⟩
  · exact ⟨_, onTask_run h _, rfl⟩
  · exact ⟨_, onTask_run h _, retire_wrote_only s i t d _ 1⟩
  · refine onTask_runs h ?_
    rw [if_pos hk]
    exact State.trap_trapped hr i t
  · refine onTask_runs h ?_
    rw [if_neg (by rw [hd]; decide)]
    exact State.trap_trapped hr i t
  · exact ⟨_, execBudgetExceeded_run hi ht hst hb, trapAt_trapped s i t _ _ hr (by decide)⟩
  · refine ⟨_, execDeadlineMissed_run hi ht hst hc hd ((reached_iff _ _).2 hn), ?_⟩
    by_cases hb : t.hdr.budget < t.cyc
    · simp only [if_pos hb]; exact trapAt_trapped s i t _ _ hr (by decide)
    · simp only [if_neg hb]; exact trapAt_trapped s i t _ _ hr (by decide)
  · exact ⟨_, execDeadlineMissed_none hi ht hn, rfl⟩
  · have hl : wordLegal (isLoopEngine p) w.toNat = false := by
      rcases hw with hw | ⟨hop, hf⟩ | ⟨hop, hf⟩ | ⟨hop, hp⟩
      · exact wordLegal_unlisted _ hw
      · exact wordLegal_function _ hop (.inl rfl) hf
      · exact wordLegal_function _ hop (.inr rfl) hf
      · rw [show isLoopEngine p = false from decide_eq_false (Nat.not_le.2 hp)]; exact wordLegal_lrun hop
    show Runs (execIllegal p w s) _
    refine onTask_runs h ?_
    rw [if_neg (by rw [hl]; decide)]
    exact State.trap_trapped hr i t

end Sys2Proof.Machine
end

section
/-! Restarts in a replay (R109, R116, R450): the recording restarts the tasks, and TRAP_RESTART does nothing. -/

namespace Sys2Proof.Machine

/-- In a replay a trapped task is restarted by the recording, whatever its RESTART bit and its count of restarts are. -/
theorem execTrapRestart_replaying {s : State} {i : Nat} (hi : i < 512) (hr : s.replaying = true) : execTrapRestart i s = .next s := by
  unfold execTrapRestart onUnit
  rw [if_pos (decide_eq_true hi)]
  split
  · rw [if_neg (by rw [hr]; exact fun h => Bool.noConfusion h.1)]
  · rfl

/-- A ONCE task with RESTART = 1 that trapped at tick 0, without a checkpoint and without a restart before. -/
def trappedOnce : Task :=
  { hdr := { hdrOk := true, loop := false, cls := 1, prio := 0, restart := true, task := 0, rel := .once, relArg := 0, relParam := 0, minInterval := 0
             deadline := 0, budget := 10000, load := 0, entry := 4, codeWords := 64, segs := [], chans := [], code := [] }
    arch := Arch.start 4 0, stat := .trapped, wait := none, dcall := none, stall := false, access := none, pending := none, inForce := ⟨0, []⟩
    started := true, ckpt := none, cyc := 0, maxCyc := 0, minSlack := 0, overrun := 0, trapPc := 4, trapKind := trapBkpt, streak := 1, tries := 1
    trapTime := 0, readyAt := 0, preempted := false, halted := false, phys := 2, segLoc := [], area := 0x1000000000, segBase := [], nextPeriod := 0 }

/-- The reset state but for that task, 1 ms after its trap, and a replay of an empty recording. -/
def replayedTrap : State :=
  { State.reset with tick := 250000, ex := { State.reset.ex with tasks := [(0, trappedOnce)] }
                     recd := { State.reset.recd with replay := some ⟨0, 0, [], [], []⟩ } }

/-- Refutes O16, by its clause on the automatic restart alone: unlike the statements of the waits and of the traps, it does not ask that no replay
runs. In `replayedTrap` every hypothesis of the clause holds, and TRAP_RESTART leaves the task trapped, since the recording restarts the tasks of a
replay (R116, R450). The fault lies in the missing hypothesis and not in the model's restart. -/
theorem not_activationsAndRestarts : ¬ Obligations.ActivationsAndRestarts := by
  rintro ⟨-, hrestart⟩
  obtain ⟨htask, -⟩ := hrestart replayedTrap 0 (by decide)
  obtain ⟨htrap, -⟩ := htask trappedOnce rfl rfl
  obtain ⟨-, hentry⟩ := htrap rfl rfl rfl (by decide) (by decide)
  obtain ⟨u, hu, hready, -⟩ := hentry rfl
  have hsame : replayedTrap = u := Host.Outcome.next.inj ((execTrapRestart_replaying (by decide) rfl).symm.trans hu)
  rw [← hsame] at hready
  have hstat : TStat.trapped = .ready := congrArg Task.stat (Option.some.inj hready)
  cases hstat

end Sys2Proof.Machine
end

section
/-! DCALL at its issue and its replies (R89, R92, R95). -/

namespace Sys2Proof.Machine

/-! ### The issue (R89, R95) -/

/-- A task leaves its engine, and the recorder notes it. -/
theorem State.leave_engine_record (s : State) (i : Nat) (x : Task) (p typ sub : Nat) (d : List Int) {u : State}
    (hu : u = ((s.setTask i x).setRunning p none).record typ sub d) :
    u.task? i = some x ∧ kvGet u.ex.running p = none ∧ (∀ j, j ≠ i → u.task? j = s.task? j)
      ∧ u = { s with ex := { s.ex with tasks := u.ex.tasks, running := u.ex.running }, recd := u.recd, mem := u.mem } ∧ onlyRing s u := by
  obtain ⟨htask, hrun, hrest⟩ := s.leave_engine i x p
  obtain ⟨hs, hring⟩ := ((s.setTask i x).setRunning p none).record_only typ sub d
  rw [← hu] at hs hring
  have hex : u.ex = ((s.setTask i x).setRunning p none).ex := by rw [hs]
  refine ⟨?_, ?_, fun j hj => ?_, ?_, onlyRing_congr rfl rfl rfl hring⟩
  · unfold State.task?; rw [hex]; exact htask
  · rw [hex]; exact hrun
  · unfold State.task?; rw [hex]; exact hrest j hj
  · rw [hex]; exact hs

/-- A task behind the DCALL for whose reply it waits, with its cycle count at `c`. -/
def Task.called (t : Task) (svc c : Nat) : Task :=
  { t with arch := { t.arch with pc := t.arch.pc + 1 }, stat := .waiting, wait := none, dcall := some svc, cyc := c, maxCyc := max t.maxCyc c }

/-- A task that is not of the hard class leaves its engine and waits for the reply. -/
theorem State.dcall_waits {s : State} (hr : s.replaying = false) (i svc : Nat) {t : Task} (hc : t.hdr.cls ≠ 0) {u : State} (hu : u = s.dcall i t svc) :
    (∃ c, t.cyc ≤ c ∧ u.task? i = some (t.called svc c)) ∧ kvGet u.ex.running t.phys = none ∧ (∀ j, j ≠ i → u.task? j = s.task? j)
      ∧ u = { s with ex := { s.ex with tasks := u.ex.tasks, running := u.ex.running }, recd := u.recd, mem := u.mem, freeCtr := u.freeCtr }
      ∧ onlyRing s u := by
  have hd : u = ((s.draw.2.setTask i (t.called svc (t.cyc + s.draw.1))).setRunning t.phys none).record 0x43 i
      [(t.phys : Int), (t.arch.pc.toNat : Int), (svc : Int), (wordsNat t.arch.argWords : Int)] := by
    subst hu
    exact (if_neg hc).trans (State.output_eq (s := (s.draw.2.setTask i (t.called svc (t.cyc + s.draw.1))).setRunning t.phys none) hr _ _ _ _ _ _ _)
  obtain ⟨htask, hrun, hrest, heq, hring⟩ := s.draw.2.leave_engine_record i _ _ _ _ _ hd
  have hfree : u.freeCtr = s.freeCtr + 1 := congrArg State.freeCtr heq
  exact ⟨⟨_, Nat.le_add_right t.cyc s.draw.1, htask⟩, hrun, hrest, by rw [hfree]; exact heq, hring⟩

/-! ### The registers of a reply (R89) -/

theorem Arch.setW_only (a : Arch) (d : BitVec 5) (v : Word) : a.setW d v = { a with w := (a.setW d v).w } := by
  unfold Arch.setW
  split <;> rfl

/-- A reply changes general registers alone. -/
theorem Arch.putReply_only (a : Arch) (r : Reply) : a.putReply r = { a with w := (a.putReply r).w } := by
  have hresults : ∀ (l : List (Nat × Nat)) (b : Arch), ∃ w,
      l.foldl (fun (a : Arch) (e : Nat × Nat) => a.setW (BitVec.ofNat 5 e.2) (BitVec.ofNat 32 e.1)) b = { b with w := w } := by
    intro l
    induction l with
    | nil => exact fun b => ⟨b.w, rfl⟩
    | cons e l ih =>
      intro b
      obtain ⟨w, hw⟩ := ih (b.setW (BitVec.ofNat 5 e.2) (BitVec.ofNat 32 e.1))
      exact ⟨w, hw.trans (by rw [b.setW_only])⟩
  obtain ⟨w, hw⟩ := hresults ((r.results.take 3).zip [2, 3, 4]) (a.setW 1 (BitVec.ofNat 32 r.status))
  have hput : a.putReply r = { a with w := w } := hw.trans (by rw [a.setW_only])
  rw [hput]

/-- A reply with a status alone writes w1. -/
theorem Arch.getW_putReply_only (a : Arch) (k : Nat) (e : BitVec 5) :
    (a.putReply (.only k)).getW e = if e = 1 then BitVec.ofNat 32 k else a.getW e := by
  have h : a.putReply (.only k) = a.setW 1 (BitVec.ofNat 32 k) := rfl
  rw [h, Arch.getW_setW]
  exact if_congr (and_iff_left (by decide)) rfl rfl

/-- Two results stand in w2 and w3. -/
theorem Arch.getW_putReply_two (a : Arch) (k x y : Nat) (e : BitVec 5) :
    (a.putReply ⟨k, [x, y], []⟩).getW e
      = if e = 1 then BitVec.ofNat 32 k else if e = 2 then BitVec.ofNat 32 x else if e = 3 then BitVec.ofNat 32 y else a.getW e := by
  have h : a.putReply ⟨k, [x, y], []⟩ = ((a.setW 1 (BitVec.ofNat 32 k)).setW 2 (BitVec.ofNat 32 x)).setW 3 (BitVec.ofNat 32 y) := rfl
  rw [h]
  by_cases h3 : e = 3
  · subst h3; exact Arch.getW_setW_same _ 3 _ (by decide)
  · by_cases h2 : e = 2
    · subst h2; exact (Arch.getW_setW_ne _ 3 2 _ h3).trans (Arch.getW_setW_same _ 2 _ (by decide))
    · rw [Arch.getW_setW_ne _ 3 e _ h3, Arch.getW_setW_ne _ 2 e _ h2, if_neg h2, if_neg h3, Arch.getW_setW]
      exact if_congr (and_iff_left (by decide)) rfl rfl

/-! ### The services (R89) -/

section
variable {s : State} {i : Nat} {t : Task} {err : Bool} {data : List Byte}

/-- The reply of a service that leaves the machine but for the engine log, and that sends no bytes. -/
theorem execDcallReply_runs (hi : i < 512) (ht : s.task? i = some t) (hst : t.stat = .waiting) (hr : s.replaying = false) {svc : Nat}
    (hd : t.dcall = some svc) {r : Reply} {l : List (Nat × List Word)} {f : BitVec 5 → Word}
    (hs : s.service i t svc err data = (r, { s with ex := { s.ex with log := l } })) (hb : r.bytes = [])
    (hw : ∀ e, (t.arch.putReply r).getW e = f e) :
    Runs (execDcallReply i err data s) (fun u => ∃ x, u.task? i = some x ∧ x.stat = .ready ∧ x.readyAt = s.tick ∧ x.dcall = none
      ∧ (∀ e : BitVec 5, x.arch.getW e = f e) ∧ x = { t with stat := .ready, readyAt := x.readyAt, dcall := none, arch := { t.arch with w := x.arch.w } }
      ∧ (∀ j, j ≠ i → u.task? j = s.task? j)
      ∧ u = { s with ex := { s.ex with tasks := u.ex.tasks, log := l }, recd := u.recd, mem := u.mem } ∧ onlyRing s u) := by
  have he : execDcallReply i err data s = .next (({ s with ex := { s.ex with log := l } }.record 0x12 i r.data).makeReady i
      { t with dcall := none, arch := t.arch.putReply r }) := by
    simp [execDcallReply, onUnit, hi, ht, hst, hd, hr, hs, State.reply, hb]
  obtain ⟨htask, hrest, hu, hring⟩ := State.record_makeReady { s with ex := { s.ex with log := l } } 0x12 i r.data i
    { t with dcall := none, arch := t.arch.putReply r }
  exact ⟨_, he, _, htask, rfl, rfl, rfl, hw, congrArg (fun a : Arch => { t with stat := .ready, readyAt := s.tick, dcall := none, arch := a })
    (t.arch.putReply_only r), hrest, hu, onlyRing_congr rfl rfl rfl hring⟩

theorem State.service_log : s.service i t 1 err data
    = (.only 0, { s with ex := { s.ex with log := (i, [t.arch.getW 1, t.arch.getW 2, t.arch.getW 3, t.arch.getW 4]) :: s.ex.log } }) := rfl

theorem State.service_segInfo {g : SegDesc} (hg : t.hdr.segs.find? (fun d => d.seg == (t.arch.getW 1).toNat) = some g) :
    s.service i t 6 err data = (⟨0, [g.size, (kvGet t.segLoc (t.arch.getW 1).toNat).getD 0], []⟩, s) := by
  have h : svcSegInfo t (t.arch.getW 1).toNat = ⟨0, [g.size, (kvGet t.segLoc (t.arch.getW 1).toNat).getD 0], []⟩ := by unfold svcSegInfo; rw [hg]
  exact congrArg (fun r => (r, s)) h

theorem State.service_setPut_locked (hl : s.upd.lock = true) : s.service i t 3 err data = (.only 4, s) := if_pos (.inl hl)

/-- HEAD_READ within its ranges, with a buffer that the task may write. -/
theorem State.svcHeadRead_inRange {stn off buf len : Nat} (hn : stn < 6) (ho : off + len ≤ 2 ^ 16) (hl : 1 ≤ len) (hl' : len ≤ 256)
    (hg : ∃ g, t.hdr.segs.find? (fun d => d.seg == buf / 2 ^ 28) = some g ∧ buf % 2 ^ 28 + len ≤ g.size ∧ g.ro = false) :
    s.svcHeadRead t stn off buf len err data
      = (if s.bit (STNn_HD_STATUS_HREC_BUSY stn) then .only 3 else if err then .only 5 else ⟨0, [(data.take len).length], data.take len⟩, s) := by
  obtain ⟨g, hfind, hsize, hro⟩ := hg
  have hseg : t.segFor buf len = some g := by unfold Task.segFor; rw [hfind]; exact if_pos hsize
  have hin : ¬ (6 ≤ stn ∨ 2 ^ 16 < off + len ∨ len = 0 ∨ 256 < len ∨ (!g.ro) = false) := by simp only [hro, Bool.not_false, reduceCtorEq, or_false]; omega
  unfold State.svcHeadRead
  rw [hseg]
  dsimp only
  rw [if_neg hin]

theorem State.service_hostEvent_full (h : s.bit HIF_CTRL_ENABLE = false ∨ s.evtFree < 8) : s.service i t 5 err data = (.only 3, s) := if_pos h

theorem State.service_unlisted {svc : Nat} (h : svc = 0 ∨ 6 < svc) : s.service i t svc err data = (.only 1, s) := by
  unfold State.service
  dsimp only
  split
  case h_7 => rfl
  all_goals omega

end

/-- Settles O17: the issue by the class of the task, and each reply by what its service answers. -/
theorem dcalls : Obligations.Dcalls := by
  refine ⟨fun p svc s i t h hr e he => ?_, fun s i t err data hi ht hst hr => ⟨fun hd => ?_, fun g hg hd => ?_, fun hd hl => ?_,
    fun n off buf len hn ho hb hl hn6 hrange hl1 hl2 hg => ⟨fun hd hbusy => ?_, fun hd hbusy herr => ?_⟩, fun hd hfull => ?_, fun svc hsvc hd => ?_⟩⟩
  · obtain ⟨-, -, -, -, hphys⟩ := onEngine_spec h
    have hexec : exec e.1 s = .next (s.dcall i t e.2) := by
      simp only [List.mem_cons, List.not_mem_nil, or_false] at he
      rcases he with rfl | rfl | rfl | rfl | rfl | rfl | rfl <;> exact onTask_run h _
    refine ⟨fun hc => ⟨_, hexec, ?_⟩, fun hc => ⟨_, hexec, ?_⟩⟩
    · have hw := State.dcall_waits hr i e.2 hc rfl
      rwa [hphys] at hw
    · have htrap : s.dcall i t e.2 = s.trap i t trapTiming := if_pos hc
      rw [htrap]
      exact State.trap_trapped hr i t
  · exact execDcallReply_runs hi ht hst hr hd State.service_log rfl (t.arch.getW_putReply_only 0)
  · exact execDcallReply_runs hi ht hst hr hd (State.service_segInfo hg) rfl (t.arch.getW_putReply_two 0 _ _)
  · exact execDcallReply_runs hi ht hst hr hd (State.service_setPut_locked hl) rfl (t.arch.getW_putReply_only 4)
  · subst hn ho hb hl
    have hs : s.service i t 4 err data = (.only 3, s) := (State.svcHeadRead_inRange hn6 hrange hl1 hl2 hg).trans (by rw [if_pos hbusy])
    exact execDcallReply_runs hi ht hst hr hd hs rfl (t.arch.getW_putReply_only 3)
  · subst hn ho hb hl
    have hs : s.service i t 4 err data = (.only 5, s) :=
      (State.svcHeadRead_inRange hn6 hrange hl1 hl2 hg).trans (by rw [if_neg (by rw [hbusy]; decide), if_pos herr])
    exact execDcallReply_runs hi ht hst hr hd hs rfl (t.arch.getW_putReply_only 5)
  · exact execDcallReply_runs hi ht hst hr hd (State.service_hostEvent_full hfull) rfl (t.arch.getW_putReply_only 3)
  · exact execDcallReply_runs hi ht hst hr hd (State.service_unlisted hsvc) rfl (t.arch.getW_putReply_only 1)

end Sys2Proof.Machine
end

section
/-! LRUN of a descriptor whose store fails in one copy (R90, R159, R160, R332). -/

namespace Sys2Proof.Machine

/-! ### A word of SRAM that fails in one copy (R159) -/

/-- A read of the only word that fails corrects it from its twin. -/
theorem State.sramRead_one {s : State} {a : Nat} (hone : s.mem.sramOne = [a]) (hbad : s.mem.sramBad = []) (hlost : s.mem.sramLost = []) :
    s.sramRead a 4 = (s.sramFixed 1 a, false) := by
  simp [State.sramRead, hone, hbad, hlost, sramHit]

/-- The first corrected error: the word is good, its bucket holds 1, and of the state without fields and memories nothing changes. -/
theorem State.sramFixed_first {s : State} (hspare : s.mem.spareRows = []) (honce : s.mem.onceRows = []) (hlevel : s.fget (MEMI_LEAKc_LEVEL 1) = 0)
    (a : Nat) : ∃ m : Mem, s.sramFixed 1 a = { s.fset (MEMI_LEAKc_LEVEL 1) 1 with mem := m } ∧ a ∉ m.sramOne := by
  have hrow : ∃ m : Mem, s.rowError a = { s with mem := m } := by
    unfold State.rowError
    dsimp only
    rw [hspare, honce]
    exact ⟨_, rfl⟩
  obtain ⟨m, hm⟩ := hrow
  have hbucket : (s.rowError a).bucketAdd 1 = { s.fset (MEMI_LEAKc_LEVEL 1) 1 with mem := m } := by
    have hl : State.fget { s with mem := m } (MEMI_LEAKc_LEVEL 1) = 0 := hlevel
    rw [hm]
    unfold State.bucketAdd
    rw [hl]
    rfl
  refine ⟨{ m with sramOne := m.sramOne.filter (fun w => w != a), sramLost := m.sramLost.filter (fun w => w != a) }, ?_, fun h => ?_⟩
  · unfold State.sramFixed
    rw [hbucket]
  · exact absurd (List.mem_filter.1 h).2 (by simp)

/-! ### A sample that is refused (R332) -/

/-- A flag that stands does not rise. -/
theorem State.loopFlags_standing {s : State} {f : Fld} (h : s.bit f = true) (n k : Nat) (b : Bool) : s.loopFlags n [(f, k, b)] = s := by
  simp [State.loopFlags, h]

/-- A descriptor that is not enabled and has been refused before stays as it is. -/
theorem State.loopRun_disabled {s : State} {n : Nat} (he : s.bit (LOOPn_CTRL_ENABLE n) = false) (hr : s.bit (LOOPn_STATUS_REFUSED n) = true) (i : Nat) :
    s.loopRun n i = s := by
  have hrefused : s.loopRefused n i = true := by simp [State.loopRefused, he]
  unfold State.loopRun
  rw [if_pos hrefused, State.loopFlags_standing hr]

/-- LRUN on a loop engine where the sample changes nothing behind the read of the descriptor's store. -/
theorem execLrun_idle {p i : Nat} {s v : State} {t : Task} {n : BitVec 6} (h : onEngine s p i t) (hp : isLoopEngine p = true)
    (hread : s.sramRead (Config.loopAddr n.toNat) 4 = (v, false)) (hrun : v.loopRun n.toNat i = v) (ht : v.task? i = some t) :
    execLrun p n s = .next (v.retire i t t.arch (lrunCycles (v.lrunM n.toNat i))) := by
  unfold execLrun
  rw [onTask_run h, hread]
  dsimp only
  rw [hp, hrun, ht]
  rfl

/-- A ONCE task that runs on the loop engine 20, at its entry. -/
def loopTask : Task :=
  { hdr := { hdrOk := true, loop := true, cls := 1, prio := 0, restart := false, task := 0, rel := .once, relArg := 0, relParam := 0, minInterval := 0
             deadline := 0, budget := 10000, load := 0, entry := 4, codeWords := 64, segs := [], chans := [], code := [] }
    arch := Arch.start 4 0, stat := .running, wait := none, dcall := none, stall := false, access := none, pending := none, inForce := ⟨0, []⟩
    started := true, ckpt := none, cyc := 0, maxCyc := 0, minSlack := 0, overrun := 0, trapPc := 0, trapKind := 0, streak := 0, tries := 0
    trapTime := 0, readyAt := 0, preempted := false, halted := false, phys := 20, segLoc := [], area := 0x1000000000, segBase := [], nextPeriod := 0 }

/-- The reset state but for that task, a refusal of descriptor 3 that stands, and one failing copy of the word of the descriptor's store. -/
def loopWordFails : State :=
  { State.reset with ex := { State.reset.ex with tasks := [(0, loopTask)], running := [(20, 0)] }
                     mem := { State.reset.mem with sramOne := [Config.loopAddr 3] }
                     fields := [((LOOPn_STATUS_REFUSED 3).key, 1)] }

/-- LRUN corrects the word and counts the cycles of the refused sample. -/
theorem execLrun_loopWordFails : ∃ u, execLrun 20 3 loopWordFails = .next u ∧ Config.loopAddr 3 ∉ u.mem.sramOne := by
  obtain ⟨m, hfixed, hm⟩ := State.sramFixed_first (s := loopWordFails) rfl rfl (by decide) (Config.loopAddr 3)
  have hread : loopWordFails.sramRead (Config.loopAddr 3) 4 = ({ loopWordFails.fset (MEMI_LEAKc_LEVEL 1) 1 with mem := m }, false) :=
    (State.sramRead_one rfl rfl rfl).trans (by rw [hfixed])
  have hrun : State.loopRun { loopWordFails.fset (MEMI_LEAKc_LEVEL 1) 1 with mem := m } 3 0 = { loopWordFails.fset (MEMI_LEAKc_LEVEL 1) 1 with mem := m } :=
    State.loopRun_disabled rfl rfl 0
  exact ⟨_, execLrun_idle ⟨by decide, rfl⟩ rfl hread hrun rfl, hm⟩

/-- Refutes O46, by the clause on a refused sample alone: its hypothesis on the read of the descriptor's store leaves out only a word of which both
copies fail. In `loopWordFails` one copy fails; LRUN reads the word, which is corrected from its twin and counted in its bucket (R159), and this is
neither one of the fields named nor what an event may touch. The fault lies in the hypothesis and not in the model's LRUN. -/
theorem not_loopSamples : ¬ Obligations.LoopSamples := by
  intro h
  obtain ⟨-, hrefused, -⟩ := h 20 3 loopWordFails 0 loopTask ⟨by decide, rfl⟩
  obtain ⟨v, hv, hgood⟩ := execLrun_loopWordFails
  obtain ⟨u, hu, -, -, hevents, -⟩ := hrefused rfl (congrArg Prod.snd (State.sramRead_one rfl rfl rfl)) rfl
  have huv : v = u := Host.Outcome.next.inj (hv.symm.trans hu)
  have hone : u.mem.sramOne = [Config.loopAddr 3] := congrArg (fun x : State => x.mem.sramOne) hevents
  rw [huv, hone] at hgood
  exact hgood (List.mem_singleton_self _)

end Sys2Proof.Machine
end

section
/-! Releases of a task (R60, R101, R102, R105): what the start of an activation puts into its registers, a release of an idle task and of one in
an activation, and releases that are lost. -/

namespace Sys2Proof.Machine

/-! ### The registers of an activation (R60, R101) -/

theorem Arch.setArgs_nil (a : Arch) : a.setArgs [] = a := rfl

@[simp] theorem Arch.setArgs_ref (a : Arch) (l : List Word) : (a.setArgs l).ref = a.ref :=
  List.foldlRecOn (motive := fun b : Arch => b.ref = a.ref) _ _ rfl (fun b hb e _ => (Arch.setW_ref b _ e.1).trans hb)

/-- Four argument words stand in w1 to w4. -/
theorem Arch.getW_setArgs (a : Arch) (x1 x2 x3 x4 : Word) : let b := a.setArgs [x1, x2, x3, x4]
    b.getW 1 = x1 ∧ b.getW 2 = x2 ∧ b.getW 3 = x3 ∧ b.getW 4 = x4 := by
  simp [Arch.setArgs, Arch.getW_setW]

theorem Task.activate_ref (t : Task) (r : Release) : (t.activate r).arch.ref = r.ref := by
  unfold Task.activate
  extract_lets a
  rw [Arch.setArgs_ref]
  by_cases hs : t.started = true
  · exact congrArg Arch.ref (if_pos hs)
  · exact congrArg Arch.ref (if_neg hs)

/-- The argument words of a release stand in w1 to w4 of its activation (R101). -/
theorem Task.activate_args (t : Task) (x : Word64) (x1 x2 x3 x4 : Word) : let b := (t.activate ⟨x, [x1, x2, x3, x4]⟩).arch
    b.getW 1 = x1 ∧ b.getW 2 = x2 ∧ b.getW 3 = x3 ∧ b.getW 4 = x4 := Arch.getW_setArgs _ x1 x2 x3 x4

/-- Without argument words a later activation finds the registers as they were left, with the flags cleared (R60). -/
theorem Task.activate_later {t : Task} (hs : t.started = true) (x : Word64) :
    (t.activate ⟨x, []⟩).arch = { t.arch with ref := x, n := false, z := false, c := false, v := false } := by
  simp only [Task.activate, hs, if_true, Arch.setArgs_nil, Arch.setFlags]

/-- Without argument words a first activation starts at the entry with cleared registers (R60). -/
theorem Task.activate_first {t : Task} (hs : t.started = false) (x : Word64) :
    (t.activate ⟨x, []⟩).arch = Arch.start (BitVec.ofNat 16 t.hdr.entry) x := by
  simp only [Task.activate, hs, Bool.false_eq_true, if_false, Arch.setArgs_nil]

theorem Arch.getW_start (pc : BitVec 16) (x : Word64) (e : BitVec 5) : (Arch.start pc x).getW e = 0 := by
  unfold Arch.getW Arch.start
  simp

/-! ### Releases outside a replay (R101, R102) -/

section
variable {s : State} {i : Nat} {t : Task}

theorem State.task?_record (s : State) (typ sub : Nat) (d : List Int) (j : Nat) : (s.record typ sub d).task? j = s.task? j := by
  unfold State.task?; rw [State.record_ex]

theorem State.release_eq (hr : s.replaying = false) (i : Nat) (r : Release) :
    s.release i r = (s.record 0x10 i ((r.ref.toNat : Int) :: r.args.map (fun w => (w.toNat : Int)))).releaseNow i r :=
  if_neg (by rw [hr]; decide)

/-- A release of an idle task starts an activation. -/
theorem State.release_idle (hr : s.replaying = false) (ht : s.task? i = some t) (hst : t.stat = .idle) (r : Release) :
    Readied s (s.release i r) i (t.activate r) s.ex.chans := by
  have hnow : ∀ u : State, u.task? i = some t → u.releaseNow i r = u.makeReady i (t.activate r) := fun u hu => by
    simp only [State.releaseNow, hu, hst]
  rw [State.release_eq hr, hnow _ ((s.task?_record _ _ _ i).trans ht)]
  exact s.record_makeReady _ _ _ i _

/-- A release of a task in an activation waits for its end, but for one of the sheet of that activation. -/
theorem State.task?_release_inActivation (hr : s.replaying = false) (ht : s.task? i = some t) (hst : t.stat = .ready ∨ t.stat = .running ∨ t.stat = .waiting)
    (hp : t.pending = none) {r : Release} (hsheet : t.sameSheet t.inForce r = false) :
    (s.release i r).task? i = some { t with pending := some r } := by
  have hpend : ∀ u : State, u.pendRelease i t r = u.setTask i { t with pending := some r } := fun u => by
    simp only [State.pendRelease, hp, hsheet, Bool.false_eq_true, if_false]
  have hnow : ∀ u : State, u.task? i = some t → u.releaseNow i r = u.setTask i { t with pending := some r } := fun u hu => by
    rcases hst with h | h | h <;> simp only [State.releaseNow, hu, h, hpend]
  rw [State.release_eq hr, hnow _ ((s.task?_record _ _ _ i).trans ht)]
  exact State.task?_setTask_same _ i _

end

/-! ### Releases that are lost (R102, R105) -/

/-- A task that has lost `k` releases: its count of them stops at the register's 65,535. -/
def Task.lost (t : Task) (k : Nat) : Task := { t with overrun := if k = 0 then t.overrun else min 65535 (t.overrun + k) }

/-- Task `i`, with the contents `t`, has lost `k` releases: each is counted and sends a message, and OVERRUN is set. -/
structure Lost (i : Nat) (t : Task) (k : Nat) (s u : State) : Prop where
  task : u.task? i = some (t.lost k)
  only : TaskOnly i s u
  frame : Frame viewReport [PLC_STATUS_OVERRUN] s u
  recd : u.recd = s.recd
  flag : s.bit PLC_STATUS_OVERRUN = true ∨ k ≠ 0 → u.bit PLC_STATUS_OVERRUN = true
  sent : u.faultQ.length = s.faultQ.length + k

theorem Task.lost_one_lost (t : Task) (k : Nat) : (t.lost 1).lost k = t.lost (k + 1) := by
  have hov : ((t.lost 1).lost k).overrun = (t.lost (k + 1)).overrun := by
    simp only [Task.lost]
    split
    · rename_i hk; subst hk; rfl
    · rw [if_neg (Nat.succ_ne_zero k), if_neg Nat.one_ne_zero]; omega
  exact congrArg (fun n => { t with overrun := n }) hov

section
variable {s u : State} {i : Nat} {t : Task}

theorem State.loseRelease_lost (s : State) (i : Nat) (t : Task) : Lost i t 1 s (s.loseRelease i t) := by
  refine ⟨State.task?_setTask_same s i _, s.loseRelease_taskOnly i t, ?_, rfl, fun _ => ?_, List.length_append⟩
  · have hset : Frame viewReport [PLC_STATUS_OVERRUN] s (s.setTask i { t with overrun := min 65535 (t.overrun + 1) }) := .of_fields rfl rfl rfl
    exact (hset.trans (State.flag_frame _ PLC_STATUS_OVERRUN)).trans (State.sendOpen_frame _ _ _)
  · show (State.fget ((s.setTask i _).fset PLC_STATUS_OVERRUN 1) PLC_STATUS_OVERRUN != 0) = true
    rw [State.fget_fset]
    decide

/-- Lost releases add up. -/
theorem Lost.succ {v : State} {k : Nat} (h : Lost i t 1 s v) (hk : Lost i (t.lost 1) k v u) : Lost i t (k + 1) s u := by
  refine ⟨by rw [hk.task, t.lost_one_lost], h.only.trans hk.only, h.frame.trans hk.frame, hk.recd.trans h.recd, fun _ => ?_, ?_⟩
  · exact hk.flag (.inl (h.flag (.inr Nat.one_ne_zero)))
  · rw [hk.sent, h.sent, Nat.add_assoc, Nat.add_comm 1 k]

theorem State.loseReleases_lost (k : Nat) (ht : s.task? i = some t) : Lost i t k s (s.loseReleases i k) := by
  induction k generalizing s t with
  | zero => exact ⟨ht, .refl i s, .refl _ _ s, rfl, fun h => h.elim id (absurd rfl), rfl⟩
  | succ k ih =>
    have hone := s.loseRelease_lost i t
    have hstep : s.loseReleases i (k + 1) = (s.loseRelease i t).loseReleases i k := by
      simp only [State.loseReleases, ht]
    rw [hstep]
    exact hone.succ (ih hone.task)

end

end Sys2Proof.Machine
end

section
/-! Period releases (R101, R105) and the task that an engine runs next (R104). O18 fails by a missing hypothesis of one clause; that clause with the
hypothesis, and the other clauses as they stand, are proved here too. -/

namespace Sys2Proof.Machine

/-! ### Period releases (R101, R102, R105) -/

/-- A task whose next multiple of the period follows the latest of `k` more. -/
def Task.nextMultiple (t : Task) (k : Nat) : Task := { t with nextPeriod := t.nextPeriod + k * t.hdr.relParam + t.hdr.relParam }

/-- The idle PERIOD task `i` has been released for the latest multiple, `k` multiples behind the one that was due (R105). -/
structure PeriodReleased (s u : State) (i : Nat) (t : Task) (k : Nat) : Prop where
  task : u.task? i = some { ((t.nextMultiple k).lost k).activate ⟨BitVec.ofNat 64 (t.nextPeriod + k * t.hdr.relParam), []⟩ with
    stat := .ready, readyAt := s.tick }
  rest : ∀ j, j ≠ i → u.task? j = s.task? j
  alone : k = 0 → u = { s with ex := { s.ex with tasks := u.ex.tasks }, recd := u.recd, mem := u.mem } ∧ onlyRing s u
  skipped : k ≠ 0 → u.bit PLC_STATUS_OVERRUN = true ∧ keepsFields s u [PLC_STATUS_OVERRUN] ∧ u.faultQ.length = s.faultQ.length + k

section
variable {s : State} {i k : Nat} {t : Task}

theorem execPeriodRelease_due (hi : i < 512) (ht : s.task? i = some t) (hr : s.replaying = false) (hrel : t.hdr.rel = .period)
    (hp : t.hdr.relParam ≠ 0) (hd : 0 ≤ (s.now - BitVec.ofNat 64 t.nextPeriod).toInt)
    (hk : (s.now - BitVec.ofNat 64 t.nextPeriod).toNat / t.hdr.relParam = k) :
    execPeriodRelease i s = .next (((s.setTask i (t.nextMultiple k)).loseReleases i k).release i
      ⟨BitVec.ofNat 64 (t.nextPeriod + k * t.hdr.relParam), []⟩) := by
  subst hk
  simp only [execPeriodRelease, onUnit, hi, decide_true, if_true, ht, hr, hrel, (reached_iff _ _).2 hd, hp, ne_eq, not_false_eq_true, and_self]
  rfl

/-- The clause of O18 on a task before its multiple. -/
theorem execPeriodRelease_early (hi : i < 512) (ht : s.task? i = some t) (hd : (s.now - BitVec.ofNat 64 t.nextPeriod).toInt < 0) :
    execPeriodRelease i s = .next s := by
  simp [execPeriodRelease, onUnit, hi, ht, (reached_eq_false_iff _ _).2 hd]

theorem periodRelease_released (hi : i < 512) (ht : s.task? i = some t) (hr : s.replaying = false) (hrel : t.hdr.rel = .period)
    (hp : t.hdr.relParam ≠ 0) (hst : t.stat = .idle) (hd : 0 ≤ (s.now - BitVec.ofNat 64 t.nextPeriod).toInt)
    (hk : (s.now - BitVec.ofNat 64 t.nextPeriod).toNat / t.hdr.relParam = k) :
    Runs (exec (.periodRelease i) s) (fun u => PeriodReleased s u i t k) := by
  refine ⟨_, execPeriodRelease_due hi ht hr hrel hp hd hk, ?_⟩
  have hlost := State.loseReleases_lost k (s.task?_setTask_same i (t.nextMultiple k))
  have hreplay : ((s.setTask i (t.nextMultiple k)).loseReleases i k).replaying = false := by
    unfold State.replaying at hr ⊢; rw [hlost.recd]; exact hr
  have hready := State.release_idle hreplay hlost.task hst ⟨BitVec.ofNat 64 (t.nextPeriod + k * t.hdr.relParam), []⟩
  obtain ⟨htask, hrest, heq, hring⟩ := hready
  refine ⟨?_, fun j hj => ?_, fun h0 => ?_, fun h0 => ?_⟩
  · rw [htask, hlost.frame.tick]; rfl
  · exact (hrest j hj).trans ((hlost.only.rest j hj).trans (s.task?_setTask_ne i j _ hj))
  · subst h0
    exact ⟨heq, onlyRing_congr rfl rfl rfl hring⟩
  · have hfields := congrArg State.fields heq
    have hkeep : keepsFields s ((s.setTask i (t.nextMultiple k)).loseReleases i k) [PLC_STATUS_OVERRUN] := hlost.frame.fields
    refine ⟨?_, hkeep.trans (keepsFields_of_fields hfields), ?_⟩
    · have hbit := hlost.flag (.inr h0)
      unfold State.bit at hbit ⊢
      rwa [State.fget_of_fields hfields]
    · exact (congrArg (fun x : State => x.faultQ.length) heq).trans hlost.sent

/-- The clause of O18 on releases holds of every task whose count of lost releases fits its register's 16 bits (R102). -/
theorem periodRelease_of_overrun_le (hi : i < 512) (ht : s.task? i = some t) (hr : s.replaying = false) (hrel : t.hdr.rel = .period)
    (hp : t.hdr.relParam ≠ 0) (hst : t.stat = .idle) (hd : 0 ≤ (s.now - BitVec.ofNat 64 t.nextPeriod).toInt)
    (hk : (s.now - BitVec.ofNat 64 t.nextPeriod).toNat / t.hdr.relParam = k) (hw : t.overrun ≤ 65535) :
    Runs (exec (.periodRelease i) s) (fun u => (∃ x, u.task? i = some x ∧ x.stat = .ready ∧ x.readyAt = s.tick ∧ x.pending = none ∧ x.cyc = 0
        ∧ x.hdr = t.hdr ∧ x.arch.ref = BitVec.ofNat 64 (t.nextPeriod + k * t.hdr.relParam) ∧ sameFlags x.arch = (false, false, false, false)
        ∧ (t.started = true → x.arch.t = t.arch.t ∧ x.arch.pc = t.arch.pc ∧ ∀ e : BitVec 5, x.arch.getW e = t.arch.getW e)
        ∧ (t.started = false → x.arch.t = (Arch.start 0 0).t ∧ x.arch.pc = BitVec.ofNat 16 t.hdr.entry ∧ ∀ e : BitVec 5, x.arch.getW e = 0)
        ∧ x.nextPeriod = t.nextPeriod + (k + 1) * t.hdr.relParam ∧ x.overrun = min 65535 (t.overrun + k))
      ∧ (∀ j, j ≠ i → u.task? j = s.task? j)
      ∧ (k = 0 → u = { s with ex := { s.ex with tasks := u.ex.tasks }, recd := u.recd, mem := u.mem } ∧ onlyRing s u)
      ∧ (k ≠ 0 → u.bit PLC_STATUS_OVERRUN = true ∧ keepsFields s u [PLC_STATUS_OVERRUN] ∧ u.faultQ.length = s.faultQ.length + k)) := by
  obtain ⟨u, hu, htask, hrest, halone, hskip⟩ := periodRelease_released hi ht hr hrel hp hst hd hk
  refine ⟨u, hu, ⟨_, htask, rfl, rfl, rfl, rfl, rfl, Task.activate_ref _ _, ?_, fun hs => ?_, fun hs => ?_, ?_, ?_⟩, hrest, halone, hskip⟩
  · cases hs : t.started with
    | false => exact congrArg sameFlags (Task.activate_first (t := (t.nextMultiple k).lost k) hs _)
    | true => exact congrArg sameFlags (Task.activate_later (t := (t.nextMultiple k).lost k) hs _)
  · dsimp only
    rw [Task.activate_later (t := (t.nextMultiple k).lost k) hs]
    exact ⟨rfl, rfl, fun _ => rfl⟩
  · dsimp only
    rw [Task.activate_first (t := (t.nextMultiple k).lost k) hs]
    exact ⟨rfl, rfl, Arch.getW_start _ _⟩
  · show t.nextPeriod + k * t.hdr.relParam + t.hdr.relParam = _
    rw [Nat.succ_mul, Nat.add_assoc]
  · show (if k = 0 then t.overrun else min 65535 (t.overrun + k)) = _
    split
    · omega
    · rfl

end

/-- An idle PERIOD task on engine 2, due at time 0, that has begun before and whose count of lost releases is one more than its register holds. -/
def overrunWide : Task :=
  { hdr := { hdrOk := true, loop := false, cls := 1, prio := 0, restart := false, task := 0, rel := .period, relArg := 0, relParam := 1000, minInterval := 0
             deadline := 0, budget := 10000, load := 0, entry := 4, codeWords := 64, segs := [], chans := [], code := [] }
    arch := Arch.start 4 0, stat := .idle, wait := none, dcall := none, stall := false, access := none, pending := none, inForce := ⟨0, []⟩
    started := true, ckpt := none, cyc := 0, maxCyc := 0, minSlack := 0, overrun := 65536, trapPc := 0, trapKind := 0, streak := 0, tries := 0
    trapTime := 0, readyAt := 0, preempted := false, halted := false, phys := 2, segLoc := [], area := 0x1000000000, segBase := [], nextPeriod := 0 }

/-- The reset state but for that task. -/
def overrunWideState : State := { State.reset with ex := { State.reset.ex with tasks := [(0, overrunWide)] } }

/-- Refutes O18, by its clause on releases alone: that clause cuts the count of lost releases to its register's 65,535 even where no release is lost,
and does not ask that the count fits. In `overrunWideState` it is 65,536, and a release that loses none leaves it. The model itself never counts
past 65,535, so the fault lies in the missing hypothesis and not in the model's releases: `periodRelease_of_overrun_le` is the clause with it. -/
theorem not_releasesAndDispatch : ¬ Obligations.ReleasesAndDispatch := by
  rintro ⟨hrelease, -⟩
  obtain ⟨u, hu, ⟨x, hx, -, -, -, -, -, -, -, -, -, -, hcount⟩, -⟩ :=
    hrelease overrunWideState 0 0 overrunWide (by decide) rfl rfl rfl (by decide) rfl (by decide) (by decide)
  obtain ⟨v, hv, htask, -⟩ :=
    periodRelease_released (s := overrunWideState) (i := 0) (k := 0) (t := overrunWide) (by decide) rfl rfl rfl (by decide) rfl (by decide) (by decide)
  have huv : v = u := Host.Outcome.next.inj (hv.symm.trans hu)
  rw [huv, hx] at htask
  have hkept : x.overrun = 65536 := congrArg Task.overrun (Option.some.inj htask)
  exact absurd (hkept.symm.trans hcount) (by decide)

/-! ### The task that runs next (R104) -/

/-- `b` runs before `e`: by the higher priority, then as the one that was preempted, then as the one that became ready first, then by the lower
number. -/
def runsBefore (b e : Nat × Task) : Prop :=
  e.2.hdr.prio < b.2.hdr.prio ∨ (e.2.hdr.prio = b.2.hdr.prio ∧ (b.2.preempted = true ∧ e.2.preempted = false
    ∨ b.2.preempted = e.2.preempted ∧ (b.2.readyAt < e.2.readyAt ∨ (b.2.readyAt = e.2.readyAt ∧ b.1 < e.1))))

/-- No task that runs later is ahead of one that runs before it. -/
theorem not_ahead_of_runsBefore {b e : Nat × Task} (h : runsBefore b e) : e.2.ahead b.2 = false := by
  unfold Task.ahead
  rcases h with hprio | ⟨hprio, hpre | ⟨hpre, hready⟩⟩
  · rw [if_pos (by omega)]; exact decide_eq_false (by omega)
  · rw [if_neg (by omega), if_pos (by simp [hpre])]; exact hpre.2
  · rw [if_neg (by omega), if_neg (by simp [hpre])]; exact decide_eq_false (by omega)

/-- The list ascends, so that a tie falls to the task that stands first: one that runs before an earlier entry is ahead of it. -/
theorem ahead_of_runsBefore {b e : Nat × Task} (h : runsBefore b e) (hk : e.1 < b.1) : b.2.ahead e.2 = true := by
  unfold Task.ahead
  rcases h with hprio | ⟨hprio, hpre | ⟨hpre, hready⟩⟩
  · rw [if_pos (by omega)]; exact decide_eq_true hprio
  · rw [if_neg (by omega), if_pos (by simp [hpre])]; exact hpre.1
  · rw [if_neg (by omega), if_neg (by simp [hpre])]; exact decide_eq_true (by omega)

theorem bestReady_mem {l : List (Nat × Task)} {b : Nat × Task} (hb : bestReady l = some b) : b ∈ l := by
  induction l generalizing b with
  | nil => cases hb
  | cons e l ih =>
    unfold bestReady at hb
    split at hb
    · exact Option.some.inj hb ▸ List.mem_cons_self
    · rename_i c hc
      split at hb
      · exact Option.some.inj hb ▸ List.mem_cons_of_mem _ (ih hc)
      · exact Option.some.inj hb ▸ List.mem_cons_self

theorem bestReady_of_runsBefore {l : List (Nat × Task)} (hs : kvSorted l = true) {b : Nat × Task} (hb : b ∈ l)
    (h : ∀ e ∈ l, e.1 ≠ b.1 → runsBefore b e) : bestReady l = some b := by
  induction l with
  | nil => exact absurd hb List.not_mem_nil
  | cons e l ih =>
    obtain ⟨k, y⟩ := e
    obtain ⟨habove, hsl⟩ := (kvSorted_cons k y l).1 hs
    unfold bestReady
    rcases List.mem_cons.1 hb with rfl | hb
    · cases hc : bestReady l with
      | none => rfl
      | some c =>
        have hcl := bestReady_mem hc
        have hlater := h c (List.mem_cons_of_mem _ hcl) (Nat.ne_of_gt (habove c hcl))
        exact if_neg (by rw [not_ahead_of_runsBefore hlater]; decide)
    · rw [ih hsl hb (fun e he => h e (List.mem_cons_of_mem _ he))]
      have hk := habove b hb
      exact if_pos (ahead_of_runsBefore (h (k, y) List.mem_cons_self (Nat.ne_of_lt hk)) hk)

theorem mem_readyOn {s : State} {p : Nat} {e : Nat × Task} : e ∈ s.readyOn p ↔ e ∈ s.ex.tasks ∧ e.2.phys = p ∧ e.2.stat = .ready := by
  simp [State.readyOn]

theorem mem_of_kvGet {α : Type} {m : List (Nat × α)} {k : Nat} {v : α} (h : kvGet m k = some v) : (k, v) ∈ m := by
  induction m with
  | nil => cases h
  | cons x m ih =>
    obtain ⟨j, w⟩ := x
    unfold kvGet at h
    split at h
    · rename_i hj
      subst hj
      exact Option.some.inj h ▸ List.mem_cons_self
    · exact List.mem_cons_of_mem _ (ih h)

/-! ### TASK_DISPATCH (R95, R104) -/

section
variable {s : State} {p i j : Nat} {t x : Task}

/-- The ready task of an engine that runs before every other one of it is the best. -/
theorem State.bestReady_readyOn (hs : kvSorted s.ex.tasks = true) (ht : s.task? i = some t) (hp : t.phys = p) (hst : t.stat = .ready)
    (h : ∀ e ∈ s.ex.tasks, e.1 ≠ i → e.2.phys = p → e.2.stat = .ready → runsBefore (i, t) e) : bestReady (s.readyOn p) = some (i, t) := by
  refine bestReady_of_runsBefore (kvSorted_filter _ _ hs) (mem_readyOn.2 ⟨mem_of_kvGet ht, hp, hst⟩) (fun e he hne => ?_)
  obtain ⟨hmem, hphys, hready⟩ := mem_readyOn.1 he
  exact h e hmem hne hphys hready

/-- The clause of O18 on an engine without a ready task. -/
theorem taskDispatch_none (hp : p < 25) (h : ∀ e ∈ s.ex.tasks, e.2.phys = p → e.2.stat ≠ .ready) : exec (.taskDispatch p) s = .next s := by
  have hnone : s.readyOn p = [] := List.eq_nil_iff_forall_not_mem.2 (fun e he => by
    obtain ⟨hmem, hphys, hready⟩ := mem_readyOn.1 he
    exact h e hmem hphys hready)
  show execTaskDispatch p s = _
  simp [execTaskDispatch, onUnit, nEngines, hp, hnone, bestReady]

/-- An engine in service that runs no task starts the best of its ready tasks. -/
theorem taskDispatch_free (hp : p < 25) (hstate : s.fget (PLC_ENGp_STATE p) = 1) (hrun : kvGet s.ex.running p = none)
    (hb : bestReady (s.readyOn p) = some (i, t)) : exec (.taskDispatch p) s = .next (s.start p i t) := by
  show execTaskDispatch p s = _
  simp [execTaskDispatch, onUnit, nEngines, hp, hstate, hb, hrun]

/-- An engine in service that runs a task starts the best of its ready tasks where that has the higher priority. -/
theorem taskDispatch_busy (hp : p < 25) (hstate : s.fget (PLC_ENGp_STATE p) = 1) (hrun : kvGet s.ex.running p = some j) (hx : s.task? j = some x)
    (hb : bestReady (s.readyOn p) = some (i, t)) : exec (.taskDispatch p) s = .next (if x.hdr.prio < t.hdr.prio then
      (s.setTask j { x with stat := .ready, preempted := true }).start p i t else s) := by
  show execTaskDispatch p s = _
  simp [execTaskDispatch, onUnit, nEngines, hp, hstate, hb, hrun, hx]

/-- What an engine's start of a task writes. -/
theorem State.start_started (s : State) (p i : Nat) (t : Task) : kvGet (s.start p i t).ex.running p = some i
    ∧ (∀ q, q ≠ p → kvGet (s.start p i t).ex.running q = kvGet s.ex.running q)
    ∧ (s.start p i t).task? i = some { t with stat := .running, preempted := false } ∧ (∀ k, k ≠ i → (s.start p i t).task? k = s.task? k)
    ∧ s.start p i t = { s with ex := { s.ex with tasks := (s.start p i t).ex.tasks, running := (s.start p i t).ex.running } } :=
  ⟨kvGet_kvSet_same _ p i, fun q hq => kvGet_kvSet_ne _ p q i hq, s.task?_setTask_same i _, fun k hk => s.task?_setTask_ne i k _ hk, rfl⟩

/-- The clause of O18 on an engine that runs no task. -/
theorem taskDispatch_starts (hp : p < 25) (hstate : s.fget (PLC_ENGp_STATE p) = 1) (hrun : kvGet s.ex.running p = none) (ht : s.task? i = some t)
    (hphys : t.phys = p) (hst : t.stat = .ready) (h : ∀ e ∈ s.ex.tasks, e.1 ≠ i → e.2.phys = p → e.2.stat = .ready → runsBefore (i, t) e)
    (hs : kvSorted s.ex.tasks = true) :
    Runs (exec (.taskDispatch p) s) (fun u => kvGet u.ex.running p = some i ∧ (∀ q, q ≠ p → kvGet u.ex.running q = kvGet s.ex.running q)
      ∧ u.task? i = some { t with stat := .running, preempted := false } ∧ (∀ k, k ≠ i → u.task? k = s.task? k)
      ∧ u = { s with ex := { s.ex with tasks := u.ex.tasks, running := u.ex.running } }) :=
  ⟨_, taskDispatch_free hp hstate hrun (State.bestReady_readyOn hs ht hphys hst h), s.start_started p i t⟩

/-- The clause of O18 on an engine that runs a task of lower priority. -/
theorem taskDispatch_preempts (hp : p < 25) (hstate : s.fget (PLC_ENGp_STATE p) = 1) (hrun : kvGet s.ex.running p = some j) (hx : s.task? j = some x)
    (hxst : x.stat = .running) (ht : s.task? i = some t) (hphys : t.phys = p) (hst : t.stat = .ready)
    (h : ∀ e ∈ s.ex.tasks, e.1 ≠ i → e.2.phys = p → e.2.stat = .ready → runsBefore (i, t) e) (hs : kvSorted s.ex.tasks = true)
    (hprio : x.hdr.prio < t.hdr.prio) :
    Runs (exec (.taskDispatch p) s) (fun u => kvGet u.ex.running p = some i ∧ u.task? i = some { t with stat := .running, preempted := false }
      ∧ u.task? j = some { x with stat := .ready, preempted := true } ∧ (∀ k, k ≠ i → k ≠ j → u.task? k = s.task? k)
      ∧ u = { s with ex := { s.ex with tasks := u.ex.tasks, running := u.ex.running } }) := by
  have hji : j ≠ i := by
    rintro rfl
    obtain rfl : x = t := Option.some.inj (hx.symm.trans ht)
    rw [hxst] at hst
    cases hst
  have hrun' := taskDispatch_busy hp hstate hrun hx (State.bestReady_readyOn hs ht hphys hst h)
  rw [if_pos hprio] at hrun'
  obtain ⟨hp', -, htask, hrest, heq⟩ := (s.setTask j { x with stat := .ready, preempted := true }).start_started p i t
  exact ⟨_, hrun', hp', htask, (hrest j hji).trans (s.task?_setTask_same j _), fun k hki hkj => (hrest k hki).trans (s.task?_setTask_ne j k _ hkj), heq⟩

/-- The clause of O18 on an engine that runs a task of no lower priority. -/
theorem taskDispatch_stays (hp : p < 25) (hstate : s.fget (PLC_ENGp_STATE p) = 1) (hrun : kvGet s.ex.running p = some j) (hx : s.task? j = some x)
    (ht : s.task? i = some t) (hphys : t.phys = p) (hst : t.stat = .ready)
    (h : ∀ e ∈ s.ex.tasks, e.1 ≠ i → e.2.phys = p → e.2.stat = .ready → runsBefore (i, t) e) (hs : kvSorted s.ex.tasks = true)
    (hprio : t.hdr.prio ≤ x.hdr.prio) : exec (.taskDispatch p) s = .next s := by
  rw [taskDispatch_busy hp hstate hrun hx (State.bestReady_readyOn hs ht hphys hst h), if_neg (Nat.not_lt.2 hprio)]

end

end Sys2Proof.Machine
end

section
/-! Queries of the host: what the end of a command writes behind BAR0, ENGINE_CALL and STATUS_QUERY (R101, R124 to R127, R135). -/

namespace Sys2Proof.Machine

/-! ### A CMD_DONE behind BAR0 (R134, R135) -/

theorem memRead_memWrite (m : Memory) (a : Nat) (l : List Byte) : memRead (memWrite m a l) a l.length = l := by
  rw [memRead_eq_map]
  refine List.ext_getElem (by simp) (fun k h _ => ?_)
  have hk : k < l.length := by simpa using h
  simp [memGet_memWrite_in l m a k hk]

theorem State.msixSend_bar (s : State) (v : Nat) : (s.msixSend v).host.bar = s.host.bar := by
  unfold State.msixSend
  split
  · rfl
  · split <;> rfl

theorem State.msix_bar (s : State) (v : Nat) : (s.msix v).host.bar = s.host.bar := by
  unfold State.msix
  split
  · exact State.msixSend_bar _ v
  · rfl

theorem State.msixTail_bar (s : State) : s.msixTail.host.bar = s.host.bar := by
  unfold State.msixTail
  extract_lets free
  split
  · split
    · exact s.msix_bar 0
    · rfl
  · rfl

/-- The event that ends a command stands at EVT_TAIL of the ring. -/
theorem State.cmdFinish_bar (s : State) (e : HostEvent) : (s.cmdFinish e).host.bar
    = memWrite s.host.bar (evtRing + 64 * s.fget HIF_EVT_TAIL_EVT_TAIL) (e.bytes ((s.host.eseq + 1) % 2 ^ 32)) := by
  unfold State.cmdFinish
  rw [State.msix_bar]
  exact State.msixTail_bar _

theorem HostEvent.length_bytes (n : Nat) (e : HostEvent) : (e.bytes n).length = 64 := by
  rw [HostEvent.bytes, List.length_take, List.length_append, List.length_replicate]
  omega

theorem State.memRead_cmdFinish (s : State) (e : HostEvent) :
    memRead (s.cmdFinish e).host.bar (evtRing + 64 * s.fget HIF_EVT_TAIL_EVT_TAIL) 64 = e.bytes ((s.host.eseq + 1) % 2 ^ 32) := by
  have h := memRead_memWrite s.host.bar (evtRing + 64 * s.fget HIF_EVT_TAIL_EVT_TAIL) (e.bytes ((s.host.eseq + 1) % 2 ^ 32))
  rwa [HostEvent.length_bytes, ← State.cmdFinish_bar] at h

/-- The 64 bytes of the CMD_DONE of STATUS_QUERY (R126, R135). -/
theorem statusDone_bytes (n tag seq ack count limiter : Nat) : (HostEvent.cmdDone tag 0x0005 0 0 [seq, ack, count, limiter]).bytes n
    = [1, 0, 0, 0] ++ natToBytes n 4 ++ natToBytes tag 4 ++ [5, 0, 0, 0, 0, 0, 0, 0]
      ++ natToBytes seq 8 ++ natToBytes ack 8 ++ natToBytes count 4 ++ natToBytes limiter 4 ++ List.replicate 20 0 := rfl

/-- The end of a command touches no task. -/
theorem State.cmdDone_ex (s : State) (h : CmdHead) (op st d : Nat) (res : List Nat) : (s.cmdDone h op st d res).ex = s.ex := by
  unfold State.cmdDone State.cmdFinish
  rw [State.msix_host]
  show (State.msixTail _).ex = _
  rw [State.msixTail_host]
  rfl

theorem State.task?_cmdDone (s : State) (h : CmdHead) (op st d : Nat) (res : List Nat) (j : Nat) :
    (s.cmdDone h op st d res).task? j = s.task? j := by
  unfold State.task?; rw [State.cmdDone_ex]

/-! ### A command recorded (R445) -/

theorem State.recCmd_ex (s : State) : s.recCmd.ex = s.ex := s.record_ex _ _ _

@[simp] theorem State.task?_recCmd (s : State) (j : Nat) : s.recCmd.task? j = s.task? j := s.task?_record _ _ _ j

theorem State.recCmd_now (s : State) : s.recCmd.now = s.now := by rw [s.recCmd_eq]; rfl

/-- A record leaves a replay as it is. -/
theorem State.replaying_record (s : State) (typ sub : Nat) (d : List Int) : (s.record typ sub d).replaying = s.replaying := by
  unfold State.record
  extract_lets r
  split <;> rfl

theorem State.replaying_recCmd (s : State) : s.recCmd.replaying = s.replaying := s.replaying_record _ _ _

/-! ### ENGINE_CALL (R101, R126, R127) -/

section
variable {s : State} {h : CmdHead} {i : Nat} {t : Task} {w : List Word}

theorem engineCall_exec {w1 w2 w3 w4 : Nat} (hc : hostCmd s 0x0006 h) (hi : i = s.cmdNum 8 2) (h1 : w1 = s.cmdNum 12 4) (h2 : w2 = s.cmdNum 16 4)
    (h3 : w3 = s.cmdNum 20 4) (h4 : w4 = s.cmdNum 24 4) : exec (.engineCall h i w1 w2 w3 w4) s
      = .next (s.recCmd.engineCall h i [BitVec.ofNat 32 w1, BitVec.ofNat 32 w2, BitVec.ofNat 32 w3, BitVec.ofNat 32 w4]) := by
  refine congrArg Host.Outcome.next (runCmd_of_run (hostCmd_run hc) (hostCmd_entry hc rfl ?_) (fun hs => absurd hs (by decide)) _)
  simp [hi, h1, h2, h3, h4]

/-- A call that is served is a release. -/
theorem State.engineCall_released (ht : s.task? i = some t) (hrel : t.hdr.rel = .call) (hp : t.pending = none) (hst : t.isStopped = false)
    (hk : cmdOk h = true) : s.engineCall h i w = (s.release i ⟨s.now, w⟩).cmdDone h 0x0006 0 0 [] := by
  simp [State.engineCall, ht, hrel, hp, hst, hk]

/-- A task that is stopped by command, or by a trap after which it does not restart by itself (R109, R110). -/
theorem Task.stopped_for_good (h : t.stat = .stopped ∨ (t.stat = .trapped ∧ (t.hdr.restart = false ∨ 3 ≤ t.tries))) :
    t.isStopped = true ∧ t.autoRestart = false := by
  rcases h with hs | ⟨hs, hr⟩
  · simp [Task.isStopped, Task.autoRestart, hs]
  · simp only [Task.isStopped, Task.autoRestart, hs, decide_eq_true_eq, decide_eq_false_iff_not]
    refine ⟨.inl trivial, fun ⟨_, hr', ht⟩ => ?_⟩
    rcases hr with hr | hr
    · exact absurd (hr.symm.trans hr') (by decide)
    · omega

/-- The statuses with which a call is refused (R127). -/
theorem State.engineCall_refused {st d : Nat} (hcase : ((st, d) = (10, 0) ∧ (∀ t, s.task? i = some t → t.hdr.rel ≠ .call))
      ∨ (∃ t, s.task? i = some t ∧ t.hdr.rel = .call ∧ (((st, d) = (11, 1) ∧ t.pending ≠ none) ∨ ((st, d) = (11, 2) ∧ t.pending = none
        ∧ (t.stat = .stopped ∨ (t.stat = .trapped ∧ (t.hdr.restart = false ∨ 3 ≤ t.tries))))))) :
    s.engineCall h i w = s.cmdDone h 0x0006 st d [] := by
  rcases hcase with ⟨hsd, hno⟩ | ⟨t, ht, hrel, ⟨hsd, hp⟩ | ⟨hsd, hp, hst⟩⟩
  · obtain ⟨rfl, rfl⟩ := Prod.mk.inj hsd
    unfold State.engineCall
    split
    · rename_i t ht
      exact if_pos (hno t ht)
    · rfl
  · obtain ⟨rfl, rfl⟩ := Prod.mk.inj hsd
    simp [State.engineCall, ht, hrel, Option.isSome_iff_ne_none.2 hp]
  · obtain ⟨rfl, rfl⟩ := Prod.mk.inj hsd
    obtain ⟨hs, ha⟩ := Task.stopped_for_good hst
    simp [State.engineCall, ht, hrel, hp, hs, ha]

/-- What the release of a call leaves to its answer. -/
theorem call_concluded (s : State) (h : CmdHead) (i : Nat) (r : Release) :
    let u := (s.recCmd.release i r).cmdDone h 0x0006 0 0 []
    (∀ j, j ≠ i → u.task? j = s.task? j) ∧ Answered s u h.tag 0x0006 0 0 [] ∧ u.led = s.led ∧ u.jrn = s.jrn ∧ onlyHost s u := by
  intro u
  have hrel : Frame viewReport reportFields s (s.recCmd.release i r) := (s.recCmd_frame _).trans (s.recCmd.release_frame i r)
  have hf : Frame viewReport hostFields s u := (hrel.mono (by decide)).trans ((State.cmdDone_frame _ h 0x0006 0 0 []).mono (by decide))
  refine ⟨fun j hj => ?_, State.cmdDone_answered (hrel.fields _ (by decide)) h 0x0006 0 0 [], hf.led, hf.jrn, hf.ledger.onlyHost (fun _ hx => hx)⟩
  exact (State.task?_cmdDone _ h 0x0006 0 0 [] j).trans (((s.recCmd.release_taskOnly i r).rest j hj).trans (s.task?_recCmd j))

/-- A call that is refused releases nothing. -/
theorem call_refused (s : State) (h : CmdHead) (st d : Nat) : Answered s (s.recCmd.cmdDone h 0x0006 st d []) h.tag 0x0006 st d []
    ∧ (s.recCmd.cmdDone h 0x0006 st d []).ex = s.ex ∧ (s.recCmd.cmdDone h 0x0006 st d []).led = s.led
    ∧ (s.recCmd.cmdDone h 0x0006 st d []).jrn = s.jrn ∧ onlyHost s (s.recCmd.cmdDone h 0x0006 st d []) := by
  obtain ⟨hans, hrest⟩ := s.answer_onlyHost h 0x0006 st d []
  exact ⟨hans, (State.cmdDone_ex _ h 0x0006 st d []).trans s.recCmd_ex, hrest⟩

end

/-! ### STATUS_QUERY (R126) -/

section
variable {s : State} {h : CmdHead}

theorem State.statusResults_recCmd (s : State) : s.recCmd.statusResults = s.statusResults := by rw [s.recCmd_eq]; rfl

theorem statusQuery_exec (hc : hostCmd s 0x0005 h) (hk : cmdOk h = true) (hflag : s.cmdFlags.testBit 1 = false) :
    exec (.statusQuery h) s = .next (s.recCmd.cmdDone h 0x0005 0 0 s.statusResults) := by
  have he : (s.cmdAt 0x0005 (withFlag 1 false) && s.cmdIs h []) = true := hostCmd_entry hc (by simp [withFlag, hflag]) rfl
  refine congrArg Host.Outcome.next ((runCmd_of_run (hostCmd_run hc) he (fun hs => absurd hs (by decide)) _).trans ?_)
  rw [if_pos hk, s.statusResults_recCmd]

theorem statusQuery_bytes (s : State) (h : CmdHead) :
    memRead (s.recCmd.cmdDone h 0x0005 0 0 s.statusResults).host.bar (0x20000 + 64 * s.fget HIF_EVT_TAIL_EVT_TAIL) 64
      = [1, 0, 0, 0] ++ natToBytes ((s.host.eseq + 1) % 2 ^ 32) 4 ++ natToBytes h.tag 4 ++ [5, 0, 0, 0, 0, 0, 0, 0]
        ++ natToBytes s.led.nextSeq 8 ++ natToBytes s.led.ack 8 ++ natToBytes s.ledgCount 4 ++ natToBytes s.ledgLimiter 4 ++ List.replicate 20 0 := by
  have hread := s.recCmd.memRead_cmdFinish (.cmdDone h.tag 0x0005 0 0 s.statusResults)
  have heseq : s.recCmd.host.eseq = s.host.eseq := by rw [s.recCmd_eq]
  rw [s.recCmd_fget, heseq] at hread
  exact hread.trans (statusDone_bytes _ h.tag _ _ _ _)

end

end Sys2Proof.Machine
end

section
/-! Acknowledgements (R32, R49, R483) and commands of the host that name another entry than the one at CMD_HEAD (R124, R125). -/

namespace Sys2Proof.Machine

/-! ### The pump without held acknowledgements (R49, R55) -/

section
variable {s : State}

theorem State.applyHeldAcks_led (ha : s.led.heldAcks = []) : s.applyHeldAcks.led = s.led := by
  unfold State.applyHeldAcks
  split
  · rw [ha]
    exact congrArg (fun l => { s.led with heldAcks := l }) ha.symm
  · rfl

theorem State.compactOne_led (ha : s.led.heldAcks = []) (j : Nat) (item : CkptItem) (rest : List CkptItem) : (s.compactOne j item rest).led = s.led := by
  cases item with
  | start => rfl
  | sheet seq => simp only [State.compactOne]; split <;> rfl
  | handoff k => simp only [State.compactOne]; split <;> rfl
  | close => exact State.applyHeldAcks_led (s := State.stage { s with jrn := { s.jrn with compact := none } } _) ha

theorem State.compactPump_led (ha : s.led.heldAcks = []) (k : Nat) : (s.compactPump k).led = s.led := by
  induction k generalizing s with
  | zero => rfl
  | succ k ih =>
    unfold State.compactPump
    split
    · rename_i j item rest _
      split
      · have hone := State.compactOne_led ha j item rest
        exact (ih (by rw [hone, ha])).trans hone
      · rfl
    · rfl

theorem State.compactStart_led (ha : s.led.heldAcks = []) : s.compactStart.led = s.led := by
  unfold State.compactStart
  split
  · rfl
  · exact State.compactPump_led (s := State.fset { s with jrn := { s.jrn with compact := some (0, [.start]) } } LEDG_STATUS_COMPACTING 1) ha 193

/-- Of the ledger degraded mode writes the time without a cause alone. -/
theorem State.degradedUpdate_led (s : State) : s.degradedUpdate.led = { s.led with clearSince := s.degradedUpdate.led.clearSince } := by
  unfold State.degradedUpdate
  split
  · split <;> rfl
  · split <;> rfl

/-- Where no acknowledgement is held, the one in force stands. -/
theorem State.journalPump_ack (hp : s.power.phase = .run) (ha : s.led.heldAcks = []) : s.journalPump.led.ack = s.led.ack := by
  have h1 : ((s.compactPump 192).applyHeldAcks).led = s.led := by
    have hpump := State.compactPump_led ha 192
    exact (State.applyHeldAcks_led (by rw [hpump, ha])).trans hpump
  have h2 := State.degradedUpdate_led (s.compactPump 192).applyHeldAcks
  rw [h1] at h2
  unfold State.journalPump
  rw [if_pos hp]
  extract_lets s1
  have hack : s1.led.ack = s.led.ack := (congrArg Ledger.ack h2 :)
  split
  · rw [State.compactStart_led ((congrArg Ledger.heldAcks h2).trans ha)]; exact hack
  · exact hack

end

/-! ### An acknowledgement (R32) -/

section
variable {s : State} {h : CmdHead} {n m k : Nat}

theorem State.ackBound_eq (s : State) :
    s.ackBound = (((s.led.sheets.filter (fun sh => !sh.st.isFinal)).head?).map (fun sh => sh.seq)).getD s.led.nextSeq := by
  unfold State.ackBound
  rw [List.head?_filter]
  cases s.led.sheets.find? (fun sh => !sh.st.isFinal) <;> rfl

/-- The ledger without the final sheets up to `k`, and with `k` in force where it is the greater. -/
def Ledger.acked (l : Ledger) (k : Nat) : Ledger :=
  { l with sheets := l.sheets.filter (fun sh => !(sh.st.isFinal && decide (sh.seq ≤ k))), ack := max l.ack k }

theorem State.applyAck_led (hm : s.ackBound = m) (h1 : 1 ≤ m) (hk : k = min n (m - 1)) : (s.applyAck n).led = s.led.acked k := by
  subst hm hk
  unfold State.applyAck
  rw [if_neg (Nat.ne_of_gt h1)]
  by_cases hlt : s.led.ack < min n (s.ackBound - 1)
  · rw [Ledger.acked, Nat.max_eq_right (Nat.le_of_lt hlt)]
    exact congrArg State.led (if_pos hlt)
  · rw [Ledger.acked, Nat.max_eq_left (Nat.not_lt.1 hlt)]
    exact congrArg State.led (if_neg hlt)

/-- A greater acknowledgement stages its record. -/
theorem State.applyAck_jrn (hm : s.ackBound = m) (h1 : 1 ≤ m) (hk : k = min n (m - 1)) (hlt : s.led.ack < k) :
    ∃ r : JRec, (s.applyAck n).jrn = (s.stage r).jrn ∧ r.typ = 0x04 ∧ r.seq = k := by
  subst hm hk
  unfold State.applyAck
  rw [if_neg (Nat.ne_of_gt h1)]
  extract_lets k led s1
  rw [if_pos (show s.led.ack < k from hlt)]
  exact ⟨s1.plainRec 0x04 k 0, rfl, rfl, rfl⟩

/-- The acknowledgement applied, with the updates that follow it. -/
def State.ackTaken (s : State) (n : Nat) : State := (s.applyAck n).degradedUpdate.journalPump

theorem State.takeAck_now (hn : s.ackNow = true) (n : Nat) : s.takeAck n = (s.applyAck n).degradedUpdate := if_neg (by rw [hn]; decide)

theorem hostAcknowledge_exec (hc : hostCmd s 0x0005 h) (hk : cmdOk h = true) (hflag : s.cmdFlags.testBit 1 = true) (hn : n = s.cmdNum 8 8)
    (hj : s.jrn.compact = none) (hroom : s.jrn.staged.length < 192) : exec (.hostAcknowledge h n) s
      = .next ((s.recCmd.ackTaken n).cmdDone h 0x0005 0 0 (s.recCmd.ackTaken n).statusResults) := by
  have he : (s.cmdAt 0x0005 (withFlag 1 true) && s.cmdIs h [(8, 8, n)]) = true := hostCmd_entry hc (by simp [withFlag, hflag]) (by simp [hn])
  have hnow : s.recCmd.ackNow = true := by
    obtain ⟨⟨-, -, hseries, -, hheld⟩, -⟩ := hc
    have hs : s.recCmd.host.series = none := by rw [s.recCmd_eq]; exact hseries
    simp [State.ackNow, hj, hs, hheld]
  refine congrArg Host.Outcome.next ((runCmd_of_run (hostCmd_run hc) he (fun _ => hroom) _).trans ?_)
  rw [if_neg (by rw [hk]; decide), State.takeAck_now hnow]
  rfl

/-- Degraded mode after an applied acknowledgement is staged only, and leaves the supplies as they are. -/
theorem State.acked_pumped (s : State) (n : Nat) :
    Pumped pumpFields (s.applyAck n) (s.applyAck n).degradedUpdate ∧ (s.applyAck n).degradedUpdate.power = s.power := by
  have hack : (s.applyAck n).power = s.power := (congrArg State.power (s.applyAck_staging n []).view :)
  have hd := State.degradedUpdate_pumped (s.applyAck n)
  exact ⟨hd, (congrArg State.power hd.view :).trans hack⟩

/-- What stands behind an applied acknowledgement is staged only. -/
theorem State.ackTaken_pumped (hp : s.power.phase = .run) (n : Nat) : Pumped pumpFields (s.applyAck n) (s.ackTaken n) := by
  obtain ⟨hd, hpower⟩ := s.acked_pumped n
  exact hd.trans (State.journalPump_pumped _ (by rw [hpower]; exact hp))

theorem State.ackTaken_led (hp : s.power.phase = .run) (ha : s.led.heldAcks = []) (hm : s.ackBound = m) (h1 : 1 ≤ m) (hk : k = min n (m - 1)) :
    (s.ackTaken n).led.sheets = (s.led.acked k).sheets ∧ (s.ackTaken n).led.ack = max s.led.ack k ∧ (s.ackTaken n).led.nextSeq = s.led.nextSeq := by
  have hl := State.applyAck_led (n := n) hm h1 hk
  have hheld : (s.applyAck n).led.heldAcks = [] := by rw [hl]; exact ha
  obtain ⟨hsheets, hnext, -⟩ := (State.ackTaken_pumped hp n).held hheld
  obtain ⟨hd, hpower⟩ := s.acked_pumped n
  have hpump : (s.ackTaken n).led.ack = (s.applyAck n).degradedUpdate.led.ack := State.journalPump_ack (by rw [hpower]; exact hp) (hd.held hheld).2.2
  have hack : (s.applyAck n).degradedUpdate.led.ack = (s.applyAck n).led.ack := (congrArg Ledger.ack (State.degradedUpdate_led _) :)
  rw [hpump, hack, hsheets, hnext, hl]
  exact ⟨rfl, rfl, rfl⟩

theorem State.ackTaken_staged (hp : s.power.phase = .run) (hm : s.ackBound = m) (h1 : 1 ≤ m) (hk : k = min n (m - 1)) (hlt : s.led.ack < k) :
    Staged s (s.ackTaken n) 0x04 k := by
  obtain ⟨r, hj, ht, hq⟩ := State.applyAck_jrn hm h1 hk hlt
  have hs := staged_of_stage hj (State.ackTaken_pumped hp n).staged
  rwa [ht, hq] at hs

theorem State.ackTaken_frame (hp : s.power.phase = .run) (n : Nat) : Frame viewLedger pumpFields s (s.ackTaken n) :=
  (s.applyAck_staging n _).frame.trans (State.ackTaken_pumped hp n).frame

/-- What the answer of an acknowledgement shows (R126). -/
theorem ack_concluded (hc : hostCmd s 0x0005 h) (hm : s.ackBound = m) (h1 : 1 ≤ m) (hk : k = min n (m - 1)) :
    let u := (s.recCmd.ackTaken n).cmdDone h 0x0005 0 0 (s.recCmd.ackTaken n).statusResults
    u.led.sheets = (s.led.acked k).sheets ∧ u.led.ack = max s.led.ack k ∧ u.led.nextSeq = s.led.nextSeq ∧ (s.led.ack < k → Staged s u 0x04 k)
      ∧ (∃ c l, Answered s u h.tag 0x0005 0 0 [s.led.nextSeq, max s.led.ack k, c, l]) ∧ onlyHost s u := by
  intro u
  have hp : s.recCmd.power.phase = .run := (congrArg Power.phase (s.recCmd_frame []).power).trans (hostCmd_run hc)
  have hb : s.recCmd.ackBound = m := by rw [← hm]; unfold State.ackBound; rw [s.recCmd_led]
  have ha : s.recCmd.led.heldAcks = [] := by rw [s.recCmd_led]; exact hostCmd_heldAcks hc
  obtain ⟨hsheets, hack, hnext⟩ := State.ackTaken_led (n := n) hp ha hb h1 hk
  rw [s.recCmd_led] at hsheets hack hnext
  have hdone := (s.recCmd.ackTaken n).cmdDone_frame h 0x0005 0 0 (s.recCmd.ackTaken n).statusResults
  have hled : u.led = (s.recCmd.ackTaken n).led := hdone.led
  have hjrn : u.jrn = (s.recCmd.ackTaken n).jrn := hdone.jrn
  have hf : Frame viewLedger hostFields s (s.recCmd.ackTaken n) := (s.recCmd_frame _).ledger.trans ((State.ackTaken_frame hp n).mono (by decide))
  have hhead : (s.recCmd.ackTaken n).fget HIF_CMD_HEAD_CMD_HEAD = s.fget HIF_CMD_HEAD_CMD_HEAD :=
    ((State.ackTaken_frame hp n).fields _ (by decide)).trans (s.recCmd_fget _)
  refine ⟨?_, ?_, ?_, fun hlt => ?_, ⟨(s.recCmd.ackTaken n).ledgCount, (s.recCmd.ackTaken n).ledgLimiter, ?_⟩,
    (hf.trans (hdone.ledger.mono (by decide))).onlyHost (fun _ hx => hx)⟩
  · rw [hled]; exact hsheets
  · rw [hled]; exact hack
  · rw [hled]; exact hnext
  · have hst := State.ackTaken_staged (n := n) hp hb h1 hk (by rwa [s.recCmd_led])
    unfold Staged at hst ⊢
    rwa [hjrn, ← s.recCmd_jrn]
  · rw [← hack, ← hnext]
    exact State.cmdDone_answered hhead h 0x0005 0 0 (s.recCmd.ackTaken n).statusResults

end

/-! ### Commands that name another entry (R124, R125) -/

theorem State.cmdIs_other {s : State} {h : CmdHead} (hne : h ≠ s.cmdHead) (args : List (Nat × Nat × Nat)) : s.cmdIs h args = false := by
  unfold State.cmdIs
  rw [beq_false_of_ne hne, Bool.false_and]

/-- A command that names another common part than that of the entry at CMD_HEAD is none that the controller begins (log entry 1). -/
theorem exec_otherEntry {s : State} {h : CmdHead} (hne : h ≠ s.cmdHead) (i w1 w2 w3 w4 addr len tok off : Nat) (x : SheetSlot) (err : Bool)
    (img : List Byte) : ∀ c ∈ ([.runStart h i, .runEnd h, .sheetSubmit h i x, .sheetReload h i x, .sheetWithdraw h i, .statusQuery h,
      .hostAcknowledge h i, .engineCall h i w1 w2 w3 w4, .updateStage h addr len tok err img, .updateActivate h, .updateConfirm h, .updateRevert h,
      .recordExport h addr len off err, .unknownCmd h i] : List Instr), exec c s = .next s := by
  simp only [List.forall_mem_cons, List.not_mem_nil, false_implies, implies_true, and_true]
  and_intros <;> exact congrArg Host.Outcome.next (if_pos (by simp [State.cmdIs_other hne]))

/-- Settles O25: a call is a release or a refusal with its answer, a query is the answer alone, an acknowledgement is the ledger's edit with its
record, the pump and the answer, and a command that names another entry is none. -/
theorem hostQueries : Obligations.HostQueries := by
  refine ⟨fun s h i w1 w2 w3 w4 hc hi h1 h2 h3 h4 hfl har hr => ⟨fun t ht hrel hp r hrr => ⟨fun hst => ?_, fun hst => ?_⟩, fun st d hcase => ?_⟩,
    fun s h hc hfl har => ⟨fun hflag _ => ?_, fun hflag m k n hn hm h1 hk hj hroom => ?_⟩,
    fun s h hne i w1 w2 w3 w4 addr len tok off x err img c hcm => ⟨s, exec_otherEntry hne i w1 w2 w3 w4 addr len tok off x err img c hcm, rfl⟩⟩
  · have hk : cmdOk h = true := by simp [cmdOk, hfl, har]
    have ht' : s.recCmd.task? i = some t := by rwa [s.task?_recCmd]
    refine ⟨_, engineCall_exec hc hi h1 h2 h3 h4, ?_⟩
    rw [State.engineCall_released ht' hrel hp (by simp [Task.isStopped, hst]) hk, s.recCmd_now, ← hrr]
    obtain ⟨htask, -⟩ := State.release_idle (s.replaying_recCmd.trans hr) ht' hst r
    have hx := (State.task?_cmdDone _ h 0x0006 0 0 [] i).trans htask
    subst hrr
    exact ⟨⟨_, hx, rfl, Task.activate_ref t _, rfl, Task.activate_args t _ _ _ _ _⟩, call_concluded s h i _⟩
  · have hk : cmdOk h = true := by simp [cmdOk, hfl, har]
    have ht' : s.recCmd.task? i = some t := by rwa [s.task?_recCmd]
    have hgo : t.isStopped = false := by rcases hst with hst | hst | hst <;> simp [Task.isStopped, hst]
    refine ⟨_, engineCall_exec hc hi h1 h2 h3 h4, ?_⟩
    rw [State.engineCall_released ht' hrel hp hgo hk, s.recCmd_now, ← hrr]
    have htask := State.task?_release_inActivation (s.replaying_recCmd.trans hr) ht' hst hp (r := r) (by simp [Task.sameSheet, hrel])
    exact ⟨(State.task?_cmdDone _ h 0x0006 0 0 [] i).trans htask, call_concluded s h i r⟩
  · refine ⟨_, engineCall_exec hc hi h1 h2 h3 h4, ?_⟩
    rw [State.engineCall_refused (by simpa only [s.task?_recCmd] using hcase)]
    exact call_refused s h st d
  · have hk : cmdOk h = true := by simp [cmdOk, hfl, har]
    obtain ⟨hans, hled, hjrn, honly⟩ := s.answer_onlyHost h 0x0005 0 0 s.statusResults
    exact ⟨_, statusQuery_exec hc hk hflag, hans, hled, hjrn, honly, statusQuery_bytes s h⟩
  · have hk' : cmdOk h = true := by simp [cmdOk, hfl, har]
    exact ⟨_, hostAcknowledge_exec hc hk' hflag hn hj hroom, ack_concluded hc (s.ackBound_eq.trans hm.symm) h1 hk⟩

end Sys2Proof.Machine
end

section
/-! Steps and the rings of the host interface: a step runs the command at the front of the queue (R124), what a signal of a vector does (R138), the
doorbells of both rings, the hold-off, and the status mirror (R120, R123, R134, R160). -/

namespace Sys2Proof.Machine

/-- Settles O1: that is what a step of a queue with a command at its front is. -/
theorem stepRunsFrontCommand : Obligations.StepRunsFrontCommand := fun _ _ _ => rfl

/-! ### Fields -/

theorem State.fset_onlyFields (s : State) (f : Fld) (x : Nat) : onlyFields s (s.fset f x) [f] := ⟨rfl, keepsFields_fset s x (List.mem_singleton_self f)⟩

theorem keepsFields_fsets (l : List (Fld × Nat)) (s : State) : keepsFields s (s.fsets l) (l.map Prod.fst) := by
  induction l generalizing s with
  | nil => exact fun _ _ => rfl
  | cons e l ih => exact ((s.fset_onlyFields e.1 e.2).2.mono (by simp)).trans ((ih (s.fset e.1 e.2)).mono (by simp))

/-- A field that has been set to a value that its width holds. -/
theorem State.fget_fset_of_lt (s : State) {f : Fld} {v : Nat} (h : v < 2 ^ f.width) : (s.fset f v).fget f = v :=
  (s.fget_fset f v).trans (Nat.mod_eq_of_lt h)

/-- A flag of one bit that has been set. -/
theorem State.bit_flag (s : State) (f : Fld) (hw : f.width = 1) : (s.flag f).bit f = true := by
  unfold State.bit State.flag
  rw [State.fget_fset, hw]
  rfl

theorem State.bit_cleared (s : State) (f : Fld) : (s.fset f 0).bit f = false := by
  unfold State.bit
  rw [State.fget_fset, Nat.zero_mod]
  rfl

/-! ### Signals (R138) -/

/-- Of the host interface a signal that leaves writes the pending bits and the messages. -/
theorem State.msixSend_eq (s : State) (v : Nat) : ∃ p m, s.msixSend v = { s with host := { s.host with pend := p, msgs := m } } := by
  unfold State.msixSend
  split
  · exact ⟨_, _, rfl⟩
  · split <;> exact ⟨_, _, rfl⟩

/-- A signal of the vector is counted. -/
def State.msixCounted (s : State) (v : Nat) : State :=
  { s with host := { s.host with msix := kvSet s.host.msix v ((kvGet s.host.msix v).getD 0 + 1) } }

theorem State.msix_enabled {s : State} (h : s.bit HIF_CTRL_IRQ_EN = true) (v : Nat) : s.msix v = (s.msixCounted v).msixSend v := if_pos h

theorem State.msix_disabled {s : State} (h : s.bit HIF_CTRL_IRQ_EN = false) (v : Nat) : s.msix v = s := by
  unfold State.msix
  rw [h]
  exact if_neg Bool.false_ne_true

theorem State.msix_eq (s : State) (v : Nat) : ∃ n p m, s.msix v = { s with host := { s.host with msix := n, pend := p, msgs := m } } := by
  cases h : s.bit HIF_CTRL_IRQ_EN with
  | true =>
    obtain ⟨p, m, hs⟩ := (s.msixCounted v).msixSend_eq v
    exact ⟨_, p, m, (State.msix_enabled h v).trans hs⟩
  | false => exact ⟨_, _, _, State.msix_disabled h v⟩

theorem mem_pend_added {l : List Nat} {v : Nat} :
    v ∈ (if l.contains v then l else l ++ [v]) ∧ ∀ w, w ≠ v → (w ∈ (if l.contains v then l else l ++ [v]) ↔ w ∈ l) := by
  split
  · rename_i h
    exact ⟨by simpa using h, fun _ _ => Iff.rfl⟩
  · exact ⟨by simp, fun w hw => by simp [hw]⟩

/-- What becomes of a signal: nothing without MSI-X, a pending bit where the vector is masked or the host out of reach, else a message. -/
theorem State.msixSend_sent (s : State) (v : Nat) :
    (s.host.cfg.msixEn = false → (s.msixSend v).host.msgs = s.host.msgs ∧ (s.msixSend v).host.pend = s.host.pend)
    ∧ (s.host.cfg.msixEn = true → s.masked v = true ∨ s.hostReach = false →
        (s.msixSend v).host.msgs = s.host.msgs ∧ v ∈ (s.msixSend v).host.pend ∧ ∀ w, w ≠ v → (w ∈ (s.msixSend v).host.pend ↔ w ∈ s.host.pend))
    ∧ (s.host.cfg.msixEn = true → s.masked v = false → s.hostReach = true → (s.msixSend v).host.pend = s.host.pend
        ∧ (kvGet (s.msixSend v).host.msgs v).getD 0 = (kvGet s.host.msgs v).getD 0 + 1
        ∧ ∀ w, w ≠ v → kvGet (s.msixSend v).host.msgs w = kvGet s.host.msgs w) := by
  unfold State.msixSend
  refine ⟨fun he => ?_, fun he hm => ?_, fun he hm hr => ?_⟩
  · rw [if_pos he]
    exact ⟨rfl, rfl⟩
  · rw [if_neg (by rw [he]; decide), if_pos hm]
    exact ⟨rfl, mem_pend_added⟩
  · rw [if_neg (by rw [he]; decide), if_neg (by simp [hm, hr])]
    exact ⟨rfl, by simp, fun w hw => kvGet_kvSet_ne _ _ _ _ hw⟩

theorem State.msix_signalled {s : State} (h : s.bit HIF_CTRL_IRQ_EN = true) (v : Nat) : Signalled s (s.msix v) v := by
  have hm : (s.msix v).host.msix = kvSet s.host.msix v ((kvGet s.host.msix v).getD 0 + 1) := by
    obtain ⟨p, m, hs⟩ := (s.msixCounted v).msixSend_eq v
    rw [State.msix_enabled h v, hs]
    rfl
  refine ⟨by rw [hm, kvGet_kvSet_same]; rfl, fun w hw => by rw [hm, kvGet_kvSet_ne _ _ _ _ hw], ?_⟩
  rw [State.msix_enabled h v]
  exact (s.msixCounted v).msixSend_sent v

/-! ### The rings (R124, R134) -/

theorem commandDoorbell_taken (s : State) (x : Nat) (h : (x % 1024 + 1024 - s.fget HIF_CMD_TAIL_CMD_TAIL) % 1024
      ≤ (s.fget HIF_CMD_HEAD_CMD_HEAD + 2047 - s.fget HIF_CMD_TAIL_CMD_TAIL) % 1024) :
    exec (.commandDoorbell x) s = .next (s.fset HIF_CMD_TAIL_CMD_TAIL (x % 1024)) := congrArg Host.Outcome.next (if_pos h)

theorem commandDoorbell_ignored (s : State) (x : Nat) (h : (s.fget HIF_CMD_HEAD_CMD_HEAD + 2047 - s.fget HIF_CMD_TAIL_CMD_TAIL) % 1024
      < (x % 1024 + 1024 - s.fget HIF_CMD_TAIL_CMD_TAIL) % 1024) :
    exec (.commandDoorbell x) s = .next s := congrArg Host.Outcome.next (if_neg (Nat.not_le.2 h))

theorem State.payDue_none {s : State} (h : s.host.owed = none) : s.payDue = s := by
  unfold State.payDue
  rw [h]

theorem eventHeadWrite_taken {s : State} {x adv : Nat} (ha : adv = (x % 4096 + 4096 - s.fget HIF_EVT_HEAD_EVT_HEAD) % 4096)
    (hl : adv ≤ s.host.events.length) (hheld : s.host.held = []) (howed : s.host.owed = none) : exec (.eventHeadWrite x) s
      = .next { s.fset HIF_EVT_HEAD_EVT_HEAD (x % 4096) with host := { s.host with events := s.host.events.drop adv } } := by
  subst ha
  refine congrArg Host.Outcome.next ?_
  have hpay := State.payDue_none (s := { s.fset HIF_EVT_HEAD_EVT_HEAD (x % 4096) with host := { s.host with
    events := s.host.events.drop ((x % 4096 + 4096 - s.fget HIF_EVT_HEAD_EVT_HEAD) % 4096) } }) howed
  unfold State.evtHead
  dsimp only
  rw [if_pos hl, hpay]
  exact congrArg (State.postHeld _) (congrArg List.length hheld)

theorem eventHeadWrite_ignored {s : State} {x : Nat} (h : s.host.events.length < (x % 4096 + 4096 - s.fget HIF_EVT_HEAD_EVT_HEAD) % 4096) :
    exec (.eventHeadWrite x) s = .next s := congrArg Host.Outcome.next (if_neg (Nat.not_le.2 h))

/-- The end of the hold-off signals vector 0 where that is due (R138). -/
theorem msixHoldoffEnd_due {s : State} {t : Nat} (ht : s.host.vec0At = some t) (hd : s.host.vec0Due = true)
    (hold : t + 250 * s.fget HIF_IRQ_HOLDOFF_HOLDOFF ≤ s.tick) (hen : s.bit HIF_CTRL_IRQ_EN = true) : exec .msixHoldoffEnd s
      = .next { s.msix 0 with host := { (s.msix 0).host with vec0At := some s.tick, vec0Due := false } } := by
  have hus : t + usTicks (s.fget HIF_IRQ_HOLDOFF_HOLDOFF) ≤ s.tick := by rwa [usTicks, Nat.mul_comm]
  show execMsixHoldoffEnd s = _
  unfold execMsixHoldoffEnd
  rw [ht]
  exact congrArg Host.Outcome.next (if_pos ⟨hd, hus, hen⟩)

/-! ### The status mirror (R123, R160) -/

/-- The mirror written anew, before its signal. -/
def State.mirrored (s : State) : State :=
  { s with host := { s.host with mirror := ⟨(s.host.mirror.gen + 2) % 2 ^ 32,
             s.mirrorWords s.ledgStatus s.ledgLimiter s.ledgCount s.mirrorImage.1 s.mirrorImage.2⟩ }
           mem := { s.mem with sramOne := sramKeep s.mem.sramOne (hifBase + 0x1000) 0x48
                               sramBad := sramKeep s.mem.sramBad (hifBase + 0x1000) 0x48 } }

theorem State.mirrorRewrite_eq (s : State) : s.mirrorRewrite
    = if s.host.mirror.words.take 9 ≠ s.mirrored.host.mirror.words.take 9 then s.mirrored.msix 2 else s.mirrored := rfl

/-- A rewrite signals or does not. -/
theorem State.mirrorRewrite_only (s : State) :
    ∃ n p m, s.mirrorRewrite = { s.mirrored with host := { s.mirrored.host with msix := n, pend := p, msgs := m } } := by
  rw [s.mirrorRewrite_eq]
  split
  · exact s.mirrored.msix_eq 2
  · exact ⟨_, _, _, rfl⟩

/-- Without IRQ_EN, or with no word of 0x004 to 0x024 changed, a rewrite does not signal. -/
theorem State.mirrorRewrite_quiet {s : State}
    (h : s.bit HIF_CTRL_IRQ_EN = false ∨ s.host.mirror.words.take 9 = s.mirrored.host.mirror.words.take 9) : s.mirrorRewrite = s.mirrored := by
  rw [s.mirrorRewrite_eq]
  split
  · rename_i hne
    exact State.msix_disabled (s := s.mirrored) (h.resolve_right hne) 2
  · rfl

theorem not_mem_sramKeep_of_covered (l : List Nat) {a len w : Nat} (h : a ≤ w) (h' : w + 4 ≤ a + len) : w ∉ sramKeep l a len := by
  simp [sramKeep, h, h']

theorem State.mirrored_onlyBarWords (s : State) : onlyBarWords s s.mirrored :=
  ⟨rfl, fun w hw => ⟨mem_sramKeep_bar _ 0x1000 0x48 w hw, mem_sramKeep_bar _ 0x1000 0x48 w hw⟩⟩

/-- Settles O24: a doorbell is a field set or nothing, the end of the hold-off is a signal, and a rewrite is the mirror's words and a signal where
those of 0x004 to 0x024 change. -/
theorem ringsAndMirror : Obligations.RingsAndMirror := by
  refine ⟨fun s x old head hold hhead => ⟨fun h => ?_, fun h => ?_, fun adv hadv => ⟨fun hl hheld howed => ?_, fun hl => ?_⟩,
    fun t ht hd hhold hen => ?_⟩, fun s => ⟨s.mirrorRewrite, rfl, ?_⟩⟩
  · subst hold hhead
    exact ⟨_, commandDoorbell_taken s x h, s.fget_fset_of_lt (Nat.mod_lt _ (by decide)), s.fset_onlyFields _ _⟩
  · subst hold hhead
    exact ⟨s, commandDoorbell_ignored s x h, rfl⟩
  · exact ⟨_, eventHeadWrite_taken hadv hl hheld howed, s.fget_fset_of_lt (Nat.mod_lt _ (by decide)), (s.fset_onlyFields _ _).2, rfl⟩
  · exact ⟨s, eventHeadWrite_ignored (hadv ▸ hl), rfl⟩
  · refine ⟨_, msixHoldoffEnd_due ht hd hhold hen, State.msix_signalled hen 0, rfl, rfl, ?_⟩
    obtain ⟨n, p, m, he⟩ := s.msix_eq 0
    rw [he]
  · have hgood : ∀ w, hifBase + 0x1000 ≤ w → w < hifBase + 0x1048 → w % 4 = 0 → w ∉ s.mirrored.mem.sramBad := fun w h1 h2 h4 =>
      not_mem_sramKeep_of_covered _ h1 (by unfold hifBase at h2 ⊢; omega)
    obtain ⟨n, p, m, he⟩ := s.mirrorRewrite_only
    have hmirror : s.mirrorRewrite.host.mirror = s.mirrored.host.mirror := by rw [he]
    refine ⟨by rw [hmirror]; rfl, by rw [hmirror]; rfl, by rw [hmirror]; rfl, fun hp => ?_, fun hen hne => ?_, fun hor => ?_, ?_, by rw [he]; rfl, ?_⟩
    · have himg : s.mirrorImage = ((s.slot s.runSlot).version, if s.runSlot then 1 else 0) := if_pos hp
      rw [hmirror]
      show [s.mirrorImage.1, s.mirrorImage.2] = _
      rw [himg]
    · rw [hmirror] at hne
      rw [s.mirrorRewrite_eq, if_pos hne]
      exact State.msix_signalled (s := s.mirrored) hen 2
    · rw [hmirror] at hor
      rw [State.mirrorRewrite_quiet hor]
      exact ⟨rfl, rfl, rfl⟩
    · rw [he]; exact hgood
    · rw [he]; exact s.mirrored_onlyBarWords

end Sys2Proof.Machine
end

section
/-! RESYNC series (R122, R135 to R137): what the posting of one event does, the start of a series at ENABLE, its RESYNC event, its SHEET_STATE events,
and its end where nothing was held meanwhile. -/

namespace Sys2Proof.Machine

/-! ### One event posted (R134, R138) -/

theorem State.msixTail_eq (s : State) :
    ∃ n p m a d, s.msixTail = { s with host := { s.host with msix := n, pend := p, msgs := m, vec0At := a, vec0Due := d } } := by
  unfold State.msixTail
  extract_lets free
  split
  · split
    · obtain ⟨n, p, m, h⟩ := s.msix_eq 0
      exact ⟨n, p, m, _, _, congrArg (fun x : State => { x with host := { x.host with vec0At := some s.tick, vec0Due := false } }) h⟩
    · exact ⟨_, _, _, _, _, rfl⟩
  · exact ⟨_, _, _, _, _, rfl⟩

/-- The event `e` stands behind those of the ring, and nothing else has changed but the host interface, its own word of the ring, and EVT_TAIL. -/
structure Posted (e : HostEvent) (s u : State) : Prop where
  events : u.host.events = s.host.events ++ [((s.host.eseq + 1) % 2 ^ 32, e)]
  fields : keepsFields s u [HIF_EVT_TAIL_EVT_TAIL]
  rest : sansFields u = { sansFields s with host := u.host, mem := u.mem }
  bar : onlyBarWords s u

/-- The state with this series. -/
def State.withSeries (s : State) (x : Option Series) : State := { s with host := { s.host with series := x } }

/-- The state with an event in the ring, before its signal. -/
def State.entered (s : State) (e : HostEvent) : State :=
  let s1 := s.barPut (evtRing + 64 * s.fget HIF_EVT_TAIL_EVT_TAIL) (e.bytes ((s.host.eseq + 1) % 2 ^ 32))
  { s1 with host := { s1.host with events := s.host.events ++ [((s.host.eseq + 1) % 2 ^ 32, e)], eseq := (s.host.eseq + 1) % 2 ^ 32 } }.fset
    HIF_EVT_TAIL_EVT_TAIL ((s.fget HIF_EVT_TAIL_EVT_TAIL + 1) % 4096)

theorem State.push_entered (s : State) (e : HostEvent) : s.push e = (s.entered e).msixTail := rfl

section
variable (s : State) (x : Option Series) (e : HostEvent)

/-- An event is posted once the series has been set to `x`. -/
def State.pushIn : State := (s.withSeries x).push e

theorem State.pushIn_eq : ∃ n p m a d, s.pushIn x e = { (s.withSeries x).entered e with
    host := { ((s.withSeries x).entered e).host with msix := n, pend := p, msgs := m, vec0At := a, vec0Due := d } } :=
  ((s.withSeries x).entered e).msixTail_eq

/-- A posted event keeps the series and what is to come after it. -/
theorem State.pushIn_host : (s.pushIn x e).host.series = x ∧ (s.pushIn x e).host.repeatAfter = s.host.repeatAfter
    ∧ (s.pushIn x e).host.nextSeries = s.host.nextSeries := by
  obtain ⟨n, p, m, a, d, h⟩ := s.pushIn_eq x e
  rw [h]
  exact ⟨rfl, rfl, rfl⟩

theorem State.pushIn_posted : Posted e s (s.pushIn x e) := by
  obtain ⟨n, p, m, a, d, h⟩ := s.pushIn_eq x e
  refine ⟨State.push_events _ e, (State.push_frame (s.withSeries x) e).fields, ?_, ?_⟩
  · rw [h]; rfl
  · rw [h]
    exact ⟨rfl, fun w hw => ⟨mem_sramKeep_bar _ _ _ w hw, mem_sramKeep_bar _ _ _ w hw⟩⟩

end

/-! ### The end of a series (R137) -/

theorem State.applyHeldAcks_none {s : State} (h : s.led.heldAcks = []) : s.applyHeldAcks = s := by
  unfold State.applyHeldAcks
  split
  · rw [h]
    exact congrArg (fun l => { s with led := { s.led with heldAcks := l } }) h.symm
  · rfl

/-- The state once a series has ended and nothing was held meanwhile. -/
def State.seriesOver (s : State) : State := { s.fset HIF_STATUS_RESYNC_PENDING 0 with host := { s.host with series := none } }

theorem State.seriesEnd_eq {s : State} (hr : s.host.repeatAfter = false) (hn : s.host.nextSeries = none) (ha : s.led.heldAcks = []) :
    s.seriesEnd = s.seriesOver := by
  have hacks : State.applyHeldAcks { s.fset HIF_STATUS_RESYNC_PENDING 0 with host := { s.host with series := none } } = s.seriesOver :=
    State.applyHeldAcks_none ha
  have hrep : s.seriesOver.host.repeatAfter = false := hr
  have hnext : s.seriesOver.host.nextSeries = none := hn
  unfold State.seriesEnd
  dsimp only at hacks ⊢
  rw [hacks, if_neg (by rw [hrep]; decide), hnext]

/-- The last event of a series, where nothing was held meanwhile: the series ends with it. -/
theorem State.pushIn_seriesEnd (s : State) (x : Option Series) (e : HostEvent) (hr : s.host.repeatAfter = false) (hn : s.host.nextSeries = none)
    (ha : s.led.heldAcks = []) : let u := (s.pushIn x e).seriesEnd
      u.host.events = s.host.events ++ [((s.host.eseq + 1) % 2 ^ 32, e)] ∧ u.host.series = none ∧ u.bit HIF_STATUS_RESYNC_PENDING = false
      ∧ keepsFields s u [HIF_EVT_TAIL_EVT_TAIL, HIF_STATUS_RESYNC_PENDING] ∧ sansFields u = { sansFields s with host := u.host, mem := u.mem }
      ∧ onlyBarWords s u := by
  obtain ⟨-, hrep, hnext⟩ := s.pushIn_host x e
  obtain ⟨hev, hf, hrest, hbar⟩ := s.pushIn_posted x e
  have hled : (s.pushIn x e).led = s.led := (congrArg State.led hrest :)
  intro u
  have hu : u = (s.pushIn x e).seriesOver := State.seriesEnd_eq (hrep.trans hr) (hnext.trans hn) (by rw [hled]; exact ha)
  have hk : keepsFields (s.pushIn x e) u [HIF_EVT_TAIL_EVT_TAIL, HIF_STATUS_RESYNC_PENDING] := by
    rw [hu]; exact keepsFields_fset (s.pushIn x e) (f := HIF_STATUS_RESYNC_PENDING) 0 (by decide)
  refine ⟨by rw [hu]; exact hev, by rw [hu]; rfl, ?_, (hf.mono (by decide)).trans hk, ?_, by rw [hu]; exact hbar⟩
  · rw [hu]
    exact (s.pushIn x e).bit_cleared HIF_STATUS_RESYNC_PENDING
  · rw [hu]
    exact congrArg (fun y : State => { y with host := { (s.pushIn x e).host with series := none } }) hrest

/-! ### The steps of a series (R137) -/

/-- ENABLE is set and a series of cause 3 has been asked for. -/
def State.enabled (s : State) : State := ((s.fset HIF_CTRL_ENABLE 1).fset HIF_STATUS_RESYNC_PENDING 1).withSeries (some ⟨3, false, []⟩)

theorem hifEnable_exec {s : State} (he : s.bit HIF_CTRL_ENABLE = false) (hs : s.host.series = none) (hheld : s.host.held = [])
    (ho : s.host.owed = none) : exec .hifEnable s = .next s.enabled := by
  have hw : (s.fset HIF_CTRL_ENABLE 1).wantSeries 3 = s.enabled := by
    unfold State.wantSeries
    rw [State.fset_host, hs]
    rfl
  refine congrArg Host.Outcome.next ?_
  unfold State.hifEnable
  rw [if_pos ⟨rfl, he⟩, hw, State.payDue_none (s := s.enabled) ho, hheld]
  rfl

theorem State.enabled_fields (s : State) : s.enabled.bit HIF_CTRL_ENABLE = true ∧ s.enabled.bit HIF_STATUS_RESYNC_PENDING = true
    ∧ keepsFields s s.enabled [HIF_CTRL_ENABLE, HIF_STATUS_RESYNC_PENDING] := by
  have h1 := keepsFields_fset s (f := HIF_CTRL_ENABLE) (ks := [HIF_CTRL_ENABLE, HIF_STATUS_RESYNC_PENDING]) 1 (by decide)
  have h2 := keepsFields_fset (s.fset HIF_CTRL_ENABLE 1) (f := HIF_STATUS_RESYNC_PENDING) (ks := [HIF_STATUS_RESYNC_PENDING]) 1 (by decide)
  refine ⟨(h2.bit (f := HIF_CTRL_ENABLE) (by decide)).trans (s.bit_flag HIF_CTRL_ENABLE rfl), State.bit_flag (s.fset HIF_CTRL_ENABLE 1) HIF_STATUS_RESYNC_PENDING rfl,
    h1.trans (h2.mono (by decide))⟩

section
variable {s : State} {c : Nat}

theorem resync_exec {l : List Nat} (hs : s.host.series = some ⟨c, false, l⟩) (he : s.bit HIF_CTRL_ENABLE = true) (hf : 16 ≤ s.evtFree)
    (hp : s.power.phase = .run) : exec .resync s = .next (
      let u := s.pushIn (some ⟨c, true, s.led.sheets.map (fun sh => sh.seq)⟩) (.resync s.led.sheets.length c)
      if s.led.sheets = [] then u.seriesEnd else u) := by
  show execResync s = _
  unfold execResync
  rw [hs]
  dsimp only
  rw [if_pos ⟨he, hf, hp⟩]
  simp only [List.length_map, List.map_eq_nil_iff]
  rfl

theorem resyncSheetState_exec {q : Nat} {rest : List Nat} {sh : Sheet} {r : JRec} (hs : s.host.series = some ⟨c, true, q :: rest⟩)
    (hsh : s.sheet? q = some sh) (hr : sh.toldRec = some r ∨ (sh.toldRec = none ∧ sh.lastRec = some r)) (he : s.bit HIF_CTRL_ENABLE = true)
    (hf : 8 < s.evtFree) : exec .resyncSheetState s = .next (
      let u := s.pushIn (some ⟨c, true, rest⟩) (r.event sh.hostTag true)
      if rest = [] then u.seriesEnd else u) := by
  have hrec : (sh.toldRec <|> sh.lastRec) = some r := by
    rcases hr with h | ⟨h, h'⟩
    · rw [h]; rfl
    · rw [h, h']; rfl
  show execResyncSheetState s = _
  unfold execResyncSheetState
  rw [hs]
  dsimp only
  rw [if_pos ⟨he, hf⟩, hsh]
  dsimp only
  rw [hrec]
  rfl

end

/-- Settles O26: ENABLE sets the series, a step of a series posts its event, and the last one ends it. -/
theorem resyncSeries : Obligations.ResyncSeries := by
  refine fun s => ⟨fun he hs hheld ho => ?_,
    fun c l hs he hf hp => ⟨fun hne => ?_, fun hnil hr hn ha => ?_⟩,
    fun c q rest sh r hs hsh hr he hf e hee => ⟨fun hne => ?_, fun hnil hrep hn ha => ?_⟩⟩
  · obtain ⟨hen, hpend, hk⟩ := s.enabled_fields
    exact ⟨_, hifEnable_exec he hs hheld ho, hen, hpend, hk, rfl⟩
  · have hexec := resync_exec hs he hf hp
    dsimp only at hexec
    rw [if_neg hne] at hexec
    obtain ⟨hev, hk, hrest, hbar⟩ := s.pushIn_posted (some ⟨c, true, s.led.sheets.map (fun sh => sh.seq)⟩) (.resync s.led.sheets.length c)
    exact ⟨_, hexec, hev, (s.pushIn_host _ _).1, hk, hrest, hbar⟩
  · have hexec := resync_exec hs he hf hp
    dsimp only at hexec
    rw [if_pos hnil, show s.led.sheets.length = 0 by rw [hnil]; rfl] at hexec
    exact ⟨_, hexec, s.pushIn_seriesEnd _ _ hr hn ha⟩
  · subst hee
    have hexec := resyncSheetState_exec hs hsh hr he hf
    dsimp only at hexec
    rw [if_neg hne] at hexec
    obtain ⟨hev, hk, hrest, hbar⟩ := s.pushIn_posted (some ⟨c, true, rest⟩) (r.event sh.hostTag true)
    exact ⟨_, hexec, hev, (s.pushIn_host _ _).1, hk, hrest, hbar⟩
  · subst hee
    have hexec := resyncSheetState_exec hs hsh hr he hf
    dsimp only at hexec
    rw [if_pos hnil] at hexec
    exact ⟨_, hexec, s.pushIn_seriesEnd _ _ hrep hn ha⟩

end Sys2Proof.Machine
end

section
/-! What interrupts and what starts the transfers of channels 0 to 7 (R131, R133), and the resets of the host interface (R118, R119, R137, R386). -/

namespace Sys2Proof.Machine

/-! ### The channels of the host-link service (R131, R133) -/

theorem kvGet_map_values {α β : Type} (f : Nat → α → β) (m : List (Nat × α)) (k : Nat) :
    kvGet (m.map (fun e => (e.1, f e.1 e.2))) k = (kvGet m k).map (f k) := by
  induction m with
  | nil => rfl
  | cons e m ih =>
    obtain ⟨j, a⟩ := e
    by_cases hj : j = k
    · subst hj
      simp [kvGet]
    · simp [kvGet, hj, ih]

/-- A channel after an interruption: those of the host-link service move nothing. -/
def DmaCh.interrupted (n : Nat) (c : DmaCh) : DmaCh := if n < 8 then { c with plane := none } else c

section
variable (s : State)

theorem State.restartTransfers_dma : s.restartTransfers.dma = s.dma.map (fun e => (e.1, DmaCh.interrupted e.1 e.2)) := by
  show s.dma.map (fun e => if e.1 < 8 then (e.1, { e.2 with plane := none }) else e) = _
  refine List.map_congr_left fun e _ => ?_
  unfold DmaCh.interrupted
  split <;> rfl

theorem State.kvGet_restartTransfers (n : Nat) : kvGet s.restartTransfers.dma n = (kvGet s.dma n).map (DmaCh.interrupted n) := by
  rw [s.restartTransfers_dma, kvGet_map_values]

/-- Interrupted transfers leave the channels of the tasks alone; those of the host-link service are to start anew. -/
theorem State.restartTransfers_channels : (∀ n, 8 ≤ n → kvGet s.restartTransfers.dma n = kvGet s.dma n)
    ∧ ∀ n c, n < 8 → kvGet s.restartTransfers.dma n = some c → c.plane = none := by
  refine ⟨fun n hn => ?_, fun n c hn hc => ?_⟩
  · have hid : DmaCh.interrupted n = id := funext fun c => if_neg (Nat.not_lt.2 hn)
    rw [s.kvGet_restartTransfers, hid, Option.map_id, id]
  · rw [s.kvGet_restartTransfers] at hc
    obtain ⟨d, -, rfl⟩ := Option.map_eq_some_iff.1 hc
    unfold DmaCh.interrupted
    rw [if_pos hn]

/-- Of the sheets an interruption changes their planes alone. -/
theorem State.restartTransfers_sheets :
    s.restartTransfers.led.sheets.map (fun sh => (sh.seq, sh.st)) = s.led.sheets.map (fun sh => (sh.seq, sh.st)) :=
  List.map_map

end

/-! ### The registers of the host interface (R119, R122) -/

section
variable (s : State)

/-- The registers without those of the host interface. -/
def State.hifCleared : State := { s with fields := s.fields.filter (fun (e : Nat × Nat) => decide (e.1 / 32 < hifBase ∨ barSpace ≤ e.1 / 32)) }

theorem State.fget_hifCleared (f : Fld) : s.hifCleared.fget f = if f.key / 32 < hifBase ∨ barSpace ≤ f.key / 32 then s.fget f else f.rst := by
  unfold State.fget State.hifCleared
  dsimp only
  rw [kvGet_filter_key (fun k => decide (k / 32 < hifBase ∨ barSpace ≤ k / 32))]
  simp only [decide_eq_true_eq]
  split <;> rfl

/-- What a reset keeps of the host interface's registers: READY and RECOVERY. -/
def keptStatus : List Fld := [HIF_STATUS_READY, HIF_STATUS_RECOVERY]

theorem State.hostReset_keeps : keepsFields s.hifCleared s.hostReset keptStatus :=
  (keepsFields_fset s.hifCleared (f := HIF_STATUS_READY) _ (by decide)).trans (keepsFields_fset _ (f := HIF_STATUS_RECOVERY) _ (by decide))

theorem State.fget_hostReset_inside {f : Fld} (h1 : hifBase * 32 ≤ f.key) (h2 : f.key < barSpace * 32) (hk : f.key ∉ keptStatus.map Fld.key) :
    s.hostReset.fget f = f.rst := by
  rw [s.hostReset_keeps f hk, s.fget_hifCleared, if_neg]
  rw [not_or, Nat.not_lt, Nat.not_le]
  exact ⟨(Nat.le_div_iff_mul_le (by decide)).2 h1, (Nat.div_lt_iff_lt_mul (by decide)).2 h2⟩

theorem State.bit_hostReset_outside {f : Fld} (h : f.key / 32 < hifBase) : s.hostReset.bit f = s.bit f := by
  have hk : f.key ∉ keptStatus.map Fld.key := fun hm => by
    have hlow : ∀ k ∈ keptStatus.map Fld.key, hifBase ≤ k / 32 := by decide
    exact absurd (hlow _ hm) (Nat.not_le.2 h)
  unfold State.bit
  rw [s.hostReset_keeps f hk, s.fget_hifCleared, if_pos (.inl h)]

end

/-- A reset of the host interface, where registers of PCIE alone have been set before it. -/
theorem hostReset_of_fields {s t : State} {seen : Fld} (ht : t = { s with fields := t.fields }) (hlow : seen.key / 32 < hifBase)
    (hseen : t.bit seen = true) (hbme : t.bit PCIE_STATUS_BME = false) (hd3 : t.bit PCIE_STATUS_D3HOT = false) : HostReset s t.hostReset seen := by
  have hdma : t.dma = s.dma := by rw [ht]
  have hsheets : t.led.sheets = s.led.sheets := by rw [ht]
  obtain ⟨hhigh, hlinks⟩ := t.hifCleared.restartTransfers_channels
  refine ⟨(t.bit_hostReset_outside hlow).trans hseen, rfl, rfl, rfl, rfl, rfl, rfl, rfl,
    fun f h1 h2 hk => t.fget_hostReset_inside h1 h2 hk, (t.bit_hostReset_outside (by decide)).trans hbme,
    (t.bit_hostReset_outside (by decide)).trans hd3, ?_, fun n hn => ?_, hlinks, ?_⟩
  · rw [← hsheets]; exact t.hifCleared.restartTransfers_sheets
  · rw [← hdma]; exact hhigh n hn
  · exact congrArg (fun x : State => { x with fields := t.hostReset.fields, host := t.hostReset.host, dma := t.hostReset.dma,
                                                 led := { x.led with sheets := t.hostReset.led.sheets } }) ht

/-! ### The causes of a reset (R119, R386) -/

section
variable (s : State)

/-- The registers of PCIE before the reset of a link that is lost, and of one that stays. -/
def State.downWith (seen : Fld) : State := s.linkLost.flag seen
def State.stayingWith (seen : Fld) : State := (s.fsets [(PCIE_STATUS_BME, 0), (PCIE_STATUS_D3HOT, 0)]).flag seen

theorem State.hostReset_down : HostReset s (s.downWith PCIE_STATUS_LINK_DOWN_SEEN).hostReset PCIE_STATUS_LINK_DOWN_SEEN
    ∧ (s.downWith PCIE_STATUS_LINK_DOWN_SEEN).hostReset.bit PCIE_STATUS_LINK_UP = false := by
  have hk : keepsFields s.linkLost (s.downWith PCIE_STATUS_LINK_DOWN_SEEN) [PCIE_STATUS_LINK_DOWN_SEEN] := (State.fset_onlyFields _ _ 1).2
  have hd3 : s.linkLost.bit PCIE_STATUS_D3HOT = false := State.bit_cleared _ _
  have hbme : s.linkLost.bit PCIE_STATUS_BME = false :=
    ((State.fset_onlyFields _ PCIE_STATUS_D3HOT 0).2.bit (by decide)).trans (State.bit_cleared _ _)
  have hlast : keepsFields (s.fset PCIE_STATUS_LINK_UP 0) s.linkLost [PCIE_STATUS_WIDTH, PCIE_STATUS_SPEED, PCIE_STATUS_BME, PCIE_STATUS_D3HOT] :=
    keepsFields_fsets [(PCIE_STATUS_WIDTH, 0), (PCIE_STATUS_SPEED, 0), (PCIE_STATUS_BME, 0), (PCIE_STATUS_D3HOT, 0)] _
  refine ⟨hostReset_of_fields rfl (by decide) (State.bit_flag _ _ rfl) ((hk.bit (by decide)).trans hbme) ((hk.bit (by decide)).trans hd3), ?_⟩
  rw [State.bit_hostReset_outside _ (by decide), hk.bit (by decide), hlast.bit (by decide)]
  exact s.bit_cleared PCIE_STATUS_LINK_UP

/-- A reset that leaves the link up: its flag is another than LINK_UP, BME and D3HOT. -/
theorem State.hostReset_staying {seen : Fld} (hw : seen.width = 1) (hlow : seen.key / 32 < hifBase)
    (hne : ∀ f ∈ [PCIE_STATUS_BME, PCIE_STATUS_D3HOT, PCIE_STATUS_LINK_UP], f.key ∉ [seen].map Fld.key) :
    HostReset s (s.stayingWith seen).hostReset seen ∧ (s.stayingWith seen).hostReset.bit PCIE_STATUS_LINK_UP = s.bit PCIE_STATUS_LINK_UP := by
  have hk : keepsFields (s.fsets [(PCIE_STATUS_BME, 0), (PCIE_STATUS_D3HOT, 0)]) (s.stayingWith seen) [seen] := (State.fset_onlyFields _ _ 1).2
  have hd3 : (s.fsets [(PCIE_STATUS_BME, 0), (PCIE_STATUS_D3HOT, 0)]).bit PCIE_STATUS_D3HOT = false := State.bit_cleared _ _
  have hbme : (s.fsets [(PCIE_STATUS_BME, 0), (PCIE_STATUS_D3HOT, 0)]).bit PCIE_STATUS_BME = false :=
    ((State.fset_onlyFields _ PCIE_STATUS_D3HOT 0).2.bit (by decide)).trans (State.bit_cleared _ _)
  have hup : (s.fsets [(PCIE_STATUS_BME, 0), (PCIE_STATUS_D3HOT, 0)]).bit PCIE_STATUS_LINK_UP = s.bit PCIE_STATUS_LINK_UP :=
    (keepsFields_fsets [(PCIE_STATUS_BME, 0), (PCIE_STATUS_D3HOT, 0)] s).bit (by decide)
  refine ⟨hostReset_of_fields rfl hlow (State.bit_flag _ _ hw) ((hk.bit (hne _ (by decide))).trans hbme) ((hk.bit (hne _ (by decide))).trans hd3), ?_⟩
  rw [State.bit_hostReset_outside _ (by decide), hk.bit (hne _ (by decide)), hup]

end

/-! ### The link trained and the function configured (R118, R133) -/

theorem State.msixFlush_eq (s : State) : ∃ p m, s.msixFlush = { s with host := { s.host with pend := p, msgs := m } } := by
  have hfold : ∀ (l : List Nat) (t : State), ∃ p m, l.foldl State.msixSend t = { t with host := { t.host with pend := p, msgs := m } } := by
    intro l
    induction l with
    | nil => exact fun t => ⟨_, _, rfl⟩
    | cons v l ih =>
      intro t
      obtain ⟨p, m, h⟩ := t.msixSend_eq v
      obtain ⟨p', m', h'⟩ := ih (t.msixSend v)
      refine ⟨p', m', h'.trans ?_⟩
      rw [h]
  obtain ⟨p, m, h⟩ := hfold s.host.pend { s with host := { s.host with pend := [] } }
  exact ⟨p, m, h⟩

/-- The HALTED bits of the channels of the host-link service. -/
def linkHalted : List Fld := (List.range 8).map DMAn_STATUS_HALTED

/-- Planes have been started on channels 0 to 7 alone (R133). -/
structure Started (s u : State) : Prop where
  only : u = { s with fields := u.fields, dma := u.dma }
  fields : keepsFields s u linkHalted
  high : ∀ n, 8 ≤ n → kvGet u.dma n = kvGet s.dma n

theorem State.startPlanes_started (s : State) : Started s s.startPlanes := by
  have hfold : ∀ (l : List (Nat × (Nat × Nat))) (t : State), (∀ e ∈ l, e.1 < 8) → Started t (l.foldl (fun s e =>
      { s with dma := kvSet s.dma e.1 { ((kvGet s.dma e.1).getD ⟨0, none⟩) with plane := some e.2 } }.fset (DMAn_STATUS_HALTED e.1) 0) t) := by
    intro l
    induction l with
    | nil => exact fun t _ => ⟨rfl, fun _ _ => rfl, fun _ _ => rfl⟩
    | cons e l ih =>
      intro t hl
      obtain ⟨he, hl⟩ := List.forall_mem_cons.1 hl
      obtain ⟨honly, hk, hhigh⟩ := ih ({ t with dma := kvSet t.dma e.1 { ((kvGet t.dma e.1).getD ⟨0, none⟩) with plane := some e.2 } }.fset
        (DMAn_STATUS_HALTED e.1) 0) hl
      have hf : DMAn_STATUS_HALTED e.1 ∈ linkHalted := List.mem_map_of_mem (List.mem_range.2 he)
      refine ⟨honly, keepsFields.trans (keepsFields_fset _ 0 hf) hk, fun n hn => (hhigh n hn).trans ?_⟩
      exact kvGet_kvSet_ne _ _ _ _ (by omega)
  refine hfold _ s fun e he => ?_
  have hmem := (List.of_mem_zip (a := e.1) (b := e.2) he).1
  exact List.mem_range.1 (List.mem_of_mem_filter hmem)

/-- A link that has trained, with bus mastering enabled in D0. -/
def State.trained (s : State) : State := s.draw.2.linkUp.fsets [(PCIE_STATUS_BME, 1), (PCIE_STATUS_D3HOT, 0)]

/-- The registers that it shows. -/
def linkFields : List Fld := [PCIE_STATUS_BME, PCIE_STATUS_LINK_UP, PCIE_STATUS_D3HOT, PCIE_STATUS_SPEED, PCIE_STATUS_WIDTH, SYS_CLK_LOCK]

theorem State.trained_fields (s : State) : s.trained.bit PCIE_STATUS_BME = true ∧ s.trained.bit PCIE_STATUS_LINK_UP = true
    ∧ s.trained.bit PCIE_STATUS_D3HOT = false ∧ keepsFields s s.trained linkFields := by
  have hbme : keepsFields (s.draw.2.linkUp.fset PCIE_STATUS_BME 1) s.trained [PCIE_STATUS_D3HOT] := (State.fset_onlyFields _ _ 0).2
  obtain ⟨speed, width, lock, hl⟩ : ∃ speed width lock, s.draw.2.linkUp
      = (s.draw.2.fset PCIE_STATUS_LINK_UP 1).fsets [(PCIE_STATUS_SPEED, speed), (PCIE_STATUS_WIDTH, width), (SYS_CLK_LOCK, lock)] := ⟨_, _, _, rfl⟩
  have hup : keepsFields (s.draw.2.fset PCIE_STATUS_LINK_UP 1) s.trained
      [PCIE_STATUS_SPEED, PCIE_STATUS_WIDTH, SYS_CLK_LOCK, PCIE_STATUS_BME, PCIE_STATUS_D3HOT] := by
    unfold State.trained
    rw [hl]
    exact keepsFields_fsets [(PCIE_STATUS_SPEED, speed), (PCIE_STATUS_WIDTH, width), (SYS_CLK_LOCK, lock), (PCIE_STATUS_BME, 1), (PCIE_STATUS_D3HOT, 0)] _
  have hfirst : keepsFields s (s.draw.2.fset PCIE_STATUS_LINK_UP 1) [PCIE_STATUS_LINK_UP] := (State.fset_onlyFields s.draw.2 _ 1).2
  exact ⟨(hbme.bit (by decide)).trans (State.bit_flag _ PCIE_STATUS_BME rfl), (hup.bit (by decide)).trans (State.bit_flag _ PCIE_STATUS_LINK_UP rfl),
    State.bit_cleared _ PCIE_STATUS_D3HOT, (hfirst.mono (by decide)).trans (hup.mono (by decide))⟩

/-- The function configured as the host chooses (log entry 46), which sends the vectors that are pending. -/
def State.configured (s : State) : State := { s.trained with host := { s.trained.host with cfg := Config.hostCfg s.freeCtr } }.msixFlush

theorem State.configured_eq (s : State) : ∃ p m, s.configured
    = { s.trained with host := { s.host with cfg := Config.hostCfg s.freeCtr, pend := p, msgs := m } } := State.msixFlush_eq _

theorem busMasterEnable_exec {s : State} (h : s.bit PCIE_CTRL_LINK_EN = true) : exec .busMasterEnable s = .next s.configured.startPlanes :=
  congrArg Host.Outcome.next (if_pos h)

/-- What a trained link and a configured function leave: the registers named, the channels of the tasks, and everything else. -/
theorem State.configured_started (s : State) : let u := s.configured.startPlanes
    u.bit PCIE_STATUS_BME = true ∧ u.bit PCIE_STATUS_LINK_UP = true ∧ u.bit PCIE_STATUS_D3HOT = false
    ∧ (∀ n, 8 ≤ n → kvGet u.dma n = kvGet s.dma n) ∧ keepsFields s u (linkFields ++ linkHalted)
    ∧ sansFields u = { sansFields s with freeCtr := u.freeCtr, dma := u.dma
                                         host := { s.host with cfg := u.host.cfg, msgs := u.host.msgs, pend := u.host.pend } } := by
  intro u
  obtain ⟨hbme, hup, hd3, hk⟩ := s.trained_fields
  obtain ⟨p, m, hc⟩ := s.configured_eq
  have hfields : keepsFields s.trained s.configured [] := keepsFields_of_fields (by rw [hc])
  obtain ⟨honly, hstart, hhigh⟩ := s.configured.startPlanes_started
  have hu : keepsFields s.trained u linkHalted := (hfields.mono (by simp)).trans hstart
  refine ⟨(hu.bit (by decide)).trans hbme, (hu.bit (by decide)).trans hup, (hu.bit (by decide)).trans hd3, fun n hn => ?_,
    (hk.mono (by simp)).trans (hu.mono (by simp)), ?_⟩
  · rw [hhigh n hn, hc]; rfl
  · have hsans : sansFields u = { sansFields s.configured with dma := u.dma } := (congrArg sansFields honly :)
    have hfree : u.freeCtr = s.configured.freeCtr := (congrArg State.freeCtr honly :)
    have hhost : u.host = s.configured.host := (congrArg State.host honly :)
    rw [hsans, hfree, hhost, hc]
    rfl

/-- Settles O27: a reset clears the registers of the host interface, its rings and its transfers; D3hot interrupts the transfers alone; bus mastering
trains the link and starts the planes that wait. -/
theorem hostInterfaceResets : Obligations.HostInterfaceResets := by
  refine fun s => ⟨⟨_, rfl, s.hostReset_down⟩, ⟨_, rfl, s.hostReset_down⟩, ⟨_, rfl, s.hostReset_staying rfl (by decide) (by decide)⟩,
    ⟨_, rfl, s.hostReset_staying rfl (by decide) (by decide)⟩, ⟨_, rfl, ?_⟩, fun h => ⟨_, busMasterEnable_exec h, ?_⟩,
    fun h => ⟨s, congrArg Host.Outcome.next (if_neg (by rw [h]; decide)), rfl⟩⟩
  · obtain ⟨hhigh, hlinks⟩ := (s.fset PCIE_STATUS_D3HOT 1).restartTransfers_channels
    exact ⟨s.bit_flag PCIE_STATUS_D3HOT rfl, (s.fset_onlyFields PCIE_STATUS_D3HOT 1).2, hhigh, hlinks,
      (s.fset PCIE_STATUS_D3HOT 1).restartTransfers_sheets, rfl⟩
  · exact s.configured_started

end Sys2Proof.Machine
end

section
/-! PLANE_ALLOCATE: the blocks that a sheet is given, or none, and the message of a sheet that no pool of this size holds (R131, R154, R155). -/

namespace Sys2Proof.Machine

/-! ### Blocks given in entry order (R155) -/

/-- The blocks that planes take together. -/
def planesNeed (ps : List Plane) : Nat := (ps.map planeBlocks).sum

theorem planesNeed_cons (p : Plane) (ps : List Plane) : planesNeed (p :: ps) = planeBlocks p + planesNeed ps := by
  unfold planesNeed
  rw [List.map_cons, List.sum_cons]

theorem flatMap_giveBlocks (ps : List Plane) (bs : List Nat) : (giveBlocks ps bs).flatMap (fun p => p.blocks) = bs.take (planesNeed ps) := by
  induction ps generalizing bs with
  | nil => simp [giveBlocks, planesNeed]
  | cons p ps ih =>
    rw [giveBlocks, List.flatMap_cons, ih, planesNeed_cons, List.take_add]

theorem length_giveBlocks {ps : List Plane} {bs : List Nat} (h : planesNeed ps ≤ bs.length) :
    (giveBlocks ps bs).map (fun p => p.blocks.length) = ps.map planeBlocks := by
  induction ps generalizing bs with
  | nil => simp [giveBlocks]
  | cons p ps ih =>
    rw [planesNeed_cons] at h
    rw [giveBlocks, List.map_cons, List.map_cons, ih (by rw [List.length_drop]; omega), List.length_take, Nat.min_eq_left (by omega)]

/-! ### The three outcomes (R154) -/

/-- A sheet's blocks are its own: they count as used. -/
def State.gaveBlocks (s : State) (sh : Sheet) (bs : List Nat) : State :=
  { s.modSheet sh.seq (fun x => { x with allocated := true, planes := giveBlocks x.planes bs }) with
    mem := { s.mem with used := (List.range (s.fget DRAMC_POOL_POOL_BLOCKS)).filter (fun b => s.mem.used.contains b || bs.contains b) } }

/-- A sheet that no pool of this size holds is reported once. -/
def State.reportedTooSmall (s : State) (sh : Sheet) : State :=
  if sh.tooSmall then s else (s.modSheet sh.seq (fun x => { x with tooSmall := true })).sendFault 0x008 0x01 (sh.seq % 65536)

theorem State.length_freeList_le (s : State) : s.freeList.length ≤ s.fget DRAMC_POOL_POOL_BLOCKS :=
  (List.length_filter_le _ _).trans_eq List.length_range

section
variable {s : State} {sh : Sheet} (h : s.toAllocate = some sh)
include h

theorem planeAllocate_exec : exec .planeAllocate s = .next (
    if s.fget DRAMC_POOL_POOL_BLOCKS < planesNeed sh.planes then (s.reportedTooSmall sh).startPlanes
    else if s.freeList.length < planesNeed sh.planes then s.startPlanes
    else (s.gaveBlocks sh (s.freeList.take (planesNeed sh.planes))).startPlanes) := by
  refine congrArg Host.Outcome.next ?_
  unfold State.allocate
  rw [h]
  dsimp only
  rw [← List.sum_eq_foldl_nat]
  rfl

theorem planeAllocate_gives (hn : planesNeed sh.planes ≤ s.freeList.length) :
    exec .planeAllocate s = .next (s.gaveBlocks sh (s.freeList.take (planesNeed sh.planes))).startPlanes := by
  rw [planeAllocate_exec h, if_neg (Nat.not_lt.2 (hn.trans s.length_freeList_le)), if_neg (Nat.not_lt.2 hn)]

theorem planeAllocate_waits (hf : s.freeList.length < planesNeed sh.planes) (hn : planesNeed sh.planes ≤ s.fget DRAMC_POOL_POOL_BLOCKS) :
    exec .planeAllocate s = .next s.startPlanes := by
  rw [planeAllocate_exec h, if_neg (Nat.not_lt.2 hn), if_pos hf]

theorem planeAllocate_tooSmall (hn : s.fget DRAMC_POOL_POOL_BLOCKS < planesNeed sh.planes) :
    exec .planeAllocate s = .next (s.reportedTooSmall sh).startPlanes := by
  rw [planeAllocate_exec h, if_pos hn]

end

theorem Started.sheet? {s u : State} (h : Started s u) (q : Nat) : u.sheet? q = s.sheet? q :=
  State.sheet?_of_sheets (congrArg (fun x : State => x.led.sheets) h.only) q

/-- What the blocks given are. -/
theorem State.gaveBlocks_given {s : State} {sh : Sheet} (h : s.sheet? sh.seq = some sh) (hn : planesNeed sh.planes ≤ s.freeList.length) :
    let bs := s.freeList.take (planesNeed sh.planes)
    let u := s.gaveBlocks sh bs
    (∃ y, u.sheet? sh.seq = some y ∧ y.allocated = true ∧ y.planes.flatMap (fun p => p.blocks) = bs
        ∧ y.planes.map (fun p => p.blocks.length) = sh.planes.map planeBlocks)
    ∧ (∀ b, b ∈ u.mem.used → b ∈ s.mem.used ∨ b ∈ bs) ∧ (∀ b ∈ bs, b ∈ u.mem.used) ∧ (∀ q, q ≠ sh.seq → u.sheet? q = s.sheet? q) := by
  intro bs u
  have hlen : bs.length = planesNeed sh.planes := by rw [List.length_take, Nat.min_eq_left hn]
  have hused : ∀ b, b ∈ u.mem.used ↔ b < s.fget DRAMC_POOL_POOL_BLOCKS ∧ (b ∈ s.mem.used ∨ b ∈ bs) := by
    intro b
    simp [u, State.gaveBlocks]
  have hpool : ∀ b ∈ bs, b < s.fget DRAMC_POOL_POOL_BLOCKS := fun b hb =>
    List.mem_range.1 (List.mem_of_mem_filter (List.mem_of_mem_take hb))
  refine ⟨⟨_, State.sheet?_modSheet_same h (fun _ => rfl), rfl, ?_, length_giveBlocks hlen.ge⟩, fun b hb => ((hused b).1 hb).2,
    fun b hb => (hused b).2 ⟨hpool b hb, .inr hb⟩, fun q hq => s.sheet?_modSheet_ne hq (fun _ => rfl)⟩
  exact (flatMap_giveBlocks sh.planes bs).trans (List.take_of_length_le hlen.le)

/-- What the report of a sheet too large for the pool is. -/
theorem State.reportedTooSmall_reported {s : State} {sh : Sheet} (h : s.sheet? sh.seq = some sh) : let u := s.reportedTooSmall sh
    u.faultQ = s.faultQ ++ (if sh.tooSmall then [] else [⟨0x008, 1, sh.seq % 65536, 0⟩])
    ∧ (∃ y, u.sheet? sh.seq = some y ∧ y = { sh with tooSmall := true }) ∧ (∀ q, q ≠ sh.seq → u.sheet? q = s.sheet? q)
    ∧ u = { s with led := { s.led with sheets := u.led.sheets }, faultQ := u.faultQ } := by
  intro u
  cases ht : sh.tooSmall with
  | true =>
    have hu : u = s := if_pos ht
    have hsh : sh = { sh with tooSmall := true } := by rw [← ht]
    rw [hu]
    exact ⟨(List.append_nil _).symm, ⟨sh, h, hsh⟩, fun _ _ => rfl, rfl⟩
  | false =>
    have hu : u = (s.modSheet sh.seq (fun x => { x with tooSmall := true })).sendFault 0x008 0x01 (sh.seq % 65536) := if_neg (by rw [ht]; decide)
    rw [hu]
    refine ⟨?_, ⟨_, State.sheet?_modSheet_same h (fun _ => rfl), rfl⟩, fun q hq => s.sheet?_modSheet_ne hq (fun _ => rfl), rfl⟩
    exact congrArg (fun d => s.faultQ ++ [⟨0x008, 1, d, 0⟩]) (Nat.mod_mod _ _)

/-- Settles O33: the sheet is given its blocks, waits, or is reported, and then planes are started. -/
theorem planeSpace : Obligations.PlaneSpace := by
  intro s sh need h hsh hneed free hfree
  subst hneed hfree
  refine ⟨fun hn => ⟨_, planeAllocate_gives h hn, ?_⟩, fun hf hn => ⟨_, planeAllocate_waits h hf hn, ?_⟩,
    fun hn => ⟨_, planeAllocate_tooSmall h hn, ?_⟩⟩
  · obtain ⟨hgiven, hfrom, hto, hother⟩ := State.gaveBlocks_given hsh hn
    have hs := (s.gaveBlocks sh (s.freeList.take (planesNeed sh.planes))).startPlanes_started
    generalize State.startPlanes _ = u at hs
    have hmem : u.mem = _ := (congrArg State.mem hs.only :)
    have hled : u.led = _ := (congrArg State.led hs.only :)
    refine ⟨?_, ?_, ?_, fun q hq => (hs.sheet? q).trans (hother q hq), hs.high, ?_, hs.fields⟩
    · rw [hs.sheet?]; exact hgiven
    · rw [hmem]; exact hfrom
    · rw [hmem]; exact hto
    · rw [hmem, hled]; exact hs.only
  · obtain ⟨honly, hk, hhigh⟩ := s.startPlanes_started
    exact ⟨hhigh, honly, hk⟩
  · obtain ⟨hq, hsame, hother, honly⟩ := State.reportedTooSmall_reported hsh
    have hs := (s.reportedTooSmall sh).startPlanes_started
    generalize s.reportedTooSmall sh = t at hq hsame hother honly hs
    generalize t.startPlanes = u at hs
    have hfq : u.faultQ = t.faultQ := (congrArg State.faultQ hs.only :)
    have hled : u.led = t.led := (congrArg State.led hs.only :)
    have hmem : u.mem = s.mem := (congrArg State.mem hs.only :).trans (congrArg State.mem honly :)
    have hdma : t.dma = s.dma := (congrArg State.dma honly :)
    have hfld : t.fields = s.fields := (congrArg State.fields honly :)
    refine ⟨hfq.trans hq, hmem, ?_, fun q hne => (hs.sheet? q).trans (hother q hne), fun n hn => (hs.high n hn).trans (by rw [hdma]), ?_,
      (keepsFields_of_fields hfld).trans hs.fields⟩
    · rw [hs.sheet?]; exact hsame
    · rw [hfq, hled]
      exact hs.only.trans (congrArg (fun x : State => { x with fields := u.fields, dma := u.dma }) honly)

end Sys2Proof.Machine
end

section
/-! Where DMA_DESCRIPTOR_COMPLETE stores a destination that counts as page store and lies in the SRAM window (R140, R143; O34). -/

namespace Sys2Proof.Machine

/-- Channel 9 of a page store as large as that of `usableAboveSram`, with one descriptor before it, at 0x1000: 8 bytes from 0x4000 to the base of
the SRAM window, with a CRC. -/
def copyAboveSram : State :=
  { usableAboveSram with
    fields := usableAboveSram.fields ++ [((DMAn_CTRL_ENABLE 9).key, 1), ((DMAn_RING_LO_BASE_LO 9).key, 0x80), ((DMAn_HEAD_TAIL 9).key, 1)]
    mem := { usableAboveSram.mem with
      dram := memWrite (memWrite [] 0x4000 ([0x44332211, 0x88776655].flatMap (fun w => natToBytes w 4))) 0x1000
        ([0xA0000007, 0, 0x4000, 0, 0, 0x10, 0, 0].flatMap (fun w => natToBytes w 4)) } }

theorem copyAboveSram_desc : copyAboveSram.headDesc 9 = ⟨true, false, true, false, 8, 0, 0x4000, 0, sramBase, 0⟩ := by decide +kernel

theorem copyAboveSram_descAddr : copyAboveSram.descAddr 9 (copyAboveSram.dmaHead 9) = 0x1000 := by decide +kernel

theorem copyAboveSram_descErrs : copyAboveSram.descErrs 9 = [] := by decide +kernel

/-- Its recorder ring lies at the top of what is usable, beyond every byte that the move touches. -/
theorem copyAboveSram_ringBase : copyAboveSram.ringBase = 2 ^ 37 - 2 ^ 26 - 2 ^ 28 := by decide +kernel

/-- The byte that the completed move has left in the page store under the base of the SRAM window. -/
theorem copyAboveSram_completed_dram : memGet (copyAboveSram.descComplete 9 []).mem.dram sramBase = 0 := by decide +kernel

/-- Refutes O34, by its completion clause alone: that clause takes `inDram` for "moves within the page store" and does not ask for
`usable ≤ 0x1000000000`. In `copyAboveSram` the destination at the base of the SRAM window is `inDram`, and the model stores the bytes in the SRAM,
so that the page store keeps 0 where the source holds 0x11. No state whose fields are within their widths has so large a usable page store, so the
fault lies in the missing hypothesis and not in the model's move. -/
theorem not_dmaChannelsAndMoves : ¬ Obligations.DmaChannelsAndMoves := by
  intro h
  obtain ⟨hcopy, -⟩ := h.2 copyAboveSram 9 _ 0x1000 (by decide) (by decide) (by decide +kernel) copyAboveSram_desc.symm
    copyAboveSram_descAddr.symm (by decide +kernel) (by decide +kernel)
  have hring : ∀ k, inRing copyAboveSram k = true →
      (k < 0x4000 ∨ 0x4000 + 8 ≤ k) ∧ (k < sramBase ∨ sramBase + 8 ≤ k) ∧ (k < 0x1000 ∨ 0x1000 + 32 ≤ k) := by
    intro k hk
    simp only [inRing, copyAboveSram_ringBase, Bool.and_eq_true, decide_eq_true_eq] at hk
    obtain ⟨⟨-, hlo⟩, -⟩ := hk
    unfold sramBase
    omega
  obtain ⟨u, hu, hbytes, -⟩ := hcopy [] copyAboveSram_descErrs rfl rfl (by decide +kernel) (by decide +kernel) (by decide) hring
  have hrun : copyAboveSram.descComplete 9 [] = u := Host.Outcome.next.inj hu
  have hread : memGet u.mem.dram sramBase = memGet copyAboveSram.mem.dram 0x4000 := hbytes 0 (by decide)
  rw [← hrun, copyAboveSram_completed_dram] at hread
  exact absurd hread (by decide +kernel)

end Sys2Proof.Machine
end

section
/-! Update commands and exports: the end of a command and the recorder, slots, placement, the switch to another image, and the refusals of R437
(R113, R126, R127, R433 to R439, R449; O28). -/

namespace Sys2Proof.Machine

/-! ### Commands and what they leave alone (R124, R445) -/

theorem Frame.upd {ks : List Fld} {s u : State} (h : Frame viewReport ks s u) : u.upd = s.upd := (congrArg State.upd h.view :)

theorem State.slot_congr {s u : State} (h : u.upd = s.upd) (b : Bool) : u.slot b = s.slot b := by unfold State.slot; rw [h]

theorem State.bit_congr {s u : State} {f : Fld} (h : u.fget f = s.fget f) : u.bit f = s.bit f := by unfold State.bit; rw [h]

theorem sansFields_fsets (l : List (Fld × Nat)) (s : State) : sansFields (s.fsets l) = sansFields s := by
  induction l generalizing s with
  | nil => rfl
  | cons e l ih => exact (ih (s.fset e.1 e.2)).trans rfl

/-- What the end of a command writes: fields, the host interface but for what has been posted to the host's memory, and memories. -/
theorem State.cmdDone_eq (s : State) (h : CmdHead) (op st d : Nat) (res : List Nat) :
    ∃ f x m, s.cmdDone h op st d res = { s with fields := f, host := x, mem := m } ∧ x.posted = s.host.posted := by
  unfold State.cmdDone State.cmdFinish
  rw [State.push_entered]
  generalize HostEvent.cmdDone h.tag op st d res = e
  obtain ⟨n, p, m, a, due, ht⟩ := (s.entered e).msixTail_eq
  generalize (s.entered e).msixTail = t at ht
  obtain ⟨n', p', m', hx⟩ := (t.fset HIF_CMD_HEAD_CMD_HEAD ((s.fget HIF_CMD_HEAD_CMD_HEAD + 1) % 1024)).msix_eq 1
  rw [hx, ht]
  exact ⟨_, _, _, rfl, rfl⟩

theorem State.cmdDone_recd (s : State) (h : CmdHead) (op st d : Nat) (res : List Nat) : (s.cmdDone h op st d res).recd = s.recd := by
  obtain ⟨f, x, m, he, -⟩ := s.cmdDone_eq h op st d res
  rw [he]

theorem State.cmdDone_posted (s : State) (h : CmdHead) (op st d : Nat) (res : List Nat) :
    (s.cmdDone h op st d res).host.posted = s.host.posted := by
  obtain ⟨f, x, m, he, hx⟩ := s.cmdDone_eq h op st d res
  rw [he]
  exact hx

theorem State.recCmd_frozen (s : State) : s.recCmd.recd.frozen = s.recd.frozen := by
  unfold State.recCmd State.record
  split <;> rfl

theorem State.recCmd_posted (s : State) : s.recCmd.host.posted = s.host.posted := by rw [s.recCmd_eq]

theorem State.recCmd_of_not_recording {s : State} (h : s.recording = false) : s.recCmd = s := if_neg (by rw [h]; exact Bool.false_ne_true)

/-! ### Slots (R433, R435) -/

section
variable (s : State) (b c : Bool)

theorem State.slot_setSlot (x : Slot) : (s.setSlot b x).slot c = if c = b then x else s.slot c := by cases b <;> cases c <;> rfl

theorem State.slot_tableChange_id : (s.tableChange id).slot c = s.slot c := by cases c <;> rfl

theorem State.slot_tableChange_boot (n : Nat) : (s.tableChange (fun u => { u with boot := n })).slot c = s.slot c := by cases c <;> rfl

theorem State.slot_slotErase : (s.slotErase b).slot c = if c = b then ⟨0, 0, 0, 0, none, []⟩ else s.slot c := by cases b <;> cases c <;> rfl

theorem State.slot_releaseCopy : (s.releaseCopy b).slot c = if c = b then { s.slot b with area := none } else s.slot c := by
  unfold State.releaseCopy
  split
  · exact State.slot_setSlot _ b c _
  · next ha =>
    split
    · next hcb => rw [hcb, ← ha]
    · rfl

end

/-! ### Placement (R101, R107, R113, R116) -/

/-- The fields that placement and the start of its tasks may write: the engine's block (PLC), and those of a report. -/
def placeKey (k : Nat) : Prop := k / 2 ^ 21 = 0x20000B ∨ k ∈ reportFields.map Fld.key

/-- What placement leaves as it was, past the tasks, the memories and what a report touches. -/
structure Placing (s u : State) : Prop where
  upd : u.upd = s.upd
  led : u.led = s.led
  jrn : u.jrn = s.jrn
  chans : u.ex.chans = s.ex.chans
  fields : ∀ f : Fld, ¬ placeKey f.key → u.fget f = s.fget f

namespace Placing

variable {s t u : State}

protected theorem refl (s : State) : Placing s s := ⟨rfl, rfl, rfl, rfl, fun _ _ => rfl⟩

protected theorem trans (h : Placing s t) (k : Placing t u) : Placing s u :=
  ⟨k.upd.trans h.upd, k.led.trans h.led, k.jrn.trans h.jrn, k.chans.trans h.chans, fun f hf => (k.fields f hf).trans (h.fields f hf)⟩

theorem foldl {γ : Type} {f : State → γ → State} (l : List γ) (h : ∀ a ∈ l, ∀ s, Placing s (f s a)) (s : State) :
    Placing s (l.foldl f s) := by
  induction l generalizing s with
  | nil => exact Placing.refl s
  | cons a l ih => exact (h a List.mem_cons_self s).trans (ih (fun b hb => h b (List.mem_cons_of_mem a hb)) (f s a))

theorem of_frame (h : Frame viewReport reportFields s u) (hc : u.ex.chans = s.ex.chans) : Placing s u :=
  ⟨h.upd, h.led, h.jrn, hc, fun f hf => h.fields f (fun hm => hf (.inr hm))⟩

theorem fsets {l : List (Fld × Nat)} (h : ∀ e ∈ l, placeKey e.1.key) (s : State) : Placing s (s.fsets l) := by
  have hs := sansFields_fsets l s
  refine ⟨(congrArg State.upd hs :), (congrArg State.led hs :), (congrArg State.jrn hs :), (congrArg (fun x : State => x.ex.chans) hs :),
    fun f hf => keepsFields_fsets l s f (fun hm => hf ?_)⟩
  obtain ⟨g, hg, hk⟩ := List.mem_map.mp hm
  obtain ⟨e, he, rfl⟩ := List.mem_map.mp hg
  rw [← hk]
  exact h e he

theorem releaseAll (s : State) (p : TaskHdr → Bool) (r : Release) : Placing s (s.releaseAll p r) :=
  Placing.foldl _ (fun i _ s => by
    have hr : Placing s (s.release i r) := .of_frame (s.release_frame i r) (s.release_taskOnly i r).chans
    split
    · split
      · exact hr
      · exact Placing.refl s
    · exact Placing.refl s) s

end Placing

theorem State.rawFill_placing (s : State) (a len : Nat) (b : List Byte) : Placing s (s.rawFill a len b) := by
  unfold State.rawFill
  split <;> exact ⟨rfl, rfl, rfl, rfl, fun _ _ => rfl⟩

theorem State.fillTask_placing (s : State) (img : List Byte) (t : Task) : Placing s (s.fillTask img t) :=
  (s.rawFill_placing _ _ _).trans (Placing.foldl t.hdr.segs (fun _ _ s => s.rawFill_placing _ _ _) _)

theorem fillTasks_placing (img : List Byte) (l : List (Nat × Task)) (s : State) : Placing s (l.foldl (fun s e => State.fillTask img s e.2) s) :=
  Placing.foldl (f := fun s (e : Nat × Task) => State.fillTask img s e.2) l (fun e _ s => s.fillTask_placing img e.2) s

theorem placeKey_eng {p k : Nat} (hp : p < nEngines) (hk : k < 32) : placeKey ((0x20000b0100 + 4 * p) * 32 + k) := by
  unfold nEngines at hp
  exact .inl (by omega)

theorem State.showEngs_placing (s : State) (engs : List Eng) : Placing s (s.showEngs engs) := by
  refine Placing.foldl _ (fun p hp s => ?_) s
  have hp : p < nEngines := List.mem_range.mp hp
  have hkey : ∀ a b c d : Nat, ∀ e ∈ [(PLC_ENGp_LOAD p, a), (PLC_ENGp_TASKS p, b), (PLC_ENGp_STATE p, c), (PLC_ENGp_LOGICAL p, d)],
      placeKey e.1.key := by
    simp only [List.forall_mem_cons, List.not_mem_nil, false_implies, implies_true, and_true]
    exact fun _ _ _ _ => ⟨placeKey_eng (k := 16) hp (by decide), placeKey_eng (k := 11) hp (by decide), placeKey_eng (k := 4) hp (by decide),
      placeKey_eng (k := 0) hp (by decide)⟩
  split <;> exact Placing.fsets (hkey _ _ _ _) s

theorem State.placeStatus_placing (s : State) (a b c : Nat) :
    Placing s (s.fsets [(PLC_PLACE_ERR_CODE, a), (PLC_PLACE_ERR_TASK, b), (PLC_STATUS_PLACED, c)]) := by
  refine Placing.fsets ?_ s
  simp only [List.forall_mem_cons, List.not_mem_nil, false_implies, implies_true, and_true]
  exact ⟨.inl rfl, .inl rfl, .inl rfl⟩

theorem State.applyPlan_placing (s : State) (img : List Byte) (hs : List TaskHdr) (pl : Plan) : Placing s (s.applyPlan img hs pl) := by
  unfold State.applyPlan
  extract_lets l tasks ex s1
  have hex : Placing s { s with ex := { ex with tasks := tasks, image := hs } } := ⟨rfl, rfl, rfl, rfl, fun _ _ => rfl⟩
  have hfill : Placing s s1 := hex.trans (fillTasks_placing img tasks _)
  exact (hfill.trans (s1.showEngs_placing _)).trans (State.placeStatus_placing _ _ _ _)

theorem State.recordInitial_placing (s : State) (crc : Nat) (pl : Plan) : Placing s (s.recordInitial crc pl) :=
  .of_frame (s.recordPlace_frame _) (s.recordPlace_taskOnly 0 _).chans

theorem State.startTasks_placing (s : State) : Placing s s.startTasks := by
  unfold State.startTasks
  extract_lets now ex s1
  have hex : Placing s s1 := ⟨rfl, rfl, rfl, rfl, fun _ _ => rfl⟩
  exact hex.trans (Placing.releaseAll s1 _ _)

/-- Placement empties every channel (R107), and past that leaves all of this as it was. -/
theorem State.place_placing (s : State) (img : List Byte) (hs : List TaskHdr) (crc : Nat) : Placing s.clearTasks (s.place img hs crc) := by
  unfold State.place
  extract_lets s0
  split
  · exact (s0.showEngs_placing []).trans (State.placeStatus_placing _ _ _ _)
  · exact ((s0.applyPlan_placing _ _ _).trans (State.recordInitial_placing _ _ _)).trans (State.startTasks_placing _)

/-! ### The switch to another image (R438) -/

/-- DMA channels 8 to 15 are disabled. -/
def State.tasksDmaOff (s : State) : State := (List.range 8).foldl (fun s k => s.fset (DMAn_CTRL_ENABLE (8 + k)) 0) s

theorem State.fget_ctrlEnable_cleared (s : State) (j k : Nat) :
    ((s.fset (DMAn_CTRL_ENABLE (8 + j)) 0).fget (DMAn_CTRL_ENABLE (8 + k))) = if k = j then 0 else s.fget (DMAn_CTRL_ENABLE (8 + k)) := by
  split
  · next h => rw [h, State.fget_fset, Nat.zero_mod]
  · next h =>
    refine State.fget_fset_ne _ _ _ _ ?_
    simp only [Fld.key, DMAn_CTRL_ENABLE]
    omega

/-- A channel that was disabled on the way stays so. -/
theorem State.tasksDmaOff_enable (s : State) {k : Nat} (hk : k < 8) : s.tasksDmaOff.fget (DMAn_CTRL_ENABLE (8 + k)) = 0 := by
  have hoff : ∀ (l : List Nat) (s : State), k ∈ l ∨ s.fget (DMAn_CTRL_ENABLE (8 + k)) = 0 →
      (l.foldl (fun s k => s.fset (DMAn_CTRL_ENABLE (8 + k)) 0) s).fget (DMAn_CTRL_ENABLE (8 + k)) = 0 := by
    intro l
    induction l with
    | nil => exact fun s h => h.resolve_left (List.not_mem_nil)
    | cons j l ih =>
      refine fun s h => ih _ ?_
      rw [State.fget_ctrlEnable_cleared]
      simp only [List.mem_cons] at h
      split
      · exact .inr rfl
      · next hkj => exact h.imp (fun h => h.resolve_left hkj) id
  exact hoff _ s (.inl (List.mem_range.mpr hk))

/-- What the switch to the image of slot `b` does to the registers and the channels, and what it leaves alone. -/
structure Switched (b : Bool) (s u : State) : Prop where
  upd : u.upd = s.upd
  led : u.led = s.led
  jrn : u.jrn = s.jrn
  chans : u.ex.chans = []
  runSlot : u.bit UPD_STATUS_RUN_SLOT = b
  dmaOff : ∀ k, k < 8 → u.bit (DMAn_CTRL_ENABLE (8 + k)) = false
  head : u.fget HIF_CMD_HEAD_CMD_HEAD = s.fget HIF_CMD_HEAD_CMD_HEAD

/-- A field of no channel's ENABLE holds what it held. -/
theorem State.tasksDmaOff_only (s : State) : sansFields s.tasksDmaOff = sansFields s
    ∧ ∀ f : Fld, (∀ k, k < 8 → f.key ≠ (DMAn_CTRL_ENABLE (8 + k)).key) → s.tasksDmaOff.fget f = s.fget f := by
  refine List.foldlRecOn (motive := fun u => sansFields u = sansFields s
    ∧ ∀ f : Fld, (∀ k, k < 8 → f.key ≠ (DMAn_CTRL_ENABLE (8 + k)).key) → u.fget f = s.fget f) _ _ ⟨rfl, fun _ _ => rfl⟩
    (fun u hu k hk => ?_)
  exact ⟨hu.1, fun f hf => (u.fget_fset_ne _ f 0 (hf k (List.mem_range.mp hk))).trans (hu.2 f hf)⟩

/-- The registers of the switch to slot `b`. -/
def State.switchRegs (s : State) (b : Bool) : State := s.tasksDmaOff.fset UPD_STATUS_RUN_SLOT (if b then 1 else 0)

theorem State.switchRegs_runSlot (s : State) (b : Bool) : (s.switchRegs b).bit UPD_STATUS_RUN_SLOT = b := by
  unfold State.bit State.switchRegs
  rw [State.fget_fset]
  cases b <;> rfl

theorem State.switchRegs_enable (s : State) (b : Bool) {k : Nat} (hk : k < 8) : (s.switchRegs b).bit (DMAn_CTRL_ENABLE (8 + k)) = false := by
  have hne : (DMAn_CTRL_ENABLE (8 + k)).key ≠ UPD_STATUS_RUN_SLOT.key := by simp only [Fld.key, DMAn_CTRL_ENABLE, UPD_STATUS_RUN_SLOT]; omega
  unfold State.bit State.switchRegs
  rw [State.fget_fset_ne _ _ _ _ hne, s.tasksDmaOff_enable hk]
  rfl

theorem State.switchRegs_cmdHead (s : State) (b : Bool) : (s.switchRegs b).fget HIF_CMD_HEAD_CMD_HEAD = s.fget HIF_CMD_HEAD_CMD_HEAD := by
  refine (State.fget_fset_ne _ _ _ _ (by decide)).trans (s.tasksDmaOff_only.2 _ (fun k hk => ?_))
  simp only [Fld.key, DMAn_CTRL_ENABLE, HIF_CMD_HEAD_CMD_HEAD]
  omega

theorem State.switchTo_eq (s : State) (b : Bool) : ∃ d, s.switchTo b = ((s.switchRegs b).record 0x16 0 d).placeImage := by
  unfold State.switchTo State.switchRegs State.tasksDmaOff
  exact ⟨_, rfl⟩

theorem State.placeImage_placing (s : State) : Placing s.clearTasks s.placeImage := by
  unfold State.placeImage
  exact s.place_placing _ _ _

theorem not_placeKey_enable {k : Nat} (hk : k < 8) : ¬ placeKey (DMAn_CTRL_ENABLE (8 + k)).key := by
  have hkey : (DMAn_CTRL_ENABLE (8 + k)).key = (0x2000070100 + 0x20 * (8 + k)) * 32 := rfl
  rw [hkey]
  rintro (h | h)
  · omega
  · simp only [reportFields, List.map_cons, List.map_nil, List.mem_cons, List.not_mem_nil, or_false, Fld.key, HIF_EVT_TAIL_EVT_TAIL,
      HIF_STATUS_EVT_OVERFLOW, HIF_STATUS_RESYNC_PENDING, PLC_STATUS_OVERRUN] at h
    omega

theorem not_placeKey_runSlot : ¬ placeKey UPD_STATUS_RUN_SLOT.key := by unfold placeKey; decide

theorem not_placeKey_cmdHead : ¬ placeKey HIF_CMD_HEAD_CMD_HEAD.key := by unfold placeKey; decide

theorem State.switchTo_switched (s : State) (b : Bool) : Switched b s (s.switchTo b) := by
  obtain ⟨d, hto⟩ := s.switchTo_eq b
  rw [hto]
  have honly : sansFields (s.switchRegs b) = sansFields s := s.tasksDmaOff_only.1
  have hrec : Frame viewReport [] (s.switchRegs b) ((s.switchRegs b).record 0x16 0 d) := State.record_frame _ _ _ _ _
  have hplace := ((s.switchRegs b).record 0x16 0 d).placeImage_placing
  have hfld : ∀ f : Fld, ¬ placeKey f.key → ((s.switchRegs b).record 0x16 0 d).placeImage.fget f = (s.switchRegs b).fget f := fun f hf =>
    (hplace.fields f hf).trans (hrec.fields f List.not_mem_nil)
  refine ⟨?_, ?_, ?_, hplace.chans, ?_, fun k hk => ?_, ?_⟩
  · exact hplace.upd.trans (hrec.upd.trans (congrArg State.upd honly :))
  · exact hplace.led.trans (hrec.led.trans (congrArg State.led honly :))
  · exact hplace.jrn.trans (hrec.jrn.trans (congrArg State.jrn honly :))
  · exact (State.bit_congr (hfld _ not_placeKey_runSlot)).trans (s.switchRegs_runSlot b)
  · exact (State.bit_congr (hfld _ (not_placeKey_enable hk))).trans (s.switchRegs_enable b hk)
  · exact (hfld _ not_placeKey_cmdHead).trans (s.switchRegs_cmdHead b)

/-! ### The refusals of R437 -/

/-- A detail of a refusal, 0 where the command is not refused. -/
def refusal (d : Nat) : Option Nat := if d = 0 then none else some d

theorem refusal_ite {c : Prop} [Decidable c] {d : Nat} (hd : d ≠ 0) (e : Nat) : refusal (if c then d else e) = if c then some d else refusal e := by
  split
  · exact if_neg hd
  · rfl

theorem State.noBackup_iff (s : State) : s.noBackup = true ↔ s.bit SYS_STATUS_BACKUP_OK = false :=
  iff_of_eq (Bool.not_eq_true' _)

section
variable (s : State)

/-- The details with which the four update commands are refused, the lowest that applies. -/
def State.stageDetail : Nat :=
  if s.bit SYS_STATUS_BACKUP_OK = false then 2 else if s.upd.lock then 3 else if (s.slot s.runSlot).st = 2 then 9 else 0
def State.activateDetail : Nat :=
  if s.motion then 1 else if s.bit SYS_STATUS_BACKUP_OK = false then 2 else if s.upd.lock then 3 else if (s.slot (!s.runSlot)).st ≠ 1 then 4
  else if s.planErr (s.slot (!s.runSlot)).image ≠ none then 6 else 0
def State.confirmDetail : Nat := if (s.slot s.runSlot).st ≠ 2 then 5 else 0
def State.revertDetail : Nat :=
  if s.motion then 1 else if s.bit SYS_STATUS_BACKUP_OK = false then 2 else if s.upd.lock then 3 else if (s.slot s.runSlot).st ≠ 2 then 5
  else if s.planErr (s.slot (!s.runSlot)).image ≠ none then 6 else 0

theorem State.stageRefused_eq : s.stageRefused = refusal s.stageDetail := by
  simp only [State.stageRefused, State.stageDetail, s.noBackup_iff, refusal_ite (d := 2) (by decide), refusal_ite (d := 3) (by decide),
    refusal_ite (d := 9) (by decide)]
  rfl

theorem State.activateRefused_eq : s.activateRefused = refusal s.activateDetail := by
  simp only [State.activateRefused, State.activateDetail, s.noBackup_iff, Option.isSome_iff_ne_none, refusal_ite (d := 1) (by decide),
    refusal_ite (d := 2) (by decide), refusal_ite (d := 3) (by decide), refusal_ite (d := 4) (by decide), refusal_ite (d := 6) (by decide)]
  rfl

theorem State.confirmRefused_eq : s.confirmRefused = refusal s.confirmDetail := by
  rw [State.confirmDetail, refusal_ite (by decide)]
  rfl

theorem State.revertRefused_eq : s.revertRefused = refusal s.revertDetail := by
  simp only [State.revertRefused, State.revertDetail, s.noBackup_iff, Option.isSome_iff_ne_none, refusal_ite (d := 1) (by decide),
    refusal_ite (d := 2) (by decide), refusal_ite (d := 3) (by decide), refusal_ite (d := 5) (by decide), refusal_ite (d := 6) (by decide)]
  rfl

theorem State.planErr_congr {u : State} (h : u.units = s.units) (img : List Byte) : u.planErr img = s.planErr img := by
  have hok : u.engineOk = s.engineOk := by
    unfold State.engineOk State.unitOk
    rw [h]
  unfold State.planErr
  rw [hok]

/-! A refusal reads nothing that the record of the command writes (R445). -/

theorem State.runSlot_recCmd : s.recCmd.runSlot = s.runSlot := s.recCmd_bit _

theorem State.upd_recCmd : s.recCmd.upd = s.upd := (s.recCmd_frame []).upd

theorem State.slot_recCmd (b : Bool) : s.recCmd.slot b = s.slot b := State.slot_congr s.upd_recCmd b

theorem State.planErr_recCmd (img : List Byte) : s.recCmd.planErr img = s.planErr img := s.planErr_congr (by rw [s.recCmd_eq]) img

theorem State.motion_recCmd : s.recCmd.motion = s.motion := by rw [s.recCmd_eq]; rfl

theorem State.noBackup_recCmd : s.recCmd.noBackup = s.noBackup := congrArg not (s.recCmd_bit _)

theorem State.stageRefused_recCmd : s.recCmd.stageRefused = s.stageRefused := by
  simp only [State.stageRefused, s.noBackup_recCmd, s.upd_recCmd, s.runSlot_recCmd, s.slot_recCmd]

theorem State.activateRefused_recCmd : s.recCmd.activateRefused = s.activateRefused := by
  simp only [State.activateRefused, s.motion_recCmd, s.noBackup_recCmd, s.upd_recCmd, s.runSlot_recCmd, s.slot_recCmd, s.planErr_recCmd]

theorem State.confirmRefused_recCmd : s.recCmd.confirmRefused = s.confirmRefused := by
  simp only [State.confirmRefused, s.runSlot_recCmd, s.slot_recCmd]

theorem State.revertRefused_recCmd : s.recCmd.revertRefused = s.revertRefused := by
  simp only [State.revertRefused, s.motion_recCmd, s.noBackup_recCmd, s.upd_recCmd, s.runSlot_recCmd, s.slot_recCmd, s.planErr_recCmd]

end

/-! ### From the entry to the answer (R124, R437) -/

section
variable {s : State} {h : CmdHead} {op d : Nat} {refused : State → Option Nat} {k : State → CmdResult}

theorem updCmd_refused (hok : cmdOk h = true) (hr : refused s.recCmd = some d) : updCmd op h refused k s = s.recCmd.cmdDone h op 15 d [] := by
  unfold updCmd
  dsimp only
  rw [hok, hr]
  rfl

theorem updCmd_run (hok : cmdOk h = true) (he : s.upd.erasing = false) (hr : refused s.recCmd = none) :
    updCmd op h refused k s = (k s.recCmd).1.cmdDone h op (k s.recCmd).2.1 (k s.recCmd).2.2 [] := by
  unfold updCmd
  dsimp only
  rw [hok, hr, he]
  rfl

/-- An update command that has no step that can fail. -/
theorem updCmd_done {f : State → State} (hok : cmdOk h = true) (he : s.upd.erasing = false) (hr : refused s.recCmd = none) :
    updCmd op h refused (fun t => (f t, 0, 0)) s = (f s.recCmd).cmdDone h op 0 0 [] := updCmd_run hok he hr

theorem updRun_of_hostCmd (hc : hostCmd s op h) : updRun op h refused k s = updCmd op h refused k s := by
  have hi : (s.cmdAt op anyFlags && s.cmdIs h []) = true := hostCmd_entry hc rfl rfl
  unfold updRun
  rw [if_neg (by rw [hi]; decide), if_neg (by rw [hostCmd_run hc]; decide)]

theorem exec_updateStage {s : State} {h : CmdHead} (hc : hostCmd s 0x0010 h) (err : Bool) (img : List Byte) :
    exec (.updateStage h (s.cmdNum 8 8) (s.cmdNum 16 4) (s.cmdNum 20 16) err img) s
      = .next (updCmd 0x0010 h State.stageRefused (fun t => t.stageImage (s.cmdNum 16 4) (err || !s.hostReach) img) s) := by
  have hi : (s.cmdAt 0x0010 anyFlags && s.cmdIs h [(8, 8, s.cmdNum 8 8), (16, 4, s.cmdNum 16 4), (20, 16, s.cmdNum 20 16)]) = true :=
    hostCmd_entry hc rfl (by simp)
  show execUpdateStage _ _ _ _ _ _ _ = _
  unfold execUpdateStage
  dsimp only
  rw [if_neg (by rw [hi]; decide), if_neg (by rw [hostCmd_run hc]; decide)]

theorem exec_updateActivate {s : State} {h : CmdHead} (hc : hostCmd s 0x0011 h) :
    exec (.updateActivate h) s = .next (updCmd 0x0011 h State.activateRefused (fun t => (t.activate, 0, 0)) s) := by
  have hi : (s.cmdAt 0x0011 anyFlags && s.cmdIs h []) = true := hostCmd_entry hc rfl rfl
  show execUpdateActivate _ _ = _
  unfold execUpdateActivate
  rw [if_neg (by rw [hi]; decide), if_neg (by rw [hostCmd_run hc]; decide)]

theorem exec_updateConfirm {s : State} {h : CmdHead} (hc : hostCmd s 0x0012 h) :
    exec (.updateConfirm h) s = .next (updCmd 0x0012 h State.confirmRefused (fun t => (t.confirm, 0, 0)) s) :=
  congrArg Host.Outcome.next (updRun_of_hostCmd hc)

theorem exec_updateRevert {s : State} {h : CmdHead} (hc : hostCmd s 0x0013 h) :
    exec (.updateRevert h) s = .next (updCmd 0x0013 h State.revertRefused (fun t => (t.revert, 0, 0)) s) :=
  congrArg Host.Outcome.next (updRun_of_hostCmd hc)

/-- A refused update command is answered with its detail, and changes nothing of what it would update. -/
theorem updCmd_refused_answered (hok : cmdOk h = true) (hr : refused s.recCmd = refusal d) (hd : d ≠ 0) :
    Runs (.next (updCmd op h refused k s)) (fun u => Answered s u h.tag op 15 d [] ∧ u.upd = s.upd ∧ u.ex = s.ex ∧ u.led = s.led
      ∧ u.jrn = s.jrn) := by
  refine ⟨_, rfl, ?_⟩
  rw [updCmd_refused hok (hr.trans (if_neg hd))]
  have hf : Frame viewReport doneFields s (s.recCmd.cmdDone h op 15 d []) := (s.recCmd_frame _).trans (s.recCmd.cmdDone_frame h op 15 d [])
  exact ⟨State.cmdDone_answered (s.recCmd_fget _) h op 15 d [], hf.upd, (State.cmdDone_ex _ _ _ _ _ _).trans s.recCmd_ex, hf.led, hf.jrn⟩

end

/-! ### What a command that is run leaves alone (R435 to R439) -/

/-- Only the slot table and the settings have changed. -/
def onlyUpd (s u : State) : Prop := u = { s with upd := u.upd }

theorem onlyUpd.trans {s t u : State} (h : onlyUpd s t) (k : onlyUpd t u) : onlyUpd s u :=
  Eq.trans k (congrArg (fun x : State => { x with upd := u.upd }) h)

section
variable (s : State) (b : Bool)

theorem State.setSlot_onlyUpd (x : Slot) : onlyUpd s (s.setSlot b x) := rfl

theorem State.tableChange_onlyUpd (f : UpdSt → UpdSt) : onlyUpd s (s.tableChange f) := rfl

theorem State.slotErase_onlyUpd : onlyUpd s (s.slotErase b) := s.tableChange_onlyUpd _

theorem State.bindCopy_onlyUpd (schema : Nat) (es : List (Nat × Nat)) : onlyUpd s (s.bindCopy b schema es) := by unfold State.bindCopy; rfl

theorem State.releaseCopy_onlyUpd : onlyUpd s (s.releaseCopy b) := by
  unfold State.releaseCopy
  split <;> rfl

/-- The slot table names slot `b`'s new image, whose settings have been copied, as STAGED. -/
def State.stagedAs (x : Slot) (schema : Nat) (es : List (Nat × Nat)) : State :=
  (((s.setSlot b x).bindCopy b schema es).tableChange id).setSlot b { ((s.setSlot b x).bindCopy b schema es).slot b with st := 1 }

theorem State.stagedAs_onlyUpd (x : Slot) (schema : Nat) (es : List (Nat × Nat)) : onlyUpd s (s.stagedAs b x schema es) :=
  (((s.setSlot_onlyUpd b x).trans (State.bindCopy_onlyUpd _ b schema es)).trans (State.tableChange_onlyUpd _ id)).trans
    (State.setSlot_onlyUpd _ b _)

theorem State.slot_stagedAs (c : Bool) (x : Slot) (schema : Nat) (es : List (Nat × Nat)) : (s.stagedAs b x schema es).slot c
    = if c = b then { x with area := some (s.setSlot b x).freeArea, st := 1 } else s.slot c := by cases b <;> cases c <;> rfl

theorem State.confirm_onlyUpd : onlyUpd s s.confirm :=
  (((s.tableChange_onlyUpd id).trans (State.setSlot_onlyUpd _ _ _)).trans (State.setSlot_onlyUpd _ _ _)).trans (State.releaseCopy_onlyUpd _ _)

end

section
variable {s r u : State} {h : CmdHead} {op st d : Nat}

/-- The end of a command that changed the slot table and the settings alone. -/
theorem onlyUpd.done (hr : onlyUpd s.recCmd r) (hu : u = r.cmdDone h op st d []) : Answered s u h.tag op st d [] ∧ u.ex = s.ex ∧ u.led = s.led
    ∧ u.jrn = s.jrn ∧ (∀ c, u.slot c = r.slot c) ∧ u.bit UPD_STATUS_RUN_SLOT = s.runSlot := by
  have hfld : ∀ f, r.fget f = s.fget f := fun f => (congrArg (fun x : State => x.fget f) hr).trans (s.recCmd_fget f)
  have hd := r.cmdDone_frame h op st d []
  rw [hu]
  refine ⟨State.cmdDone_answered (hfld _) h op st d [], (r.cmdDone_ex _ _ _ _ _).trans ((congrArg State.ex hr).trans s.recCmd_ex),
    hd.led.trans ((congrArg State.led hr).trans s.recCmd_led), hd.jrn.trans ((congrArg State.jrn hr).trans s.recCmd_jrn),
    State.slot_congr hd.upd, State.bit_congr ((hd.fields _ (by decide)).trans (hfld _))⟩

/-- The end of a command that changed to the image of slot `b`. -/
theorem Switched.done {t : State} {b : Bool} (ht : onlyUpd s.recCmd t) (hs : Switched b t r) (hu : u = r.cmdDone h op st d []) :
    Answered s u h.tag op st d [] ∧ u.led = s.led ∧ u.jrn = s.jrn ∧ u.upd = t.upd ∧ u.bit UPD_STATUS_RUN_SLOT = b ∧ u.ex.chans = []
      ∧ ∀ k, k < 8 → u.bit (DMAn_CTRL_ENABLE (8 + k)) = false := by
  have hd := r.cmdDone_frame h op st d []
  have hhead : r.fget HIF_CMD_HEAD_CMD_HEAD = s.fget HIF_CMD_HEAD_CMD_HEAD :=
    hs.head.trans ((congrArg (fun x : State => x.fget HIF_CMD_HEAD_CMD_HEAD) ht).trans (s.recCmd_fget _))
  have hoff : ∀ k, k < 8 → (DMAn_CTRL_ENABLE (8 + k)).key ∉ doneFields.map Fld.key := fun k hk hm => by
    simp only [doneFields, List.map_cons, List.map_nil, List.mem_cons, List.not_mem_nil, or_false, Fld.key, DMAn_CTRL_ENABLE,
      HIF_CMD_HEAD_CMD_HEAD, HIF_EVT_TAIL_EVT_TAIL] at hm
    omega
  rw [hu]
  exact ⟨State.cmdDone_answered hhead h op st d [], hd.led.trans (hs.led.trans ((congrArg State.led ht).trans s.recCmd_led)),
    hd.jrn.trans (hs.jrn.trans ((congrArg State.jrn ht).trans s.recCmd_jrn)), hd.upd.trans hs.upd,
    (State.bit_congr (hd.fields _ (by decide))).trans hs.runSlot, (congrArg Exine.chans (r.cmdDone_ex h op st d [])).trans hs.chans,
    fun k hk => (State.bit_congr (hd.fields _ (hoff k hk))).trans (hs.dmaOff k hk)⟩

end

/-! ### The slots after a command (R435, R438, R439) -/

section
variable (s : State)

/-- An image that fails a check leaves its slot empty. -/
theorem State.stageImage_bad {img : List Byte} {len d : Nat} (he : imageErr img len = some d) :
    s.stageImage len false img = (s.slotErase (!s.runSlot), 16, d) := by
  unfold State.stageImage
  rw [he]
  rfl

/-- An image that passes every check is STAGED. -/
theorem State.stageImage_good {img : List Byte} {len : Nat} (he : imageErr img len = none) (hmin : imgMin img ≤ s.runSchema)
    (hmax : s.runSchema ≤ imgSchema img) (hp : s.planErr (imgOnly img) = none) : ∃ es, s.stageImage len false img
      = ((s.slotErase (!s.runSlot)).stagedAs (!s.runSlot) ⟨0, imgVersion img, imgCrc img, imgSchema img, none, imgOnly img⟩
          (imgSchema img) es, 0, 0) := by
  have hplan : (s.slotErase (!s.runSlot)).planErr (imgOnly img) = none := (s.planErr_congr (u := s.slotErase _) rfl _).trans hp
  have hschema : ¬ (s.runSchema < imgMin img ∨ imgSchema img < s.runSchema) := by omega
  unfold State.stageImage
  simp only [he, if_neg hschema, hplan, Bool.false_eq_true, if_false]
  exact ⟨_, rfl⟩

theorem State.slot_confirm_run : (s.confirm.slot s.runSlot).st = 3 := by
  unfold State.confirm
  simp [State.slot_releaseCopy, State.slot_setSlot]

theorem State.slot_confirm_other : (s.confirm.slot (!s.runSlot)).st = (if (s.slot (!s.runSlot)).st = 0 then 0 else 4)
    ∧ (s.confirm.slot (!s.runSlot)).area = none := by
  unfold State.confirm
  simp [State.slot_releaseCopy, State.slot_setSlot, State.slot_tableChange_id]

/-- The slot table once the staged slot is TRIAL and BOOT. -/
def State.trialTable : State :=
  (s.tableChange (fun u => { u with boot := if !s.runSlot then 1 else 0 })).setSlot (!s.runSlot) { s.slot (!s.runSlot) with st := 2 }

theorem State.activate_switched : Switched (!s.runSlot) s.trialTable s.activate := State.switchTo_switched _ _

theorem State.trialTable_onlyUpd : onlyUpd s s.trialTable := rfl

theorem State.slot_trialTable (c : Bool) : s.trialTable.slot c = if c = !s.runSlot then { s.slot (!s.runSlot) with st := 2 } else s.slot c :=
  State.slot_setSlot _ _ c _

theorem State.setSlot_boot (b : Bool) (x : Slot) : (s.setSlot b x).upd.boot = s.upd.boot := by cases b <;> rfl

theorem State.releaseCopy_boot (b : Bool) : (s.releaseCopy b).upd.boot = s.upd.boot := by
  unfold State.releaseCopy
  split
  · exact State.setSlot_boot _ _ _
  · rfl

theorem State.trialTable_boot : s.trialTable.upd.boot = if s.runSlot then 0 else 1 := by
  refine (State.setSlot_boot _ _ _).trans ?_
  show (if (!s.runSlot) = true then 1 else 0) = _
  cases s.runSlot <;> rfl

/-- The slot table once the trial slot is empty and the other is BOOT. -/
def State.revertTable : State :=
  let s1 := (s.tableChange (fun u => { u with boot := if s.runSlot then 0 else 1 })).releaseCopy s.runSlot
  s1.setSlot s.runSlot { s1.slot s.runSlot with st := 0 }

theorem State.revert_switched : Switched (!s.runSlot) s.revertTable s.revert := State.switchTo_switched _ _

theorem State.revertTable_onlyUpd : onlyUpd s s.revertTable :=
  ((s.tableChange_onlyUpd _).trans (State.releaseCopy_onlyUpd _ _)).trans (State.setSlot_onlyUpd _ _ _)

theorem State.slot_revertTable_run : (s.revertTable.slot s.runSlot).st = 0 := by
  unfold State.revertTable
  simp [State.slot_setSlot]

theorem State.slot_revertTable_other : s.revertTable.slot (!s.runSlot) = s.slot (!s.runSlot) := by
  unfold State.revertTable
  simp [State.slot_setSlot, State.slot_releaseCopy, State.slot_tableChange_boot]

theorem State.revertTable_boot : s.revertTable.upd.boot = if s.runSlot then 0 else 1 :=
  (State.setSlot_boot _ _ _).trans (State.releaseCopy_boot _ _)

end

/-! ### UPDATE_STAGE, UPDATE_ACTIVATE, UPDATE_CONFIRM and UPDATE_REVERT -/

section
variable {s : State} {h : CmdHead}

/-- UPDATE_STAGE of an image that passes every check. -/
theorem stage_good (hok : cmdOk h = true) (he : s.upd.erasing = false) (hr : s.stageRefused = none) {img : List Byte} {len : Nat}
    (hi : imageErr img len = none) (hmin : imgMin img ≤ s.runSchema) (hmax : s.runSchema ≤ imgSchema img) (hp : s.planErr (imgOnly img) = none)
    {u : State} (hu : u = updCmd 0x0010 h State.stageRefused (fun t => t.stageImage len false img) s) :
    u.slot s.runSlot = s.slot s.runSlot ∧ u.ex = s.ex ∧ u.led = s.led ∧ u.jrn = s.jrn ∧ (u.slot (!s.runSlot)).st = 1
      ∧ (u.slot (!s.runSlot)).version = imgVersion img ∧ (u.slot (!s.runSlot)).image = imgOnly img ∧ Answered s u h.tag 0x0010 0 0 [] := by
  rw [updCmd_run hok he (s.stageRefused_recCmd.trans hr)] at hu
  have hschema : s.recCmd.runSchema = s.runSchema := by rw [State.runSchema, s.runSlot_recCmd, s.slot_recCmd]; rfl
  obtain ⟨es, hs⟩ := s.recCmd.stageImage_good hi (by rwa [hschema]) (by rwa [hschema]) ((s.planErr_recCmd _).trans hp)
  rw [hs, s.runSlot_recCmd] at hu
  obtain ⟨hans, hex, hled, hjrn, hslot, -⟩ := onlyUpd.done ((State.slotErase_onlyUpd _ _).trans (State.stagedAs_onlyUpd _ _ _ _ es)) hu
  refine ⟨?_, hex, hled, hjrn, ?_, ?_, ?_, hans⟩
  · rw [hslot, State.slot_stagedAs, State.slot_slotErase, s.slot_recCmd]; simp
  all_goals rw [hslot, State.slot_stagedAs, if_pos rfl]

/-- UPDATE_STAGE of an image that fails a check. -/
theorem stage_bad (hok : cmdOk h = true) (he : s.upd.erasing = false) (hr : s.stageRefused = none) {img : List Byte} {len d : Nat}
    (hi : imageErr img len = some d) {u : State} (hu : u = updCmd 0x0010 h State.stageRefused (fun t => t.stageImage len false img) s) :
    u.slot s.runSlot = s.slot s.runSlot ∧ u.ex = s.ex ∧ u.led = s.led ∧ u.jrn = s.jrn ∧ (u.slot (!s.runSlot)).st = 0
      ∧ Answered s u h.tag 0x0010 16 d [] := by
  rw [updCmd_run hok he (s.stageRefused_recCmd.trans hr), State.stageImage_bad _ hi, s.runSlot_recCmd] at hu
  obtain ⟨hans, hex, hled, hjrn, hslot, -⟩ := onlyUpd.done (State.slotErase_onlyUpd _ _) hu
  refine ⟨?_, hex, hled, hjrn, ?_, hans⟩
  · rw [hslot, State.slot_slotErase, s.slot_recCmd]; simp
  · rw [hslot, State.slot_slotErase, if_pos rfl]

/-- UPDATE_ACTIVATE of a staged slot. -/
theorem activate_done (hok : cmdOk h = true) (he : s.upd.erasing = false) (hr : s.activateRefused = none) {u : State}
    (hu : u = updCmd 0x0011 h State.activateRefused (fun t => (t.activate, 0, 0)) s) :
    (u.slot (!s.runSlot)).st = 2 ∧ u.upd.boot = (if s.runSlot then 0 else 1) ∧ u.bit UPD_STATUS_RUN_SLOT = (!s.runSlot)
      ∧ u.slot s.runSlot = s.slot s.runSlot ∧ u.ex.chans = [] ∧ (∀ k, k < 8 → u.bit (DMAn_CTRL_ENABLE (8 + k)) = false)
      ∧ Answered s u h.tag 0x0011 0 0 [] ∧ u.led = s.led ∧ u.jrn = s.jrn := by
  rw [updCmd_done hok he (s.activateRefused_recCmd.trans hr)] at hu
  obtain ⟨hans, hled, hjrn, hupd, hrun, hch, hoff⟩ := Switched.done s.recCmd.trialTable_onlyUpd s.recCmd.activate_switched hu
  rw [s.runSlot_recCmd] at hrun
  have hslot : ∀ c, u.slot c = if c = !s.runSlot then { s.slot (!s.runSlot) with st := 2 } else s.slot c := fun c => by
    rw [State.slot_congr hupd, State.slot_trialTable, s.runSlot_recCmd, s.slot_recCmd, s.slot_recCmd]
  refine ⟨?_, ?_, hrun, ?_, hch, hoff, hans, hled, hjrn⟩
  · rw [hslot, if_pos rfl]
  · rw [hupd, State.trialTable_boot, s.runSlot_recCmd]
  · rw [hslot]; simp

/-- UPDATE_CONFIRM of a trial slot. -/
theorem confirm_done (hok : cmdOk h = true) (he : s.upd.erasing = false) (hr : s.confirmRefused = none) {u : State}
    (hu : u = updCmd 0x0012 h State.confirmRefused (fun t => (t.confirm, 0, 0)) s) :
    (u.slot s.runSlot).st = 3 ∧ (u.slot (!s.runSlot)).st = (if (s.slot (!s.runSlot)).st = 0 then 0 else 4) ∧ (u.slot (!s.runSlot)).area = none
      ∧ u.bit UPD_STATUS_RUN_SLOT = s.runSlot ∧ Answered s u h.tag 0x0012 0 0 [] ∧ u.ex = s.ex ∧ u.led = s.led ∧ u.jrn = s.jrn := by
  rw [updCmd_done hok he (s.confirmRefused_recCmd.trans hr)] at hu
  obtain ⟨hans, hex, hled, hjrn, hslot, hrun⟩ := onlyUpd.done s.recCmd.confirm_onlyUpd hu
  have hmine := s.recCmd.slot_confirm_run
  obtain ⟨hst, harea⟩ := s.recCmd.slot_confirm_other
  rw [s.runSlot_recCmd] at hmine hst harea
  rw [s.slot_recCmd] at hst
  exact ⟨by rw [hslot, hmine], by rw [hslot, hst], by rw [hslot, harea], hrun, hans, hex, hled, hjrn⟩

/-- UPDATE_REVERT of a trial slot. -/
theorem revert_done (hok : cmdOk h = true) (he : s.upd.erasing = false) (hr : s.revertRefused = none) {u : State}
    (hu : u = updCmd 0x0013 h State.revertRefused (fun t => (t.revert, 0, 0)) s) :
    (u.slot s.runSlot).st = 0 ∧ u.upd.boot = (if s.runSlot then 0 else 1) ∧ u.bit UPD_STATUS_RUN_SLOT = (!s.runSlot)
      ∧ u.slot (!s.runSlot) = s.slot (!s.runSlot) ∧ u.ex.chans = [] ∧ Answered s u h.tag 0x0013 0 0 [] ∧ u.led = s.led ∧ u.jrn = s.jrn := by
  rw [updCmd_done hok he (s.revertRefused_recCmd.trans hr)] at hu
  obtain ⟨hans, hled, hjrn, hupd, hrun, hch, -⟩ := Switched.done s.recCmd.revertTable_onlyUpd s.recCmd.revert_switched hu
  have hmine := s.recCmd.slot_revertTable_run
  have hother := s.recCmd.slot_revertTable_other
  rw [s.runSlot_recCmd] at hrun hmine hother
  refine ⟨?_, ?_, hrun, ?_, hch, hans, hled, hjrn⟩
  · rw [State.slot_congr hupd, hmine]
  · rw [hupd, State.revertTable_boot, s.runSlot_recCmd]
  · rw [State.slot_congr hupd, hother, s.slot_recCmd]

end

/-! ### RECORD_EXPORT and unknown opcodes (R127, R449) -/

section
variable {s : State} {h : CmdHead}

theorem exec_recordExport (hc : hostCmd s 0x0020 h) : exec (.recordExport h (s.cmdNum 8 8) (s.cmdNum 16 4) (s.cmdNum 20 4) false) s
    = .next (s.recCmd.exportRec h (s.cmdNum 8 8) (s.cmdNum 16 4) (s.cmdNum 20 4) (!s.recCmd.hostReach)) :=
  congrArg Host.Outcome.next (runCmd_of_run (hostCmd_run hc) (hostCmd_entry hc rfl (by simp)) (by simp) _)

theorem exportRec_none {t : State} {addr len off : Nat} {bad : Bool} (hok : cmdOk h = true) (hf : t.recd.frozen = none) :
    t.exportRec h addr len off bad = t.cmdDone h 0x0020 15 7 [0] := by
  unfold State.exportRec
  rw [hok, hf]
  rfl

theorem exportRec_beyond {t : State} {addr len off : Nat} {bad : Bool} {r : Recording} (hok : cmdOk h = true) (hf : t.recd.frozen = some r)
    (ho : r.len ≤ off) : t.exportRec h addr len off bad = t.cmdDone h 0x0020 15 8 [0] := by
  unfold State.exportRec
  rw [hok, hf]
  exact if_pos ho

theorem exportRec_good {t : State} {addr len off : Nat} {r : Recording} (hok : cmdOk h = true) (hf : t.recd.frozen = some r)
    (ho : off < r.len) : t.exportRec h addr len off false
      = (t.post addr (((t.stream r).drop off).take (min len (r.len - off)))).cmdDone h 0x0020 0 0 [min len (r.len - off)] := by
  unfold State.exportRec
  rw [hok, hf]
  exact if_neg (Nat.not_le_of_lt ho)

/-- A refused RECORD_EXPORT posts nothing and keeps the recording. -/
theorem recordExport_refused (s : State) (h : CmdHead) (d : Nat) {u : State} (hu : u = s.recCmd.cmdDone h 0x0020 15 d [0]) :
    Answered s u h.tag 0x0020 15 d [0] ∧ u.host.posted = s.host.posted ∧ u.recd.frozen = s.recd.frozen ∧ u.led = s.led ∧ u.jrn = s.jrn
      ∧ onlyHost s u := by
  obtain ⟨hans, hled, hjrn, honly⟩ := s.answer_onlyHost h 0x0020 15 d [0]
  rw [hu]
  exact ⟨hans, (State.cmdDone_posted _ _ _ _ _ _).trans s.recCmd_posted, (congrArg _ (State.cmdDone_recd _ _ _ _ _ _)).trans s.recCmd_frozen,
    hled, hjrn, honly⟩

theorem exec_unknownCmd {op : Nat} (hc : hostCmd s op h) (hk : knownOp op = false) :
    exec (.unknownCmd h op) s = .next (s.recCmd.cmdDone h op (if cmdOk h then 17 else 12) 0 []) := by
  have hi : (s.cmdAt op anyFlags && !knownOp op && s.cmdIs h []) = true := by
    have := hostCmd_entry hc (which := anyFlags) rfl (args := []) rfl
    rw [hk]
    simpa using this
  exact congrArg Host.Outcome.next (runCmd_of_run (hostCmd_run hc) hi (by simp) _)

end

/-! ### The statement -/

section
variable {s : State} {h : CmdHead}

theorem cmdOk_of_parts (hf : h.flagsOk = true) (ha : h.argsOk = true) : cmdOk h = true := by unfold cmdOk; rw [hf, ha]; rfl

/-- A RECORD_EXPORT of a frozen recording, once its record of the command has been entered or none is kept. -/
theorem recordExport_done (hok : cmdOk h = true) {addr len off : Nat} {r : Recording} (hf : s.recd.frozen = some r) (ho : off < r.len) {u : State}
    (hu : u = s.exportRec h addr len off false) : Answered s u h.tag 0x0020 0 0 [min len (r.len - off)]
      ∧ u.host.posted = (addr, ((s.stream r).drop off).take (min len (r.len - off))) :: s.host.posted ∧ u.recd.frozen = s.recd.frozen
      ∧ u.led = s.led ∧ u.jrn = s.jrn ∧ onlyHost s u := by
  rw [hu, exportRec_good hok hf ho]
  generalize ((s.stream r).drop off).take (min len (r.len - off)) = bytes
  have hd : Frame viewReport doneFields s ((s.post addr bytes).cmdDone h 0x0020 0 0 [min len (r.len - off)]) :=
    (Frame.of_host rfl : Frame viewReport doneFields s (s.post addr bytes)).trans (State.cmdDone_frame _ _ _ _ _ _)
  have hhead : (s.post addr bytes).fget HIF_CMD_HEAD_CMD_HEAD = s.fget HIF_CMD_HEAD_CMD_HEAD := State.fget_of_fields rfl _
  exact ⟨State.cmdDone_answered hhead h 0x0020 0 0 _, State.cmdDone_posted _ _ _ _ _ _, congrArg _ (State.cmdDone_recd _ _ _ _ _ _), hd.led, hd.jrn,
    hd.ledger.onlyHost (by decide)⟩

end

/-- The refusals of the four update commands. -/
theorem update_refused (s : State) (h : CmdHead) (hok : cmdOk h = true) (d : Nat) (err : Bool) (img : List Byte) :
    ∀ c ∈ ([(Instr.updateStage h (s.cmdNum 8 8) (s.cmdNum 16 4) (s.cmdNum 20 16) err img, 0x0010, s.stageDetail),
        (.updateActivate h, 0x0011, s.activateDetail), (.updateConfirm h, 0x0012, s.confirmDetail), (.updateRevert h, 0x0013, s.revertDetail)] :
          List (Instr × Nat × Nat)), hostCmd s c.2.1 h → d = c.2.2 → d ≠ 0 → Runs (exec c.1 s) (fun u => Answered s u h.tag c.2.1 15 d []
            ∧ u.upd = s.upd ∧ u.ex = s.ex ∧ u.led = s.led ∧ u.jrn = s.jrn) := by
  simp only [List.forall_mem_cons, List.not_mem_nil, false_implies, implies_true, and_true]
  refine ⟨fun hc hd h0 => ?_, fun hc hd h0 => ?_, fun hc hd h0 => ?_, fun hc hd h0 => ?_⟩
  · rw [exec_updateStage hc]
    exact updCmd_refused_answered hok (s.stageRefused_recCmd.trans (by rw [hd, s.stageRefused_eq])) h0
  · rw [exec_updateActivate hc]
    exact updCmd_refused_answered hok (s.activateRefused_recCmd.trans (by rw [hd, s.activateRefused_eq])) h0
  · rw [exec_updateConfirm hc]
    exact updCmd_refused_answered hok (s.confirmRefused_recCmd.trans (by rw [hd, s.confirmRefused_eq])) h0
  · rw [exec_updateRevert hc]
    exact updCmd_refused_answered hok (s.revertRefused_recCmd.trans (by rw [hd, s.revertRefused_eq])) h0

theorem runs_of_next {c : Instr} {s v : State} {P : State → Prop} (he : exec c s = .next v) (h : ∀ u, u = v → P u) : Runs (exec c s) P :=
  ⟨v, he, h v rfl⟩

/-- Settles O28: an update command that is not refused is one change of the slot table, with the switch to the other image where it activates or
reverts, and the end of the command; RECORD_EXPORT posts from the frozen recording. -/
theorem updateAndExport : Obligations.UpdateAndExport := by
  refine ⟨fun s h b run other hf ha he hb hrun hother => ?_, fun s h addr len off haddr hlen hoff => ⟨fun hc hf ha => ?_, fun op hc hk => ?_⟩⟩
  · obtain rfl : b = s.runSlot := hb
    subst hrun hother
    have hok := cmdOk_of_parts hf ha
    refine ⟨fun addr len token img hc haddr hlen htok hreach hbk hlock hst hmin hmax hp => ?_, fun hc hm hbk hlock hst hp => ?_, fun hc hst => ?_,
      fun hc hm hbk hlock hst hp => ?_, fun d err img => update_refused s h hok d err img⟩
    · have hr : s.stageRefused = none := by rw [s.stageRefused_eq]; simp [State.stageDetail, hbk, hlock, hst, refusal]
      have hx := exec_updateStage hc false img
      rw [hreach] at hx
      rw [haddr, hlen, htok]
      refine runs_of_next hx (fun u hu => ?_)
      cases hi : imageErr img (s.cmdNum 16 4) with
      | none => exact stage_good hok he hr hi hmin hmax hp hu
      | some d => exact stage_bad hok he hr hi hu
    · have hr : s.activateRefused = none := by rw [s.activateRefused_eq]; simp [State.activateDetail, hm, hbk, hlock, hst, hp, refusal]
      exact runs_of_next (exec_updateActivate hc) (fun u hu => activate_done hok he hr hu)
    · have hr : s.confirmRefused = none := by rw [s.confirmRefused_eq]; simp [State.confirmDetail, hst, refusal]
      exact runs_of_next (exec_updateConfirm hc) (fun u hu => confirm_done hok he hr hu)
    · have hr : s.revertRefused = none := by rw [s.revertRefused_eq]; simp [State.revertDetail, hm, hbk, hlock, hst, hp, refusal]
      exact runs_of_next (exec_updateRevert hc) (fun u hu => revert_done hok he hr hu)
  · have hok := cmdOk_of_parts hf ha
    rw [haddr, hlen, hoff]
    have hx := exec_recordExport hc
    refine ⟨fun r hfr ho hreach hrec => runs_of_next hx (fun u hu => ?_), fun r hfr ho => runs_of_next hx (fun u hu => ?_),
      fun hfr => runs_of_next hx (fun u hu => ?_)⟩
    · rw [State.recCmd_of_not_recording hrec, hreach] at hu
      obtain ⟨hans, hpost, hrest⟩ := recordExport_done hok hfr ho hu
      exact ⟨hans, ⟨_, hpost, rfl⟩, hrest⟩
    · exact recordExport_refused s h 8 (hu.trans (exportRec_beyond hok (s.recCmd_frozen.trans hfr) ho))
    · obtain ⟨hans, hpost, hfrozen, hrest⟩ := recordExport_refused s h 7 (hu.trans (exportRec_none hok (s.recCmd_frozen.trans hfr)))
      exact ⟨hans, hpost, hfrozen.trans hfr, hrest⟩
  · have hcode : (if cmdOk h = true then 17 else 12) = if h.flagsOk = true ∧ h.argsOk = true then 17 else 12 := by
      unfold cmdOk
      simp only [Bool.and_eq_true]
    refine runs_of_next (exec_unknownCmd hc hk) (fun u hu => ?_)
    rw [hu, ← hcode]
    obtain ⟨hans, hled, hjrn, honly⟩ := s.answer_onlyHost h op (if cmdOk h = true then 17 else 12) 0 []
    exact ⟨hans, hled, hjrn, (State.cmdDone_ex _ _ _ _ _ _).trans s.recCmd_ex, honly⟩

end Sys2Proof.Machine
end
